-- ==== Sys2Proof/Word.lean ====
section
/-! DEFINITION. Word.lean: the word types of the GSX-9216 (R2: registers are 32 bits wide; R5: counters are 64 bits wide). -/
namespace Sys2Proof

/-- One octet of a frame or of a memory. -/
abbrev Byte := BitVec 8

/-- A register word (R2). -/
abbrev Word := BitVec 32

/-- A counter (R5). -/
abbrev DWord := BitVec 64

/-- The octets of a frame from its destination address on, WITHOUT the four FCS octets (assumption 2). -/
abbrev Bytes := List Byte

end Sys2Proof
end

