-- ==== Sys2Proof/Syntax.lean ====
section
/-! DEFINITION. Syntax.lean: the commands of the GSX-9216, one constructor per row of spec/opcode_table.json, with the row's
operands (what comes from outside the block: who accesses, which port or channel, the bytes that arrive, the outcome of a
check whose inputs lie outside the block), and the small types those operands use. -/
namespace Sys2Proof

/-- The six agents that access registers (R394), each with holding registers of its own. -/
inductive Initiator where
  | host | hart0 | hart1 | sec | peer | jtag
  deriving DecidableEq, Repr

/-- One fabric plane (R160). -/
inductive Plane where
  | A | B
  deriving DecidableEq, Repr

/-- A scheduler fault that one cell time may bring to a plane (R170): none, a comparison fault with the first differing
phase and output, or an uncorrectable error in the plane's memories. -/
inductive CrsFault where
  | none
  | compare (phase : Fin 6) (port : Fin 16)
  | memory (port : Fin 16)
  deriving DecidableEq, Repr

/-- What a memory read shows when an operand says so (the condition of the cell array comes from outside the model). -/
inductive EccState where
  | ok | corrected | uncorrectable
  deriving DecidableEq, Repr

/-- A CAN message (R205, R206): IDE, identifier, RTR, FDF, BRS, ESI and its data bytes. -/
structure CanMsg where
  ide  : Bool
  id   : BitVec 29
  rtr  : Bool
  fdf  : Bool
  brs  : Bool
  esi  : Bool
  data : Bytes
  deriving DecidableEq, Repr

/-- What a received Towpath frame's header gives (R297): the path it came by (the network path or the twin link), SEQ, CYCLE and
CLAIM. -/
structure TwHead where
  net   : Bool
  seq   : Word
  cycle : Word
  claim : BitVec 16
  deriving DecidableEq, Repr

/-- What a core's own execution has left in its registers, as it shows at a debug action: the program counter, the privilege mode (user
or machine), and the general registers and CSRs that changed (R313; programs are outside the block). -/
structure CoreRegs where
  pc   : Word
  user : Bool
  gprs : List (Fin 32 × Word)
  csrs : List (BitVec 12 × Word)
  deriving DecidableEq, Repr

/-- What the host sets in the function's configuration space (R316): BAR0, BAR2, the completion timeout value of Device Control 2 (ranges A
and B), and the power state D0. -/
structure PcieCfg where
  bar0 : BitVec 64
  bar2 : BitVec 64
  cto  : BitVec 4
  d0   : Bool
  deriving DecidableEq, Repr

/-- One output of a copy that the checker compares (R305): a general register write, a CSR write, or a bus request with its address,
write data, byte enables, size, direction and privilege. -/
inductive CoreItem where
  | gpr (n : Fin 32) (v : Word)
  | csr (a : BitVec 12) (v : Word)
  | bus (addr data : Word) (be : BitVec 4) (size : Nat) (write machine : Bool)
  deriving DecidableEq, Repr

/-- What takes the PCIe function down (R317): a Function Level Reset, a hot reset, a transition to D3hot, or loss of the link. -/
inductive PcieCause where
  | flr | hotReset | d3hot | linkLost
  deriving DecidableEq, Repr

/-- The commands: one constructor per row of spec/opcode_table.json. `ini` is the agent that makes a bus access. -/
inductive Instr where
  -- register access (chapters 00, 20)
  | registerWrite (ini : Initiator) (addr : BitVec 25) (size : Nat) (value : Word)
  | eventClear (ini : Initiator) (addr : BitVec 25) (value : Word)
  | counterLowRead (ini : Initiator) (addr : BitVec 25)
  | holdingLowRead (ini : Initiator) (addr : BitVec 25)
  -- network time (chapter 02)
  | timeTick
  | alignmentComplete
  | trackerTimeout (d : Fin 2)
  | revertDelayExpiry
  | holdoverLimitExpiry
  | wtIncrWrite (ini : Initiator) (value : Word)
  | wtAdjWrite (ini : Initiator) (value : Word)
  | wtSet (ini : Initiator)
  | wtStep (ini : Initiator)
  | wtSnap (ini : Initiator)
  | domOffAdjWrite (ini : Initiator) (d : Fin 2) (value : Word)
  | domRateAdjWrite (ini : Initiator) (d : Fin 2) (value : Word)
  | domSetHiWrite (ini : Initiator) (d : Fin 2) (value : Word)
  | syncReceive (d : Fin 2) (port : Fin 14) (frame : Bytes) (t2 : Nat)
  | followUpReceive (d : Fin 2) (port : Fin 14) (frame : Bytes)
  | syncRecRead (ini : Initiator) (d : Fin 2)
  | lttInfoRead (ini : Initiator) (port : Fin 14) (rec : Fin 3)
  -- timing pins (chapter 03)
  | pinModeWrite (ini : Initiator) (pin : Fin 16) (value : Word)
  | pinArm (ini : Initiator) (pin : Fin 16)
  | pinStop (ini : Initiator) (pin : Fin 16)
  | pinRelease (ini : Initiator) (pin : Fin 16)
  | pulseLeadingEdge (pin : Fin 16)
  | pulseTrailingEdge (pin : Fin 16)
  | pairedEnableChange (pin : Fin 16)
  | inputEdge (pin : Fin 16) (high : Bool) (phase : Fin 8)
  | edgeFilterExpiry (pin : Fin 16)
  | inputStuckTimeout (pin : Fin 16)
  | capSecHiRead (ini : Initiator) (pin : Fin 16)
  | evtHoldExpiry (pin : Fin 16)
  | markerEnableWrite (ini : Initiator) (value : Word)
  | markerInstant
  -- Ethernet ports (chapter 04)
  | pcsCfgWrite (ini : Initiator) (port : Fin 14) (value : Word)
  | autonegWordReceived (port : Fin 14) (speed : BitVec 3) (half : Bool)
  | pcsLockGained (port : Fin 14)
  | linkUp (port : Fin 14)
  | linkDown (port : Fin 14)
  | fecCodewordReceived (port : Fin 14) (uncorrectable : Bool)
  | frameRxStart (port : Fin 14) (phase : Fin 8) (head : Bytes)
  | frameRxEnd (port : Fin 14) (rest : Bytes) (fcsOk pcsOk : Bool)
  | pfcReceived (port : Fin 14) (enable : BitVec 8) (times : List (BitVec 16))
  | pauseReceived (port : Fin 14) (time : BitVec 16)
  | pfcPauseExpiry (port : Fin 14) (tc : Fin 8)
  | ctThreshWrite (ini : Initiator) (port : Fin 14) (value : Word)
  | txStart (port : Fin 16) (desc : BitVec 128)
  | txEnd (port : Fin 16) (record : EccState)
  | underrun (port : Fin 16)
  | verifyTimerExpiry (port : Fin 14)
  | verifyMpacketReceived (port : Fin 14)
  | respondMpacketReceived (port : Fin 14)
  | preemption (port : Fin 14)
  | fragmentReceived (port : Fin 14) (phase : Fin 8) (data : Bytes) (count : Fin 4) (initial final crcOk pcsOk : Bool)
  | lpiEnter (port : Fin 14)
  | lpiExit (port : Fin 14)
  | pfcXon (port : Fin 14) (tc : Fin 8)
  | pfcRefreshExpiry (port : Fin 14) (tc : Fin 8)
  | pfcFrameSend (port : Fin 14)
  -- Sluice (chapter 05)
  | sluiceResolve (fid : Nat) (bad : Option (Fin 4))
  | versionOpen (ini : Initiator)
  | openSweepDone
  | versionCommitNow (ini : Initiator)
  | versionCommitAt (ini : Initiator) (link : Bool)
  | versionCancel (ini : Initiator)
  | versionAbandon (ini : Initiator)
  | commitFire
  | versionRetire (v : Fin 8)
  | ruleSweepDone
  | slcTblRead (ini : Initiator) (cmd : Word) (ecc : EccState)
  | slcTblWrite (ini : Initiator) (cmd : Word)
  | slcTblHash (ini : Initiator) (cmd : Word)
  | slcTblMove (ini : Initiator) (cmd : Word)
  | slcTblLookup (ini : Initiator) (cmd : Word)
  -- stream contexts (chapter 06)
  | streamStages (fid : Nat) (bad : Option (Fin 5))
  | meterRefill
  | recoveryTimeout (f : Fin 1024)
  | strTblRead (ini : Initiator) (cmd : Word) (ecc : EccState)
  | strTblWrite (ini : Initiator) (cmd : Word)
  | clearLatch (ini : Initiator) (cmd : Word)
  | fill (ini : Initiator) (cmd : Word)
  | recReset (ini : Initiator) (cmd : Word)
  | strEvqRead (ini : Initiator)
  -- Basin (chapter 07)
  | bufferAllocate (slice : Fin 16) (fids : List Nat) (core : List (Bool × Bytes))
  | losslessWaitExpiry (port : Fin 14)
  | relCmd (ini : Initiator) (value : Word)
  | ageScan
  | bufSelWrite (ini : Initiator) (value : Word)
  | voqSelWrite (ini : Initiator) (value : Word)
  -- Carousel and Turnstile (chapter 08)
  | cellTime (faultA faultB : CrsFault) (reads : List (Fin 16 × EccState)) (record : Option (Fin 16 × BitVec 24))
  | cellArrival (inp out : Fin 16) (express : Bool) (seq : BitVec 16) (idx : Fin 152) (flips : BitVec 192) (ecc : EccState)
  | cellMissingTimeout (inp out : Fin 16) (express : Bool) (seq : BitVec 16) (idx : Fin 152)
  | planeRemoveCmd (ini : Initiator) (plane : Plane)
  | planeRestoreCmd (ini : Initiator) (plane : Plane)
  | planeSelfCheckDone (plane : Plane) (pass : Bool)
  | ptrSelWrite (ini : Initiator) (value : Word)
  | tsSelWrite (ini : Initiator) (value : Word)
  | crsTblRead (ini : Initiator) (cmd : Word) (ecc : EccState)
  | crsTblWrite (ini : Initiator) (cmd : Word)
  -- Lockkeeper (chapter 09)
  | gateEntryStart (port : Fin 16) (ecc : EccState)
  | holdAssert (port : Fin 16)
  | gateChangeArm (ini : Initiator) (mask : BitVec 16) (link : Bool)
  | gateChangeCancel (ini : Initiator)
  | gateChangeFire
  | shaperRefill
  | lkpTblRead (ini : Initiator) (cmd : Word) (ecc : EccState)
  | lkpTblWrite (ini : Initiator) (cmd : Word)
  -- CAN and the gateway (chapter 10)
  | canModeWrite (ini : Initiator) (ch : Fin 16) (value : Word) (rx : Bool)
  | canIntegrated (ch : Fin 16)
  | canMsgReceived (ch : Fin 16) (msg : CanMsg) (sof : Nat)
  | canProtocolException (ch : Fin 16)
  | canErrorFrame (ch : Fin 16) (kind : Fin 5) (tecInc recInc : Fin 16)
  | canTxSof (ch : Fin 16)
  | canArbLost (ch : Fin 16)
  | canTxDone (ch : Fin 16)
  | canCancel (ini : Initiator) (ch : Fin 16) (fifo : Fin 4)
  | canFlush (ini : Initiator) (ch : Fin 16) (fifo : Fin 4)
  | canRecoverCmd (ini : Initiator) (ch : Fin 16)
  | canRecoveryDone (ch : Fin 16)
  | canGatingChange (ch : Fin 16)
  | canStuckDominant (ch : Fin 16)
  | internalFrameBuild
  | packerRelease (packer : Fin 16)
  | secRequestResubmit
  | gweTblRead (ini : Initiator) (cmd : Word) (ecc : EccState)
  | gweTblWrite (ini : Initiator) (cmd : Word)
  | gweEvqRead (ini : Initiator)
  -- keys and the life cycle (chapter 11)
  | keyWrite (ini : Initiator) (slot : BitVec 10)
  | keyDerive (ini : Initiator) (slot : BitVec 10)
  | keyUnwrap (ini : Initiator) (slot : BitVec 10)
  | keyErase (ini : Initiator) (slot : BitVec 10)
  | keyLock (ini : Initiator) (slot : BitVec 10)
  | keyInfo (ini : Initiator) (slot : BitVec 10)
  | keyCmdDone
  | lcTransition (ini : Initiator) (value : Word)
  | zeroizeDone
  | otpProgramDone (ok : Bool)
  | arbAdvance (ini : Initiator) (value : Word)
  | splitToggle (ini : Initiator) (value : Word)
  -- the cipher block (chapter 12)
  | icvResult (fid : Nat)
  | cphTblRead (ini : Initiator) (cmd : Word) (ecc : EccState)
  | cphTblWrite (ini : Initiator) (cmd : Word)
  | laSubmit (ini : Initiator) (sec : Bool)
  | laComplete (idx : Nat) (ecc : EccState)
  | laResultRead (ini : Initiator) (sec : Bool)
  | laCtrWrite (ini : Initiator) (ctr : Fin 16) (value : Word)
  -- the redundant pair (chapter 13)
  | pairCycleEnd
  | heartbeatDeadline
  | claimWordSend
  | claimWordReceived (w : BitVec 48)
  | heartbeatReceived (h : TwHead) (ws : List Word)
  | noteReceived (h : TwHead) (w0 w1 : Word)
  | noteWaitExpiry
  | digestReceived (h : TwHead) (ws : List Word)
  | stateObjectReceived (h : TwHead) (sect : Fin 7) (ws : List Word)
  | timeRecordReceived (h : TwHead) (ws : List Word)
  | resyncReqReceived (h : TwHead) (mask : Word)
  | towpathBadFrame (odd : Option (TwHead × Fin 4 × BitVec 8))
  | ctrlFrameResend
  | swapArm (ini : Initiator)
  | swapCancel (ini : Initiator)
  | propose (h : TwHead) (ws : List Word)
  | ack (h : TwHead) (ws : List Word)
  | nak (h : TwHead) (ws : List Word)
  | swapCommit (h : TwHead) (ws : List Word)
  | swapCancelReceived (h : TwHead) (ws : List Word)
  | swapGuardDeadline
  | swapExecute
  | swapEndFence
  | isolate (ini : Initiator)
  | rejoin (ini : Initiator)
  | resync (ini : Initiator)
  | announce (h : TwHead) (ws : List Word)
  | ready (h : TwHead) (ws : List Word)
  | notReady (h : TwHead) (ws : List Word)
  | go (h : TwHead) (ws : List Word)
  | pcCancelReceived (h : TwHead) (ws : List Word)
  | pcGuardDeadline
  -- the cores (chapter 14)
  | lockstepMismatch (sec : Bool) (main checker : Option CoreItem) (pc : Word)
  | pairRestart (sec : Bool)
  | resetCtrl (ini : Initiator) (confirm : BitVec 16)
  | resetSec (ini : Initiator) (confirm : BitVec 16)
  | coreMemError (ini : Initiator) (addr : Word) (size : Nat) (w : Option Word) (ecc : EccState)
  | mtimeMatch (hart : Fin 3)
  | mtimecmpHiWrite (ini : Initiator) (hart : Fin 3) (value : Word)
  | debugHalt (hart : Fin 3) (r : CoreRegs)
  | debugResume (hart : Fin 3)
  | debugStep (hart : Fin 3) (r : CoreRegs)
  | debugAbstractWrite (hart : Fin 3) (csr : Bool) (num : BitVec 12) (value : Word)
  | debugProgbufExec (hart : Fin 3) (r : CoreRegs)
  | debugSysbusAccess (addr : Word) (size : Nat) (w : Option Word)
  | dbgChallenge (ini : Initiator) (scope : BitVec 2)
  | dbgSubmit (ini : Initiator) (scope : BitVec 2)
  | dbgVerifyDone
  | dbgDisable (ini : Initiator) (scope : BitVec 2)
  -- the bridges (chapter 15)
  | pcieDown (why : PcieCause)
  | perst
  | ringTailWrite (ini : Initiator) (rx : Bool) (ring : Fin 8) (value : Word)
  | ringEnableWrite (ini : Initiator) (rx : Bool) (ring : Fin 8) (value : Word)
  | txRingFetch (ring : Fin 8) (desc : Option (BitVec 128))
  | txRingFrameDone (ring : Fin 8) (data : Option Bytes)
  | ringCoalExpiry (rx : Bool) (ring : Fin 8)
  | ringEventClear (ini : Initiator) (value : Word)
  | windowRead (ini : Initiator) (addr : BitVec 25) (size : Nat)
  | windowReadResponse (ini : Initiator) (data : Option Word)
  | peerReadTimeout (tag : BitVec 8)
  | windowWrite (ini : Initiator) (addr : BitVec 25) (size : Nat) (value : Word)
  | postedWriteFail (ini : Initiator) (off : BitVec 22) (aborted : Bool)
  | perrLogRead (ini : Initiator)
  | bridgeReadReceived (h : TwHead) (ws : List Word)
  | bridgeWriteReceived (h : TwHead) (ws : List Word)
  | bridgeLockReadReceived (h : TwHead) (ws : List Word)
  | bridgeWriteUnlockReceived (h : TwHead) (ws : List Word)
  | bridgeUnlockReceived (h : TwHead) (ws : List Word)
  | bridgeResponseReceived (h : TwHead) (ws : List Word)
  | bridgePostedFailReceived (h : TwHead) (ws : List Word)
  | lockRead (ini : Initiator)
  | writeUnlock (ini : Initiator)
  | unlock (ini : Initiator)
  | lockTimeoutExpiry
  | twinLinkDown
  | msixUnmask (mask : Word) (fnMask : Bool) (table : List (Fin 32 × BitVec 64 × Word)) (cfg : Option PcieCfg)
  -- start-up (chapter 16)
  | coldReset (pairId : Bool) (mode : BitVec 2)
  | warmReset (ini : Initiator) (confirm : BitVec 16)
  | fuseStageDone
  | flashStageDone (octal : Bool) (density : Nat)
  | imageAuthDone
  | recordApply
  | imageCheckDone
  | sysLoad (ini : Initiator) (image : Option Bytes)
  | sysRelease (ini : Initiator)
  | releaseWaitExpiry
  | payloadCheckDone
  | reloadCtrl (ini : Initiator)
  | reloadSec (ini : Initiator)
  | codeReloadDone (image : Option Bytes)
  -- field update (chapter 17)
  | updOpen (ini : Initiator)
  | updClose (ini : Initiator) (session : BitVec 16)
  | updBegin (ini : Initiator) (session : BitVec 16)
  | updEraseDone (ok : Bool)
  | updWriteBlock (ini : Initiator) (session : BitVec 16)
  | updVerify (ini : Initiator) (session : BitVec 16)
  | updVerifyDone
  | updActivate (ini : Initiator) (session : BitVec 16) (mode : BitVec 2) (force : Bool)
  | liveActivationDone
  | updConfirm (ini : Initiator)
  | updRevert (ini : Initiator)
  | updRead (ini : Initiator)
  | updSessionTimeout
  -- sleep and wake (chapter 18); `ao` counts the always-on clock's 32.768 kHz periods that have passed while no time-base tick ran
  | sleep (ini : Initiator) (confirm : BitVec 16)
  | groupSleep (ini : Initiator) (confirm : BitVec 16) (g : Fin 8)
  | groupWake (ini : Initiator) (confirm : BitVec 16) (g : Fin 8)
  | abortDevice (ini : Initiator) (confirm : BitVec 16)
  | abortGroup (ini : Initiator) (confirm : BitVec 16) (g : Fin 8)
  | releaseIso (ini : Initiator) (confirm : BitVec 16) (ch : Fin 16)
  | readySleepExpiry (g : Option (Fin 8))
  | sleepCommit (g : Option (Fin 8))
  | prepTimeExpiry (g : Option (Fin 8))
  | powerDownDone (ao : Nat)
  | canWakeDom (ch : Fin 16) (clocks : Nat) (ao : Nat)
  | canWakeFrame (ch : Fin 16) (msg : CanMsg) (ao : Nat)
  | canWakeTrx (ch : Fin 16) (ao : Nat)
  | ethInhRise (port : Fin 14) (ao : Nat)
  | ethInhFall (port : Fin 14)
  | wakeTimerExpiry (ao : Nat)
  | wakeClockReady (ao : Nat)
  | retentionCheckDone (pass : Bool)
  | serdesReady
  | kaLogRead (ini : Initiator)
  | grpMembersWrite (ini : Initiator) (g : Fin 8) (value : Word)
  -- faults (chapter 19)
  | pll0Loss
  | pll1Loss
  | pll2Loss
  | refclkLoss
  | fltLogRead (ini : Initiator)
  | firstClr (ini : Initiator)
  | fltDirectClear (ini : Initiator) (value : Word)
  -- further events of chapters 04, 13, 15, 17, 19
  | linkPartnerLpiSignalling (port : Fin 14) (idle : Bool)
  | twinLinkUp
  | pcieLinkUp (speed : Fin 5) (width : Fin 5)
  | hostWindowCompletionTimeout (ini : Initiator)
  | blockProgramDone (ok : Bool)
  | bankStateWriteDone (ok : Bool)
  | pllLockRegained (pll : Fin 3)
  | refclkRestored
  deriving DecidableEq, Repr

end Sys2Proof
end

