-- ==== Sys2Proof/Decode.lean ====
section
/-! DEFINITION. Decode.lean: the command that a word spells. Every row of spec/opcode_table.json has an empty list of fields, so
the table gives no row bits and no word spells a command (assumption 1). -/
namespace Sys2Proof

/-- The command that a word of nbits bits spells: none. -/
def decodeTableWord (_nbits _w : Nat) : Option Instr := none

end Sys2Proof
end

