-- ==== Sys2Proof/Machine/Crc.lean ====
section
/-! DEFINITION. Crc.lean: the cyclic redundancy checks the spec names: CRC-32C with the parameters of R101, the Ethernet frame
check sequence, and the CRC-8 and CRC-16 of the pair's words. -/
namespace Sys2Proof.Machine

/-- n shifts of a reflected 32-bit CRC register. -/
def crcShift (poly : Nat) : Nat → Nat → Nat
  | 0, c => c
  | n + 1, c => crcShift poly n (if c % 2 = 1 then (c / 2) ^^^ poly else c / 2)

/-- A reflected CRC over octets. -/
def crcRun (poly init : Nat) (d : Bytes) : Nat := d.foldl (fun c b => crcShift poly 8 (c ^^^ b.toNat)) init

/-- CRC-32C with an initial value (R101). -/
def crc32c (init : Nat) (d : Bytes) : Nat := crcRun 0x82F63B78 init d ^^^ 0xFFFFFFFF

/-- The frame check sequence of IEEE 802.3, least significant octet first. -/
def fcsOf (d : Bytes) : Bytes :=
  let c := crcRun 0xEDB88320 0xFFFFFFFF d ^^^ 0xFFFFFFFF
  [BitVec.ofNat 8 c, BitVec.ofNat 8 (c / 256), BitVec.ofNat 8 (c / 65536), BitVec.ofNat 8 (c / 16777216)]

/-- n shifts of an unreflected CRC register of w bits. -/
def crcUp (w poly : Nat) : Nat → Nat → Nat
  | 0, c => c
  | n + 1, c => crcUp w poly n (if c / 2 ^ (w - 1) % 2 = 1 then ((c * 2) % 2 ^ w) ^^^ poly else (c * 2) % 2 ^ w)

end Sys2Proof.Machine
end

