-- ==== Sys2Proof/Config.lean ====
section
/-! DEFINITION. Config.lean: what one implementation fixes and the spec leaves open (constants without a body, so that nothing
can be proved of their values), and the free values. -/
namespace Sys2Proof.Config

/-- A free value: entry n of a stream that nothing constrains (assumption 3). -/
opaque freeWord : Nat → BitVec 32

/-- Silicon revision, SYS_ID.REV (Table 16.7: reset "Silicon"). -/
opaque siliconRev : BitVec 8

/-- The minimum wake time of IEEE 802.3 from low-power idle in a MODE at a speed code, picoseconds (R85). -/
opaque lpiWake : (mode speed : Nat) → Nat

/-- The 128-bit device unique ID, word w (Table 16.7: reset "Fuses"). -/
opaque uid : Nat → BitVec 32

/-- What DOM_OFF holds when an addition gives a value outside its 64 bits: the register, with the fraction below it (R34,
assumption 117). -/
opaque domOffOver : Int → BitVec 120

/-- The internal receive latency in use at a port after its n-th link-up, INT_RX_LAT (R31). -/
opaque intRxLat : Nat → Nat → BitVec 32

/-- The internal transmit latency in use, INT_TX_LAT (R31). -/
opaque intTxLat : Nat → Nat → BitVec 32

/-- The device root, word w, that OTP holds (chapter 11); no path reads it out. -/
opaque deviceRoot : Nat → BitVec 32

/-- The image root keys in the boot ROM: octet i of the production key (false) or of the published test key (true) (R337). -/
opaque imageRoot : (test : Bool) → Nat → BitVec 8

end Sys2Proof.Config
end

