-- ==== Sys2Proof/Machine/Sparse.lean ====
section
/-! DEFINITION. Sparse.lean: the ONE canonical form in which registers, counters, holding registers and tables are held:
a list of (key, value) pairs, keys strictly rising, no entry equal to what an unlisted key reads as. -/
namespace Sys2Proof.Machine

/-- Reads a key: the listed value, else what an unlisted key reads as. -/
def Sparse.get {α : Type} (dflt : Nat → α) : List (Nat × α) → Nat → α
  | [], k => dflt k
  | (a, v) :: rest, k => if a = k then v else if k < a then dflt k else Sparse.get dflt rest k

/-- Puts a pair where its key belongs. -/
def Sparse.insert {α : Type} : List (Nat × α) → Nat → α → List (Nat × α)
  | [], k, v => [(k, v)]
  | (a, w) :: rest, k, v =>
    if k < a then (k, v) :: (a, w) :: rest
    else if a = k then (k, v) :: rest
    else (a, w) :: Sparse.insert rest k v

/-- Takes a key out of the list. -/
def Sparse.erase {α : Type} : List (Nat × α) → Nat → List (Nat × α)
  | [], _ => []
  | (a, w) :: rest, k =>
    if k < a then (a, w) :: rest
    else if a = k then rest
    else (a, w) :: Sparse.erase rest k

/-- Writes a key; a value equal to what the unlisted key reads as removes the entry. -/
def Sparse.set {α : Type} [DecidableEq α] (dflt : Nat → α) (l : List (Nat × α)) (k : Nat) (v : α) : List (Nat × α) :=
  if v = dflt k then Sparse.erase l k else Sparse.insert l k v

/-- Every key of the list lies above `b` (when `b` is given), keys strictly rise, and no entry is the default. -/
def Sparse.wfFrom {α : Type} [DecidableEq α] (dflt : Nat → α) : Option Nat → List (Nat × α) → Bool
  | _, [] => true
  | b, (a, v) :: rest =>
    (match b with | none => true | some x => decide (x < a)) && decide (v ≠ dflt a) && Sparse.wfFrom dflt (some a) rest

/-- The canonical form. -/
def Sparse.wf {α : Type} [DecidableEq α] (dflt : Nat → α) (l : List (Nat × α)) : Bool := Sparse.wfFrom dflt none l

end Sys2Proof.Machine
end

