-- ==== Sys2Proof/Machine/RegDef.lean ====
section
/-! DEFINITION. RegDef.lean: the shape of the register tables (R4, Table 0.2), and bit fields of words. -/
namespace Sys2Proof.Machine

/-- The access codes of Table 0.2. -/
inductive Acc where
  | rw | ro | wo | w1c | w1s | rc | rws | rwl
  deriving DecidableEq, Repr

/-- A field of a register table. -/
structure Field where
  hi   : Nat
  lo   : Nat
  acc  : Acc
  rst  : Nat
  name : String
  deriving DecidableEq, Repr

/-- A register, or an array of them: address of the first, and (stride, count) for each index. -/
structure Reg where
  name   : String
  off    : Nat
  dims   : List (Nat × Nat)
  fields : List Field
  deriving DecidableEq, Repr

/-- A 64-bit counter, or an array of them: address of the first low word (R5). -/
structure Cnt where
  name : String
  off  : Nat
  dims : List (Nat × Nat)
  deriving DecidableEq, Repr

/-- A field of one register, by address and bits. -/
structure Fld where
  addr : Nat
  hi   : Nat
  lo   : Nat
  deriving DecidableEq, Repr

/-- Bits [hi:lo] of a word, as a number. -/
def bitsOf (w : Word) (hi lo : Nat) : Nat := (w.toNat / 2 ^ lo) % 2 ^ (hi + 1 - lo)

/-- A word whose bits [hi:lo] hold v (taken modulo the field's size) and whose other bits are those of w. -/
def putBits (w : Word) (hi lo v : Nat) : Word :=
  BitVec.ofNat 32 (w.toNat - bitsOf w hi lo * 2 ^ lo + (v % 2 ^ (hi + 1 - lo)) * 2 ^ lo)

/-- Bits [hi:lo] set. -/
def maskBits (hi lo : Nat) : Word := BitVec.ofNat 32 ((2 ^ (hi + 1 - lo) - 1) * 2 ^ lo)

/-- Does the distance d lie on the grid of (stride, count) pairs? -/
def onGrid : List (Nat × Nat) → Nat → Bool
  | [], d => d == 0
  | (s, c) :: rest, d => decide (d / s < c) && onGrid rest (d % s)

/-- The register that stands at an address. -/
def Reg.find (l : List Reg) (a : Nat) : Option Reg := l.find? fun r => decide (r.off ≤ a) && onGrid r.dims (a - r.off)

/-- The counter whose low word stands at an address. -/
def Cnt.find (l : List Cnt) (a : Nat) : Option Cnt := l.find? fun r => decide (r.off ≤ a) && onGrid r.dims (a - r.off)

/-- The reset value of a register, from its fields. -/
def Reg.resetValue (r : Reg) : Word := r.fields.foldl (fun w f => putBits w f.hi f.lo f.rst) 0

/-- The bits of a register that have a given access code. -/
def Reg.bitsWith (r : Reg) (p : Acc → Bool) : Word :=
  r.fields.foldl (fun w f => if p f.acc then w ||| maskBits f.hi f.lo else w) 0

end Sys2Proof.Machine
end

