-- ==== Sys2Proof/Machine/Names.lean ====
section
/-! DEFINITION. Names.lean: the addresses of the registers that the meanings use, and their fields (address, msb, lsb),
as the register tables of the chapters give them; a repeated register takes its index or indices. -/
namespace Sys2Proof.Machine

def TIM.TIM_CTRL_STEP_EN : Fld := ⟨0x100000, 5, 5⟩
def TIM.TIM_CTRL_AUTO_ALIGN : Fld := ⟨0x100000, 4, 4⟩
def TIM.TIM_CTRL_PRIMARY : Fld := ⟨0x100000, 3, 3⟩
def TIM.TIM_CTRL_REVERT : Fld := ⟨0x100000, 2, 2⟩
def TIM.TIM_CTRL_SEL_MODE : Fld := ⟨0x100000, 1, 0⟩
def TIM.WT_SET_NS_NS : Fld := ⟨0x100030, 29, 0⟩
def TIM.TIM_STATUS : Nat := 0x100004
def TIM.TIM_STATUS_FOLLOWED : Fld := ⟨0x100004, 7, 7⟩
def TIM.TIM_STATUS_UNCERTAIN : Fld := ⟨0x100004, 6, 6⟩
def TIM.TIM_STATUS_TIME_SET : Fld := ⟨0x100004, 5, 5⟩
def TIM.TIM_STATUS_DOM1_VALID : Fld := ⟨0x100004, 4, 4⟩
def TIM.TIM_STATUS_DOM0_VALID : Fld := ⟨0x100004, 3, 3⟩
def TIM.TIM_STATUS_ALIGNING : Fld := ⟨0x100004, 2, 2⟩
def TIM.TIM_STATUS_HOLDOVER : Fld := ⟨0x100004, 1, 1⟩
def TIM.TIM_STATUS_SEL : Fld := ⟨0x100004, 0, 0⟩
def TIM.WT_SET_SEC_LO : Nat := 0x100034
def TIM.TIM_EVENT : Nat := 0x100008
def TIM.TIM_EVENT_STEER_IGNORED : Fld := ⟨0x100008, 9, 9⟩
def TIM.TIM_EVENT_INCR_CLAMPED : Fld := ⟨0x100008, 8, 8⟩
def TIM.TIM_EVENT_UNCERTAIN : Fld := ⟨0x100008, 7, 7⟩
def TIM.TIM_EVENT_SYNC_FIFO_OVF1 : Fld := ⟨0x100008, 6, 6⟩
def TIM.TIM_EVENT_SYNC_FIFO_OVF0 : Fld := ⟨0x100008, 5, 5⟩
def TIM.TIM_EVENT_STEP_REJECTED : Fld := ⟨0x100008, 4, 4⟩
def TIM.TIM_EVENT_STEPPED : Fld := ⟨0x100008, 3, 3⟩
def TIM.TIM_EVENT_HOLDOVER_EXIT : Fld := ⟨0x100008, 2, 2⟩
def TIM.TIM_EVENT_HOLDOVER_ENTER : Fld := ⟨0x100008, 1, 1⟩
def TIM.TIM_EVENT_SWITCHED : Fld := ⟨0x100008, 0, 0⟩
def TIM.WT_SET_SEC_HI : Nat := 0x100038
def TIM.WT_SET_CMD : Nat := 0x10003c
def TIM.WT_INCR_FRAC : Nat := 0x100010
def TIM.WT_SNAP_CMD : Nat := 0x100040
def TIM.WT_INCR_NS : Nat := 0x100014
def TIM.WT_INCR_NS_INCR_NS : Fld := ⟨0x100014, 3, 0⟩
def TIM.WT_SNAP_FRAC : Nat := 0x100044
def TIM.WT_ADJ : Nat := 0x100018
def TIM.WT_SNAP_NS : Nat := 0x100048
def TIM.PHASE_REMAIN : Nat := 0x10001c
def TIM.WT_SNAP_SEC_LO : Nat := 0x10004c
def TIM.SLEW_LIMIT_PPB : Fld := ⟨0x100020, 17, 0⟩
def TIM.WT_SNAP_SEC_HI : Nat := 0x100050
def TIM.HOLDOVER_LIMIT_SECONDS : Fld := ⟨0x100024, 15, 0⟩
def TIM.SNAP_DOM0_OFF : Nat := 0x100054
def TIM.HOLDOVER_TIME : Nat := 0x100028
def TIM.SNAP_DOM1_OFF : Nat := 0x100058
def TIM.SWITCH_CNT : Nat := 0x100060
def TIM.STEP_CNT : Nat := 0x100068
def TIM.DOM_CFG (i : Nat) : Nat := 0x100100 + 0x80 * i
def TIM.DOM_CFG_RX_TIMEOUT (i : Nat) : Fld := ⟨0x100100 + 0x80 * i, 19, 16⟩
def TIM.DOM_CFG_ACCEPT (i : Nat) : Fld := ⟨0x100100 + 0x80 * i, 13, 13⟩
def TIM.DOM_CFG_ENABLE (i : Nat) : Fld := ⟨0x100100 + 0x80 * i, 12, 12⟩
def TIM.DOM_CFG_SYNC_PORT (i : Nat) : Fld := ⟨0x100100 + 0x80 * i, 11, 8⟩
def TIM.DOM_CFG_DOMAIN_NUM (i : Nat) : Fld := ⟨0x100100 + 0x80 * i, 7, 0⟩
def TIM.DOM_STATUS_TIMEOUT (i : Nat) : Fld := ⟨0x100104 + 0x80 * i, 2, 2⟩
def TIM.DOM_STATUS_SYNC_SEEN (i : Nat) : Fld := ⟨0x100104 + 0x80 * i, 1, 1⟩
def TIM.DOM_STATUS_VALID (i : Nat) : Fld := ⟨0x100104 + 0x80 * i, 0, 0⟩
def TIM.DOM_OFF_LO (i : Nat) : Nat := 0x100108 + 0x80 * i
def TIM.DOM_OFF_HI (i : Nat) : Nat := 0x10010c + 0x80 * i
def TIM.DOM_OFF_ADJ (i : Nat) : Nat := 0x100110 + 0x80 * i
def TIM.DOM_RATE (i : Nat) : Nat := 0x100114 + 0x80 * i
def TIM.DOM_RATE_ADJ (i : Nat) : Nat := 0x100118 + 0x80 * i
def TIM.DOM_SET_LO (i : Nat) : Nat := 0x10011c + 0x80 * i
def TIM.DOM_SET_HI (i : Nat) : Nat := 0x100120 + 0x80 * i
def TIM.SYNC_FIFO_STAT (i : Nat) : Nat := 0x100124 + 0x80 * i
def TIM.SYNC_REC (i j : Nat) : Nat := 0x100140 + 0x80 * i + 0x4 * j
def TIM.PORT_TS_CFG_PTP_EN (i : Nat) : Fld := ⟨0x100400 + 0x80 * i, 0, 0⟩
def TIM.PHY_RX_LAT (i : Nat) : Nat := 0x100404 + 0x80 * i
def TIM.PHY_TX_LAT (i : Nat) : Nat := 0x100408 + 0x80 * i
def TIM.LINK_DELAY (i : Nat) : Nat := 0x10040c + 0x80 * i
def TIM.PORT_ID_LO (i : Nat) : Nat := 0x100410 + 0x80 * i
def TIM.PORT_ID_MID (i : Nat) : Nat := 0x100414 + 0x80 * i
def TIM.PORT_ID_NUM_PORT_NUM (i : Nat) : Fld := ⟨0x100418 + 0x80 * i, 15, 0⟩
def TIM.INT_RX_LAT (i : Nat) : Nat := 0x10041c + 0x80 * i
def TIM.INT_TX_LAT (i : Nat) : Nat := 0x100420 + 0x80 * i
def TIM.LTT_SYNC_INFO (i : Nat) : Nat := 0x100424 + 0x80 * i
def TIM.OS_TX_CNT (i : Nat) : Nat := 0x100448 + 0x80 * i
def TIM.OS_ERR_CNT (i : Nat) : Nat := 0x100450 + 0x80 * i
def TIO.TIO_FRAME_CFG_ETHERTYPE : Fld := ⟨0x200000, 31, 16⟩
def TIO.TIO_FRAME_CFG_VLAN_EN : Fld := ⟨0x200000, 15, 15⟩
def TIO.TIO_FRAME_CFG_PCP : Fld := ⟨0x200000, 14, 12⟩
def TIO.TIO_FRAME_CFG_VID : Fld := ⟨0x200000, 11, 0⟩
def TIO.TIO_DA_HI_DA_HI : Fld := ⟨0x200004, 15, 0⟩
def TIO.TIO_DA_LO_DA_LO : Fld := ⟨0x200008, 31, 0⟩
def TIO.TIO_SA_HI_SA_HI : Fld := ⟨0x20000c, 15, 0⟩
def TIO.TIO_SA_LO_SA_LO : Fld := ⟨0x200010, 31, 0⟩
def TIO.MK_CTRL : Nat := 0x200014
def TIO.MK_CTRL_PAIRED : Fld := ⟨0x200014, 1, 1⟩
def TIO.MK_CTRL_ENABLE : Fld := ⟨0x200014, 0, 0⟩
def TIO.MK_START_NS_QNS : Fld := ⟨0x200018, 31, 30⟩
def TIO.MK_START_NS_NS : Fld := ⟨0x200018, 29, 0⟩
def TIO.MK_START_SEC_LO_SEC_LO : Fld := ⟨0x20001c, 31, 0⟩
def TIO.MK_START_SEC_HI_SEC_HI : Fld := ⟨0x200020, 15, 0⟩
def TIO.MK_PERIOD_MS : Fld := ⟨0x200024, 9, 0⟩
def TIO.MK_SEQ_SEQ : Fld := ⟨0x200028, 15, 0⟩
def TIO.TIO_EVENT_SUM : Nat := 0x20002c
def TIO.MK_CNT : Nat := 0x200030
def TIO.MK_GATED_CNT : Nat := 0x200038
def TIO.PIN_CFG (i : Nat) : Nat := 0x200100 + 0x80 * i
def TIO.PIN_CFG_FILTER (i : Nat) : Fld := ⟨0x200100 + 0x80 * i, 15, 8⟩
def TIO.PIN_CFG_STUCK_MS (i : Nat) : Fld := ⟨0x200100 + 0x80 * i, 25, 16⟩
def TIO.PIN_CFG_EVT_EN (i : Nat) : Fld := ⟨0x200100 + 0x80 * i, 7, 7⟩
def TIO.PIN_CFG_PAIRED (i : Nat) : Fld := ⟨0x200100 + 0x80 * i, 6, 6⟩
def TIO.PIN_CFG_EDGE (i : Nat) : Fld := ⟨0x200100 + 0x80 * i, 5, 4⟩
def TIO.PIN_CFG_POLARITY (i : Nat) : Fld := ⟨0x200100 + 0x80 * i, 3, 3⟩
def TIO.PIN_CFG_MODE (i : Nat) : Fld := ⟨0x200100 + 0x80 * i, 1, 0⟩
def TIO.START_NS_QNS (i : Nat) : Fld := ⟨0x200104 + 0x80 * i, 31, 30⟩
def TIO.START_NS_NS (i : Nat) : Fld := ⟨0x200104 + 0x80 * i, 29, 0⟩
def TIO.START_SEC_LO_SEC_LO (i : Nat) : Fld := ⟨0x200108 + 0x80 * i, 31, 0⟩
def TIO.START_SEC_HI_SEC_HI (i : Nat) : Fld := ⟨0x20010c + 0x80 * i, 15, 0⟩
def TIO.PERIOD_QNS (i : Nat) : Fld := ⟨0x200110 + 0x80 * i, 31, 0⟩
def TIO.WIDTH_QNS (i : Nat) : Fld := ⟨0x200114 + 0x80 * i, 31, 0⟩
def TIO.COUNT_PULSES (i : Nat) : Fld := ⟨0x200118 + 0x80 * i, 31, 0⟩
def TIO.WIN_LEN_QNS (i : Nat) : Fld := ⟨0x20011c + 0x80 * i, 31, 0⟩
def TIO.EVT_CFG_EVT_HOLD (i : Nat) : Fld := ⟨0x200120 + 0x80 * i, 31, 16⟩
def TIO.EVT_CFG_EVT_MAX (i : Nat) : Fld := ⟨0x200120 + 0x80 * i, 5, 0⟩
def TIO.PIN_DLY_DLY (i : Nat) : Fld := ⟨0x200124 + 0x80 * i, 15, 0⟩
def TIO.PIN_CMD (i : Nat) : Nat := 0x200128 + 0x80 * i
def TIO.PIN_STATUS (i : Nat) : Nat := 0x20012c + 0x80 * i
def TIO.PIN_EVENT (i : Nat) : Nat := 0x200130 + 0x80 * i
def TIO.PIN_EVENT_BAD_CFG (i : Nat) : Fld := ⟨0x200130 + 0x80 * i, 4, 4⟩
def TIO.PIN_EVENT_STEP_SKIP (i : Nat) : Fld := ⟨0x200130 + 0x80 * i, 3, 3⟩
def TIO.PIN_EVENT_LATE (i : Nat) : Fld := ⟨0x200130 + 0x80 * i, 2, 2⟩
def TIO.PIN_EVENT_STUCK (i : Nat) : Fld := ⟨0x200130 + 0x80 * i, 1, 1⟩
def TIO.PIN_EVENT_OVF (i : Nat) : Fld := ⟨0x200130 + 0x80 * i, 0, 0⟩
def TIO.FIFO_LEVEL (i : Nat) : Nat := 0x200138 + 0x80 * i
def TIO.CAP_INFO (i : Nat) : Nat := 0x20013c + 0x80 * i
def TIO.CAP_NS (i : Nat) : Nat := 0x200140 + 0x80 * i
def TIO.CAP_SEC_LO (i : Nat) : Nat := 0x200144 + 0x80 * i
def TIO.CAP_SEC_HI (i : Nat) : Nat := 0x200148 + 0x80 * i
def TIO.CAP_CNT (i : Nat) : Nat := 0x200150 + 0x80 * i
def TIO.DROP_CNT (i : Nat) : Nat := 0x200158 + 0x80 * i
def TIO.OUTWIN_CNT (i : Nat) : Nat := 0x200160 + 0x80 * i
def TIO.GATED_CNT (i : Nat) : Nat := 0x200168 + 0x80 * i
def TIO.PULSE_CNT (i : Nat) : Nat := 0x200170 + 0x80 * i
def MAC.MAC_CFG_MAX_CLIENT (i : Nat) : Fld := ⟨0x300000 + 0x1000 * i, 21, 8⟩
def MAC.MAC_CFG_FLUSH_ON_DOWN (i : Nat) : Fld := ⟨0x300000 + 0x1000 * i, 5, 5⟩
def MAC.MAC_CFG_AUTO_RAISE (i : Nat) : Fld := ⟨0x300000 + 0x1000 * i, 4, 4⟩
def MAC.MAC_CFG_CT_EN (i : Nat) : Fld := ⟨0x300000 + 0x1000 * i, 3, 3⟩
def MAC.MAC_CFG_ERR_SIGNAL (i : Nat) : Fld := ⟨0x300000 + 0x1000 * i, 2, 2⟩
def MAC.MAC_CFG_TX_EN (i : Nat) : Fld := ⟨0x300000 + 0x1000 * i, 1, 1⟩
def MAC.MAC_CFG_RX_EN (i : Nat) : Fld := ⟨0x300000 + 0x1000 * i, 0, 0⟩
def MAC.PCS_CFG (i : Nat) : Nat := 0x300004 + 0x1000 * i
def MAC.PCS_CFG_AN_EN (i : Nat) : Fld := ⟨0x300004 + 0x1000 * i, 7, 7⟩
def MAC.PCS_CFG_FEC_EN (i : Nat) : Fld := ⟨0x300004 + 0x1000 * i, 6, 6⟩
def MAC.PCS_CFG_SPEED (i : Nat) : Fld := ⟨0x300004 + 0x1000 * i, 5, 3⟩
def MAC.PCS_CFG_MODE (i : Nat) : Fld := ⟨0x300004 + 0x1000 * i, 2, 0⟩
def MAC.PORT_STATUS_PREEMPT_ACTIVE (i : Nat) : Fld := ⟨0x300008 + 0x1000 * i, 11, 11⟩
def MAC.PORT_STATUS_VERIFY_STATUS (i : Nat) : Fld := ⟨0x300008 + 0x1000 * i, 10, 9⟩
def MAC.PORT_STATUS_LPI_RX (i : Nat) : Fld := ⟨0x300008 + 0x1000 * i, 8, 8⟩
def MAC.PORT_STATUS_LPI_TX (i : Nat) : Fld := ⟨0x300008 + 0x1000 * i, 7, 7⟩
def MAC.PORT_STATUS_AN_DONE (i : Nat) : Fld := ⟨0x300008 + 0x1000 * i, 6, 6⟩
def MAC.PORT_STATUS_SPEED_ACT (i : Nat) : Fld := ⟨0x300008 + 0x1000 * i, 5, 3⟩
def MAC.PORT_STATUS_FEC_LOCK (i : Nat) : Fld := ⟨0x300008 + 0x1000 * i, 2, 2⟩
def MAC.PORT_STATUS_PCS_LOCK (i : Nat) : Fld := ⟨0x300008 + 0x1000 * i, 1, 1⟩
def MAC.PORT_STATUS_LINK (i : Nat) : Fld := ⟨0x300008 + 0x1000 * i, 0, 0⟩
def MAC.PORT_EVENT (i : Nat) : Nat := 0x30000c + 0x1000 * i
def MAC.PORT_EVENT_DUPLEX_FAULT (i : Nat) : Fld := ⟨0x30000c + 0x1000 * i, 7, 7⟩
def MAC.PORT_EVENT_BAD_MODE (i : Nat) : Fld := ⟨0x30000c + 0x1000 * i, 6, 6⟩
def MAC.PORT_EVENT_VERIFY_FAIL (i : Nat) : Fld := ⟨0x30000c + 0x1000 * i, 5, 5⟩
def MAC.PORT_EVENT_CT_RAISED (i : Nat) : Fld := ⟨0x30000c + 0x1000 * i, 4, 4⟩
def MAC.PORT_EVENT_UNDERRUN (i : Nat) : Fld := ⟨0x30000c + 0x1000 * i, 3, 3⟩
def MAC.PORT_EVENT_FEC_UNCORR (i : Nat) : Fld := ⟨0x30000c + 0x1000 * i, 2, 2⟩
def MAC.PORT_EVENT_LINK_UP (i : Nat) : Fld := ⟨0x30000c + 0x1000 * i, 1, 1⟩
def MAC.PORT_EVENT_LINK_DOWN (i : Nat) : Fld := ⟨0x30000c + 0x1000 * i, 0, 0⟩
def MAC.CT_THRESH (i : Nat) : Nat := 0x300014 + 0x1000 * i
def MAC.CT_THRESH_CT_CEIL (i : Nat) : Fld := ⟨0x300014 + 0x1000 * i, 27, 16⟩
def MAC.CT_THRESH_THRESH (i : Nat) : Fld := ⟨0x300014 + 0x1000 * i, 11, 0⟩
def MAC.CT_CUR_CUR (i : Nat) : Fld := ⟨0x300018 + 0x1000 * i, 11, 0⟩
def MAC.PREEMPT_CFG_VERIFY_LIMIT (i : Nat) : Fld := ⟨0x30001c + 0x1000 * i, 14, 12⟩
def MAC.PREEMPT_CFG_VERIFY_TIME (i : Nat) : Fld := ⟨0x30001c + 0x1000 * i, 11, 4⟩
def MAC.PREEMPT_CFG_ADD_FRAG (i : Nat) : Fld := ⟨0x30001c + 0x1000 * i, 3, 2⟩
def MAC.PREEMPT_CFG_VERIFY_DIS (i : Nat) : Fld := ⟨0x30001c + 0x1000 * i, 1, 1⟩
def MAC.PREEMPT_CFG_PREEMPT_EN (i : Nat) : Fld := ⟨0x30001c + 0x1000 * i, 0, 0⟩
def MAC.EEE_CFG_TW_SYS_TX (i : Nat) : Fld := ⟨0x300020 + 0x1000 * i, 31, 16⟩
def MAC.EEE_CFG_LPI_IDLE (i : Nat) : Fld := ⟨0x300020 + 0x1000 * i, 15, 4⟩
def MAC.EEE_CFG_GATE_WAKE (i : Nat) : Fld := ⟨0x300020 + 0x1000 * i, 1, 1⟩
def MAC.EEE_CFG_LPI_EN (i : Nat) : Fld := ⟨0x300020 + 0x1000 * i, 0, 0⟩
def MAC.PFC_CFG_PAUSE_RX_EN (i : Nat) : Fld := ⟨0x300024 + 0x1000 * i, 16, 16⟩
def MAC.PFC_CFG_PFC_RX_MASK (i : Nat) : Fld := ⟨0x300024 + 0x1000 * i, 15, 8⟩
def MAC.PFC_CFG_PFC_TX_MASK (i : Nat) : Fld := ⟨0x300024 + 0x1000 * i, 7, 0⟩
def MAC.PFC_TIME_PFC_REFRESH (i : Nat) : Fld := ⟨0x300028 + 0x1000 * i, 31, 16⟩
def MAC.PFC_TIME_PFC_QUANTA (i : Nat) : Fld := ⟨0x300028 + 0x1000 * i, 15, 0⟩
def MAC.PFC_STATE_RX_PAUSED (i : Nat) : Fld := ⟨0x30002c + 0x1000 * i, 15, 8⟩
def MAC.PFC_STATE_TX_XOFF (i : Nat) : Fld := ⟨0x30002c + 0x1000 * i, 7, 0⟩
def MAC.PORT_SA_HI_SA_HI (i : Nat) : Fld := ⟨0x300030 + 0x1000 * i, 15, 0⟩
def MAC.PORT_SA_LO_SA_LO (i : Nat) : Fld := ⟨0x300034 + 0x1000 * i, 31, 0⟩
def SLC.VER_STATUS_COMMIT_ARMED : Fld := ⟨0x400000, 17, 17⟩
def SLC.VER_STATUS_SWEEP_BUSY : Fld := ⟨0x400000, 16, 16⟩
def SLC.VER_STATUS_LIVE : Fld := ⟨0x400000, 15, 8⟩
def SLC.VER_STATUS_STAGE_OPEN : Fld := ⟨0x400000, 7, 7⟩
def SLC.VER_STATUS_VER_STAGE : Fld := ⟨0x400000, 6, 4⟩
def SLC.VER_STATUS_VER_CUR : Fld := ⟨0x400000, 2, 0⟩
def SLC.VER_CMD : Nat := 0x400004
def SLC.COMMIT_T_NS_NS : Fld := ⟨0x400008, 29, 0⟩
def SLC.COMMIT_T_SEC_LO_SEC_LO : Fld := ⟨0x40000c, 31, 0⟩
def SLC.COMMIT_T_SEC_HI_SEC_HI : Fld := ⟨0x400010, 15, 0⟩
def SLC.RETIRE_GUARD_US : Fld := ⟨0x400014, 16, 0⟩
def SLC.SLC_EVENT : Nat := 0x400018
def SLC.SLC_EVENT_SWEEP_DONE : Fld := ⟨0x400018, 10, 10⟩
def SLC.SLC_EVENT_SP_FULL : Fld := ⟨0x400018, 9, 9⟩
def SLC.SLC_EVENT_PARSE_FAIL : Fld := ⟨0x400018, 8, 8⟩
def SLC.SLC_EVENT_ZONE_VIOL : Fld := ⟨0x400018, 7, 7⟩
def SLC.SLC_EVENT_ECC_UNCORR : Fld := ⟨0x400018, 6, 6⟩
def SLC.SLC_EVENT_MULTI_HIT : Fld := ⟨0x400018, 5, 5⟩
def SLC.SLC_EVENT_VER_LATE_DROP : Fld := ⟨0x400018, 4, 4⟩
def SLC.SLC_EVENT_COMMIT_LATE : Fld := ⟨0x400018, 3, 3⟩
def SLC.SLC_EVENT_VER_REFUSED : Fld := ⟨0x400018, 2, 2⟩
def SLC.SLC_EVENT_RETIRED : Fld := ⟨0x400018, 1, 1⟩
def SLC.SLC_EVENT_COMMITTED : Fld := ⟨0x400018, 0, 0⟩
def SLC.INFLIGHT_COUNT (i : Nat) : Fld := ⟨0x400020 + 0x4 * i, 19, 0⟩
def SLC.ECC_INFO : Nat := 0x400040
def SLC.MULTI_INFO_INDEX : Fld := ⟨0x400044, 14, 0⟩
def SLC.PARSE_FAIL_INFO : Nat := 0x400048
def SLC.SP_CFG_SP_DEPTH : Fld := ⟨0x40004c, 10, 0⟩
def SLC.SP_LEVEL : Nat := 0x400050
def SLC.MIRROR_ALLOW : Nat := 0x400054
def SLC.SEED_RULE (i : Nat) : Nat := 0x400060 + 0x4 * i
def SLC.SEED_FDB (i : Nat) : Nat := 0x400070 + 0x4 * i
def SLC.TBL_CMD : Nat := 0x400100
def SLC.TBL_STATUS : Nat := 0x400104
def SLC.TBL_STATUS_BUSY : Fld := ⟨0x400104, 31, 31⟩
def SLC.TBL_STATUS_RESULT : Fld := ⟨0x400104, 27, 24⟩
def SLC.TBL_HASH (i : Nat) : Nat := 0x400110 + 0x4 * i
def SLC.TBL_DATA (i : Nat) : Nat := 0x400200 + 0x4 * i
def STR.STR_EVENT : Nat := 0x500000
def STR.STR_EVENT_ECC_UNCORR : Fld := ⟨0x500000, 2, 2⟩
def STR.STR_EVENT_EVQ_OVF : Fld := ⟨0x500000, 1, 1⟩
def STR.STR_EVENT_QUEUED : Fld := ⟨0x500000, 0, 0⟩
def STR.EVQ_LEVEL : Nat := 0x500008
def STR.EVQ_DATA : Nat := 0x50000c
def STR.ECC_INFO : Nat := 0x500010
def STR.TBL_CMD : Nat := 0x500100
def STR.TBL_STATUS : Nat := 0x500104
def STR.TBL_STATUS_RESULT : Fld := ⟨0x500104, 27, 24⟩
def STR.TBL_DATA (i : Nat) : Nat := 0x500200 + 0x4 * i
def BSN.BSN_CTRL : Nat := 0x600000
def BSN.BSN_EVENT : Nat := 0x600004
def BSN.BSN_EVENT_DESC_EMPTY : Fld := ⟨0x600004, 6, 6⟩
def BSN.BSN_EVENT_ARRIVAL_DROP : Fld := ⟨0x600004, 5, 5⟩
def BSN.BSN_EVENT_PKT_ECC_UNCORR : Fld := ⟨0x600004, 4, 4⟩
def BSN.BSN_EVENT_AGE_DROP : Fld := ⟨0x600004, 3, 3⟩
def BSN.BSN_EVENT_NOBUF : Fld := ⟨0x600004, 2, 2⟩
def BSN.BSN_EVENT_RANK_YIELD : Fld := ⟨0x600004, 1, 1⟩
def BSN.BSN_EVENT_REL_REJECT : Fld := ⟨0x600004, 0, 0⟩
def BSN.REJ_INFO : Nat := 0x60000c
def BSN.ECC_INFO : Nat := 0x600010
def BSN.REL_CMD : Nat := 0x600014
def BSN.REL_STATUS_RESULT : Fld := ⟨0x600018, 1, 0⟩
def BSN.REJ_SLICE_SLICE : Fld := ⟨0x60001c, 3, 0⟩
def BSN.BUF_SEL : Nat := 0x600020
def BSN.BUF_INFO : Nat := 0x600024
def BSN.VOQ_SEL : Nat := 0x600028
def BSN.VOQ_DEPTH : Nat := 0x60002c
def BSN.VOQ_BYTES : Nat := 0x600030
def BSN.BUF_EXT : Nat := 0x600034
def BSN.VOQ_HEAD (i : Nat) : Nat := 0x600040 + 0x4 * i
def BSN.POOL_CNT_COUNT (i j : Nat) : Fld := ⟨0x601000 + 0x100 * i + 0x4 * j, 16, 0⟩
def BSN.RSV_LL (i j : Nat) : Fld := ⟨0x601010 + 0x100 * i + 0x4 * j, 31, 16⟩
def BSN.RSV_SCHED (i j : Nat) : Fld := ⟨0x601010 + 0x100 * i + 0x4 * j, 15, 0⟩
def BSN.RANK_MAP_MAP (i : Nat) : Fld := ⟨0x601020 + 0x100 * i, 15, 0⟩
def BSN.PFC_TH_XOFF_TH (i : Nat) : Fld := ⟨0x601024 + 0x100 * i, 31, 16⟩
def BSN.PFC_TH_XON_TH (i : Nat) : Fld := ⟨0x601024 + 0x100 * i, 15, 0⟩
def BSN.AGE_CFG_WAIT_US (i : Nat) : Fld := ⟨0x601028 + 0x100 * i, 25, 16⟩
def BSN.AGE_CFG_AGE_MS (i : Nat) : Fld := ⟨0x601028 + 0x100 * i, 10, 0⟩
def BSN.GW_RSV_COUNT (i : Nat) : Fld := ⟨0x60102c + 0x100 * i, 15, 0⟩
def BSN.FREE (i j : Nat) : Nat := 0x601030 + 0x100 * i + 0x4 * j
def BSN.XOFF_STATE_TC (i : Nat) : Fld := ⟨0x601040 + 0x100 * i, 7, 0⟩
def BSN.DESC_FREE (i : Nat) : Nat := 0x601044 + 0x100 * i
def BSN.ARRIVAL_LEVEL (i : Nat) : Nat := 0x601048 + 0x100 * i
def BSN.RR_PTR_PTR (i : Nat) : Fld := ⟨0x60104c + 0x100 * i, 2, 0⟩
def BSN.VOQ_LIMIT_TC_FRAMES (i j : Nat) : Fld := ⟨0x601060 + 0x100 * i + 0x4 * j, 13, 0⟩
def CRS.CRS_STATUS_B_CAUSE : Fld := ⟨0x700000, 5, 4⟩
def CRS.CRS_STATUS_A_CAUSE : Fld := ⟨0x700000, 3, 2⟩
def CRS.CRS_STATUS_B_UP : Fld := ⟨0x700000, 1, 1⟩
def CRS.CRS_STATUS_A_UP : Fld := ⟨0x700000, 0, 0⟩
def CRS.PLANE_CMD : Nat := 0x700004
def CRS.CRS_EVENT : Nat := 0x700008
def CRS.CRS_EVENT_RES_CONFLICT : Fld := ⟨0x700008, 7, 7⟩
def CRS.CRS_EVENT_STALE_CELL : Fld := ⟨0x700008, 6, 6⟩
def CRS.CRS_EVENT_CELL_ECC : Fld := ⟨0x700008, 5, 5⟩
def CRS.CRS_EVENT_MISSING : Fld := ⟨0x700008, 4, 4⟩
def CRS.CRS_EVENT_RESTORE_FAIL : Fld := ⟨0x700008, 3, 3⟩
def CRS.CRS_EVENT_BOTH_DOWN : Fld := ⟨0x700008, 2, 2⟩
def CRS.CRS_EVENT_PLANE_B_DOWN : Fld := ⟨0x700008, 1, 1⟩
def CRS.CRS_EVENT_PLANE_A_DOWN : Fld := ⟨0x700008, 0, 0⟩
def CRS.CMP_INFO : Nat := 0x700010
def CRS.MISSING_INFO : Nat := 0x700014
def CRS.PTR_SEL : Nat := 0x700018
def CRS.GRANT_PTR_LO : Nat := 0x700020
def CRS.GRANT_PTR_HI : Nat := 0x700024
def CRS.ACCEPT_PTR_LO : Nat := 0x700028
def CRS.ACCEPT_PTR_HI : Nat := 0x70002c
def CRS.TS_SEL : Nat := 0x700030
def CRS.TS_LEVEL : Nat := 0x700034
def CRS.TS_SEQ : Nat := 0x700038
def CRS.TBL_CMD : Nat := 0x700100
def CRS.TBL_STATUS : Nat := 0x700104
def CRS.TBL_STATUS_RESULT : Fld := ⟨0x700104, 27, 24⟩
def CRS.TBL_DATA (i : Nat) : Nat := 0x700200 + 0x4 * i
def LKP.CHANGE_CMD : Nat := 0x800000
def LKP.CHANGE_T_NS_NS : Fld := ⟨0x800004, 29, 0⟩
def LKP.CHANGE_T_SEC_LO_SEC_LO : Fld := ⟨0x800008, 31, 0⟩
def LKP.CHANGE_T_SEC_HI_SEC_HI : Fld := ⟨0x80000c, 15, 0⟩
def LKP.CHANGE_STATUS_ARMED : Fld := ⟨0x800010, 31, 31⟩
def LKP.CHANGE_STATUS_REFUSE_CAUSE : Fld := ⟨0x800010, 26, 24⟩
def LKP.CHANGE_STATUS_REFUSE_PORT : Fld := ⟨0x800010, 23, 20⟩
def LKP.CHANGE_STATUS_PENDING_MASK : Fld := ⟨0x800010, 15, 0⟩
def LKP.LKP_EVENT : Nat := 0x800014
def LKP.LKP_EVENT_ADMIN_LOCKED : Fld := ⟨0x800014, 6, 6⟩
def LKP.LKP_EVENT_ECC_UNCORR : Fld := ⟨0x800014, 5, 5⟩
def LKP.LKP_EVENT_WINDOW_MISS : Fld := ⟨0x800014, 4, 4⟩
def LKP.LKP_EVENT_CANCELLED : Fld := ⟨0x800014, 3, 3⟩
def LKP.LKP_EVENT_CHANGE_LATE : Fld := ⟨0x800014, 2, 2⟩
def LKP.LKP_EVENT_CHANGE_REFUSED : Fld := ⟨0x800014, 1, 1⟩
def LKP.LKP_EVENT_CHANGED : Fld := ⟨0x800014, 0, 0⟩
def LKP.ECC_INFO : Nat := 0x80001c
def LKP.TBL_CMD : Nat := 0x800100
def LKP.TBL_STATUS : Nat := 0x800104
def LKP.TBL_STATUS_RESULT : Fld := ⟨0x800104, 27, 24⟩
def LKP.TBL_DATA (i : Nat) : Nat := 0x800200 + 0x4 * i
def LKP.ADMIN_CFG (i : Nat) : Nat := 0x801000 + 0x100 * i
def LKP.ADMIN_CFG_GATE_EN (i : Nat) : Fld := ⟨0x801000 + 0x100 * i, 31, 31⟩
def LKP.ADMIN_CFG_LIST_LEN (i : Nat) : Fld := ⟨0x801000 + 0x100 * i, 26, 16⟩
def LKP.ADMIN_CFG_INIT_GATES (i : Nat) : Fld := ⟨0x801000 + 0x100 * i, 7, 0⟩
def LKP.ADMIN_CYCLE_TICKS (i : Nat) : Fld := ⟨0x801004 + 0x100 * i, 28, 0⟩
def LKP.ADMIN_BASE_NS_NS (i : Nat) : Fld := ⟨0x801008 + 0x100 * i, 29, 0⟩
def LKP.ADMIN_BASE_SEC_LO_SEC_LO (i : Nat) : Fld := ⟨0x80100c + 0x100 * i, 31, 0⟩
def LKP.ADMIN_BASE_SEC_HI_SEC_HI (i : Nat) : Fld := ⟨0x801010 + 0x100 * i, 15, 0⟩
def LKP.OPER_CFG (i : Nat) : Nat := 0x801014 + 0x100 * i
def LKP.OPER_CFG_GATE_EN (i : Nat) : Fld := ⟨0x801014 + 0x100 * i, 31, 31⟩
def LKP.OPER_CFG_LIST_LEN (i : Nat) : Fld := ⟨0x801014 + 0x100 * i, 26, 16⟩
def LKP.OPER_CFG_INIT_GATES (i : Nat) : Fld := ⟨0x801014 + 0x100 * i, 7, 0⟩
def LKP.OPER_CYCLE_TICKS (i : Nat) : Fld := ⟨0x801018 + 0x100 * i, 28, 0⟩
def LKP.OPER_BASE_NS_NS (i : Nat) : Fld := ⟨0x80101c + 0x100 * i, 29, 0⟩
def LKP.OPER_BASE_SEC_LO_SEC_LO (i : Nat) : Fld := ⟨0x801020 + 0x100 * i, 31, 0⟩
def LKP.OPER_BASE_SEC_HI_SEC_HI (i : Nat) : Fld := ⟨0x801024 + 0x100 * i, 15, 0⟩
def LKP.GATE_STATUS_HOLD (i : Nat) : Fld := ⟨0x801028 + 0x100 * i, 31, 31⟩
def LKP.GATE_STATUS_ENTRY (i : Nat) : Fld := ⟨0x801028 + 0x100 * i, 27, 18⟩
def LKP.GATE_STATUS_GATES (i : Nat) : Fld := ⟨0x801028 + 0x100 * i, 7, 0⟩
def LKP.PMT_CFG_PREEMPTABLE (i : Nat) : Fld := ⟨0x80102c + 0x100 * i, 23, 16⟩
def LKP.PMT_CFG_HOLD_ADV (i : Nat) : Fld := ⟨0x80102c + 0x100 * i, 15, 0⟩
def LKP.SEL_CFG_LOOKAHEAD (i : Nat) : Fld := ⟨0x801030 + 0x100 * i, 31, 16⟩
def LKP.SEL_CFG_LEAD_EXTRA (i : Nat) : Fld := ⟨0x801030 + 0x100 * i, 11, 0⟩
def LKP.SHP_MODE_MODE (i : Nat) : Fld := ⟨0x801034 + 0x100 * i, 15, 0⟩
def LKP.MON_CFG_BIN_BASE (i : Nat) : Fld := ⟨0x801038 + 0x100 * i, 15, 0⟩
def LKP.SEL_STATUS_ELIG (i : Nat) : Fld := ⟨0x80103c + 0x100 * i, 31, 24⟩
def LKP.SEL_STATUS_SET_ASIDE (i : Nat) : Fld := ⟨0x80103c + 0x100 * i, 23, 16⟩
def LKP.SEL_STATUS_BACKLOG (i : Nat) : Fld := ⟨0x80103c + 0x100 * i, 15, 0⟩
def LKP.SHP_RATE_TC_INC (i j : Nat) : Fld := ⟨0x801040 + 0x100 * i + 0x4 * j, 23, 0⟩
def LKP.SHP_BURST_TC_BYTES (i j : Nat) : Fld := ⟨0x801060 + 0x100 * i + 0x4 * j, 19, 0⟩
def LKP.SHP_LEVEL_TC (i j : Nat) : Nat := 0x801080 + 0x100 * i + 0x4 * j
def CAN.CH_CTRL_ONE_SHOT (i : Nat) : Fld := ⟨0x901000 + 0x100 * i, 11, 8⟩
def CAN.CH_CTRL_PAIRED (i : Nat) : Fld := ⟨0x901000 + 0x100 * i, 7, 7⟩
def CAN.CH_CTRL_AUTO_RECOVER (i : Nat) : Fld := ⟨0x901000 + 0x100 * i, 6, 6⟩
def CAN.CH_CTRL_PEX_EN (i : Nat) : Fld := ⟨0x901000 + 0x100 * i, 5, 5⟩
def CAN.CH_CTRL_TDC_EN (i : Nat) : Fld := ⟨0x901000 + 0x100 * i, 4, 4⟩
def CAN.CH_CTRL_FD_EN (i : Nat) : Fld := ⟨0x901000 + 0x100 * i, 3, 3⟩
def CAN.CH_CTRL_MODE (i : Nat) : Fld := ⟨0x901000 + 0x100 * i, 1, 0⟩
def CAN.NBT_NBRP (i : Nat) : Fld := ⟨0x901004 + 0x100 * i, 31, 26⟩
def CAN.NBT_NTSEG1 (i : Nat) : Fld := ⟨0x901004 + 0x100 * i, 25, 17⟩
def CAN.NBT_NTSEG2 (i : Nat) : Fld := ⟨0x901004 + 0x100 * i, 16, 9⟩
def CAN.NBT_NSJW (i : Nat) : Fld := ⟨0x901004 + 0x100 * i, 8, 1⟩
def CAN.DBT_DBRP (i : Nat) : Fld := ⟨0x901008 + 0x100 * i, 31, 26⟩
def CAN.DBT_DTSEG1 (i : Nat) : Fld := ⟨0x901008 + 0x100 * i, 25, 20⟩
def CAN.DBT_DTSEG2 (i : Nat) : Fld := ⟨0x901008 + 0x100 * i, 19, 15⟩
def CAN.DBT_DSJW (i : Nat) : Fld := ⟨0x901008 + 0x100 * i, 14, 10⟩
def CAN.TRX_CTRL_EN (i : Nat) : Fld := ⟨0x90100c + 0x100 * i, 1, 1⟩
def CAN.TRX_CTRL_STB (i : Nat) : Fld := ⟨0x90100c + 0x100 * i, 0, 0⟩
def CAN.CH_STATUS_REC (i : Nat) : Fld := ⟨0x901010 + 0x100 * i, 31, 24⟩
def CAN.CH_STATUS_TEC (i : Nat) : Fld := ⟨0x901010 + 0x100 * i, 23, 16⟩
def CAN.CH_STATUS_TDCV (i : Nat) : Fld := ⟨0x901010 + 0x100 * i, 15, 8⟩
def CAN.CH_STATUS_FROZEN (i : Nat) : Fld := ⟨0x901010 + 0x100 * i, 7, 7⟩
def CAN.CH_STATUS_CLAIM_GATED (i : Nat) : Fld := ⟨0x901010 + 0x100 * i, 6, 6⟩
def CAN.CH_STATUS_BUS_IDLE (i : Nat) : Fld := ⟨0x901010 + 0x100 * i, 5, 5⟩
def CAN.CH_STATUS_RECOVERING (i : Nat) : Fld := ⟨0x901010 + 0x100 * i, 4, 4⟩
def CAN.CH_STATUS_STATE (i : Nat) : Fld := ⟨0x901010 + 0x100 * i, 3, 2⟩
def CAN.CH_STATUS_MODE_ACT (i : Nat) : Fld := ⟨0x901010 + 0x100 * i, 1, 0⟩
def CAN.FIFO_LEVEL (i : Nat) : Nat := 0x901014 + 0x100 * i
def CAN.CH_EVENT (i : Nat) : Nat := 0x901018 + 0x100 * i
def CAN.CH_EVENT_ZONE_VIOL (i : Nat) : Fld := ⟨0x901018 + 0x100 * i, 8, 8⟩
def CAN.CH_EVENT_CFG_LOCKED (i : Nat) : Fld := ⟨0x901018 + 0x100 * i, 7, 7⟩
def CAN.CH_EVENT_BAD_TIMING (i : Nat) : Fld := ⟨0x901018 + 0x100 * i, 6, 6⟩
def CAN.CH_EVENT_PROTO_EXC (i : Nat) : Fld := ⟨0x901018 + 0x100 * i, 5, 5⟩
def CAN.CH_EVENT_TX_FULL (i : Nat) : Fld := ⟨0x901018 + 0x100 * i, 4, 4⟩
def CAN.CH_EVENT_RX_OVF (i : Nat) : Fld := ⟨0x901018 + 0x100 * i, 3, 3⟩
def CAN.CH_EVENT_RECOVERED (i : Nat) : Fld := ⟨0x901018 + 0x100 * i, 2, 2⟩
def CAN.CH_EVENT_BUS_OFF (i : Nat) : Fld := ⟨0x901018 + 0x100 * i, 1, 1⟩
def CAN.CH_EVENT_ERR_PASSIVE (i : Nat) : Fld := ⟨0x901018 + 0x100 * i, 0, 0⟩
def CAN.TXF_TH_KEY (i j : Nat) : Fld := ⟨0x901020 + 0x100 * i + 0x4 * j, 28, 0⟩
def CAN.CANCEL_ID_IDE (i : Nat) : Fld := ⟨0x90102c + 0x100 * i, 31, 31⟩
def CAN.CANCEL_ID_ID (i : Nat) : Fld := ⟨0x90102c + 0x100 * i, 28, 0⟩
def CAN.CANCEL_CMD_OP (i : Nat) : Fld := ⟨0x901030 + 0x100 * i, 1, 0⟩
def CAN.CANCEL_STATUS_BUSY (i : Nat) : Fld := ⟨0x901034 + 0x100 * i, 31, 31⟩
def CAN.CANCEL_STATUS_RESULT (i : Nat) : Fld := ⟨0x901034 + 0x100 * i, 2, 0⟩
def CAN.RECOVER_CMD_GO (i : Nat) : Fld := ⟨0x901038 + 0x100 * i, 0, 0⟩
def GWE.GW_CTRL_FRESH_SKIP : Fld := ⟨0xa00000, 15, 0⟩
def GWE.GWE_EVENT : Nat := 0xa00004
def GWE.GWE_EVENT_QUEUED : Fld := ⟨0xa00004, 5, 5⟩
def GWE.GWE_EVENT_EVQ_OVF : Fld := ⟨0xa00004, 4, 4⟩
def GWE.GWE_EVENT_ECC_UNCORR : Fld := ⟨0xa00004, 3, 3⟩
def GWE.GWE_EVENT_UNPACK_BAD : Fld := ⟨0xa00004, 2, 2⟩
def GWE.GWE_EVENT_PACK_OVF : Fld := ⟨0xa00004, 1, 1⟩
def GWE.GWE_EVENT_SEC_FAIL : Fld := ⟨0xa00004, 0, 0⟩
def GWE.GW_DA_HI_DA_HI : Fld := ⟨0xa0000c, 15, 0⟩
def GWE.GW_DA_LO_DA_LO : Fld := ⟨0xa00010, 31, 0⟩
def GWE.GW_SA_HI_SA_HI : Fld := ⟨0xa00014, 15, 0⟩
def GWE.GW_SA_LO_SA_LO : Fld := ⟨0xa00018, 31, 0⟩
def GWE.GW_SID_HI : Nat := 0xa0001c
def GWE.GW_SID_LO : Nat := 0xa00020
def GWE.SEC_FAIL_INFO : Nat := 0xa00024
def GWE.EVQ_LEVEL : Nat := 0xa00028
def GWE.EVQ_DATA : Nat := 0xa0002c
def GWE.TBL_CMD : Nat := 0xa00100
def GWE.TBL_STATUS_BUSY : Fld := ⟨0xa00104, 31, 31⟩
def GWE.TBL_STATUS_RESULT : Fld := ⟨0xa00104, 27, 24⟩
def GWE.TBL_DATA (i : Nat) : Nat := 0xa00200 + 0x4 * i
def CPH.CPH_EVENT : Nat := 0xb00000
def CPH.CPH_EVENT_CTR_REFUSED : Fld := ⟨0xb00000, 6, 6⟩
def CPH.CPH_EVENT_ECC_UNCORR : Fld := ⟨0xb00000, 5, 5⟩
def CPH.CPH_EVENT_CFG_LOCKED : Fld := ⟨0xb00000, 4, 4⟩
def CPH.CPH_EVENT_KEY_LOST : Fld := ⟨0xb00000, 3, 3⟩
def CPH.CPH_EVENT_PN_EXHAUSTED : Fld := ⟨0xb00000, 2, 2⟩
def CPH.CPH_EVENT_PN_THRESH : Fld := ⟨0xb00000, 1, 1⟩
def CPH.CPH_EVENT_FBV_FAIL : Fld := ⟨0xb00000, 0, 0⟩
def CPH.PN_INFO_SA : Fld := ⟨0xb00008, 8, 0⟩
def CPH.ECC_INFO : Nat := 0xb0000c
def CPH.PN_SKIP : Nat := 0xb00010
def CPH.PN_THRESH_LO : Nat := 0xb00014
def CPH.PN_THRESH_HI : Nat := 0xb00018
def CPH.LA_STATUS : Nat := 0xb0001c
def CPH.TBL_CMD : Nat := 0xb00100
def CPH.TBL_STATUS_BUSY : Fld := ⟨0xb00104, 31, 31⟩
def CPH.TBL_STATUS_RESULT : Fld := ⟨0xb00104, 27, 24⟩
def CPH.TBL_DATA (i : Nat) : Nat := 0xb00200 + 0x4 * i
def CPH.LA_REQ (i : Nat) : Nat := 0xb00400 + 0x4 * i
def CPH.LA_SUBMIT : Nat := 0xb00480
def CPH.LA_SUB_STATUS_RESULT : Fld := ⟨0xb00484, 1, 0⟩
def CPH.LA_RES_LEVEL : Nat := 0xb00488
def CPH.LA_RES (i : Nat) : Nat := 0xb004a0 + 0x4 * i
def CPH.LA_CTR_LO (i : Nat) : Nat := 0xb00800 + 0x10 * i
def CPH.LA_CTR_HI (i : Nat) : Nat := 0xb00804 + 0x10 * i
def CPH.LA_IV_FIXED (i : Nat) : Nat := 0xb00808 + 0x10 * i
def CPH.PORT_SEC_CFG_CONF_OFFSET (i : Nat) : Fld := ⟨0xb01000 + 0x40 * i, 6, 5⟩
def CPH.PORT_SEC_CFG_CLEAR_TAGS (i : Nat) : Fld := ⟨0xb01000 + 0x40 * i, 4, 3⟩
def CPH.PORT_SEC_CFG_SUITE (i : Nat) : Fld := ⟨0xb01000 + 0x40 * i, 2, 1⟩
def CPH.PORT_SEC_CFG_SECURED (i : Nat) : Fld := ⟨0xb01000 + 0x40 * i, 0, 0⟩
def CPH.BYPASS_EN (i j : Nat) : Fld := ⟨0xb01004 + 0x40 * i + 0x4 * j, 16, 16⟩
def CPH.BYPASS_ETYPE (i j : Nat) : Fld := ⟨0xb01004 + 0x40 * i + 0x4 * j, 15, 0⟩
def KEY.KEY_CMD : Nat := 0xc00000
def KEY.KEY_STATUS_BUSY : Fld := ⟨0xc00004, 31, 31⟩
def KEY.KEY_STATUS_ZEROIZING : Fld := ⟨0xc00004, 30, 30⟩
def KEY.KEY_STATUS_RESULT : Fld := ⟨0xc00004, 27, 24⟩
def KEY.KEY_STATUS_SLOT : Fld := ⟨0xc00004, 9, 0⟩
def KEY.KEY_SRC_SRC : Fld := ⟨0xc00008, 9, 0⟩
def KEY.KEY_ATTR_IN : Nat := 0xc0000c
def KEY.KDF_CFG_UID : Fld := ⟨0xc00010, 31, 31⟩
def KEY.KDF_CFG_LABEL_LEN : Fld := ⟨0xc00010, 13, 8⟩
def KEY.KDF_CFG_CTX_LEN : Fld := ⟨0xc00010, 5, 0⟩
def KEY.INFO_ATTR : Nat := 0xc00014
def KEY.INFO_REF : Nat := 0xc00018
def KEY.KEY_EVENT : Nat := 0xc0001c
def KEY.KEY_EVENT_OTP_FAIL : Fld := ⟨0xc0001c, 6, 6⟩
def KEY.KEY_EVENT_OTP_DONE : Fld := ⟨0xc0001c, 5, 5⟩
def KEY.KEY_EVENT_CMD_IGNORED : Fld := ⟨0xc0001c, 4, 4⟩
def KEY.KEY_EVENT_ROOT_SUBST : Fld := ⟨0xc0001c, 3, 3⟩
def KEY.KEY_EVENT_ZEROIZED : Fld := ⟨0xc0001c, 2, 2⟩
def KEY.KEY_EVENT_DENIED : Fld := ⟨0xc0001c, 1, 1⟩
def KEY.KEY_EVENT_DONE : Fld := ⟨0xc0001c, 0, 0⟩
def KEY.LC_STATUS_DEBUG_ROOT : Fld := ⟨0xc00024, 4, 4⟩
def KEY.LC_STATUS_LC_STATE : Fld := ⟨0xc00024, 2, 0⟩
def KEY.LC_CMD : Nat := 0xc00028
def KEY.OTP_ARB_VALUE : Fld := ⟨0xc0002c, 6, 0⟩
def KEY.OTP_SPLIT_CHANGES : Fld := ⟨0xc00030, 2, 1⟩
def KEY.OTP_SPLIT_VALUE : Fld := ⟨0xc00030, 0, 0⟩
def KEY.OTP_CMD : Nat := 0xc00034
def KEY.OTP_STATUS_BUSY : Fld := ⟨0xc00038, 31, 31⟩
def KEY.OTP_STATUS_RESULT : Fld := ⟨0xc00038, 27, 24⟩
def KEY.KEY_DATA (i : Nat) : Nat := 0xc00040 + 0x4 * i
def KEY.KDF_LABEL (i : Nat) : Nat := 0xc00080 + 0x4 * i
def KEY.KDF_CTX (i : Nat) : Nat := 0xc00090 + 0x4 * i
def TWP.TWP_CTRL_NET_HB_PORT : Fld := ⟨0xd00000, 11, 8⟩
def TWP.TWP_CTRL_NET_HB_EN : Fld := ⟨0xd00000, 7, 7⟩
def TWP.TWP_CTRL_LINE_EN : Fld := ⟨0xd00000, 6, 6⟩
def TWP.TWP_CTRL_TW_EN : Fld := ⟨0xd00000, 5, 5⟩
def TWP.TWP_CTRL_PAIR_EN : Fld := ⟨0xd00000, 0, 0⟩
def TWP.PAIR_CYCLE_US : Fld := ⟨0xd00004, 13, 0⟩
def TWP.PAIR_BASE_NS_NS : Fld := ⟨0xd00008, 29, 0⟩
def TWP.PAIR_BASE_SEC_LO_SEC_LO : Fld := ⟨0xd0000c, 31, 0⟩
def TWP.PAIR_BASE_SEC_HI_SEC_HI : Fld := ⟨0xd00010, 15, 0⟩
def TWP.PAIRED_PORTS : Nat := 0xd00014
def TWP.PAIRED_PORTS_PORTS : Fld := ⟨0xd00014, 13, 0⟩
def TWP.HB_CFG_SWAP_GUARD : Fld := ⟨0xd00018, 31, 16⟩
def TWP.HB_CFG_HB_GRACE : Fld := ⟨0xd00018, 9, 0⟩
def TWP.OFFSET_LIMIT_NS : Fld := ⟨0xd0001c, 15, 0⟩
def TWP.CLAIM_STATUS_OWN : Fld := ⟨0xd00020, 31, 16⟩
def TWP.CLAIM_STATUS_PEER : Fld := ⟨0xd00020, 15, 0⟩
def TWP.PAIR_STATUS_IMG_DIFF : Fld := ⟨0xd00024, 13, 13⟩
def TWP.PAIR_STATUS_HELD : Fld := ⟨0xd00024, 12, 12⟩
def TWP.PAIR_STATUS_DIVERGED : Fld := ⟨0xd00024, 10, 10⟩
def TWP.PAIR_STATUS_SYNCED : Fld := ⟨0xd00024, 9, 9⟩
def TWP.PAIR_STATUS_PEER_PRESENT : Fld := ⟨0xd00024, 8, 8⟩
def TWP.PAIR_STATUS_NET_UP : Fld := ⟨0xd00024, 7, 7⟩
def TWP.PAIR_STATUS_LINE_UP : Fld := ⟨0xd00024, 6, 6⟩
def TWP.PAIR_STATUS_TW_UP : Fld := ⟨0xd00024, 5, 5⟩
def TWP.PAIR_STATUS_MISSED : Fld := ⟨0xd00024, 4, 3⟩
def TWP.PAIR_STATUS_DRIVING : Fld := ⟨0xd00024, 2, 2⟩
def TWP.TWP_CMD : Nat := 0xd00028
def TWP.SWAP_T_NS_NS : Fld := ⟨0xd0002c, 29, 0⟩
def TWP.SWAP_T_SEC_LO_SEC_LO : Fld := ⟨0xd00030, 31, 0⟩
def TWP.SWAP_T_SEC_HI_SEC_HI : Fld := ⟨0xd00034, 15, 0⟩
def TWP.SWAP_STATUS_ARMED : Fld := ⟨0xd00038, 31, 31⟩
def TWP.SWAP_STATUS_CAUSE : Fld := ⟨0xd00038, 27, 24⟩
def TWP.SWAP_STATUS_EPOCH : Fld := ⟨0xd00038, 10, 0⟩
def TWP.PC_TAG : Nat := 0xd0003c
def TWP.TWP_EVENT : Nat := 0xd00040
def TWP.TWP_EVENT_STANDBY_YIELD : Fld := ⟨0xd00040, 17, 17⟩
def TWP.TWP_EVENT_ISOLATED : Fld := ⟨0xd00040, 16, 16⟩
def TWP.TWP_EVENT_DUAL_ACTIVE : Fld := ⟨0xd00040, 15, 15⟩
def TWP.TWP_EVENT_ID_CLASH : Fld := ⟨0xd00040, 14, 14⟩
def TWP.TWP_EVENT_CFG_MISMATCH : Fld := ⟨0xd00040, 13, 13⟩
def TWP.TWP_EVENT_TIME_DIVERGE : Fld := ⟨0xd00040, 12, 12⟩
def TWP.TWP_EVENT_DIVERGED : Fld := ⟨0xd00040, 11, 11⟩
def TWP.TWP_EVENT_PC_CANCELLED : Fld := ⟨0xd00040, 10, 10⟩
def TWP.TWP_EVENT_NOTE_GAP : Fld := ⟨0xd00040, 8, 8⟩
def TWP.TWP_EVENT_SNAP_OVERRUN : Fld := ⟨0xd00040, 9, 9⟩
def TWP.TWP_EVENT_RESYNC_DONE : Fld := ⟨0xd00040, 7, 7⟩
def TWP.TWP_EVENT_DIGEST_MISMATCH : Fld := ⟨0xd00040, 6, 6⟩
def TWP.TWP_EVENT_SWAP_REFUSED : Fld := ⟨0xd00040, 5, 5⟩
def TWP.TWP_EVENT_SWAPPED : Fld := ⟨0xd00040, 4, 4⟩
def TWP.TWP_EVENT_PEER_LOST : Fld := ⟨0xd00040, 3, 3⟩
def TWP.TWP_EVENT_PATH_DOWN : Fld := ⟨0xd00040, 2, 2⟩
def TWP.TWP_EVENT_HB_MISS : Fld := ⟨0xd00040, 1, 1⟩
def TWP.TWP_EVENT_TAKEOVER : Fld := ⟨0xd00040, 0, 0⟩
def TWP.SYNC_INFO : Nat := 0xd00048
def TWP.PEER_OFFSET : Nat := 0xd0004c
def TWP.TW_DELAY : Nat := 0xd00050
def TWP.TAKEOVER_NS : Nat := 0xd00054
def TWP.TAKEOVER_SEC_LO : Nat := 0xd00058
def TWP.PEER_TIM (i : Nat) : Nat := 0xd00060 + 0x4 * i
def CPU.CPU_STATUS_SPLIT : Fld := ⟨0xe00000, 10, 10⟩
def CPU.CPU_STATUS_SEC_DBG_EN : Fld := ⟨0xe00000, 9, 9⟩
def CPU.CPU_STATUS_CTRL_DBG_EN : Fld := ⟨0xe00000, 8, 8⟩
def CPU.CPU_STATUS_SEC_STATE : Fld := ⟨0xe00000, 6, 4⟩
def CPU.CPU_STATUS_CTRL_STATE : Fld := ⟨0xe00000, 2, 0⟩
def CPU.LS_CFG_WINDOW_S : Fld := ⟨0xe00004, 23, 16⟩
def CPU.LS_CFG_RESTART_MAX : Fld := ⟨0xe00004, 11, 8⟩
def CPU.LS_CFG_SEC_RESTART : Fld := ⟨0xe00004, 1, 1⟩
def CPU.LS_CFG_CTRL_RESTART : Fld := ⟨0xe00004, 0, 0⟩
def CPU.RESTART_VEC_CTRL : Nat := 0xe00008
def CPU.RESTART_VEC_SEC : Nat := 0xe0000c
def CPU.CPU_EVENT : Nat := 0xe00010
def CPU.CPU_EVENT_DBG_AUTH_FAIL : Fld := ⟨0xe00010, 7, 7⟩
def CPU.CPU_EVENT_DBG_ENABLED : Fld := ⟨0xe00010, 6, 6⟩
def CPU.CPU_EVENT_MEM_ECC_UNCORR : Fld := ⟨0xe00010, 5, 5⟩
def CPU.CPU_EVENT_SEC_GIVEUP : Fld := ⟨0xe00010, 4, 4⟩
def CPU.CPU_EVENT_CTRL_GIVEUP : Fld := ⟨0xe00010, 3, 3⟩
def CPU.CPU_EVENT_SEC_LS : Fld := ⟨0xe00010, 2, 2⟩
def CPU.CPU_EVENT_CTRL_LS : Fld := ⟨0xe00010, 1, 1⟩
def CPU.CPU_EVENT_RESTARTED : Fld := ⟨0xe00010, 0, 0⟩
def CPU.LS_INFO_CTRL : Nat := 0xe00018
def CPU.LS_PC_CTRL : Nat := 0xe0001c
def CPU.LS_INFO_SEC : Nat := 0xe00020
def CPU.LS_PC_SEC : Nat := 0xe00024
def CPU.MEM_ECC_INFO : Nat := 0xe00028
def CPU.IPI : Nat := 0xe00030
def CPU.CORE_CMD : Nat := 0xe0002c
def CPU.MTIME_LO : Nat := 0xe00034
def CPU.MTIME_HI : Nat := 0xe00038
def CPU.MTIMECMP_LO (i : Nat) : Nat := 0xe00040 + 0x8 * i
def CPU.MTIMECMP_HI (i : Nat) : Nat := 0xe00044 + 0x8 * i
def CPU.DBG_AUTH_CMD : Nat := 0xe00060
def CPU.DBG_AUTH_STATUS_BUSY : Fld := ⟨0xe00064, 31, 31⟩
def CPU.DBG_AUTH_STATUS_RESULT : Fld := ⟨0xe00064, 27, 24⟩
def CPU.DBG_AUTH_STATUS_GRANTED : Fld := ⟨0xe00064, 5, 4⟩
def CPU.DBG_AUTH_STATUS_FAILS : Fld := ⟨0xe00064, 1, 0⟩
def CPU.DBG_NONCE (i : Nat) : Nat := 0xe00070 + 0x4 * i
def CPU.DBG_SIG (i : Nat) : Nat := 0xe00080 + 0x4 * i
def BRG.BRG_TIMEOUT_PEER_TIMEOUT : Fld := ⟨0xf00000, 31, 16⟩
def BRG.BRG_TIMEOUT_LOCK_TIMEOUT : Fld := ⟨0xf00000, 15, 0⟩
def BRG.BRG_STATUS_LOCK_IN : Fld := ⟨0xf00004, 3, 3⟩
def BRG.BRG_STATUS_LOCK_OUT : Fld := ⟨0xf00004, 2, 2⟩
def BRG.BRG_STATUS_TW_LINK : Fld := ⟨0xf00004, 1, 1⟩
def BRG.BRG_STATUS_PCIE_LINK : Fld := ⟨0xf00004, 0, 0⟩
def BRG.BRG_EVENT : Nat := 0xf00008
def BRG.BRG_EVENT_LOCK_IGNORED : Fld := ⟨0xf00008, 5, 5⟩
def BRG.BRG_EVENT_LOCK_TIMEOUT : Fld := ⟨0xf00008, 4, 4⟩
def BRG.BRG_EVENT_PCIE_DOWN : Fld := ⟨0xf00008, 3, 3⟩
def BRG.BRG_EVENT_PERR_LOST : Fld := ⟨0xf00008, 2, 2⟩
def BRG.BRG_EVENT_PERR : Fld := ⟨0xf00008, 1, 1⟩
def BRG.BRG_EVENT_READ_ERR : Fld := ⟨0xf00008, 0, 0⟩
def BRG.RING_EVENT : Nat := 0xf00010
def BRG.RING_EVENT_EN : Nat := 0xf00014
def BRG.PERR_STICKY : Nat := 0xf00018
def BRG.PERR_LEVEL : Nat := 0xf0001c
def BRG.PERR_LOG (i : Nat) : Nat := 0xf00020 + 0x4 * i
def BRG.PEER_LOCK_ADDR_SEM : Fld := ⟨0xf00030, 2, 0⟩
def BRG.PEER_LOCK_DATA : Nat := 0xf00034
def BRG.PEER_LOCK_CMD : Nat := 0xf00038
def BRG.PEER_LOCK_STATUS_BUSY : Fld := ⟨0xf0003c, 31, 31⟩
def BRG.PEER_LOCK_STATUS_RESULT : Fld := ⟨0xf0003c, 27, 24⟩
def BRG.BRG_SEM (i : Nat) : Nat := 0xf00040 + 0x4 * i
def BRG.HOST_WIN_LO_BASE_LO (i : Nat) : Fld := ⟨0xf00100 + 0x10 * i, 31, 12⟩
def BRG.HOST_WIN_HI (i : Nat) : Nat := 0xf00104 + 0x10 * i
def BRG.HOST_WIN_CTRL_DATA_INV (i : Nat) : Fld := ⟨0xf00108 + 0x10 * i, 1, 1⟩
def BRG.HOST_WIN_CTRL_EN (i : Nat) : Fld := ⟨0xf00108 + 0x10 * i, 0, 0⟩
def BRG.PEER_WIN_EN (i : Nat) : Fld := ⟨0xf00140 + 0x4 * i, 31, 31⟩
def BRG.PEER_WIN_TARGET (i : Nat) : Fld := ⟨0xf00140 + 0x4 * i, 4, 0⟩
def BRG.RING_BASE_LO_BASE_LO (i j : Nat) : Fld := ⟨0xf01000 + 0x200 * i + 0x40 * j, 31, 6⟩
def BRG.RING_BASE_HI (i j : Nat) : Nat := 0xf01004 + 0x200 * i + 0x40 * j
def BRG.RING_SIZE_ENTRIES (i j : Nat) : Fld := ⟨0xf01008 + 0x200 * i + 0x40 * j, 15, 0⟩
def BRG.RING_HEAD (i j : Nat) : Nat := 0xf0100c + 0x200 * i + 0x40 * j
def BRG.RING_HEAD_HEAD (i j : Nat) : Fld := ⟨0xf0100c + 0x200 * i + 0x40 * j, 15, 0⟩
def BRG.RING_TAIL (i j : Nat) : Nat := 0xf01010 + 0x200 * i + 0x40 * j
def BRG.RING_TAIL_TAIL (i j : Nat) : Fld := ⟨0xf01010 + 0x200 * i + 0x40 * j, 15, 0⟩
def BRG.RING_CTRL (i j : Nat) : Nat := 0xf01014 + 0x200 * i + 0x40 * j
def BRG.RING_CTRL_COAL_US (i j : Nat) : Fld := ⟨0xf01014 + 0x200 * i + 0x40 * j, 31, 16⟩
def BRG.RING_CTRL_COAL_FRAMES (i j : Nat) : Fld := ⟨0xf01014 + 0x200 * i + 0x40 * j, 15, 8⟩
def BRG.RING_CTRL_RANK (i j : Nat) : Fld := ⟨0xf01014 + 0x200 * i + 0x40 * j, 3, 2⟩
def BRG.RING_CTRL_ENABLE (i j : Nat) : Fld := ⟨0xf01014 + 0x200 * i + 0x40 * j, 0, 0⟩
def BRG.RING_STATUS_ERR_STOP (i j : Nat) : Fld := ⟨0xf01018 + 0x200 * i + 0x40 * j, 1, 1⟩
def BRG.RING_STATUS_RUNNING (i j : Nat) : Fld := ⟨0xf01018 + 0x200 * i + 0x40 * j, 0, 0⟩
def SYS.SYS_ID : Nat := 0x0
def SYS.UID (i : Nat) : Nat := 0x4 + 0x4 * i
def SYS.SYS_STRAP_BOOT_MODE : Fld := ⟨0x14, 2, 1⟩
def SYS.SYS_STRAP_PAIR_ID : Fld := ⟨0x14, 0, 0⟩
def SYS.SYS_STATUS_STAGE : Fld := ⟨0x1c, 31, 28⟩
def SYS.SYS_STATUS_RELEASED : Fld := ⟨0x1c, 27, 27⟩
def SYS.SYS_STATUS_BANK : Fld := ⟨0x1c, 26, 26⟩
def SYS.SYS_STATUS_FROM_HOST : Fld := ⟨0x1c, 25, 25⟩
def SYS.SYS_STATUS_PAYLOAD_OK : Fld := ⟨0x1c, 24, 24⟩
def SYS.SYS_STATUS_DBG_KEY_VALID : Fld := ⟨0x1c, 23, 23⟩
def SYS.SYS_STATUS_TEST_ROOT : Fld := ⟨0x1c, 22, 22⟩
def SYS.SYS_STATUS_PLL2_LOCK : Fld := ⟨0x1c, 3, 3⟩
def SYS.SYS_STATUS_PLL1_LOCK : Fld := ⟨0x1c, 2, 2⟩
def SYS.SYS_STATUS_PLL0_LOCK : Fld := ⟨0x1c, 1, 1⟩
def SYS.SYS_STATUS_REFCLK_OK : Fld := ⟨0x1c, 0, 0⟩
def SYS.SYS_CMD : Nat := 0x20
def SYS.BOOT_ERR_A : Nat := 0x24
def SYS.BOOT_ERR_B : Nat := 0x28
def SYS.RELEASE_WAIT : Nat := 0x2c
def SYS.RELEASE_WAIT_MS : Fld := ⟨0x2c, 15, 0⟩
def SYS.FW_ENTRY_CTRL : Nat := 0x30
def SYS.FW_ENTRY_SEC : Nat := 0x34
def SYS.SEC_VER : Nat := 0x38
def SYS.SEC_VER_VER : Fld := ⟨0x38, 7, 0⟩
def SYS.IMG_ID : Nat := 0x3c
def SYS.IMG_HASH (i : Nat) : Nat := 0x40 + 0x4 * i
def SYS.HOST_IMG_LO : Nat := 0x60
def SYS.HOST_IMG_HI : Nat := 0x64
def SYS.SYS_EVENT : Nat := 0x68
def SYS.SYS_EVENT_CODE_RELOAD_FAIL : Fld := ⟨0x68, 6, 6⟩
def SYS.SYS_EVENT_CODE_RELOAD : Fld := ⟨0x68, 5, 5⟩
def SYS.SYS_EVENT_PAYLOAD_FAIL : Fld := ⟨0x68, 4, 4⟩
def SYS.SYS_EVENT_PAYLOAD_OK : Fld := ⟨0x68, 3, 3⟩
def SYS.SYS_EVENT_BOOT_FAIL : Fld := ⟨0x68, 2, 2⟩
def SYS.SYS_EVENT_FALLBACK : Fld := ⟨0x68, 1, 1⟩
def SYS.SYS_EVENT_RELEASED : Fld := ⟨0x68, 0, 0⟩
def SYS.SYS_EVENT_EN : Nat := 0x6c
def SYS.PCIE_VID : Nat := 0x70
def SYS.PCIE_SUBSYS : Nat := 0x74
def SYS.TBL_OWNER : Nat := 0x78
def SYS.DBG_KEY (i : Nat) : Nat := 0x80 + 0x4 * i
def UPD.UPD_CMD : Nat := 0x1000000
def UPD.UPD_STATUS : Nat := 0x1000004
def UPD.UPD_SESS_HELD : Fld := ⟨0x1000008, 31, 31⟩
def UPD.UPD_SESS_TIMEOUT_S : Fld := ⟨0x1000008, 15, 0⟩
def UPD.UPD_BANKS : Nat := 0x100000c
def UPD.BS_SEQ : Nat := 0x1000010
def UPD.BLK_INDEX_INDEX : Fld := ⟨0x1000014, 14, 0⟩
def UPD.BLK_CRC : Nat := 0x1000018
def UPD.IMG_BLOCKS_BLOCKS : Fld := ⟨0x100001c, 14, 0⟩
def UPD.BLK_DONE_COUNT : Fld := ⟨0x1000020, 14, 0⟩
def UPD.UPD_VERIFY_ERR : Nat := 0x1000024
def UPD.RD_OFF : Nat := 0x1000028
def UPD.RD_LEN_BYTES : Fld := ⟨0x100002c, 12, 0⟩
def UPD.UPD_EVENT : Nat := 0x1000030
def UPD.UPD_EVENT_FLASH_ERR : Fld := ⟨0x1000030, 6, 6⟩
def UPD.UPD_EVENT_ARB_ADVANCED : Fld := ⟨0x1000030, 5, 5⟩
def UPD.UPD_EVENT_SESS_TIMEOUT : Fld := ⟨0x1000030, 4, 4⟩
def UPD.UPD_EVENT_REVERTED : Fld := ⟨0x1000030, 3, 3⟩
def UPD.UPD_EVENT_CONFIRMED : Fld := ⟨0x1000030, 2, 2⟩
def UPD.UPD_EVENT_ACTIVATED : Fld := ⟨0x1000030, 1, 1⟩
def UPD.UPD_EVENT_VERIFIED : Fld := ⟨0x1000030, 0, 0⟩
def UPD.UPD_DATA (i : Nat) : Nat := 0x1001000 + 0x4 * i
def UPD.UPD_RDATA (i : Nat) : Nat := 0x1002000 + 0x4 * i
def WAK.WAK_CTRL_RS_TIME : Fld := ⟨0x1100000, 31, 16⟩
def WAK.PREP_CFG_PREP_TIME : Fld := ⟨0x1100004, 13, 0⟩
def WAK.WAK_CTRL_PREP_FORCE : Fld := ⟨0x1100000, 1, 1⟩
def WAK.WAK_CTRL_SLEEP_EN : Fld := ⟨0x1100000, 0, 0⟩
def WAK.SLEEP_CMD : Nat := 0x1100008
def WAK.SLEEP_STATUS_RESULT : Fld := ⟨0x110000c, 31, 28⟩
def WAK.SLEEP_STATUS_CAUSE : Fld := ⟨0x110000c, 27, 24⟩
def WAK.SLEEP_STATUS_STATE : Fld := ⟨0x110000c, 2, 0⟩
def WAK.ABORT_INFO_CAUSE : Fld := ⟨0x1100010, 31, 28⟩
def WAK.ABORT_INFO_INDEX : Fld := ⟨0x1100010, 27, 24⟩
def WAK.ABORT_INFO_GROUP : Fld := ⟨0x1100010, 23, 21⟩
def WAK.ABORT_INFO_DEVICE : Fld := ⟨0x1100010, 20, 20⟩
def WAK.ABORT_INFO_IN_GROUP : Fld := ⟨0x1100010, 19, 19⟩
def WAK.WAK_EVENT : Nat := 0x1100014
def WAK.WAK_EVENT_GRP_BUSY : Fld := ⟨0x1100014, 9, 9⟩
def WAK.WAK_EVENT_GRP_CONFLICT : Fld := ⟨0x1100014, 8, 8⟩
def WAK.WAK_EVENT_LATE_WAKE : Fld := ⟨0x1100014, 7, 7⟩
def WAK.WAK_EVENT_GROUP_WOKE : Fld := ⟨0x1100014, 6, 6⟩
def WAK.WAK_EVENT_GROUP_SLEPT : Fld := ⟨0x1100014, 5, 5⟩
def WAK.WAK_EVENT_KA_OVF : Fld := ⟨0x1100014, 4, 4⟩
def WAK.WAK_EVENT_STUCK_DOM : Fld := ⟨0x1100014, 3, 3⟩
def WAK.WAK_EVENT_RET_FAIL : Fld := ⟨0x1100014, 2, 2⟩
def WAK.WAK_EVENT_SLEEP_ABORT : Fld := ⟨0x1100014, 1, 1⟩
def WAK.WAK_EVENT_WOKE : Fld := ⟨0x1100014, 0, 0⟩
def WAK.WAKE_SRC : Nat := 0x110001c
def WAK.WAKE_SRC_VALID : Fld := ⟨0x110001c, 31, 31⟩
def WAK.WAKE_SRC_KIND : Fld := ⟨0x110001c, 30, 28⟩
def WAK.WAKE_SRC_INDEX : Fld := ⟨0x110001c, 27, 24⟩
def WAK.WAKE_SRC_GROUP : Fld := ⟨0x110001c, 23, 21⟩
def WAK.WAKE_SRC_AFTER_COMMIT : Fld := ⟨0x110001c, 20, 20⟩
def WAK.WAKE_SRC_GROUP_ONLY : Fld := ⟨0x110001c, 19, 19⟩
def WAK.WAKE_SRC_IN_GROUP : Fld := ⟨0x110001c, 18, 18⟩
def WAK.WAKE_ID : Nat := 0x1100020
def WAK.WAKE_AO : Nat := 0x1100024
def WAK.WAKE_ALL : Nat := 0x1100028
def WAK.WAKE_ALL_TIMER : Fld := ⟨0x1100028, 30, 30⟩
def WAK.AO_TIME_LO : Nat := 0x110002c
def WAK.AO_TIME_HI : Nat := 0x1100030
def WAK.COMMIT_AO : Nat := 0x1100034
def WAK.WAKE_TIMER_SECONDS : Fld := ⟨0x1100038, 15, 0⟩
def WAK.ISOLATED : Nat := 0x110003c
def WAK.KA_LEVEL : Nat := 0x1100040
def WAK.KA_LOG (i : Nat) : Nat := 0x1100044 + 0x4 * i
def WAK.CAN_WAKE_CFG_METHOD (i : Nat) : Fld := ⟨0x1100100 + 0x40 * i, 31, 30⟩
def WAK.CAN_WAKE_CFG_RATE (i : Nat) : Fld := ⟨0x1100100 + 0x40 * i, 29, 27⟩
def WAK.CAN_WAKE_CFG_KA_EN (i : Nat) : Fld := ⟨0x1100100 + 0x40 * i, 26, 26⟩
def WAK.CAN_WAKE_CFG_FILTER (i : Nat) : Fld := ⟨0x1100100 + 0x40 * i, 23, 16⟩
def WAK.CAN_WAKE_CFG_STUCK_US (i : Nat) : Fld := ⟨0x1100100 + 0x40 * i, 15, 0⟩
def WAK.WF_ID_IDE (i : Nat) : Fld := ⟨0x1100104 + 0x40 * i, 31, 31⟩
def WAK.WF_ID_ID (i : Nat) : Fld := ⟨0x1100104 + 0x40 * i, 28, 0⟩
def WAK.WF_MASK_DATA_EN (i : Nat) : Fld := ⟨0x1100108 + 0x40 * i, 31, 31⟩
def WAK.WF_MASK_MASK (i : Nat) : Fld := ⟨0x1100108 + 0x40 * i, 28, 0⟩
def WAK.WF_DATA_LO (i : Nat) : Nat := 0x110010c + 0x40 * i
def WAK.WF_DATA_HI (i : Nat) : Nat := 0x1100110 + 0x40 * i
def WAK.WF_DMASK_LO (i : Nat) : Nat := 0x1100114 + 0x40 * i
def WAK.WF_DMASK_HI (i : Nat) : Nat := 0x1100118 + 0x40 * i
def WAK.KA_ID_IDE (i : Nat) : Fld := ⟨0x110011c + 0x40 * i, 31, 31⟩
def WAK.KA_ID_ID (i : Nat) : Fld := ⟨0x110011c + 0x40 * i, 28, 0⟩
def WAK.KA_MASK_MASK (i : Nat) : Fld := ⟨0x1100120 + 0x40 * i, 28, 0⟩
def WAK.GRP_MEMBERS (i : Nat) : Nat := 0x1100600 + 0x20 * i
def WAK.GRP_CTRL_WAKE_FWD (i : Nat) : Fld := ⟨0x1100604 + 0x20 * i, 15, 8⟩
def WAK.GRP_CTRL_WAKE_ON_TX (i : Nat) : Fld := ⟨0x1100604 + 0x20 * i, 0, 0⟩
def WAK.GRP_STATUS_STATE (i : Nat) : Fld := ⟨0x1100608 + 0x20 * i, 2, 0⟩
def FLT.FLT_STATUS_ALARM : Fld := ⟨0x1300000, 31, 31⟩
def FLT.FLT_STATUS_FATAL : Fld := ⟨0x1300000, 30, 30⟩
def FLT.FLT_STATUS_LOG_OVF : Fld := ⟨0x1300000, 29, 29⟩
def FLT.FLT_PEND : Nat := 0x1300004
def FLT.FLT_DIRECT : Nat := 0x1300008
def FLT.FLT_FIRST_VALID : Fld := ⟨0x130000c, 31, 31⟩
def FLT.FLT_FIRST_SRC : Fld := ⟨0x130000c, 26, 22⟩
def FLT.FLT_FIRST_CLASS : Fld := ⟨0x130000c, 21, 20⟩
def FLT.FIRST_NS : Nat := 0x1300010
def FLT.FIRST_SEC : Nat := 0x1300014
def FLT.FLT_LOG (i : Nat) : Nat := 0x1300020 + 0x4 * i
def FLT.FLT_SRC_CFG_CLASS (i : Nat) : Fld := ⟨0x1300100 + 0x4 * i, 31, 30⟩
def FLT.FLT_SRC_CFG_CTRL (i : Nat) : Fld := ⟨0x1300100 + 0x4 * i, 10, 10⟩
def FLT.FLT_SRC_CFG_SEC (i : Nat) : Fld := ⟨0x1300100 + 0x4 * i, 9, 9⟩
def FLT.FLT_SRC_CFG_HOST (i : Nat) : Fld := ⟨0x1300100 + 0x4 * i, 8, 8⟩
def FLT.FLT_SRC_CFG_VECTOR (i : Nat) : Fld := ⟨0x1300100 + 0x4 * i, 4, 0⟩
def CAN.CAN_EVENT_SUM : Nat := 0x900000
def MAC.RX_FRAMES_OK (i : Nat) : Nat := 0x300100 + 0x1000 * i
def MAC.RX_BYTES_OK (i : Nat) : Nat := 0x300108 + 0x1000 * i
def MAC.RX_FCS_ERR (i : Nat) : Nat := 0x300110 + 0x1000 * i
def MAC.RX_RUNT (i : Nat) : Nat := 0x300118 + 0x1000 * i
def MAC.RX_OVERSIZE (i : Nat) : Nat := 0x300120 + 0x1000 * i
def MAC.RX_PCS_ERR (i : Nat) : Nat := 0x300128 + 0x1000 * i
def MAC.RX_PFC (i : Nat) : Nat := 0x300130 + 0x1000 * i
def MAC.RX_PFC_IGNORED (i : Nat) : Nat := 0x300138 + 0x1000 * i
def MAC.RX_CTRL_OTHER (i : Nat) : Nat := 0x300140 + 0x1000 * i
def MAC.RX_FRAG (i : Nat) : Nat := 0x300148 + 0x1000 * i
def MAC.RX_ASSY_ERR (i : Nat) : Nat := 0x300150 + 0x1000 * i
def MAC.RX_DISABLED_DROP (i : Nat) : Nat := 0x300158 + 0x1000 * i
def MAC.TX_FRAMES_OK (i : Nat) : Nat := 0x300160 + 0x1000 * i
def MAC.TX_BYTES_OK (i : Nat) : Nat := 0x300168 + 0x1000 * i
def MAC.TX_STOMP_UNDERRUN (i : Nat) : Nat := 0x300170 + 0x1000 * i
def MAC.TX_STOMP_FBV (i : Nat) : Nat := 0x300178 + 0x1000 * i
def MAC.TX_STOMP_RXERR (i : Nat) : Nat := 0x300180 + 0x1000 * i
def MAC.TX_PFC (i : Nat) : Nat := 0x300188 + 0x1000 * i
def MAC.TX_FRAG (i : Nat) : Nat := 0x300190 + 0x1000 * i
def MAC.TX_LINK_ABORT (i : Nat) : Nat := 0x300198 + 0x1000 * i
def MAC.LINKDOWN_DROP (i : Nat) : Nat := 0x3001a0 + 0x1000 * i
def MAC.LPI_TX_US (i : Nat) : Nat := 0x3001a8 + 0x1000 * i
def MAC.LPI_RX_US (i : Nat) : Nat := 0x3001b0 + 0x1000 * i
def MAC.LPI_TX_ENTRY (i : Nat) : Nat := 0x3001b8 + 0x1000 * i
def MAC.FEC_CORR_CW (i : Nat) : Nat := 0x3001c0 + 0x1000 * i
def MAC.FEC_UNCORR_CW (i : Nat) : Nat := 0x3001c8 + 0x1000 * i
def MAC.LINK_DOWN_CNT (i : Nat) : Nat := 0x3001d0 + 0x1000 * i
def SLC.FRAMES_CNT : Nat := 0x400300
def SLC.HIT_CNT : Nat := 0x400308
def SLC.MISS_CNT : Nat := 0x400310
def SLC.FDB_MISS_CNT : Nat := 0x400318
def SLC.PARSE_FAIL_CNT : Nat := 0x400320
def SLC.SLOW_PATH_CNT : Nat := 0x400328
def SLC.CPU_COPY_CNT : Nat := 0x400330
def SLC.SP_DROP_CNT : Nat := 0x400338
def SLC.RULE_DROP_CNT : Nat := 0x400340
def SLC.VER_LATE_DROP_CNT : Nat := 0x400348
def SLC.MULTI_HIT_CNT : Nat := 0x400350
def SLC.ECC_FAIL_CNT : Nat := 0x400358
def SLC.ZONE_DROP_CNT (i : Nat) : Nat := 0x400400 + 0x8 * i
def STR.STR_FRAMES_CNT : Nat := 0x500300
def STR.STR_PASS_CNT : Nat := 0x500308
def STR.SDU_DROP_CNT : Nat := 0x500310
def STR.GATE_DROP_CNT : Nat := 0x500318
def STR.METER_DROP_CNT : Nat := 0x500320
def STR.SEQ_DROP_CNT : Nat := 0x500328
def STR.INVALID_DROP_CNT : Nat := 0x500330
def STR.ECC_DROP_CNT : Nat := 0x500338
def BSN.REJ_CNT (i : Nat) : Nat := 0x600100 + 0x8 * i
def BSN.PKT_ECC_CORR_CNT : Nat := 0x600190
def BSN.PKT_ECC_UNCORR_CNT : Nat := 0x600198
def BSN.NOBUF_TC (i j : Nat) : Nat := 0x608000 + 0x200 * i + 0x8 * j
def BSN.RANK_YIELD_TC (i j : Nat) : Nat := 0x608040 + 0x200 * i + 0x8 * j
def BSN.VOQ_DROP_TC (i j : Nat) : Nat := 0x608080 + 0x200 * i + 0x8 * j
def BSN.AGE_DROP_TC (i j : Nat) : Nat := 0x6080c0 + 0x200 * i + 0x8 * j
def BSN.ARRIVAL_DROP (i : Nat) : Nat := 0x608100 + 0x200 * i
def BSN.DESC_DROP (i : Nat) : Nat := 0x608108 + 0x200 * i
def BSN.ALLOC_CNT (i : Nat) : Nat := 0x608110 + 0x200 * i
def BSN.FALLBACK_CNT (i : Nat) : Nat := 0x608118 + 0x200 * i
def CRS.CELLS_A_CNT : Nat := 0x700300
def CRS.CELLS_B_CNT : Nat := 0x700308
def CRS.RES_USED_CNT : Nat := 0x700310
def CRS.RES_RELEASED_CNT : Nat := 0x700318
def CRS.RES_CONFLICT_CNT : Nat := 0x700320
def CRS.CMP_FAULT_CNT : Nat := 0x700328
def CRS.PLANE_LOSS_FRAME_CNT : Nat := 0x700330
def CRS.PLANE_LOSS_CELL_CNT : Nat := 0x700338
def CRS.MISSING_FRAME_CNT : Nat := 0x700340
def CRS.STALE_CELL_CNT : Nat := 0x700348
def CRS.CELL_ECC_CORR_CNT : Nat := 0x700350
def CRS.CELL_ECC_UNCORR_CNT : Nat := 0x700358
def CRS.TS_LOST_FRAME (i : Nat) : Nat := 0x700400 + 0x20 * i
def CRS.TS_LOST_CELL (i : Nat) : Nat := 0x700408 + 0x20 * i
def LKP.TX_FRAMES_TC (i j : Nat) : Nat := 0x808000 + 0x100 * i + 0x8 * j
def LKP.WINDOW_MISS_TC (i j : Nat) : Nat := 0x808040 + 0x100 * i + 0x8 * j
def LKP.HOLD_CNT (i : Nat) : Nat := 0x808080 + 0x100 * i
def LKP.HOLD_PREEMPT_CNT (i : Nat) : Nat := 0x808088 + 0x100 * i
def LKP.EXPRESS_PREEMPT_CNT (i : Nat) : Nat := 0x808090 + 0x100 * i
def LKP.CLOSE_OVERRUN_CNT (i : Nat) : Nat := 0x808098 + 0x100 * i
def CAN.RX_MSG (i : Nat) : Nat := 0x901040 + 0x100 * i
def CAN.ERR_CRC (i : Nat) : Nat := 0x901088 + 0x100 * i
def CAN.TX_MSG (i : Nat) : Nat := 0x901048 + 0x100 * i
def CAN.ERR_ACK (i : Nat) : Nat := 0x901090 + 0x100 * i
def CAN.RX_OVF_DROP (i : Nat) : Nat := 0x901050 + 0x100 * i
def CAN.BUS_OFF_CNT (i : Nat) : Nat := 0x901098 + 0x100 * i
def CAN.TX_FULL_DROP (i : Nat) : Nat := 0x901058 + 0x100 * i
def CAN.ONE_SHOT_FAIL_CNT (i : Nat) : Nat := 0x9010a0 + 0x100 * i
def CAN.TX_REFUSED (i : Nat) : Nat := 0x901060 + 0x100 * i
def CAN.CANCELLED_CNT (i : Nat) : Nat := 0x9010a8 + 0x100 * i
def CAN.ARB_LOST (i : Nat) : Nat := 0x901068 + 0x100 * i
def CAN.FALLBACK_CNT (i : Nat) : Nat := 0x9010b0 + 0x100 * i
def CAN.ERR_BIT (i : Nat) : Nat := 0x901070 + 0x100 * i
def CAN.ZONE_DROP (i : Nat) : Nat := 0x9010b8 + 0x100 * i
def CAN.ERR_STUFF (i : Nat) : Nat := 0x901078 + 0x100 * i
def CAN.FORMAT_DROP (i : Nat) : Nat := 0x9010c0 + 0x100 * i
def CAN.ERR_FORM (i : Nat) : Nat := 0x901080 + 0x100 * i
def CAN.SEEN_TX (i : Nat) : Nat := 0x9010c8 + 0x100 * i
def GWE.INT_FRAMES_CNT : Nat := 0xa00300
def GWE.PACK_MSG_CNT : Nat := 0xa00340
def GWE.SEC_OK_CNT : Nat := 0xa00308
def GWE.PACK_OVF_CNT : Nat := 0xa00348
def GWE.SEC_LEN_FAIL_CNT : Nat := 0xa00310
def GWE.PACK_EARLY_CNT : Nat := 0xa00350
def GWE.SEC_FRESH_FAIL_CNT : Nat := 0xa00318
def GWE.UNPACK_MSG_CNT : Nat := 0xa00358
def GWE.SEC_KEY_FAIL_CNT : Nat := 0xa00320
def GWE.UNPACK_SKIP_CNT : Nat := 0xa00360
def GWE.SEC_MAC_FAIL_CNT : Nat := 0xa00328
def GWE.UNPACK_BAD_CNT : Nat := 0xa00368
def GWE.SEC_GEN_CNT : Nat := 0xa00330
def GWE.ROUTE_INVALID_CNT : Nat := 0xa00370
def GWE.PACK_FRAME_CNT : Nat := 0xa00338
def GWE.SEC_LA_FULL_CNT : Nat := 0xa00378
def KEY.DENY_CNT : Nat := 0xc00100
def KEY.DERIVE_CNT : Nat := 0xc00108
def KEY.ZEROIZE_CNT : Nat := 0xc00110
def CPH.IN_BYPASS (i : Nat) : Nat := 0xb08000 + 0x100 * i
def CPH.IN_NO_TAG (i : Nat) : Nat := 0xb08008 + 0x100 * i
def CPH.IN_BAD_TAG (i : Nat) : Nat := 0xb08010 + 0x100 * i
def CPH.IN_NO_SCI (i : Nat) : Nat := 0xb08018 + 0x100 * i
def CPH.IN_NOT_USING_SA (i : Nat) : Nat := 0xb08020 + 0x100 * i
def CPH.FBV_FAIL_CNT (i : Nat) : Nat := 0xb08028 + 0x100 * i
def CPH.FBV_PASS_CNT (i : Nat) : Nat := 0xb08030 + 0x100 * i
def CPH.OUT_BYPASS (i : Nat) : Nat := 0xb08038 + 0x100 * i
def CPH.OUT_NO_SA (i : Nat) : Nat := 0xb08040 + 0x100 * i
def CPH.OUT_TOO_LONG (i : Nat) : Nat := 0xb08048 + 0x100 * i
def TWP.TAKEOVER_CNT : Nat := 0xd00100
def TWP.SWAP_CNT : Nat := 0xd00108
def TWP.HB_MISS_CNT : Nat := 0xd00110
def TWP.DIGEST_MISMATCH_CNT : Nat := 0xd00118
def TWP.RESYNC_CNT : Nat := 0xd00120
def TWP.PC_CANCEL_CNT : Nat := 0xd00128
def TWP.NOTE_CNT : Nat := 0xd00130
def TWP.NOTE_SKIP_CNT : Nat := 0xd00138
def TWP.NOTE_ORPHAN_CNT : Nat := 0xd00140
def TWP.SHADOW_TX_CNT : Nat := 0xd00148
def TWP.STANDBY_YIELD_CNT : Nat := 0xd00150
def TWP.TW_CRC_ERR_CNT : Nat := 0xd00158
def TWP.LINE_CRC_ERR_CNT : Nat := 0xd00160
def TWP.CTRL_GAP_CNT : Nat := 0xd00168
def TWP.FLUSH_TC (i : Nat) : Nat := 0xd00200 + 0x8 * i
def CPU.CTRL_LS_CNT : Nat := 0xe00100
def CPU.SEC_LS_CNT : Nat := 0xe00108
def CPU.RESTART_CNT : Nat := 0xe00110
def CPU.MEM_ECC_CORR_CNT : Nat := 0xe00118
def CPU.MEM_ECC_UNCORR_CNT : Nat := 0xe00120
def CPU.DBG_AUTH_FAIL_CNT : Nat := 0xe00128
def BRG.TX_FRAMES_CNT : Nat := 0xf00300
def BRG.TX_DESC_ERR_CNT : Nat := 0xf00308
def BRG.RX_FRAMES_CNT : Nat := 0xf00310
def BRG.RX_TOO_BIG : Nat := 0xf00318
def BRG.RX_POISONED_CNT : Nat := 0xf00320
def BRG.READ_ERR_CNT : Nat := 0xf00328
def BRG.PERR_CNT : Nat := 0xf00330
def BRG.PERR_LOST_CNT : Nat := 0xf00338
def BRG.LOCK_RETRY_CNT : Nat := 0xf00340
def BRG.LOCK_TIMEOUT_CNT : Nat := 0xf00348
def BRG.PEER_IN_CNT : Nat := 0xf00350
def UPD.BLK_OK_CNT : Nat := 0x1000100
def UPD.BLK_CRC_CNT : Nat := 0x1000108
def UPD.BUSY_REFUSE_CNT : Nat := 0x1000110
def UPD.ACTIVATE_CNT : Nat := 0x1000118
def UPD.REVERT_CNT : Nat := 0x1000120
def WAK.SLEEP_CNT : Nat := 0x1100800
def WAK.WAKE_CNT : Nat := 0x1100808
def WAK.ABORT_CNT : Nat := 0x1100810
def WAK.LATE_WAKE_CNT : Nat := 0x1100818
def WAK.RET_FAIL_CNT : Nat := 0x1100820
def WAK.STUCK_DOM_CNT : Nat := 0x1100828
def WAK.KA_DROP_CNT : Nat := 0x1100830
def WAK.COMMIT_DROP_CNT : Nat := 0x1100838
def FLT.FAULT_CNT_CLASS (i : Nat) : Nat := 0x1300200 + 0x8 * i
def FLT.YIELD_CNT_RANK2 : Nat := 0x1300220
def FLT.YIELD_CNT_RANK3 : Nat := 0x1300228
def FLT.YIELD_CNT_RANK4 : Nat := 0x1300230
def FLT.LOG_DROP_CNT : Nat := 0x1300238
def CPH.SEC_LA_REQ (i : Nat) : Nat := 0xb00600 + 0x4 * i
def CPH.SEC_LA_SUBMIT : Nat := 0xb00680
def CPH.SEC_LA_SUB_STATUS_RESULT : Fld := ⟨0xb00684, 1, 0⟩
def CPH.SEC_LA_RES_LEVEL : Nat := 0xb00688
def CPH.SEC_LA_RES (i : Nat) : Nat := 0xb006a0 + 0x4 * i

end Sys2Proof.Machine
end

