-- ==== Sys2Proof/Machine/RegMapA.lean ====
section
/-! DEFINITION. RegMapA.lean: the register tables of blocks SYS, TIM, TIO, MAC, SLC, STR, row by row as the spec's register tables give them
(name, address, strides and counts, then each field: msb, lsb, access code, reset value, name). Reserved fields are left out:
they read zero and ignore writes (R3). Counters (R5) stand in lists of their own, named by their low word. -/
namespace Sys2Proof.Machine

/-- Registers of SYS, part 0. -/
def sysRegs0 : List Reg := [
  ⟨"SYS_ID", 0x0, [], [⟨31, 16, .ro, 37398, "HW_TYPE"⟩, ⟨15, 8, .ro, Sys2Proof.Config.siliconRev.toNat, "REV"⟩]⟩,
  ⟨"UID", 0x4, [], [⟨31, 0, .ro, (Sys2Proof.Config.uid 0).toNat, "UID"⟩]⟩,
  ⟨"UID", 0x8, [], [⟨31, 0, .ro, (Sys2Proof.Config.uid 1).toNat, "UID"⟩]⟩,
  ⟨"UID", 0xc, [], [⟨31, 0, .ro, (Sys2Proof.Config.uid 2).toNat, "UID"⟩]⟩,
  ⟨"UID", 0x10, [], [⟨31, 0, .ro, (Sys2Proof.Config.uid 3).toNat, "UID"⟩]⟩,
  ⟨"SYS_STRAP", 0x14, [], [⟨2, 1, .ro, 0, "BOOT_MODE"⟩, ⟨0, 0, .ro, 0, "PAIR_ID"⟩]⟩,
  ⟨"OPT_FUSE", 0x18, [], [⟨9, 0, .ro, 1023, "OPT"⟩]⟩,
  ⟨"SYS_STATUS", 0x1c, [], [⟨31, 28, .ro, 0, "STAGE"⟩, ⟨27, 27, .ro, 0, "RELEASED"⟩, ⟨26, 26, .ro, 0, "BANK"⟩, ⟨25, 25, .ro, 0, "FROM_HOST"⟩, ⟨24, 24, .ro, 0, "PAYLOAD_OK"⟩, ⟨23, 23, .ro, 0, "DBG_KEY_VALID"⟩, ⟨22, 22, .ro, 0, "TEST_ROOT"⟩, ⟨3, 3, .ro, 0, "PLL2_LOCK"⟩, ⟨2, 2, .ro, 0, "PLL1_LOCK"⟩, ⟨1, 1, .ro, 0, "PLL0_LOCK"⟩, ⟨0, 0, .ro, 0, "REFCLK_OK"⟩]⟩,
  ⟨"SYS_CMD", 0x20, [], [⟨31, 16, .wo, 0, "CONFIRM"⟩, ⟨2, 0, .wo, 0, "OP"⟩]⟩,
  ⟨"BOOT_ERR_A", 0x24, [], [⟨31, 28, .ro, 0, "CAUSE"⟩, ⟨27, 0, .ro, 0, "OFFSET"⟩]⟩,
  ⟨"BOOT_ERR_B", 0x28, [], [⟨31, 28, .ro, 0, "CAUSE"⟩, ⟨27, 0, .ro, 0, "OFFSET"⟩]⟩,
  ⟨"RELEASE_WAIT", 0x2c, [], [⟨15, 0, .ro, 0, "MS"⟩]⟩,
  ⟨"FW_ENTRY_CTRL", 0x30, [], [⟨31, 0, .rwl, 0, "ENTRY"⟩]⟩,
  ⟨"FW_ENTRY_SEC", 0x34, [], [⟨31, 0, .rwl, 0, "ENTRY"⟩]⟩,
  ⟨"SEC_VER", 0x38, [], [⟨7, 0, .ro, 0, "VER"⟩]⟩,
  ⟨"IMG_ID", 0x3c, [], [⟨31, 0, .ro, 0, "ID"⟩]⟩,
  ⟨"IMG_HASH", 0x40, [(0x4, 8)], [⟨31, 0, .ro, 0, "HASH"⟩]⟩,
  ⟨"HOST_IMG_LO", 0x60, [], [⟨31, 12, .rw, 0, "ADDR_LO"⟩]⟩,
  ⟨"HOST_IMG_HI", 0x64, [], [⟨31, 0, .rw, 0, "ADDR_HI"⟩]⟩,
  ⟨"SYS_EVENT", 0x68, [], [⟨6, 6, .w1c, 0, "CODE_RELOAD_FAIL"⟩, ⟨5, 5, .w1c, 0, "CODE_RELOAD"⟩, ⟨4, 4, .w1c, 0, "PAYLOAD_FAIL"⟩, ⟨3, 3, .w1c, 0, "PAYLOAD_OK"⟩, ⟨2, 2, .w1c, 0, "BOOT_FAIL"⟩, ⟨1, 1, .w1c, 0, "FALLBACK"⟩, ⟨0, 0, .w1c, 0, "RELEASED"⟩]⟩,
  ⟨"SYS_EVENT_EN", 0x6c, [], [⟨6, 6, .rw, 0, "CODE_RELOAD_FAIL"⟩, ⟨5, 5, .rw, 0, "CODE_RELOAD"⟩, ⟨4, 4, .rw, 0, "PAYLOAD_FAIL"⟩, ⟨3, 3, .rw, 0, "PAYLOAD_OK"⟩, ⟨2, 2, .rw, 0, "BOOT_FAIL"⟩, ⟨1, 1, .rw, 0, "FALLBACK"⟩, ⟨0, 0, .rw, 0, "RELEASED"⟩]⟩,
  ⟨"PCIE_VID", 0x70, [], [⟨15, 0, .rwl, 0x1E7B, "VENDOR_ID"⟩]⟩,
  ⟨"PCIE_SUBSYS", 0x74, [], [⟨31, 16, .rwl, 0, "SUBSYS_ID"⟩, ⟨15, 0, .rwl, 0, "SUBSYS_VID"⟩]⟩,
  ⟨"TBL_OWNER", 0x78, [], [⟨5, 0, .rwl, 0, "HOST"⟩]⟩]
/-- Registers of SYS, part 1. -/
def sysRegs1 : List Reg := [
  ⟨"DBG_KEY", 0x80, [(0x4, 16)], [⟨31, 0, .ro, 0, "KEY"⟩]⟩]
/-- Every register of SYS. -/
def sysRegs : List Reg := sysRegs0 ++ sysRegs1
/-- The counters of SYS. -/
def sysCnts : List Cnt := []

/-- Registers of TIM, part 0. -/
def timRegs0 : List Reg := [
  ⟨"TIM_CTRL", 0x100000, [], [⟨5, 5, .rwl, 0, "STEP_EN"⟩, ⟨4, 4, .rw, 1, "AUTO_ALIGN"⟩, ⟨3, 3, .rw, 0, "PRIMARY"⟩, ⟨2, 2, .rw, 0, "REVERT"⟩, ⟨1, 0, .rw, 0, "SEL_MODE"⟩]⟩,
  ⟨"WT_SET_NS", 0x100030, [], [⟨29, 0, .rw, 0, "NS"⟩]⟩,
  ⟨"TIM_STATUS", 0x100004, [], [⟨7, 7, .ro, 0, "FOLLOWED"⟩, ⟨6, 6, .ro, 0, "UNCERTAIN"⟩, ⟨5, 5, .ro, 0, "TIME_SET"⟩, ⟨4, 4, .ro, 0, "DOM1_VALID"⟩, ⟨3, 3, .ro, 0, "DOM0_VALID"⟩, ⟨2, 2, .ro, 0, "ALIGNING"⟩, ⟨1, 1, .ro, 1, "HOLDOVER"⟩, ⟨0, 0, .ro, 0, "SEL"⟩]⟩,
  ⟨"WT_SET_SEC_LO", 0x100034, [], [⟨31, 0, .rw, 0, "SEC_LO"⟩]⟩,
  ⟨"TIM_EVENT", 0x100008, [], [⟨9, 9, .w1c, 0, "STEER_IGNORED"⟩, ⟨8, 8, .w1c, 0, "INCR_CLAMPED"⟩, ⟨7, 7, .w1c, 0, "UNCERTAIN"⟩, ⟨6, 6, .w1c, 0, "SYNC_FIFO_OVF1"⟩, ⟨5, 5, .w1c, 0, "SYNC_FIFO_OVF0"⟩, ⟨4, 4, .w1c, 0, "STEP_REJECTED"⟩, ⟨3, 3, .w1c, 0, "STEPPED"⟩, ⟨2, 2, .w1c, 0, "HOLDOVER_EXIT"⟩, ⟨1, 1, .w1c, 0, "HOLDOVER_ENTER"⟩, ⟨0, 0, .w1c, 0, "SWITCHED"⟩]⟩,
  ⟨"WT_SET_SEC_HI", 0x100038, [], [⟨31, 0, .rw, 0, "SEC_HI"⟩]⟩,
  ⟨"TIM_EVENT_EN", 0x10000c, [], [⟨9, 9, .rw, 0, "STEER_IGNORED"⟩, ⟨8, 8, .rw, 0, "INCR_CLAMPED"⟩, ⟨7, 7, .rw, 0, "UNCERTAIN"⟩, ⟨6, 6, .rw, 0, "SYNC_FIFO_OVF1"⟩, ⟨5, 5, .rw, 0, "SYNC_FIFO_OVF0"⟩, ⟨4, 4, .rw, 0, "STEP_REJECTED"⟩, ⟨3, 3, .rw, 0, "STEPPED"⟩, ⟨2, 2, .rw, 0, "HOLDOVER_EXIT"⟩, ⟨1, 1, .rw, 0, "HOLDOVER_ENTER"⟩, ⟨0, 0, .rw, 0, "SWITCHED"⟩]⟩,
  ⟨"WT_SET_CMD", 0x10003c, [], [⟨1, 0, .wo, 0, "OP"⟩]⟩,
  ⟨"WT_INCR_FRAC", 0x100010, [], [⟨31, 0, .rw, 0, "INCR_FRAC"⟩]⟩,
  ⟨"WT_SNAP_CMD", 0x100040, [], [⟨0, 0, .wo, 0, "GO"⟩]⟩,
  ⟨"WT_INCR_NS", 0x100014, [], [⟨3, 0, .rw, 2, "INCR_NS"⟩]⟩,
  ⟨"WT_SNAP_FRAC", 0x100044, [], [⟨15, 0, .ro, 0, "FRAC"⟩]⟩,
  ⟨"WT_ADJ", 0x100018, [], [⟨31, 0, .wo, 0, "ADJ"⟩]⟩,
  ⟨"WT_SNAP_NS", 0x100048, [], [⟨29, 0, .ro, 0, "NS"⟩]⟩,
  ⟨"PHASE_REMAIN", 0x10001c, [], [⟨31, 0, .ro, 0, "REMAIN"⟩]⟩,
  ⟨"WT_SNAP_SEC_LO", 0x10004c, [], [⟨31, 0, .ro, 0, "SEC_LO"⟩]⟩,
  ⟨"SLEW_LIMIT", 0x100020, [], [⟨17, 0, .rw, 10000, "PPB"⟩]⟩,
  ⟨"WT_SNAP_SEC_HI", 0x100050, [], [⟨31, 0, .ro, 0, "SEC_HI"⟩]⟩,
  ⟨"HOLDOVER_LIMIT", 0x100024, [], [⟨15, 0, .rw, 10, "SECONDS"⟩]⟩,
  ⟨"SNAP_DOM0_OFF", 0x100054, [], [⟨31, 0, .ro, 0, "OFF"⟩]⟩,
  ⟨"HOLDOVER_TIME", 0x100028, [], [⟨31, 0, .ro, 0, "SECONDS"⟩]⟩,
  ⟨"SNAP_DOM1_OFF", 0x100058, [], [⟨31, 0, .ro, 0, "OFF"⟩]⟩]
/-- Registers of TIM, part 1. -/
def timRegs1 : List Reg := [
  ⟨"DOM_CFG", 0x100100, [], [⟨19, 16, .rw, 3, "RX_TIMEOUT"⟩, ⟨13, 13, .rw, 0, "ACCEPT"⟩, ⟨12, 12, .rw, 0, "ENABLE"⟩, ⟨11, 8, .rw, 0, "SYNC_PORT"⟩, ⟨7, 0, .rw, 0, "DOMAIN_NUM"⟩]⟩,
  ⟨"DOM_CFG", 0x100180, [], [⟨19, 16, .rw, 3, "RX_TIMEOUT"⟩, ⟨13, 13, .rw, 0, "ACCEPT"⟩, ⟨12, 12, .rw, 0, "ENABLE"⟩, ⟨11, 8, .rw, 0, "SYNC_PORT"⟩, ⟨7, 0, .rw, 1, "DOMAIN_NUM"⟩]⟩,
  ⟨"DOM_STATUS", 0x100104, [(0x80, 2)], [⟨2, 2, .ro, 0, "TIMEOUT"⟩, ⟨1, 1, .ro, 0, "SYNC_SEEN"⟩, ⟨0, 0, .ro, 0, "VALID"⟩]⟩,
  ⟨"DOM_OFF_LO", 0x100108, [(0x80, 2)], [⟨31, 0, .ro, 0, "OFF_LO"⟩]⟩,
  ⟨"DOM_OFF_HI", 0x10010c, [(0x80, 2)], [⟨31, 0, .ro, 0, "OFF_HI"⟩]⟩,
  ⟨"DOM_OFF_ADJ", 0x100110, [(0x80, 2)], [⟨31, 0, .wo, 0, "ADJ"⟩]⟩,
  ⟨"DOM_RATE", 0x100114, [(0x80, 2)], [⟨31, 0, .ro, 0, "RATE"⟩]⟩,
  ⟨"DOM_RATE_ADJ", 0x100118, [(0x80, 2)], [⟨31, 0, .wo, 0, "ADJ"⟩]⟩,
  ⟨"DOM_SET_LO", 0x10011c, [(0x80, 2)], [⟨31, 0, .rw, 0, "SET_LO"⟩]⟩,
  ⟨"DOM_SET_HI", 0x100120, [(0x80, 2)], [⟨31, 0, .wo, 0, "SET_HI"⟩]⟩,
  ⟨"SYNC_FIFO_STAT", 0x100124, [(0x80, 2)], [⟨5, 0, .ro, 0, "LEVEL"⟩]⟩,
  ⟨"SYNC_REC", 0x100140, [(0x80, 2), (0x4, 10)], [⟨31, 0, .ro, 0, "REC"⟩]⟩,
  ⟨"PORT_TS_CFG", 0x100400, [(0x80, 14)], [⟨0, 0, .rw, 0, "PTP_EN"⟩]⟩,
  ⟨"PHY_RX_LAT", 0x100404, [(0x80, 14)], [⟨31, 16, .rw, 0, "NS"⟩, ⟨15, 0, .rw, 0, "FRAC"⟩]⟩,
  ⟨"PHY_TX_LAT", 0x100408, [(0x80, 14)], [⟨31, 16, .rw, 0, "NS"⟩, ⟨15, 0, .rw, 0, "FRAC"⟩]⟩,
  ⟨"LINK_DELAY", 0x10040c, [(0x80, 14)], [⟨31, 0, .rw, 0, "DELAY"⟩]⟩,
  ⟨"PORT_ID_LO", 0x100410, [(0x80, 14)], [⟨31, 0, .rw, 0, "CLKID_LO"⟩]⟩,
  ⟨"PORT_ID_MID", 0x100414, [(0x80, 14)], [⟨31, 0, .rw, 0, "CLKID_HI"⟩]⟩,
  ⟨"PORT_ID_NUM", 0x100418, [], [⟨15, 0, .rw, 1, "PORT_NUM"⟩]⟩,
  ⟨"PORT_ID_NUM", 0x100498, [], [⟨15, 0, .rw, 2, "PORT_NUM"⟩]⟩,
  ⟨"PORT_ID_NUM", 0x100518, [], [⟨15, 0, .rw, 3, "PORT_NUM"⟩]⟩,
  ⟨"PORT_ID_NUM", 0x100598, [], [⟨15, 0, .rw, 4, "PORT_NUM"⟩]⟩,
  ⟨"PORT_ID_NUM", 0x100618, [], [⟨15, 0, .rw, 5, "PORT_NUM"⟩]⟩,
  ⟨"PORT_ID_NUM", 0x100698, [], [⟨15, 0, .rw, 6, "PORT_NUM"⟩]⟩]
/-- Registers of TIM, part 2. -/
def timRegs2 : List Reg := [
  ⟨"PORT_ID_NUM", 0x100718, [], [⟨15, 0, .rw, 7, "PORT_NUM"⟩]⟩,
  ⟨"PORT_ID_NUM", 0x100798, [], [⟨15, 0, .rw, 8, "PORT_NUM"⟩]⟩,
  ⟨"PORT_ID_NUM", 0x100818, [], [⟨15, 0, .rw, 9, "PORT_NUM"⟩]⟩,
  ⟨"PORT_ID_NUM", 0x100898, [], [⟨15, 0, .rw, 10, "PORT_NUM"⟩]⟩,
  ⟨"PORT_ID_NUM", 0x100918, [], [⟨15, 0, .rw, 11, "PORT_NUM"⟩]⟩,
  ⟨"PORT_ID_NUM", 0x100998, [], [⟨15, 0, .rw, 12, "PORT_NUM"⟩]⟩,
  ⟨"PORT_ID_NUM", 0x100a18, [], [⟨15, 0, .rw, 13, "PORT_NUM"⟩]⟩,
  ⟨"PORT_ID_NUM", 0x100a98, [], [⟨15, 0, .rw, 14, "PORT_NUM"⟩]⟩,
  ⟨"INT_RX_LAT", 0x10041c, [(0x80, 14)], [⟨31, 0, .ro, 0, "LAT"⟩]⟩,
  ⟨"INT_TX_LAT", 0x100420, [(0x80, 14)], [⟨31, 0, .ro, 0, "LAT"⟩]⟩,
  ⟨"LTT_SYNC_INFO", 0x100424, [(0x80, 14)], [⟨31, 16, .ro, 0, "SEQ_ID"⟩, ⟨15, 12, .ro, 0, "MSG_TYPE"⟩, ⟨11, 4, .ro, 0, "DOMAIN"⟩, ⟨1, 1, .rc, 0, "OVERWRITTEN"⟩, ⟨0, 0, .rc, 0, "VALID"⟩]⟩,
  ⟨"LTT_SYNC_NS", 0x100428, [(0x80, 14)], [⟨31, 30, .ro, 0, "QNS"⟩, ⟨29, 0, .ro, 0, "NS"⟩]⟩,
  ⟨"LTT_SYNC_SEC", 0x10042c, [(0x80, 14)], [⟨31, 0, .ro, 0, "SEC"⟩]⟩,
  ⟨"LTT_PREQ_INFO", 0x100430, [(0x80, 14)], [⟨31, 16, .ro, 0, "SEQ_ID"⟩, ⟨15, 12, .ro, 0, "MSG_TYPE"⟩, ⟨11, 4, .ro, 0, "DOMAIN"⟩, ⟨1, 1, .rc, 0, "OVERWRITTEN"⟩, ⟨0, 0, .rc, 0, "VALID"⟩]⟩,
  ⟨"LTT_PREQ_NS", 0x100434, [(0x80, 14)], [⟨31, 30, .ro, 0, "QNS"⟩, ⟨29, 0, .ro, 0, "NS"⟩]⟩,
  ⟨"LTT_PREQ_SEC", 0x100438, [(0x80, 14)], [⟨31, 0, .ro, 0, "SEC"⟩]⟩,
  ⟨"LTT_PRESP_INFO", 0x10043c, [(0x80, 14)], [⟨31, 16, .ro, 0, "SEQ_ID"⟩, ⟨15, 12, .ro, 0, "MSG_TYPE"⟩, ⟨11, 4, .ro, 0, "DOMAIN"⟩, ⟨1, 1, .rc, 0, "OVERWRITTEN"⟩, ⟨0, 0, .rc, 0, "VALID"⟩]⟩,
  ⟨"LTT_PRESP_NS", 0x100440, [(0x80, 14)], [⟨31, 30, .ro, 0, "QNS"⟩, ⟨29, 0, .ro, 0, "NS"⟩]⟩,
  ⟨"LTT_PRESP_SEC", 0x100444, [(0x80, 14)], [⟨31, 0, .ro, 0, "SEC"⟩]⟩]
/-- Every register of TIM. -/
def timRegs : List Reg := timRegs0 ++ timRegs1 ++ timRegs2
/-- The counters of TIM. -/
def timCnts : List Cnt := [
  ⟨"SWITCH_CNT", 0x100060, []⟩,
  ⟨"STEP_CNT", 0x100068, []⟩,
  ⟨"OS_TX_CNT", 0x100448, [(0x80, 14)]⟩,
  ⟨"OS_ERR_CNT", 0x100450, [(0x80, 14)]⟩]

/-- Registers of TIO, part 0. -/
def tioRegs0 : List Reg := [
  ⟨"TIO_FRAME_CFG", 0x200000, [], [⟨31, 16, .rw, 34997, "ETHERTYPE"⟩, ⟨15, 15, .rw, 0, "VLAN_EN"⟩, ⟨14, 12, .rw, 0, "PCP"⟩, ⟨11, 0, .rw, 0, "VID"⟩]⟩,
  ⟨"TIO_DA_HI", 0x200004, [], [⟨15, 0, .rw, 768, "DA_HI"⟩]⟩,
  ⟨"TIO_DA_LO", 0x200008, [], [⟨31, 0, .rw, 37398, "DA_LO"⟩]⟩,
  ⟨"TIO_SA_HI", 0x20000c, [], [⟨15, 0, .rw, 0, "SA_HI"⟩]⟩,
  ⟨"TIO_SA_LO", 0x200010, [], [⟨31, 0, .rw, 0, "SA_LO"⟩]⟩,
  ⟨"MK_CTRL", 0x200014, [], [⟨1, 1, .rw, 0, "PAIRED"⟩, ⟨0, 0, .rw, 0, "ENABLE"⟩]⟩,
  ⟨"MK_START_NS", 0x200018, [], [⟨31, 30, .rw, 0, "QNS"⟩, ⟨29, 0, .rw, 0, "NS"⟩]⟩,
  ⟨"MK_START_SEC_LO", 0x20001c, [], [⟨31, 0, .rw, 0, "SEC_LO"⟩]⟩,
  ⟨"MK_START_SEC_HI", 0x200020, [], [⟨15, 0, .rw, 0, "SEC_HI"⟩]⟩,
  ⟨"MK_PERIOD", 0x200024, [], [⟨9, 0, .rw, 100, "MS"⟩]⟩,
  ⟨"MK_SEQ", 0x200028, [], [⟨15, 0, .ro, 0, "SEQ"⟩]⟩,
  ⟨"TIO_EVENT_SUM", 0x20002c, [], [⟨15, 0, .ro, 0, "PIN"⟩]⟩,
  ⟨"PIN_CFG", 0x200100, [(0x80, 16)], [⟨25, 16, .rw, 10, "STUCK_MS"⟩, ⟨15, 8, .rw, 10, "FILTER"⟩, ⟨7, 7, .rw, 0, "EVT_EN"⟩, ⟨6, 6, .rw, 0, "PAIRED"⟩, ⟨5, 4, .rw, 1, "EDGE"⟩, ⟨3, 3, .rw, 0, "POLARITY"⟩, ⟨1, 0, .rw, 0, "MODE"⟩]⟩,
  ⟨"START_NS", 0x200104, [(0x80, 16)], [⟨31, 30, .rw, 0, "QNS"⟩, ⟨29, 0, .rw, 0, "NS"⟩]⟩,
  ⟨"START_SEC_LO", 0x200108, [(0x80, 16)], [⟨31, 0, .rw, 0, "SEC_LO"⟩]⟩,
  ⟨"START_SEC_HI", 0x20010c, [(0x80, 16)], [⟨15, 0, .rw, 0, "SEC_HI"⟩]⟩,
  ⟨"PERIOD", 0x200110, [(0x80, 16)], [⟨31, 0, .rw, 4000000000, "QNS"⟩]⟩,
  ⟨"WIDTH", 0x200114, [(0x80, 16)], [⟨31, 0, .rw, 400000000, "QNS"⟩]⟩,
  ⟨"COUNT", 0x200118, [(0x80, 16)], [⟨31, 0, .rw, 0, "PULSES"⟩]⟩,
  ⟨"WIN_LEN", 0x20011c, [(0x80, 16)], [⟨31, 0, .rw, 0, "QNS"⟩]⟩,
  ⟨"EVT_CFG", 0x200120, [(0x80, 16)], [⟨31, 16, .rw, 10, "EVT_HOLD"⟩, ⟨5, 0, .rw, 8, "EVT_MAX"⟩]⟩,
  ⟨"PIN_DLY", 0x200124, [(0x80, 16)], [⟨15, 0, .rw, 0, "DLY"⟩]⟩,
  ⟨"PIN_CMD", 0x200128, [(0x80, 16)], [⟨1, 0, .wo, 0, "OP"⟩]⟩,
  ⟨"PIN_STATUS", 0x20012c, [(0x80, 16)], [⟨3, 3, .ro, 0, "MASKED"⟩, ⟨2, 2, .ro, 0, "LEVEL"⟩, ⟨1, 1, .ro, 0, "DRIVING"⟩, ⟨0, 0, .ro, 0, "RUNNING"⟩]⟩]
/-- Registers of TIO, part 1. -/
def tioRegs1 : List Reg := [
  ⟨"PIN_EVENT", 0x200130, [(0x80, 16)], [⟨4, 4, .w1c, 0, "BAD_CFG"⟩, ⟨3, 3, .w1c, 0, "STEP_SKIP"⟩, ⟨2, 2, .w1c, 0, "LATE"⟩, ⟨1, 1, .w1c, 0, "STUCK"⟩, ⟨0, 0, .w1c, 0, "OVF"⟩]⟩,
  ⟨"PIN_EVENT_EN", 0x200134, [(0x80, 16)], [⟨4, 4, .rw, 0, "BAD_CFG"⟩, ⟨3, 3, .rw, 0, "STEP_SKIP"⟩, ⟨2, 2, .rw, 0, "LATE"⟩, ⟨1, 1, .rw, 0, "STUCK"⟩, ⟨0, 0, .rw, 0, "OVF"⟩]⟩,
  ⟨"FIFO_LEVEL", 0x200138, [(0x80, 16)], [⟨6, 0, .ro, 0, "LEVEL"⟩]⟩,
  ⟨"CAP_INFO", 0x20013c, [(0x80, 16)], [⟨1, 1, .ro, 0, "ACTIVE"⟩, ⟨0, 0, .ro, 0, "VALID"⟩]⟩,
  ⟨"CAP_NS", 0x200140, [(0x80, 16)], [⟨31, 2, .ro, 0, "NS"⟩, ⟨1, 0, .ro, 0, "QNS"⟩]⟩,
  ⟨"CAP_SEC_LO", 0x200144, [(0x80, 16)], [⟨31, 0, .ro, 0, "SEC_LO"⟩]⟩,
  ⟨"CAP_SEC_HI", 0x200148, [(0x80, 16)], [⟨15, 0, .ro, 0, "SEC_HI"⟩]⟩]
/-- Every register of TIO. -/
def tioRegs : List Reg := tioRegs0 ++ tioRegs1
/-- The counters of TIO. -/
def tioCnts : List Cnt := [
  ⟨"MK_CNT", 0x200030, []⟩,
  ⟨"MK_GATED_CNT", 0x200038, []⟩,
  ⟨"CAP_CNT", 0x200150, [(0x80, 16)]⟩,
  ⟨"DROP_CNT", 0x200158, [(0x80, 16)]⟩,
  ⟨"OUTWIN_CNT", 0x200160, [(0x80, 16)]⟩,
  ⟨"GATED_CNT", 0x200168, [(0x80, 16)]⟩,
  ⟨"PULSE_CNT", 0x200170, [(0x80, 16)]⟩]

/-- Registers of MAC, part 0. -/
def macRegs0 : List Reg := [
  ⟨"MAC_CFG", 0x300000, [(0x1000, 14)], [⟨21, 8, .rw, 1500, "MAX_CLIENT"⟩, ⟨5, 5, .rw, 1, "FLUSH_ON_DOWN"⟩, ⟨4, 4, .rw, 1, "AUTO_RAISE"⟩, ⟨3, 3, .rw, 0, "CT_EN"⟩, ⟨2, 2, .rw, 1, "ERR_SIGNAL"⟩, ⟨1, 1, .rw, 0, "TX_EN"⟩, ⟨0, 0, .rw, 0, "RX_EN"⟩]⟩,
  ⟨"PCS_CFG", 0x300004, [(0x1000, 14)], [⟨9, 9, .rw, 0, "RX_INV"⟩, ⟨8, 8, .rw, 0, "TX_INV"⟩, ⟨7, 7, .rw, 1, "AN_EN"⟩, ⟨6, 6, .rw, 0, "FEC_EN"⟩, ⟨5, 3, .rw, 2, "SPEED"⟩, ⟨2, 0, .rw, 0, "MODE"⟩]⟩,
  ⟨"PORT_STATUS", 0x300008, [(0x1000, 14)], [⟨11, 11, .ro, 0, "PREEMPT_ACTIVE"⟩, ⟨10, 9, .ro, 0, "VERIFY_STATUS"⟩, ⟨8, 8, .ro, 0, "LPI_RX"⟩, ⟨7, 7, .ro, 0, "LPI_TX"⟩, ⟨6, 6, .ro, 0, "AN_DONE"⟩, ⟨5, 3, .ro, 0, "SPEED_ACT"⟩, ⟨2, 2, .ro, 0, "FEC_LOCK"⟩, ⟨1, 1, .ro, 0, "PCS_LOCK"⟩, ⟨0, 0, .ro, 0, "LINK"⟩]⟩,
  ⟨"PORT_EVENT", 0x30000c, [(0x1000, 14)], [⟨7, 7, .w1c, 0, "DUPLEX_FAULT"⟩, ⟨6, 6, .w1c, 0, "BAD_MODE"⟩, ⟨5, 5, .w1c, 0, "VERIFY_FAIL"⟩, ⟨4, 4, .w1c, 0, "CT_RAISED"⟩, ⟨3, 3, .w1c, 0, "UNDERRUN"⟩, ⟨2, 2, .w1c, 0, "FEC_UNCORR"⟩, ⟨1, 1, .w1c, 0, "LINK_UP"⟩, ⟨0, 0, .w1c, 0, "LINK_DOWN"⟩]⟩,
  ⟨"PORT_EVENT_EN", 0x300010, [(0x1000, 14)], [⟨7, 7, .rw, 0, "DUPLEX_FAULT"⟩, ⟨6, 6, .rw, 0, "BAD_MODE"⟩, ⟨5, 5, .rw, 0, "VERIFY_FAIL"⟩, ⟨4, 4, .rw, 0, "CT_RAISED"⟩, ⟨3, 3, .rw, 0, "UNDERRUN"⟩, ⟨2, 2, .rw, 0, "FEC_UNCORR"⟩, ⟨1, 1, .rw, 0, "LINK_UP"⟩, ⟨0, 0, .rw, 0, "LINK_DOWN"⟩]⟩,
  ⟨"CT_THRESH", 0x300014, [(0x1000, 14)], [⟨27, 16, .rw, 1024, "CT_CEIL"⟩, ⟨11, 0, .rw, 128, "THRESH"⟩]⟩,
  ⟨"CT_CUR", 0x300018, [(0x1000, 14)], [⟨11, 0, .ro, 128, "CUR"⟩]⟩,
  ⟨"PREEMPT_CFG", 0x30001c, [(0x1000, 14)], [⟨14, 12, .rw, 3, "VERIFY_LIMIT"⟩, ⟨11, 4, .rw, 10, "VERIFY_TIME"⟩, ⟨3, 2, .rw, 0, "ADD_FRAG"⟩, ⟨1, 1, .rw, 0, "VERIFY_DIS"⟩, ⟨0, 0, .rw, 0, "PREEMPT_EN"⟩]⟩,
  ⟨"EEE_CFG", 0x300020, [(0x1000, 14)], [⟨31, 16, .rw, 0, "TW_SYS_TX"⟩, ⟨15, 4, .rw, 10, "LPI_IDLE"⟩, ⟨1, 1, .rw, 1, "GATE_WAKE"⟩, ⟨0, 0, .rw, 0, "LPI_EN"⟩]⟩,
  ⟨"PFC_CFG", 0x300024, [(0x1000, 14)], [⟨16, 16, .rw, 0, "PAUSE_RX_EN"⟩, ⟨15, 8, .rw, 8, "PFC_RX_MASK"⟩, ⟨7, 0, .rw, 8, "PFC_TX_MASK"⟩]⟩,
  ⟨"PFC_TIME", 0x300028, [(0x1000, 14)], [⟨31, 16, .rw, 32767, "PFC_REFRESH"⟩, ⟨15, 0, .rw, 65535, "PFC_QUANTA"⟩]⟩,
  ⟨"PFC_STATE", 0x30002c, [(0x1000, 14)], [⟨15, 8, .ro, 0, "RX_PAUSED"⟩, ⟨7, 0, .ro, 0, "TX_XOFF"⟩]⟩,
  ⟨"PORT_SA_HI", 0x300030, [(0x1000, 14)], [⟨15, 0, .rw, 0, "SA_HI"⟩]⟩,
  ⟨"PORT_SA_LO", 0x300034, [(0x1000, 14)], [⟨31, 0, .rw, 0, "SA_LO"⟩]⟩]
/-- Every register of MAC. -/
def macRegs : List Reg := macRegs0
/-- The counters of MAC. -/
def macCnts : List Cnt := [
  ⟨"RX_FRAMES_OK", 0x300100, [(0x1000, 14)]⟩,
  ⟨"RX_BYTES_OK", 0x300108, [(0x1000, 14)]⟩,
  ⟨"RX_FCS_ERR", 0x300110, [(0x1000, 14)]⟩,
  ⟨"RX_RUNT", 0x300118, [(0x1000, 14)]⟩,
  ⟨"RX_OVERSIZE", 0x300120, [(0x1000, 14)]⟩,
  ⟨"RX_PCS_ERR", 0x300128, [(0x1000, 14)]⟩,
  ⟨"RX_PFC", 0x300130, [(0x1000, 14)]⟩,
  ⟨"RX_PFC_IGNORED", 0x300138, [(0x1000, 14)]⟩,
  ⟨"RX_CTRL_OTHER", 0x300140, [(0x1000, 14)]⟩,
  ⟨"RX_FRAG", 0x300148, [(0x1000, 14)]⟩,
  ⟨"RX_ASSY_ERR", 0x300150, [(0x1000, 14)]⟩,
  ⟨"RX_DISABLED_DROP", 0x300158, [(0x1000, 14)]⟩,
  ⟨"TX_FRAMES_OK", 0x300160, [(0x1000, 14)]⟩,
  ⟨"TX_BYTES_OK", 0x300168, [(0x1000, 14)]⟩,
  ⟨"TX_STOMP_UNDERRUN", 0x300170, [(0x1000, 14)]⟩,
  ⟨"TX_STOMP_FBV", 0x300178, [(0x1000, 14)]⟩,
  ⟨"TX_STOMP_RXERR", 0x300180, [(0x1000, 14)]⟩,
  ⟨"TX_PFC", 0x300188, [(0x1000, 14)]⟩,
  ⟨"TX_FRAG", 0x300190, [(0x1000, 14)]⟩,
  ⟨"TX_LINK_ABORT", 0x300198, [(0x1000, 14)]⟩,
  ⟨"LINKDOWN_DROP", 0x3001a0, [(0x1000, 14)]⟩,
  ⟨"LPI_TX_US", 0x3001a8, [(0x1000, 14)]⟩,
  ⟨"LPI_RX_US", 0x3001b0, [(0x1000, 14)]⟩,
  ⟨"LPI_TX_ENTRY", 0x3001b8, [(0x1000, 14)]⟩,
  ⟨"FEC_CORR_CW", 0x3001c0, [(0x1000, 14)]⟩,
  ⟨"FEC_UNCORR_CW", 0x3001c8, [(0x1000, 14)]⟩,
  ⟨"LINK_DOWN_CNT", 0x3001d0, [(0x1000, 14)]⟩]

/-- Registers of SLC, part 0. -/
def slcRegs0 : List Reg := [
  ⟨"VER_STATUS", 0x400000, [], [⟨17, 17, .ro, 0, "COMMIT_ARMED"⟩, ⟨16, 16, .ro, 0, "SWEEP_BUSY"⟩, ⟨15, 8, .ro, 1, "LIVE"⟩, ⟨7, 7, .ro, 0, "STAGE_OPEN"⟩, ⟨6, 4, .ro, 0, "VER_STAGE"⟩, ⟨2, 0, .ro, 0, "VER_CUR"⟩]⟩,
  ⟨"VER_CMD", 0x400004, [], [⟨3, 3, .wo, 0, "LINK"⟩, ⟨2, 0, .wo, 0, "OP"⟩]⟩,
  ⟨"COMMIT_T_NS", 0x400008, [], [⟨29, 0, .rw, 0, "NS"⟩]⟩,
  ⟨"COMMIT_T_SEC_LO", 0x40000c, [], [⟨31, 0, .rw, 0, "SEC_LO"⟩]⟩,
  ⟨"COMMIT_T_SEC_HI", 0x400010, [], [⟨15, 0, .rw, 0, "SEC_HI"⟩]⟩,
  ⟨"RETIRE_GUARD", 0x400014, [], [⟨16, 0, .rw, 5000, "US"⟩]⟩,
  ⟨"SLC_EVENT", 0x400018, [], [⟨10, 10, .w1c, 0, "SWEEP_DONE"⟩, ⟨9, 9, .w1c, 0, "SP_FULL"⟩, ⟨8, 8, .w1c, 0, "PARSE_FAIL"⟩, ⟨7, 7, .w1c, 0, "ZONE_VIOL"⟩, ⟨6, 6, .w1c, 0, "ECC_UNCORR"⟩, ⟨5, 5, .w1c, 0, "MULTI_HIT"⟩, ⟨4, 4, .w1c, 0, "VER_LATE_DROP"⟩, ⟨3, 3, .w1c, 0, "COMMIT_LATE"⟩, ⟨2, 2, .w1c, 0, "VER_REFUSED"⟩, ⟨1, 1, .w1c, 0, "RETIRED"⟩, ⟨0, 0, .w1c, 0, "COMMITTED"⟩]⟩,
  ⟨"SLC_EVENT_EN", 0x40001c, [], [⟨10, 10, .rw, 0, "SWEEP_DONE"⟩, ⟨9, 9, .rw, 0, "SP_FULL"⟩, ⟨8, 8, .rw, 0, "PARSE_FAIL"⟩, ⟨7, 7, .rw, 0, "ZONE_VIOL"⟩, ⟨6, 6, .rw, 0, "ECC_UNCORR"⟩, ⟨5, 5, .rw, 0, "MULTI_HIT"⟩, ⟨4, 4, .rw, 0, "VER_LATE_DROP"⟩, ⟨3, 3, .rw, 0, "COMMIT_LATE"⟩, ⟨2, 2, .rw, 0, "VER_REFUSED"⟩, ⟨1, 1, .rw, 0, "RETIRED"⟩, ⟨0, 0, .rw, 0, "COMMITTED"⟩]⟩,
  ⟨"INFLIGHT", 0x400020, [(0x4, 8)], [⟨19, 0, .ro, 0, "COUNT"⟩]⟩,
  ⟨"ECC_INFO", 0x400040, [], [⟨31, 28, .ro, 0, "TABLE"⟩, ⟨15, 0, .ro, 0, "INDEX"⟩]⟩,
  ⟨"MULTI_INFO", 0x400044, [], [⟨14, 0, .ro, 0, "INDEX"⟩]⟩,
  ⟨"PARSE_FAIL_INFO", 0x400048, [], [⟨13, 8, .ro, 0, "NODE"⟩, ⟨7, 4, .ro, 0, "PORT"⟩, ⟨2, 0, .ro, 0, "CAUSE"⟩]⟩,
  ⟨"SP_CFG", 0x40004c, [], [⟨10, 0, .rw, 256, "SP_DEPTH"⟩]⟩,
  ⟨"SP_LEVEL", 0x400050, [], [⟨10, 0, .ro, 0, "LEVEL"⟩]⟩,
  ⟨"MIRROR_ALLOW", 0x400054, [], [⟨15, 0, .rwl, 0, "PORTS"⟩]⟩,
  ⟨"SEED_RULE", 0x400060, [], [⟨31, 0, .rwl, 0xffffffff, "SEED"⟩]⟩,
  ⟨"SEED_RULE", 0x400064, [], [⟨31, 0, .rwl, 0x5a5a5a5a, "SEED"⟩]⟩,
  ⟨"SEED_RULE", 0x400068, [], [⟨31, 0, .rwl, 0xa5a5a5a5, "SEED"⟩]⟩,
  ⟨"SEED_RULE", 0x40006c, [], [⟨31, 0, .rwl, 0xf0ff0f0, "SEED"⟩]⟩,
  ⟨"SEED_FDB", 0x400070, [], [⟨31, 0, .rwl, 0xffffffff, "SEED"⟩]⟩,
  ⟨"SEED_FDB", 0x400074, [], [⟨31, 0, .rwl, 0x5a5a5a5a, "SEED"⟩]⟩,
  ⟨"SEED_FDB", 0x400078, [], [⟨31, 0, .rwl, 0xa5a5a5a5, "SEED"⟩]⟩,
  ⟨"SEED_FDB", 0x40007c, [], [⟨31, 0, .rwl, 0xf0ff0f0, "SEED"⟩]⟩,
  ⟨"TBL_CMD", 0x400100, [], [⟨31, 28, .wo, 0, "TABLE"⟩, ⟨27, 24, .wo, 0, "OP"⟩, ⟨22, 20, .wo, 0, "VER"⟩, ⟨19, 18, .wo, 0, "DEST_BANK"⟩, ⟨17, 16, .wo, 0, "VBANK"⟩, ⟨15, 0, .wo, 0, "INDEX"⟩]⟩]
/-- Registers of SLC, part 1. -/
def slcRegs1 : List Reg := [
  ⟨"TBL_STATUS", 0x400104, [], [⟨31, 31, .ro, 0, "BUSY"⟩, ⟨27, 24, .ro, 0, "RESULT"⟩, ⟨15, 0, .ro, 0, "RESULT_INDEX"⟩]⟩,
  ⟨"TBL_HASH", 0x400110, [(0x4, 4)], [⟨15, 0, .ro, 0, "INDEX"⟩]⟩,
  ⟨"TBL_DATA", 0x400200, [(0x4, 32)], [⟨31, 0, .rw, 0, "DATA"⟩]⟩]
/-- Every register of SLC. -/
def slcRegs : List Reg := slcRegs0 ++ slcRegs1
/-- The counters of SLC. -/
def slcCnts : List Cnt := [
  ⟨"FRAMES_CNT", 0x400300, []⟩,
  ⟨"HIT_CNT", 0x400308, []⟩,
  ⟨"MISS_CNT", 0x400310, []⟩,
  ⟨"FDB_MISS_CNT", 0x400318, []⟩,
  ⟨"PARSE_FAIL_CNT", 0x400320, []⟩,
  ⟨"SLOW_PATH_CNT", 0x400328, []⟩,
  ⟨"CPU_COPY_CNT", 0x400330, []⟩,
  ⟨"SP_DROP_CNT", 0x400338, []⟩,
  ⟨"RULE_DROP_CNT", 0x400340, []⟩,
  ⟨"VER_LATE_DROP_CNT", 0x400348, []⟩,
  ⟨"MULTI_HIT_CNT", 0x400350, []⟩,
  ⟨"ECC_FAIL_CNT", 0x400358, []⟩,
  ⟨"ZONE_DROP_CNT", 0x400400, [(0x8, 16)]⟩]

/-- Registers of STR, part 0. -/
def strRegs0 : List Reg := [
  ⟨"STR_EVENT", 0x500000, [], [⟨2, 2, .w1c, 0, "ECC_UNCORR"⟩, ⟨1, 1, .w1c, 0, "EVQ_OVF"⟩, ⟨0, 0, .w1c, 0, "QUEUED"⟩]⟩,
  ⟨"STR_EVENT_EN", 0x500004, [], [⟨2, 2, .rw, 0, "ECC_UNCORR"⟩, ⟨1, 1, .rw, 0, "EVQ_OVF"⟩, ⟨0, 0, .rw, 0, "QUEUED"⟩]⟩,
  ⟨"EVQ_LEVEL", 0x500008, [], [⟨6, 0, .ro, 0, "LEVEL"⟩]⟩,
  ⟨"EVQ_DATA", 0x50000c, [], [⟨31, 0, .ro, 0, "ENTRY"⟩]⟩,
  ⟨"ECC_INFO", 0x500010, [], [⟨31, 28, .ro, 0, "TABLE"⟩, ⟨15, 0, .ro, 0, "INDEX"⟩]⟩,
  ⟨"TBL_CMD", 0x500100, [], [⟨31, 28, .wo, 0, "TABLE"⟩, ⟨27, 24, .wo, 0, "OP"⟩, ⟨11, 0, .wo, 0, "INDEX"⟩]⟩,
  ⟨"TBL_STATUS", 0x500104, [], [⟨31, 31, .ro, 0, "BUSY"⟩, ⟨27, 24, .ro, 0, "RESULT"⟩]⟩,
  ⟨"TBL_DATA", 0x500200, [(0x4, 16)], [⟨31, 0, .rw, 0, "DATA"⟩]⟩]
/-- Every register of STR. -/
def strRegs : List Reg := strRegs0
/-- The counters of STR. -/
def strCnts : List Cnt := [
  ⟨"STR_FRAMES_CNT", 0x500300, []⟩,
  ⟨"STR_PASS_CNT", 0x500308, []⟩,
  ⟨"SDU_DROP_CNT", 0x500310, []⟩,
  ⟨"GATE_DROP_CNT", 0x500318, []⟩,
  ⟨"METER_DROP_CNT", 0x500320, []⟩,
  ⟨"SEQ_DROP_CNT", 0x500328, []⟩,
  ⟨"INVALID_DROP_CNT", 0x500330, []⟩,
  ⟨"ECC_DROP_CNT", 0x500338, []⟩]

end Sys2Proof.Machine
end

