-- ==== Sys2Proof/Machine/RegMapB.lean ====
section
/-! DEFINITION. RegMapB.lean: the register tables of blocks BSN, CRS, LKP, CAN, GWE, CPH, row by row as the spec's register tables give them
(name, address, strides and counts, then each field: msb, lsb, access code, reset value, name). Reserved fields are left out:
they read zero and ignore writes (R3). Counters (R5) stand in lists of their own, named by their low word. -/
namespace Sys2Proof.Machine

/-- Registers of BSN, part 0. -/
def bsnRegs0 : List Reg := [
  ⟨"BSN_CTRL", 0x600000, [], [⟨15, 0, .rwl, 49152, "DROP_CAP"⟩]⟩,
  ⟨"BSN_EVENT", 0x600004, [], [⟨6, 6, .w1c, 0, "DESC_EMPTY"⟩, ⟨5, 5, .w1c, 0, "ARRIVAL_DROP"⟩, ⟨4, 4, .w1c, 0, "PKT_ECC_UNCORR"⟩, ⟨3, 3, .w1c, 0, "AGE_DROP"⟩, ⟨2, 2, .w1c, 0, "NOBUF"⟩, ⟨1, 1, .w1c, 0, "RANK_YIELD"⟩, ⟨0, 0, .w1c, 0, "REL_REJECT"⟩]⟩,
  ⟨"BSN_EVENT_EN", 0x600008, [], [⟨6, 6, .rw, 0, "DESC_EMPTY"⟩, ⟨5, 5, .rw, 0, "ARRIVAL_DROP"⟩, ⟨4, 4, .rw, 0, "PKT_ECC_UNCORR"⟩, ⟨3, 3, .rw, 0, "AGE_DROP"⟩, ⟨2, 2, .rw, 0, "NOBUF"⟩, ⟨1, 1, .rw, 0, "RANK_YIELD"⟩, ⟨0, 0, .rw, 0, "REL_REJECT"⟩]⟩,
  ⟨"REJ_INFO", 0x60000c, [], [⟨31, 31, .ro, 0, "STALE"⟩, ⟨28, 24, .ro, 0, "AGENT"⟩, ⟨23, 0, .ro, 0, "HANDLE"⟩]⟩,
  ⟨"ECC_INFO", 0x600010, [], [⟨31, 28, .ro, 0, "SLICE"⟩, ⟨27, 27, .ro, 0, "RECORD"⟩, ⟨23, 0, .ro, 0, "HANDLE"⟩]⟩,
  ⟨"REL_CMD", 0x600014, [], [⟨27, 24, .wo, 0, "SLICE"⟩, ⟨23, 0, .wo, 0, "HANDLE"⟩]⟩,
  ⟨"REL_STATUS", 0x600018, [], [⟨1, 0, .ro, 0, "RESULT"⟩]⟩,
  ⟨"REJ_SLICE", 0x60001c, [], [⟨3, 0, .ro, 0, "SLICE"⟩]⟩,
  ⟨"BUF_SEL", 0x600020, [], [⟨31, 28, .rw, 0, "SLICE"⟩, ⟨23, 0, .rw, 0, "HANDLE"⟩]⟩,
  ⟨"BUF_INFO", 0x600024, [], [⟨31, 26, .ro, 0, "GEN"⟩, ⟨25, 25, .ro, 0, "FREE"⟩, ⟨24, 24, .ro, 0, "DUP_VALID"⟩, ⟨23, 20, .ro, 0, "DUP_PORT"⟩, ⟨17, 0, .ro, 0, "OWNER"⟩]⟩,
  ⟨"VOQ_SEL", 0x600028, [], [⟨11, 8, .rw, 0, "INPUT"⟩, ⟨7, 4, .rw, 0, "OUTPUT"⟩, ⟨2, 0, .rw, 0, "TC"⟩]⟩,
  ⟨"VOQ_DEPTH", 0x60002c, [], [⟨13, 0, .ro, 0, "FRAMES"⟩]⟩,
  ⟨"VOQ_BYTES", 0x600030, [], [⟨31, 0, .ro, 0, "BYTES"⟩]⟩,
  ⟨"BUF_EXT", 0x600034, [], [⟨4, 4, .ro, 0, "WITHDRAWN"⟩, ⟨3, 0, .ro, 0, "LA_REFS"⟩]⟩,
  ⟨"VOQ_HEAD", 0x600040, [(0x4, 4)], [⟨31, 0, .ro, 0, "WORD"⟩]⟩,
  ⟨"POOL_CNT", 0x601000, [(0x100, 12)], [⟨16, 0, .rwl, 1024, "COUNT"⟩]⟩,
  ⟨"POOL_CNT", 0x601004, [(0x100, 12)], [⟨16, 0, .rwl, 192, "COUNT"⟩]⟩,
  ⟨"POOL_CNT", 0x601008, [(0x100, 12)], [⟨16, 0, .rwl, 64, "COUNT"⟩]⟩,
  ⟨"POOL_CNT", 0x60100c, [(0x100, 12)], [⟨16, 0, .rwl, 6, "COUNT"⟩]⟩,
  ⟨"POOL_CNT", 0x601c00, [(0x100, 2)], [⟨16, 0, .rwl, 2048, "COUNT"⟩]⟩,
  ⟨"POOL_CNT", 0x601c04, [(0x100, 2)], [⟨16, 0, .rwl, 448, "COUNT"⟩]⟩,
  ⟨"POOL_CNT", 0x601c08, [(0x100, 2)], [⟨16, 0, .rwl, 192, "COUNT"⟩]⟩,
  ⟨"POOL_CNT", 0x601c0c, [(0x100, 2)], [⟨16, 0, .rwl, 16, "COUNT"⟩]⟩,
  ⟨"POOL_CNT", 0x601e00, [(0x100, 2)], [⟨16, 0, .rwl, 1024, "COUNT"⟩]⟩]
/-- Registers of BSN, part 1. -/
def bsnRegs1 : List Reg := [
  ⟨"POOL_CNT", 0x601e04, [(0x100, 2)], [⟨16, 0, .rwl, 256, "COUNT"⟩]⟩,
  ⟨"POOL_CNT", 0x601e08, [(0x100, 2)], [⟨16, 0, .rwl, 64, "COUNT"⟩]⟩,
  ⟨"POOL_CNT", 0x601e0c, [(0x100, 2)], [⟨16, 0, .rwl, 8, "COUNT"⟩]⟩,
  ⟨"RSV", 0x601010, [(0x100, 16), (0x4, 4)], [⟨31, 16, .rwl, 0, "LL"⟩, ⟨15, 0, .rwl, 0, "SCHED"⟩]⟩,
  ⟨"RANK_MAP", 0x601020, [(0x100, 16)], [⟨15, 0, .rwl, 106, "MAP"⟩]⟩,
  ⟨"PFC_TH", 0x601024, [(0x100, 16)], [⟨31, 16, .rw, 256, "XOFF_TH"⟩, ⟨15, 0, .rw, 128, "XON_TH"⟩]⟩,
  ⟨"AGE_CFG", 0x601028, [(0x100, 16)], [⟨25, 16, .rw, 10, "WAIT_US"⟩, ⟨10, 0, .rw, 500, "AGE_MS"⟩]⟩,
  ⟨"GW_RSV", 0x601f2c, [], [⟨15, 0, .rwl, 0, "COUNT"⟩]⟩,
  ⟨"FREE", 0x601030, [(0x100, 12)], [⟨16, 0, .ro, 1024, "FREE"⟩]⟩,
  ⟨"FREE", 0x601034, [(0x100, 12)], [⟨16, 0, .ro, 192, "FREE"⟩]⟩,
  ⟨"FREE", 0x601038, [(0x100, 12)], [⟨16, 0, .ro, 64, "FREE"⟩]⟩,
  ⟨"FREE", 0x60103c, [(0x100, 12)], [⟨16, 0, .ro, 6, "FREE"⟩]⟩,
  ⟨"FREE", 0x601c30, [(0x100, 2)], [⟨16, 0, .ro, 2048, "FREE"⟩]⟩,
  ⟨"FREE", 0x601c34, [(0x100, 2)], [⟨16, 0, .ro, 448, "FREE"⟩]⟩,
  ⟨"FREE", 0x601c38, [(0x100, 2)], [⟨16, 0, .ro, 192, "FREE"⟩]⟩,
  ⟨"FREE", 0x601c3c, [(0x100, 2)], [⟨16, 0, .ro, 16, "FREE"⟩]⟩,
  ⟨"FREE", 0x601e30, [(0x100, 2)], [⟨16, 0, .ro, 1024, "FREE"⟩]⟩,
  ⟨"FREE", 0x601e34, [(0x100, 2)], [⟨16, 0, .ro, 256, "FREE"⟩]⟩,
  ⟨"FREE", 0x601e38, [(0x100, 2)], [⟨16, 0, .ro, 64, "FREE"⟩]⟩,
  ⟨"FREE", 0x601e3c, [(0x100, 2)], [⟨16, 0, .ro, 8, "FREE"⟩]⟩,
  ⟨"XOFF_STATE", 0x601040, [(0x100, 16)], [⟨7, 0, .ro, 0, "TC"⟩]⟩,
  ⟨"DESC_FREE", 0x601044, [(0x100, 16)], [⟨13, 0, .ro, 8192, "FREE"⟩]⟩,
  ⟨"ARRIVAL_LEVEL", 0x601048, [(0x100, 16)], [⟨14, 0, .ro, 0, "BYTES"⟩]⟩,
  ⟨"RR_PTR", 0x60104c, [(0x100, 16)], [⟨2, 0, .ro, 0, "PTR"⟩]⟩]
/-- Registers of BSN, part 2. -/
def bsnRegs2 : List Reg := [
  ⟨"VOQ_LIMIT_TC", 0x601060, [(0x100, 16), (0x4, 8)], [⟨13, 0, .rw, 256, "FRAMES"⟩]⟩]
/-- Every register of BSN. -/
def bsnRegs : List Reg := bsnRegs0 ++ bsnRegs1 ++ bsnRegs2
/-- The counters of BSN. -/
def bsnCnts : List Cnt := [
  ⟨"REJ_CNT", 0x600100, [(0x8, 18)]⟩,
  ⟨"PKT_ECC_CORR_CNT", 0x600190, []⟩,
  ⟨"PKT_ECC_UNCORR_CNT", 0x600198, []⟩,
  ⟨"NOBUF_TC", 0x608000, [(0x200, 16), (0x8, 8)]⟩,
  ⟨"RANK_YIELD_TC", 0x608040, [(0x200, 16), (0x8, 8)]⟩,
  ⟨"VOQ_DROP_TC", 0x608080, [(0x200, 16), (0x8, 8)]⟩,
  ⟨"AGE_DROP_TC", 0x6080c0, [(0x200, 16), (0x8, 8)]⟩,
  ⟨"ARRIVAL_DROP", 0x608100, [(0x200, 16)]⟩,
  ⟨"DESC_DROP", 0x608108, [(0x200, 16)]⟩,
  ⟨"ALLOC_CNT", 0x608110, [(0x200, 16)]⟩,
  ⟨"FALLBACK_CNT", 0x608118, [(0x200, 16)]⟩]

/-- Registers of CRS, part 0. -/
def crsRegs0 : List Reg := [
  ⟨"CRS_STATUS", 0x700000, [], [⟨5, 4, .ro, 0, "B_CAUSE"⟩, ⟨3, 2, .ro, 0, "A_CAUSE"⟩, ⟨1, 1, .ro, 1, "B_UP"⟩, ⟨0, 0, .ro, 1, "A_UP"⟩]⟩,
  ⟨"PLANE_CMD", 0x700004, [], [⟨2, 2, .wo, 0, "PLANE"⟩, ⟨1, 0, .wo, 0, "OP"⟩]⟩,
  ⟨"CRS_EVENT", 0x700008, [], [⟨7, 7, .w1c, 0, "RES_CONFLICT"⟩, ⟨6, 6, .w1c, 0, "STALE_CELL"⟩, ⟨5, 5, .w1c, 0, "CELL_ECC"⟩, ⟨4, 4, .w1c, 0, "MISSING"⟩, ⟨3, 3, .w1c, 0, "RESTORE_FAIL"⟩, ⟨2, 2, .w1c, 0, "BOTH_DOWN"⟩, ⟨1, 1, .w1c, 0, "PLANE_B_DOWN"⟩, ⟨0, 0, .w1c, 0, "PLANE_A_DOWN"⟩]⟩,
  ⟨"CRS_EVENT_EN", 0x70000c, [], [⟨7, 7, .rw, 0, "RES_CONFLICT"⟩, ⟨6, 6, .rw, 0, "STALE_CELL"⟩, ⟨5, 5, .rw, 0, "CELL_ECC"⟩, ⟨4, 4, .rw, 0, "MISSING"⟩, ⟨3, 3, .rw, 0, "RESTORE_FAIL"⟩, ⟨2, 2, .rw, 0, "BOTH_DOWN"⟩, ⟨1, 1, .rw, 0, "PLANE_B_DOWN"⟩, ⟨0, 0, .rw, 0, "PLANE_A_DOWN"⟩]⟩,
  ⟨"CMP_INFO", 0x700010, [], [⟨31, 31, .ro, 0, "PLANE"⟩, ⟨30, 28, .ro, 0, "PHASE"⟩, ⟨27, 24, .ro, 0, "PORT"⟩]⟩,
  ⟨"MISSING_INFO", 0x700014, [], [⟨31, 28, .ro, 0, "IN"⟩, ⟨27, 24, .ro, 0, "OUT"⟩, ⟨23, 23, .ro, 0, "TRACK"⟩, ⟨22, 22, .ro, 0, "PLANE_LOSS"⟩, ⟨15, 0, .ro, 0, "SEQ"⟩]⟩,
  ⟨"PTR_SEL", 0x700018, [], [⟨0, 0, .rw, 0, "PLANE"⟩]⟩,
  ⟨"GRANT_PTR_LO", 0x700020, [], [⟨31, 0, .ro, 0, "G"⟩]⟩,
  ⟨"GRANT_PTR_HI", 0x700024, [], [⟨31, 0, .ro, 0, "G"⟩]⟩,
  ⟨"ACCEPT_PTR_LO", 0x700028, [], [⟨31, 0, .ro, 0, "A"⟩]⟩,
  ⟨"ACCEPT_PTR_HI", 0x70002c, [], [⟨31, 0, .ro, 0, "A"⟩]⟩,
  ⟨"TS_SEL", 0x700030, [], [⟨7, 4, .rw, 0, "OUT"⟩, ⟨3, 0, .rw, 0, "IN"⟩]⟩,
  ⟨"TS_LEVEL", 0x700034, [], [⟨13, 8, .ro, 0, "E_CELLS"⟩, ⟨5, 0, .ro, 0, "N_CELLS"⟩]⟩,
  ⟨"TS_SEQ", 0x700038, [], [⟨31, 16, .ro, 0, "NEXT"⟩, ⟨15, 0, .ro, 0, "OLDEST"⟩]⟩,
  ⟨"TBL_CMD", 0x700100, [], [⟨31, 28, .wo, 0, "TABLE"⟩, ⟨27, 24, .wo, 0, "OP"⟩, ⟨8, 0, .wo, 0, "INDEX"⟩]⟩,
  ⟨"TBL_STATUS", 0x700104, [], [⟨31, 31, .ro, 0, "BUSY"⟩, ⟨27, 24, .ro, 0, "RESULT"⟩]⟩,
  ⟨"TBL_DATA", 0x700200, [(0x4, 4)], [⟨31, 0, .rw, 0, "DATA"⟩]⟩]
/-- Every register of CRS. -/
def crsRegs : List Reg := crsRegs0
/-- The counters of CRS. -/
def crsCnts : List Cnt := [
  ⟨"CELLS_A_CNT", 0x700300, []⟩,
  ⟨"CELLS_B_CNT", 0x700308, []⟩,
  ⟨"RES_USED_CNT", 0x700310, []⟩,
  ⟨"RES_RELEASED_CNT", 0x700318, []⟩,
  ⟨"RES_CONFLICT_CNT", 0x700320, []⟩,
  ⟨"CMP_FAULT_CNT", 0x700328, []⟩,
  ⟨"PLANE_LOSS_FRAME_CNT", 0x700330, []⟩,
  ⟨"PLANE_LOSS_CELL_CNT", 0x700338, []⟩,
  ⟨"MISSING_FRAME_CNT", 0x700340, []⟩,
  ⟨"STALE_CELL_CNT", 0x700348, []⟩,
  ⟨"CELL_ECC_CORR_CNT", 0x700350, []⟩,
  ⟨"CELL_ECC_UNCORR_CNT", 0x700358, []⟩,
  ⟨"TS_LOST_FRAME", 0x700400, [(0x20, 16)]⟩,
  ⟨"TS_LOST_CELL", 0x700408, [(0x20, 16)]⟩]

/-- Registers of LKP, part 0. -/
def lkpRegs0 : List Reg := [
  ⟨"CHANGE_CMD", 0x800000, [], [⟨18, 18, .wo, 0, "LINK"⟩, ⟨17, 16, .wo, 0, "OP"⟩, ⟨15, 0, .wo, 0, "PORT_MASK"⟩]⟩,
  ⟨"CHANGE_T_NS", 0x800004, [], [⟨29, 0, .rw, 0, "NS"⟩]⟩,
  ⟨"CHANGE_T_SEC_LO", 0x800008, [], [⟨31, 0, .rw, 0, "SEC_LO"⟩]⟩,
  ⟨"CHANGE_T_SEC_HI", 0x80000c, [], [⟨15, 0, .rw, 0, "SEC_HI"⟩]⟩,
  ⟨"CHANGE_STATUS", 0x800010, [], [⟨31, 31, .ro, 0, "ARMED"⟩, ⟨26, 24, .ro, 0, "REFUSE_CAUSE"⟩, ⟨23, 20, .ro, 0, "REFUSE_PORT"⟩, ⟨15, 0, .ro, 0, "PENDING_MASK"⟩]⟩,
  ⟨"LKP_EVENT", 0x800014, [], [⟨6, 6, .w1c, 0, "ADMIN_LOCKED"⟩, ⟨5, 5, .w1c, 0, "ECC_UNCORR"⟩, ⟨4, 4, .w1c, 0, "WINDOW_MISS"⟩, ⟨3, 3, .w1c, 0, "CANCELLED"⟩, ⟨2, 2, .w1c, 0, "CHANGE_LATE"⟩, ⟨1, 1, .w1c, 0, "CHANGE_REFUSED"⟩, ⟨0, 0, .w1c, 0, "CHANGED"⟩]⟩,
  ⟨"LKP_EVENT_EN", 0x800018, [], [⟨6, 6, .rw, 0, "ADMIN_LOCKED"⟩, ⟨5, 5, .rw, 0, "ECC_UNCORR"⟩, ⟨4, 4, .rw, 0, "WINDOW_MISS"⟩, ⟨3, 3, .rw, 0, "CANCELLED"⟩, ⟨2, 2, .rw, 0, "CHANGE_LATE"⟩, ⟨1, 1, .rw, 0, "CHANGE_REFUSED"⟩, ⟨0, 0, .rw, 0, "CHANGED"⟩]⟩,
  ⟨"ECC_INFO", 0x80001c, [], [⟨31, 28, .ro, 0, "PORT"⟩, ⟨27, 27, .ro, 0, "BANK"⟩, ⟨9, 0, .ro, 0, "ENTRY"⟩]⟩,
  ⟨"TBL_CMD", 0x800100, [], [⟨31, 28, .wo, 0, "TABLE"⟩, ⟨27, 24, .wo, 0, "OP"⟩, ⟨13, 0, .wo, 0, "INDEX"⟩]⟩,
  ⟨"TBL_STATUS", 0x800104, [], [⟨31, 31, .ro, 0, "BUSY"⟩, ⟨27, 24, .ro, 0, "RESULT"⟩]⟩,
  ⟨"TBL_DATA", 0x800200, [(0x4, 20)], [⟨31, 0, .rw, 0, "DATA"⟩]⟩,
  ⟨"ADMIN_CFG", 0x801000, [(0x100, 16)], [⟨31, 31, .rw, 0, "GATE_EN"⟩, ⟨26, 16, .rw, 1, "LIST_LEN"⟩, ⟨7, 0, .rw, 255, "INIT_GATES"⟩]⟩,
  ⟨"ADMIN_CYCLE", 0x801004, [(0x100, 16)], [⟨28, 0, .rw, 500000, "TICKS"⟩]⟩,
  ⟨"ADMIN_BASE_NS", 0x801008, [(0x100, 16)], [⟨29, 0, .rw, 0, "NS"⟩]⟩,
  ⟨"ADMIN_BASE_SEC_LO", 0x80100c, [(0x100, 16)], [⟨31, 0, .rw, 0, "SEC_LO"⟩]⟩,
  ⟨"ADMIN_BASE_SEC_HI", 0x801010, [(0x100, 16)], [⟨15, 0, .rw, 0, "SEC_HI"⟩]⟩,
  ⟨"OPER_CFG", 0x801014, [(0x100, 16)], [⟨31, 31, .ro, 0, "GATE_EN"⟩, ⟨26, 16, .ro, 1, "LIST_LEN"⟩, ⟨7, 0, .ro, 255, "INIT_GATES"⟩]⟩,
  ⟨"OPER_CYCLE", 0x801018, [(0x100, 16)], [⟨28, 0, .ro, 500000, "TICKS"⟩]⟩,
  ⟨"OPER_BASE_NS", 0x80101c, [(0x100, 16)], [⟨29, 0, .ro, 0, "NS"⟩]⟩,
  ⟨"OPER_BASE_SEC_LO", 0x801020, [(0x100, 16)], [⟨31, 0, .ro, 0, "SEC_LO"⟩]⟩,
  ⟨"OPER_BASE_SEC_HI", 0x801024, [(0x100, 16)], [⟨15, 0, .ro, 0, "SEC_HI"⟩]⟩,
  ⟨"GATE_STATUS", 0x801028, [(0x100, 16)], [⟨31, 31, .ro, 0, "HOLD"⟩, ⟨27, 18, .ro, 0, "ENTRY"⟩, ⟨7, 0, .ro, 255, "GATES"⟩]⟩,
  ⟨"PMT_CFG", 0x80102c, [(0x100, 16)], [⟨23, 16, .rw, 7, "PREEMPTABLE"⟩, ⟨15, 0, .rw, 0, "HOLD_ADV"⟩]⟩,
  ⟨"SEL_CFG", 0x801030, [(0x100, 16)], [⟨31, 16, .rw, 512, "LOOKAHEAD"⟩, ⟨11, 0, .rw, 0, "LEAD_EXTRA"⟩]⟩]
/-- Registers of LKP, part 1. -/
def lkpRegs1 : List Reg := [
  ⟨"SHP_MODE", 0x801034, [(0x100, 16)], [⟨15, 0, .rw, 0, "MODE"⟩]⟩,
  ⟨"MON_CFG", 0x801038, [(0x100, 16)], [⟨15, 0, .rw, 250, "BIN_BASE"⟩]⟩,
  ⟨"SEL_STATUS", 0x80103c, [(0x100, 16)], [⟨31, 24, .ro, 0, "ELIG"⟩, ⟨23, 16, .ro, 0, "SET_ASIDE"⟩, ⟨15, 0, .ro, 0, "BACKLOG"⟩]⟩,
  ⟨"SHP_RATE_TC", 0x801040, [(0x100, 16), (0x4, 8)], [⟨23, 0, .rw, 0, "INC"⟩]⟩,
  ⟨"SHP_BURST_TC", 0x801060, [(0x100, 16), (0x4, 8)], [⟨19, 0, .rw, 0, "BYTES"⟩]⟩,
  ⟨"SHP_LEVEL_TC", 0x801080, [(0x100, 16), (0x4, 8)], [⟨31, 0, .ro, 0, "LEVEL"⟩]⟩]
/-- Every register of LKP. -/
def lkpRegs : List Reg := lkpRegs0 ++ lkpRegs1
/-- The counters of LKP. -/
def lkpCnts : List Cnt := [
  ⟨"TX_FRAMES_TC", 0x808000, [(0x100, 16), (0x8, 8)]⟩,
  ⟨"WINDOW_MISS_TC", 0x808040, [(0x100, 16), (0x8, 8)]⟩,
  ⟨"HOLD_CNT", 0x808080, [(0x100, 16)]⟩,
  ⟨"HOLD_PREEMPT_CNT", 0x808088, [(0x100, 16)]⟩,
  ⟨"EXPRESS_PREEMPT_CNT", 0x808090, [(0x100, 16)]⟩,
  ⟨"CLOSE_OVERRUN_CNT", 0x808098, [(0x100, 16)]⟩]

/-- Registers of CAN, part 0. -/
def canRegs0 : List Reg := [
  ⟨"CH_CTRL", 0x901000, [(0x100, 16)], [⟨11, 8, .rw, 0, "ONE_SHOT"⟩, ⟨7, 7, .rwl, 0, "PAIRED"⟩, ⟨6, 6, .rw, 1, "AUTO_RECOVER"⟩, ⟨5, 5, .rw, 1, "PEX_EN"⟩, ⟨4, 4, .rw, 0, "TDC_EN"⟩, ⟨3, 3, .rw, 0, "FD_EN"⟩, ⟨1, 0, .rw, 0, "MODE"⟩]⟩,
  ⟨"NBT", 0x901004, [(0x100, 16)], [⟨31, 26, .rw, 2, "NBRP"⟩, ⟨25, 17, .rw, 63, "NTSEG1"⟩, ⟨16, 9, .rw, 16, "NTSEG2"⟩, ⟨8, 1, .rw, 16, "NSJW"⟩]⟩,
  ⟨"DBT", 0x901008, [(0x100, 16)], [⟨31, 26, .rw, 1, "DBRP"⟩, ⟨25, 20, .rw, 29, "DTSEG1"⟩, ⟨19, 15, .rw, 10, "DTSEG2"⟩, ⟨14, 10, .rw, 10, "DSJW"⟩, ⟨9, 2, .rw, 30, "TDCO"⟩]⟩,
  ⟨"TRX_CTRL", 0x90100c, [(0x100, 16)], [⟨1, 1, .rw, 0, "EN"⟩, ⟨0, 0, .rw, 1, "STB"⟩]⟩,
  ⟨"CH_STATUS", 0x901010, [(0x100, 16)], [⟨31, 24, .ro, 0, "REC"⟩, ⟨23, 16, .ro, 0, "TEC"⟩, ⟨15, 8, .ro, 0, "TDCV"⟩, ⟨7, 7, .ro, 0, "FROZEN"⟩, ⟨6, 6, .ro, 0, "CLAIM_GATED"⟩, ⟨5, 5, .ro, 0, "BUS_IDLE"⟩, ⟨4, 4, .ro, 0, "RECOVERING"⟩, ⟨3, 2, .ro, 0, "STATE"⟩, ⟨1, 0, .ro, 0, "MODE_ACT"⟩]⟩,
  ⟨"FIFO_LEVEL", 0x901014, [(0x100, 16)], [⟨30, 24, .ro, 0, "RX"⟩, ⟨23, 0, .ro, 0, "TX"⟩]⟩,
  ⟨"CH_EVENT", 0x901018, [(0x100, 16)], [⟨8, 8, .w1c, 0, "ZONE_VIOL"⟩, ⟨7, 7, .w1c, 0, "CFG_LOCKED"⟩, ⟨6, 6, .w1c, 0, "BAD_TIMING"⟩, ⟨5, 5, .w1c, 0, "PROTO_EXC"⟩, ⟨4, 4, .w1c, 0, "TX_FULL"⟩, ⟨3, 3, .w1c, 0, "RX_OVF"⟩, ⟨2, 2, .w1c, 0, "RECOVERED"⟩, ⟨1, 1, .w1c, 0, "BUS_OFF"⟩, ⟨0, 0, .w1c, 0, "ERR_PASSIVE"⟩]⟩,
  ⟨"CH_EVENT_EN", 0x90101c, [(0x100, 16)], [⟨8, 8, .rw, 0, "ZONE_VIOL"⟩, ⟨7, 7, .rw, 0, "CFG_LOCKED"⟩, ⟨6, 6, .rw, 0, "BAD_TIMING"⟩, ⟨5, 5, .rw, 0, "PROTO_EXC"⟩, ⟨4, 4, .rw, 0, "TX_FULL"⟩, ⟨3, 3, .rw, 0, "RX_OVF"⟩, ⟨2, 2, .rw, 0, "RECOVERED"⟩, ⟨1, 1, .rw, 0, "BUS_OFF"⟩, ⟨0, 0, .rw, 0, "ERR_PASSIVE"⟩]⟩,
  ⟨"TXF_TH", 0x901020, [(0x100, 16)], [⟨28, 0, .rw, 0x4000000, "KEY"⟩]⟩,
  ⟨"TXF_TH", 0x901024, [(0x100, 16)], [⟨28, 0, .rw, 0xc000000, "KEY"⟩]⟩,
  ⟨"TXF_TH", 0x901028, [(0x100, 16)], [⟨28, 0, .rw, 0x18000000, "KEY"⟩]⟩,
  ⟨"CANCEL_ID", 0x90102c, [(0x100, 16)], [⟨31, 31, .rw, 0, "IDE"⟩, ⟨28, 0, .rw, 0, "ID"⟩]⟩,
  ⟨"CANCEL_CMD", 0x901030, [(0x100, 16)], [⟨3, 2, .wo, 0, "FIFO"⟩, ⟨1, 0, .wo, 0, "OP"⟩]⟩,
  ⟨"CANCEL_STATUS", 0x901034, [(0x100, 16)], [⟨31, 31, .ro, 0, "BUSY"⟩, ⟨2, 0, .ro, 0, "RESULT"⟩]⟩,
  ⟨"RECOVER_CMD", 0x901038, [(0x100, 16)], [⟨0, 0, .wo, 0, "GO"⟩]⟩,
  ⟨"CAN_EVENT_SUM", 0x900000, [], [⟨15, 0, .ro, 0, "CHAN"⟩]⟩]
/-- Every register of CAN. -/
def canRegs : List Reg := canRegs0
/-- The counters of CAN. -/
def canCnts : List Cnt := [
  ⟨"RX_MSG", 0x901040, [(0x100, 16)]⟩,
  ⟨"ERR_CRC", 0x901088, [(0x100, 16)]⟩,
  ⟨"TX_MSG", 0x901048, [(0x100, 16)]⟩,
  ⟨"ERR_ACK", 0x901090, [(0x100, 16)]⟩,
  ⟨"RX_OVF_DROP", 0x901050, [(0x100, 16)]⟩,
  ⟨"BUS_OFF_CNT", 0x901098, [(0x100, 16)]⟩,
  ⟨"TX_FULL_DROP", 0x901058, [(0x100, 16)]⟩,
  ⟨"ONE_SHOT_FAIL_CNT", 0x9010a0, [(0x100, 16)]⟩,
  ⟨"TX_REFUSED", 0x901060, [(0x100, 16)]⟩,
  ⟨"CANCELLED_CNT", 0x9010a8, [(0x100, 16)]⟩,
  ⟨"ARB_LOST", 0x901068, [(0x100, 16)]⟩,
  ⟨"FALLBACK_CNT", 0x9010b0, [(0x100, 16)]⟩,
  ⟨"ERR_BIT", 0x901070, [(0x100, 16)]⟩,
  ⟨"ZONE_DROP", 0x9010b8, [(0x100, 16)]⟩,
  ⟨"ERR_STUFF", 0x901078, [(0x100, 16)]⟩,
  ⟨"FORMAT_DROP", 0x9010c0, [(0x100, 16)]⟩,
  ⟨"ERR_FORM", 0x901080, [(0x100, 16)]⟩,
  ⟨"SEEN_TX", 0x9010c8, [(0x100, 16)]⟩]

/-- Registers of GWE, part 0. -/
def gweRegs0 : List Reg := [
  ⟨"GW_CTRL", 0xa00000, [], [⟨15, 0, .rw, 4096, "FRESH_SKIP"⟩]⟩,
  ⟨"GWE_EVENT", 0xa00004, [], [⟨5, 5, .w1c, 0, "QUEUED"⟩, ⟨4, 4, .w1c, 0, "EVQ_OVF"⟩, ⟨3, 3, .w1c, 0, "ECC_UNCORR"⟩, ⟨2, 2, .w1c, 0, "UNPACK_BAD"⟩, ⟨1, 1, .w1c, 0, "PACK_OVF"⟩, ⟨0, 0, .w1c, 0, "SEC_FAIL"⟩]⟩,
  ⟨"GWE_EVENT_EN", 0xa00008, [], [⟨5, 5, .rw, 0, "QUEUED"⟩, ⟨4, 4, .rw, 0, "EVQ_OVF"⟩, ⟨3, 3, .rw, 0, "ECC_UNCORR"⟩, ⟨2, 2, .rw, 0, "UNPACK_BAD"⟩, ⟨1, 1, .rw, 0, "PACK_OVF"⟩, ⟨0, 0, .rw, 0, "SEC_FAIL"⟩]⟩,
  ⟨"GW_DA_HI", 0xa0000c, [], [⟨15, 0, .rw, 768, "DA_HI"⟩]⟩,
  ⟨"GW_DA_LO", 0xa00010, [], [⟨31, 0, .rw, 37399, "DA_LO"⟩]⟩,
  ⟨"GW_SA_HI", 0xa00014, [], [⟨15, 0, .rw, 0, "SA_HI"⟩]⟩,
  ⟨"GW_SA_LO", 0xa00018, [], [⟨31, 0, .rw, 0, "SA_LO"⟩]⟩,
  ⟨"GW_SID_HI", 0xa0001c, [], [⟨31, 0, .rw, 0, "SID_HI"⟩]⟩,
  ⟨"GW_SID_LO", 0xa00020, [], [⟨31, 0, .rw, 0, "SID_LO"⟩]⟩,
  ⟨"SEC_FAIL_INFO", 0xa00024, [], [⟨31, 28, .ro, 0, "CHANNEL"⟩, ⟨25, 24, .ro, 0, "CAUSE"⟩, ⟨7, 0, .ro, 0, "ENTRY"⟩]⟩,
  ⟨"EVQ_LEVEL", 0xa00028, [], [⟨6, 0, .ro, 0, "LEVEL"⟩]⟩,
  ⟨"EVQ_DATA", 0xa0002c, [], [⟨31, 0, .ro, 0, "ENTRY"⟩]⟩,
  ⟨"TBL_CMD", 0xa00100, [], [⟨31, 28, .wo, 0, "TABLE"⟩, ⟨27, 24, .wo, 0, "OP"⟩, ⟨9, 0, .wo, 0, "INDEX"⟩]⟩,
  ⟨"TBL_STATUS", 0xa00104, [], [⟨31, 31, .ro, 0, "BUSY"⟩, ⟨27, 24, .ro, 0, "RESULT"⟩]⟩,
  ⟨"TBL_DATA", 0xa00200, [(0x4, 10)], [⟨31, 0, .rw, 0, "DATA"⟩]⟩]
/-- Every register of GWE. -/
def gweRegs : List Reg := gweRegs0
/-- The counters of GWE. -/
def gweCnts : List Cnt := [
  ⟨"INT_FRAMES_CNT", 0xa00300, []⟩,
  ⟨"PACK_MSG_CNT", 0xa00340, []⟩,
  ⟨"SEC_OK_CNT", 0xa00308, []⟩,
  ⟨"PACK_OVF_CNT", 0xa00348, []⟩,
  ⟨"SEC_LEN_FAIL_CNT", 0xa00310, []⟩,
  ⟨"PACK_EARLY_CNT", 0xa00350, []⟩,
  ⟨"SEC_FRESH_FAIL_CNT", 0xa00318, []⟩,
  ⟨"UNPACK_MSG_CNT", 0xa00358, []⟩,
  ⟨"SEC_KEY_FAIL_CNT", 0xa00320, []⟩,
  ⟨"UNPACK_SKIP_CNT", 0xa00360, []⟩,
  ⟨"SEC_MAC_FAIL_CNT", 0xa00328, []⟩,
  ⟨"UNPACK_BAD_CNT", 0xa00368, []⟩,
  ⟨"SEC_GEN_CNT", 0xa00330, []⟩,
  ⟨"ROUTE_INVALID_CNT", 0xa00370, []⟩,
  ⟨"PACK_FRAME_CNT", 0xa00338, []⟩,
  ⟨"SEC_LA_FULL_CNT", 0xa00378, []⟩]

/-- Registers of CPH, part 0. -/
def cphRegs0 : List Reg := [
  ⟨"CPH_EVENT", 0xb00000, [], [⟨6, 6, .w1c, 0, "CTR_REFUSED"⟩, ⟨5, 5, .w1c, 0, "ECC_UNCORR"⟩, ⟨4, 4, .w1c, 0, "CFG_LOCKED"⟩, ⟨3, 3, .w1c, 0, "KEY_LOST"⟩, ⟨2, 2, .w1c, 0, "PN_EXHAUSTED"⟩, ⟨1, 1, .w1c, 0, "PN_THRESH"⟩, ⟨0, 0, .w1c, 0, "FBV_FAIL"⟩]⟩,
  ⟨"CPH_EVENT_EN", 0xb00004, [], [⟨6, 6, .rw, 0, "CTR_REFUSED"⟩, ⟨5, 5, .rw, 0, "ECC_UNCORR"⟩, ⟨4, 4, .rw, 0, "CFG_LOCKED"⟩, ⟨3, 3, .rw, 0, "KEY_LOST"⟩, ⟨2, 2, .rw, 0, "PN_EXHAUSTED"⟩, ⟨1, 1, .rw, 0, "PN_THRESH"⟩, ⟨0, 0, .rw, 0, "FBV_FAIL"⟩]⟩,
  ⟨"PN_INFO", 0xb00008, [], [⟨8, 0, .ro, 0, "SA"⟩]⟩,
  ⟨"ECC_INFO", 0xb0000c, [], [⟨31, 28, .ro, 0, "TABLE"⟩, ⟨8, 0, .ro, 0, "INDEX"⟩]⟩,
  ⟨"PN_SKIP", 0xb00010, [], [⟨31, 0, .rw, 1048576, "SKIP"⟩]⟩,
  ⟨"PN_THRESH_LO", 0xb00014, [], [⟨31, 0, .rw, 3221225472, "LO"⟩]⟩,
  ⟨"PN_THRESH_HI", 0xb00018, [], [⟨31, 0, .rw, 3221225472, "HI"⟩]⟩,
  ⟨"LA_STATUS", 0xb0001c, [], [⟨31, 24, .ro, 0, "GW"⟩, ⟨23, 16, .ro, 0, "CTRL"⟩, ⟨15, 8, .ro, 0, "SEC"⟩]⟩,
  ⟨"TBL_CMD", 0xb00100, [], [⟨31, 28, .wo, 0, "TABLE"⟩, ⟨27, 24, .wo, 0, "OP"⟩, ⟨8, 0, .wo, 0, "INDEX"⟩]⟩,
  ⟨"TBL_STATUS", 0xb00104, [], [⟨31, 31, .ro, 0, "BUSY"⟩, ⟨27, 24, .ro, 0, "RESULT"⟩]⟩,
  ⟨"TBL_DATA", 0xb00200, [(0x4, 8)], [⟨31, 0, .rw, 0, "DATA"⟩]⟩,
  ⟨"LA_REQ", 0xb00400, [(0x4, 8)], [⟨31, 0, .wo, 0, "WORD"⟩]⟩,
  ⟨"LA_IMM", 0xb00420, [(0x4, 24)], [⟨31, 0, .wo, 0, "DATA"⟩]⟩,
  ⟨"LA_SUBMIT", 0xb00480, [], [⟨0, 0, .wo, 0, "GO"⟩]⟩,
  ⟨"LA_SUB_STATUS", 0xb00484, [], [⟨1, 0, .ro, 0, "RESULT"⟩]⟩,
  ⟨"LA_RES_LEVEL", 0xb00488, [], [⟨6, 0, .ro, 0, "LEVEL"⟩]⟩,
  ⟨"LA_RES", 0xb004a0, [(0x4, 8)], [⟨31, 0, .ro, 0, "WORD"⟩]⟩,
  ⟨"LA_CTR_LO", 0xb00800, [(0x10, 16)], [⟨31, 0, .rw, 0, "LO"⟩]⟩,
  ⟨"LA_CTR_HI", 0xb00804, [(0x10, 16)], [⟨31, 0, .rw, 0, "HI"⟩]⟩,
  ⟨"LA_IV_FIXED", 0xb00808, [(0x10, 16)], [⟨31, 0, .rwl, 0, "FIXED"⟩]⟩,
  ⟨"PORT_SEC_CFG", 0xb01000, [(0x40, 16)], [⟨6, 5, .rw, 0, "CONF_OFFSET"⟩, ⟨4, 3, .rw, 0, "CLEAR_TAGS"⟩, ⟨2, 1, .rw, 0, "SUITE"⟩, ⟨0, 0, .rw, 0, "SECURED"⟩]⟩,
  ⟨"BYPASS", 0xb01004, [(0x40, 16)], [⟨16, 16, .rw, 1, "EN"⟩, ⟨15, 0, .rw, 0x888E, "ETYPE"⟩]⟩,
  ⟨"BYPASS", 0xb01008, [(0x40, 16), (0x4, 3)], [⟨16, 16, .rw, 0, "EN"⟩, ⟨15, 0, .rw, 0, "ETYPE"⟩]⟩,
  ⟨"SEC_LA_REQ", 0xb00600, [(0x4, 8)], [⟨31, 0, .wo, 0, "WORD"⟩]⟩]
/-- Registers of CPH, part 1. -/
def cphRegs1 : List Reg := [
  ⟨"SEC_LA_IMM", 0xb00620, [(0x4, 24)], [⟨31, 0, .wo, 0, "DATA"⟩]⟩,
  ⟨"SEC_LA_SUBMIT", 0xb00680, [], [⟨0, 0, .wo, 0, "GO"⟩]⟩,
  ⟨"SEC_LA_SUB_STATUS", 0xb00684, [], [⟨1, 0, .ro, 0, "RESULT"⟩]⟩,
  ⟨"SEC_LA_RES_LEVEL", 0xb00688, [], [⟨6, 0, .ro, 0, "LEVEL"⟩]⟩,
  ⟨"SEC_LA_RES", 0xb006a0, [(0x4, 8)], [⟨31, 0, .ro, 0, "WORD"⟩]⟩]
/-- Every register of CPH. -/
def cphRegs : List Reg := cphRegs0 ++ cphRegs1
/-- The counters of CPH. -/
def cphCnts : List Cnt := [
  ⟨"IN_BYPASS", 0xb08000, [(0x100, 16)]⟩,
  ⟨"IN_NO_TAG", 0xb08008, [(0x100, 16)]⟩,
  ⟨"IN_BAD_TAG", 0xb08010, [(0x100, 16)]⟩,
  ⟨"IN_NO_SCI", 0xb08018, [(0x100, 16)]⟩,
  ⟨"IN_NOT_USING_SA", 0xb08020, [(0x100, 16)]⟩,
  ⟨"FBV_FAIL_CNT", 0xb08028, [(0x100, 16)]⟩,
  ⟨"FBV_PASS_CNT", 0xb08030, [(0x100, 16)]⟩,
  ⟨"OUT_BYPASS", 0xb08038, [(0x100, 16)]⟩,
  ⟨"OUT_NO_SA", 0xb08040, [(0x100, 16)]⟩,
  ⟨"OUT_TOO_LONG", 0xb08048, [(0x100, 16)]⟩]

end Sys2Proof.Machine
end

