-- ==== Sys2Proof/Machine/RegMapC.lean ====
section
/-! DEFINITION. RegMapC.lean: the register tables of blocks KEY, TWP, CPU, BRG, UPD, WAK, FLT, row by row as the spec's register tables give them
(name, address, strides and counts, then each field: msb, lsb, access code, reset value, name). Reserved fields are left out:
they read zero and ignore writes (R3). Counters (R5) stand in lists of their own, named by their low word. -/
namespace Sys2Proof.Machine

/-- Registers of KEY, part 0. -/
def keyRegs0 : List Reg := [
  ⟨"KEY_CMD", 0xc00000, [], [⟨31, 28, .wo, 0, "OP"⟩, ⟨9, 0, .wo, 0, "SLOT"⟩]⟩,
  ⟨"KEY_STATUS", 0xc00004, [], [⟨31, 31, .ro, 0, "BUSY"⟩, ⟨30, 30, .ro, 0, "ZEROIZING"⟩, ⟨27, 24, .ro, 0, "RESULT"⟩, ⟨9, 0, .ro, 0, "SLOT"⟩]⟩,
  ⟨"KEY_SRC", 0xc00008, [], [⟨9, 0, .rw, 0, "SRC"⟩]⟩,
  ⟨"KEY_ATTR_IN", 0xc0000c, [], [⟨31, 0, .rw, 0, "ATTR"⟩]⟩,
  ⟨"KDF_CFG", 0xc00010, [], [⟨31, 31, .rw, 0, "UID"⟩, ⟨13, 8, .rw, 0, "LABEL_LEN"⟩, ⟨5, 0, .rw, 0, "CTX_LEN"⟩]⟩,
  ⟨"INFO_ATTR", 0xc00014, [], [⟨31, 0, .ro, 0, "ATTR"⟩]⟩,
  ⟨"INFO_REF", 0xc00018, [], [⟨15, 0, .ro, 0, "REF_COUNT"⟩]⟩,
  ⟨"KEY_EVENT", 0xc0001c, [], [⟨6, 6, .w1c, 0, "OTP_FAIL"⟩, ⟨5, 5, .w1c, 0, "OTP_DONE"⟩, ⟨4, 4, .w1c, 0, "CMD_IGNORED"⟩, ⟨3, 3, .w1c, 0, "ROOT_SUBST"⟩, ⟨2, 2, .w1c, 0, "ZEROIZED"⟩, ⟨1, 1, .w1c, 0, "DENIED"⟩, ⟨0, 0, .w1c, 0, "DONE"⟩]⟩,
  ⟨"KEY_EVENT_EN", 0xc00020, [], [⟨6, 6, .rw, 0, "OTP_FAIL"⟩, ⟨5, 5, .rw, 0, "OTP_DONE"⟩, ⟨4, 4, .rw, 0, "CMD_IGNORED"⟩, ⟨3, 3, .rw, 0, "ROOT_SUBST"⟩, ⟨2, 2, .rw, 0, "ZEROIZED"⟩, ⟨1, 1, .rw, 0, "DENIED"⟩, ⟨0, 0, .rw, 0, "DONE"⟩]⟩,
  ⟨"LC_STATUS", 0xc00024, [], [⟨4, 4, .ro, 0, "DEBUG_ROOT"⟩, ⟨2, 0, .ro, 1, "LC_STATE"⟩]⟩,
  ⟨"LC_CMD", 0xc00028, [], [⟨31, 16, .wo, 0, "CONFIRM"⟩, ⟨2, 0, .wo, 0, "TARGET"⟩]⟩,
  ⟨"OTP_ARB", 0xc0002c, [], [⟨6, 0, .ro, 0, "VALUE"⟩]⟩,
  ⟨"OTP_SPLIT", 0xc00030, [], [⟨2, 1, .ro, 0, "CHANGES"⟩, ⟨0, 0, .ro, 0, "VALUE"⟩]⟩,
  ⟨"OTP_CMD", 0xc00034, [], [⟨31, 16, .wo, 0, "CONFIRM"⟩, ⟨14, 8, .wo, 0, "ARB_TARGET"⟩, ⟨1, 0, .wo, 0, "OP"⟩]⟩,
  ⟨"OTP_STATUS", 0xc00038, [], [⟨31, 31, .ro, 0, "BUSY"⟩, ⟨27, 24, .ro, 0, "RESULT"⟩]⟩,
  ⟨"KEY_DATA", 0xc00040, [(0x4, 10)], [⟨31, 0, .wo, 0, "DATA"⟩]⟩,
  ⟨"KDF_LABEL", 0xc00080, [(0x4, 4)], [⟨31, 0, .rw, 0, "LABEL"⟩]⟩,
  ⟨"KDF_CTX", 0xc00090, [(0x4, 8)], [⟨31, 0, .rw, 0, "CTX"⟩]⟩]
/-- Every register of KEY. -/
def keyRegs : List Reg := keyRegs0
/-- The counters of KEY. -/
def keyCnts : List Cnt := [
  ⟨"DENY_CNT", 0xc00100, []⟩,
  ⟨"DERIVE_CNT", 0xc00108, []⟩,
  ⟨"ZEROIZE_CNT", 0xc00110, []⟩]

/-- Registers of TWP, part 0. -/
def twpRegs0 : List Reg := [
  ⟨"TWP_CTRL", 0xd00000, [], [⟨11, 8, .rwl, 0, "NET_HB_PORT"⟩, ⟨7, 7, .rwl, 0, "NET_HB_EN"⟩, ⟨6, 6, .rwl, 1, "LINE_EN"⟩, ⟨5, 5, .rwl, 1, "TW_EN"⟩, ⟨4, 4, .rwl, 0, "TW_FEC_EN"⟩, ⟨0, 0, .rwl, 0, "PAIR_EN"⟩]⟩,
  ⟨"PAIR_CYCLE", 0xd00004, [], [⟨13, 0, .rwl, 1000, "US"⟩]⟩,
  ⟨"PAIR_BASE_NS", 0xd00008, [], [⟨29, 0, .rwl, 0, "NS"⟩]⟩,
  ⟨"PAIR_BASE_SEC_LO", 0xd0000c, [], [⟨31, 0, .rwl, 0, "SEC_LO"⟩]⟩,
  ⟨"PAIR_BASE_SEC_HI", 0xd00010, [], [⟨15, 0, .rwl, 0, "SEC_HI"⟩]⟩,
  ⟨"PAIRED_PORTS", 0xd00014, [], [⟨13, 0, .rwl, 0, "PORTS"⟩]⟩,
  ⟨"HB_CFG", 0xd00018, [], [⟨31, 16, .rw, 100, "SWAP_GUARD"⟩, ⟨9, 0, .rw, 20, "HB_GRACE"⟩]⟩,
  ⟨"OFFSET_LIMIT", 0xd0001c, [], [⟨15, 0, .rw, 1000, "NS"⟩]⟩,
  ⟨"CLAIM_STATUS", 0xd00020, [], [⟨31, 16, .ro, 0, "OWN"⟩, ⟨15, 0, .ro, 0, "PEER"⟩]⟩,
  ⟨"PAIR_STATUS", 0xd00024, [], [⟨13, 13, .ro, 0, "IMG_DIFF"⟩, ⟨12, 12, .ro, 0, "HELD"⟩, ⟨11, 11, .ro, 0, "NOTE_GAP_OPEN"⟩, ⟨10, 10, .ro, 0, "DIVERGED"⟩, ⟨9, 9, .ro, 0, "SYNCED"⟩, ⟨8, 8, .ro, 0, "PEER_PRESENT"⟩, ⟨7, 7, .ro, 0, "NET_UP"⟩, ⟨6, 6, .ro, 0, "LINE_UP"⟩, ⟨5, 5, .ro, 0, "TW_UP"⟩, ⟨4, 3, .ro, 0, "MISSED"⟩, ⟨2, 2, .ro, 0, "DRIVING"⟩]⟩,
  ⟨"TWP_CMD", 0xd00028, [], [⟨2, 0, .wo, 0, "OP"⟩]⟩,
  ⟨"SWAP_T_NS", 0xd0002c, [], [⟨29, 0, .rw, 0, "NS"⟩]⟩,
  ⟨"SWAP_T_SEC_LO", 0xd00030, [], [⟨31, 0, .rw, 0, "SEC_LO"⟩]⟩,
  ⟨"SWAP_T_SEC_HI", 0xd00034, [], [⟨15, 0, .rw, 0, "SEC_HI"⟩]⟩,
  ⟨"SWAP_STATUS", 0xd00038, [], [⟨31, 31, .ro, 0, "ARMED"⟩, ⟨27, 24, .ro, 0, "CAUSE"⟩, ⟨10, 0, .ro, 0, "EPOCH"⟩]⟩,
  ⟨"PC_TAG", 0xd0003c, [], [⟨31, 0, .rw, 0, "TAG"⟩]⟩,
  ⟨"TWP_EVENT", 0xd00040, [], [⟨17, 17, .w1c, 0, "STANDBY_YIELD"⟩, ⟨16, 16, .w1c, 0, "ISOLATED"⟩, ⟨15, 15, .w1c, 0, "DUAL_ACTIVE"⟩, ⟨14, 14, .w1c, 0, "ID_CLASH"⟩, ⟨13, 13, .w1c, 0, "CFG_MISMATCH"⟩, ⟨12, 12, .w1c, 0, "TIME_DIVERGE"⟩, ⟨11, 11, .w1c, 0, "DIVERGED"⟩, ⟨10, 10, .w1c, 0, "PC_CANCELLED"⟩, ⟨9, 9, .w1c, 0, "SNAP_OVERRUN"⟩, ⟨8, 8, .w1c, 0, "NOTE_GAP"⟩, ⟨7, 7, .w1c, 0, "RESYNC_DONE"⟩, ⟨6, 6, .w1c, 0, "DIGEST_MISMATCH"⟩, ⟨5, 5, .w1c, 0, "SWAP_REFUSED"⟩, ⟨4, 4, .w1c, 0, "SWAPPED"⟩, ⟨3, 3, .w1c, 0, "PEER_LOST"⟩, ⟨2, 2, .w1c, 0, "PATH_DOWN"⟩, ⟨1, 1, .w1c, 0, "HB_MISS"⟩, ⟨0, 0, .w1c, 0, "TAKEOVER"⟩]⟩,
  ⟨"TWP_EVENT_EN", 0xd00044, [], [⟨17, 17, .rw, 0, "STANDBY_YIELD"⟩, ⟨16, 16, .rw, 0, "ISOLATED"⟩, ⟨15, 15, .rw, 0, "DUAL_ACTIVE"⟩, ⟨14, 14, .rw, 0, "ID_CLASH"⟩, ⟨13, 13, .rw, 0, "CFG_MISMATCH"⟩, ⟨12, 12, .rw, 0, "TIME_DIVERGE"⟩, ⟨11, 11, .rw, 0, "DIVERGED"⟩, ⟨10, 10, .rw, 0, "PC_CANCELLED"⟩, ⟨9, 9, .rw, 0, "SNAP_OVERRUN"⟩, ⟨8, 8, .rw, 0, "NOTE_GAP"⟩, ⟨7, 7, .rw, 0, "RESYNC_DONE"⟩, ⟨6, 6, .rw, 0, "DIGEST_MISMATCH"⟩, ⟨5, 5, .rw, 0, "SWAP_REFUSED"⟩, ⟨4, 4, .rw, 0, "SWAPPED"⟩, ⟨3, 3, .rw, 0, "PEER_LOST"⟩, ⟨2, 2, .rw, 0, "PATH_DOWN"⟩, ⟨1, 1, .rw, 0, "HB_MISS"⟩, ⟨0, 0, .rw, 0, "TAKEOVER"⟩]⟩,
  ⟨"SYNC_INFO", 0xd00048, [], [⟨31, 24, .ro, 0, "SECTIONS"⟩, ⟨23, 0, .ro, 0, "CYCLE"⟩]⟩,
  ⟨"PEER_OFFSET", 0xd0004c, [], [⟨31, 0, .ro, 0, "OFFSET"⟩]⟩,
  ⟨"TW_DELAY", 0xd00050, [], [⟨31, 0, .ro, 0, "DELAY"⟩]⟩,
  ⟨"TAKEOVER_NS", 0xd00054, [], [⟨29, 0, .ro, 0, "NS"⟩]⟩,
  ⟨"TAKEOVER_SEC_LO", 0xd00058, [], [⟨31, 0, .ro, 0, "SEC_LO"⟩]⟩,
  ⟨"PEER_TIM", 0xd00060, [(0x4, 10)], [⟨31, 0, .ro, 0, "WORD"⟩]⟩]
/-- Every register of TWP. -/
def twpRegs : List Reg := twpRegs0
/-- The counters of TWP. -/
def twpCnts : List Cnt := [
  ⟨"TAKEOVER_CNT", 0xd00100, []⟩,
  ⟨"SWAP_CNT", 0xd00108, []⟩,
  ⟨"HB_MISS_CNT", 0xd00110, []⟩,
  ⟨"DIGEST_MISMATCH_CNT", 0xd00118, []⟩,
  ⟨"RESYNC_CNT", 0xd00120, []⟩,
  ⟨"PC_CANCEL_CNT", 0xd00128, []⟩,
  ⟨"NOTE_CNT", 0xd00130, []⟩,
  ⟨"NOTE_SKIP_CNT", 0xd00138, []⟩,
  ⟨"NOTE_ORPHAN_CNT", 0xd00140, []⟩,
  ⟨"SHADOW_TX_CNT", 0xd00148, []⟩,
  ⟨"STANDBY_YIELD_CNT", 0xd00150, []⟩,
  ⟨"TW_CRC_ERR_CNT", 0xd00158, []⟩,
  ⟨"LINE_CRC_ERR_CNT", 0xd00160, []⟩,
  ⟨"CTRL_GAP_CNT", 0xd00168, []⟩,
  ⟨"FLUSH_TC", 0xd00200, [(0x8, 8)]⟩]

/-- Registers of CPU, part 0. -/
def cpuRegs0 : List Reg := [
  ⟨"CPU_STATUS", 0xe00000, [], [⟨10, 10, .ro, 0, "SPLIT"⟩, ⟨9, 9, .ro, 0, "SEC_DBG_EN"⟩, ⟨8, 8, .ro, 1, "CTRL_DBG_EN"⟩, ⟨6, 4, .ro, 0, "SEC_STATE"⟩, ⟨2, 0, .ro, 0, "CTRL_STATE"⟩]⟩,
  ⟨"LS_CFG", 0xe00004, [], [⟨23, 16, .rwl, 10, "WINDOW_S"⟩, ⟨11, 8, .rwl, 3, "RESTART_MAX"⟩, ⟨1, 1, .rwl, 1, "SEC_RESTART"⟩, ⟨0, 0, .rwl, 1, "CTRL_RESTART"⟩]⟩,
  ⟨"RESTART_VEC_CTRL", 0xe00008, [], [⟨31, 0, .rwl, 536870912, "VEC"⟩]⟩,
  ⟨"RESTART_VEC_SEC", 0xe0000c, [], [⟨31, 0, .rwl, 536870912, "VEC"⟩]⟩,
  ⟨"CPU_EVENT", 0xe00010, [], [⟨7, 7, .w1c, 0, "DBG_AUTH_FAIL"⟩, ⟨6, 6, .w1c, 0, "DBG_ENABLED"⟩, ⟨5, 5, .w1c, 0, "MEM_ECC_UNCORR"⟩, ⟨4, 4, .w1c, 0, "SEC_GIVEUP"⟩, ⟨3, 3, .w1c, 0, "CTRL_GIVEUP"⟩, ⟨2, 2, .w1c, 0, "SEC_LS"⟩, ⟨1, 1, .w1c, 0, "CTRL_LS"⟩, ⟨0, 0, .w1c, 0, "RESTARTED"⟩]⟩,
  ⟨"CPU_EVENT_EN", 0xe00014, [], [⟨7, 7, .rw, 0, "DBG_AUTH_FAIL"⟩, ⟨6, 6, .rw, 0, "DBG_ENABLED"⟩, ⟨5, 5, .rw, 0, "MEM_ECC_UNCORR"⟩, ⟨4, 4, .rw, 0, "SEC_GIVEUP"⟩, ⟨3, 3, .rw, 0, "CTRL_GIVEUP"⟩, ⟨2, 2, .rw, 0, "SEC_LS"⟩, ⟨1, 1, .rw, 0, "CTRL_LS"⟩, ⟨0, 0, .rw, 0, "RESTARTED"⟩]⟩,
  ⟨"LS_INFO_CTRL", 0xe00018, [], [⟨31, 28, .ro, 0, "KIND"⟩, ⟨27, 16, .ro, 0, "INDEX"⟩]⟩,
  ⟨"LS_PC_CTRL", 0xe0001c, [], [⟨31, 0, .ro, 0, "PC"⟩]⟩,
  ⟨"LS_INFO_SEC", 0xe00020, [], [⟨31, 28, .ro, 0, "KIND"⟩, ⟨27, 16, .ro, 0, "INDEX"⟩]⟩,
  ⟨"LS_PC_SEC", 0xe00024, [], [⟨31, 0, .ro, 0, "PC"⟩]⟩,
  ⟨"MEM_ECC_INFO", 0xe00028, [], [⟨31, 28, .ro, 0, "MEM"⟩, ⟨19, 0, .ro, 0, "OFFSET"⟩]⟩,
  ⟨"CORE_CMD", 0xe0002c, [], [⟨31, 16, .wo, 0, "CONFIRM"⟩, ⟨1, 0, .wo, 0, "OP"⟩]⟩,
  ⟨"IPI", 0xe00030, [], [⟨2, 0, .rw, 0, "PEND"⟩]⟩,
  ⟨"MTIME_LO", 0xe00034, [], [⟨31, 0, .ro, 0, "LO"⟩]⟩,
  ⟨"MTIME_HI", 0xe00038, [], [⟨31, 0, .ro, 0, "HI"⟩]⟩,
  ⟨"MTIMECMP_LO", 0xe00040, [(0x8, 3)], [⟨31, 0, .rw, 4294967295, "LO"⟩]⟩,
  ⟨"MTIMECMP_HI", 0xe00044, [(0x8, 3)], [⟨31, 0, .rw, 4294967295, "HI"⟩]⟩,
  ⟨"DBG_AUTH_CMD", 0xe00060, [], [⟨5, 4, .wo, 0, "SCOPE"⟩, ⟨1, 0, .wo, 0, "OP"⟩]⟩,
  ⟨"DBG_AUTH_STATUS", 0xe00064, [], [⟨31, 31, .ro, 0, "BUSY"⟩, ⟨27, 24, .ro, 0, "RESULT"⟩, ⟨5, 4, .ro, 0, "GRANTED"⟩, ⟨1, 0, .ro, 0, "FAILS"⟩]⟩,
  ⟨"DBG_NONCE", 0xe00070, [(0x4, 4)], [⟨31, 0, .ro, 0, "NONCE"⟩]⟩,
  ⟨"DBG_SIG", 0xe00080, [(0x4, 16)], [⟨31, 0, .wo, 0, "SIG"⟩]⟩]
/-- Every register of CPU. -/
def cpuRegs : List Reg := cpuRegs0
/-- The counters of CPU. -/
def cpuCnts : List Cnt := [
  ⟨"CTRL_LS_CNT", 0xe00100, []⟩,
  ⟨"SEC_LS_CNT", 0xe00108, []⟩,
  ⟨"RESTART_CNT", 0xe00110, []⟩,
  ⟨"MEM_ECC_CORR_CNT", 0xe00118, []⟩,
  ⟨"MEM_ECC_UNCORR_CNT", 0xe00120, []⟩,
  ⟨"DBG_AUTH_FAIL_CNT", 0xe00128, []⟩]

/-- Registers of BRG, part 0. -/
def brgRegs0 : List Reg := [
  ⟨"BRG_TIMEOUT", 0xf00000, [], [⟨31, 16, .rw, 20, "PEER_TIMEOUT"⟩, ⟨15, 0, .rw, 100, "LOCK_TIMEOUT"⟩]⟩,
  ⟨"BRG_STATUS", 0xf00004, [], [⟨3, 3, .ro, 0, "LOCK_IN"⟩, ⟨2, 2, .ro, 0, "LOCK_OUT"⟩, ⟨1, 1, .ro, 0, "TW_LINK"⟩, ⟨0, 0, .ro, 0, "PCIE_LINK"⟩]⟩,
  ⟨"BRG_EVENT", 0xf00008, [], [⟨5, 5, .w1c, 0, "LOCK_IGNORED"⟩, ⟨4, 4, .w1c, 0, "LOCK_TIMEOUT"⟩, ⟨3, 3, .w1c, 0, "PCIE_DOWN"⟩, ⟨2, 2, .w1c, 0, "PERR_LOST"⟩, ⟨1, 1, .w1c, 0, "PERR"⟩, ⟨0, 0, .w1c, 0, "READ_ERR"⟩]⟩,
  ⟨"BRG_EVENT_EN", 0xf0000c, [], [⟨5, 5, .rw, 0, "LOCK_IGNORED"⟩, ⟨4, 4, .rw, 0, "LOCK_TIMEOUT"⟩, ⟨3, 3, .rw, 0, "PCIE_DOWN"⟩, ⟨2, 2, .rw, 0, "PERR_LOST"⟩, ⟨1, 1, .rw, 0, "PERR"⟩, ⟨0, 0, .rw, 0, "READ_ERR"⟩]⟩,
  ⟨"RING_EVENT", 0xf00010, [], [⟨15, 0, .w1c, 0, "RING"⟩]⟩,
  ⟨"RING_EVENT_EN", 0xf00014, [], [⟨15, 0, .rw, 0, "RING"⟩]⟩,
  ⟨"PERR_STICKY", 0xf00018, [], [⟨11, 4, .w1c, 0, "PEER"⟩, ⟨3, 0, .w1c, 0, "HOST"⟩]⟩,
  ⟨"PERR_LEVEL", 0xf0001c, [], [⟨3, 0, .ro, 0, "LEVEL"⟩]⟩,
  ⟨"PERR_LOG", 0xf00020, [(0x4, 4)], [⟨31, 0, .ro, 0, "WORD"⟩]⟩,
  ⟨"PEER_LOCK_ADDR", 0xf00030, [], [⟨2, 0, .rw, 0, "SEM"⟩]⟩,
  ⟨"PEER_LOCK_DATA", 0xf00034, [], [⟨31, 0, .rw, 0, "DATA"⟩]⟩,
  ⟨"PEER_LOCK_CMD", 0xf00038, [], [⟨1, 0, .wo, 0, "OP"⟩]⟩,
  ⟨"PEER_LOCK_STATUS", 0xf0003c, [], [⟨31, 31, .ro, 0, "BUSY"⟩, ⟨27, 24, .ro, 0, "RESULT"⟩]⟩,
  ⟨"BRG_SEM", 0xf00040, [(0x4, 8)], [⟨31, 0, .rw, 0, "VALUE"⟩]⟩,
  ⟨"HOST_WIN_LO", 0xf00100, [(0x10, 4)], [⟨31, 12, .rw, 0, "BASE_LO"⟩]⟩,
  ⟨"HOST_WIN_HI", 0xf00104, [(0x10, 4)], [⟨31, 0, .rw, 0, "BASE_HI"⟩]⟩,
  ⟨"HOST_WIN_CTRL", 0xf00108, [(0x10, 4)], [⟨1, 1, .rw, 0, "DATA_INV"⟩, ⟨0, 0, .rw, 0, "EN"⟩]⟩,
  ⟨"PEER_WIN", 0xf00140, [(0x4, 8)], [⟨31, 31, .rw, 0, "EN"⟩, ⟨4, 0, .rw, 0, "TARGET"⟩]⟩,
  ⟨"RING_BASE_LO", 0xf01000, [(0x200, 2), (0x40, 8)], [⟨31, 6, .rw, 0, "BASE_LO"⟩]⟩,
  ⟨"RING_BASE_HI", 0xf01004, [(0x200, 2), (0x40, 8)], [⟨31, 0, .rw, 0, "BASE_HI"⟩]⟩,
  ⟨"RING_SIZE", 0xf01008, [(0x200, 2), (0x40, 8)], [⟨15, 0, .rw, 256, "ENTRIES"⟩]⟩,
  ⟨"RING_HEAD", 0xf0100c, [(0x200, 2), (0x40, 8)], [⟨15, 0, .ro, 0, "HEAD"⟩]⟩,
  ⟨"RING_TAIL", 0xf01010, [(0x200, 2), (0x40, 8)], [⟨15, 0, .rw, 0, "TAIL"⟩]⟩,
  ⟨"RING_CTRL", 0xf01014, [(0x40, 8)], [⟨31, 16, .rw, 0, "COAL_US"⟩, ⟨15, 8, .rw, 1, "COAL_FRAMES"⟩, ⟨3, 2, .rw, 2, "RANK"⟩, ⟨0, 0, .rw, 0, "ENABLE"⟩]⟩,
  ⟨"RING_CTRL", 0xf01214, [(0x40, 8)], [⟨31, 16, .rw, 0, "COAL_US"⟩, ⟨15, 8, .rw, 1, "COAL_FRAMES"⟩, ⟨0, 0, .rw, 0, "ENABLE"⟩]⟩]
/-- Registers of BRG, part 1. -/
def brgRegs1 : List Reg := [
  ⟨"RING_STATUS", 0xf01018, [(0x200, 2), (0x40, 8)], [⟨1, 1, .ro, 0, "ERR_STOP"⟩, ⟨0, 0, .ro, 0, "RUNNING"⟩]⟩]
/-- Every register of BRG. -/
def brgRegs : List Reg := brgRegs0 ++ brgRegs1
/-- The counters of BRG. -/
def brgCnts : List Cnt := [
  ⟨"TX_FRAMES_CNT", 0xf00300, []⟩,
  ⟨"TX_DESC_ERR_CNT", 0xf00308, []⟩,
  ⟨"RX_FRAMES_CNT", 0xf00310, []⟩,
  ⟨"RX_TOO_BIG", 0xf00318, []⟩,
  ⟨"RX_POISONED_CNT", 0xf00320, []⟩,
  ⟨"READ_ERR_CNT", 0xf00328, []⟩,
  ⟨"PERR_CNT", 0xf00330, []⟩,
  ⟨"PERR_LOST_CNT", 0xf00338, []⟩,
  ⟨"LOCK_RETRY_CNT", 0xf00340, []⟩,
  ⟨"LOCK_TIMEOUT_CNT", 0xf00348, []⟩,
  ⟨"PEER_IN_CNT", 0xf00350, []⟩]

/-- Registers of UPD, part 0. -/
def updRegs0 : List Reg := [
  ⟨"UPD_CMD", 0x1000000, [], [⟨31, 16, .wo, 0, "SESSION"⟩, ⟨7, 6, .wo, 0, "MODE"⟩, ⟨5, 5, .wo, 0, "FORCE"⟩, ⟨3, 0, .wo, 0, "OP"⟩]⟩,
  ⟨"UPD_STATUS", 0x1000004, [], [⟨31, 31, .ro, 0, "BUSY"⟩, ⟨27, 24, .ro, 0, "RESULT"⟩, ⟨15, 0, .ro, 0, "SESSION"⟩]⟩,
  ⟨"UPD_SESS", 0x1000008, [], [⟨31, 31, .ro, 0, "HELD"⟩, ⟨27, 26, .ro, 0, "OWNER"⟩, ⟨15, 0, .rw, 60, "TIMEOUT_S"⟩]⟩,
  ⟨"UPD_BANKS", 0x100000c, [], [⟨11, 0, .ro, 0, "STATE"⟩]⟩,
  ⟨"BS_SEQ", 0x1000010, [], [⟨31, 0, .ro, 0, "SEQ"⟩]⟩,
  ⟨"BLK_INDEX", 0x1000014, [], [⟨14, 0, .rw, 0, "INDEX"⟩]⟩,
  ⟨"BLK_CRC", 0x1000018, [], [⟨31, 0, .rw, 0, "CRC"⟩]⟩,
  ⟨"IMG_BLOCKS", 0x100001c, [], [⟨14, 0, .rw, 0, "BLOCKS"⟩]⟩,
  ⟨"BLK_DONE", 0x1000020, [], [⟨14, 0, .ro, 0, "COUNT"⟩]⟩,
  ⟨"UPD_VERIFY_ERR", 0x1000024, [], [⟨31, 28, .ro, 0, "CAUSE"⟩, ⟨27, 0, .ro, 0, "OFFSET"⟩]⟩,
  ⟨"RD_OFF", 0x1000028, [], [⟨31, 0, .rw, 0, "OFFSET"⟩]⟩,
  ⟨"RD_LEN", 0x100002c, [], [⟨12, 0, .rw, 4096, "BYTES"⟩]⟩,
  ⟨"UPD_EVENT", 0x1000030, [], [⟨6, 6, .w1c, 0, "FLASH_ERR"⟩, ⟨5, 5, .w1c, 0, "ARB_ADVANCED"⟩, ⟨4, 4, .w1c, 0, "SESS_TIMEOUT"⟩, ⟨3, 3, .w1c, 0, "REVERTED"⟩, ⟨2, 2, .w1c, 0, "CONFIRMED"⟩, ⟨1, 1, .w1c, 0, "ACTIVATED"⟩, ⟨0, 0, .w1c, 0, "VERIFIED"⟩]⟩,
  ⟨"UPD_EVENT_EN", 0x1000034, [], [⟨6, 6, .rw, 0, "FLASH_ERR"⟩, ⟨5, 5, .rw, 0, "ARB_ADVANCED"⟩, ⟨4, 4, .rw, 0, "SESS_TIMEOUT"⟩, ⟨3, 3, .rw, 0, "REVERTED"⟩, ⟨2, 2, .rw, 0, "CONFIRMED"⟩, ⟨1, 1, .rw, 0, "ACTIVATED"⟩, ⟨0, 0, .rw, 0, "VERIFIED"⟩]⟩,
  ⟨"UPD_DATA", 0x1001000, [(0x4, 1024)], [⟨31, 0, .wo, 0, "DATA"⟩]⟩,
  ⟨"UPD_RDATA", 0x1002000, [(0x4, 1024)], [⟨31, 0, .ro, 0, "DATA"⟩]⟩]
/-- Every register of UPD. -/
def updRegs : List Reg := updRegs0
/-- The counters of UPD. -/
def updCnts : List Cnt := [
  ⟨"BLK_OK_CNT", 0x1000100, []⟩,
  ⟨"BLK_CRC_CNT", 0x1000108, []⟩,
  ⟨"BUSY_REFUSE_CNT", 0x1000110, []⟩,
  ⟨"ACTIVATE_CNT", 0x1000118, []⟩,
  ⟨"REVERT_CNT", 0x1000120, []⟩]

/-- Registers of WAK, part 0. -/
def wakRegs0 : List Reg := [
  ⟨"WAK_CTRL", 0x1100000, [], [⟨31, 16, .rw, 1000, "RS_TIME"⟩, ⟨1, 1, .rw, 0, "PREP_FORCE"⟩, ⟨0, 0, .rwl, 0, "SLEEP_EN"⟩]⟩,
  ⟨"PREP_CFG", 0x1100004, [], [⟨13, 0, .rw, 100, "PREP_TIME"⟩]⟩,
  ⟨"SLEEP_CMD", 0x1100008, [], [⟨31, 16, .wo, 0, "CONFIRM"⟩, ⟨15, 12, .wo, 0, "CHAN"⟩, ⟨10, 8, .wo, 0, "GROUP"⟩, ⟨2, 0, .wo, 0, "OP"⟩]⟩,
  ⟨"SLEEP_STATUS", 0x110000c, [], [⟨31, 28, .ro, 0, "RESULT"⟩, ⟨27, 24, .ro, 0, "CAUSE"⟩, ⟨23, 16, .ro, 0, "GRP_ASLEEP"⟩, ⟨2, 0, .ro, 0, "STATE"⟩]⟩,
  ⟨"ABORT_INFO", 0x1100010, [], [⟨31, 28, .ro, 0, "CAUSE"⟩, ⟨27, 24, .ro, 0, "INDEX"⟩, ⟨23, 21, .ro, 0, "GROUP"⟩, ⟨20, 20, .ro, 0, "DEVICE"⟩, ⟨19, 19, .ro, 0, "IN_GROUP"⟩]⟩,
  ⟨"WAK_EVENT", 0x1100014, [], [⟨9, 9, .w1c, 0, "GRP_BUSY"⟩, ⟨8, 8, .w1c, 0, "GRP_CONFLICT"⟩, ⟨7, 7, .w1c, 0, "LATE_WAKE"⟩, ⟨6, 6, .w1c, 0, "GROUP_WOKE"⟩, ⟨5, 5, .w1c, 0, "GROUP_SLEPT"⟩, ⟨4, 4, .w1c, 0, "KA_OVF"⟩, ⟨3, 3, .w1c, 0, "STUCK_DOM"⟩, ⟨2, 2, .w1c, 0, "RET_FAIL"⟩, ⟨1, 1, .w1c, 0, "SLEEP_ABORT"⟩, ⟨0, 0, .w1c, 0, "WOKE"⟩]⟩,
  ⟨"WAK_EVENT_EN", 0x1100018, [], [⟨9, 9, .rw, 0, "GRP_BUSY"⟩, ⟨8, 8, .rw, 0, "GRP_CONFLICT"⟩, ⟨7, 7, .rw, 0, "LATE_WAKE"⟩, ⟨6, 6, .rw, 0, "GROUP_WOKE"⟩, ⟨5, 5, .rw, 0, "GROUP_SLEPT"⟩, ⟨4, 4, .rw, 0, "KA_OVF"⟩, ⟨3, 3, .rw, 0, "STUCK_DOM"⟩, ⟨2, 2, .rw, 0, "RET_FAIL"⟩, ⟨1, 1, .rw, 0, "SLEEP_ABORT"⟩, ⟨0, 0, .rw, 0, "WOKE"⟩]⟩,
  ⟨"WAKE_SRC", 0x110001c, [], [⟨31, 31, .ro, 0, "VALID"⟩, ⟨30, 28, .ro, 0, "KIND"⟩, ⟨27, 24, .ro, 0, "INDEX"⟩, ⟨23, 21, .ro, 0, "GROUP"⟩, ⟨20, 20, .ro, 0, "AFTER_COMMIT"⟩, ⟨19, 19, .ro, 0, "GROUP_ONLY"⟩, ⟨18, 18, .ro, 0, "IN_GROUP"⟩]⟩,
  ⟨"WAKE_ID", 0x1100020, [], [⟨31, 31, .ro, 0, "IDE"⟩, ⟨28, 0, .ro, 0, "ID"⟩]⟩,
  ⟨"WAKE_AO", 0x1100024, [], [⟨31, 0, .ro, 0, "COUNT"⟩]⟩,
  ⟨"WAKE_ALL", 0x1100028, [], [⟨30, 30, .ro, 0, "TIMER"⟩, ⟨29, 16, .ro, 0, "PORTS"⟩, ⟨15, 0, .ro, 0, "CHANS"⟩]⟩,
  ⟨"AO_TIME_LO", 0x110002c, [], [⟨31, 0, .ro, 0, "LO"⟩]⟩,
  ⟨"AO_TIME_HI", 0x1100030, [], [⟨31, 0, .ro, 0, "HI"⟩]⟩,
  ⟨"COMMIT_AO", 0x1100034, [], [⟨31, 0, .ro, 0, "COUNT"⟩]⟩,
  ⟨"WAKE_TIMER", 0x1100038, [], [⟨15, 0, .rw, 0, "SECONDS"⟩]⟩,
  ⟨"ISOLATED", 0x110003c, [], [⟨15, 0, .ro, 0, "CHANS"⟩]⟩,
  ⟨"KA_LEVEL", 0x1100040, [], [⟨5, 0, .ro, 0, "LEVEL"⟩]⟩,
  ⟨"KA_LOG", 0x1100044, [(0x4, 4)], [⟨31, 0, .ro, 0, "WORD"⟩]⟩,
  ⟨"CAN_WAKE_CFG", 0x1100100, [(0x40, 16)], [⟨31, 30, .rw, 1, "METHOD"⟩, ⟨29, 27, .rw, 2, "RATE"⟩, ⟨26, 26, .rw, 0, "KA_EN"⟩, ⟨23, 16, .rw, 16, "FILTER"⟩, ⟨15, 0, .rw, 1000, "STUCK_US"⟩]⟩,
  ⟨"WF_ID", 0x1100104, [(0x40, 16)], [⟨31, 31, .rw, 0, "IDE"⟩, ⟨28, 0, .rw, 0, "ID"⟩]⟩,
  ⟨"WF_MASK", 0x1100108, [(0x40, 16)], [⟨31, 31, .rw, 0, "DATA_EN"⟩, ⟨28, 0, .rw, 0, "MASK"⟩]⟩,
  ⟨"WF_DATA_LO", 0x110010c, [(0x40, 16)], [⟨31, 0, .rw, 0, "DATA"⟩]⟩,
  ⟨"WF_DATA_HI", 0x1100110, [(0x40, 16)], [⟨31, 0, .rw, 0, "DATA"⟩]⟩,
  ⟨"WF_DMASK_LO", 0x1100114, [(0x40, 16)], [⟨31, 0, .rw, 0, "MASK"⟩]⟩]
/-- Registers of WAK, part 1. -/
def wakRegs1 : List Reg := [
  ⟨"WF_DMASK_HI", 0x1100118, [(0x40, 16)], [⟨31, 0, .rw, 0, "MASK"⟩]⟩,
  ⟨"KA_ID", 0x110011c, [(0x40, 16)], [⟨31, 31, .rw, 0, "IDE"⟩, ⟨28, 0, .rw, 0, "ID"⟩]⟩,
  ⟨"KA_MASK", 0x1100120, [(0x40, 16)], [⟨28, 0, .rw, 0, "MASK"⟩]⟩,
  ⟨"GRP_MEMBERS", 0x1100600, [(0x20, 8)], [⟨29, 16, .rw, 0, "PORTS"⟩, ⟨15, 0, .rw, 0, "CHANS"⟩]⟩,
  ⟨"GRP_CTRL", 0x1100604, [(0x20, 8)], [⟨15, 8, .rw, 0, "WAKE_FWD"⟩, ⟨0, 0, .rw, 0, "WAKE_ON_TX"⟩]⟩,
  ⟨"GRP_STATUS", 0x1100608, [(0x20, 8)], [⟨2, 0, .ro, 0, "STATE"⟩]⟩]
/-- Every register of WAK. -/
def wakRegs : List Reg := wakRegs0 ++ wakRegs1
/-- The counters of WAK. -/
def wakCnts : List Cnt := [
  ⟨"SLEEP_CNT", 0x1100800, []⟩,
  ⟨"WAKE_CNT", 0x1100808, []⟩,
  ⟨"ABORT_CNT", 0x1100810, []⟩,
  ⟨"LATE_WAKE_CNT", 0x1100818, []⟩,
  ⟨"RET_FAIL_CNT", 0x1100820, []⟩,
  ⟨"STUCK_DOM_CNT", 0x1100828, []⟩,
  ⟨"KA_DROP_CNT", 0x1100830, []⟩,
  ⟨"COMMIT_DROP_CNT", 0x1100838, []⟩]

/-- Registers of FLT, part 0. -/
def fltRegs0 : List Reg := [
  ⟨"FLT_STATUS", 0x1300000, [], [⟨31, 31, .ro, 0, "ALARM"⟩, ⟨30, 30, .ro, 0, "FATAL"⟩, ⟨29, 29, .w1c, 0, "LOG_OVF"⟩, ⟨5, 0, .ro, 0, "LOG_LEVEL"⟩]⟩,
  ⟨"FLT_PEND", 0x1300004, [], [⟨31, 0, .ro, 0, "SRC"⟩]⟩,
  ⟨"FLT_DIRECT", 0x1300008, [], [⟨27, 20, .w1c, 0, "LATCH"⟩]⟩,
  ⟨"FLT_FIRST", 0x130000c, [], [⟨31, 31, .ro, 0, "VALID"⟩, ⟨30, 30, .wo, 0, "FIRST_CLR"⟩, ⟨26, 22, .ro, 0, "SRC"⟩, ⟨21, 20, .ro, 0, "CLASS"⟩]⟩,
  ⟨"FIRST_NS", 0x1300010, [], [⟨31, 0, .ro, 0, "TIME"⟩]⟩,
  ⟨"FIRST_SEC", 0x1300014, [], [⟨31, 0, .ro, 0, "SEC_LO"⟩]⟩,
  ⟨"FLT_LOG", 0x1300020, [(0x4, 3)], [⟨31, 0, .ro, 0, "WORD"⟩]⟩,
  ⟨"FLT_SRC_CFG", 0x1300100, [(0x4, 12)], [⟨31, 30, .rw, 1, "CLASS"⟩, ⟨10, 10, .rw, 1, "CTRL"⟩, ⟨9, 9, .rw, 0, "SEC"⟩, ⟨8, 8, .rw, 0, "HOST"⟩, ⟨4, 0, .rw, 0, "VECTOR"⟩]⟩,
  ⟨"FLT_SRC_CFG", 0x1300130, [], [⟨31, 30, .rw, 1, "CLASS"⟩, ⟨10, 10, .rw, 1, "CTRL"⟩, ⟨9, 9, .rw, 1, "SEC"⟩, ⟨8, 8, .rw, 0, "HOST"⟩, ⟨4, 0, .rw, 0, "VECTOR"⟩]⟩,
  ⟨"FLT_SRC_CFG", 0x1300134, [(0x4, 7)], [⟨31, 30, .rw, 1, "CLASS"⟩, ⟨10, 10, .rw, 1, "CTRL"⟩, ⟨9, 9, .rw, 0, "SEC"⟩, ⟨8, 8, .rw, 0, "HOST"⟩, ⟨4, 0, .rw, 0, "VECTOR"⟩]⟩,
  ⟨"FLT_SRC_CFG", 0x1300150, [], [⟨31, 30, .rw, 3, "CLASS"⟩, ⟨10, 10, .rw, 1, "CTRL"⟩, ⟨9, 9, .rw, 0, "SEC"⟩, ⟨8, 8, .rw, 1, "HOST"⟩, ⟨4, 0, .rw, 0, "VECTOR"⟩]⟩,
  ⟨"FLT_SRC_CFG", 0x1300154, [(0x4, 2)], [⟨31, 30, .rw, 1, "CLASS"⟩, ⟨10, 10, .rw, 1, "CTRL"⟩, ⟨9, 9, .rw, 0, "SEC"⟩, ⟨8, 8, .rw, 0, "HOST"⟩, ⟨4, 0, .rw, 0, "VECTOR"⟩]⟩,
  ⟨"FLT_SRC_CFG", 0x130015c, [(0x4, 2)], [⟨31, 30, .rw, 3, "CLASS"⟩, ⟨10, 10, .rw, 1, "CTRL"⟩, ⟨9, 9, .rw, 0, "SEC"⟩, ⟨8, 8, .rw, 1, "HOST"⟩, ⟨4, 0, .rw, 0, "VECTOR"⟩]⟩,
  ⟨"FLT_SRC_CFG", 0x1300164, [(0x4, 7)], [⟨31, 30, .rw, 1, "CLASS"⟩, ⟨10, 10, .rw, 1, "CTRL"⟩, ⟨9, 9, .rw, 0, "SEC"⟩, ⟨8, 8, .rw, 0, "HOST"⟩, ⟨4, 0, .rw, 0, "VECTOR"⟩]⟩]
/-- Every register of FLT. -/
def fltRegs : List Reg := fltRegs0
/-- The counters of FLT. -/
def fltCnts : List Cnt := [
  ⟨"FAULT_CNT_CLASS", 0x1300200, [(0x8, 4)]⟩,
  ⟨"YIELD_CNT_RANK2", 0x1300220, []⟩,
  ⟨"YIELD_CNT_RANK3", 0x1300228, []⟩,
  ⟨"YIELD_CNT_RANK4", 0x1300230, []⟩,
  ⟨"LOG_DROP_CNT", 0x1300238, []⟩]

end Sys2Proof.Machine
end

