-- ==== Sys2Proof/Machine/RegMap.lean ====
section
/-! DEFINITION. RegMap.lean: the register space (R392, R393, R395): block slots, mapped ranges, the register at an address,
and the word a register holds after reset. -/
namespace Sys2Proof.Machine

/-- The register table of a block slot (Table 20.1). -/
def regsOfSlot : Nat → List Reg
  | 0 => sysRegs | 1 => timRegs | 2 => tioRegs | 3 => macRegs | 4 => slcRegs | 5 => strRegs | 6 => bsnRegs
  | 7 => crsRegs | 8 => lkpRegs | 9 => canRegs | 10 => gweRegs | 11 => cphRegs | 12 => keyRegs | 13 => twpRegs
  | 14 => cpuRegs | 15 => brgRegs | 16 => updRegs | 17 => wakRegs | 19 => fltRegs | _ => []

/-- The counters of a block slot. -/
def cntsOfSlot : Nat → List Cnt
  | 0 => sysCnts | 1 => timCnts | 2 => tioCnts | 3 => macCnts | 4 => slcCnts | 5 => strCnts | 6 => bsnCnts
  | 7 => crsCnts | 8 => lkpCnts | 9 => canCnts | 10 => gweCnts | 11 => cphCnts | 12 => keyCnts | 13 => twpCnts
  | 14 => cpuCnts | 15 => brgCnts | 16 => updCnts | 17 => wakCnts | 19 => fltCnts | _ => []

/-- The register at an address, if one stands there. -/
def regAt (a : Nat) : Option Reg := Reg.find (regsOfSlot (a / 0x100000)) a

/-- The counter whose low word stands at an address. -/
def cntAt (a : Nat) : Option Cnt := Cnt.find (cntsOfSlot (a / 0x100000)) a

/-- The word that stands at an address after reset (zero where no register stands). -/
def resetWord (a : Nat) : Word := match regAt a with | some r => r.resetValue | none => 0

/-- The mapped ranges of Table 20.2: slot, first and last block offset. -/
def mappedRanges : List (Nat × Nat × Nat) :=
  [(0, 0x0000, 0x00FF), (1, 0x0000, 0x006F), (1, 0x0100, 0x01FF), (1, 0x0400, 0x0AFF), (2, 0x0000, 0x003F),
   (2, 0x0100, 0x08FF), (3, 0x0000, 0xD1FF), (4, 0x0000, 0x007F), (4, 0x0100, 0x011F), (4, 0x0200, 0x027F),
   (4, 0x0300, 0x047F), (5, 0x0000, 0x0013), (5, 0x0100, 0x0107), (5, 0x0200, 0x023F), (5, 0x0300, 0x03FF),
   (6, 0x0000, 0x004F), (6, 0x0100, 0x019F), (6, 0x1000, 0x1FFF), (6, 0x8000, 0x9FFF)] ++
  [(7, 0x0000, 0x003B), (7, 0x0100, 0x0107), (7, 0x0200, 0x020F), (7, 0x0300, 0x05FF), (8, 0x0000, 0x001F),
   (8, 0x0100, 0x0107), (8, 0x0200, 0x024F), (8, 0x1000, 0x1FFF), (8, 0x8000, 0x8FFF), (9, 0x0000, 0x0003),
   (9, 0x1000, 0x1FFF), (10, 0x0000, 0x002F), (10, 0x0100, 0x0107), (10, 0x0200, 0x0227), (10, 0x0300, 0x03FF),
   (11, 0x0000, 0x001F), (11, 0x0100, 0x0107), (11, 0x0200, 0x021F), (11, 0x0400, 0x04BF), (11, 0x0600, 0x06BF),
   (11, 0x0800, 0x08FF), (11, 0x1000, 0x13FF), (11, 0x8000, 0x8FFF)] ++
  [(12, 0x0000, 0x01FF), (13, 0x0000, 0x00FF), (13, 0x0100, 0x023F), (14, 0x0000, 0x01FF), (15, 0x0000, 0x005F),
   (15, 0x0100, 0x015F), (15, 0x0300, 0x03FF), (15, 0x1000, 0x11FF), (15, 0x1200, 0x13FF), (16, 0x0000, 0x01FF),
   (16, 0x1000, 0x1FFF), (16, 0x2000, 0x2FFF), (17, 0x0000, 0x0053), (17, 0x0100, 0x04FF), (17, 0x0600, 0x06FF),
   (17, 0x0800, 0x08FF), (19, 0x0000, 0x01FF), (19, 0x0200, 0x02FF)]

/-- Does the offset lie in a mapped range (R393)? -/
def isMapped (a : Nat) : Bool :=
  mappedRanges.any fun r => decide (a / 0x100000 = r.1) && decide (r.2.1 ≤ a % 0x100000) && decide (a % 0x100000 ≤ r.2.2)

end Sys2Proof.Machine
end

