-- ==== Sys2Proof/Machine/State.lean ====
section
/-! DEFINITION. State.lean: everything the spec gives the device, as plain data. Register words, counters, holding registers and
tables are held in the canonical sparse form of Sparse.lean (what is not listed reads as after reset); the state that no
register shows whole stands in one structure per block. -/
namespace Sys2Proof.Machine

/-- A fault: the machine stops. NO meaning of this model raises one: every command of the table has an effect that the spec
gives, and an access that the spec rejects ends as a bus result, not as a stop of the device (safe). -/
inductive Fault where
  /-- Not raised by any meaning; it stands for a stop the spec would give (safe). -/
  | halted
  deriving DecidableEq, Repr

/-- A refusal: the model has no meaning for the command. -/
inductive Refusal where
  /-- The command has no meaning in this model yet; raised by Dispatch.lean alone (safe). -/
  | notModelled (mnemonic : String)
  deriving DecidableEq, Repr

/-- How a bus access ended (R2, R393, R324). -/
inductive BusEnd where
  /-- Read data. -/
  | data (v : Word)
  /-- The write was taken (or ignored as its access code says). -/
  | done
  /-- Unsupported Request completion (host). -/
  | unsupported
  /-- Bus error or access fault (cores); error result (JTAG). -/
  | fault
  /-- DECODE response (peer bridge). -/
  | decode
  /-- Completer Abort (host). -/
  | abort
  deriving DecidableEq, Repr

/-- What leaves the device: frames and messages on its pins, bus results, interrupts. The list of them, in order, is the
model's own record of the device's outputs (assumption 6). -/
inductive Emit where
  /-- A bus access ended. -/
  | bus (ini : Initiator) (r : BusEnd)
  /-- A frame, fragment or stomped ending left an Ethernet port: bytes without FCS, whether the FCS was complemented,
  whether the error control character replaced the terminate (R79), and the fragment count of an SMD-C (R83). -/
  | frame (port : Nat) (data : Bytes) (stomped errChar : Bool) (frag : Option Nat := none)
  /-- A PFC frame left a port (R87): class-enable vector and the eight times. -/
  | pfc (port : Nat) (enable : Nat) (times : List Nat)
  /-- A verify (false) or respond (true) mPacket left a port (R82). -/
  | mpacket (port : Nat) (respond : Bool)
  /-- A timing pin was driven to a level (R53). -/
  | pin (pin : Nat) (high : Bool)
  /-- INT_N changed level (R387). -/
  | intN (high : Bool)
  /-- An MSI-X message (R387): the vector, and the address and data that the MSI-X table holds for it (R316). -/
  | msix (vector : Nat) (addr : BitVec 64) (data : Word)
  /-- A Towpath frame sent on the twin link, from its destination address to its FCS (R297, R298). -/
  | towpath (frame : Bytes)
  /-- A word sent on the claim line (Table 13.4). -/
  | claimWord (w : BitVec 48)
  /-- A CAN message latched for transmission on a channel (R208). -/
  | can (ch : Nat) (m : CanMsg)
  /-- A frame written to host memory at an address for a receive ring, then words 4 to 7 of the descriptor at its address (R320). -/
  | ring (r addr : Nat) (data : Bytes) (desc : Nat) (wb : List Word)
  /-- The write-back of a transmit ring's descriptor at its host address: word 3 (R318). -/
  | ringTx (r desc : Nat) (wb : Word)
  /-- A read of a descriptor or a frame from host memory: address and bytes (R318, R319). -/
  | dmaRead (addr n : Nat)
  /-- A read, or a write with its bytes, through a host window: host address and size in bytes (R322, R323). -/
  | window (addr size : Nat) (w : Option Bytes)
  /-- WAKE_OUT was driven (R369, R380). -/
  | wakeOut (high : Bool)
  /-- A port's ETHn_WAKE was driven (R376). -/
  | ethWake (port : Nat) (high : Bool)
  /-- XSPI_RESET_N was driven (R410). -/
  | xspiReset (high : Bool)
  deriving DecidableEq, Repr

/-! ### TIM: network time (chapter 02) -/

/-- A Sync with twoStepFlag 1 that waits for its Follow_Up (R35). -/
structure PendSync where
  port    : Nat
  seqId   : Nat
  logInt  : BitVec 8
  t2      : Nat
  corr    : Int
  /-- DOM_OFF in register units when the Sync was taken: D_d(t2) - t2 (R35, assumption 118). -/
  off     : Int
  deriving DecidableEq, Repr

/-- One domain tracker (R34 to R37). -/
structure Tracker where
  /-- DOM_OFF in units of 2^-72 ns, signed, within 120 bits; the register shows its upper 64 bits, in units of 2^-16 ns, rounded
  down (R34, assumption 12). -/
  off      : Int := 0
  /-- DOM_RATE, units of 2^-40 (R34). -/
  rate     : Int := 0
  /-- DOM_SET_HI wrote a staged DOM_OFF that loads at the next tick, units of 2^-16 ns (Table 2.10). -/
  setPend  : Option Int := none
  /-- The pending two-step Sync (R35). -/
  pending  : Option PendSync := none
  /-- Completed records, oldest first, ten words each, at most 32 (R36, Table 2.1). -/
  fifo     : List (List Word) := []
  /-- The tracker has completed a record (R37). -/
  fresh    : Bool := false
  /-- LOG_INTERVAL of the latest completed record, and the ticks since it completed (R37). -/
  logInt   : BitVec 8 := 0
  age      : Nat := 0
  /-- Ticks for which the tracker has been valid without a break, counted up to 1 s (R38). -/
  validTicks : Nat := 0
  deriving DecidableEq, Repr

/-- The state of selection (R38). -/
inductive Sel where
  | holdover
  | follow (d : Nat)
  deriving DecidableEq, Repr

/-- An alignment in progress (R39): the domain, the increment change the ramp makes in all (units of 2^-32 ns), what of
DOM_RATE is finer than an increment unit (units of 2^-40), and the ramp ticks passed, out of 512,000 (1,024 us). -/
structure Align where
  dom    : Nat
  total  : Int
  rest   : Int
  passed : Nat
  deriving DecidableEq, Repr

/-- The time base (R24 to R40). -/
structure Tim where
  /-- Working time in units of 2^-32 ns since the epoch: seconds, nanoseconds, 16 visible and 16 hidden fraction bits (R24). -/
  wt       : Nat := 0
  /-- The increment in force, units of 2^-32 ns (R27). -/
  incr     : Int := 2 * 2 ^ 32
  /-- A write of WT_INCR_NS that takes effect in the next tick (R27). -/
  incrPend : Option Int := none
  /-- Pending phase, units of 2^-32 ns (R28). -/
  phase    : Int := 0
  /-- A SET before release that loads at the next tick: the new working time (R29). -/
  loadPend : Option Nat := none
  sel      : Sel := .holdover
  align    : Option Align := none
  /-- Ticks that the time base has made: the model's own clock for durations that no step moves (R59, R62). -/
  ticks    : Nat := 0
  /-- Ticks spent in the current holdover since release (R38, R40). -/
  holdTicks : Nat := 0
  dom0     : Tracker := {}
  dom1     : Tracker := {}
  /-- Live NS and SEC words of the last-tagged-transmit records; key 8 x port + 2 x record (+ 1 for SEC) (R46). -/
  ltt      : List (Nat × Word) := []
  /-- Te (quarter ns) and sequenceId held from a Pdelay_Resp with twoStepFlag 1, per port (R42). -/
  heldTe   : List (Nat × (Nat × Nat)) := []
  deriving DecidableEq, Repr

/-! ### TIO: timing pins (chapter 03) -/

/-- A pulse generator or window schedule that ARM loaded (R53, R54, R60); instants in quarter nanoseconds. -/
structure Train where
  start  : Nat
  period : Nat
  width  : Nat
  count  : Nat
  /-- k of the next leading edge. -/
  next   : Nat
  /-- Pulses emitted so far. -/
  done   : Nat
  deriving DecidableEq, Repr

/-- One timing pin (R51 to R65). -/
structure Pin where
  train    : Option Train := none
  /-- The generator's level is active, and the instant at which the pulse's trailing edge falls due (R53). -/
  active   : Bool := false
  trailAt  : Nat := 0
  /-- An ARM (with its train) or STOP that waits for the active pulse's trailing edge (R55). -/
  defer    : Option (Option Train) := none
  /-- The driver is enabled (R58). -/
  driving  : Bool := false
  /-- Raw input level at the pin, 1 high. -/
  raw      : Bool := false
  /-- An edge under the glitch filter: new level (active?), its pin time in quarter ns, and the tick in which it came (R59). -/
  cand     : Option (Bool × Nat × Nat) := none
  /-- Filtered level, true when active (R59). -/
  level    : Bool := false
  masked   : Bool := false
  /-- The stuck timer runs, since this tick (R62). -/
  stuckAt  : Option Nat := none
  /-- Captures, oldest first: (captured time in quarter ns, active edge), at most 64 (R61). -/
  fifo     : List (Nat × Bool) := []
  /-- Entries at the head of the FIFO that built frames hold, which have not been accepted into Sluice yet (R65). -/
  framed   : Nat := 0
  /-- Edges dropped since this source's previous frame (R65, Table 3.1 AUX0). -/
  dropped  : Nat := 0
  /-- Working time stepped since this source's previous frame (Table 3.1). -/
  stepped  : Bool := false
  /-- SEQ of the next event frame (R67). -/
  seq      : Nat := 0
  deriving DecidableEq, Repr

/-- The marker generator (R66). -/
structure Marker where
  running : Bool := false
  /-- The next instant M, quarter ns. -/
  next    : Nat := 0
  stepped : Bool := false
  deriving DecidableEq, Repr

/-! ### Frames and their copies (chapters 01, 05, 06, 07, 08) -/

/-- Why a copy must end with a stomped ending (R80). -/
inductive Stomp where
  | rxerr | fbv | underrun
  deriving DecidableEq, Repr

/-- Where a frame stands. -/
inductive Stage where
  /-- Its bytes flow in and Sluice has not resolved it. -/
  | arriving
  /-- Resolved by Sluice (R93). -/
  | resolved
  /-- Passed by the stream stages, or needing none (R123). -/
  | passed
  /-- It holds a buffer and its copies are queued or gone (R148). -/
  | buffered
  deriving DecidableEq, Repr

/-- One copy that Sluice resolved (R109). -/
structure Target where
  out     : Nat
  mirror  : Bool
  oneStep : Bool
  deriving DecidableEq, Repr

/-- What the parse walk found (R95, R96). -/
structure Parse where
  /-- PARSE_FLAGS (Table 5.5). -/
  flags    : Nat := 0
  /-- Layer slots recorded: (slot, frame offset). -/
  slots    : List (Nat × Nat) := []
  outerTag : Option Nat := none
  innerTag : Option Nat := none
  /-- The selector of metadata offset 4 (Table 5.6). -/
  typeSel  : Nat := 0
  /-- An IPV4 or IPV6 node has been entered. -/
  ipSeen   : Bool := false
  profile  : Option Nat := none
  ptpOff   : Option Nat := none
  rtagOff  : Option Nat := none
  /-- H: the offset at which the walk left the last ETH, VLAN, RTAG or SECTAG header (R126). -/
  l2End    : Nat := 0
  /-- The end of the last ETH or VLAN header (R141). -/
  vlanEnd  : Nat := 0
  /-- The payload offset (R95). -/
  payload  : Nat := 0
  deriving DecidableEq, Repr

/-- What a SecY holds of a frame that it checks: place and length of its SecTAG as received, SA, recovered PN, and key, IV, E bit and
confidentiality offset as they stood when its SecTAG was read (R250, R255, R256); `lost`: zeroization began meanwhile (R261). -/
structure SecRx where
  off  : Nat
  len  : Nat
  sa   : Nat
  pn   : Nat
  key  : Bytes
  iv   : Bytes
  enc  : Bool
  conf : Nat
  lost : Bool := false
  deriving DecidableEq, Repr

/-- What a SecY holds of a copy that it protects: SA, place of the SecTAG, the SecTAG with SL 0, key, IV, E bit, confidentiality
offset, as they stood when its SecTAG was formed (R249 to R251). -/
structure SecTx where
  sa   : Nat
  off  : Nat
  tag  : Bytes
  key  : Bytes
  iv   : Bytes
  enc  : Bool
  conf : Nat
  deriving DecidableEq, Repr

/-- A frame inside the device, from its first byte until its buffer returns or it is dropped (R11). -/
structure Frame where
  /-- The model's own serial number of the frame. -/
  fid      : Nat
  inPort   : Nat
  /-- P14: transmit ring; P15: source of Table 5.6. -/
  src      : Nat
  /-- The bytes received so far, from the destination address, without FCS. -/
  data     : Bytes
  /-- The tail has been received without fault. -/
  tail     : Bool := false
  stage    : Stage := .arriving
  /-- Ingress timestamp in quarter nanoseconds (R31 to R33). -/
  ts       : Nat
  version  : Nat := 0
  /-- The frame holds a version count (R11). -/
  counted  : Bool := false
  zone     : Nat := 0
  tc       : Nat := 0
  colour   : Nat := 0
  stream   : Option Nat := none
  /-- LENGTH (R13). -/
  len      : Nat := 0
  cutThrough : Bool := false
  unverified : Bool := false
  /-- Of a cut-through frame: H + MAX_SDU + 4, the last byte before a receive fault, and LENGTH as the meter charged it, both before
  the R-TAG change (R127, R134); octets that the R-TAG change has added (R141, R142). -/
  sduEnd   : Nat := 0
  lenIn    : Nat := 0
  shift    : Int := 0
  targets  : List Target := []
  /-- A processor copy or slow-path delivery with its reason (R109, R111). -/
  cpu      : Option Nat := none
  gwRoute  : Nat := 0
  parse    : Parse := {}
  ruleHit  : Option Nat := none
  /-- A rule counter that still has to count the frame's bytes, once its length is known. -/
  hitCtr   : Option Nat := none
  failCause : Nat := 0
  /-- The buffer: pool and index, with its generation (R152). -/
  handle   : Option (Nat × Nat × Nat) := none
  /-- The tick in which the frame took it: from then on the arrival store empties at one cell a clock (R148). -/
  allocAt  : Nat := 0
  /-- Rank at which a P14 or P15 request is taken: 0 scheduled, 1 lossless, 2 best effort (R149, R318). -/
  rank     : Nat := 2
  /-- The SecY of its port has not read its SecTAG yet (R255). -/
  secPend  : Bool := false
  /-- Place and length of its SecTAG while it stands in the data; length 0 when there is none (R247). -/
  secOff   : Nat := 0
  secLen   : Nat := 0
  /-- The SecY is checking this frame (R255, R256), and the ICV result is not yet known though the tail has come (R257). -/
  sec      : Option SecRx := none
  icvWait  : Bool := false
  /-- The received octets of such a frame, without FCS. -/
  raw      : Bytes := []
  /-- The meter bucket a frame paid from: meter and 0 committed or 1 excess (R134). -/
  paid     : Option (Nat × Nat) := none
  /-- The recovery function and sequence number that passed it (R140). -/
  recov    : Option (Nat × Nat) := none
  /-- The frame waits for a buffer at the head of the arrival store, and since when, quarter ns (R151). -/
  waiting  : Bool := false
  waitAt   : Nat := 0
  /-- What the P15 source keeps until Basin takes the frame: TIO pin and number of FIFO entries, or CAN channel and 1 (R151). -/
  origin   : Option (Nat × Nat) := none
  /-- Bytes of its buffer beyond the frame's own that the look-aside engine has written: offset and value, offsets rising (R265). -/
  extra    : List (Nat × Byte) := []
  deriving DecidableEq, Repr

/-- A cell of a copy that has been granted and has not arrived at Turnstile: index, plane A?, cell time of its grant. -/
structure Cell where
  idx    : Nat
  plane  : Bool
  at_    : Nat
  /-- The cell was read well from packet memory; one that was not is never sent (R159). -/
  sent   : Bool := true
  /-- The side-band word that travels with it (R161, Table 8.1). -/
  word   : BitVec 192 := 0
  deriving DecidableEq, Repr

/-- Where a copy stands. -/
inductive CopySt where
  /-- In its VOQ (R155). -/
  | queued
  /-- Its cell 0 has been granted (R186). -/
  | committed
  /-- Its transmission has started. -/
  | sending
  /-- Preempted: part of it has been sent (R83). -/
  | preempted
  /-- Shadow-sent by a unit that does not drive its paired port, until a departure note releases it (R275, R290). -/
  | parked
  /-- Ended or lost: it stays while cells of it are still in the fabric (R81, R175). -/
  | draining
  deriving DecidableEq, Repr

/-- A copy of a frame: its descriptor in a VOQ, then its passage through the fabric and its output (R12, R155, R163). -/
structure Copy where
  cid     : Nat
  fid     : Nat
  inp     : Nat
  out     : Nat
  tc      : Nat
  mirror  : Bool
  oneStep : Bool
  /-- CUT_THROUGH of its descriptor (R77). -/
  ct      : Bool
  st      : CopySt := .queued
  /-- SEQ and SPRAY, taken at the grant of cell 0 (R162, R163). -/
  seq     : Nat := 0
  spray   : Bool := false
  /-- Indices of the cells granted so far. -/
  granted : List Nat := []
  flying  : List Cell := []
  /-- Indices of the cells that Turnstile holds or has passed on. -/
  arrived : List Nat := []
  /-- The copy was declared lost (R171, R175). -/
  lost    : Bool := false
  /-- Order of the cell-0 grants (R189). -/
  grantNo : Nat := 0
  /-- Set aside under R191. -/
  aside   : Bool := false
  /-- The copy must end stomped, with the causes known (R80). -/
  stomp   : Option Stomp := none
  /-- Bytes sent before the fragment in progress (R83). -/
  sent    : Nat := 0
  /-- Number of cells, fixed at the grant of cell 0 and corrected by the tail. -/
  cells   : Nat := 0
  /-- The one plane (A?) that carries all cells left to grant; none while the copy is sprayed over both (R162). -/
  pin     : Option Bool := none
  /-- The plane (A?) in service when a copy started that is not sprayed (R162). -/
  home    : Option Bool := none
  /-- Its output's release has been made already. -/
  freed   : Bool := false
  deriving DecidableEq, Repr

/-- What the one-step engine takes at a copy's egress tick: Te in quarter nanoseconds; DOMAIN_NUM, DOM_RATE and DOM_OFF (register units)
of both trackers; LINK_DELAY of the input port; PORT_ID of the output port as ten octets (R42). -/
structure Egress where
  te    : Nat
  doms  : List (Nat × Int × Int)
  delay : Nat
  ident : Bytes
  deriving DecidableEq, Repr

/-- A frame, fragment or PFC frame on the wire of an output. -/
structure Tx where
  /-- The copy being sent; none for a PFC frame. -/
  cid     : Option Nat
  /-- Committed start in picoseconds of working time (R178). -/
  start   : Nat
  /-- Committed start of the frame's first fragment, as working time stood then (R31). -/
  first   : Nat
  /-- The bytes that leave, from the destination address, without FCS (after the one-step engine and the SecY). -/
  data    : Bytes
  /-- Frame bytes of the copy still to send when this fragment began. -/
  bytes   : Nat
  express : Bool
  /-- The copy passed its fit check against this close, in picoseconds; none for a window without end (R190). -/
  close   : Option Nat
  /-- Sent with MACsec protection. -/
  sec     : Option SecTx := none
  /-- The one-step engine has still to act, as of the egress tick: the PTP header had not come when the copy started (R42). -/
  late    : Option Egress := none
  /-- The fragment count in the SMD-C of this mPacket; none in a frame's first or only one (R83). -/
  frag    : Option Nat := none
  /-- A span of a port that does not drive: class of the copy, and whether R83 can preempt it; nothing leaves (R195, R275). -/
  shadow  : Option (Nat × Bool) := none
  deriving DecidableEq, Repr

/-! ### MAC (chapter 04) -/

/-- A frame that a MAC is receiving (R75, R76): ingress timestamp, octets so far, its first octets, the octets that the MAC still
holds because they are not yet a frame for Sluice, the frame that it has passed on, and whether an uncorrectable codeword has
overlapped it (R72). With neither octets held nor a frame passed on, what arrives is counted and goes nowhere. -/
structure Rx where
  ts    : Nat
  len   : Nat
  front : Bytes
  held  : Option Bytes
  fid   : Option Nat
  bad   : Bool := false
  /-- It has been cut off as too long and counted: what still comes of it is not taken (R75, R127). -/
  cut   : Bool := false
  deriving DecidableEq, Repr

/-- Reassembly of a preempted frame, with the count that its next fragment must carry (R84). -/
structure Assembly where
  rx   : Rx
  next : Nat
  deriving DecidableEq, Repr

/-- A PFC frame that waits: class-enable, XOFF classes among them, and the tick (working time) in which it was queued (R87). -/
structure PfcOut where
  mask : BitVec 8
  xoff : BitVec 8
  at_  : Nat
  deriving DecidableEq, Repr

/-- One external port's MAC (R69 to R90); P14 and P15 use `tx` and `freeAt` alone. -/
structure Mac where
  /-- Speed code and half duplex of the last word of the PHY's auto-negotiation (R69, R70). -/
  anWord    : Option (Nat × Bool) := none
  /-- The link conditions hold and the 1 ms hold runs (R73). -/
  holding   : Bool := false
  rx        : Option Rx := none
  assembly  : Option Assembly := none
  /-- The frame under reassembly has been discarded: its further fragments are counted in RX_FRAG only (R84). -/
  assyBad   : Bool := false
  /-- Class and instant (quarter ns) from which a pause by received PFC is published, and class and instant (picoseconds) at which
  its time runs out (R89). -/
  pauseAt   : List (Nat × Nat) := []
  pauseEnd  : List (Nat × Nat) := []
  /-- PFC frames that wait, oldest first (R87, R88). -/
  pfcQ      : List PfcOut := []
  /-- Network heartbeats that wait for this MAC, oldest first: pair-cycle number, and the words of one that is sent again (R279,
  R297). -/
  hbQ       : List (Nat × List Word) := []
  /-- Class and committed start (picoseconds) of the last PFC frame that carried it (R87). -/
  pfcLast   : List (Nat × Nat) := []
  /-- Verify mPackets sent without a response, and when the last one went out, picoseconds (R82). -/
  attempts  : Nat := 0
  verifyAt  : Nat := 0
  /-- Since when the hold of R73 has run, picoseconds. -/
  holdFrom  : Nat := 0
  /-- The preempted copy whose continuation waits, as it was sent (R189). -/
  suspended : Option Tx := none
  tx        : Option Tx := none
  /-- Working time up to which LPI_TX_US and LPI_RX_US have counted the present low-power idle, picoseconds (R85). -/
  lpiTxAt   : Nat := 0
  lpiRxAt   : Nat := 0
  /-- A frame may start at or after this instant, picoseconds: the end of the previous span, and the wake time (R85, R178). -/
  freeAt    : Nat := 0
  /-- The last tick in which the port had an eligible frame, picoseconds; kept while LPI_EN is set (R85). -/
  eligAt    : Nat := 0
  deriving DecidableEq, Repr

/-! ### SLC: Sluice (chapter 05) -/

/-- What a running rule-table sweep does (R117, R118, R120). -/
inductive Sweep where
  | open_ | retire (v : Nat) | abandon (v : Nat)
  deriving DecidableEq, Repr

/-- One delivery in the slow-path queue: the header of Table 5.10 and the frame (R112). -/
structure SlowEntry where
  hdr : List Word
  fid : Nat
  deriving DecidableEq, Repr

/-- Sluice (R93 to R121). -/
structure Slc where
  /-- Version n of the stage (R117). -/
  stage     : Option Nat := none
  /-- Sweeps of the rule table that run or wait, in order (R117, R118, R120). -/
  sweeps    : List Sweep := []
  /-- The armed commit: COMMIT_T in quarter ns, LINK (R119). -/
  armed     : Option (Nat × Bool) := none
  /-- The working time to which a step carried time past COMMIT_T (R119). -/
  jumped    : Option Nat := none
  /-- COMMIT_NOW waits for the next tick (R119). -/
  commitNow : Bool := false
  /-- (version, start of its interval in quarter ns), newest first (R119). -/
  intervals : List (Nat × Nat) := [(0, 0)]
  /-- (version, working time in quarter ns of the commit that superseded it) (R120). -/
  since     : List (Nat × Nat) := []
  /-- Table commands that stay BUSY until the OPEN sweep ends (R117): the TBL_CMD words. -/
  waiting   : List Word := []
  slow      : List SlowEntry := []
  deriving DecidableEq, Repr

/-! ### STR: stream contexts (chapter 06) -/

/-- A meter that was written since the last refill (R135): the meter, and the words 0 to 3 in force until the next refill. -/
structure MeterPend where
  idx   : Nat
  words : List Word
  deriving DecidableEq, Repr

/-- Stream stages (R123 to R145). Entries and counters stand in the tables. -/
structure Str where
  pend  : List MeterPend := []
  evq   : List Word := []
  /-- Recovery functions and when a frame last passed each, quarter ns (R139). -/
  passAt : List (Nat × Nat) := []
  /-- Interval of 32 ticks in which the meters were last refilled (R132). -/
  grid  : Nat := 0
  deriving DecidableEq, Repr

/-! ### BSN: Basin (chapter 07) -/

/-- A buffer's owner record (R152 to R154, R159). -/
structure Buf where
  slice : Nat
  pool  : Nat
  idx   : Nat
  gen   : Nat := 0
  owner : BitVec 18 := 0
  dup   : Option Nat := none
  laRefs : Nat := 0
  withdrawn : Bool := false
  /-- The share it was taken from: 0 scheduled rank, 1 lossless, 2 best effort, 3 gateway reserve (R149). -/
  rank  : Nat := 2
  /-- Taken (not on its free list). -/
  taken : Bool := false
  fid   : Nat := 0
  deriving DecidableEq, Repr

/-- Basin: the records of every buffer that has been taken or withdrawn since reset, and the free lists' order.
A pool's free list is: the never-taken indices from `nextIdx` up to POOL_CNT - 1, then `freed` in order (R152). -/
structure Bsn where
  bufs    : List Buf := []
  /-- Next never-taken index of (slice, pool): key 4 x slice + pool. -/
  nextIdx : List (Nat × Nat) := []
  /-- Released buffers in order of release: (slice, pool, idx). -/
  freed   : List (Nat × Nat × Nat) := []
  deriving DecidableEq, Repr

/-! ### CRS: Carousel and Turnstile (chapter 08) -/

/-- Carousel (R160 to R176). -/
structure Crs where
  /-- Cell times since reset: the model's number of the present one. -/
  cellNo  : Nat := 0
  /-- The number of the cell time in which the self-check of plane A, plane B began (R173). -/
  checkAt : Nat × Nat := (0, 0)
  /-- Grant and accept pointers of the planes: key 64 x plane + o for G, + 16 + i for A (R169). -/
  ptrs    : List (Nat × Nat) := []
  /-- The plane's self-check runs (R173): A, B. -/
  checkA  : Bool := false
  checkB  : Bool := false
  /-- CMP_INFO holds a fault and has not been released (Table 8.5). -/
  cmpHeld : Bool := false
  /-- SEQ the pair's next frame takes: key 16 x in + out (R163). -/
  nextSeq : List (Nat × Nat) := []
  /-- Starts of the cell times of the last second, picoseconds, newest first: R166 counts those in an open window. -/
  starts  : List Nat := []
  /-- Serial of the next cell-0 grant. -/
  grants  : Nat := 0
  deriving DecidableEq, Repr

/-! ### LKP: Lockkeeper (chapter 09) -/

/-- The shaper of one output and class (R196 to R199). -/
structure Shaper where
  key   : Nat
  /-- Level T or credit C in units of 2^-16 byte. -/
  level : Int := 0
  /-- MODE, INC and burst (bytes) in force since the last refill that applied a write. -/
  mode  : Nat := 0
  inc   : Nat := 0
  burst : Nat := 0
  deriving DecidableEq, Repr

/-- A shaper charge of a copy committed in the present cell time: it is made at the start of the next one (R188). -/
structure Charge where
  cid   : Nat
  out   : Nat
  tc    : Nat
  bytes : Nat
  deriving DecidableEq, Repr

/-- The armed list change (R183). -/
structure Change where
  t    : Nat
  mask : Nat
  link : Bool
  deriving DecidableEq, Repr

/-- Lockkeeper (R178 to R200). Lists stand in the tables, their parameters in the registers. -/
structure Lkp where
  change  : Option Change := none
  /-- The hold is in force, bit per port (R193). -/
  hold    : BitVec 16 := 0
  /-- The governing entry's read was uncorrectable: every gate counts as closed, bit per port (R182). -/
  eccShut : BitVec 16 := 0
  shapers : List Shaper := []
  charges : List Charge := []
  /-- Interval of 32 ticks in which the shapers were last refilled (R196). -/
  grid    : Nat := 0
  deriving DecidableEq, Repr

/-! ### TWP: departure notes (chapter 13) -/

/-- A departure note that waits for its copy (R290). -/
structure Note where
  out : Nat
  inp : Nat
  tc  : Nat
  len : Nat
  fid : Word
  /-- When it arrived, quarter ns. -/
  at_ : Nat
  deriving DecidableEq, Repr


/-! ### CAN: channels (chapter 10) -/

/-- A received message with its SOF time in quarter ns (R206), and where its check stands: 0 not begun or none needed,
1 its CMAC request is accepted or pending, 2 verified (R225). -/
structure CanRx where
  msg   : CanMsg
  sof   : Nat
  check : Nat := 0
  deriving DecidableEq, Repr

/-- One CAN channel (R202 to R217). -/
structure CanCh where
  /-- The receive FIFO, oldest first, at most 64 (R206). -/
  rx      : List CanRx := []
  /-- The four transmit FIFOs: (FIFO, message) in order of entry (R208). -/
  tx      : List (Nat × CanMsg) := []
  /-- The FIFO whose head the attempt in progress has latched (R208). -/
  latched : Option Nat := none
  /-- A cancel waits for the end of the attempt in progress (R211). -/
  cancel  : Bool := false
  /-- MODE has returned to OFF and acts at the end of the message in progress (R203). -/
  offPend : Bool := false
  /-- When MODE returned to OFF, quarter ns: a reception that began before is still completed (R203). -/
  offAt   : Option Nat := none
  /-- SOF sample point of the attempt in progress, quarter ns (R208). -/
  sof     : Nat := 0
  /-- The channel waits for 11 consecutive recessive bits (R203, R205). -/
  integ   : Bool := false
  /-- The attempt in progress began in LOOPBACK (R203). -/
  loop    : Bool := false
  /-- The channel is in a message on the bus: its own attempt, or a reception. -/
  inMsg   : Bool := false
  /-- sequence_num of the next internal frame (Table 10.1). -/
  seq     : Nat := 0
  /-- Heads seen sent by the peer, with their SOF times, since the capture before the present one (R217). -/
  seen    : List (Nat × Nat × CanMsg) := []
  deriving DecidableEq, Repr

/-! ### TWP: Towpath (chapter 13) -/

/-- The pair commits that LINK changes make (R295), by their T in quarter ns. -/
structure PairCommit where
  /-- READY arrived in time and GO was sent (active). -/
  ready : List Nat := []
  /-- GO has arrived (standby). -/
  go    : List Nat := []
  deriving DecidableEq, Repr

/-- A planned swap (R292 to R294). -/
structure Swap where
  /-- T, quarter ns. -/
  t      : Nat
  epoch  : Nat
  /-- This unit armed it (active); otherwise it was proposed to it (standby). -/
  mine   : Bool
  /-- COMMIT has been sent (active) or received (standby). -/
  commit : Bool := false
  /-- Cause of a NAK that has arrived. -/
  nak    : Nat := 0
  /-- Ports whose END has arrived already (standby). -/
  ends   : BitVec 16 := 0
  deriving DecidableEq, Repr

/-- An executed swap that waits for the peer's word and, on the new active, for END of each port (R294). -/
structure SwapDone where
  t       : Nat
  /-- The peer's planned claim. -/
  planned : Nat
  /-- This unit is the new active. -/
  active  : Bool
  /-- Ports whose END has been sent (old active), or has arrived or has been fenced (new active). -/
  ends    : BitVec 16 := 0
  confirmed : Bool := false
  deriving DecidableEq, Repr

/-- One object of a paired section: section, index, payload words (R283, Table 13.7). -/
structure Obj where
  sec   : Nat
  idx   : Nat
  words : List Word
  deriving DecidableEq, Repr

/-- Stream-0 frames that a received SEQ shows missing: their path's key, first SEQ and number, how many of them have come since, and
when it was seen, quarter ns: a frame of which the second copy does not come either is lost (R297). -/
structure TwGap where
  key   : Nat
  first : Nat
  n     : Nat
  got   : Nat
  at_   : Nat
  deriving DecidableEq, Repr

/-- Towpath (R271 to R300). -/
structure Twp where
  /-- A warm reset has begun while the claim line was in use: the line keeps sending the claim until release (R330). -/
  lineKeep : Bool := false
  /-- Stream-0 frames sent once, oldest first, with path and departure: each is sent again after 2 us (R297). -/
  resend  : List (Bool × Nat × List Word) := []
  /-- SEQ of the next frame sent on streams 0 to 3 and (4) on the network path, and the last one taken (R297). -/
  seqTx   : List (Nat × Nat) := []
  seqRx   : List (Nat × Nat) := []
  /-- The last 64 stream-0 frames taken, with their key, newest first; frames shown missing (R297). -/
  taken   : List (Nat × Nat) := []
  gaps    : List TwGap := []
  /-- Working time of the release, quarter ns (R276). -/
  relAt   : Nat := 0
  /-- n of the last pair-cycle end, and paths (0 twin, 1 line, 2 network) that have delivered heartbeat n, or n + 1 before this
  unit's own T (R279, R280). -/
  cycle   : Option Nat := none
  paths   : List Nat := []
  early   : List Nat := []
  /-- The deadline of heartbeat n has not been judged yet. -/
  due     : Bool := false
  /-- TX_NS and arrival time of the last heartbeat received (R288). -/
  echo    : Option (Word × Word) := none
  swap    : Option Swap := none
  swapped : Option SwapDone := none
  pc      : PairCommit := {}
  /-- F of the last takeover, and its tick: paired-port copies with an earlier ingress timestamp are discarded (R281). -/
  fence   : Option (Nat × Nat) := none
  /-- A note gap is open: it closes when no paired-port copy with a smaller serial number is left (R291). -/
  gap     : Option Nat := none
  /-- The capture S_n of the paired objects, the one before it, and the objects received for S_n (R283, R285). -/
  snap    : List Obj := []
  prev    : List Obj := []
  recvd   : List Obj := []
  /-- Sections that the active sends whole at the next pair-cycle end (R286). -/
  full    : BitVec 8 := 0
  /-- Sections whose resync the standby has requested and whose objects have not all come since, and the pair cycle of the request;
  those that wait for the digests of a later snapshot (R286). -/
  resync  : BitVec 8 := 0
  asked   : Nat := 0
  whole   : BitVec 8 := 0
  /-- Sections whose latest digests match (R285). -/
  match_  : BitVec 8 := 0
  /-- A DIGEST has arrived for S_n; a frame of stream 2 is missing (R287, R297). -/
  digest  : Bool := false
  snapBad : Bool := false
  /-- Records of the snapshot after S_n, which has begun at the peer first: section (7 for DIGEST) and words, in order of arrival, and
  whether a frame of it is missing (R283, R285). -/
  ahead   : List (Nat × List Word) := []
  nextBad : Bool := false
  /-- The active cannot finish the snapshot before the next pair-cycle end (R287). -/
  overrun : Bool := false
  /-- A rank-8 peer has been heard at rank 4 (R286). -/
  heard8  : Bool := false
  deriving DecidableEq, Repr

/-! ### KEY: key store and life cycle (chapter 11) -/

/-- A key command that runs: its OP, slot and result, and what it stores in the slot (value words 0 to 7 and attributes) (R232). -/
structure KeyRun where
  op    : Nat
  slot  : Nat
  res   : Nat
  store : Option (List Word) := none
  deriving DecidableEq, Repr

/-- What OTP programming is under way (R240, R243, R364). -/
inductive OtpRun where
  | lc (target : BitVec 3)
  | arb (target : Nat)
  | split
  /-- The update engine's advance at confirmation. -/
  | confirm (target : Nat)
  deriving DecidableEq, Repr

/-- Key store (R229 to R244): slots stand in the tables (block slot 12). The OTP cells are state that no reset changes; a unit
starts with the cells as shipped (assumption 25). -/
structure KeyS where
  /-- Life-cycle cells (Table 11.3). -/
  lc    : BitVec 3 := 1
  /-- Bits set in the anti-rollback counter and in the split-core option. -/
  arb   : Nat := 0
  split : Nat := 0
  run   : Option KeyRun := none
  otp   : Option OtpRun := none
  /-- Debug authorisation with the security pair in its scope has succeeded in this power cycle (R240, R315). -/
  authSec : Bool := false
  deriving DecidableEq, Repr

/-! ### Look-aside engine (chapter 12) and gateway engine (chapter 10) -/

/-- Where an outbound message goes (R219). -/
inductive GwTarget where
  | fifo (ch f : Nat)
  | packer (p : Nat)
  deriving DecidableEq, Repr

/-- A message that the gateway engine handles: after XLAT, the receiving channel, the format and identifier that it was received
with, and its message_timestamp when it carries one (R219, Table 10.5). -/
structure GwMsg where
  msg   : CanMsg
  bus   : Nat
  oide  : Bool
  oid   : BitVec 29
  stamp : Option Nat
  deriving DecidableEq, Repr

/-- What a gateway request is for: an inbound message at the head of a channel with its candidate value (R225), or an outbound
message with the new freshness value (R227). -/
inductive GwJob where
  | inbound (ch entry cand : Nat)
  | outbound (entry ctr : Nat) (msg : GwMsg) (target : GwTarget)
  deriving DecidableEq, Repr

/-- A look-aside request that has been accepted (R263 to R266). -/
structure LaReq where
  /-- 0 gateway engine, 1 control pair, 2 security pair. -/
  who   : Nat
  /-- The eight request words (Table 12.3); zero for the gateway engine. -/
  words : List Word
  /-- The engine's copy of the key (R229). -/
  key   : Bytes
  imm   : Bytes
  /-- The counter value taken (R266). -/
  ctr   : Option Nat := none
  /-- The frame whose buffer it names. -/
  fid   : Option Nat := none
  job   : Option GwJob := none
  /-- Zeroization has ended it (R241). -/
  killed : Bool := false
  deriving DecidableEq, Repr

/-- The look-aside engine: requests in order of acceptance, and the two result queues. -/
structure La where
  reqs    : List LaReq := []
  /-- Submissions that name the buffer of an UNVERIFIED frame whose result is not yet known (R259). -/
  held    : List LaReq := []
  resCtrl : List (List Word) := []
  resSec  : List (List Word) := []
  /-- Results that wait for room in a queue, oldest first, with their requester (assumption 30). -/
  owed    : List (Nat × List Word) := []
  /-- Staged low words of the counters (Table 12.5). -/
  staged  : List (Nat × Word) := []
  deriving DecidableEq, Repr

/-- A packer's frame in hand and its next sequence_num (R222). -/
structure Pack where
  msgs : List Bytes := []
  seq  : Nat := 0
  /-- The instant at which the frame in hand is released, quarter ns (R222). -/
  next : Nat := 0
  deriving DecidableEq, Repr

/-- The P15 copy whose messages the engine is handling: what is left to place (R219, R226). -/
structure GwHand where
  fid   : Nat
  /-- Route entry, ingress zone and version of the frame. -/
  route : List Word
  zone  : Nat
  ver   : Nat
  /-- Its ingress timestamp, which of a CAN message is that of its SOF (R207). -/
  ts    : Nat := 0
  /-- What is left: message and target (channel 0 to 15, or 16 + packer), in order. -/
  steps : List (GwMsg × Nat)
  deriving DecidableEq, Repr

/-- The gateway engine (R207, R218 to R228). -/
structure Gwe where
  packs : List (Nat × Pack) := []
  evq   : List Word := []
  /-- Requests that found the share full, oldest first (R226). -/
  waitQ : List GwJob := []
  hand  : Option GwHand := none
  deriving DecidableEq, Repr

/-- SAs whose PN_THRESH (0) or PN_EXHAUSTED (1) event has been raised since the SA was written: 2 x SA + which (R253). -/
structure Cph where
  raised : List Nat := []
  deriving DecidableEq, Repr

/-! ### CPU: the core pairs (chapter 14) -/

/-- What stood before a pair's last mismatch: the LS and GIVEUP events, LS_INFO and LS_PC (R309). -/
structure LsUndo where
  ev   : Bool := false
  gave : Bool := false
  info : Word := 0
  pc   : Word := 0
  deriving DecidableEq, Repr

/-- The core pairs (R301 to R315). Harts are 0 (control pair, or control hart 0), 1 (control hart 1 in split mode), 2 (security
pair); both copies of a pair hold what stands here once. -/
structure Cpu where
  /-- MTIME, and the ticks since it last rose (R312). -/
  mtime   : Nat := 0
  sub     : Nat := 0
  /-- MTIMECMP in force, of harts 0, 1, 2 (R312). -/
  cmp     : List Nat := [18446744073709551615, 18446744073709551615, 18446744073709551615]
  /-- The timer interrupt is raised, bit per hart (R311). -/
  mtip    : BitVec 3 := 0
  /-- MTIME of the restarts that count in the window, control and security pair, newest first (R307). -/
  hist0   : List Nat := []
  hist1   : List Nat := []
  /-- The tick in which the pair was put in reset after a mismatch, control and security pair (R307). -/
  rst0    : Option Nat := none
  rst1    : Option Nat := none
  /-- What the last mismatch of the control pair, of the security pair changed (R309). -/
  undo0   : LsUndo := {}
  undo1   : LsUndo := {}
  /-- Debug halted, and havereset, bit per hart (R309, R313). -/
  halted  : BitVec 3 := 0
  reset_  : BitVec 3 := 0
  /-- The hart runs in user mode, bit per hart (R301). -/
  user    : BitVec 3 := 0
  /-- General registers 1 to 31 that are not zero, key 32 x hart + number (R301), and CSRs that have been written, key 4096 x hart +
  address (Cpu.lean: csrKey). -/
  gprs    : List (Nat × Word) := []
  csrs    : List (Nat × Word) := []
  /-- Program counters of harts 0, 1, 2. -/
  pcs     : List Word := [0x20000000, 0x20000000, 0x20000000]
  /-- The nonce has not been used (R315). -/
  nonce   : Bool := false
  /-- The verification under way: SCOPE and the signature (R315). -/
  verify  : Option (Nat × Bytes) := none
  deriving DecidableEq, Repr

/-! ### BRG: bridges and rings (chapter 15) -/

/-- A DMA ring of P14 (R318 to R321). -/
structure Ring where
  /-- TAIL at the last disable. -/
  tailOff : Nat := 0
  /-- The frame whose descriptor is being handled, its host address, and (transmit) BYTES of it. -/
  frame   : Option Nat := none
  addr    : Nat := 0
  bytes   : Nat := 0
  /-- Write-backs not yet reported, and when the oldest was made, quarter ns. -/
  unrep   : Nat := 0
  oldest  : Nat := 0
  deriving DecidableEq, Repr

/-- An outbound request of the peer bridge (R324 to R328). -/
structure OutReq where
  /-- KIND of Table 15.5: 1 READ, 2 WRITE, 3 LOCK_READ, 4 WRITE_UNLOCK, 5 UNLOCK. -/
  kind  : Nat
  ini   : Initiator
  /-- Offset within the aperture, and the address at the peer. -/
  off   : Nat
  addr  : Nat
  data  : Word
  tag   : Nat := 0
  /-- When it left, quarter ns, and the claim in its frame's header (R329). -/
  at_   : Nat := 0
  claim : Nat := 0
  /-- The pair that made it has been reset since: its response is discarded (R306). -/
  drop  : Bool := false
  deriving DecidableEq, Repr

/-- An access that waits for a locked semaphore (R328), or a read of the peer that waits behind such a write of it (R326): its initiator,
the tag of a bridge request, its address, the data of a write. -/
structure SemWait where
  ini : Initiator
  tag : Option Nat
  addr : Nat
  w   : Option Word
  /-- The pair that made it has been reset since: its response is discarded (R306). -/
  drop : Bool := false
  deriving DecidableEq, Repr

/-- A read through a host window that awaits its completion (R324). -/
structure HostRead where
  ini  : Initiator
  inv  : Bool
  size : Nat
  /-- When it left, quarter ns. -/
  at_  : Nat
  /-- The pair that made it has been reset since: its response is discarded (R306). -/
  drop : Bool := false
  deriving DecidableEq, Repr

/-- The configuration of the PCIe function that R316 names and no register shows (assumption 133). -/
structure Pcie where
  /-- Link speed (generation 1 to 4) and width (lanes); 0 while the link is down. -/
  speed : Nat := 0
  width : Nat := 0
  /-- D3hot; otherwise D0. -/
  d3    : Bool := false
  /-- BAR0 and BAR2 as the host sets them, and the completion timeout that Device Control 2 selects, microseconds. -/
  bar0  : BitVec 64 := 0
  bar2  : BitVec 64 := 0
  cto   : Nat := 50000
  /-- The AER uncorrectable error status. -/
  aer   : Word := 0
  /-- MSI-X table entries that have been written: vector, message address and message data. -/
  msix  : List (Nat × BitVec 64 × Word) := []
  deriving DecidableEq, Repr

/-- Bridges (R316 to R329). -/
structure Brg where
  /-- Rings that differ from a ring after reset: key 8 x direction (0 transmit, 1 receive) + number. -/
  rings : List (Nat × Ring) := []
  /-- The posted-error log, oldest first, at most 8 entries of four words (R325). -/
  perr  : List (List Word) := []
  /-- Requests that have left, oldest first, and those that hold their initiator until one of 16 slots is free (R327). -/
  sent  : List OutReq := []
  queue : List OutReq := []
  /-- The next tag. -/
  tag   : Nat := 0
  hostReads : List HostRead := []
  pcie  : Pcie := {}
  /-- The semaphore that the peer has locked, and when, quarter ns (R328). -/
  lockIn : Option (Nat × Nat) := none
  waits  : List SemWait := []
  deriving DecidableEq, Repr

/-! ### SYS: start-up (chapter 16) -/

/-- Where an image stands: a bank of the flash, or host memory (R334, R343). -/
inductive ImgSrc where
  | bank (b : Nat)
  | host
  deriving DecidableEq, Repr

/-- The fields of a bank-state record (Table 17.2): SEQ, word 2 and the two hashes. -/
structure BankRec where
  seq   : Nat := 0
  word2 : Word := 0x40
  hashA : List Word := [0, 0, 0, 0, 0, 0, 0, 0]
  hashB : List Word := [0, 0, 0, 0, 0, 0, 0, 0]
  deriving DecidableEq, Repr

/-- The loader, the flash and the bank-state record (R330 to R350, R358 to R360). -/
structure Boot where
  /-- The flash: bytes that do not read 0xFF, by flash offset (R334); no reset changes them. -/
  flash    : List (Nat × Byte) := []
  /-- S of R334 in bytes; 0 until SFDP has been read. -/
  bankSize : Nat := 0
  /-- The bytes that LOAD read from host memory (R343). -/
  host     : Bytes := []
  /-- The image that is being loaded or runs. -/
  src      : ImgSrc := .bank 0
  /-- The first bank has failed (R335), and the named bank boots on trial (R363). -/
  second   : Bool := false
  trial    : Bool := false
  /-- Blocks, by number, that records of this image have loaded (R335). -/
  loaded   : List Nat := []
  /-- Offset of the next record in the bank (R339), and a DEBUG_KEY has been applied. -/
  off      : Nat := 0
  /-- Hashes of the code records that the loader keeps, of the control pair and of the security pair (R348). -/
  hash0    : Bytes := []
  hash1    : Bytes := []
  /-- What those records loaded: offset and length in the pair's code RAM, in image order (R348). -/
  code0    : List (Nat × Nat) := []
  code1    : List (Nat × Nat) := []
  /-- CFG_HASH of the image (R357). -/
  cfg      : Bytes := []
  /-- The background payload check runs (R347). -/
  payload  : Bool := false
  /-- The tick in which stage CORES began (R345). -/
  coresAt  : Nat := 0
  /-- A code reload runs, of the security pair when true (R348). -/
  reload   : Option Bool := none
  /-- The reload that the boot ROM of the other pair waits for (assumption 151). -/
  reloadNext : Option Bool := none
  /-- The bank-state record in force, and the copy that holds it; none when no copy is valid (R359). -/
  record   : BankRec := {}
  copy     : Option Nat := none
  deriving DecidableEq, Repr

/-! ### UPD: field update (chapter 17) -/

/-- The command that the update engine runs, with its initiator's number. -/
inductive UpdRun where
  /-- BEGIN: the record is being written, then the erase runs. -/
  | begin_ (ini : Nat)
  | erase (ini : Nat)
  /-- WRITE_BLOCK: a block is being programmed. -/
  | block (ini idx : Nat)
  /-- VERIFY: the bank is being read; then its outcome (cause and offset when it failed) is being recorded. -/
  | verify (ini : Nat)
  | verified (ini : Nat) (bad : Option (Nat × Nat))
  /-- ACTIVATE: the record is being written, LIVE or REBOOT; then a LIVE activation runs. -/
  | activate (ini : Nat) (live : Bool)
  | live (ini : Nat)
  /-- A LIVE activation has failed: the record that names the running bank again is being written. -/
  | unlive (ini : Nat)
  /-- CONFIRM: the record is being written, then the anti-rollback counter advances. -/
  | confirm (ini : Nat)
  | arb (ini : Nat)
  | revert (ini : Nat)
  deriving DecidableEq, Repr

/-- The update engine (R351 to R368). -/
structure Upd where
  /-- RESULT of the last command of each initiator: host, control harts 0 and 1, peer (R351). -/
  results : List Nat := [0, 0, 0, 0]
  /-- The last SESSION number, and the owner of the lock (R352). -/
  session : Nat := 0
  owner   : Option Nat := none
  /-- The tick in which the owner's last command was accepted (R353). -/
  cmdAt   : Nat := 0
  run     : Option UpdRun := none
  /-- The record that is being written (R360). -/
  next    : BankRec := {}
  /-- Blocks written since BEGIN (R356), IMG_BLOCKS at that BEGIN, and how many blocks its erase has left erased (assumption 153). -/
  map     : List Nat := []
  blocks  : Nat := 0
  erased  : Nat := 0
  /-- The anti-rollback advance that a release repeats waits for another OTP command (R364). -/
  arbDue  : Bool := false
  /-- The bytes of the block that is being programmed. -/
  data    : Bytes := []
  deriving DecidableEq, Repr

/-! ### WAK: sleep and wake (chapter 18) -/

/-- Power states of Table 18.1; READY_SLEEP and PREPARE are SLEEP_STATUS.STATE of an active device. -/
inductive Power where
  | active | powerDown | sleep | waking
  deriving DecidableEq, Repr

/-- Calliope (R369 to R383). -/
structure Wak where
  power : Power := .active
  /-- AO_TIME, and the part of a count that has passed, in units of 10^-9 count. -/
  ao    : Nat := 0
  aoSub : Nat := 0
  /-- Levels of ETHn_INH (R376). -/
  inh   : BitVec 16 := 0
  /-- Working time (units of 2^-32 ns) and the always-on count at the commit (R372). -/
  wc    : Nat := 0
  ac    : Nat := 0
  /-- A wake is latched in POWER_DOWN (R380). -/
  late  : Bool := false
  /-- On the present edge of the always-on clock, no time having passed since (R381): WAKE_SRC was recorded, the device left SLEEP, and the
  groups that left sleep. -/
  edgeRec  : Bool := false
  edgeDev  : Bool := false
  edgeGrps : BitVec 8 := 0
  /-- The retention digests are stored (R380), and the clocks of a warm wake are ready (R382). -/
  digests : Bool := false
  clocks  : Bool := false
  /-- A warm wake has released the data path and the SerDes lanes are not ready yet (R382). -/
  serdes  : Bool := false
  /-- Sequences (group number, 8 the device) and the tick in which the timer of their stage began: RS_TIME, then PREP_TIME (R378). -/
  since : List (Nat × Nat) := []
  /-- The keep-awake log, oldest first, four words each, at most 32 (R381, Table 18.4). -/
  ka    : List (List Word) := []
  deriving DecidableEq, Repr
/-- The device. -/
structure State where
  /-- Register words that differ from their reset words, by address in the register space (Table 20.1). -/
  regs : List (Nat × Word) := []
  /-- Counters that are not zero, by the address of their low word (R5). -/
  cnts : List (Nat × DWord) := []
  /-- Holding registers that are not zero, by address and initiator: 8 x address of the low word + initiator (R394). -/
  hold : List (Nat × Word) := []
  /-- Table words that differ from their reset values, by key (Ops.lean: tkey). -/
  tabs : List (Nat × Word) := []
  tim  : Tim := {}
  /-- Timing pins that differ from a pin after reset (R51 to R65). -/
  pins : List (Nat × Pin) := []
  marker : Marker := {}
  /-- The frames in the device and their copies. -/
  frames : List Frame := []
  copies : List Copy := []
  /-- Next serial numbers of frames and copies (the model's own). -/
  nextFid : Nat := 0
  nextCid : Nat := 0
  /-- MACs (P0 to P13) and the transmit side of P14 and P15, those that differ from reset. -/
  macs : List (Nat × Mac) := []
  slc  : Slc := {}
  str  : Str := {}
  bsn  : Bsn := {}
  crs  : Crs := {}
  lkp  : Lkp := {}
  /-- The fault log, oldest first, three words each, at most 32 entries (R388, Table 19.3). -/
  fltLog : List (List Word) := []
  /-- Conditions of direct sources that persist (bit s), so that a cleared source latches again (R384). -/
  fltCond : Word := 0
  /-- Sticky bits set in the present clock, as 32 x address + bit: a clearing write of the same clock leaves them set (R321,
  R325, R385). -/
  fltNow  : List Nat := []
  /-- Asserted sources that are not pending yet, with the clocks that remain (R385). -/
  fltDue  : List (Nat × Nat) := []
  /-- The host's MSI-X state: vector masks, function mask, pending bits (R387). -/
  msixMask : Word := 0xFFFFFFFF
  msixFn   : Bool := false
  msixPba  : Word := 0
  /-- Departure notes that wait for their copies, oldest first, at most 256 (R290). -/
  notes : List Note := []
  /-- CAN channels that differ from a channel after reset (R202 to R217). -/
  cans : List (Nat × CanCh) := []
  twp : Twp := {}
  key : KeyS := {}
  cph : Cph := {}
  la  : La := {}
  gwe : Gwe := {}
  cpu : Cpu := {}
  brg : Brg := {}
  boot : Boot := {}
  upd : Upd := {}
  wak : Wak := {}
  /-- Core memories that have been written: 2^32 x pair (0 control, 1 security) + address; zero after clearing (R310). -/
  mem : List (Nat × Byte) := []
  /-- The model's own counter of free values: how many have been drawn (assumption 3). -/
  fresh : Nat := 0
  /-- The model's own record of what has left the device, oldest first (assumption 6). -/
  wire : List Emit := []
  /-- The commands that wait, first in, first out. -/
  pending : List Instr := []
  deriving DecidableEq, Repr

/-- The device right after cold reset (R330), its queue empty. -/
def State.reset : State := {}

end Sys2Proof.Machine
end

