-- ==== Sys2Proof/Machine/Ops.lean ====
section
/-! DEFINITION. Ops.lean: the named operations over registers, counters, tables, time, frames and copies. -/
namespace Sys2Proof.Machine

/-! ### Registers (R2 to R5) -/

/-- The stored word of a register. -/
def State.rd (s : State) (a : Nat) : Word := Sparse.get resetWord s.regs a

/-- Stores a register word. -/
def State.wr (s : State) (a : Nat) (w : Word) : State := { s with regs := Sparse.set resetWord s.regs a w }

/-- Reads a field. -/
def State.get (s : State) (f : Fld) : Nat := bitsOf (s.rd f.addr) f.hi f.lo

/-- Writes a field, leaving the register's other bits. -/
def State.set (s : State) (f : Fld) (v : Nat) : State := s.wr f.addr (putBits (s.rd f.addr) f.hi f.lo v)

/-- Is a one-bit field set? -/
def State.bit (s : State) (f : Fld) : Bool := s.get f != 0

/-- Writes a one-bit field. -/
def State.setBit (s : State) (f : Fld) (b : Bool) : State := s.set f (if b then 1 else 0)

/-- A counter's value (R5). -/
def State.cnt (s : State) (a : Nat) : DWord := Sparse.get (fun _ => 0) s.cnts a

/-- Sets a counter. -/
def State.setCnt (s : State) (a : Nat) (v : DWord) : State := { s with cnts := Sparse.set (fun _ => 0) s.cnts a v }

/-- Adds n to a counter; it wraps at 64 bits. -/
def State.bumpBy (s : State) (a n : Nat) : State := s.setCnt a (s.cnt a + BitVec.ofNat 64 n)

/-- Adds one to a counter. -/
def State.bump (s : State) (a : Nat) : State := s.bumpBy a 1

/-- The number of an initiator among the six of R394. -/
def iniNo : Initiator → Nat
  | .host => 0 | .hart0 => 1 | .hart1 => 2 | .sec => 3 | .peer => 4 | .jtag => 5

/-- The initiator's holding register for the pair whose low word stands at a (R394). -/
def State.held (s : State) (i : Initiator) (a : Nat) : Word := Sparse.get (fun _ => 0) s.hold (8 * a + iniNo i)

/-- Sets it. -/
def State.setHeld (s : State) (i : Initiator) (a : Nat) (w : Word) : State :=
  { s with hold := Sparse.set (fun _ => 0) s.hold (8 * a + iniNo i) w }

/-- Records an output. -/
def State.emit (s : State) (e : Emit) : State := { s with wire := s.wire ++ [e] }

/-- Draws a free value (assumption 3). -/
def State.draw (s : State) : Word × State := (Config.freeWord s.fresh, { s with fresh := s.fresh + 1 })

/-! ### Tables reached through indirect access (R396) -/

/-- The key of word w of an entry: block slot, table code, bank, index. -/
def tkey (blk tbl bank idx w : Nat) : Nat := ((blk * 16 + tbl) * 4 + bank) * 1048576 + idx * 32 + w

/-- What a table word reads as after reset: the port configuration (Table 5.9) and the zone table (R113) have values,
every other table word is zero (assumption 8). -/
def tabReset (k : Nat) : Word :=
  let head := k / 1048576 / 4
  let idx := k % 1048576 / 32
  let w := k % 32
  if head = 4 * 16 + 6 then
    if idx < 16 then (if w = 0 then 0x80 else if w = 1 then 0x00010040 else if w = 5 then 0x00FAC688 else 0) else 0
  else if head = 4 * 16 + 7 then
    (if idx < 16 ∧ w = 0 then BitVec.ofNat 32 (2 ^ idx) else 0)
  else 0

/-- The table word with a key. -/
def State.tab (s : State) (k : Nat) : Word := Sparse.get tabReset s.tabs k

/-- Stores it. -/
def State.setTab (s : State) (k : Nat) (v : Word) : State := { s with tabs := Sparse.set tabReset s.tabs k v }

/-- A table word. -/
def State.tw (s : State) (blk tbl bank idx w : Nat) : Word := s.tab (tkey blk tbl bank idx w)

/-- Stores a table word. -/
def State.setTw (s : State) (blk tbl bank idx w : Nat) (v : Word) : State := s.setTab (tkey blk tbl bank idx w) v

/-- Stores the words of an entry from word w on. -/
def State.setEntry (s : State) (blk tbl bank idx : Nat) : Nat → List Word → State
  | _, [] => s
  | w, v :: rest => State.setEntry (s.setTw blk tbl bank idx w v) blk tbl bank idx (w + 1) rest

/-- The first n words of an entry. -/
def State.entry (s : State) (blk tbl bank idx n : Nat) : List Word :=
  (List.range n).map fun w => s.tw blk tbl bank idx w

/-- Bits of a table word. -/
def State.tbits (s : State) (blk tbl bank idx w hi lo : Nat) : Nat := bitsOf (s.tw blk tbl bank idx w) hi lo

/-- A 64-bit table counter, low word at w. -/
def State.tcnt (s : State) (blk tbl idx w : Nat) : Nat :=
  (s.tw blk tbl 0 idx w).toNat + (s.tw blk tbl 0 idx (w + 1)).toNat * 4294967296

/-- Adds n to a 64-bit table counter, low word at w. -/
def State.tbump (s : State) (blk tbl idx w n : Nat) : State :=
  let v := s.tcnt blk tbl idx w + n
  (s.setTw blk tbl 0 idx w (BitVec.ofNat 32 v)).setTw blk tbl 0 idx (w + 1) (BitVec.ofNat 32 (v / 4294967296))

/-! ### Time (R24): instants in quarter nanoseconds and in picoseconds of working time -/

/-- Working time rounded down to quarter nanoseconds. -/
def State.nowQ (s : State) : Nat := s.tim.wt / 1073741824

/-- Working time in picoseconds, to the quarter nanosecond. -/
def State.nowPs (s : State) : Nat := s.nowQ * 250

/-- Seconds, nanoseconds and quarter nanoseconds of an instant. -/
def secOf (q : Nat) : Nat := q / 4000000000
def nsOf (q : Nat) : Nat := q % 4000000000 / 4
def qnsOf (q : Nat) : Nat := q % 4

/-- An instant from seconds, nanoseconds, quarter nanoseconds. -/
def instant (sec ns qns : Nat) : Nat := sec * 4000000000 + ns * 4 + qns

/-- One microsecond, millisecond and tick in quarter nanoseconds. -/
def usQ : Nat := 4000
def msQ : Nat := 4000000

/-- Residence time from instant ti to te, modulo 4 s, in quarter nanoseconds (R14). -/
def residence (te ti : Nat) : Nat := (te + 16000000000 - ti % 16000000000) % 16000000000

/-- A signed number kept to the range of n bits by saturation. -/
def satS (n : Nat) (x : Int) : Int := max (-(2 ^ (n - 1) : Int)) (min (2 ^ (n - 1) - 1) x)

/-- The 32-bit pattern of a number. -/
def word (n : Nat) : Word := BitVec.ofNat 32 n
/-- The 32-bit two's complement pattern of an integer. -/
def wordS (x : Int) : Word := BitVec.ofInt 32 x

/-- A value kept between two limits. -/
def clampN (lo hi v : Nat) : Nat := max lo (min hi v)

/-! ### Octets (network byte order) -/

/-- Octet i, zero beyond the end. -/
def byteAt (d : Bytes) (i : Nat) : Nat := (d.getD i 0).toNat
/-- Two, three, four and eight octets, most significant first. -/
def be16 (d : Bytes) (i : Nat) : Nat := byteAt d i * 256 + byteAt d (i + 1)
def be32 (d : Bytes) (i : Nat) : Nat := be16 d i * 65536 + be16 d (i + 2)
def be48 (d : Bytes) (i : Nat) : Nat := be16 d i * 4294967296 + be32 d (i + 2)
def be64 (d : Bytes) (i : Nat) : Nat := be32 d i * 4294967296 + be32 d (i + 4)

/-- n octets of a number, most significant first. -/
def toBE : Nat → Nat → Bytes
  | 0, _ => []
  | n + 1, v => BitVec.ofNat 8 (v / 256 ^ n) :: toBE n v

/-- Replaces the octets from i on by b. -/
def patch (d : Bytes) (i : Nat) (b : Bytes) : Bytes := d.take i ++ b ++ d.drop (i + b.length)

/-- n zero octets. -/
def zeros (n : Nat) : Bytes := List.replicate n 0

/-- Pads a frame (without FCS) with zero octets to a length. -/
def padTo (n : Nat) (d : Bytes) : Bytes := d ++ zeros (n - d.length)

/-! ### Pins, MACs, frames, copies -/

def State.pin (s : State) (p : Nat) : Pin := Sparse.get (fun _ => {}) s.pins p
def State.setPin (s : State) (p : Nat) (x : Pin) : State := { s with pins := Sparse.set (fun _ => {}) s.pins p x }

def State.mac (s : State) (p : Nat) : Mac := Sparse.get (fun _ => {}) s.macs p
def State.setMac (s : State) (p : Nat) (x : Mac) : State := { s with macs := Sparse.set (fun _ => {}) s.macs p x }

def State.can (s : State) (c : Nat) : CanCh := Sparse.get (fun _ => {}) s.cans c
def State.setCan (s : State) (c : Nat) (x : CanCh) : State := { s with cans := Sparse.set (fun _ => {}) s.cans c x }

/-- The frame with a serial number. -/
def State.frame? (s : State) (fid : Nat) : Option Frame := s.frames.find? fun f => f.fid == fid

/-- Replaces the frame with the same serial number. -/
def State.putFrame (s : State) (f : Frame) : State :=
  { s with frames := s.frames.map fun g => if g.fid = f.fid then f else g }

/-- Takes a frame out. -/
def State.dropFrame (s : State) (fid : Nat) : State := { s with frames := s.frames.filter fun g => g.fid != fid }

/-- Adds a frame under the next serial number. -/
def State.addFrame (s : State) (f : Frame) : State :=
  { s with frames := s.frames ++ [{ f with fid := s.nextFid }], nextFid := s.nextFid + 1 }

/-- The copy with a serial number. -/
def State.copy? (s : State) (cid : Nat) : Option Copy := s.copies.find? fun c => c.cid == cid

/-- Replaces the copy with the same serial number. -/
def State.putCopy (s : State) (c : Copy) : State :=
  { s with copies := s.copies.map fun g => if g.cid = c.cid then c else g }

/-- Takes a copy out. -/
def State.dropCopy (s : State) (cid : Nat) : State := { s with copies := s.copies.filter fun g => g.cid != cid }

/-- The frame of a copy. -/
def State.frameOf (s : State) (c : Copy) : Option Frame := s.frame? c.fid

/-- Value of an association list, or a default. -/
def assocD {α : Type} (l : List (Nat × α)) (k : Nat) (d : α) : α :=
  match l.find? fun p => p.1 == k with | some p => p.2 | none => d

/-- Sets a key of an association list. -/
def assocSet {α : Type} (l : List (Nat × α)) (k : Nat) (v : α) : List (Nat × α) :=
  (k, v) :: l.filter fun p => p.1 != k

/-- Applies f to the state for each element in turn. -/
def State.each {α : Type} (s : State) (l : List α) (f : State → α → State) : State := l.foldl f s

/-- A P15 source offers a frame of known length to Basin (R148, R151): it waits for its buffer. Sources are numbered as in
Table 5.6; their requests are taken at best effort (assumption 19). -/
def State.offerP15 (s : State) (src : Nat) (data : Bytes) (origin : Option (Nat × Nat) := none) (ts : Option Nat := none) : State :=
  s.addFrame { fid := 0, inPort := 15, src := src, data := data, tail := true, ts := ts.getD s.nowQ, len := data.length + 4, waiting := true,
               origin := origin, secPend := s.bit (CPH.PORT_SEC_CFG_SECURED 15), raw := if s.bit (CPH.PORT_SEC_CFG_SECURED 15) then data else [] }

/-- The data path has been released (R9). -/
def State.released (s : State) : Bool := s.bit SYS.SYS_STATUS_RELEASED

/-- PLL n has lost lock, or REFCLK_SYS is lost, and that condition lasts (R23). -/
def State.pllLost (s : State) (n : Nat) : Bool := bitsOf s.fltCond (20 + n) (20 + n) == 1 || bitsOf s.fltCond 23 23 == 1

/-- The data path's clock is there, and a plane is in service (R23, R172). -/
def State.planesRun (s : State) : Bool := !s.pllLost 0 && (s.bit CRS.CRS_STATUS_A_UP || s.bit CRS.CRS_STATUS_B_UP)

/-- The data path runs: released, its clock is there, and a plane is in service (R9, R23, R172). -/
def State.flowing (s : State) : Bool := s.released && s.planesRun

/-- Cells move: the data path is released, or a device commit lets it end the frames in progress (R9, R379). -/
def State.cellsMove (s : State) : Bool := s.released || s.wak.power == .powerDown

/-- The logic is power-gated, or wakes and has not been released (R369, R380, R382). -/
def State.gated (s : State) : Bool := s.wak.power == .sleep || s.wak.power == .waking

/-- The data path has been released and stands still: its clock is lost, or both planes are out (R23, R172). -/
def State.stalled (s : State) : Bool := s.released && !s.flowing

/-- PAIR_ID strap (R331). -/
def State.pairId (s : State) : Nat := s.get SYS.SYS_STRAP_PAIR_ID

end Sys2Proof.Machine
end

