-- ==== Sys2Proof/Machine/Flags.lean ====
section
/-! DEFINITION. Flags.lean: claims (chapter 13), block events, and the fault collector (chapter 19): what sets and clears an event
bit, when a source becomes pending, and the reaction of its class. -/
namespace Sys2Proof.Machine

/-! ### Claims (R272 to R275) -/

/-- PAIR_EN (R272). -/
def State.pairEn (s : State) : Bool := s.bit TWP.TWP_CTRL_PAIR_EN

/-- The own claim; with PAIR_EN 0 it reads as rank 8 with epoch 0 (R272). -/
def State.ownClaim (s : State) : Nat := if s.pairEn then s.get TWP.CLAIM_STATUS_OWN else 0x8000 + s.pairId

/-- The peer's claim as the unit knows it (R274). -/
def State.peerClaim (s : State) : Nat := s.get TWP.CLAIM_STATUS_PEER

/-- RANK, EPOCH of a claim (Table 13.2), and the claim they make. -/
def claimRank (c : Nat) : Nat := c / 4096 % 16
def claimEpoch (c : Nat) : Nat := c / 2 % 2048
def mkClaim (rank epoch id : Nat) : Nat := rank * 4096 + epoch % 2048 * 2 + id % 2

/-- Does the unit drive its paired outputs (R275)? With PAIR_EN 0 every paired bit is ignored (R272). -/
def State.drives (s : State) : Bool :=
  !s.pairEn || (claimRank s.ownClaim != 0 && decide (s.peerClaim < s.ownClaim))

/-! ### The fault collector (R384 to R388) -/

/-- The event registers of a block source (Table 19.1). -/
def eventRegs : Nat → List Nat
  | 0 => [SYS.SYS_EVENT] | 1 => [TIM.TIM_EVENT] | 2 => (List.range 16).map TIO.PIN_EVENT
  | 3 => (List.range 14).map MAC.PORT_EVENT | 4 => [SLC.SLC_EVENT] | 5 => [STR.STR_EVENT] | 6 => [BSN.BSN_EVENT]
  | 7 => [CRS.CRS_EVENT] | 8 => [LKP.LKP_EVENT] | 9 => (List.range 16).map CAN.CH_EVENT | 10 => [GWE.GWE_EVENT]
  | 11 => [CPH.CPH_EVENT] | 12 => [KEY.KEY_EVENT] | 13 => [TWP.TWP_EVENT] | 14 => [CPU.CPU_EVENT] | 15 => [BRG.BRG_EVENT]
  | 16 => [UPD.UPD_EVENT] | 17 => [WAK.WAK_EVENT] | 18 => [BRG.RING_EVENT] | _ => []

/-- The source that an event register feeds: its block's slot, but RING_EVENT feeds source 18. Each EVENT_EN register
stands in the word after its EVENT register. -/
def sourceOf (a : Nat) : Nat := if a = BRG.RING_EVENT then 18 else a / 0x100000

/-- Is the source asserted (R384)? -/
def State.asserted (s : State) (src : Nat) : Bool :=
  if src ≤ 18 then (eventRegs src).any fun a => s.rd a &&& s.rd (a + 4) != 0
  else (bitsOf (s.rd FLT.FLT_DIRECT) src src) != 0 && decide (20 ≤ src) && decide (src ≤ 27)

/-- Is the source pending (R385)? -/
def State.pend (s : State) (src : Nat) : Bool := bitsOf (s.rd FLT.FLT_PEND) src src != 0

/-- The class of a source (R386). -/
def State.classOf (s : State) (src : Nat) : Nat := s.get (FLT.FLT_SRC_CFG_CLASS src)

/-- Is MSI-X vector v pending: some pending source of class 1 or higher names it with HOST set (R387)? -/
def State.vecPend (s : State) (v : Nat) : Bool :=
  (List.range 32).any fun c => s.pend c && decide (1 ≤ s.classOf c) && s.bit (FLT.FLT_SRC_CFG_HOST c)
    && s.get (FLT.FLT_SRC_CFG_VECTOR c) == v

/-- INT_N is low while a class-2 or class-3 source is pending and while STAGE is FAIL, code 8 (R387, Table 16.5). -/
def State.alarm (s : State) : Bool :=
  ((List.range 32).any fun c => s.pend c && decide (2 ≤ s.classOf c)) || s.get SYS.SYS_STATUS_STAGE == 8

/-- FLT_STATUS.ALARM and FATAL, and INT_N, follow the pending sources (R386, R387). -/
def State.fltLevels (s : State) : State :=
  let a := s.alarm
  let was := s.bit FLT.FLT_STATUS_ALARM
  let s := s.setBit FLT.FLT_STATUS_ALARM a
  let s := s.setBit FLT.FLT_STATUS_FATAL ((List.range 32).any fun c => s.pend c && s.classOf c == 3)
  if a = was then s else s.emit (.intN (!a))

/-- The message of vector v: what the MSI-X table holds for it (R316). -/
def State.msixMsg (s : State) (v : Nat) : Emit := let x := assocD s.brg.pcie.msix v (0, 0); .msix v x.1 x.2

/-- A vector became pending: its message is sent, or its PBA bit is set while it is masked; nothing is sent while the PCIe
link is down (R387). -/
def State.sendVector (s : State) (v : Nat) : State :=
  if s.msixFn || s.msixMask.getLsbD v then { s with msixPba := s.msixPba ||| BitVec.ofNat 32 (2 ^ v) }
  else if s.bit BRG.BRG_STATUS_PCIE_LINK then s.emit (s.msixMsg v) else s

/-- Appends an entry to the fault log and the first-fault record (R388, Table 19.3). -/
def State.logFault (s : State) (src cls : Nat) : State :=
  let q := s.nowQ
  let w0 := word (src * 2 ^ 27 + cls * 2 ^ 25)
  let w1 := word (qnsOf q * 2 ^ 30 + nsOf q)
  let w2 := word (secOf q)
  let s := if s.bit FLT.FLT_FIRST_VALID then s else
    (((s.setBit FLT.FLT_FIRST_VALID true).set FLT.FLT_FIRST_SRC src).set FLT.FLT_FIRST_CLASS cls).wr FLT.FIRST_NS w1
      |>.wr FLT.FIRST_SEC w2
  if s.fltLog.length < 32 then { s with fltLog := s.fltLog ++ [[w0, w1, w2]] }
  else (s.bump FLT.LOG_DROP_CNT).setBit FLT.FLT_STATUS_LOG_OVF true

/-- A source becomes pending: logged, counted, delivered by its class (R385 to R388). -/
def State.notePending (s : State) (src : Nat) : State :=
  if s.pend src then s else
  let cls := s.classOf src
  let v := s.get (FLT.FLT_SRC_CFG_VECTOR src)
  let had := s.vecPend v
  let s := s.wr FLT.FLT_PEND (s.rd FLT.FLT_PEND ||| BitVec.ofNat 32 (2 ^ src))
  let s := (s.logFault src cls).bump (FLT.FAULT_CNT_CLASS cls)
  (if s.vecPend v && !had then s.sendVector v else s).fltLevels

/-- A source is asserted: it is pending from the second clock on (R385). -/
def State.assertSource (s : State) (src : Nat) : State :=
  if s.pend src || s.fltDue.any (fun (x : Nat × Nat) => x.1 == src) then s else { s with fltDue := s.fltDue ++ [(src, 2)] }

/-- A source is no longer asserted: it stops pending. -/
def State.stopPending (s : State) (src : Nat) : State :=
  if s.pend src then (s.wr FLT.FLT_PEND (s.rd FLT.FLT_PEND &&& ~~~(BitVec.ofNat 32 (2 ^ src)))).fltLevels else s

/-- The collector sees a source that is asserted; it sees in its clock that one is no longer asserted. -/
def State.refreshSource (s : State) (src : Nat) : State := if s.asserted src then s.assertSource src else s

/-- A sticky bit is set in the present clock: bit n of address a. -/
def State.markSet (s : State) (a n : Nat) : State :=
  if s.fltNow.contains (a * 32 + n) then s else { s with fltNow := (a * 32 + n) :: s.fltNow }

/-- The bits of address a that were set in the present clock. -/
def State.setNow (s : State) (a : Nat) : Word :=
  s.fltNow.foldl (fun m k => if k / 32 = a then m ||| BitVec.ofNat 32 (2 ^ (k % 32)) else m) 0

/-- Sets an event bit; the source is asserted when the bit is enabled (R384). -/
def State.raise (s : State) (f : Fld) : State :=
  let s := (s.set f 1).markSet f.addr f.lo
  if bitsOf (s.rd (f.addr + 4)) f.hi f.lo != 0 then s.assertSource (sourceOf f.addr) else s

/-- Latches a direct source, which is asserted whatever any EVENT_EN says (R384). -/
def State.direct (s : State) (src : Nat) : State :=
  ((s.wr FLT.FLT_DIRECT (s.rd FLT.FLT_DIRECT ||| BitVec.ofNat 32 (2 ^ src))).markSet FLT.FLT_DIRECT src).assertSource src

/-! ### Attempts of CAN channels that fail (R205, R208 to R211) -/

/-- Takes the oldest message of a transmit FIFO out. -/
def dropHead (tx : List (Nat × CanMsg)) (f : Nat) : List (Nat × CanMsg) :=
  match tx.find? fun x => x.1 == f with | some x => tx.erase x | none => tx

/-- An entry of the gateway event queue (R210, Table 10.4). -/
def State.gwEvent (s : State) (cause ch fifo : Nat) (ide : Bool) (id : Nat) : State :=
  if 64 ≤ s.gwe.evq.length then s.raise GWE.GWE_EVENT_EVQ_OVF else
  let w := word (cause * 268435456 + ch * 16777216 + fifo * 4194304 + (if ide then 2097152 else 0) + id % 2097152)
  ({ s with gwe := { s.gwe with evq := s.gwe.evq ++ [w] } }).raise GWE.GWE_EVENT_QUEUED

/-- The messages of a FIFO, oldest first. -/
def CanCh.fifo (k : CanCh) (f : Nat) : List CanMsg := (k.tx.filter fun x => x.1 == f).map fun x => x.2
def State.oneShot (s : State) (c f : Nat) : Bool := bitsOf (word (s.get (CAN.CH_CTRL_ONE_SHOT c))) f f == 1

/-- A message of a one-shot FIFO has left with FAILED: cause 1, or 2 at bus-off (R210, R212). -/
def State.oneShotFail (s : State) (c f cause : Nat) (m : CanMsg) : State :=
  (s.bump (CAN.ONE_SHOT_FAIL_CNT c)).gwEvent cause c f m.ide m.id.toNat

/-- A cancel's result is known (R211). -/
def State.cancelEnd (s : State) (c res : Nat) : State :=
  let s := s.setCan c { s.can c with cancel := false }
  (s.setBit (CAN.CANCEL_STATUS_BUSY c) false).set (CAN.CANCEL_STATUS_RESULT c) res

/-- The attempt in progress has not sent its message: it is unlatched, leaves a one-shot FIFO, or is removed by a cancel that
waits (R208, R210, R211). -/
def State.attemptFails (s : State) (c : Nat) : State :=
  let k := s.can c
  match k.latched with
  | none => s
  | some f =>
    match (k.fifo f).head? with
    | none => s.setCan c { k with latched := none }
    | some m =>
      if s.oneShot c f then
        let s := (s.setCan c { k with latched := none, tx := dropHead k.tx f }).oneShotFail c f 1 m
        if k.cancel then s.cancelEnd c 3 else s
      else if k.cancel then
        ((s.setCan c { k with latched := none, tx := dropHead k.tx f }).bump (CAN.CANCELLED_CNT c)).cancelEnd c 1
      else s.setCan c { k with latched := none }

/-- With TDC_EN the loop delay of an FD frame is measured at its edge from FDF to res, also in an attempt that fails later (R205): the
value in CAN clocks is free (assumption 3), and so is whether a failing attempt had reached that edge. -/
def State.delayMeasured (s : State) (c : Nat) : State :=
  let k := s.can c
  let fd := k.latched.any fun f => (k.fifo f).head?.any fun m => m.fdf
  if fd ∧ !k.loop ∧ s.bit (CAN.CH_CTRL_TDC_EN c) then
    let x := s.draw
    x.2.set (CAN.CH_STATUS_TDCV c) x.1.toNat
  else s

/-- The message that channel c sends is broken off: the attempt has failed (R210, R211, R216), and a return of MODE to OFF that waited for
its end takes effect (R203). -/
def State.canCut (s : State) (c : Nat) : State :=
  if (s.can c).latched.isNone then s else
  let s := (s.delayMeasured c).attemptFails c
  let off := (s.can c).offPend
  let s := s.setCan c { s.can c with inMsg := false, offPend := false }
  if off then s.set (CAN.CH_STATUS_MODE_ACT c) 0 else s

/-! ### Changes of claims (R58, R216, R275) -/

/-- After a change of claims: DRIVING follows R275; when the own claim has fallen to isolated, the drivers of paired pins turn
off and paired CAN channels send recessive and are claim-gated at once (R58, R216). -/
def State.claimsChanged (s : State) : State :=
  let s := s.setBit TWP.PAIR_STATUS_DRIVING (s.pairEn && s.drives)
  if s.pairEn && claimRank s.ownClaim == 0 then
    let s := s.each (List.range 16) fun s p =>
      if s.bit (TIO.PIN_CFG_PAIRED p) && (s.pin p).driving then s.setPin p { s.pin p with driving := false } else s
    s.each (List.range 16) fun s c =>
      if s.bit (CAN.CH_CTRL_PAIRED c) then ((s.canCut c).setBit (CAN.CH_STATUS_CLAIM_GATED c) true)|>.set (CAN.CH_STATUS_MODE_ACT c)
        (if s.get (CAN.CH_CTRL_MODE c) = 0 ∨ bitsOf (s.rd WAK.ISOLATED) c c = 1 then 0 else 2) else s
  else s

/-- The own claim takes a rank and an epoch. -/
def State.setClaim (s : State) (rank epoch : Nat) : State :=
  (s.set TWP.CLAIM_STATUS_OWN (mkClaim rank epoch s.pairId)).claimsChanged

/-- Isolation: rank 0 with the epoch kept, and ISOLATED when the rank was another (Tables 13.3, 13.10). It disarms no planned swap by
itself (R293). -/
def State.isolateClaim (s : State) : State :=
  if s.pairEn && claimRank s.ownClaim != 0 then (s.setClaim 0 (claimEpoch s.ownClaim)).raise TWP.TWP_EVENT_ISOLATED else s

/-- A source becomes pending; class 3 isolates the claim in that clock (R386). -/
def State.becomePending (s : State) (src : Nat) : State :=
  let cls := s.classOf src
  let was := s.pend src
  let s := s.notePending src
  if cls = 3 ∧ !was then s.isolateClaim else s

/-- The collector's clock, before time advances: what was set in the last clock is no longer new, and the waits of R385 run. -/
def State.fltClock (s : State) : State :=
  { s with fltNow := [], fltDue := s.fltDue.map fun x => (x.1, x.2 - 1) }

/-- After it: sources whose wait is over become pending in ascending order, those that are no longer asserted stop, so that a vector or INT_N
that passes from one source to another in this clock does not change (R387), and a direct source whose latch was cleared while its
condition holds latches again (R384, R385). -/
def State.fltReady (s : State) : State :=
  let due := (List.range 32).filter fun c => s.fltDue.contains (c, 0)
  let s := { s with fltDue := s.fltDue.filter fun x => x.2 != 0 }
  let s := s.each due fun s c => if s.asserted c then s.becomePending c else s
  let s := s.each (List.range 28) fun s c => if s.pend c && !s.asserted c then s.stopPending c else s
  s.each [20, 21, 22, 23, 24, 25, 26, 27] fun s c =>
    if bitsOf s.fltCond c c = 1 ∧ bitsOf (s.rd FLT.FLT_DIRECT) c c = 0 then s.direct c else s

/-- An access violation (R244): source 25. -/
def State.violation (s : State) : State := s.direct 25

/-- A locked-write event (R4): source 26. -/
def State.lockedWrite (s : State) : State := s.direct 26

/-- A yield of guarantee rank r (R390): YIELD_CNT_RANKr and source 27. -/
def State.yieldRank (s : State) (r : Nat) : State :=
  (s.bump (if r = 2 then FLT.YIELD_CNT_RANK2 else if r = 3 then FLT.YIELD_CNT_RANK3 else FLT.YIELD_CNT_RANK4)).direct 27

/-- The fault collector's route to the control pair (CTRL) and to the security pair (SEC) (R387). -/
def State.ctrlIrq (s : State) : Bool :=
  (List.range 32).any fun c => s.pend c && decide (1 ≤ s.classOf c) && s.bit (FLT.FLT_SRC_CFG_CTRL c)
def State.secIrq (s : State) : Bool :=
  (List.range 32).any fun c => s.pend c && decide (1 ≤ s.classOf c) && s.bit (FLT.FLT_SRC_CFG_SEC c)

end Sys2Proof.Machine
end

