-- ==== Sys2Proof/Machine/Operands.lean ====
section
/-! DEFINITION. Operands.lean: who may reach which register (R244, R344, R398, R399), and a write acting on the fields of a
register under their access codes (R3, R4). -/
namespace Sys2Proof.Machine

/-- The regions that only the security pair reaches, whole registers (Table 20.3). -/
def secOnly (a : Nat) : Bool :=
  let blk := a / 0x100000
  let off := a % 0x100000
  blk == 12 || (blk == 11 && ((decide (0x600 ≤ off) && decide (off ≤ 0x6BF)) || (decide (0x880 ≤ off) && decide (off ≤ 0x8FF))))
    || a == CPU.RESTART_VEC_SEC || a == SYS.FW_ENTRY_SEC

/-- What the security pair does not reach (R399): BRG, UPD, CORE_CMD and the DBG registers of CPU, both apertures. -/
def secBarred (a : Nat) : Bool :=
  let blk := a / 0x100000
  blk == 15 || blk == 16 || decide (0x1400000 ≤ a) || a == CPU.CORE_CMD
    || (decide (CPU.DBG_AUTH_CMD ≤ a) && decide (a ≤ CPU.DBG_SIG 15))

/-- STAGE (Table 16.5). -/
def State.stage (s : State) : Nat := s.get SYS.SYS_STATUS_STAGE
def stageCores : Nat := 5
def stageRun : Nat := 6
def stageHostWait : Nat := 7
def stageFail : Nat := 8

/-- The life-cycle state of PRODUCTION (Table 11.3). -/
def State.production (s : State) : Bool := s.get KEY.LC_STATUS_LC_STATE == 3

/-- BOOT_MODE as it acts: in PRODUCTION, FLASH_HOLD and HALT act as FLASH (R332). -/
def State.bootMode (s : State) : Nat :=
  let m := s.get SYS.SYS_STRAP_BOOT_MODE
  if s.production && (m == 1 || m == 3) then 0 else m

/-- A host or peer write is ignored before STAGE is RUN, with the exceptions of R344. -/
def State.preRunBlocked (s : State) (ini : Initiator) (a : Nat) : Bool :=
  (ini == .host || ini == .peer) && s.stage != stageRun &&
    !((ini == .host && s.bootMode == 1)
      || a == SYS.SYS_CMD
      || (ini == .host && (a == SYS.HOST_IMG_LO || a == SYS.HOST_IMG_HI) && (s.stage == stageHostWait || s.stage == stageFail)))

/-! ### Channel groups (R377) -/

/-- Members of a group: ports in [29:16], channels in [15:0]. -/
def State.grpMembers (s : State) (g : Nat) : Word := s.rd (WAK.GRP_MEMBERS g) &&& 0x3FFFFFFF

/-- The group of a channel c, or of a port p as 16 + p. -/
def State.groupOf (s : State) (m : Nat) : Option Nat := (List.range 8).find? fun g => bitsOf (s.grpMembers g) m m == 1

/-- Group g is asleep. -/
def State.grpAsleep (s : State) (g : Nat) : Bool := s.get (WAK.GRP_STATUS_STATE g) == 3

/-- The member's group is asleep. -/
def State.memberAsleep (s : State) (m : Nat) : Bool := match s.groupOf m with | some g => s.grpAsleep g | none => false
def State.portAsleep (s : State) (p : Nat) : Bool := s.memberAsleep (16 + p)

/-- The channel's transceiver is in standby: the device is not active, or the channel's group is asleep (R377, R379). -/
def State.canParked (s : State) (c : Nat) : Bool := s.wak.power != .active || s.memberAsleep c

/-- The channel does not run: in standby, or without its clock (R23). -/
def State.canStopped (s : State) (c : Nat) : Bool := s.canParked c || s.pllLost 2

/-! ### Bus accesses -/

/-- The control pair runs split (R310). -/
def State.split (s : State) : Bool := s.bit CPU.CPU_STATUS_SPLIT

/-- CTRL_STATE or SEC_STATE: 0 run, 1 debug halt, 2 mismatch stop, 3 reset, 4 given up (Table 14.3). -/
def pairState (sec : Bool) : Fld := if sec then CPU.CPU_STATUS_SEC_STATE else CPU.CPU_STATUS_CTRL_STATE

/-- The initiator is a core that does not run: its pair is stopped, in reset or given up (R306 to R308); its clock is lost (R23); or it
is hart 1 and the control pair is not split (R310). -/
def State.coreDown (s : State) : Initiator → Bool
  | .hart0 => decide (2 ≤ s.get (pairState false)) || s.pllLost 1
  | .hart1 => decide (2 ≤ s.get (pairState false)) || s.pllLost 1 || !s.split
  | .sec => decide (2 ≤ s.get (pairState true)) || s.pllLost 1
  | _ => false

/-- The initiator's near bus is held: by a read through a window that has not been answered (R324), by a request that waits for one of
the 16 slots (R327), or by an access to a locked semaphore (R328). -/
def State.nearHeld (s : State) (ini : Initiator) : Bool :=
  s.brg.hostReads.any (fun r => r.ini == ini) || s.brg.sent.any (fun q => q.ini == ini && q.kind == 1)
    || s.brg.queue.any (fun q => q.ini == ini) || s.brg.waits.any fun w => w.ini == ini && w.tag.isNone

/-- No access can come from this initiator: the logic is power-gated or not released yet; the core does not run; or its near bus is
held. -/
def State.mute (s : State) (ini : Initiator) : Bool := s.gated || s.coreDown ini || s.nearHeld ini

/-- The response to an access that was held returns; a core that does not run, or was reset since it made the access (`drop`), discards
it (R306). -/
def State.reply (s : State) (ini : Initiator) (drop : Bool) (r : BusEnd) : State :=
  if drop || s.coreDown ini then s else s.emit (.bus ini r)

/-- A register write that passed size, alignment and decoding: it acts as f when the initiator may reach the register (R244, R344,
R398, R399). -/
def State.writeEnd (s : State) (ini : Initiator) (a : Nat) (f : State → State) : BusEnd × State :=
  if ini == .sec && secBarred a then (.fault, s.violation)
  else if s.preRunBlocked ini a || (ini != .sec && secOnly a) then (.done, s.violation)
  else (.done, f s)

/-- The write and its bus result. -/
def State.writeAt (s : State) (ini : Initiator) (a : Nat) (f : State → State) : State :=
  if s.mute ini then s else (s.writeEnd ini a f).2.emit (.bus ini (s.writeEnd ini a f).1)

/-- A register read that passed size, alignment and decoding. -/
def State.readEnd (s : State) (ini : Initiator) (a : Nat) (f : State → Word × State) : BusEnd × State :=
  if ini == .sec && secBarred a then (.fault, s.violation)
  else if ini != .sec && secOnly a then (.data 0, s.violation)
  else (.data (f s).1, (f s).2)

/-- No read can come from it: in addition, the PCIe endpoint answers with retry status before stage CORES (R344). -/
def State.readMute (s : State) (ini : Initiator) : Bool := s.mute ini || (ini == .host && decide (s.stage < stageCores))

/-- The read and its bus result. -/
def State.readAt (s : State) (ini : Initiator) (a : Nat) (f : State → Word × State) : State :=
  if s.readMute ini then s else (s.readEnd ini a f).2.emit (.bus ini (s.readEnd ini a f).1)

/-- What a write leaves in a register, field by field under the access codes (R3, R4); `open_` says that RWL fields are
not yet locked, `bar` are bits that this initiator does not reach. -/
def Reg.written (r : Reg) (open_ : Bool) (bar old w : Word) : Word :=
  let m := r.bitsWith (fun c => c == .rw || c == .rws || (open_ && c == .rwl)) &&& ~~~bar
  let v := (old &&& ~~~m) ||| (w &&& m)
  (v &&& ~~~(w &&& r.bitsWith (· == .w1c))) ||| (w &&& r.bitsWith (· == .w1s))

/-- Would the write change an RWL field? -/
def Reg.lockHit (r : Reg) (old w : Word) : Bool := (old ^^^ w) &&& r.bitsWith (· == .rwl) != 0

/-- Fields that clamp what is written to their range: SLEW_LIMIT, RETIRE_GUARD, SP_DEPTH, PAIR_CYCLE, SWAP_GUARD, PEER_TIMEOUT and
LOCK_TIMEOUT (assumption 33). -/
def clamped : List (Fld × Nat × Nat) :=
  [(TIM.SLEW_LIMIT_PPB, 1000, 200000), (SLC.RETIRE_GUARD_US, 10, 100000), (SLC.SP_CFG_SP_DEPTH, 1, 1024), (TWP.PAIR_CYCLE_US, 125, 10000),
   (TWP.HB_CFG_SWAP_GUARD, 10, 10000), (BRG.BRG_TIMEOUT_PEER_TIMEOUT, 2, 1000), (BRG.BRG_TIMEOUT_LOCK_TIMEOUT, 10, 10000)]

/-- A word with the clamped fields of register a in their ranges. -/
def clampWord (a : Nat) (w : Word) : Word :=
  clamped.foldl (fun w c => if c.1.addr = a then putBits w c.1.hi c.1.lo (clampN c.2.1 c.2.2 (bitsOf w c.1.hi c.1.lo)) else w) w

/-- The write of a register without an effect of its own; a sticky bit set in this clock stays set (R385). -/
def State.plainWrite (s : State) (a : Nat) (w : Word) (bar : Word := 0) : State :=
  match regAt a with
  | none => s
  | some r =>
    let old := s.rd a
    let w := clampWord a w &&& ~~~(r.bitsWith (· == .w1c) &&& s.setNow a)
    let s' := s.wr a (r.written (!s.released) bar old w)
    if s.released && r.lockHit old w then s'.lockedWrite else s'

/-- An EVENT or EVENT_EN register after a write: the source follows its enabled bits (R384, R385). -/
def State.afterEvent (s : State) (a : Nat) : State := s.refreshSource (sourceOf a)

/-! ### Indirect table access (R396, R397) -/

/-- Does the initiator own a block's table window (R397)? `bit` is the block's bit in TBL_OWNER. Before release the loader
alone owns it. -/
def State.ownsTable (s : State) (bit : Nat) (ini : Initiator) : Bool :=
  s.released && (if bitsOf (s.rd SYS.TBL_OWNER) bit bit = 1 then ini == .host else ini == .hart0 || ini == .hart1)

/-- A write of a block's TBL_CMD or data window: an initiator that does not own the window is recorded and changes nothing;
while BUSY is 1 the write is ignored (R397). -/
def State.tableAct (s : State) (ini : Initiator) (bit : Nat) (busy : Bool) (f : State → State) : State :=
  if !s.ownsTable bit ini then s.violation else if busy then s else f s
def State.tableWrite (s : State) (ini : Initiator) (bit a : Nat) (busy : Bool) (f : State → State) : State :=
  s.writeAt ini a fun s => s.tableAct ini bit busy f

/-- Stores words into a data window from its first word on, the rest of its n words zero (R396). -/
def State.fillWindow (s : State) (base n : Nat) (ws : List Word) : State :=
  s.each (List.range n) fun s w => s.wr (base + 4 * w) (ws.getD w 0)

/-- The first n words of a data window. -/
def State.window (s : State) (base n : Nat) : List Word := (List.range n).map fun w => s.rd (base + 4 * w)

/-- Does a word keep every reserved bit zero? `m` are the defined bits. -/
def legalWord (w m : Word) : Bool := w &&& ~~~m == 0

end Sys2Proof.Machine
end

