-- ==== Sys2Proof/Machine/Buf.lean ====
section
/-! DEFINITION. Buf.lean: buffers, owner masks and releases (R152 to R154, R159), and what a frame's end takes with it. -/
namespace Sys2Proof.Machine

/-- A frame's bytes as they have come: with the tail its FCS stands at their end (R94, R99). -/
def Frame.bytes (f : Frame) : Bytes := if f.tail then f.data ++ fcsOf f.data else f.data

/-- No SecY checks the frame, or its ICV result is known to have passed (R258, R259). -/
def Frame.verified (f : Frame) : Bool := f.sec.isNone || (f.tail && !f.icvWait)

/-- Octets of a frame as it entered Sluice, without SecTAG and FCS: before any R-TAG change, and before padding (R127, R134, R142). -/
def Frame.octetsIn (f : Frame) : Nat := ((f.data.length - f.secLen : Nat) - f.shift).toNat

/-- The record of a buffer that has been taken or withdrawn since reset. -/
def State.buf? (s : State) (slice pool idx : Nat) : Option Buf :=
  s.bsn.bufs.find? fun b => b.slice == slice && b.pool == pool && b.idx == idx

def State.putBuf (s : State) (b : Buf) : State :=
  { s with bsn := { s.bsn with bufs := s.bsn.bufs.map fun c => if c.slice = b.slice ∧ c.pool = b.pool ∧ c.idx = b.idx then b else c } }

/-- The 24 bits of a handle (R152). -/
def handleBits (pool gen idx : Nat) : Nat := pool * 4194304 + gen * 65536 + idx

/-- A frame's version count falls (R11). -/
def State.versionRelease (s : State) (f : Frame) : State :=
  if f.counted then s.set (SLC.INFLIGHT_COUNT f.version) (s.get (SLC.INFLIGHT_COUNT f.version) - 1) else s

/-- The frame leaves the device's records: its version count falls, and its deliveries and copies that are not in the fabric go
with it. -/
def State.endFrame (s : State) (fid : Nat) : State :=
  match s.frame? fid with
  | none => s
  | some f =>
    let s := (s.versionRelease f).dropFrame fid
    { s with slc := { s.slc with slow := s.slc.slow.filter fun e => e.fid != fid },
             copies := s.copies.filterMap fun c =>
               if c.fid != fid then some c else if c.flying = [] then none else some { c with st := .draining, freed := true } }

/-- The mask is empty: the buffer returns to its free list with the next generation, unless it is withdrawn, and its frame ends
(R152, R154, R159). -/
def State.freeBuf (s : State) (b : Buf) : State :=
  let s := s.putBuf { b with taken := false, owner := 0, dup := none, laRefs := 0, gen := if b.withdrawn then b.gen else (b.gen + 1) % 64 }
  let s := if b.withdrawn then s else { s with bsn := { s.bsn with freed := s.bsn.freed ++ [(b.slice, b.pool, b.idx)] } }
  s.endFrame b.fid

/-- A release that Basin rejects (R154). -/
def State.rejectRelease (s : State) (agent slice handle : Nat) (stale : Bool) : State :=
  let s := s.bump (BSN.REJ_CNT agent)
  let s := if s.bit BSN.BSN_EVENT_REL_REJECT then s else
    (s.wr BSN.REJ_INFO (word ((if stale then 0x80000000 else 0) + agent * 16777216 + handle))).set BSN.REJ_SLICE_SLICE slice
  s.raise BSN.BSN_EVENT_REL_REJECT

/-- The owner record after an agent's release (R153, R154). -/
def Buf.released (b : Buf) (agent : Nat) : Buf :=
  if agent = 16 then
    if b.laRefs ≤ 1 then { b with laRefs := 0, owner := b.owner &&& ~~~(BitVec.ofNat 18 65536) } else { b with laRefs := b.laRefs - 1 }
  else if b.dup = some agent then { b with dup := none }
  else { b with owner := b.owner &&& ~~~(BitVec.ofNat 18 (2 ^ agent)) }

/-- A release by one agent, naming slice and handle: (accepted?, state) (R154). -/
def State.releaseBuf (s : State) (agent slice handle : Nat) : Bool × State :=
  let pool := handle / 4194304 % 4
  let gen := handle / 65536 % 64
  let idx := handle % 65536
  match s.buf? slice pool idx with
  | none => (false, s.rejectRelease agent slice handle (gen != 0))
  | some b =>
    if b.gen ≠ gen then (false, s.rejectRelease agent slice handle true)
    else if !b.owner.getLsbD agent then (false, s.rejectRelease agent slice handle false)
    else
      let b := b.released agent
      (true, if b.owner = 0 then s.freeBuf b else s.putBuf b)

/-- A frame's own handle bits. -/
def Frame.handleNat (f : Frame) : Nat := match f.handle with | some (p, i, g) => handleBits p g i | none => 0

/-- Output p releases a frame's buffer (R154). -/
def State.outRelease (s : State) (fid p : Nat) : State :=
  match s.frame? fid with
  | some f => if f.handle.isSome then (s.releaseBuf p f.inPort f.handleNat).2 else s
  | none => s

/-! ### Towpath frames (R297, R298) -/

/-- A path can carry Towpath frames: the twin link when it is used and up, the network path when it is enabled (R271). -/
def State.twUp (s : State) (net : Bool) : Bool :=
  s.pairEn && (if net then s.bit TWP.TWP_CTRL_NET_HB_EN else s.bit TWP.TWP_CTRL_TW_EN && s.bit BRG.BRG_STATUS_TW_LINK)

/-- The header words of the next frame (R297). `key` counts the SEQ: the stream, or 4 for the network path. -/
def State.twHeader (s : State) (key : Nat) : List Word :=
  [word (268435456 + key % 4 * 67108864), word (assocD s.twp.seqTx key 0), word (s.twp.cycle.getD 0), word (s.ownClaim * 65536)]

/-- A record (R298). -/
def twRecord (type : Nat) (ws : List Word) : List Word := word (type * 16777216 + ws.length) :: ws

/-- The words of a frame that carries one record: header and record (R297, R298). -/
def State.twWords (s : State) (key type : Nat) (ws : List Word) : List Word := s.twHeader key ++ twRecord type ws

/-- A Towpath frame without its FCS: destination, source, EtherType, the words big-endian, padding to the least frame (R297). -/
def twOctets (ws : List Word) : Bytes :=
  padTo 60 (toBE 6 0x030000009218 ++ toBE 6 0 ++ toBE 2 0x88B6 ++ ws.flatMap fun w => toBE 4 w.toNat)

/-- A Towpath frame as it leaves on the twin link. -/
def twFrame (ws : List Word) : Bytes := twOctets ws ++ fcsOf (twOctets ws)

/-- Words of a record that one frame of 2,048 bytes has room for. -/
def twRoom : Nat := 503

/-- Frames that a record with n words after its header word takes. -/
def twFrames (n : Nat) : Nat := n / twRoom + 1

/-- A record cut over frames; a record that fits is one piece. -/
def twCut : Nat → List Word → List (List Word)
  | 0, _ => []
  | n + 1, ws => if ws.length ≤ twRoom then [ws] else ws.take twRoom :: twCut n (ws.drop twRoom)

/-- The next SEQ of a key is used (R297). -/
def State.seqUsed (s : State) (key : Nat) : State :=
  { s with twp := { s.twp with seqTx := assocSet s.twp.seqTx key ((assocD s.twp.seqTx key 0 + 1) % 4294967296) } }

/-- A record goes out on the twin link, in as many frames as it takes (R297). -/
def State.twSend (s : State) (key type : Nat) (ws : List Word) : State :=
  if !s.twUp false then s else
  s.each (twCut (ws.length + 1) (twRecord type ws)) fun s ws => (s.emit (.towpath (twFrame (s.twHeader key ++ ws)))).seqUsed key

/-! ### Frame identity and departure notes (R289) -/

/-- FID: CRC-32C over the first min(LENGTH, 64) bytes of the frame as held in its buffer. -/
def frameId (f : Frame) : Word := word (crc32c 0xFFFFFFFF ((f.data ++ fcsOf f.data).take 64))

/-- Port p is a paired Ethernet port, PAIR_EN being 1 (R272). -/
def State.pairedPort (s : State) (p : Nat) : Bool :=
  s.pairEn && decide (p < 14) && bitsOf (s.rd TWP.PAIRED_PORTS) p p == 1

/-- PAIR_CYCLE as it acts, in microseconds. -/
def State.pairUs (s : State) : Nat := clampN 125 10000 (s.get TWP.PAIR_CYCLE_US)

/-- The note gap is open while a paired-port copy admitted before it is in its queues (R291). -/
def State.gapOpen (s : State) : Bool :=
  match s.twp.gap with
  | some n => s.copies.any fun c => s.pairedPort c.out && decide (c.cid < n) && c.st != .draining
  | none => false

/-- SYNCED (R286). -/
def State.synced (s : State) : Bool := s.twp.match_ &&& 0x7F == 0x7F && !s.gapOpen && s.twp.resync ||| s.twp.whole == 0

/-- A planned swap has been executed, and END of port p has not been sent (old active) or taken (new active) (R289, R294). -/
def State.endOpen (s : State) (active : Bool) (p : Nat) : Bool :=
  match s.twp.swapped with | some d => d.active == active && !d.ends.getLsbD p | none => false

/-- The new active holds its copies on port p until END (R294). -/
def State.awaitsEnd (s : State) (p : Nat) : Bool := s.pairedPort p && s.endOpen true p

/-- Port p is paired and its unit does not drive (R275). -/
def State.shadowPort (s : State) (p : Nat) : Bool := s.pairedPort p && !s.drives

/-- The two words of a note (Table 13.6). -/
def noteWords (c : Copy) (f : Frame) (kind : Nat) : List Word :=
  [word (c.out * 268435456 + c.inp * 16777216 + c.tc * 2097152 + kind * 1048576 + f.len % 16384), frameId f]

/-- The active sends a note for a copy that leaves a paired port: kind 0 sent, 1 dropped (R289); after a planned swap the old
active does so until it sends END. -/
def State.noteSend (s : State) (c : Copy) (kind : Nat) : State :=
  match s.frame? c.fid with
  | some f => if s.pairedPort c.out && (s.drives || s.endOpen false c.out) then s.twSend 1 2 (noteWords c f kind) else s
  | none => s

/-- No cell of the copy is in the fabric: it ends, and its output releases (R81, R175). -/
def State.copyEnds (s : State) (c : Copy) : State :=
  let s := s.dropCopy c.cid
  if c.freed then s else s.outRelease c.fid c.out

/-- A copy leaves its queues: while cells of it are in the fabric it stays as draining, and its output releases when the last of
them has reached the output; its ungranted cells are withdrawn (R81, R175). -/
def State.copyQuiet (s : State) (c : Copy) : State :=
  if c.flying = [] then s.copyEnds c else s.putCopy { c with st := .draining, cells := c.granted.length }

/-- A copy leaves its queues and its note goes out (R289). -/
def State.copyLeaves (s : State) (c : Copy) (kind : Nat) : State := (s.noteSend c kind).copyQuiet c

/-- A copy stands where a departure note or a fence finds it. -/
def Copy.waits (c : Copy) : Bool := c.st == .queued || c.st == .committed || c.st == .parked

/-- Descriptors queued in one VOQ, oldest first. -/
def State.voq (s : State) (i o tc : Nat) : List Copy :=
  s.copies.filter fun c => c.inp == i && c.out == o && c.tc == tc && c.st == .queued

/-- AGE_MS as it acts, quarter nanoseconds. -/
def State.ageLimit (s : State) (i : Nat) : Nat := clampN 1 2000 (s.get (BSN.AGE_CFG_AGE_MS i)) * msQ

/-- A queued or parked copy is older than its input's limit (R156, R290). -/
def State.aged (s : State) (c : Copy) : Bool :=
  (c.st == .queued || c.st == .parked) && match s.frame? c.fid with
    | some f => decide (s.ageLimit c.inp < residence s.nowQ f.ts)
    | none => false

/-- The frame's ingress timestamp is earlier than F, compared through residence time (R14, R281). -/
def State.fenced (s : State) (f : Frame) (t : Nat) : Bool := decide (residence s.nowQ t < residence s.nowQ f.ts)

/-- An aged descriptor is discarded as its output's release (R156). -/
def State.ageDrop (s : State) (c : Copy) : State :=
  ((s.bump (BSN.AGE_DROP_TC c.inp c.tc)).raise BSN.BSN_EVENT_AGE_DROP).copyLeaves c 1

/-- Heads that are too old are discarded in turn. -/
def State.ageHeads (s : State) (i o c : Nat) : Nat → State
  | 0 => s
  | n + 1 => match (s.voq i o c).head? with
    | some k => if s.aged k then (s.ageDrop k).ageHeads i o c n else s
    | none => s

/-- A VOQ has a new head: it is discarded when it is too old, and the next likewise (R156). -/
def State.newHead (s : State) (i o c : Nat) : State := s.ageHeads i o c (s.voq i o c).length

/-- The copy heads its VOQ. -/
def State.isHead (s : State) (c : Copy) : Bool := (s.voq c.inp c.out c.tc).head?.any fun k => k.cid == c.cid

/-- A copy is discarded; its VOQ may have a new head. -/
def State.copyGone (s : State) (c : Copy) : State :=
  let t := s.copyLeaves c 1
  if s.isHead c then t.newHead c.inp c.out c.tc else t

/-- A frame that is dropped before its copies are queued: a buffer that P14 or P15 took for it returns (R11, R148). -/
def State.dropUnqueued (s : State) (fid : Nat) : State :=
  match s.frame? fid with
  | none => s
  | some f =>
    match f.handle with
    | some (p, i, _) => match s.buf? f.inPort p i with
      | some b => s.freeBuf b
      | none => s.endFrame fid
    | none => s.endFrame fid

/-- The owner record of a buffer that no frame holds has an uncorrectable error: the buffer leaves its free list until cold reset
(R159). -/
def State.withdrawFree (s : State) (slice pool idx : Nat) (b : Buf) : State :=
  if b.withdrawn then s else
  let s := if s.bit BSN.BSN_EVENT_PKT_ECC_UNCORR then s else
    s.wr BSN.ECC_INFO (word (slice * 268435456 + 134217728 + handleBits pool b.gen idx))
  let b := { b with withdrawn := true }
  let s := (s.raise BSN.BSN_EVENT_PKT_ECC_UNCORR)
  let s := if (s.buf? slice pool idx).isSome then s.putBuf b else { s with bsn := { s.bsn with bufs := s.bsn.bufs ++ [b] } }
  { s with bsn := { s.bsn with freed := s.bsn.freed.filter fun x => x != (slice, pool, idx) } }

/-- The stricter of two causes of a stomped ending: RXERR, FBV, UNDERRUN (R80). -/
def Stomp.first : Option Stomp → Stomp → Stomp
  | none, b => b
  | some .rxerr, _ => .rxerr
  | some .fbv, .rxerr => .rxerr
  | some .fbv, _ => .fbv
  | some .underrun, b => b

/-- An uncorrectable error in an owner record: the buffer is withdrawn until cold reset, and every copy left is discarded as its
output's release; a copy that has started ends stomped first, and the one that is just ending well ends so (R159). -/
def State.withdraw (s : State) (fid : Nat) (ending : Option Nat := none) : State :=
  match s.frame? fid with
  | none => s
  | some f =>
    match f.handle with
    | none => s
    | some (p, i, _) =>
      match s.buf? f.inPort p i with
      | none => s
      | some b =>
        let s := if s.bit BSN.BSN_EVENT_PKT_ECC_UNCORR then s else
          s.wr BSN.ECC_INFO (word (f.inPort * 268435456 + 134217728 + f.handleNat))
        let s := (s.raise BSN.BSN_EVENT_PKT_ECC_UNCORR).putBuf { b with withdrawn := true }
        let s := s.each (s.copies.filter fun c => c.fid == fid && some c.cid != ending) fun s c =>
          if c.st = .sending ∨ c.st = .preempted then s.putCopy { c with stomp := some (Stomp.first c.stomp .underrun) }
          else if c.st = .draining then s else s.copyGone c
        match s.buf? f.inPort p i with
        | some b => if b.taken ∧ b.owner = 0 ∧ b.fid = fid then s.freeBuf b else s
        | none => s

/-! ### Ranks (R149, R390) -/

/-- The rank of a class at an input: 0 scheduled, 1 lossless, 2 best effort (RANK_MAP). -/
def State.rankOf (s : State) (inp tc : Nat) : Nat :=
  min 2 (bitsOf (word (s.get (BSN.RANK_MAP_MAP inp))) (2 * tc + 1) (2 * tc))

/-! ### Speeds of ports (R69, R186) -/

/-- SPEED_ACT of an external port, SPEED encoding; zero while no speed is in force. -/
def State.speed (s : State) (p : Nat) : Nat := s.get (MAC.PORT_STATUS_SPEED_ACT p)

/-- Picoseconds per byte at a port: by speed on P0 to P13, 32 Gb/s on P14, 10 Gb/s on P15 (R186). -/
def State.byteTime (s : State) (p : Nat) : Nat :=
  if p = 14 then 250 else if p = 15 then 800 else
  match s.speed p with
  | 1 => 80000 | 2 => 8000 | 3 => 3200 | 4 => 1600 | 5 => 800 | 6 => 320 | _ => 0

/-- The input's speed is at least the output's (R77, condition 3); for an UNVERIFIED frame P14 counts as running at the input's
speed (R259). -/
def State.fastEnough (s : State) (inp out : Nat) (unver : Bool) : Bool :=
  (out == 14 && unver) || s.byteTime inp != 0 && s.byteTime out != 0 && decide (s.byteTime inp ≤ s.byteTime out)

def State.secured (s : State) (p : Nat) : Bool := s.bit (CPH.PORT_SEC_CFG_SECURED p)

/-! ### Admission to the VOQs (R153, R155) and departure notes (R290) -/

/-- Descriptor entries free at an input. -/
def State.descFree (s : State) (i : Nat) : Nat := 8192 - (s.copies.filter fun c => c.inp == i && c.st == .queued).length

/-- A copy is released by a departure note (R290); its VOQ may have a new head. -/
def State.noteRelease (s : State) (c : Copy) (counter : Nat) : State :=
  let t := (s.copyQuiet c).bump counter
  if s.isHead c then t.newHead c.inp c.out c.tc else t

/-- The copies that a note is matched against, oldest first, 16 deep. -/
def State.noteCopies (s : State) (out inp tc : Nat) : List Copy :=
  (s.copies.filter fun c => c.out == out && c.inp == inp && c.tc == tc && c.waits).take 16

/-- A note's match is released, and every older copy ahead of it (R290; of one newly admitted also those beyond the 16 that a note looks
at, DEDUCED, assumption 146). -/
def State.noteMatch (s : State) (c : Copy) : State :=
  let older := (s.copies.filter fun x => x.out == c.out && x.inp == c.inp && x.tc == c.tc && x.waits).takeWhile fun x => x.cid != c.cid
  let s := s.each older fun s x => s.noteRelease x TWP.NOTE_SKIP_CNT
  (s.noteRelease c TWP.SHADOW_TX_CNT).bump TWP.NOTE_CNT

/-- A copy newly admitted on the standby is matched against the waiting notes first (R290). -/
def State.matchWaiting (s : State) (c : Copy) : State :=
  match s.frame? c.fid with
  | none => s
  | some f =>
    if !s.shadowPort c.out && !s.awaitsEnd c.out then s else
    match s.notes.find? fun n => n.out == c.out && n.inp == c.inp && n.tc == c.tc && n.len == f.len && n.fid == frameId f with
    | some n => ({ s with notes := s.notes.erase n }).noteMatch c
    | none => s

/-- The VOQ limit as it acts (R155). -/
def State.voqLimit (s : State) (i tc : Nat) : Nat := clampN 1 8192 (s.get (BSN.VOQ_LIMIT_TC_FRAMES i tc))

/-- One resolved copy is admitted to its VOQ or discarded; answers the ports that hold a copy so far and the state (R155). -/
def State.admitCopy (s : State) (f : Frame) (t : Target) : Option Copy × State :=
  let exempt := s.rankOf f.inPort f.tc == 1 && bitsOf (s.rd BSN.BSN_CTRL) t.out t.out == 0
  if !exempt && decide (s.voqLimit f.inPort f.tc ≤ (s.voq f.inPort t.out f.tc).length) then
    (none, s.bump (BSN.VOQ_DROP_TC f.inPort f.tc))
  else if s.descFree f.inPort = 0 then
    (none, (s.bump (BSN.DESC_DROP f.inPort)).raise BSN.BSN_EVENT_DESC_EMPTY)
  else
    let c : Copy := { cid := s.nextCid, fid := f.fid, inp := f.inPort, out := t.out, tc := f.tc, mirror := t.mirror, oneStep := t.oneStep,
                      ct := f.cutThrough && s.fastEnough f.inPort t.out f.unverified }
    (some c, { s with copies := s.copies ++ [c], nextCid := s.nextCid + 1 })

/-- Every copy of a frame is checked against its VOQ: the copies admitted, in order (R155). -/
def State.admitAll (s : State) (f : Frame) : List Copy × State :=
  f.targets.foldl (fun a t => match a.2.admitCopy f t with | (some c, s) => (a.1 ++ [c], s) | (none, s) => (a.1, s)) ([], s)

/-- The owner mask of the admitted copies and the processor copy (R153). -/
def ownerMask (cs : List Copy) (cpu : Bool) : BitVec 18 :=
  cs.foldl (fun m c => m ||| BitVec.ofNat 18 (2 ^ c.out)) (if cpu then BitVec.ofNat 18 131072 else 0)

/-- A port that holds both a forwarded and the mirror copy (R153). -/
def dupPort (cs : List Copy) : Option Nat :=
  match cs.find? fun c => c.mirror with
  | some m => if cs.any fun c => !c.mirror && c.out == m.out then some m.out else none
  | none => none

/-- A frame that holds its buffer joins its VOQs; an empty mask returns the buffer (R153, R155). -/
def State.letIn (s : State) (fid : Nat) : State :=
  match s.frame? fid with
  | none => s
  | some f =>
    match f.handle with
    | none => s
    | some (p, i, _) =>
      match s.buf? f.inPort p i with
      | none => s
      | some b =>
        let (cs, s) := s.admitAll f
        let b := { b with owner := ownerMask cs f.cpu.isSome, dup := dupPort cs }
        let s := s.putFrame { f with stage := .buffered }
        if b.owner = 0 then s.freeBuf b else (s.putBuf b).each cs fun s c =>
          let s := s.matchWaiting c
          if s.isHead c then s.newHead c.inp c.out c.tc else s

/-- A P14 or P15 frame that Sluice and the stream stages have passed joins its VOQs at once: its buffer was taken before (R148). -/
def State.admitInternal (s : State) (fid : Nat) : State :=
  match s.frame? fid with
  | some f => if 14 ≤ f.inPort ∧ f.stage = .passed ∧ !f.icvWait then s.letIn fid else s
  | none => s

/-- A frame in the device turns out bad: started copies must end stomped, the others are discarded, and a delivery that waits is
withdrawn (R75, R260). -/
def State.failFrame (s : State) (fid : Nat) (why : Stomp) : State :=
  let mine := s.copies.filter fun c => c.fid == fid
  let s := s.each mine fun s c =>
    if c.st = .sending ∨ c.st = .preempted then s.putCopy { c with stomp := some (Stomp.first c.stomp why) }
    else if c.st = .draining then s else s.copyGone c
  match s.frame? fid with
  | none => s
  | some f =>
    if s.slc.slow.any fun e => e.fid == fid then
      let s := { s with slc := { s.slc with slow := s.slc.slow.filter fun e => e.fid != fid } }
      if f.handle.isSome then (s.releaseBuf 17 f.inPort f.handleNat).2 else s
    else s

end Sys2Proof.Machine
end

