-- ==== Sys2Proof/Machine/Crypto.lean ====
section
/-! DEFINITION. Crypto.lean: the algorithms that the spec names by their standards and does not write out: AES (FIPS 197), CMAC
(SP 800-38B), GCM (SP 800-38D), key unwrap (SP 800-38F), SHA-256 (FIPS 180-4) and ECDSA P-256 verification (FIPS 186-5).
PRESUMED: they are those of the standards (assumption 35). -/
namespace Sys2Proof.Machine

/-- Octets as a number, the most significant first. -/
def natOf (d : Bytes) : Nat := d.foldl (fun n b => n * 256 + b.toNat) 0

/-- Octet by octet exclusive or. -/
def xorBytes (a b : Bytes) : Bytes := List.zipWith (fun x y => x ^^^ y) a b

/-! ### AES -/

/-- Multiplication by x, and by any octet, in GF(2^8) modulo x^8 + x^4 + x^3 + x + 1. -/
def gfTwice (a : Byte) : Byte := (a <<< 1) ^^^ (if a.getLsbD 7 then 0x1B else 0)
def gfMul (a b : Byte) : Byte :=
  ((List.range 8).foldl (fun (x : Byte × Byte) i => (if b.getLsbD i then x.1 ^^^ x.2 else x.1, gfTwice x.2)) (0, a)).1

/-- The inverse, a^254; 0 stays 0. -/
def gfInv (a : Byte) : Byte :=
  let a2 := gfMul a a
  let a3 := gfMul a2 a
  let a6 := gfMul a3 a3
  let a7 := gfMul a6 a
  let a14 := gfMul a7 a7
  let a15 := gfMul a14 a
  let a30 := gfMul a15 a15
  let a31 := gfMul a30 a
  let a62 := gfMul a31 a31
  let a63 := gfMul a62 a
  let a126 := gfMul a63 a63
  gfMul (gfMul a126 a) (gfMul a126 a)

/-- The S-box and its inverse. -/
def aesSub (a : Byte) : Byte :=
  let b := gfInv a
  b ^^^ b.rotateLeft 1 ^^^ b.rotateLeft 2 ^^^ b.rotateLeft 3 ^^^ b.rotateLeft 4 ^^^ 0x63
def aesUnsub (a : Byte) : Byte := gfInv (a.rotateLeft 1 ^^^ a.rotateLeft 3 ^^^ a.rotateLeft 6 ^^^ 0x05)

/-- The words of the key schedule, each four octets, the latest first; `nk` words of key. -/
def aesExpand (nk : Nat) : Nat → Nat → Byte → List Bytes → List Bytes
  | 0, _, _, ws => ws
  | n + 1, i, rcon, ws =>
    let t := ws.headD []
    let turn := i % nk == 0
    let t := if turn then xorBytes ((t.drop 1 ++ t.take 1).map aesSub) [rcon, 0, 0, 0]
      else if 6 < nk ∧ i % nk = 4 then t.map aesSub else t
    aesExpand nk n (i + 1) (if turn then gfTwice rcon else rcon) (xorBytes (ws.getD (nk - 1) []) t :: ws)

/-- Groups of four octets. -/
def quads : Nat → Bytes → List Bytes
  | 0, _ => []
  | n + 1, d => d.take 4 :: quads n (d.drop 4)

/-- The round keys of a key of 16 or 32 octets, first round first. -/
def aesKeys (key : Bytes) : List Bytes :=
  let nk := key.length / 4
  let ws := (aesExpand nk (4 * (nk + 7) - nk) nk 1 (quads nk key).reverse).reverse
  (List.range (nk + 7)).map fun r => (ws.drop (4 * r)).take 4 |>.flatten

/-- Octets of the state stand column by column; rows shift left, or right. -/
def shiftRows (d : Bytes) : Bytes := (List.range 16).map fun i => d.getD ((i + 4 * (i % 4)) % 16) 0
def unshiftRows (d : Bytes) : Bytes := (List.range 16).map fun i => d.getD ((i + 12 * (i % 4)) % 16) 0

/-- A column times a circulant matrix. -/
def mixColumn (m : Bytes) (c : Bytes) : Bytes :=
  (List.range 4).map fun r => (List.range 4).foldl (fun a k => a ^^^ gfMul (m.getD ((k + 4 - r) % 4) 0) (c.getD k 0)) 0
def mixColumns (m : Bytes) (d : Bytes) : Bytes := (quads 4 d).flatMap (mixColumn m)

/-- The cipher and its inverse on one block. -/
def aesRounds : List Bytes → Bytes → Bytes
  | [], d => d
  | [k], d => xorBytes (shiftRows (d.map aesSub)) k
  | k :: ks, d => aesRounds ks (xorBytes (mixColumns [2, 3, 1, 1] (shiftRows (d.map aesSub))) k)
def aesBlock (key d : Bytes) : Bytes :=
  match aesKeys key with | k :: ks => aesRounds ks (xorBytes d k) | [] => d
def aesUnrounds : List Bytes → Bytes → Bytes
  | [], d => d
  | [k], d => xorBytes ((unshiftRows d).map aesUnsub) k
  | k :: ks, d => aesUnrounds ks (mixColumns [14, 11, 13, 9] (xorBytes ((unshiftRows d).map aesUnsub) k))
def aesUnblock (key d : Bytes) : Bytes :=
  match (aesKeys key).reverse with | k :: ks => aesUnrounds ks (xorBytes d k) | [] => d

/-! ### CMAC -/

/-- A block doubled in GF(2^128). -/
def cmacTwice (b : Bytes) : Bytes :=
  let n := natOf b
  toBE 16 ((n * 2) % 2 ^ 128 ^^^ (if 2 ^ 127 ≤ n then 0x87 else 0))

/-- The chain over blocks; the last one, padded when it is not whole, is masked with a subkey. -/
def cmacChain (key k1 : Bytes) : Nat → Bytes → Bytes → Bytes
  | 0, x, _ => x
  | n + 1, x, d =>
    if d.length ≤ 16 then
      let last := if d.length = 16 then xorBytes d k1 else xorBytes (d ++ [0x80] ++ zeros (15 - d.length)) (cmacTwice k1)
      aesBlock key (xorBytes x last)
    else cmacChain key k1 n (aesBlock key (xorBytes x (d.take 16))) (d.drop 16)

/-- AES-CMAC of a message: 16 octets (R224, R235, R267). -/
def cmac (key msg : Bytes) : Bytes :=
  cmacChain key (cmacTwice (aesBlock key (zeros 16))) (msg.length / 16 + 1) (zeros 16) msg

/-! ### GCM -/

/-- Multiplication in GF(2^128); the first bit of a block is its most significant. -/
def ghMul (x y : Nat) : Nat :=
  ((List.range 128).foldl (fun (a : Nat × Nat) i =>
    (if x.testBit (127 - i) then a.1 ^^^ a.2 else a.1, if a.2 % 2 = 1 then a.2 / 2 ^^^ (0xE1 * 2 ^ 120) else a.2 / 2)) (0, y)).1

/-- GHASH over octets, whose last block is padded with zeros. -/
def ghash (h : Nat) : Nat → Nat → Bytes → Nat
  | 0, y, _ => y
  | n + 1, y, d =>
    if d = [] then y else
    let b := d.take 16
    ghash h n (ghMul (y ^^^ natOf (b ++ zeros (16 - b.length))) h) (d.drop 16)

/-- The counter block of an IV, and the one after it by k. -/
def gcmCounter (h : Nat) (iv : Bytes) : Nat :=
  if iv.length = 12 then natOf iv * 2 ^ 32 + 1
  else ghMul (ghash h (iv.length / 16 + 1) 0 iv ^^^ (iv.length * 8)) h
def gcmStep (j k : Nat) : Nat := j / 2 ^ 32 * 2 ^ 32 + (j + k) % 2 ^ 32

/-- n octets of the key stream (R251, R255, R265). -/
def gcmPad (key iv : Bytes) (n : Nat) : Bytes :=
  let h := natOf (aesBlock key (zeros 16))
  let j := gcmCounter h iv
  ((List.range ((n + 15) / 16)).flatMap fun k => aesBlock key (toBE 16 (gcmStep j (k + 1)))).take n

/-- The tag of additional data and ciphertext: 16 octets. -/
def gcmTag (key iv aad text : Bytes) : Bytes :=
  let h := natOf (aesBlock key (zeros 16))
  let y := ghash h (aad.length / 16 + 1) 0 aad
  let y := ghash h (text.length / 16 + 1) y text
  let y := ghMul (y ^^^ (aad.length * 8 * 2 ^ 64 + text.length * 8)) h
  xorBytes (toBE 16 y) (aesBlock key (toBE 16 (gcmCounter h iv)))

/-! ### Key unwrap -/

/-- The inverse steps over A and the half blocks, from step t down. -/
def kwSteps (key : Bytes) (n : Nat) : Nat → Bytes × List Bytes → Bytes × List Bytes
  | 0, x => x
  | t + 1, (a, rs) =>
    let i := t % n
    let b := aesUnblock key (xorBytes a (toBE 8 (t + 1)) ++ rs.getD i [])
    kwSteps key n t (b.take 8, rs.set i (b.drop 8))

/-- Half blocks of eight octets. -/
def eights : Nat → Bytes → List Bytes
  | 0, _ => []
  | n + 1, d => d.take 8 :: eights n (d.drop 8)

/-- AES key unwrap (R236): the key, when the integrity check passes. -/
def kwUnwrap (key wrapped : Bytes) : Option Bytes :=
  let n := wrapped.length / 8 - 1
  let x := kwSteps key n (6 * n) (wrapped.take 8, eights n (wrapped.drop 8))
  if x.1 = List.replicate 8 0xA6 then some x.2.flatten else none

/-! ### SHA-256 -/

/-- The primes up to 311: 64 of them. -/
def shaPrimes : List Nat := (List.range 312).filter fun n => decide (2 ≤ n) && (List.range 18).all fun d => decide (d < 2) || decide (n ≤ d) || n % d != 0

/-- The largest x below r + 2^n, above r, of which the e-th power is at most m. -/
def rootFloor (e m : Nat) : Nat → Nat → Nat
  | 0, r => r
  | n + 1, r => rootFloor e m n (if (r + 2 ^ n) ^ e ≤ m then r + 2 ^ n else r)

/-- The first 32 bits of the fraction of a prime's e-th root: the cube root gives a round's constant, the square root a word of the
initial hash value. -/
def rootBits (e p : Nat) : BitVec 32 := BitVec.ofNat 32 (rootFloor e (p * 2 ^ (32 * e)) 37 0)

/-- The exclusive or of a word's rotations to the right. -/
def turns (x : BitVec 32) (by_ : List Nat) : BitVec 32 := (by_.map x.rotateRight).foldl (· ^^^ ·) 0

/-- The next word of the message schedule from those before it, the latest first. -/
def shaNext (ws : List (BitVec 32)) : BitVec 32 :=
  let near := ws.getD 1 0
  let far := ws.getD 14 0
  (near >>> 10 ^^^ turns near [17, 19]) + (far >>> 3 ^^^ turns far [7, 18]) + ws.getD 6 0 + ws.getD 15 0

/-- The working variables: a to d stand in `left`, e to h in `right`. -/
structure ShaVars where
  left  : List (BitVec 32)
  right : List (BitVec 32)
  deriving DecidableEq, Repr

/-- One round with the sum of its constant and its word of the schedule. -/
def ShaVars.round (v : ShaVars) (kw : BitVec 32) : ShaVars :=
  let l := fun (i : Nat) => v.left.getD i 0
  let r := fun (i : Nat) => v.right.getD i 0
  let mix := turns (r 0) [6, 11, 25] + (r 2 ^^^ (r 0 &&& (r 1 ^^^ r 2))) + r 3 + kw
  let vote := turns (l 0) [2, 13, 22] + ((l 0 ||| l 1) &&& l 2 ||| (l 0 &&& l 1))
  { left := (mix + vote) :: v.left.take 3, right := (l 3 + mix) :: v.right.take 3 }

/-- A round for each prime left; the schedule, of which the oldest word not used yet is the 16th, grows by a word each time. -/
def shaRounds : List Nat → List (BitVec 32) → ShaVars → ShaVars
  | [], _, v => v
  | p :: ps, ws, v => shaRounds ps (shaNext ws :: ws.take 15) (v.round (rootBits 3 p + ws.getD 15 0))

/-- One block. -/
def shaBlock (hs : List (BitVec 32)) (d : Bytes) : List (BitVec 32) :=
  let ws := (quads 16 d).map fun q => BitVec.ofNat 32 (natOf q)
  let v := shaRounds shaPrimes ws.reverse { left := hs.take 4, right := hs.drop 4 }
  (hs.zip (v.left ++ v.right)).map fun x => x.1 + x.2

/-- The blocks of a padded message. -/
def shaBlocks : Nat → List (BitVec 32) → Bytes → List (BitVec 32)
  | 0, hs, _ => hs
  | n + 1, hs, d => shaBlocks n (shaBlock hs (d.take 64)) (d.drop 64)

/-- SHA-256 of a message: 32 octets. -/
def sha (d : Bytes) : Bytes :=
  let m := d ++ [0x80] ++ zeros ((119 - d.length % 64) % 64) ++ toBE 8 (d.length * 8)
  (shaBlocks (m.length / 64) ((shaPrimes.take 8).map (rootBits 2)) m).flatMap fun w => toBE 4 w.toNat

/-! ### ECDSA P-256 -/

/-- The field's prime, the group's order, the curve's constant b and its base point. -/
def p256P : Nat := 0xffffffff00000001000000000000000000000000ffffffffffffffffffffffff
def p256N : Nat := 0xffffffff00000000ffffffffffffffffbce6faada7179e84f3b9cac2fc632551
def p256B : Nat := 0x5ac635d8aa3a93e7b3ebbd55769886bc651d06b0cc53b0f63bce3c3e27d2604b
def p256Gx : Nat := 0x6b17d1f2e12c4247f8bce6e563a440f277037d812deb33a0f4a13945d898c296
def p256Gy : Nat := 0x4fe342e2fe1a7f9b8ee7eb4a7c0f9e162bce33576b315ececbb6406837bf51f5

/-- a to the power e modulo m, over the low `n` bits of e, the highest first. -/
def powMod (a e m : Nat) : Nat → Nat → Nat
  | 0, r => r
  | n + 1, r => let r := r * r % m; powMod a e m n (if e.testBit n then r * a % m else r)

/-- The inverse modulo a prime of at most 256 bits. -/
def invMod (a m : Nat) : Nat := powMod (a % m) (m - 2) m 256 1

/-- A point of the curve; none is the point at infinity. -/
abbrev EcPoint := Option (Nat × Nat)

/-- The sum of two points. -/
def ecAdd (a b : EcPoint) : EcPoint :=
  match a, b with
  | none, _ => b
  | _, none => a
  | some (x1, y1), some (x2, y2) =>
    if x1 = x2 ∧ (y1 + y2) % p256P = 0 then none else
    let l := if x1 = x2 then (3 * x1 * x1 + p256P - 3) * invMod (2 * y1) p256P % p256P
      else (y2 + p256P - y1) * invMod (x2 + p256P - x1) p256P % p256P
    let x3 := (l * l + 2 * p256P - x1 - x2) % p256P
    some (x3, (l * (x1 + p256P - x3) + p256P - y1) % p256P)

/-- A multiple of a point, over the low n bits of k. -/
def ecMul (k : Nat) (p : EcPoint) : Nat → EcPoint → EcPoint
  | 0, r => r
  | n + 1, r => let r := ecAdd r r; ecMul k p n (if k.testBit n then ecAdd r p else r)

/-- Does a signature (r then s) of a message over SHA-256 verify under a public key (x then y) (R315, R338)? A key that is no point of
the curve verifies nothing. -/
def p256Ok (key msg sig : Bytes) : Bool :=
  let x := natOf (key.take 32)
  let y := natOf (key.drop 32)
  let r := natOf (sig.take 32)
  let s := natOf (sig.drop 32)
  let onCurve := decide (x < p256P) && decide (y < p256P) && decide (y * y % p256P = (x * x * x + (p256P - 3) * x + p256B) % p256P)
  if !onCurve || r = 0 || p256N ≤ r || s = 0 || p256N ≤ s then false else
  let w := invMod s p256N
  let e := natOf (sha msg)
  match ecAdd (ecMul (e * w % p256N) (some (p256Gx, p256Gy)) 256 none) (ecMul (r * w % p256N) (some (x, y)) 256 none) with
  | none => false
  | some (px, _) => decide (px % p256N = r)

end Sys2Proof.Machine
end

