-- ==== Sys2Proof/Machine/Slots.lean ====
section
/-! DEFINITION. Slots.lean: the key store's slots as every block sees them (R229 to R237). A slot's value stands in words 0 to 7 of
table entry (12, 0, slot), its attributes in word 8, its REF_COUNT in word 9. -/
namespace Sys2Proof.Machine

/-! ### Slots (R229 to R231, R237) -/

def State.slotW (s : State) (slot w : Nat) : Word := s.tw 12 0 0 slot w

/-- DEBUG_ROOT: the test root is in slot 0 (R237). -/
def State.testRoot (s : State) : Bool := s.bit KEY.LC_STATUS_DEBUG_ROOT

/-- Attribute word of a slot; slot 0 is the hardware slot (R231). -/
def State.attr (s : State) (slot : Nat) : Word := if slot = 0 then 0xF0FF0040 else s.slotW slot 8

/-- REF_COUNT (R234). -/
def State.refs (s : State) (slot : Nat) : Nat := (s.slotW slot 9).toNat

/-- Octets of words, the most significant first. -/
def wordOctets (ws : List Word) : Bytes := ws.flatMap fun w => toBE 4 w.toNat

/-- The key of a slot: 32 octets, or the first 16 when LEN256 is 0. -/
def State.keyOctets (s : State) (slot : Nat) : Bytes :=
  let ws := if slot = 0 then (if s.testRoot then List.replicate 8 0xA5A5A5A5 else (List.range 8).map Config.deviceRoot)
    else (List.range 8).map fun w => s.slotW slot w
  (wordOctets ws).take (if bitsOf (s.attr slot) 30 30 = 1 then 32 else 16)

/-- The zeroization sweep runs (R241). -/
def State.zeroizing (s : State) : Bool := s.bit KEY.KEY_STATUS_ZEROIZING

/-- Does the store grant an operation (USAGE bit) to a requester (USERS bit)? (R229) -/
def State.keyGrants (s : State) (slot usage users : Nat) : Bool :=
  bitsOf (s.attr slot) 31 31 == 1 && bitsOf (s.attr slot) usage usage == 1 && bitsOf (s.attr slot) users users == 1 && !s.zeroizing

/-- A refused request is counted and sets DENIED (R229). -/
def State.keyDenied (s : State) : State := (s.bump KEY.DENY_CNT).raise KEY.KEY_EVENT_DENIED

/-- References of the inline cipher (R234). -/
def State.refTake (s : State) (slot : Nat) : State := s.setTw 12 0 0 slot 9 (word (s.refs slot + 1))
def State.refDrop (s : State) (slot : Nat) : State := s.setTw 12 0 0 slot 9 (word (s.refs slot - 1))

/-! ### Key derivation -/

/-- The KDF of R235: blocks K(1) and, for 256 bits, K(2). -/
def kdf (key label ctx : Bytes) (bits : Nat) : Bytes :=
  (List.range (bits / 128)).flatMap fun i => cmac key (toBE 4 (i + 1) ++ label ++ [0] ++ ctx ++ toBE 4 bits)

/-- Words of octets, the most significant first. -/
def octetWords : Nat → Bytes → List Word
  | 0, _ => []
  | n + 1, d => word (be32 d 0) :: octetWords n (d.drop 4)

end Sys2Proof.Machine
end

