-- ==== Sys2Proof/Machine/Secy.lean ====
section
/-! DEFINITION. Secy.lean: the SecY of a port (chapter 12): configuration, SecTAG, reading a frame on receive, forming one on
transmit. The SC table is (11, 0), the SA table (11, 1), the SA counters (11, 2). -/
namespace Sys2Proof.Machine

/-! ### Configuration (R245, R246, R248) -/

/-- CLEAR_TAGS as it acts: 3 acts as 2. -/
def State.clearTags (s : State) (p : Nat) : Nat := min 2 (s.get (CPH.PORT_SEC_CFG_CLEAR_TAGS p))

/-- Bytes that CONF_OFFSET leaves unencrypted: 0b11 acts as 0b00. -/
def State.confOffset (s : State) (p : Nat) : Nat :=
  match s.get (CPH.PORT_SEC_CFG_CONF_OFFSET p) with | 1 => 30 | 2 => 50 | _ => 0

/-- The port's suite uses extended packet numbers. -/
def State.xpn (s : State) (p : Nat) : Bool := decide (2 ≤ s.get (CPH.PORT_SEC_CFG_SUITE p))

/-- The place of the SecTAG from offset o on: after at most n clear tags. -/
def tagPlace (d : Bytes) : Nat → Nat → Nat
  | 0, o => o
  | n + 1, o => if be16 d o = 0x8100 ∨ be16 d o = 0x88A8 then tagPlace d n (o + 4) else o

/-- An EtherType matches an enabled bypass entry of the port (R248). -/
def State.bypass (s : State) (p et : Nat) : Bool :=
  (List.range 4).any fun n => s.bit (CPH.BYPASS_EN p n) && s.get (CPH.BYPASS_ETYPE p n) == et

/-! ### Channels and associations (R249, R250) -/

def State.scW (s : State) (sc w : Nat) : Word := s.tw 11 0 0 sc w
def State.saW (s : State) (sa w : Nat) : Word := s.tw 11 1 0 sa w

/-- NEXT_PN. -/
def State.nextPn (s : State) (sa : Nat) : Nat := (s.saW sa 6).toNat * 4294967296 + (s.saW sa 5).toNat
def State.setNextPn (s : State) (sa pn : Nat) : State := s.setEntry 11 1 0 sa 5 [word pn, word (pn / 4294967296)]

/-- VALID without KEY_LOST. -/
def State.saLive (s : State) (sa : Nat) : Bool := bitsOf (s.saW sa 0) 31 31 == 1 && bitsOf (s.saW sa 0) 29 29 == 0

/-- The key that an SA names. -/
def State.saKey (s : State) (sa : Nat) : Bytes := s.keyOctets (bitsOf (s.saW sa 0) 9 0)

/-- A counter of an SA: 0 IN_OK, 2 IN_NOT_VALID, 4 IN_LATE, 6 OUT_PROTECTED (Table 12.7). -/
def State.saCount (s : State) (sa w : Nat) : State := s.tbump 11 2 sa w 1

/-- The initialisation vector: SCI ‖ PN, or (SSCI ‖ PN) XOR SALT in XPN suites. -/
def State.secIv (s : State) (p sc sa pn : Nat) : Bytes :=
  if s.xpn p then xorBytes (wordOctets [s.saW sa 1] ++ toBE 8 pn) (wordOctets [s.saW sa 2, s.saW sa 3, s.saW sa 4])
  else wordOctets [s.scW sc 1, s.scW sc 2] ++ toBE 4 pn

/-- The key stream of AES-GCM over octets. -/
def gcmStream (key iv d : Bytes) : Bytes := xorBytes d (gcmPad key iv d.length)

/-- Secure data under the E bit: the first `conf` octets stay as they are. -/
def gcmText (key iv : Bytes) (enc : Bool) (conf : Nat) (d : Bytes) : Bytes :=
  if enc then d.take conf ++ gcmStream key iv (d.drop conf) else d

/-- The ICV over what stands before the secure data and the secure data as sent. -/
def gcmIcv (key iv : Bytes) (enc : Bool) (conf : Nat) (front body : Bytes) : Bytes :=
  if enc then gcmTag key iv (front ++ body.take conf) (body.drop conf) else gcmTag key iv (front ++ body) []

/-! ### Reception (R255, R256) -/

/-- What the SecY finds when it reads a frame's SecTAG. -/
inductive SecEnd where
  /-- The SecTAG has not arrived whole. -/
  | wait
  /-- The frame passes in clear. -/
  | clear
  /-- Discarded; the counter's address. -/
  | drop (cnt : Nat)
  /-- Discarded as late under an SA. -/
  | late (sa : Nat)
  /-- Checked on under these values. -/
  | go (x : SecRx)
  deriving DecidableEq, Repr

/-- The recovered PN (R256). -/
def State.recoveredPn (s : State) (p sc sa x : Nat) : Nat :=
  if !s.xpn p then x else
  let l := max 1 (s.nextPn sa - (s.scW sc 3).toNat)
  (if l % 4294967296 ≤ x then l / 4294967296 else l / 4294967296 + 1) % 4294967296 * 4294967296 + x

/-- The frame under a VALID receive SC and the SA at its AN (R255). -/
def State.secSa (s : State) (p sc an x off len : Nat) (enc : Bool) : SecEnd :=
  let sa := 4 * sc + an
  if !s.saLive sa then .drop (CPH.IN_NOT_USING_SA p) else
  let pn := s.recoveredPn p sc sa x
  if pn = 0 then .drop (CPH.IN_BAD_TAG p)
  else if bitsOf (s.scW sc 0) 30 30 = 1 ∧ pn < max 1 (s.nextPn sa - (s.scW sc 3).toNat) then .late sa
  else .go { off := off, len := len, sa := sa, pn := pn, key := s.saKey sa, iv := s.secIv p sc sa pn, enc := enc, conf := if enc then s.confOffset p else 0 }

/-- Reads the SecTAG of a frame received on secured port p: `raw` are the octets so far, without the FCS when `tail` (R255). A
frame with a short length SL is read when its tail has come. -/
def State.secRead (s : State) (p : Nat) (raw : Bytes) (tail : Bool) : SecEnd :=
  let o := tagPlace raw (s.clearTags p) 12
  if raw.length < o + 2 then (if tail then .drop (CPH.IN_NO_TAG p) else .wait) else
  if be16 raw o ≠ 0x88E5 then (if s.bypass p (be16 raw o) then .clear else .drop (CPH.IN_NO_TAG p)) else
  if raw.length < o + 8 then (if tail then .drop (CPH.IN_BAD_TAG p) else .wait) else
  let tci := byteAt raw (o + 2)
  let sl := byteAt raw (o + 3)
  let scBit := tci / 32 % 2 == 1
  let enc := tci / 8 % 2 == 1
  let len := if scBit then 16 else 8
  if tci / 128 % 2 = 1 ∨ (scBit ∧ (tci / 64 % 2 = 1 ∨ tci / 16 % 2 = 1)) ∨ (!enc ∧ tci / 4 % 2 = 1) ∨ 48 ≤ sl then .drop (CPH.IN_BAD_TAG p)
  else if !tail ∧ (sl ≠ 0 ∨ raw.length < o + len) then .wait
  else if tail ∧ (raw.length < o + len + 16 ∨ (sl ≠ 0 ∧ sl ≠ raw.length - (o + len + 16))) then .drop (CPH.IN_BAD_TAG p)
  else if !s.xpn p ∧ be32 raw (o + 4) = 0 then .drop (CPH.IN_BAD_TAG p)
  else
    let sci := if scBit then (raw.drop (o + 8)).take 8 else (raw.drop 6).take 6 ++ [0, 1]
    match [1, 2, 3, 4, 5, 6, 7].find? fun k => bitsOf (s.scW (8 * p + k) 0) 31 31 == 1 && wordOctets [s.scW (8 * p + k) 1, s.scW (8 * p + k) 2] == sci with
    | none => .drop (CPH.IN_NO_SCI p)
    | some k => s.secSa p (8 * p + k) (tci % 4) (be32 raw (o + 4)) o len enc

/-- The octets that a checked frame's data holds: what stands before the secure data, then the secure data in clear; the ICV is left
out once the tail has come (R247). -/
def SecRx.plain (x : SecRx) (raw : Bytes) (tail : Bool) : Bytes :=
  let body := raw.drop (x.off + x.len)
  raw.take (x.off + x.len) ++ gcmText x.key x.iv x.enc x.conf (if tail then body.take (body.length - 16) else body)

/-- A frame that enters on a secured port and whose SecTAG has not been read meets its SecY (R255). Answers the frame, none when it
is discarded; `raw` are the octets so far. -/
def State.secMeet (s : State) (f : Frame) : Option Frame × State :=
  if !f.secPend then (some f, s) else
  match s.secRead f.inPort f.raw f.tail with
  | .wait => (some f, s)
  | .clear => (some { f with secPend := false, raw := [], data := f.raw }, s.bump (CPH.IN_BYPASS f.inPort))
  | .drop c => (none, s.bump c)
  | .late sa => (none, s.saCount sa 4)
  | .go x =>
    let d := x.plain f.raw f.tail
    (some { f with secPend := false, secOff := x.off, secLen := x.len, sec := some x, icvWait := f.tail,
                   data := if f.tail then padTo (60 + x.len) d else d }, s)

/-- More octets of a frame that its SecY is checking, the last ones: its data takes them in clear, and the ICV result is awaited
(R247, R257). What the stream stages changed before stays; a short one is not padded yet. -/
def Frame.secTail (f : Frame) (rest : Bytes) : Frame :=
  match f.sec with
  | none => { f with data := f.data ++ rest, tail := true }
  | some x =>
    let raw := f.raw ++ rest
    let all := x.plain raw true
    let had := f.raw.length
    let d := if had ≤ all.length then f.data ++ all.drop had else f.data.take (f.data.length - (had - all.length))
    { f with data := d, raw := raw, tail := true, icvWait := true }

/-- A frame whose tail has come, padded to the least length where the device has changed its length (R142, R247). -/
def Frame.tailPad (f : Frame) : Frame := if f.cutThrough || f.sec.isSome then { f with data := padTo (60 + f.secLen) f.data } else f

/-- Does the ICV of a frame pass? -/
def Frame.icvOk (f : Frame) : Bool :=
  match f.sec with
  | none => true
  | some x =>
    let body := f.raw.drop (x.off + x.len)
    let n := body.length - 16
    !x.lost && gcmIcv x.key x.iv x.enc x.conf (f.raw.take (x.off + x.len)) (body.take n) == body.drop n

/-! ### Transmission (R247, R251 to R253) -/

/-- EXP: the octets that the SecY adds at an output (R247). -/
def State.expBytes (s : State) (o : Nat) : Nat :=
  if s.secured o then (if bitsOf (s.scW (8 * o) 0) 29 29 = 1 then 32 else 24) else 0

/-- Has an SA no PN left (R252)? -/
def State.pnGone (s : State) (sa : Nat) : Bool :=
  if s.xpn (sa / 32) then decide (2 ^ 64 - 1 ≤ s.nextPn sa) else decide (0xFFFFFFFF < s.nextPn sa)

/-- A PN event, once per SA until it is rewritten: 0 PN_THRESH, which PN_INFO records until it is cleared, 1 PN_EXHAUSTED (R253). -/
def State.pnEvent (s : State) (sa which : Nat) : State :=
  if s.cph.raised.contains (2 * sa + which) then s else
  let s := { s with cph := { s.cph with raised := s.cph.raised ++ [2 * sa + which] } }
  let s := if which ≠ 0 ∨ s.bit CPH.CPH_EVENT_PN_THRESH then s else s.set CPH.PN_INFO_SA sa
  s.raise (if which = 0 then CPH.CPH_EVENT_PN_THRESH else CPH.CPH_EVENT_PN_EXHAUSTED)

/-- After NEXT_PN of a transmit SA has moved (R253). -/
def State.pnMoved (s : State) (sa : Nat) : State :=
  let lo := (s.rd CPH.PN_THRESH_LO).toNat
  let th := if s.xpn (sa / 32) then (s.rd CPH.PN_THRESH_HI).toNat * 4294967296 + lo else lo
  let s := if th ≤ s.nextPn sa then s.pnEvent sa 0 else s
  if s.pnGone sa then s.pnEvent sa 1 else s

/-- How a copy leaves through the SecY of its output. -/
inductive SecOut where
  | clear
  /-- Discarded at egress. -/
  | gone
  | sec (x : SecTx)
  deriving DecidableEq, Repr

/-- The SecTAG of a copy, SL being 0 (R251). -/
def State.formTag (s : State) (sc an pn : Nat) : Bytes :=
  let w := s.scW sc 0
  let tci := bitsOf w 28 28 * 64 + bitsOf w 29 29 * 32 + bitsOf w 27 27 * 16 + bitsOf w 26 26 * 12 + an
  toBE 2 0x88E5 ++ [BitVec.ofNat 8 tci, 0] ++ toBE 4 pn ++ (if bitsOf w 29 29 = 1 then wordOctets [s.scW sc 1, s.scW sc 2] else [])

/-- A copy of frame bytes d leaves output o past its SecY, in clear (R248). -/
def State.outBypass (s : State) (o : Nat) (d : Bytes) : Bool := s.bypass o (be16 d (tagPlace d (s.clearTags o) 12))

/-- A copy of frame bytes d and a LENGTH reaches the SecY of output o: bypassed, discarded, or given a SecTAG and its PN (R247, R248,
R251, R252). -/
def State.secOut (s : State) (o : Nat) (d : Bytes) (len : Nat) : SecOut × State :=
  if !s.secured o then (.clear, s) else
  let at_ := tagPlace d (s.clearTags o) 12
  if s.outBypass o d then (.clear, s.bump (CPH.OUT_BYPASS o)) else
  if 9728 < len + s.expBytes o then (.gone, s.bump (CPH.OUT_TOO_LONG o)) else
  let sc := 8 * o
  let w := s.scW sc 0
  let an := bitsOf w 25 24
  let sa := 4 * sc + an
  if bitsOf w 31 31 = 0 ∨ !s.saLive sa ∨ s.pnGone sa then (.gone, s.bump (CPH.OUT_NO_SA o)) else
  let pn := s.nextPn sa
  let x : SecTx := { sa := sa, off := at_, tag := s.formTag sc an pn, key := s.saKey sa, iv := s.secIv o sc sa pn,
                     enc := bitsOf w 26 26 == 1, conf := if bitsOf w 26 26 = 1 then s.confOffset o else 0 }
  (.sec x, ((s.setNextPn sa (pn + 1)).saCount sa 6).pnMoved sa)

/-- The octets of a protected copy: SecTAG, secure data, and the ICV once the whole frame is there (R251). -/
def SecTx.stream (x : SecTx) (d : Bytes) (whole : Bool) : Bytes :=
  let body := d.drop x.off
  let front := d.take x.off ++ (if whole ∧ body.length < 48 then patch x.tag 3 (toBE 1 body.length) else x.tag)
  let text := gcmText x.key x.iv x.enc x.conf body
  front ++ text ++ (if whole then gcmIcv x.key x.iv x.enc x.conf front text else [])

end Sys2Proof.Machine
end

