-- ==== Sys2Proof/Machine/Slc.lean ====
section
/-! DEFINITION. Slc.lean: Sluice (chapter 05): parse walk, key, rule lookup, actions, zones, the slow path, versions and tables. -/
namespace Sys2Proof.Machine

/-- Table codes of Table 5.13. -/
def tRule : Nat := 0
def tFdb : Nat := 1
def tPortSet : Nat := 2
def tNode : Nat := 3
def tProfile : Nat := 4
def tPattern : Nat := 5
def tPort : Nat := 6
def tZone : Nat := 7
def tCtr : Nat := 8

/-- A word of a Sluice table. -/
def State.slcW (s : State) (tbl bank idx w : Nat) : Word := s.tw 4 tbl bank idx w

/-- Bits of a word of a port's configuration in the bank of a version (Table 5.9). -/
def State.portCfg (s : State) (v p w hi lo : Nat) : Nat := bitsOf (s.slcW tPort (v % 4) p w) hi lo

def State.verCur (s : State) : Nat := s.get SLC.VER_STATUS_VER_CUR
def State.isLive (s : State) (v : Nat) : Bool := bitsOf (word (s.get SLC.VER_STATUS_LIVE)) v v == 1

/-! ### The parse walk (R94 to R96) -/

/-- How a walk ends. -/
inductive Walk where
  | ok (p : Parse)
  | fail (cause node : Nat) (p : Parse)
  /-- A byte that it needs has not arrived yet. -/
  | more
  deriving DecidableEq, Repr

/-- PARSE_FLAGS bit of a header type, when it has a flag of its own (R96, Table 5.5). -/
def flagOf : Nat → Option Nat
  | 3 => some 2 | 4 => some 3 | 5 => some 4 | 6 => some 5 | 7 => some 15 | 9 => some 6 | 10 => some 7 | 11 => some 8
  | 12 => some 9 | 13 => some 10 | 14 => some 11 | 15 => some 12 | _ => none

def Parse.hasFlag (p : Parse) (b : Nat) : Bool := p.flags / 2 ^ b % 2 == 1
def Parse.setFlag (p : Parse) (b : Nat) : Parse := if p.hasFlag b then p else { p with flags := p.flags + 2 ^ b }

/-- PARSE_FLAGS on entering a node of a type (R96, Table 5.2). -/
def Parse.enter (p : Parse) (ty : Nat) : Parse :=
  if ty = 2 then (if p.hasFlag 0 then p.setFlag 1 else p.setFlag 0)
  else match flagOf ty with | some b => p.setFlag b | none => p

/-- A native check of Table 5.2 fails at offset o. -/
def nativeFail (ty : Nat) (p : Parse) (d : Bytes) (o : Nat) : Bool :=
  match ty with
  | 2 => p.innerTag.isSome
  | 5 => byteAt d o / 16 != 4 || decide (byteAt d o % 16 < 5)
  | 6 => byteAt d o / 16 != 6
  | 10 => decide (byteAt d (o + 12) / 16 < 5)
  | 13 => byteAt d (o + 12) != 1
  | 14 => byteAt d (o + 1) != 255 - byteAt d o
  | _ => false

/-- A fragment: IPV4 with MF or an offset, IPV6_FRAG with M or an offset (Table 5.2). -/
def isFrag (ty : Nat) (d : Bytes) (o : Nat) : Bool :=
  (ty == 5 && be16 d (o + 6) % 16384 != 0) || (ty == 8 && (be16 d (o + 2) / 8 != 0 || be16 d (o + 2) % 2 != 0))

/-- What a node records (R95, R96): layer slot, tags, selector, offsets; s is the selector before its mask. -/
def Parse.record (p : Parse) (w0 w2 : Word) (ty o len sel : Nat) (d : Bytes) : Parse :=
  let p := if bitsOf w0 22 22 = 1 then { p with slots := assocSet p.slots (bitsOf w0 25 23) o } else p
  let p := if bitsOf w2 12 12 = 1 then { p with profile := some (bitsOf w2 11 8) } else p
  let l2 := ty == 1 || ty == 2 || ty == 3 || ty == 4
  let p := if l2 then { p with l2End := o + len, typeSel := if p.ipSeen then p.typeSel else sel } else p
  let p := if ty == 1 || ty == 2 then { p with vlanEnd := o + len } else p
  match ty with
  | 2 =>
    if p.outerTag.isNone then { p with outerTag := some (be16 d o) }
    else if p.innerTag.isNone then { p with innerTag := some (be16 d o) } else p
  | 3 => { p with rtagOff := some o }
  | 5 =>
    let p := { p with ipSeen := true }
    let p := if byteAt d o % 16 > 5 then p.setFlag 14 else p
    if isFrag 5 d o then p.setFlag 13 else p
  | 6 => { p with ipSeen := true }
  | 8 => if isFrag 8 d o then p.setFlag 13 else p
  | 15 => { p with ptpOff := some o }
  | _ => p

/-- The next node that the transitions of a node name, or none for a normal end; `.error` for a failing DEF_ACT (R95). -/
def State.nextNode (s : State) (bank node sel : Nat) (w0 w2 : Word) : Except Unit (Option Nat) :=
  let m := sel &&& bitsOf w2 31 16
  let hit := (List.range 8).find? fun t =>
    let w := s.slcW tNode bank node (3 + t)
    bitsOf w 31 31 == 1 && bitsOf w 15 0 == m
  match hit with
  | some t => .ok (some (bitsOf (s.slcW tNode bank node (3 + t)) 21 16))
  | none => match bitsOf w2 14 13 with
    | 0 => .ok (some (bitsOf w0 21 16))
    | 1 => .ok none
    | _ => .error ()

/-- Bytes from a header's start that its native behaviour reads (Table 5.2). -/
def nativeNeed : Nat → Nat
  | 2 => 2 | 5 => 8 | 6 => 1 | 8 => 4 | 10 => 13 | 13 => 13 | 14 => 2 | _ => 0

/-- The walk from a node whose header starts at o; `hdrs` headers have been entered before it (R95, R96). -/
def State.walk (s : State) (bank depth : Nat) (d : Bytes) (tail : Bool) : Nat → Nat → Nat → Nat → Parse → Walk
  | 0, _, node, _, p => .fail 4 node p
  | fuel + 1, hdrs, node, o, p =>
    let w0 := s.slcW tNode bank node 0
    let w1 := s.slcW tNode bank node 1
    let w2 := s.slcW tNode bank node 2
    if bitsOf w0 31 31 = 0 then .fail 3 node p else
    let ty := bitsOf w0 30 26
    let p := p.enter ty
    let fOff := o + bitsOf w0 7 0
    let useF := bitsOf w1 9 9 == 1
    let len := bitsOf w0 15 8 + (if useF then ((be16 d fOff / 2 ^ bitsOf w1 15 12) &&& bitsOf w1 31 16) * 2 ^ bitsOf w1 11 10 else 0)
    let fromEnd := bitsOf w1 8 8 == 1
    let sOff := if fromEnd then o + len - bitsOf w1 7 0 else o + bitsOf w1 7 0
    let sLen := if bitsOf w2 15 15 = 1 then 2 else 1
    let lenKnown := !useF || decide (fOff + 2 ≤ depth)
    let fNeed := if useF then fOff + 2 else 0
    let sNeed := if fromEnd && !lenKnown then 0 else sOff + sLen
    let hNeed := max (if lenKnown then o + len else 0) (o + nativeNeed ty)
    let need := max (max hNeed sNeed) fNeed
    let bad := fun (cause : Nat) (p : Parse) => Walk.fail cause node { p with payload := o }
    if lenKnown && decide (d.length < fNeed) then (if tail then bad 1 p else .more) else
    if fromEnd && lenKnown && decide (o + len < bitsOf w1 7 0) then bad 1 p else
    if d.length < need then (if tail then bad 1 p else .more) else
    if depth < need then bad 2 p else
    let sel := if sLen = 2 then be16 d sOff else byteAt d sOff
    let nat_ := nativeFail ty p d o
    let p' := p.record w0 w2 ty o len sel d
    if 16 ≤ ty then bad 3 p else
    match (if isFrag ty d o then .ok none else s.nextNode bank node sel w0 w2 : Except Unit (Option Nat)) with
    | .error _ => bad 3 p'
    | .ok none => if nat_ then bad 5 p' else .ok { p' with payload := o + len }
    | .ok (some n) =>
      if bitsOf (s.slcW tNode bank n 0) 31 31 = 0 then bad 3 p'
      else if 24 ≤ hdrs + 1 then bad 4 p'
      else if nat_ then bad 5 p'
      else s.walk bank depth d tail fuel (hdrs + 1) n (o + len) p'

/-- The walk of a frame that entered on port p under version v. -/
def State.parse (s : State) (v p : Nat) (d : Bytes) (tail : Bool) : Walk :=
  s.walk (v % 4) (clampN 64 256 (s.portCfg v p 0 8 0)) d tail 25 0 (s.portCfg v p 1 13 8) 0 {}

/-! ### Key (R97 to R100, R121) -/

/-- A byte that extraction sees (R99). -/
def seen (d : Bytes) (i : Nat) : Nat := if 512 ≤ i then 0 else byteAt d i

/-- OUTER_TAG, or the port's default tag (Table 5.6). -/
def State.outerTag (s : State) (v inp : Nat) (p : Parse) : Nat :=
  match p.outerTag with
  | some t => t
  | none => s.portCfg v inp 1 2 0 * 8192 + s.portCfg v inp 1 27 16

/-- Compatibility pattern i matches (R121). -/
def State.patMatch (s : State) (v inp : Nat) (p : Parse) (d : Bytes) (i : Nat) : Bool :=
  let w := fun k => s.slcW tPattern (v % 4) i k
  let base := bitsOf (w 0) 30 27
  let start := if base = 8 then some 0 else if base < 8 then (p.slots.find? fun x => x.1 == base).map (·.2) else none
  match start with
  | none => false
  | some b =>
    bitsOf (w 0) 31 31 == 1 && bitsOf (w 9) inp inp == 1 &&
      (List.range (bitsOf (w 0) 4 0)).all fun k =>
        let pos := b + bitsOf (w 0) 23 16 + k
        let sh := 24 - 8 * (k % 4)
        let m := bitsOf (w (5 + k / 4)) (sh + 7) sh
        decide (pos < d.length) && decide (pos < 512) && (byteAt d pos &&& m == bitsOf (w (1 + k / 4)) (sh + 7) sh &&& m)

/-- Metadata word at offset 10: PAT_HIT and PAT_INDEX (R121). -/
def State.patWord (s : State) (v inp : Nat) (p : Parse) (d : Bytes) : Nat :=
  if s.portCfg v inp 1 7 7 = 0 then 0 else
  match (List.range 64).find? fun i => s.patMatch v inp p d i with
  | some i => 32768 + i
  | none => 0

/-- The metadata source (R100, Table 5.6). -/
def State.metadata (s : State) (v inp src : Nat) (p : Parse) (d : Bytes) : Bytes :=
  toBE 2 (s.outerTag v inp p) ++ toBE 2 (p.innerTag.getD 0) ++ toBE 2 p.typeSel ++ toBE 2 p.flags
    ++ toBE 2 (if inp = 15 then src * 256 else 0) ++ toBE 2 (s.patWord v inp p d) ++ zeros 4

/-- The sixteen bits of one extractor word (R99). -/
def extract (w : Word) (slots : List (Nat × Nat)) (meta_ d : Bytes) : Nat :=
  if bitsOf w 31 31 = 0 then 0 else
  let src := bitsOf w 30 27
  let off := bitsOf w 23 16
  let raw := if src = 8 then be16 meta_ off
    else match slots.find? fun x => x.1 == src with
      | some (_, b) => if src < 8 then seen d (b + off) * 256 + seen d (b + off + 1) else 0
      | none => 0
  raw &&& bitsOf w 15 0

/-- The 320-bit key with a profile (R97). -/
def State.keyOf (s : State) (v inp src prof : Nat) (p : Parse) (d : Bytes) : Nat :=
  let w0 := s.slcW tProfile (v % 4) prof 0
  let meta_ := s.metadata v inp src p d
  (List.range 19).foldl (fun k e => k + extract (s.slcW tProfile (v % 4) prof (1 + e)) p.slots meta_ d * 2 ^ (288 - 16 * e))
    (prof * 2 ^ 316 + (if bitsOf w0 29 29 = 1 then 0 else inp) * 2 ^ 312)

/-- Bytes up to which Sluice must have seen the frame: the extractors and, with COMPAT_EN, the patterns (R122). -/
def State.keyNeed (s : State) (v inp prof : Nat) (p : Parse) : Nat :=
  let ex := (List.range 19).foldl (fun m e =>
    let w := s.slcW tProfile (v % 4) prof (1 + e)
    if bitsOf w 31 31 = 0 then m else
    match p.slots.find? fun x => x.1 == bitsOf w 30 27 with
    | some (_, b) => max m (b + bitsOf w 23 16 + 2)
    | none => m) 0
  let pats := if s.portCfg v inp 1 7 7 = 0 then 0 else (List.range 64).foldl (fun m i =>
    let w0 := s.slcW tPattern (v % 4) i 0
    if bitsOf w0 31 31 = 0 ∨ bitsOf (s.slcW tPattern (v % 4) i 9) inp inp = 0 then m else
    match (if bitsOf w0 30 27 = 8 then some (8, 0) else p.slots.find? fun x => x.1 == bitsOf w0 30 27) with
    | some (_, b) => max m (b + bitsOf w0 23 16 + bitsOf w0 4 0)
    | none => m) 0
  min 512 (max ex pats)

/-! ### Rule table and forwarding database (R101 to R105) -/

/-- Candidate index of a rule key in a bank (R101). -/
def State.ruleCand (s : State) (key bank : Nat) : Nat :=
  bank * 8192 + crc32c (s.rd (SLC.SEED_RULE bank)).toNat (toBE 40 key) % 8192

/-- Key of a stored rule entry. -/
def State.ruleKey (s : State) (idx : Nat) : Nat :=
  (List.range 10).foldl (fun k w => k + (s.slcW tRule 0 idx w).toNat * 2 ^ (32 * w)) 0

/-- Entries that match a key in a version, lowest bank first (R103). -/
def State.ruleHits (s : State) (key v : Nat) : List Nat :=
  ((List.range 4).map fun b => s.ruleCand key b).filter fun i =>
    let c := s.slcW tRule 0 i 12
    bitsOf c 31 31 == 1 && bitsOf c v v == 1 && s.ruleKey i == key

/-- Candidate of {VID, MAC} in a bank of the forwarding database (R101, R105). -/
def State.fdbCand (s : State) (vid mac bank : Nat) : Nat :=
  bank * 4096 + crc32c (s.rd (SLC.SEED_FDB bank)).toNat (toBE 8 (vid * 2 ^ 48 + mac)) % 4096

/-- Entry that matches {VID, MAC}, lowest bank first. -/
def State.fdbHit (s : State) (vid mac : Nat) : Option Nat :=
  ((List.range 4).map fun b => s.fdbCand vid mac b).find? fun i =>
    bitsOf (s.slcW tFdb 0 i 2) 31 31 == 1 && bitsOf (s.slcW tFdb 0 i 1) 11 0 == vid
      && bitsOf (s.slcW tFdb 0 i 1) 31 16 == mac / 2 ^ 32 && (s.slcW tFdb 0 i 0).toNat == mac % 2 ^ 32

/-! ### The slow path (R112) -/

/-- Words of the slow-path header (Table 5.10). -/
def slowHeader (reason : Nat) (f : Frame) : List Word :=
  [word (reason * 16777216 + f.inPort * 1048576 + f.zone * 65536 + f.version * 8192 + f.tc * 1024 + f.failCause * 128),
   word (secOf f.ts % 4 * 1073741824 + nsOf f.ts),
   word (qnsOf f.ts * 1073741824 + f.len % 16384 * 65536 + (match f.ruleHit with | some i => 32768 + i | none => 0)),
   word (f.parse.flags * 65536 + f.parse.payload % 512)]

/-- What the stream stages and the tail change in a frame reaches its delivery's header: TC and LENGTH (R13, R129, R141, R142). -/
def State.slowFollow (s : State) (f : Frame) : State :=
  let fix := fun (h : List Word) => (h.set 0 (putBits (h.getD 0 0) 12 10 f.tc)).set 2 (putBits (h.getD 2 0) 29 16 (f.len % 16384))
  { s with slc := { s.slc with slow := s.slc.slow.map fun (e : SlowEntry) => if e.fid = f.fid then { e with hdr := fix e.hdr } else e } }

/-- SP_DEPTH as it acts. -/
def State.spDepth (s : State) : Nat := clampN 1 1024 (s.get SLC.SP_CFG_SP_DEPTH)

/-- A delivery is counted, by its reason (Table 5.12). -/
def State.countDelivery (s : State) (reason : Nat) : State := s.bump (if reason < 0xF0 then SLC.CPU_COPY_CNT else SLC.SLOW_PATH_CNT)

/-- A delivery to the control cores: into the queue with its header and counted, or dropped as a rank-yield drop (R10, R112); one of a
frame that is not verified yet is counted when it is (R259). Answers whether it entered. -/
def State.deliver (s : State) (reason : Nat) (f : Frame) : Bool × State :=
  if s.slc.slow.length < s.spDepth then
    (let t := { s with slc := { s.slc with slow := s.slc.slow ++ [SlowEntry.mk (slowHeader reason f) f.fid] } }
     (true, if f.verified then t.countDelivery reason else t))
  else (false, ((s.bump SLC.SP_DROP_CNT).raise SLC.SLC_EVENT_SP_FULL).yieldRank 4)

/-! ### Actions and copies (R108 to R115) -/

/-- Output p passes the zone check of ingress zone z under version v (R113). -/
def State.zonePass (s : State) (v z p : Nat) : Bool :=
  bitsOf (s.slcW tZone (v % 4) z 0) (s.portCfg v p 0 23 20) (s.portCfg v p 0 23 20) == 1

/-- Counts copies that the zone check removed (R113). -/
def State.zoneDrop (s : State) (z n : Nat) : State :=
  if n = 0 then s else (s.bumpBy (SLC.ZONE_DROP_CNT z) n).raise SLC.SLC_EVENT_ZONE_VIOL

/-- Ports of a mask. -/
def portsOf (m : Nat) : List Nat := (List.range 16).filter fun p => m / 2 ^ p % 2 == 1

/-- The port set's mask, without the input port when SRC_PRUNE is set (R106, R109). -/
def State.portSet (s : State) (idx inp : Nat) : Nat :=
  let w := s.slcW tPortSet 0 idx 0
  if bitsOf w 16 16 = 0 then 0 else
  let m := bitsOf w 15 0
  if bitsOf w 17 17 = 1 ∧ m / 2 ^ inp % 2 = 1 then m - 2 ^ inp else m

/-- The forward set of an action, with the count of a forwarding-database miss (R109). -/
def State.forwardSet (s : State) (a10 : Word) (f : Frame) : Nat × State :=
  let ps := s.portSet (bitsOf a10 29 20) f.inPort
  match bitsOf a10 31 30 with
  | 0 => (0, s)
  | 1 => (ps, s)
  | m =>
    match s.fdbHit (s.outerTag f.version f.inPort f.parse % 4096) (be48 f.data 0) with
    | some i => (bitsOf (s.slcW tFdb 0 i 2) 15 0, s)
    | none => (if m = 2 then ps else 0, s.bump SLC.FDB_MISS_CNT)

/-- Class, zone and stream of a frame under an action (R110). -/
def State.classify (s : State) (a11 : Word) (f : Frame) : Frame :=
  let pcp := s.outerTag f.version f.inPort f.parse / 8192
  { f with
    tc := if bitsOf a11 18 18 = 1 then bitsOf a11 17 15 else bitsOf (word (s.portCfg f.version f.inPort 5 23 0)) (3 * pcp + 2) (3 * pcp)
    zone := if bitsOf a11 14 14 = 1 then bitsOf a11 13 10 else s.portCfg f.version f.inPort 0 27 24
    stream := if bitsOf a11 31 31 = 1 then some (bitsOf a11 30 19) else none
    gwRoute := bitsOf a11 9 0 }

/-- Counts a hit or miss in a rule counter: the frame now, its bytes when its length is known. -/
def State.countRule (s : State) (en : Bool) (ctr : Nat) (f : Frame) : Frame × State :=
  if !en then (f, s) else
  let s := s.tbump 4 tCtr ctr 0 1
  if f.tail then (f, s.tbump 4 tCtr ctr 2 f.len) else ({ f with hitCtr := some ctr }, s)

/-- Applies an action: forward set, zone check, mirror, processor copy (R109 to R114). -/
def State.applyAction (s : State) (a10 a11 : Word) (f : Frame) : State :=
  let f := s.classify a11 f
  let (fwd, s) := s.forwardSet a10 f
  let os := bitsOf a10 5 5 == 1 && f.parse.hasFlag 12
  let pass := (portsOf fwd).filter fun p => s.zonePass f.version f.zone p
  let mp := bitsOf a10 18 15
  let wantMir := bitsOf a10 19 19 == 1
  let mirOk := bitsOf (s.rd SLC.MIRROR_ALLOW) mp mp == 1 || s.zonePass f.version f.zone mp
  let gone := (portsOf fwd).length - pass.length + (if wantMir && !mirOk then 1 else 0)
  let s := s.zoneDrop f.zone gone
  let ts := pass.map (fun p => { out := p, mirror := false, oneStep := os : Target })
    ++ (if wantMir && mirOk then [{ out := mp, mirror := true, oneStep := false : Target }] else [])
  let (cpu, s) := if bitsOf a10 14 14 = 1 then
      (let r := bitsOf a10 13 6; let x := s.deliver r f; (if x.1 then some r else none, x.2)) else (none, s)
  let f := { f with targets := ts, cpu := cpu, stage := if f.stream.isSome then .resolved else .passed }
  if ts = [] ∧ cpu = none then
    let s := if gone = 0 ∧ bitsOf a10 14 14 = 0 then s.bump SLC.RULE_DROP_CNT else s
    (s.putFrame f).dropUnqueued f.fid
  else s.putFrame f

/-- The miss action of the input port (R93, R111). -/
def State.missAction (s : State) (f : Frame) : State :=
  let v := f.version
  let (f, s) := (s.bump SLC.MISS_CNT).countRule (s.portCfg v f.inPort 4 30 30 == 1) (s.portCfg v f.inPort 4 27 16) f
  s.applyAction (s.slcW tPort (v % 4) f.inPort 2) (s.slcW tPort (v % 4) f.inPort 3) f

/-- A slow-path delivery for a hardware reason, in place of any copy (R93, R112). -/
def State.slowFrame (s : State) (reason : Nat) (f : Frame) : State :=
  let f := s.classify 0 f
  let x := s.deliver reason f
  if x.1 then x.2.putFrame { f with cpu := some reason, targets := [], stage := .passed } else (x.2.putFrame f).dropUnqueued f.fid

/-- FAIL_ACT of the input port (Table 5.9); a failure delivered on the slow path carries reason 0xF2 (assumption 21). -/
def State.failAct (s : State) (f : Frame) : State :=
  match s.portCfg f.version f.inPort 1 4 3 with
  | 1 => s.slowFrame 0xF2 f
  | 2 => s.missAction f
  | _ => (s.putFrame f).dropUnqueued f.fid

/-- The first uncorrectable error of a Sluice table (Table 5.12). -/
def State.slcEcc (s : State) (tbl idx : Nat) : State :=
  let s := if s.bit SLC.SLC_EVENT_ECC_UNCORR then s else s.wr SLC.ECC_INFO (word (tbl * 268435456 + idx))
  s.raise SLC.SLC_EVENT_ECC_UNCORR

/-- The lookup of a frame that walked well; `bad` names a bank whose candidate holds an uncorrectable error (R93, R103). -/
def State.lookupRule (s : State) (f : Frame) (prof : Nat) (bad : Option (Fin 4)) : State :=
  let v := f.version
  let w0 := s.slcW tProfile (v % 4) prof 0
  if bitsOf w0 31 31 = 0 ∨ bitsOf w0 30 30 = 0 then s.missAction f else
  let key := s.keyOf v f.inPort f.src prof f.parse f.bytes
  match bad with
  | some b => ((s.slcEcc tRule (s.ruleCand key b)).bump SLC.ECC_FAIL_CNT).failAct f
  | none =>
    match s.ruleHits key v with
    | [] => s.missAction f
    | i :: more =>
      let s := if more = [] then s else
        ((s.bump SLC.MULTI_HIT_CNT).set SLC.MULTI_INFO_INDEX i).raise SLC.SLC_EVENT_MULTI_HIT
      let c := s.slcW tRule 0 i 12
      let hit : Frame := { f with ruleHit := some i }
      let (f, s) := (s.bump SLC.HIT_CNT).countRule (bitsOf c 30 30 == 1) (bitsOf c 27 16) hit
      s.applyAction (s.slcW tRule 0 i 10) (s.slcW tRule 0 i 11) f

/-- The version whose interval holds an ingress timestamp (R11, R93, R119). -/
def State.versionAt (s : State) (ts : Nat) : Nat :=
  match s.slc.intervals.find? fun x => decide (x.2 ≤ ts) with
  | some x => x.1
  | none => (s.slc.intervals.getLastD (s.verCur, 0)).1

/-- Sluice walks and resolves a frame (R93); a frame of which it needs more bytes waits. -/
def State.sluice (s : State) (fid : Nat) (bad : Option (Fin 4)) : State :=
  match s.frame? fid with
  | none => s
  | some f =>
    if f.stage ≠ .arriving ∨ f.secPend ∨ (14 ≤ f.inPort ∧ (f.handle = none ∨ !f.tail)) ∨ !s.flowing then s else
    let v := s.versionAt f.ts
    if !s.isLive v then
      ((s.bump SLC.VER_LATE_DROP_CNT).raise SLC.SLC_EVENT_VER_LATE_DROP).dropUnqueued fid
    else
      let go := fun (s : State) (f : Frame) =>
        ((s.set (SLC.INFLIGHT_COUNT v) (s.get (SLC.INFLIGHT_COUNT v) + 1)).bump SLC.FRAMES_CNT, { f with version := v, counted := true })
      match s.parse v f.inPort f.bytes f.tail with
      | .more => s
      | .fail cause node p =>
        let (s, f) := go s { f with parse := p, failCause := cause }
        let s := ((s.bump SLC.PARSE_FAIL_CNT).wr SLC.PARSE_FAIL_INFO (word (node * 256 + f.inPort * 16 + cause))).raise SLC.SLC_EVENT_PARSE_FAIL
        s.failAct f
      | .ok p =>
        if p.hasFlag 13 && s.portCfg v f.inPort 1 6 6 == 1 then let (s, f) := go s { f with parse := p }; s.slowFrame 0xF0 f
        else if p.hasFlag 14 && s.portCfg v f.inPort 1 5 5 == 1 then let (s, f) := go s { f with parse := p }; s.slowFrame 0xF1 f
        else
          let prof := p.profile.getD (s.portCfg v f.inPort 0 19 16)
          if !f.tail ∧ f.data.length < s.keyNeed v f.inPort prof p then s else
          let (s, f) := go s { f with parse := p }
          s.lookupRule f prof bad

/-! ### Versions (R116 to R120) -/

/-- VER_STATUS follows the stage, the sweeps and the armed commit. -/
def State.verLevels (s : State) : State :=
  (s.setBit SLC.VER_STATUS_SWEEP_BUSY (s.slc.sweeps != [])).setBit SLC.VER_STATUS_COMMIT_ARMED s.slc.armed.isSome

def State.verRefuse (s : State) : State := s.raise SLC.SLC_EVENT_VER_REFUSED

/-- Sets or clears bit v of LIVE. -/
def State.setLive (s : State) (v : Nat) (b : Bool) : State :=
  let w := word (s.get SLC.VER_STATUS_LIVE)
  s.set SLC.VER_STATUS_LIVE (putBits w v v (if b then 1 else 0)).toNat

/-- The words of the banked tables of one bank, as (table and entry word, value). -/
def State.bankKeys (s : State) (bank : Nat) : List (Nat × Word) :=
  s.tabs.filter fun x =>
    let h := x.1 / 1048576
    decide (4 * 64 + tNode * 4 ≤ h) && decide (h < 4 * 64 + (tZone + 1) * 4) && h % 4 == bank

/-- Copies every banked table from one bank to another (R117). -/
def State.copyBank (s : State) (src dst : Nat) : State :=
  let s := s.each (s.bankKeys dst) fun s x => { s with tabs := Sparse.erase s.tabs x.1 }
  s.each (s.bankKeys src) fun s x =>
    let k := x.1 + dst * 1048576 - src * 1048576
    s.setTab k x.2

/-- Indices of the rule entries whose control word is not zero. -/
def State.ruleEntries (s : State) : List Nat :=
  (s.tabs.filter fun x => decide (x.1 / 1048576 = 4 * 64) && x.1 % 32 == 12).map fun x => x.1 % 1048576 / 32

/-- OPEN (R117). -/
def State.verOpen (s : State) : State :=
  if !s.released then s.verRefuse else
  let n := (s.verCur + 1) % 8
  if s.slc.stage.isSome ∨ s.isLive ((n + 4) % 8) ∨ s.slc.sweeps ≠ [] then s.verRefuse else
  let s := ((s.setLive n true).set SLC.VER_STATUS_VER_STAGE n).copyBank (s.verCur % 4) (n % 4)
  ({ s with slc := { s.slc with stage := some n, sweeps := [.open_] } }).verLevels

def execVersionOpen (ini : Initiator) (s : State) : Host.Outcome State Fault Refusal :=
  .next (s.writeAt ini SLC.VER_CMD fun s => s.verOpen)

/-- COMMIT_NOW (R119). -/
def State.verCommitNow (s : State) : State :=
  if !s.released ∨ !s.bit SLC.VER_STATUS_STAGE_OPEN then s.verRefuse
  else { s with slc := { s.slc with commitNow := true } }

def execVersionCommitNow (ini : Initiator) (s : State) : Host.Outcome State Fault Refusal :=
  .next (s.writeAt ini SLC.VER_CMD fun s => s.verCommitNow)

/-- COMMIT_T in quarter nanoseconds. -/
def State.commitT (s : State) : Nat :=
  instant (s.get SLC.COMMIT_T_SEC_HI_SEC_HI * 4294967296 + s.get SLC.COMMIT_T_SEC_LO_SEC_LO) (s.get SLC.COMMIT_T_NS_NS) 0

/-- Disarms a commit (R119). -/
def State.verDisarm (s : State) : State := ({ s with slc := { s.slc with armed := none, jumped := none } }).verLevels

/-- A step carries working time from q past the COMMIT_T of an armed commit: its interval will begin at the stepped time (R119). -/
def State.commitJump (s : State) (q : Nat) : State :=
  match s.slc.armed with
  | some (t, _) => if q < t ∧ t < s.nowQ then { s with slc := { s.slc with jumped := some s.nowQ } } else s
  | none => s

/-- A commit fires: the stage becomes current; its interval begins at `start`, or at the time to which a step carried working time past
it (R119). -/
def State.verFire (s : State) (start : Nat) : State :=
  match s.slc.stage with
  | none => s
  | some n =>
    let old := s.verCur
    let start := if s.slc.commitNow then start else s.slc.jumped.getD start
    let s := { s with slc := { s.slc with
      stage := none, armed := none, jumped := none, commitNow := false,
      intervals := ((n, start) :: s.slc.intervals).take 8,
      since := assocSet (s.slc.since.filter fun x => x.1 != n) old s.nowQ } }
    (((s.set SLC.VER_STATUS_VER_CUR n).setBit SLC.VER_STATUS_STAGE_OPEN false).verLevels).raise SLC.SLC_EVENT_COMMITTED

/-- The commit that falls due in this tick, with its T (R119). -/
def State.commitDue (s : State) : Option Nat :=
  if s.slc.commitNow then some s.nowQ else
  match s.slc.armed with
  | some (t, _) => if t ≤ s.nowQ then some t else none
  | none => none

/-- RETIRE_GUARD as it acts, quarter nanoseconds. -/
def State.retireGuard (s : State) : Nat := clampN 10 100000 (s.get SLC.RETIRE_GUARD_US) * usQ

/-- A version retires (R120). -/
def State.verRetire (s : State) (v : Nat) : State :=
  match s.slc.since.find? fun x => x.1 == v with
  | none => s
  | some (_, t) =>
    if v ≠ s.verCur ∧ s.isLive v ∧ s.slc.stage ≠ some v ∧ s.get (SLC.INFLIGHT_COUNT v) = 0 ∧ t + s.retireGuard ≤ s.nowQ then
      let s := (s.setLive v false).raise SLC.SLC_EVENT_RETIRED
      ({ s with slc := { s.slc with sweeps := s.slc.sweeps ++ [Sweep.retire v] } }).verLevels
    else s

def execVersionRetire (v : Fin 8) (s : State) : Host.Outcome State Fault Refusal := .next (s.verRetire v)

/-- The sweep that clears bit v, and VALID where the mask becomes zero (R118, R120). -/
def State.sweepClear (s : State) (v : Nat) : State :=
  s.each s.ruleEntries fun s i =>
    let c := putBits (s.slcW tRule 0 i 12) v v 0
    s.setTw 4 tRule 0 i 12 (if bitsOf c 7 0 = 0 then putBits c 31 31 0 else c)

/-- The sweep of OPEN: bit n equals bit VER_CUR (R117). -/
def State.sweepOpen (s : State) (n : Nat) : State :=
  s.each s.ruleEntries fun s i =>
    let c := s.slcW tRule 0 i 12
    s.setTw 4 tRule 0 i 12 (putBits c n n (bitsOf c s.verCur s.verCur))

/-- A retirement or ABANDON sweep ends (R118, R120). -/
def State.sweepDone (s : State) : State :=
  let fin := fun (v : Nat) =>
    let s := s.sweepClear v
    (({ s with slc := { s.slc with sweeps := s.slc.sweeps.tail } }).verLevels).raise SLC.SLC_EVENT_SWEEP_DONE
  match s.slc.sweeps.head? with
  | some (.retire v) => fin v
  | some (.abandon v) => fin v
  | _ => s

def execRuleSweepDone (s : State) : Host.Outcome State Fault Refusal := .next s.sweepDone

/-! ### Table commands (R104, R107, R108, R116 to R118, R396, R416) -/

/-- Words of a table's entry, and its number of entries. -/
def slcSize : Nat → Nat × Nat
  | 0 => (16, 32768) | 1 => (4, 16384) | 2 => (1, 1024) | 3 => (16, 64) | 4 => (20, 16) | 5 => (16, 64) | 6 => (8, 16)
  | 7 => (2, 17) | 8 => (4, 4096) | _ => (0, 0)

def slcBanked (tbl : Nat) : Bool := decide (3 ≤ tbl) && decide (tbl ≤ 7)

/-- Defined bits of word w of a table's entry (R3, Tables 5.1, 5.4, 5.7 to 5.9, 5.11, R105, R106, R113). -/
def slcMask (tbl idx w : Nat) : Word :=
  match tbl with
  | 0 => if w ≤ 9 then 0xFFFFFFFF else if w = 10 then 0xFFFFFFE0 else if w = 11 then 0xFFFFFFFF else if w = 12 then 0xCFFF00FF else 0
  | 1 => if w = 0 then 0xFFFFFFFF else if w = 1 then 0xFFFF0FFF else if w = 2 then 0x8000FFFF else 0
  | 2 => 0x0003FFFF
  | 3 => if w ≤ 1 then 0xFFFFFFFF else if w = 2 then 0xFFFFFF00 else if w ≤ 10 then 0x803FFFFF else 0
  | 4 => if w = 0 then 0xE0000000 else 0xF8FFFFFF
  | 5 => if w = 0 then 0xF8FF001F else if w ≤ 8 then 0xFFFFFFFF else if w = 9 then 0x0000FFFF else 0
  | 6 => if w = 0 then 0x0FFF01FF else if w = 1 then 0x0FFF3FFF else if w = 2 then 0xFFFFFFE0 else if w = 3 then 0xFFFFFFFF
         else if w = 4 then 0x4FFF0000 else if w = 5 then 0x00FFFFFF else 0
  | 7 => if idx = 16 then 0xFFFFFFFF else if w = 0 then 0x0000FFFF else 0
  | _ => 0

/-- TBL_STATUS after a command. -/
def State.slcResult (s : State) (res idx : Nat) : State := s.wr SLC.TBL_STATUS (word (res * 16777216 + idx))

/-- The window's words for a table. -/
def State.slcWin (s : State) (n : Nat) : List Word := s.window (SLC.TBL_DATA 0) n

/-- A WRITE with a field that is not legal (R3, R108, Table 5.11). -/
def slcBadEntry (tbl idx : Nat) (ws : List Word) : Bool :=
  ((List.range ws.length).any fun w => !legalWord (ws.getD w 0) (slcMask tbl idx w))
    || (tbl == 0 && decide (0xF0 ≤ bitsOf (ws.getD 10 0) 13 6)) || (tbl == 6 && decide (0xF0 ≤ bitsOf (ws.getD 2 0) 13 6))
    || (tbl == 5 && (bitsOf (ws.getD 0 0) 4 0 == 0 || decide (16 < bitsOf (ws.getD 0 0) 4 0)))

/-- A rule entry's validity and content for a version. -/
def ruleFor (v : Nat) (ws : List Word) : Option (List Word) :=
  let c := ws.getD 12 0
  if bitsOf c 31 31 = 1 ∧ bitsOf c v v = 1 then some (ws.take 12 ++ [c &&& 0x4FFF0000]) else none

/-- WRITE (R107, R108, R118). -/
def State.slcWrite (s : State) (tbl idx : Nat) : State :=
  let ws := s.slcWin (slcSize tbl).1
  if slcBadEntry tbl idx ws then s.slcResult 6 0
  else if tbl = tRule then
    let old := s.entry 4 tRule 0 idx 16
    if (List.range 8).any fun v => !s.isLive v && bitsOf (ws.getD 12 0) v v == 1 then s.slcResult 6 0
    else if (List.range 8).any fun v => s.isLive v && s.slc.stage != some v && ruleFor v old != ruleFor v ws then s.slcResult 1 0
    else (s.setEntry 4 tRule 0 idx 0 ws).slcResult 0 0
  else if slcBanked tbl then
    match s.slc.stage with
    | none => s.slcResult 5 0
    | some n => (s.setEntry 4 tbl (n % 4) idx 0 ws).slcResult 0 0
  else (s.setEntry 4 tbl 0 idx 0 ws).slcResult 0 0

/-- READ: the window takes the entry, its other words zero; a counter is returned and cleared (R396, Table 5.13). -/
def State.slcRead (s : State) (tbl bank idx : Nat) (ecc : EccState) : State :=
  if ecc = .uncorrectable then (s.slcEcc tbl idx).slcResult 7 0 else
  let n := (slcSize tbl).1
  let s := s.fillWindow (SLC.TBL_DATA 0) 32 (s.entry 4 tbl (if slcBanked tbl then bank else 0) idx n)
  let s := if tbl = tCtr then s.setEntry 4 tCtr 0 idx 0 [0, 0, 0, 0] else s
  s.slcResult 0 0

/-- Key of the window: rule words 0 to 9. -/
def State.winKey (s : State) : Nat := (List.range 10).foldl (fun k w => k + (s.rd (SLC.TBL_DATA w)).toNat * 2 ^ (32 * w)) 0
/-- VID and MAC of the window's words 0 and 1. -/
def State.winVid (s : State) : Nat := bitsOf (s.rd (SLC.TBL_DATA 1)) 11 0
def State.winMac (s : State) : Nat := bitsOf (s.rd (SLC.TBL_DATA 1)) 31 16 * 2 ^ 32 + (s.rd (SLC.TBL_DATA 0)).toNat

/-- HASH (R101, R416). -/
def State.slcHash (s : State) (tbl : Nat) : State :=
  (s.each (List.range 4) fun s b =>
    s.wr (SLC.TBL_HASH b) (word (if tbl = tRule then s.ruleCand s.winKey b else s.fdbCand s.winVid s.winMac b))).slcResult 0 0

/-- MOVE (R104). -/
def State.slcMove (s : State) (tbl idx dest : Nat) : State :=
  let valid := fun (i : Nat) => if tbl = tRule then bitsOf (s.slcW tRule 0 i 12) 31 31 == 1 else bitsOf (s.slcW tFdb 0 i 2) 31 31 == 1
  if !valid idx then s.slcResult 3 0 else
  let t := if tbl = tRule then s.ruleCand (s.ruleKey idx) dest
    else s.fdbCand (bitsOf (s.slcW tFdb 0 idx 1) 11 0) (bitsOf (s.slcW tFdb 0 idx 1) 31 16 * 2 ^ 32 + (s.slcW tFdb 0 idx 0).toNat) dest
  if valid t then s.slcResult 4 0 else
  let n := (slcSize tbl).1
  let e := s.entry 4 tbl 0 idx n
  ((s.setEntry 4 tbl 0 t 0 e).setEntry 4 tbl 0 idx 0 (List.replicate n 0)).slcResult 0 0

/-- LOOKUP (R103, R416). -/
def State.slcLookup (s : State) (tbl v : Nat) : State :=
  match (if tbl = tRule then (s.ruleHits s.winKey v).head? else s.fdbHit s.winVid s.winMac) with
  | some i => s.slcResult 0 i
  | none => s.slcResult 3 0

/-- The combinations of TABLE and OP (R416): 1 READ, 2 WRITE, 3 HASH, 4 MOVE, 5 LOOKUP. -/
def slcCombo (tbl op : Nat) : Bool :=
  if tbl ≤ 1 then decide (1 ≤ op) && decide (op ≤ 5) else if tbl ≤ 7 then op == 1 || op == 2 else tbl == 8 && op == 1

/-- Runs a table command. -/
def State.slcRun (s : State) (cmd : Word) (ecc : EccState) : State :=
  let tbl := bitsOf cmd 31 28
  let op := bitsOf cmd 27 24
  let idx := bitsOf cmd 15 0
  if !slcCombo tbl op then s.slcResult 8 0
  else if op ≠ 3 ∧ op ≠ 5 ∧ (slcSize tbl).2 ≤ idx then s.slcResult 2 0
  else match op with
    | 1 => s.slcRead tbl (bitsOf cmd 17 16) idx ecc
    | 2 => s.slcWrite tbl idx
    | 3 => s.slcHash tbl
    | 4 => s.slcMove tbl idx (bitsOf cmd 19 18)
    | _ => s.slcLookup tbl (bitsOf cmd 22 20)

/-- A command that stays BUSY until the OPEN sweep ends: any rule-table command, and a WRITE of a banked table (R117). -/
def State.slcHeld (s : State) (cmd : Word) : Bool :=
  s.slc.sweeps.head? == some Sweep.open_ && (bitsOf cmd 31 28 == tRule || (slcBanked (bitsOf cmd 31 28) && bitsOf cmd 27 24 == 2))

/-- A write of TBL_CMD. -/
def State.slcCmd (s : State) (cmd : Word) (ecc : EccState) : State :=
  if s.slcHeld cmd then
    ({ s with slc := { s.slc with waiting := s.slc.waiting ++ [cmd] } }).setBit SLC.TBL_STATUS_BUSY true
  else s.slcRun cmd ecc

def State.slcBusy (s : State) : Bool := s.bit SLC.TBL_STATUS_BUSY

/-- The write of TBL_CMD by an initiator (R397). -/
def State.slcTable (s : State) (ini : Initiator) (cmd : Word) (ecc : EccState) : State :=
  s.tableWrite ini 0 SLC.TBL_CMD s.slcBusy fun s => s.slcCmd cmd ecc

/-- A command word of one row, with that row's OP. -/
def withOp (cmd : Word) (op : Nat) : Word := putBits cmd 27 24 op

def execSlcTblRead (ini : Initiator) (cmd : Word) (ecc : EccState) (s : State) : Host.Outcome State Fault Refusal :=
  .next (s.slcTable ini (withOp cmd 1) ecc)
def execSlcTblWrite (ini : Initiator) (cmd : Word) (s : State) : Host.Outcome State Fault Refusal :=
  .next (s.slcTable ini (withOp cmd 2) .ok)
def execSlcTblHash (ini : Initiator) (cmd : Word) (s : State) : Host.Outcome State Fault Refusal :=
  .next (s.slcTable ini (withOp cmd 3) .ok)
def execSlcTblMove (ini : Initiator) (cmd : Word) (s : State) : Host.Outcome State Fault Refusal :=
  .next (s.slcTable ini (withOp cmd 4) .ok)
def execSlcTblLookup (ini : Initiator) (cmd : Word) (s : State) : Host.Outcome State Fault Refusal :=
  .next (s.slcTable ini (withOp cmd 5) .ok)

/-- The OPEN sweep ends: the masks carry over, STAGE_OPEN sets, and the table commands that waited run (R117). -/
def State.openSweepDone (s : State) : State :=
  match s.slc.stage, s.slc.sweeps with
  | some n, Sweep.open_ :: rest =>
    let s := s.sweepOpen n
    let ws := s.slc.waiting
    let s := { s with slc := { s.slc with sweeps := rest, waiting := [] } }
    let s := ((s.verLevels).setBit SLC.VER_STATUS_STAGE_OPEN true).raise SLC.SLC_EVENT_SWEEP_DONE
    s.each ws fun s c => s.slcRun c .ok
  | _, _ => s

def execOpenSweepDone (s : State) : Host.Outcome State Fault Refusal := .next s.openSweepDone

end Sys2Proof.Machine
end

