-- ==== Sys2Proof/Machine/Str.lean ====
section
/-! DEFINITION. Str.lean: stream contexts (chapter 06): size filter, stream gate, meter, sequence recovery and generation. -/
namespace Sys2Proof.Machine

/-- Table codes of Table 6.10. -/
def tCtx : Nat := 0
def tGate : Nat := 1
def tMeter : Nat := 2
def tRec : Nat := 3
def tGen : Nat := 4
def tStrCtr : Nat := 5
def tRecCtr : Nat := 6

/-- A word of a stream table, and bits of one. -/
def State.strW (s : State) (tbl idx w : Nat) : Word := s.tw 5 tbl 0 idx w
def State.strB (s : State) (tbl idx w hi lo : Nat) : Nat := bitsOf (s.strW tbl idx w) hi lo
def State.setStrW (s : State) (tbl idx w : Nat) (v : Word) : State := s.setTw 5 tbl 0 idx w v
/-- Counters of a context and of a recovery function, by their first word (Tables 6.6, 6.7). -/
def State.ctxCount (s : State) (c w : Nat) : State := s.tbump 5 tStrCtr c w 1
def State.recCount (s : State) (f w n : Nat) : State := s.tbump 5 tRecCtr f w n

/-- Queues a stream event (R145). -/
def State.strEvent (s : State) (cause port idx : Nat) : State :=
  if s.str.evq.length < 64 then
    ({ s with str := { s.str with evq := s.str.evq ++ [word (cause * 268435456 + port * 16777216 + idx)] } }).raise STR.STR_EVENT_QUEUED
  else s.raise STR.STR_EVENT_EVQ_OVF

/-- Queues a context's event when its EV_EN bit is set (R145). -/
def State.ctxEvent (s : State) (c cause port bit : Nat) : State :=
  if s.strB tCtx c 2 bit bit = 1 then s.strEvent cause port c else s

/-- Sets a latch of word 3, with its event when it was clear (R125). -/
def State.latch (s : State) (c bit cause port : Nat) : State :=
  if s.strB tCtx c 3 bit bit = 1 then s
  else (s.setStrW tCtx c 3 (putBits (s.strW tCtx c 3) bit bit 1)).ctxEvent c cause port bit

/-- A discard inside the stages: the frame goes no further (R123). -/
def State.strDrop (s : State) (f : Frame) : State := s.dropUnqueued f.fid

/-- H, the header bytes before the SDU without those of a SecTAG, and the SDU (R126, R247). -/
def Frame.h (f : Frame) : Nat := if f.secOff < f.parse.l2End then f.parse.l2End - f.secLen else f.parse.l2End
def Frame.sdu (f : Frame) : Nat := f.len - f.h - 4

/-! ### Stages -/

/-- What a stage answers: the frame goes on, or it has been discarded. -/
inductive StageEnd where
  | go (f : Frame) (s : State)
  | gone (s : State)

/-- The first uncorrectable error of a stream table (R123). -/
def State.strEcc (s : State) (tbl idx : Nat) : State :=
  let s := if s.bit STR.STR_EVENT_ECC_UNCORR then s else s.wr STR.ECC_INFO (word (tbl * 268435456 + idx))
  s.raise STR.STR_EVENT_ECC_UNCORR

/-- A stage whose table read shows an uncorrectable error discards the frame (R123); `bad` names that table. -/
def State.strRead? (s : State) (bad : Option (Fin 5)) (tbl idx : Nat) (f : Frame) (go : StageEnd) : StageEnd :=
  if bad.any fun (t : Fin 5) => t.val == tbl then .gone (((s.strEcc tbl idx).bump STR.ECC_DROP_CNT).strDrop f) else go

/-- The size filter (R126). -/
def State.sizeFilter (s : State) (c : Nat) (f : Frame) : StageEnd :=
  let drop := fun (s : State) => StageEnd.gone (((s.ctxCount c 4).bump STR.SDU_DROP_CNT).strDrop f)
  if s.strB tCtx c 3 0 0 = 1 then drop s
  else if s.strB tCtx c 0 30 30 = 1 ∧ s.strB tCtx c 0 13 0 < f.sdu then
    drop (if s.strB tCtx c 0 29 29 = 1 then s.latch c 0 1 f.inPort else s)
  else .go f s

/-- BASE of a stream gate in quarter nanoseconds. -/
def State.gateBase (s : State) (g : Nat) : Nat :=
  instant (s.strB tGate g 3 15 0 * 4294967296 + (s.strW tGate g 2).toNat) (s.strB tGate g 1 29 0) 0

/-- The window a timestamp falls into (R129). -/
def State.gateWindow (s : State) (g ti : Nat) : Option Nat :=
  let cyc := s.strB tGate g 0 28 0 * 8
  let x := (((ti : Int) - s.gateBase g).emod cyc).toNat
  (List.range 6).find? fun n =>
    s.strB tGate g (4 + 2 * n) 31 31 == 1 && decide (s.strB tGate g (4 + 2 * n) 28 0 * 8 ≤ x) && decide (x < s.strB tGate g (5 + 2 * n) 28 0 * 8)

/-- The stream gate; a latched context discards every frame until CLEAR_LATCH, and one that names a gate with VALID 0 discards it for
that (R123, R129). -/
def State.streamGate (s : State) (c : Nat) (f : Frame) (bad : Option (Fin 5)) : StageEnd :=
  let drop := fun (s : State) => StageEnd.gone (((s.ctxCount c 6).bump STR.GATE_DROP_CNT).strDrop f)
  let latched := s.strB tCtx c 3 1 1 = 1
  if s.strB tCtx c 0 28 28 = 0 then (if latched then drop s else .go f s) else
  let g := s.strB tCtx c 0 23 16
  s.strRead? bad tGate g f <|
  if s.strB tGate g 0 31 31 = 0 then .gone (((s.ctxCount c 6).bump STR.INVALID_DROP_CNT).strDrop f) else
  if latched then drop s else
  match s.gateWindow g f.ts with
  | some n => if s.strB tGate g (4 + 2 * n) 30 30 = 1 then .go { f with tc := s.strB tGate g (5 + 2 * n) 31 29 } s else .go f s
  | none => drop (if s.strB tCtx c 0 27 27 = 1 then s.latch c 1 2 f.inPort else s)

/-- Tc and Te of a meter, units of 2^-16 byte (Table 6.4). -/
def State.tc (s : State) (m : Nat) : Nat := s.strB tMeter m 5 3 0 * 4294967296 + (s.strW tMeter m 4).toNat
def State.te (s : State) (m : Nat) : Nat := s.strB tMeter m 7 3 0 * 4294967296 + (s.strW tMeter m 6).toNat
def State.setTc (s : State) (m v : Nat) : State := (s.setStrW tMeter m 4 (word v)).setStrW tMeter m 5 (word (v / 4294967296 % 16))
def State.setTe (s : State) (m v : Nat) : State := (s.setStrW tMeter m 6 (word v)).setStrW tMeter m 7 (word (v / 4294967296 % 16))

/-- Parameters in force: a meter written since the last refill keeps its old words 0 to 3 (R135). -/
def State.meterW (s : State) (m w : Nat) : Word :=
  match s.str.pend.find? fun p => p.idx == m with
  | some p => p.words.getD w 0
  | none => s.strW tMeter m w

/-- The meter (R123, R133). -/
def State.meterStage (s : State) (c : Nat) (f : Frame) (bad : Option (Fin 5)) : StageEnd :=
  if s.strB tCtx c 1 31 31 = 0 then .go f s else
  let m := s.strB tCtx c 1 27 16
  s.strRead? bad tMeter m f <|
  if s.strB tMeter m 0 31 31 = 0 then .gone (((s.ctxCount c 8).bump STR.INVALID_DROP_CNT).strDrop f) else
  let drop := fun (s : State) => StageEnd.gone (((s.ctxCount c 8).bump STR.METER_DROP_CNT).strDrop f)
  let need := f.len * 65536
  let dei := match f.parse.outerTag with | some t => t / 4096 % 2 | none => 0
  let yellowIn := bitsOf (s.meterW m 0) 30 30 == 1 && f.inPort != 15 && dei == 1
  if s.strB tCtx c 3 2 2 = 0 ∧ !yellowIn ∧ need ≤ s.tc m then .go { f with colour := 0, paid := some (m, 0) } (s.setTc m (s.tc m - need))
  else if s.strB tCtx c 3 2 2 = 0 ∧ need ≤ s.te m then
    let s := s.setTe m (s.te m - need)
    if s.strB tCtx c 1 30 30 = 1 then drop s else .go { f with colour := 1, paid := some (m, 1) } (s.ctxCount c 10)
  else drop (if s.strB tCtx c 1 29 29 = 1 then s.latch c 2 3 f.inPort else s)

/-- HISTORY of a recovery function. -/
def State.history (s : State) (r : Nat) : Nat := (s.strW tRec r 3).toNat * 4294967296 + (s.strW tRec r 2).toNat
def State.setHistory (s : State) (r h : Nat) : State := (s.setStrW tRec r 2 (word h)).setStrW tRec r 3 (word (h / 4294967296))
/-- Word 1: RECOV_SEQ, TAKE_ANY, FILLED. -/
def State.setRecov (s : State) (r seq : Nat) (any : Bool) (filled : Nat) : State :=
  s.setStrW tRec r 1 (word (seq * 65536 + (if any then 32768 else 0) + filled))

/-- The reset of a recovery function (R137, R139). -/
def State.recReset (s : State) (r : Nat) : State := (s.setRecov r (s.strB tRec r 1 31 16) true 0).setHistory r 0

/-- Vector and match recovery of a tagged frame: passes?, state (R138). -/
def State.recover (s : State) (r seq : Nat) (port c : Nat) : Bool × State :=
  let hl := s.strB tRec r 0 22 16
  let rs := s.strB tRec r 1 31 16
  let h := s.history r
  let filled := s.strB tRec r 1 6 0
  let d : Int := (BitVec.ofNat 16 (seq + 65536 - rs)).toInt
  let ooo := fun (s : State) => if d = 1 then s else s.recCount r 4 1
  if s.strB tRec r 1 15 15 = 1 then (true, ((s.setRecov r seq false 1).setHistory r 1).recCount r 0 1)
  else if s.strB tRec r 0 30 30 = 1 then
    if d = 0 then (false, s.recCount r 2 1) else (true, (ooo (s.setRecov r seq false filled)).recCount r 0 1)
  else if (hl : Int) ≤ d ∨ d ≤ -(hl : Int) then
    let s := s.recCount r 6 1
    (false, if s.strB tRec r 0 27 27 = 1 then s.strEvent 5 port c else s)
  else if d ≤ 0 then
    let i := (-d).toNat
    if h / 2 ^ i % 2 = 1 then (false, s.recCount r 2 1)
    else (true, ((s.setHistory r (h + 2 ^ i)).recCount r 4 1).recCount r 0 1)
  else
    let k := d.toNat
    let lost := ((List.range hl).filter fun i => decide (hl ≤ i + k) && decide (i < filled) && h / 2 ^ i % 2 == 0).length
    let s := s.recCount r 8 lost
    let s := (s.setHistory r ((h * 2 ^ k + 1) % 2 ^ hl)).setRecov r seq false (min hl (filled + k))
    (true, (ooo s).recCount r 0 1)

/-- Removes n bytes at offset i. -/
def cutBytes (d : Bytes) (i n : Nat) : Bytes := d.take i ++ d.drop (i + n)

/-- The R-TAG is removed (R142): the six bytes of its EtherType, reserved field and number. -/
def Frame.popRtag (f : Frame) : Frame :=
  match f.parse.rtagOff with
  | none => f
  | some o =>
    let d := cutBytes f.data (o - 2) 6
    let len := max 64 (f.len - 6)
    { f with data := if f.tail then padTo (60 + f.secLen) d else d, len := len, shift := f.shift - 6, secOff := if o ≤ f.secOff then f.secOff - 6 else f.secOff,
             parse := { f.parse with rtagOff := none, l2End := f.parse.l2End - 6,
                                     ptpOff := f.parse.ptpOff.map fun p => if o ≤ p then p - 6 else p } }

/-- The R-TAG carries a number: rewritten in place, or inserted (R141). -/
def Frame.pushRtag (f : Frame) (seq : Nat) : Frame :=
  match f.parse.rtagOff with
  | some o => { f with data := patch f.data (o + 2) (toBE 2 seq) }
  | none =>
    let i := max 14 f.parse.vlanEnd - 2
    { f with data := f.data.take i ++ (toBE 2 0xF1C1 ++ toBE 2 0 ++ toBE 2 seq) ++ f.data.drop i, len := f.len + 6, shift := f.shift + 6,
             secOff := if i ≤ f.secOff then f.secOff + 6 else f.secOff,
             parse := { f.parse with l2End := f.parse.l2End + 6, ptpOff := f.parse.ptpOff.map fun p => if i ≤ p then p + 6 else p } }

/-- A frame has passed a recovery function: its reset timer starts over (R139). -/
def State.recPass (s : State) (r : Nat) : State := { s with str := { s.str with passAt := assocSet s.str.passAt r s.nowQ } }

/-- Sequence recovery (R123, R136, R138, R142). -/
def State.recoveryStage (s : State) (c : Nat) (f : Frame) (bad : Option (Fin 5)) : StageEnd :=
  let mode := s.strB tCtx c 1 15 14
  if mode < 2 then .go f s else
  let r := s.strB tCtx c 2 31 22
  s.strRead? bad tRec r f <|
  if s.strB tRec r 0 31 31 = 0 then .gone (((s.ctxCount c 12).bump STR.INVALID_DROP_CNT).strDrop f) else
  let drop := fun (s : State) => StageEnd.gone (((s.ctxCount c 12).bump STR.SEQ_DROP_CNT).strDrop f)
  match f.parse.rtagOff with
  | none =>
    let s := s.recCount r 10 1
    if s.strB tRec r 0 29 29 = 1 then .go f ((s.recCount r 0 1).recPass r) else drop s
  | some o =>
    let seq := be16 f.data (o + 2)
    match s.recover r seq f.inPort c with
    | (false, s) => drop s
    | (true, s) =>
      let f := { f with recov := some (r, seq) }
      .go (if mode = 2 ∧ s.strB tCtx c 1 13 13 = 1 then f.popRtag else f) (s.recPass r)

/-- Sequence generation (R141). -/
def State.generateStage (s : State) (c : Nat) (f : Frame) (bad : Option (Fin 5)) : StageEnd :=
  let mode := s.strB tCtx c 1 15 14
  if mode = 0 ∨ mode = 2 then .go f s else
  let g := s.strB tCtx c 1 9 0
  let w := s.strW tGen g 0
  s.strRead? bad tGen g f <|
  if bitsOf w 31 31 = 0 then .go f (s.ctxCount c 12)
  else .go (f.pushRtag (bitsOf w 15 0)) (s.setStrW tGen g 0 (putBits w 15 0 (bitsOf w 15 0 + 1)))

/-- The frame meets conditions 1, 2 and 4 of R77, and condition 3 at one output at least. -/
def State.canCutThrough (s : State) (f : Frame) (c : Nat) : Bool :=
  decide (f.inPort < 14) && !f.tail && s.bit (MAC.MAC_CFG_CT_EN f.inPort) && s.strB tCtx c 0 31 31 == 1 && s.strB tCtx c 0 30 30 == 1
    && (!s.secured f.inPort || s.strB tCtx c 0 26 26 == 1) && f.targets.any fun t => s.fastEnough f.inPort t.out f.sec.isSome

/-- The stages run over a frame whose LENGTH is set (R123). -/
def State.runStages (s : State) (c : Nat) (f : Frame) (bad : Option (Fin 5)) : State :=
  let s := (s.bump STR.STR_FRAMES_CNT).ctxCount c 0
  let ends : StageEnd := s.strRead? bad tCtx c f <|
    if s.strB tCtx c 0 31 31 = 0 then .gone ((s.bump STR.INVALID_DROP_CNT).strDrop f) else s.sizeFilter c f
  match ends with
  | .gone s => s
  | .go f s => match s.streamGate c f bad with
    | .gone s => s
    | .go f s => match s.meterStage c f bad with
      | .gone s => s
      | .go f s => match s.recoveryStage c f bad with
        | .gone s => s
        | .go f s => match s.generateStage c f bad with
          | .gone s => s
          | .go f s => (((s.putFrame { f with stage := .passed }).slowFollow f).bump STR.STR_PASS_CNT).ctxCount c 2

/-- The SecY still checks the frame: its ICV result is not known (R258). -/
def State.icvOpen (s : State) (fid : Nat) : Bool := (s.frame? fid).any fun f => !f.secPend && !f.verified

/-- The frame has been resolved for a stream that is opted in to forward-before-verify, and goes cut-through (R77, R143). -/
def State.optedIn (s : State) (fid : Nat) : Bool :=
  (s.frame? fid).any fun f => f.stage == .resolved && f.stream.any (s.canCutThrough f)

/-- SLUICE_RESOLVE: a frame that its SecY still checks is resolved before the result only when its stream is opted in to
forward-before-verify; any other waits for its ICV (R93, R258). -/
def State.sluiceResolve (s : State) (fid : Nat) (bad : Option (Fin 4)) : State :=
  let t := s.sluice fid bad
  if s.icvOpen fid && !t.optedIn fid then s else t

def execSluiceResolve (fid : Nat) (bad : Option (Fin 4)) (s : State) : Host.Outcome State Fault Refusal :=
  .next ((s.sluiceResolve fid bad).admitInternal fid)

/-- The stages act on a frame: a cut-through frame at once, on LENGTH under R13; any other when its tail has arrived well, and on
a secured port when its ICV has verified (R124). -/
def State.streamStages (s : State) (fid : Nat) (bad : Option (Fin 5)) : State :=
  match s.frame? fid with
  | none => s
  | some f =>
    match f.stage, f.stream with
    | .resolved, some c =>
      if s.stalled then s
      else if s.canCutThrough f c then
        let m := f.h + s.strB tCtx c 0 13 0 + 4
        s.runStages c { f with cutThrough := true, len := clampN 64 9728 m, lenIn := clampN 64 9728 m, sduEnd := m,
                               unverified := s.secured f.inPort && f.sec.isSome } bad
      else if f.tail ∧ !f.icvWait then s.runStages c f bad
      else s
    | _, _ => s

def execStreamStages (fid : Nat) (bad : Option (Fin 5)) (s : State) : Host.Outcome State Fault Refusal :=
  .next ((s.streamStages fid bad).admitInternal fid)

/-! ### What the tail and a late failure change (R127, R134, R140) -/

/-- The tail of a metered cut-through frame has come: what its true length, at least 64, falls short of the LENGTH charged returns to
the bucket that paid; both count before the R-TAG change (R134, R142). -/
def State.refund (s : State) (f : Frame) : State :=
  match f.paid with
  | some (m, b) =>
    let back := (f.lenIn - max 64 (f.octetsIn + 4)) * 65536
    if b = 0 then s.setTc m (min (bitsOf (s.meterW m 2) 19 0 * 65536) (s.tc m + back))
    else s.setTe m (min (bitsOf (s.meterW m 3) 19 0 * 65536) (s.te m + back))
  | none => s

/-- A passed frame failed later: the function clears its history bit and counts UNDONE (R140). -/
def State.undoRecovery (s : State) (f : Frame) : State :=
  match f.recov with
  | some (r, seq) =>
    let d := (s.strB tRec r 1 31 16 + 65536 - seq) % 65536
    let s := if d < s.strB tRec r 0 22 16 ∧ s.history r / 2 ^ d % 2 = 1 then s.setHistory r (s.history r - 2 ^ d) else s
    s.recCount r 14 1
  | none => s

/-- The tail of a cut-through frame shows an SDU above MAX_SDU: the context's counts and latch (R126, R127). -/
def State.lateOversize (s : State) (f : Frame) : State :=
  match f.stream with
  | some c =>
    let s := (s.ctxCount c 4).bump STR.SDU_DROP_CNT
    if s.strB tCtx c 0 29 29 = 1 then s.latch c 0 1 f.inPort else s
  | none => s

/-! ### Refill and timers -/

/-- Refill of one meter (R132). -/
def State.refillOne (s : State) (m : Nat) : State :=
  let w0 := s.strW tMeter m 0
  let cbs := s.strB tMeter m 2 19 0 * 65536
  let ebs := s.strB tMeter m 3 19 0 * 65536
  let tc := min cbs (s.tc m)
  let te := min ebs (s.te m)
  let full := tc + bitsOf w0 23 0
  let spare := full - cbs
  (s.setTc m (min cbs full)).setTe m (min ebs (te + s.strB tMeter m 1 23 0 + (if bitsOf w0 29 29 = 1 then spare else 0)))

/-- Indices of the entries of a stream table whose word 0 has VALID set. -/
def State.strValid (s : State) (tbl : Nat) : List Nat :=
  (s.tabs.filter fun x => decide (x.1 / 1048576 = (5 * 16 + tbl) * 4) && x.1 % 32 == 0 && bitsOf x.2 31 31 == 1).map fun x => x.1 % 1048576 / 32

/-- The refill of every valid meter, once in 32 ticks of the time base; a written meter takes its new parameters and is clamped first
(R132, R135). -/
def State.meterRefill (s : State) : State :=
  if s.stalled ∨ s.str.grid = s.tim.ticks / 32 then s else
  let s := { s with str := { s.str with pend := [], grid := s.tim.ticks / 32 } }
  s.each (s.strValid tMeter) fun s m => s.refillOne m

def execMeterRefill (s : State) : Host.Outcome State Fault Refusal := .next s.meterRefill

/-- No frame has passed for RESET_MS (R139). -/
def State.recoveryTimeout (s : State) (r : Nat) : State :=
  if s.strB tRec r 0 31 31 = 1 ∧ s.strB tRec r 1 15 15 = 0 ∧ assocD s.str.passAt r 0 + max 1 (s.strB tRec r 0 15 0) * msQ ≤ s.nowQ then
    let s := (s.recReset r).recCount r 12 1
    if s.strB tRec r 0 26 26 = 1 then s.strEvent 6 0 r else s
  else s

def execRecoveryTimeout (f : Fin 1024) (s : State) : Host.Outcome State Fault Refusal := .next (s.recoveryTimeout f)

/-! ### Tables (R125, R128, R131, R137, R141, R145, R418) -/

def strSize : Nat → Nat × Nat
  | 0 => (4, 4096) | 1 => (16, 256) | 2 => (8, 4096) | 3 => (8, 1024) | 4 => (1, 1024) | 5 => (16, 4096) | 6 => (16, 1024) | _ => (0, 0)

/-- Defined bits of the words that a WRITE takes; words that are state are ignored (R125, R131, R137). -/
def strMask (tbl w : Nat) : Word :=
  match tbl with
  | 0 => if w = 0 then 0xFCFF3FFF else if w = 1 then 0xEFFFE3FF else if w = 2 then 0xFFC0000F else 0xFFFFFFFF
  | 1 => if w = 0 then 0x9FFFFFFF else if w = 1 then 0x3FFFFFFF else if w = 2 then 0xFFFFFFFF else if w = 3 then 0xFFFF
         else if w % 2 = 0 then 0xDFFFFFFF else 0xFFFFFFFF
  | 2 => if w = 0 then 0xF0FFFFFF else if w = 1 then 0x00FFFFFF else if w ≤ 3 then 0x000FFFFF else 0xFFFFFFFF
  | 3 => if w = 0 then 0xFC7FFFFF else if w ≤ 3 then 0xFFFFFFFF else 0
  | 4 => 0xC000FFFF
  | _ => 0

/-- A stream gate's cycle and windows (R128). -/
def gateLegal (ws : List Word) : Bool :=
  let cyc := bitsOf (ws.getD 0 0) 28 0
  let win := (List.range 6).filterMap fun n =>
    if bitsOf (ws.getD (4 + 2 * n) 0) 31 31 = 1 then some (bitsOf (ws.getD (4 + 2 * n) 0) 28 0, bitsOf (ws.getD (5 + 2 * n) 0) 28 0, n) else none
  decide (2 ≤ cyc) && decide (cyc ≤ 500000000) && (win.all fun w => decide (w.1 < w.2.1) && decide (w.2.1 ≤ cyc))
    && win.all fun a => win.all fun b => a.2.2 == b.2.2 || decide (a.2.1 ≤ b.1) || decide (b.2.1 ≤ a.1)

/-- Contents of an entry that a WRITE leaves with VALID 1 (R418). -/
def strLegal (tbl : Nat) (ws : List Word) : Bool :=
  bitsOf (ws.getD 0 0) 31 31 == 0 ||
    match tbl with
    | 0 => decide (bitsOf (ws.getD 0 0) 13 0 ≤ 9216)
    | 1 => gateLegal ws
    | 3 => decide (2 ≤ bitsOf (ws.getD 0 0) 22 16) && decide (bitsOf (ws.getD 0 0) 22 16 ≤ 64)
    | _ => true

def State.strResult (s : State) (res : Nat) : State := s.wr STR.TBL_STATUS (word (res * 16777216))

/-- WRITE of a legal entry. -/
def State.strStore (s : State) (tbl idx : Nat) (ws : List Word) : State :=
  let was := s.strB tbl idx 0 31 31 == 1
  let rises := !was && bitsOf (ws.getD 0 0) 31 31 == 1
  match tbl with
  | 0 =>
    let s := s.setEntry 5 tCtx 0 idx 0 (ws.take 3)
    if rises then s.setStrW tCtx idx 3 0 else s
  | 2 =>
    let keeps := was && bitsOf (ws.getD 0 0) 31 31 == 1
    let pend := if !keeps then s.str.pend.filter fun p => p.idx != idx
      else if s.str.pend.any fun p => p.idx == idx then s.str.pend
      else { idx := idx, words := s.entry 5 tMeter 0 idx 4 } :: s.str.pend
    let s := { s with str := { s.str with pend := pend } }
    let s := s.setEntry 5 tMeter 0 idx 0 (ws.take 4)
    if rises then (s.setTc idx (bitsOf (ws.getD 2 0) 19 0 * 65536)).setTe idx (bitsOf (ws.getD 3 0) 19 0 * 65536) else s
  | 3 =>
    let s := s.setStrW tRec idx 0 (ws.getD 0 0)
    if rises then s.recReset idx else s
  | _ => s.setEntry 5 tbl 0 idx 0 ws

def State.strWrite (s : State) (tbl idx : Nat) : State :=
  let ws := s.window (STR.TBL_DATA 0) (strSize tbl).1
  if ((List.range ws.length).any fun w => !legalWord (ws.getD w 0) (strMask tbl w)) || !strLegal tbl ws then s.strResult 6
  else (s.strStore tbl idx ws).strResult 0

/-- READ; counters are returned and cleared (R145). -/
def State.strRead (s : State) (tbl idx : Nat) (ecc : EccState) : State :=
  if ecc = .uncorrectable then (s.strEcc tbl idx).strResult 7 else
  let n := (strSize tbl).1
  let s := s.fillWindow (STR.TBL_DATA 0) 16 (s.entry 5 tbl 0 idx n)
  (if 5 ≤ tbl then s.setEntry 5 tbl 0 idx 0 (List.replicate 16 0) else s).strResult 0

/-- OPs that a TABLE accepts (Table 6.10): 1 READ, 2 WRITE, 3 CLEAR_LATCH, 4 FILL, 5 RESET. -/
def strCombo (tbl op : Nat) : Bool :=
  (op == 1 && decide (tbl ≤ 6)) || (op == 2 && decide (tbl ≤ 4)) || (op == 3 && tbl == 0) || (op == 4 && tbl == 2) || (op == 5 && tbl == 3)

def State.strRun (s : State) (cmd : Word) (ecc : EccState) : State :=
  let tbl := bitsOf cmd 31 28
  let op := bitsOf cmd 27 24
  let idx := bitsOf cmd 11 0
  if !strCombo tbl op then s.strResult 8
  else if (strSize tbl).2 ≤ idx then s.strResult 2
  else match op with
    | 1 => s.strRead tbl idx ecc
    | 2 => s.strWrite tbl idx
    | 3 => (s.setStrW tCtx idx 3 0).strResult 0
    | 4 =>
      let s := if s.strB tMeter idx 0 31 31 = 1 then
        (s.setTc idx (bitsOf (s.meterW idx 2) 19 0 * 65536)).setTe idx (bitsOf (s.meterW idx 3) 19 0 * 65536) else s
      s.strResult 0
    | _ => (if s.strB tRec idx 0 31 31 = 1 then s.recReset idx else s).strResult 0

/-- The write of TBL_CMD by an initiator (R397). -/
def State.strTable (s : State) (ini : Initiator) (cmd : Word) (ecc : EccState) : State :=
  s.tableWrite ini 1 STR.TBL_CMD false fun s => s.strRun cmd ecc

def execStrTblRead (ini : Initiator) (cmd : Word) (ecc : EccState) (s : State) : Host.Outcome State Fault Refusal :=
  .next (s.strTable ini (withOp cmd 1) ecc)
def execStrTblWrite (ini : Initiator) (cmd : Word) (s : State) : Host.Outcome State Fault Refusal :=
  .next (s.strTable ini (withOp cmd 2) .ok)
def execClearLatch (ini : Initiator) (cmd : Word) (s : State) : Host.Outcome State Fault Refusal :=
  .next (s.strTable ini (withOp cmd 3) .ok)
def execFill (ini : Initiator) (cmd : Word) (s : State) : Host.Outcome State Fault Refusal :=
  .next (s.strTable ini (withOp cmd 4) .ok)
def execRecReset (ini : Initiator) (cmd : Word) (s : State) : Host.Outcome State Fault Refusal :=
  .next (s.strTable ini (withOp cmd 5) .ok)

/-- The read of EVQ_DATA removes the head entry (R145). -/
def State.evqPop (s : State) : Word × State := (s.str.evq.headD 0, { s with str := { s.str with evq := s.str.evq.tail } })

def execStrEvqRead (ini : Initiator) (s : State) : Host.Outcome State Fault Refusal :=
  .next (s.readAt ini STR.EVQ_DATA fun s => s.evqPop)

end Sys2Proof.Machine
end

