-- ==== Sys2Proof/Machine/Tim.lean ====
section
/-! DEFINITION. Tim.lean: network time (chapter 02): steering, the two trackers, selection, alignment, holdover, the one-step
engine and the last-tagged-transmit records. What moves at a step of working time stands in Reposition.lean. -/
namespace Sys2Proof.Machine

/-- 2^-32 ns and 2^-16 ns per nanosecond, and one DOM_OFF register unit (2^-16 ns) in units of 2^-72 ns. -/
def frac32 : Int := 4294967296
def frac16 : Int := 65536
def offUnit : Int := 2 ^ 56

/-- The 64 bits of seconds wrap (R24). -/
def wtWrap : Nat := 18446744073709551616 * 1000000000 * 4294967296

/-- One tracker. -/
def State.dom (s : State) (d : Nat) : Tracker := if d = 0 then s.tim.dom0 else s.tim.dom1
def State.setDom (s : State) (d : Nat) (t : Tracker) : State :=
  { s with tim := if d = 0 then { s.tim with dom0 := t } else { s.tim with dom1 := t } }

/-- DOM_OFF in register units, rounded down (R34). -/
def Tracker.off16 (t : Tracker) : Int := t.off.fdiv offUnit

/-- 1 s: 5 x 10^8 ticks. -/
def revertTicks : Nat := 500000000

/-- RX_TIMEOUT x 2^LOG_INTERVAL seconds have passed since the tracker's latest record, RX_TIMEOUT 0 acting as 1 (R37): counted in
ticks, 5 x 10^8 a second; at the window's end the tracker is invalid, as in the chapter's example. -/
def State.receiptOver (s : State) (d : Nat) : Bool :=
  let t := s.dom d
  let n := max 1 (s.get (TIM.DOM_CFG_RX_TIMEOUT d)) * revertTicks
  let e := t.logInt.toInt
  if 0 ≤ e then decide (n * 2 ^ e.toNat ≤ t.age) else decide (n ≤ t.age * 2 ^ (-e).toNat)

/-- Valid: ENABLE, ACCEPT, and a record within the receipt window, as RX_TIMEOUT now gives it (R37). -/
def State.domValid (s : State) (d : Nat) : Bool :=
  s.bit (TIM.DOM_CFG_ENABLE d) && s.bit (TIM.DOM_CFG_ACCEPT d) && (s.dom d).fresh && !s.receiptOver d

/-- The receipt timeout of tracker d has run out: it has completed a record, and none within the window (R37). -/
def State.timedOut (s : State) (d : Nat) : Bool := (s.dom d).fresh && s.receiptOver d

/-- The status bits follow validity and the receipt timeouts (Tables 2.6, 2.10). -/
def State.timLevels (s : State) : State :=
  let v0 := s.domValid 0
  let v1 := s.domValid 1
  let o0 := s.timedOut 0
  let o1 := s.timedOut 1
  (((((s.setBit (TIM.DOM_STATUS_VALID 0) v0).setBit (TIM.DOM_STATUS_VALID 1) v1).setBit TIM.TIM_STATUS_DOM0_VALID v0).setBit
    TIM.TIM_STATUS_DOM1_VALID v1).setBit (TIM.DOM_STATUS_TIMEOUT 0) o0).setBit (TIM.DOM_STATUS_TIMEOUT 1) o1

/-- DOM_OFF after an addition: within the 64 bits of the register and the fraction below it; what a sum outside them leaves is a free
value (R34, DESIGN CHOICE, assumption 117). -/
def offFit (x : Int) : Int := if x = satS 120 x then x else (Config.domOffOver x).toInt

/-- Both trackers change so that no domain time moves: `phase` (2^-32 ns) was applied to working time (R34). -/
def Tracker.steer (t : Tracker) (phase : Int) : Tracker := { t with off := offFit (t.off - phase * 2 ^ 40) }

/-- The increment changed by d units of 2^-32 ns: DOM_RATE changes by -d x 2^7, kept to 32 bits (R34, assumption 13). -/
def Tracker.rated (t : Tracker) (d : Int) : Tracker := { t with rate := satS 32 (t.rate - d * 128) }

def Tim.steer (t : Tim) (phase : Int) : Tim := { t with dom0 := t.dom0.steer phase, dom1 := t.dom1.steer phase }
def Tim.newIncr (t : Tim) (i : Int) : Tim :=
  { t with incr := i, dom0 := t.dom0.rated (i - t.incr), dom1 := t.dom1.rated (i - t.incr) }

/-! ### Selection, alignment and holdover (R38 to R40) -/

/-- Alignment towards domain d starts, or starts anew (R39). The ramp's total is DOM_RATE_d of this tick: what an increment that has been
written and is not yet in force changes in DOM_RATE_d is left after the ramp (DESIGN CHOICE, assumption 145). -/
def State.alignStart (s : State) (d : Nat) : State :=
  let r := (s.dom d).rate
  let total := r.fdiv 128
  ({ s with tim := { s.tim with align := some { dom := d, total := total, rest := r - total * 128, passed := 0 }, phase := 0 } }).setBit
    TIM.TIM_STATUS_ALIGNING true

/-- Alignment ends: complete, or stopped by holdover (R39). -/
def State.alignStop (s : State) : State :=
  ({ s with tim := { s.tim with align := none } }).setBit TIM.TIM_STATUS_ALIGNING false

/-- The state of selection changes (R38 to R40). -/
def State.selChange (s : State) (n : Sel) : State :=
  let o := s.tim.sel
  if n = o then s else
  let s := { s with tim := { s.tim with sel := n, holdTicks := 0 } }
  match n with
  | .holdover => ((s.setBit TIM.TIM_STATUS_HOLDOVER true).alignStop).raise TIM.TIM_EVENT_HOLDOVER_ENTER
  | .follow d =>
    let s := ((s.setBit TIM.TIM_STATUS_HOLDOVER false).set TIM.TIM_STATUS_SEL d).setBit TIM.TIM_STATUS_FOLLOWED true
    let s := if s.bit TIM.TIM_CTRL_AUTO_ALIGN then s.alignStart d else s.alignStop
    match o with
    | .holdover => s.raise TIM.TIM_EVENT_HOLDOVER_EXIT
    | .follow _ => (s.raise TIM.TIM_EVENT_SWITCHED).bump TIM.SWITCH_CNT

/-- 1 ms: 500,000 ticks. -/
def msTicks : Nat := 500000

/-- REVERT is set while a domain other than PRIMARY is followed, and PRIMARY has been valid for 1 s without a break (R38). -/
def State.revertDue (s : State) : Bool :=
  match s.tim.sel with
  | .follow d => s.get TIM.TIM_CTRL_SEL_MODE == 0 && s.bit TIM.TIM_CTRL_REVERT && d != s.get TIM.TIM_CTRL_PRIMARY
      && s.domValid d && s.domValid (s.get TIM.TIM_CTRL_PRIMARY) && decide (revertTicks ≤ (s.dom (s.get TIM.TIM_CTRL_PRIMARY)).validTicks)
  | .holdover => false

/-- The selection that R38's evaluation names. -/
def State.selWant (s : State) : Sel :=
  let mode := s.get TIM.TIM_CTRL_SEL_MODE
  let prim := s.get TIM.TIM_CTRL_PRIMARY
  if mode = 1 ∨ mode = 2 then (if s.domValid (mode - 1) then .follow (mode - 1) else .holdover)
  else if mode = 3 then .holdover
  else match s.tim.sel with
    | .follow d =>
      if s.domValid d then (if s.revertDue then .follow prim else .follow d)
      else if s.domValid (1 - d) then .follow (1 - d)
      else .holdover
    | .holdover =>
      if s.domValid prim then .follow prim
      else if s.domValid (1 - prim) then .follow (1 - prim)
      else .holdover

/-- The evaluation of R38. -/
def State.timSelect (s : State) : State := let s := s.timLevels; s.selChange s.selWant

/-- |DOM_OFF| of the followed domain is at most 0.25 ns (R39, R40). -/
def State.onDomain (s : State) (d : Nat) : Bool := decide ((s.dom d).off.natAbs ≤ 2 ^ 70)

/-- UNCERTAIN sets when the holdover has lasted longer than HOLDOVER_LIMIT, with its event (R40). -/
def State.uncertainCheck (s : State) : State :=
  if s.tim.sel = .holdover ∧ s.get TIM.HOLDOVER_LIMIT_SECONDS < s.tim.holdTicks / revertTicks ∧ !s.bit TIM.TIM_STATUS_UNCERTAIN then
    (s.setBit TIM.TIM_STATUS_UNCERTAIN true).raise TIM.TIM_EVENT_UNCERTAIN
  else s

/-- Steering writes are ignored during alignment, and in a holdover that follows a follow (R39, R40). -/
def State.steerBlocked (s : State) : Bool :=
  s.tim.align.isSome || (s.tim.sel == .holdover && s.bit TIM.TIM_STATUS_FOLLOWED)

/-! ### The tick (R27 to R40) -/

/-- The most that one tick slews, 2 ns x SLEW_LIMIT in units of 2^-32 ns (R28, assumption 14). -/
def State.slewMax (s : State) : Int := (s.get TIM.SLEW_LIMIT_PPB * 8589934592 / 1000000000 : Nat)

def within (lim x : Int) : Int := max (-lim) (min lim x)

/-- Ramp: the increment's part of the transfer in tick k + 1 of 512,000 (R39). -/
def rampStep (a : Align) : Int := (a.total * (a.passed + 1)).fdiv 512000 - (a.total * a.passed).fdiv 512000

/-- The pending increment takes effect (R27). -/
def Tim.takeIncr (t : Tim) : Tim :=
  match t.incrPend with
  | some i => { t.newIncr i with incrPend := none }
  | none => t

/-- One tick of the ramp; its last one takes what is finer than an increment unit out of DOM_RATE (assumption 15). The ramp is not
held to the range of R27, which the spec gives for a write (DESIGN CHOICE, assumption 119). -/
def Tim.ramp (t : Tim) : Tim :=
  match t.align with
  | some a =>
    if a.passed < 512000 then
      let t := { t.newIncr (t.incr + rampStep a) with align := some { a with passed := a.passed + 1 } }
      if a.passed + 1 = 512000 then
        if a.dom = 0 then { t with dom0 := { t.dom0 with rate := t.dom0.rate - a.rest } }
        else { t with dom1 := { t.dom1 with rate := t.dom1.rate - a.rest } }
      else t
    else t
  | none => t

/-- The phase applied in this tick: towards the domain while aligning until it is within 0.25 ns, else out of the pending
phase (R28, R39). -/
def Tim.slew (t : Tim) (lim : Int) : Int :=
  match t.align with
  | some a =>
    let off := if a.dom = 0 then t.dom0.off else t.dom1.off
    if off.natAbs ≤ 2 ^ 70 then 0 else within lim (off.tdiv (2 ^ 40))
  | none => within lim t.phase

/-- Working time and both trackers advance (R24, R28, R34). -/
def Tim.advance (t : Tim) (lim : Int) : Tim :=
  let p := t.slew lim
  let grow := fun (d : Tracker) => { d with off := offFit (d.off + d.rate * t.incr - p * 2 ^ 40) }
  { t with wt := (t.wt + (t.incr + p).toNat) % wtWrap, ticks := t.ticks + 1, phase := (if t.align.isSome then 0 else t.phase - p),
           dom0 := grow t.dom0, dom1 := grow t.dom1 }

/-- A staged DOM_OFF loads (Table 2.10). -/
def Tracker.load (t : Tracker) : Tracker :=
  match t.setPend with
  | some v => { t with off := v * offUnit, setPend := none }
  | none => t

/-- Increment, ramp, slew and integration, and the staged loads. A SET before release is a load and no step: armed generators and the
marker keep the position that the time before it gave them (DESIGN CHOICE, assumption 120). -/
def State.timMoved (s : State) : State :=
  let t := s.tim.takeIncr.ramp.advance s.slewMax
  let t := { t with dom0 := t.dom0.load, dom1 := t.dom1.load }
  match t.loadPend with
  | some w => ({ s with tim := { t with wt := w, loadPend := none } }).setBit TIM.TIM_STATUS_TIME_SET true
  | none => { s with tim := t }

/-- HOLDOVER_TIME counts (R40). -/
def State.holdCount (s : State) : State :=
  if s.tim.sel = .holdover ∧ s.released then { s with tim := { s.tim with holdTicks := s.tim.holdTicks + 1 } } else s

/-- A tracker's tick: the age of its latest record, and its unbroken validity (R37, R38). -/
def State.trackerTick (s : State) (d : Nat) : State :=
  let s := s.setDom d { s.dom d with age := (s.dom d).age + (if (s.dom d).fresh then 1 else 0) }
  s.setDom d { s.dom d with validTicks := if s.domValid d then min revertTicks ((s.dom d).validTicks + 1) else 0 }

/-- UNCERTAIN clears when a follow is on its domain (R40). -/
def State.settled (s : State) : State :=
  match s.tim.sel with
  | .follow d =>
    if s.bit TIM.TIM_STATUS_UNCERTAIN && s.tim.align.isNone && s.onDomain d then s.setBit TIM.TIM_STATUS_UNCERTAIN false else s
  | .holdover => s

/-- The time base at one 2 ns tick: increment, ramp, slew, integration, loads, holdover, selection. -/
def State.timTick (s : State) : State := ((((s.timMoved.holdCount).uncertainCheck).trackerTick 0).trackerTick 1).timSelect.settled

/-- Ramp and slew have both finished: alignment ends, and UNCERTAIN clears (R39, R40). -/
def State.alignmentComplete (s : State) : State :=
  match s.tim.align with
  | some a => if a.passed = 512000 ∧ s.onDomain a.dom then (s.alignStop).setBit TIM.TIM_STATUS_UNCERTAIN false else s
  | none => s

def execAlignmentComplete (s : State) : Host.Outcome State Fault Refusal := .next s.alignmentComplete

/-- The receipt timeout of tracker d runs out (R37); nothing happens before its window has passed. -/
def State.trackerTimeout (s : State) (d : Nat) : State := if s.timedOut d then s.timSelect else s

def execTrackerTimeout (d : Fin 2) (s : State) : Host.Outcome State Fault Refusal := .next (s.trackerTimeout d)

/-- The primary has been valid for 1 s without a break (R38); nothing happens before. -/
def State.revertExpiry (s : State) : State := if s.revertDue then s.timSelect else s

def execRevertDelayExpiry (s : State) : Host.Outcome State Fault Refusal := .next s.revertExpiry

/-- HOLDOVER_TIME exceeds HOLDOVER_LIMIT (R40); it counts from release. -/
def State.holdoverExpiry (s : State) : State :=
  if s.tim.sel = .holdover ∧ s.released then s.uncertainCheck else s

def execHoldoverLimitExpiry (s : State) : Host.Outcome State Fault Refusal := .next s.holdoverExpiry

/-! ### Steering, setting and reading the time -/

/-- 1.999 ns and 2.001 ns in units of 2^-32 ns, the nearest units inside the range (R27). -/
def incrMin : Int := 8585639625
def incrMax : Int := 8594229559

/-- A write of WT_INCR_NS (R27, R39, R40). WT_INCR_NS and WT_INCR_FRAC read back what was written, not the increment in force that a
clamp or an alignment makes (DESIGN CHOICE, assumption 119). -/
def State.wtIncr (s : State) (w : Word) : State :=
  if s.steerBlocked then s.raise TIM.TIM_EVENT_STEER_IGNORED else
  let s := s.plainWrite TIM.WT_INCR_NS w
  let v : Int := s.get TIM.WT_INCR_NS_INCR_NS * frac32 + (s.rd TIM.WT_INCR_FRAC).toNat
  let c := max incrMin (min incrMax v)
  let s := { s with tim := { s.tim with incrPend := some c } }
  if c = v then s else s.raise TIM.TIM_EVENT_INCR_CLAMPED

def execWtIncrWrite (ini : Initiator) (value : Word) (s : State) : Host.Outcome State Fault Refusal :=
  .next (s.writeAt ini TIM.WT_INCR_NS fun s => s.wtIncr value)

/-- A write of WT_INCR_FRAC: ignored where steering is (R39, R40). -/
def State.wtFrac (s : State) (w : Word) : State :=
  if s.steerBlocked then s.raise TIM.TIM_EVENT_STEER_IGNORED else s.plainWrite TIM.WT_INCR_FRAC w

/-- A write of WT_ADJ adds quarter nanoseconds to the pending phase (R27, R28); a sum beyond 32 bits is applied whole, and PHASE_REMAIN
shows its low 32 bits (DESIGN CHOICE, assumption 119). -/
def State.wtAdj (s : State) (w : Word) : State :=
  if s.steerBlocked then s.raise TIM.TIM_EVENT_STEER_IGNORED
  else { s with tim := { s.tim with phase := s.tim.phase + w.toInt * 1073741824 } }

def execWtAdjWrite (ini : Initiator) (value : Word) (s : State) : Host.Outcome State Fault Refusal :=
  .next (s.writeAt ini TIM.WT_ADJ fun s => s.wtAdj value)

/-- The working time that WT_SET_NS, WT_SET_SEC_LO and WT_SET_SEC_HI hold, with a fraction of zero (R29). Nanoseconds of 10^9
or more are carried into the seconds (DESIGN CHOICE, assumption 119). -/
def State.setTarget (s : State) : Nat :=
  (((s.rd TIM.WT_SET_SEC_HI).toNat * 4294967296 + (s.rd TIM.WT_SET_SEC_LO).toNat) * 1000000000 + s.get TIM.WT_SET_NS_NS)
    * 4294967296 % wtWrap

/-- A step: the new value at one tick, the opposite amount on both domain offsets (R29, R34). -/
def State.timStep (s : State) : State :=
  let w := s.setTarget
  let d : Int := (w : Int) - s.tim.wt
  let s := { s with tim := { (s.tim.steer d) with wt := w } }
  ((s.raise TIM.TIM_EVENT_STEPPED).bump TIM.STEP_CNT).setBit TIM.TIM_STATUS_TIME_SET true

/-- A snapshot (R30). -/
def State.wtSnap (s : State) : State :=
  let t := s.tim.wt
  let ns := t / 4294967296
  let s := (((s.wr TIM.WT_SNAP_FRAC (word (t % 4294967296 / 65536))).wr TIM.WT_SNAP_NS (word (ns % 1000000000))).wr
    TIM.WT_SNAP_SEC_LO (word (ns / 1000000000))).wr TIM.WT_SNAP_SEC_HI (word (ns / 1000000000 / 4294967296))
  (s.wr TIM.SNAP_DOM0_OFF (wordS (satS 32 (s.tim.dom0.off16.fdiv 16384)))).wr
    TIM.SNAP_DOM1_OFF (wordS (satS 32 (s.tim.dom1.off16.fdiv 16384)))

def execWtSnap (ini : Initiator) (s : State) : Host.Outcome State Fault Refusal :=
  .next (s.writeAt ini TIM.WT_SNAP_CMD fun s => s.wtSnap)

/-- An atomic addition to DOM_OFF (R34). -/
def State.domOffAdj (s : State) (d : Nat) (w : Word) : State :=
  s.setDom d { s.dom d with off := offFit ((s.dom d).off + w.toInt * offUnit) }

def execDomOffAdjWrite (ini : Initiator) (d : Fin 2) (value : Word) (s : State) : Host.Outcome State Fault Refusal :=
  .next (s.writeAt ini (TIM.DOM_OFF_ADJ d) fun s => s.domOffAdj d value)

/-- An atomic, saturating addition to DOM_RATE (R34, Table 2.10). -/
def State.domRateAdj (s : State) (d : Nat) (w : Word) : State :=
  s.setDom d { s.dom d with rate := satS 32 ((s.dom d).rate + w.toInt) }

def execDomRateAdjWrite (ini : Initiator) (d : Fin 2) (value : Word) (s : State) : Host.Outcome State Fault Refusal :=
  .next (s.writeAt ini (TIM.DOM_RATE_ADJ d) fun s => s.domRateAdj d value)

/-- DOM_SET_HI stages a load of DOM_OFF for the next tick (Table 2.10). -/
def State.domSetHi (s : State) (d : Nat) (w : Word) : State :=
  s.setDom d { s.dom d with setPend := some (w.toInt * 4294967296 + (s.rd (TIM.DOM_SET_LO d)).toNat) }

def execDomSetHiWrite (ini : Initiator) (d : Fin 2) (value : Word) (s : State) : Host.Outcome State Fault Refusal :=
  .next (s.writeAt ini (TIM.DOM_SET_HI d) fun s => s.domSetHi d value)

/-- A write of DOM_CFG: setting ENABLE clears SYNC_SEEN (Table 2.10), and validity and selection are evaluated. -/
def State.domCfgWrite (s : State) (d : Nat) (w : Word) : State :=
  let was := s.bit (TIM.DOM_CFG_ENABLE d)
  let s := s.plainWrite (TIM.DOM_CFG d) w
  let s := if s.bit (TIM.DOM_CFG_ENABLE d) && !was then
      s.setBit (TIM.DOM_STATUS_SYNC_SEEN d) false
    else s
  s.timSelect

/-! ### Sync records (R35 to R37) -/

/-- Offset of the EtherType after up to two tags (R35). -/
def etherTypeOff (f : Bytes) : Nat :=
  let tag := fun i => be16 f i == 0x8100 || be16 f i == 0x88A8
  if tag 12 then (if tag 16 then 20 else 16) else 12

/-- The PTP header's offset when the frame is a PTP message over Ethernet to the peer-to-peer address (R35). -/
def ptpHeader (f : Bytes) : Option Nat :=
  let e := etherTypeOff f
  if be16 f e = 0x88F7 ∧ be48 f 0 = 0x0180C200000E ∧ e + 2 + 34 ≤ f.length then some (e + 2) else none

/-- Fields of the PTP common header at h (layout of IEEE 802.1AS, assumption 16). -/
def ptpType (f : Bytes) (h : Nat) : Nat := byteAt f h % 16
def ptpSdo (f : Bytes) (h : Nat) : Nat := byteAt f h / 16
def ptpVersion (f : Bytes) (h : Nat) : Nat := byteAt f (h + 1) % 16
def ptpDomain (f : Bytes) (h : Nat) : Nat := byteAt f (h + 4)
def ptpTwoStep (f : Bytes) (h : Nat) : Bool := (byteAt f (h + 6) / 2) % 2 == 1
def ptpCorr (f : Bytes) (h : Nat) : Int := (BitVec.ofNat 64 (be64 f (h + 8))).toInt
def ptpSeq (f : Bytes) (h : Nat) : Nat := be16 f (h + 30)
def ptpLogInt (f : Bytes) (h : Nat) : Byte := BitVec.ofNat 8 (byteAt f (h + 33))
def ptpSec (f : Bytes) (h : Nat) : Nat := be48 f (h + 34)
def ptpNs (f : Bytes) (h : Nat) : Nat := be32 f (h + 40)

/-- cumulativeScaledRateOffset of the Follow_Up information TLV, found among the TLVs from offset t on. -/
def findCsro (f : Bytes) : Nat → Nat → Option Word
  | 0, _ => none
  | fuel + 1, t =>
    if t + 4 ≤ f.length then
      if be16 f t = 3 ∧ be32 f (t + 4) / 256 = 0x0080C2 ∧ be32 f (t + 7) / 256 = 1 ∧ t + 14 ≤ f.length then some (word (be32 f (t + 10)))
      else findCsro f fuel (t + 4 + be16 f (t + 2))
    else none

/-- The conditions of R35 on a message of the given type. -/
def State.syncFits (s : State) (d port : Nat) (f : Bytes) (ty : Nat) : Option Nat :=
  match ptpHeader f with
  | some h =>
    if s.bit (TIM.DOM_CFG_ENABLE d) && s.get (TIM.DOM_CFG_SYNC_PORT d) == port && ptpType f h == ty && ptpSdo f h == 1
      && ptpVersion f h == 2 && ptpDomain f h == s.get (TIM.DOM_CFG_DOMAIN_NUM d) then some h else none
  | none => none

/-- OFFSET_SAMPLE in quarter nanoseconds (R35), rounded down (DESIGN CHOICE, assumption 145); `off` is DOM_OFF at t2. -/
def State.offsetSample (s : State) (d sec ns : Nat) (corr : Int) (t2 : Nat) (off : Int) : Int :=
  let origin : Int := ((sec * 1000000000 + ns : Nat) : Int) * frac16 + corr + (s.rd (TIM.LINK_DELAY (s.get (TIM.DOM_CFG_SYNC_PORT d)))).toNat
  (origin - ((t2 : Int) * 16384 + off)).fdiv 16384

/-- A record completes (R35 to R37): it enters the FIFO or is discarded, and its receipt window starts; a sample outside 32 bits, and
the rate offset of a message without the TLV, are free values (assumptions 3 and 17). -/
def State.recordDone (s : State) (d : Nat) (two : Bool) (p : PendSync) (sec ns : Nat) (corr : Int) (csro : Option Word) : State :=
  let smp := s.offsetSample d sec ns corr p.t2 p.off
  let (c, s) := match csro with | some c => (c, s) | none => s.draw
  let (o, s) := if smp = satS 32 smp then (wordS smp, s) else s.draw
  let rec_ : List Word :=
    [word (p.seqId * 65536 + p.port * 4096 + (if two then 2048 else 0) + p.logInt.toNat * 8),
     word (qnsOf p.t2 * 1073741824 + nsOf p.t2), word (secOf p.t2), word (ns % 1073741824), word sec,
      word (sec / 4294967296 % 65536), wordS corr, wordS (corr.fdiv 4294967296), c, o]
  let t := { s.dom d with fresh := true, logInt := p.logInt, age := 0, pending := none }
  let s := if t.fifo.length < 32 then s.setDom d { t with fifo := t.fifo ++ [rec_] }
    else (s.setDom d t).raise
      (if d = 0 then TIM.TIM_EVENT_SYNC_FIFO_OVF0 else TIM.TIM_EVENT_SYNC_FIFO_OVF1)
  (s.setBit (TIM.DOM_STATUS_SYNC_SEEN d) true).timSelect

/-- A Sync arrives at tracker d with ingress timestamp t2 in quarter nanoseconds (R35). -/
def State.syncReceive (s : State) (d port : Nat) (f : Bytes) (t2 : Nat) : State :=
  match s.syncFits d port f 0 with
  | none => s
  | some h =>
    let p : PendSync := { port := port, seqId := ptpSeq f h, logInt := ptpLogInt f h, t2 := t2, corr := ptpCorr f h, off := (s.dom d).off16 }
    if ptpTwoStep f h then s.setDom d { s.dom d with pending := some p }
    else s.recordDone d false p (ptpSec f h) (ptpNs f h) p.corr (findCsro f 8 (h + 44))

def execSyncReceive (d : Fin 2) (port : Fin 14) (frame : Bytes) (t2 : Nat) (s : State) : Host.Outcome State Fault Refusal :=
  .next (s.syncReceive d port frame t2)

/-- A Follow_Up arrives (R35). PORT is the port of the Sync's arrival, also when SYNC_PORT has changed since, and LINK_DELAY that of
SYNC_PORT (DESIGN CHOICE, assumption 118); a sum of both correctionFields beyond 64 bits saturates, as R43 has it of additions to
correctionField (DESIGN CHOICE, assumption 119). -/
def State.followUpReceive (s : State) (d port : Nat) (f : Bytes) : State :=
  match s.syncFits d port f 8, (s.dom d).pending with
  | some h, some p =>
    if p.seqId = ptpSeq f h then
      s.recordDone d true p (ptpSec f h) (ptpNs f h) (satS 64 (p.corr + ptpCorr f h)) (findCsro f 8 (h + 44))
    else s
  | _, _ => s

def execFollowUpReceive (d : Fin 2) (port : Fin 14) (frame : Bytes) (s : State) : Host.Outcome State Fault Refusal :=
  .next (s.followUpReceive d port frame)

/-- Word w of the head record, zero when the FIFO is empty (R36). -/
def State.syncRec (s : State) (d w : Nat) : Word := ((s.dom d).fifo.headD []).getD w 0

/-- The read of SYNC_REC9 removes the head record (R36). -/
def State.syncRecPop (s : State) (d : Nat) : Word × State :=
  (s.syncRec d 9, s.setDom d { s.dom d with fifo := (s.dom d).fifo.tail })

def execSyncRecRead (ini : Initiator) (d : Fin 2) (s : State) : Host.Outcome State Fault Refusal :=
  .next (s.readAt ini (TIM.SYNC_REC d 9) fun s => s.syncRecPop d)

/-! ### Last-tagged-transmit records (R46) and the one-step engine (R41 to R45) -/

/-- Address of the INFO register of record r (0 Sync, 1 Pdelay_Req, 2 Pdelay_Resp); NS and SEC follow it. -/
def lttInfo (port r : Nat) : Nat := TIM.LTT_SYNC_INFO port + 12 * r

/-- The read of INFO latches NS and SEC and clears VALID and OVERWRITTEN (R46). -/
def State.lttRead (s : State) (port r : Nat) : Word × State :=
  let a := lttInfo port r
  let k := 8 * port + 2 * r
  let w := s.rd a
  (w, ((s.wr (a + 4) (assocD s.tim.ltt k 0)).wr (a + 8) (assocD s.tim.ltt (k + 1) 0)).wr a (w &&& 0xFFFFFFFC))

def execLttInfoRead (ini : Initiator) (port : Fin 14) (rec : Fin 3) (s : State) : Host.Outcome State Fault Refusal :=
  .next (s.readAt ini (lttInfo port rec) fun s => s.lttRead port rec)

/-- The engine writes record r of a port: Te in quarter nanoseconds (R46). -/
def State.lttWrite (s : State) (port r seq ty dmn te : Nat) : State :=
  let a := lttInfo port r
  let k := 8 * port + 2 * r
  let ow := if (s.rd a).getLsbD 0 then 2 else 0
  let s := s.wr a (word (seq * 65536 + ty * 4096 + dmn * 16 + ow + 1))
  { s with tim := { s.tim with ltt := assocSet (assocSet s.tim.ltt k (word (qnsOf te * 1073741824 + nsOf te))) (k + 1) (word (secOf te)) } }

/-- What the engine takes at the egress tick Te (quarter nanoseconds) of a copy from input port inp to port p (R42). -/
def State.egress (s : State) (p inp te : Nat) : Egress :=
  { te := te, doms := [0, 1].map fun d => (s.get (TIM.DOM_CFG_DOMAIN_NUM d), (s.dom d).rate, (s.dom d).off16),
    delay := (s.rd (TIM.LINK_DELAY inp)).toNat,
    ident := toBE 4 (s.rd (TIM.PORT_ID_LO p)).toNat ++ toBE 4 (s.rd (TIM.PORT_ID_MID p)).toNat ++ toBE 2 (s.get (TIM.PORT_ID_NUM_PORT_NUM p)) }

/-- DOM_RATE and DOM_OFF of the tracker whose DOMAIN_NUM matches, domain 0 when both do (assumption 18); zero when neither does
(R42). -/
def Egress.dom (e : Egress) (num : Nat) : Int × Int := match e.doms.find? fun x => x.1 == num with | some x => x.2 | none => (0, 0)

/-- correctionField += x, saturating (R43). -/
def addCorr (f : Bytes) (h : Nat) (x : Int) : Bytes :=
  patch f (h + 8) (toBE 8 (BitVec.ofInt 64 (satS 64 (ptpCorr f h + x))).toNat)

/-- An 80-bit timestamp field from a time in units of 2^-16 ns, truncated to whole nanoseconds; the remainder is added to
correctionField (R25, R43). A time below zero, for which the unsigned field has no value, leaves the timestamp zero and still adds its
fraction (DESIGN CHOICE, assumption 145). -/
def putStamp (f : Bytes) (h : Nat) (t : Int) : Bytes :=
  let ns := (t.fdiv frac16).toNat
  addCorr (patch f (h + 34) (toBE 6 (ns / 1000000000) ++ toBE 4 (ns % 1000000000))) h (t.fmod frac16)

/-- The one-step engine on a copy with ONE_STEP 1 leaving port p: header offset h, input port inp, Ti in quarter nanoseconds
(Table 2.2, R45). A copy that R45 leaves unchanged still writes its LTT record when its header is whole and of version 2, and none
otherwise (DESIGN CHOICE, assumption 121). -/
def State.oneStep (s : State) (p inp : Nat) (f : Bytes) (h ti : Nat) (e : Egress) : Bytes × State :=
  let te := e.te
  let err := (f, s.bump (TIM.OS_ERR_CNT p))
  if f.length < h + 34 ∨ ptpVersion f h ≠ 2 then err else
  let ty := ptpType f h
  let two := ptpTwoStep f h
  let ext := decide (inp < 14)
  let fits := decide (h + 44 ≤ f.length)
  let sent := fun (g : Bytes) (s : State) => (g, s.bump (TIM.OS_TX_CNT p))
  let tag := fun (r : Nat) (s : State) => s.lttWrite p r (ptpSeq f h) ty (ptpDomain f h) te
  if ext then
    if ty = 0 ∧ !two then
      let res : Int := ((residence te ti : Int) * 16384 * (2 ^ 40 + (e.dom (ptpDomain f h)).1)).fdiv (2 ^ 40)
      sent (patch (addCorr f h (e.delay + res)) (h + 20) e.ident) s
    else (f, s)
  else if ty = 0 then
    if two then (f, tag 0 s)
    else if !fits then (f, (tag 0 s).bump (TIM.OS_ERR_CNT p))
    else
      sent (putStamp f h ((te : Int) * 16384 + (e.dom (ptpDomain f h)).2)) (tag 0 s)
  else if ty = 2 then (f, tag 1 s)
  else if ty = 3 then
    if two then
      (f, let s := tag 2 s; { s with tim := { s.tim with heldTe := assocSet s.tim.heldTe p (te, ptpSeq f h) } })
    else if !fits then (f, (tag 2 s).bump (TIM.OS_ERR_CNT p))
    else
      let rrt : Int := ((ptpSec f h * 1000000000 + ptpNs f h : Nat) : Int) * frac16
      sent (patch (addCorr f h ((te : Int) * 16384 - rrt)) (h + 34) (zeros 10)) (tag 2 s)
  else if ty = 10 then
    match s.tim.heldTe.find? fun x => x.1 == p with
    | some (_, t, q) =>
      if q = ptpSeq f h then (if fits then sent (putStamp f h ((t : Int) * 16384)) s else err) else err
    | none => err
  else (f, s)

/-! ### Register views -/

/-- PHASE_REMAIN in quarter nanoseconds (R28); zero while aligning (R39). -/
def State.phaseRemain (s : State) : Word := if s.tim.align.isSome then 0 else wordS (s.tim.phase.tdiv 1073741824)

/-- HOLDOVER_TIME (R40). -/
def State.holdoverTime (s : State) : Word := word (s.tim.holdTicks / revertTicks)

end Sys2Proof.Machine
end

