-- ==== Sys2Proof/Machine/Tio.lean ====
section
/-! DEFINITION. Tio.lean: timing pins (chapter 03): pulse generators, edge capture, event and time-marker frames. -/
namespace Sys2Proof.Machine

/-! ### Configuration of a pin -/

def pinOff : Nat := 0
def pinOutput : Nat := 1
def pinInput : Nat := 2

def State.pinMode (s : State) (p : Nat) : Nat := s.get (TIO.PIN_CFG_MODE p)

/-- The level that a driven or received active level has at the pin (R51). -/
def State.pinHigh (s : State) (p : Nat) (active : Bool) : Bool := active != s.bit (TIO.PIN_CFG_POLARITY p)

/-- PIN_DLY, signed quarter nanoseconds (R52). -/
def State.pinDly (s : State) (p : Nat) : Int := (BitVec.ofNat 16 (s.get (TIO.PIN_DLY_DLY p))).toInt

/-- START in quarter nanoseconds. -/
def State.pinStart (s : State) (p : Nat) : Nat :=
  instant (s.get (TIO.START_SEC_HI_SEC_HI p) * 4294967296 + s.get (TIO.START_SEC_LO_SEC_LO p)) (s.get (TIO.START_NS_NS p)) (s.get (TIO.START_NS_QNS p))

/-- The driver's enable that mode and claims ask for (R51, R58). -/
def State.pinWant (s : State) (p : Nat) : Bool :=
  s.pinMode p == pinOutput && (!s.bit (TIO.PIN_CFG_PAIRED p) || s.drives)

/-- The driver takes its enable while the generator's level is inactive (R58, assumption 20). -/
def State.pinEnable (s : State) (p : Nat) : State :=
  let x := s.pin p
  if x.active ∨ x.driving = s.pinWant p then s else
  let s := s.setPin p { x with driving := s.pinWant p }
  if s.pinWant p then s.emit (.pin p (s.pinHigh p false)) else s

/-! ### Generators (R53 to R56) -/

/-- The instant at which the pin drives leading edge k of a train (R52, R53). -/
def State.leadAt (s : State) (p : Nat) (t : Train) (k : Nat) : Int := ((t.start + k * t.period : Nat) : Int) - s.pinDly p

/-- First k with start + k x period at or after an instant. -/
def firstK (start period at_ : Nat) : Nat := if at_ ≤ start then 0 else (at_ - start + period - 1) / period

/-- Are the parameters inside their limits (R53, R60)? The range 80 to 4,000,000,000 of PERIOD is a constraint of R53 on pulses; an
input's ARM asks that PERIOD is not zero and not below WIN_LEN (DESIGN CHOICE, assumption 122). -/
def State.pinLimits (s : State) (p : Nat) : Bool :=
  let per := s.get (TIO.PERIOD_QNS p)
  let wid := s.get (TIO.WIDTH_QNS p)
  if s.pinMode p = pinOutput then
    decide (80 ≤ per) && decide (per ≤ 4000000000) && decide (16 ≤ wid) && decide (wid + 16 ≤ per)
  else decide (s.get (TIO.WIN_LEN_QNS p) ≤ per) && decide (0 < per)

/-- A train or STOP takes effect, at once or after the active pulse's trailing edge (R55). -/
def State.pinTake (s : State) (p : Nat) (t : Option Train) : State :=
  let x := s.pin p
  s.setPin p (if x.active then { x with defer := some t } else { x with train := t, defer := none })

/-- First k of a train whose leading edge the pin drives at or after an instant (R52, R53). -/
def State.leadFrom (s : State) (p : Nat) (t : Train) (at_ : Nat) : Nat := firstK t.start t.period ((at_ : Int) + s.pinDly p).toNat

/-- ARM (R54, R60). In OFF mode it has no effect (assumption 20). A late ARM of a running generator stops the running train: the
generator stays idle; where edges are skipped, the first one is at or after A + 100 ns as scheduled, and not past at the pin; an input's
window length is WIN_LEN as the ARM finds it (DESIGN CHOICE, assumption 122). -/
def State.pinArm (s : State) (p : Nat) : State :=
  let out := s.pinMode p == pinOutput
  if !out && s.pinMode p != pinInput then s
  else if !s.pinLimits p then s.raise (TIO.PIN_EVENT_BAD_CFG p)
  else
    let st := s.pinStart p
    let per := s.get (TIO.PERIOD_QNS p)
    let cnt := if out then s.get (TIO.COUNT_PULSES p) else 0
    let lead := s.nowQ + 400
    if st < lead ∧ cnt ≠ 0 then (s.pinTake p none).raise (TIO.PIN_EVENT_LATE p)
    else
      let t : Train := { start := st, period := per, width := if out then s.get (TIO.WIDTH_QNS p) else s.get (TIO.WIN_LEN_QNS p),
                         count := cnt, next := firstK st per lead, done := 0 }
      s.pinTake p (some (if out ∧ st < lead then { t with next := max t.next (s.leadFrom p t s.nowQ) } else t))

def execPinArm (ini : Initiator) (pin : Fin 16) (s : State) : Host.Outcome State Fault Refusal :=
  .next (s.writeAt ini (TIO.PIN_CMD pin) fun s => s.pinArm pin)

/-- STOP (R55). -/
def State.pinStop (s : State) (p : Nat) : State := s.pinTake p none

def execPinStop (ini : Initiator) (pin : Fin 16) (s : State) : Host.Outcome State Fault Refusal :=
  .next (s.writeAt ini (TIO.PIN_CMD pin) fun s => s.pinStop pin)

/-- A leading edge falls due (R53). One whose instant at the pin has passed more than 4 ns ago, since START - PIN_DLY lay before the ARM or
PIN_DLY was written since, comes at once, and its pulse keeps its WIDTH (R55; DESIGN CHOICE, assumption 122). -/
def State.pulseLead (s : State) (p : Nat) : State :=
  let x := s.pin p
  match x.train with
  | some t =>
    if s.pinMode p = pinOutput ∧ !x.active ∧ !s.gated ∧ s.leadAt p t t.next ≤ s.nowQ then
      let lead := s.leadAt p t t.next
      let trail := ((if lead + 16 < s.nowQ then (s.nowQ : Int) else lead) + t.width).toNat
      let s := s.setPin p { x with active := true, trailAt := trail, train := some { t with next := t.next + 1 } }
      if x.driving then s.emit (.pin p (s.pinHigh p true)) else s
    else s
  | none => s

def execPulseLeadingEdge (pin : Fin 16) (s : State) : Host.Outcome State Fault Refusal := .next (s.pulseLead pin)

/-- The active pulse ends: it is counted, a train of COUNT pulses stops, a deferred ARM or STOP takes effect, and the driver
takes a waiting enable (R53, R55, R58). A deferred train starts at its first edge after the trailing edge, also when COUNT is not 0
and START has passed meanwhile (DESIGN CHOICE, assumption 122). -/
def State.pulseEnd (s : State) (p : Nat) : State :=
  let x := s.pin p
  let s := if x.driving then s.emit (.pin p (s.pinHigh p false)) else s
  let s := s.bump (TIO.PULSE_CNT p)
  let train := match x.train with
    | some t => if t.count ≠ 0 ∧ t.count ≤ t.done + 1 then none else some { t with done := t.done + 1 }
    | none => none
  let train := match x.defer with
    | some (some t) => some { t with next := max t.next (s.leadFrom p t x.trailAt) }
    | some none => none
    | none => train
  (s.setPin p { x with active := false, train := train, defer := none }).pinEnable p

/-- A trailing edge falls due (R53). -/
def State.pulseTrail (s : State) (p : Nat) : State :=
  if (s.pin p).active ∧ !s.gated ∧ (s.pin p).trailAt ≤ s.nowQ then s.pulseEnd p else s

def execPulseTrailingEdge (pin : Fin 16) (s : State) : Host.Outcome State Fault Refusal := .next (s.pulseTrail pin)

/-- A paired pin's driver takes its enable at an inactive instant (R58). -/
def State.pairedEnable (s : State) (p : Nat) : State :=
  if s.bit (TIO.PIN_CFG_PAIRED p) then s.pinEnable p else s

def execPairedEnableChange (pin : Fin 16) (s : State) : Host.Outcome State Fault Refusal := .next (s.pairedEnable pin)

/-- The position that the present time gives a train of pin p (R56): its first leading edge that lies ahead and, while a pulse is
active, after that pulse's trailing edge (DESIGN CHOICE, assumption 122); for an input, every window from the first on. -/
def State.trainPlaced (s : State) (p : Nat) (t : Train) : Train :=
  { t with next := if s.pinMode p = pinOutput then s.leadFrom p t (if (s.pin p).active then max s.nowQ (s.pin p).trailAt else s.nowQ) else 0 }

/-- A step of working time: the generator takes the position of the new time (R56), and so do an input's windows (R29). A train that an
ARM has deferred takes its position too. STEP_SKIP stands for leading edges that the step jumps over: a trailing edge alone does not set
it (DESIGN CHOICE, assumption 122). -/
def State.pinReposition (s : State) (p : Nat) : State :=
  let s := s.setPin p { s.pin p with stepped := true }
  let s := if (s.pin p).active ∧ (s.pin p).trailAt ≤ s.nowQ then s.pulseEnd p else s
  let x := s.pin p
  let jumped := fun (t : Train) => s.pinMode p == pinOutput && decide (t.next < s.leadFrom p t s.nowQ)
  let skip := x.train.any jumped || (x.defer.any fun t => t.any jumped)
  let s := s.setPin p { x with train := x.train.map (s.trainPlaced p), defer := x.defer.map fun t => t.map (s.trainPlaced p) }
  if skip then s.raise (TIO.PIN_EVENT_STEP_SKIP p) else s

/-! ### Frames (R65 to R68) -/

/-- The status bits of octets 6 and 7 (Table 3.1). -/
def State.tioStatus (s : State) : Nat :=
  s.get TIM.TIM_STATUS_TIME_SET * 32768 + s.get TIM.TIM_STATUS_HOLDOVER * 16384 + s.get TIM.TIM_STATUS_SEL * 8192
    + s.get TIM.TIM_STATUS_ALIGNING * 4096 + s.get TIM.TIM_STATUS_UNCERTAIN * 2048 + s.get TIM.TIM_STATUS_DOM1_VALID * 1024
    + s.get TIM.TIM_STATUS_DOM0_VALID * 512

/-- One entry: SEC, NS and QNS, ACTIVE (Table 3.1). -/
def tioEntry (e : Nat × Bool) : Bytes :=
  toBE 6 (secOf e.1) ++ toBE 4 (nsOf e.1 * 4 + qnsOf e.1) ++ [if e.2 then 0x80 else 0, 0]

/-- The header of a TIO frame (R68). -/
def State.tioHeader (s : State) : Bytes :=
  toBE 2 (s.get TIO.TIO_DA_HI_DA_HI) ++ toBE 4 (s.get TIO.TIO_DA_LO_DA_LO) ++ toBE 2 (s.get TIO.TIO_SA_HI_SA_HI)
    ++ toBE 4 (s.get TIO.TIO_SA_LO_SA_LO)
    ++ (if s.bit TIO.TIO_FRAME_CFG_VLAN_EN then
          toBE 2 0x8100 ++ toBE 2 (s.get TIO.TIO_FRAME_CFG_PCP * 8192 + s.get TIO.TIO_FRAME_CFG_VID) else [])
    ++ toBE 2 (s.get TIO.TIO_FRAME_CFG_ETHERTYPE)

/-- A TIO frame, padded to 60 octets before its FCS (R68, Table 3.1). -/
def State.tioFrame (s : State) (kind source seq flags count aux0 aux1 : Nat) (entries : List (Nat × Bool)) : Bytes :=
  padTo 60 (s.tioHeader ++ toBE 1 (16 + kind) ++ toBE 1 source ++ toBE 2 seq ++ toBE 1 (s.pairId * 128 + flags) ++ toBE 1 count
    ++ toBE 2 s.tioStatus ++ toBE 4 aux0 ++ toBE 4 aux1 ++ (entries.map tioEntry).flatten)

/-- EVT_MAX as it acts: 1 to 32 (Table 3.3). -/
def State.evtMax (s : State) (p : Nat) : Nat := clampN 1 32 (s.get (TIO.EVT_CFG_EVT_MAX p))

/-- Builds an event frame of at most EVT_MAX waiting entries (R65); a source that does not drive discards it and counts it in
GATED_CNT (R67). -/
def State.evtFrame (s : State) (p : Nat) : State :=
  let x := s.pin p
  let es := (x.fifo.drop x.framed).take (s.evtMax p)
  let flags := (if x.dropped = 0 then 0 else 64) + (if x.masked then 32 else 0) + (if x.stepped then 16 else 0)
  let data := s.tioFrame 1 p x.seq flags es.length (min x.dropped 0xFFFFFFFF) 0 es
  let x := { x with seq := (x.seq + 1) % 65536, dropped := 0, stepped := false }
  if s.bit (TIO.PIN_CFG_PAIRED p) && !s.drives then
    (s.setPin p { x with fifo := x.fifo.take x.framed ++ x.fifo.drop (x.framed + es.length) }).bump (TIO.GATED_CNT p)
  else (s.setPin p { x with framed := x.framed + es.length }).offerP15 2 data (some (p, es.length))

/-- Builds frames while `need` or more entries wait. -/
def State.evtBuild (s : State) (p need : Nat) : Nat → State
  | 0 => s
  | n + 1 => if s.bit (TIO.PIN_CFG_EVT_EN p) ∧ (s.pin p).framed + need ≤ (s.pin p).fifo.length then (s.evtFrame p).evtBuild p need n else s

/-- EVT_MAX entries waiting cause a frame (R65). -/
def State.evtFull (s : State) (p : Nat) : State := s.evtBuild p (s.evtMax p) 64

/-- A TIO frame of pin p with COUNT n has been accepted: its entries leave the FIFO (R65). -/
def State.evtAccepted (s : State) (p n : Nat) : State :=
  let x := s.pin p
  s.setPin p { x with fifo := x.fifo.drop (min n x.framed), framed := x.framed - n }

/-- EVT_HOLD has passed since the captured time of the oldest waiting entry (R65). -/
def State.evtHold (s : State) (p : Nat) : State :=
  match ((s.pin p).fifo.drop (s.pin p).framed).head? with
  | some e => if s.bit (TIO.PIN_CFG_EVT_EN p) ∧ e.1 + max 1 (s.get (TIO.EVT_CFG_EVT_HOLD p)) * usQ ≤ s.nowQ then s.evtFrame p else s
  | none => s

def execEvtHoldExpiry (pin : Fin 16) (s : State) : Host.Outcome State Fault Refusal := .next (s.evtHold pin)

/-! ### Inputs (R59 to R64) -/

/-- Does EDGE select the edge (R59)? -/
def State.edgeSel (s : State) (p : Nat) (act : Bool) : Bool :=
  bitsOf (word (s.get (TIO.PIN_CFG_EDGE p))) (if act then 0 else 1) (if act then 0 else 1) == 1

/-- Does a captured time lie inside a window, or are there no windows (R60)? -/
def State.inWindow (s : State) (p t : Nat) : Bool :=
  if s.get (TIO.WIN_LEN_QNS p) = 0 then true else
  match (s.pin p).train with
  | some w => decide (w.start + w.next * w.period ≤ t) && decide ((t - w.start) % w.period < w.width)
  | none => false

/-- Captures an accepted edge (R60, R61). -/
def State.capture (s : State) (p t : Nat) (act : Bool) : State :=
  if !s.inWindow p t then s.bump (TIO.OUTWIN_CNT p) else
  let x := s.pin p
  if x.fifo.length < 64 then ((s.setPin p { x with fifo := x.fifo ++ [(t, act)] }).bump (TIO.CAP_CNT p)).evtFull p
  else ((s.setPin p { x with dropped := x.dropped + 1 }).bump (TIO.DROP_CNT p)).raise (TIO.PIN_EVENT_OVF p)

/-- FILTER as it acts: 10 to 255 ticks (R59). -/
def State.filterTicks (s : State) (p : Nat) : Nat := max 10 (s.get (TIO.PIN_CFG_FILTER p))

/-- The new level has held for FILTER ticks: the edge is accepted at its original time, minus PIN_DLY (R52, R59). Nothing happens
before. -/
def State.edgeAccept (s : State) (p : Nat) : State :=
  let x := s.pin p
  match x.cand with
  | some (act, t, n) =>
    if s.pinMode p ≠ pinInput ∨ s.tim.ticks < n + s.filterTicks p then s else
    let s := s.setPin p { x with cand := none, level := act, stuckAt := if act && !x.masked then some n else none }
    if !x.masked && s.edgeSel p act then s.capture p ((t : Int) - s.pinDly p).toNat act else s
  | none => s

/-- A level change at an input pin, at one of the eight phases of this tick: an edge whose filter time has passed is accepted first;
then the new level starts the glitch filter, or by its return to the filtered level discards the pulse (R59). -/
def State.inputEdge (s : State) (p : Nat) (high : Bool) (phase : Nat) : State :=
  if (s.pin p).raw = high then s else
  let s := s.edgeAccept p
  let x := { s.pin p with raw := high }
  if s.pinMode p ≠ pinInput ∨ s.gated then s.setPin p x else
  let act := high != s.bit (TIO.PIN_CFG_POLARITY p)
  s.setPin p { x with cand := if act = x.level then none else some (act, s.nowQ + phase, s.tim.ticks) }

def execInputEdge (pin : Fin 16) (high : Bool) (phase : Fin 8) (s : State) : Host.Outcome State Fault Refusal :=
  .next (s.inputEdge pin high phase)

def execEdgeFilterExpiry (pin : Fin 16) (s : State) : Host.Outcome State Fault Refusal := .next (s.edgeAccept pin)

/-- STUCK_MS as it acts, in ticks: 1 ms is 500,000 (R62). -/
def State.stuckTicks (s : State) (p : Nat) : Nat := min 1000 (s.get (TIO.PIN_CFG_STUCK_MS p)) * 500000

/-- The input has been active for longer than STUCK_MS, counted from the tick of its edge or of the release: it is masked, sends its
waiting entries and then a frame with COUNT 0 (R62, R65). Nothing happens before, and with STUCK_MS 0 never. -/
def State.inputStuck (s : State) (p : Nat) : State :=
  let x := s.pin p
  if (x.stuckAt.any fun n => decide (n + s.stuckTicks p < s.tim.ticks)) ∧ !x.masked ∧ s.pinMode p = pinInput
      ∧ s.get (TIO.PIN_CFG_STUCK_MS p) ≠ 0 then
    let s := (s.setPin p { x with masked := true, stuckAt := none }).raise (TIO.PIN_EVENT_STUCK p)
    if s.bit (TIO.PIN_CFG_EVT_EN p) then (s.evtBuild p 1 64).evtFrame p else s
  else s

def execInputStuckTimeout (pin : Fin 16) (s : State) : Host.Outcome State Fault Refusal := .next (s.inputStuck pin)

/-- The present level becomes the baseline (R62). -/
def State.baseline (s : State) (p : Nat) : State :=
  let x := s.pin p
  let act := x.raw != s.bit (TIO.PIN_CFG_POLARITY p)
  s.setPin p { x with masked := false, cand := none, level := act, stuckAt := if act then some s.tim.ticks else none }

/-- RELEASE of a masked input (R62); one that is not masked keeps its baseline and its stuck timer (DESIGN CHOICE, assumption 122). -/
def State.pinRelease (s : State) (p : Nat) : State := if (s.pin p).masked then s.baseline p else s

def execPinRelease (ini : Initiator) (pin : Fin 16) (s : State) : Host.Outcome State Fault Refusal :=
  .next (s.writeAt ini (TIO.PIN_CMD pin) fun s => s.pinRelease pin)

/-- The head entry as the CAP registers show it (R64). -/
def State.capHead (s : State) (p : Nat) : Option (Nat × Bool) :=
  if s.bit (TIO.PIN_CFG_EVT_EN p) then none else (s.pin p).fifo.head?

/-- The read of CAP_SEC_HI removes the head entry (R64). -/
def State.capPop (s : State) (p : Nat) : Word × State :=
  match s.capHead p with
  | some e => (word (secOf e.1 / 4294967296 % 65536), s.setPin p { s.pin p with fifo := (s.pin p).fifo.tail, framed := (s.pin p).framed - 1 })
  | none => (0, s)

def execCapSecHiRead (ini : Initiator) (pin : Fin 16) (s : State) : Host.Outcome State Fault Refusal :=
  .next (s.readAt ini (TIO.CAP_SEC_HI pin) fun s => s.capPop pin)

/-- Event frames of pin p that are built and wait for Basin hold no entries of its FIFO any more. -/
def State.disown (s : State) (p : Nat) : State :=
  { s with frames := s.frames.map fun (f : Frame) => if f.inPort = 15 ∧ f.src = 2 ∧ f.origin.any (fun x => x.1 == p) then { f with origin := none } else f }

/-- The pin leaves its mode: STOP, and the capture FIFO is emptied, of which frames that are built already hold copies (R51).
PIN_STATUS.LEVEL keeps the last filtered level while the pin is no input (DESIGN CHOICE, assumption 122). -/
def State.modeLeft (s : State) (p : Nat) : State :=
  ((s.pinStop p).setPin p { (s.pinStop p).pin p with fifo := [], framed := 0, cand := none, stuckAt := none }).disown p

/-- The pin becomes an input: the present level is its baseline; a mask stays (assumption 20). -/
def State.inputMode (s : State) (p : Nat) : State :=
  (s.baseline p).setPin p { (s.baseline p).pin p with masked := (s.pin p).masked }

/-- The mode after the write of PIN_CFG has been taken, `old` the one before it (assumption 20). -/
def State.modeTaken (s : State) (p old : Nat) : State :=
  let s := if s.pinMode p ≠ old ∧ s.pinMode p = pinInput then s.inputMode p else s
  (s.pinEnable p).evtFull p

/-- POLARITY has changed (R51): a driven pin takes the level that its generator's state now has, and an input that stays one reads its
filtered level in the new sense, which is no edge (assumption 123). -/
def State.polTaken (s : State) (p : Nat) (old : Nat) : State :=
  let x := s.pin p
  let s := if x.driving then s.emit (.pin p (s.pinHigh p x.active)) else s
  if s.pinMode p = pinInput ∧ old = pinInput then
    s.setPin p { x with level := !x.level, cand := x.cand.map fun c => (!c.1, c.2),
                        stuckAt := if !x.level && !x.masked then some s.tim.ticks else none }
  else s

/-- A write of PIN_CFG: a change of MODE acts as STOP and empties the capture FIFO (R51); a pin that becomes an input takes the
present level as its baseline, and the driver follows the mode (assumption 20). -/
def State.pinCfgWrite (s : State) (p : Nat) (w : Word) : State :=
  let t := (if bitsOf w 1 0 = s.pinMode p then s else s.modeLeft p).plainWrite (TIO.PIN_CFG p) w
  (if t.bit (TIO.PIN_CFG_POLARITY p) = s.bit (TIO.PIN_CFG_POLARITY p) then t else t.polTaken p (s.pinMode p)).modeTaken p (s.pinMode p)

def execPinModeWrite (ini : Initiator) (pin : Fin 16) (value : Word) (s : State) : Host.Outcome State Fault Refusal :=
  .next (s.writeAt ini (TIO.PIN_CFG pin) fun s => s.pinCfgWrite pin value)

/-! ### The marker generator (R66, R67) -/

/-- MK_PERIOD as it acts, in quarter nanoseconds, and MK_START. -/
def State.mkPeriod (s : State) : Nat := clampN 1 1000 (s.get TIO.MK_PERIOD_MS) * msQ
def State.mkStart (s : State) : Nat :=
  instant (s.get TIO.MK_START_SEC_HI_SEC_HI * 4294967296 + s.get TIO.MK_START_SEC_LO_SEC_LO) (s.get TIO.MK_START_NS_NS) (s.get TIO.MK_START_NS_QNS)

/-- The first M at or after an instant. -/
def State.mkNext (s : State) (q : Nat) : Nat := s.mkStart + firstK s.mkStart s.mkPeriod q * s.mkPeriod

/-- A write of MK_CTRL: setting ENABLE starts the generator at the first M at or after 100 ns (R66). -/
def State.mkCtrlWrite (s : State) (w : Word) : State :=
  let s := s.plainWrite TIO.MK_CTRL w
  let on := s.bit TIO.MK_CTRL_ENABLE
  if on = s.marker.running then s
  else if on then { s with marker := { s.marker with running := true, next := s.mkNext (s.nowQ + 400) } }
  else { s with marker := { s.marker with running := false } }

def execMarkerEnableWrite (ini : Initiator) (value : Word) (s : State) : Host.Outcome State Fault Refusal :=
  .next (s.writeAt ini TIO.MK_CTRL fun s => s.mkCtrlWrite value)

/-- DOM_OFF in the form of SNAP_DOM0_OFF (R66). -/
def domOff32 (t : Tracker) : Word := wordS (satS 32 (t.off16.fdiv 16384))

/-- The instant M has come: a frame is built, and sent or discarded (R66, R67). MK_START and MK_PERIOD give the next instant as they stand
now, so that a write while the generator runs acts after it (DESIGN CHOICE, assumption 122). -/
def State.markerInstant (s : State) : State :=
  if s.marker.running ∧ !s.gated ∧ s.marker.next ≤ s.nowQ then
    let m := s.marker.next
    let data := s.tioFrame 2 255 (s.get TIO.MK_SEQ_SEQ) (if s.marker.stepped then 16 else 0) 1 (domOff32 s.tim.dom0).toNat
      (domOff32 s.tim.dom1).toNat [(m, false)]
    let s := { s with marker := { s.marker with next := s.mkNext (m + 1), stepped := false } }
    let s := s.set TIO.MK_SEQ_SEQ (s.get TIO.MK_SEQ_SEQ + 1)
    if s.bit TIO.MK_CTRL_PAIRED && !s.drives then s.bump TIO.MK_GATED_CNT
    else (s.offerP15 2 data).bump TIO.MK_CNT
  else s

def execMarkerInstant (s : State) : Host.Outcome State Fault Refusal := .next s.markerInstant

/-- A step of working time: pins and the marker generator (R56, R66). -/
def State.tioReposition (s : State) : State :=
  let s := s.each (List.range 16) fun s p => s.pinReposition p
  { s with marker := { s.marker with stepped := true, next := if s.marker.running then s.mkNext s.nowQ else s.marker.next } }

end Sys2Proof.Machine
end

