-- ==== Sys2Proof/Machine/Bsn.lean ====
section
/-! DEFINITION. Bsn.lean: Basin (chapter 07): pools, allocation, back-pressure, releases by software and the age scan. -/
namespace Sys2Proof.Machine

/-! ### Pools (R147, R149, R152) -/

/-- Buffer size of a pool. -/
def poolSize : Nat → Nat
  | 0 => 256 | 1 => 1024 | 2 => 2048 | _ => 9728

/-- Taken buffers of a pool that a share holds: 0 scheduled, 1 lossless, 2 best effort, 3 gateway reserve. -/
def State.usedBy (s : State) (i q share : Nat) : Nat :=
  (s.bsn.bufs.filter fun b => b.taken && b.slice == i && b.pool == q && b.rank == share).length

/-- Buffers on a pool's free list: neither taken nor withdrawn. -/
def State.freeCount (s : State) (i q : Nat) : Nat :=
  s.get (BSN.POOL_CNT_COUNT i q) - (s.bsn.bufs.filter fun b => (b.taken || b.withdrawn) && b.slice == i && b.pool == q).length

/-- The reserve of rank 0 or 1 in a pool. -/
def State.reserve (s : State) (i q rank : Nat) : Nat :=
  if rank = 0 then s.get (BSN.RSV_SCHED i q) else if rank = 1 then s.get (BSN.RSV_LL i q) else 0

/-- The gateway reserve: pool 0 of slice 15 (R149). -/
def State.gwReserve (s : State) (i q : Nat) : Nat := if i = 15 ∧ q = 0 then s.get (BSN.GW_RSV_COUNT 15) else 0

/-- shared_free of a pool (R149). -/
def State.sharedFree (s : State) (i q : Nat) : Nat :=
  let inUse := (s.usedBy i q 0 - s.reserve i q 0) + (s.usedBy i q 1 - s.reserve i q 1) + s.usedBy i q 2
  min (s.freeCount i q) (s.get (BSN.POOL_CNT_COUNT i q) - s.reserve i q 0 - s.reserve i q 1 - s.gwReserve i q - inUse)

/-- The share from which a pool serves a request of a rank; `gw` marks the gateway message source (R149). -/
def State.tryPool (s : State) (i rank : Nat) (gw : Bool) (q : Nat) : Option Nat :=
  if s.freeCount i q = 0 then none
  else if rank < 2 ∧ s.usedBy i q rank < s.reserve i q rank then some rank
  else if gw ∧ q = 0 ∧ s.usedBy i 0 3 < s.gwReserve i 0 then some 3
  else if 0 < s.sharedFree i q then some rank
  else none

/-- Pools from the smallest fitting one upwards. -/
def fitting (len : Nat) : List Nat := [0, 1, 2, 3].filter fun q => decide (len ≤ poolSize q)

/-- The pool and share that serve a request (R149). -/
def State.findPool (s : State) (i rank len : Nat) (gw : Bool) : Option (Nat × Nat) :=
  (fitting len).findSome? fun q => (s.tryPool i rank gw q).map fun share => (q, share)

/-- The first index at or above n that is not withdrawn; the pool has no more than `fuel` withdrawn buffers. -/
def State.skipWithdrawn (s : State) (i q : Nat) : Nat → Nat → Nat
  | 0, n => n
  | fuel + 1, n =>
    if s.bsn.bufs.any fun b => b.withdrawn && b.slice == i && b.pool == q && b.idx == n then s.skipWithdrawn i q fuel (n + 1) else n

/-- The buffer at the head of a pool's free list: the never-taken ones first, then the released ones in their order (R152). -/
def State.popFree (s : State) (i q : Nat) : Nat × State :=
  let n := s.skipWithdrawn i q (s.bsn.bufs.length + 1) (assocD s.bsn.nextIdx (4 * i + q) 0)
  if n < s.get (BSN.POOL_CNT_COUNT i q) then (n, { s with bsn := { s.bsn with nextIdx := assocSet s.bsn.nextIdx (4 * i + q) (n + 1) } })
  else match s.bsn.freed.find? fun x => x.1 == i && x.2.1 == q with
    | some x => (x.2.2, { s with bsn := { s.bsn with freed := s.bsn.freed.erase x } })
    | none => (0, s)

/-- The bytes of a frame without its SecTAG, as a buffer holds them (R247). -/
def Frame.unsecured (f : Frame) : Frame :=
  if f.secLen = 0 then f else
  { f with data := cutBytes f.data f.secOff f.secLen, secLen := 0,
           parse := { f.parse with ptpOff := f.parse.ptpOff.map fun p => if f.secOff ≤ p then p - f.secLen else p } }

/-- A frame takes the buffer at the head of a pool's free list (R152); allocations and fallbacks are counted (Table 7.5). -/
def State.takeBuf (s : State) (f : Frame) (q share : Nat) : State :=
  let (idx, s) := s.popFree f.inPort q
  let old := s.buf? f.inPort q idx
  let gen := match old with | some b => b.gen | none => 0
  let b : Buf := { slice := f.inPort, pool := q, idx := idx, gen := gen, rank := share, taken := true, fid := f.fid }
  let s := if old.isSome then s.putBuf b else { s with bsn := { s.bsn with bufs := s.bsn.bufs ++ [b] } }
  let s := (s.putFrame { f.unsecured with handle := some (q, idx, gen), waiting := false, allocAt := s.tim.ticks,
                                          ts := if f.inPort = 15 ∧ f.src ≠ 0 then s.nowQ else f.ts }).bump (BSN.ALLOC_CNT f.inPort)
  if (fitting f.len).head? = some q then s else s.bump (BSN.FALLBACK_CNT f.inPort)

/-! ### Back-pressure (R87, R157) -/

/-- LL_OCC of an input and class (R157). -/
def State.llOcc (s : State) (i c : Nat) : Nat :=
  s.bsn.bufs.foldl (fun n b =>
    if b.taken && b.slice == i then
      match s.frame? b.fid with
      | some f => if f.tc = c then n + (f.len + 63) / 64 * 64 else n
      | none => n
    else n) 0

/-- Has the frame reached its allocation point (R148)? -/
def Frame.ready (f : Frame) : Bool :=
  f.handle.isNone && (if 14 ≤ f.inPort then f.stage == .arriving && !f.icvWait else f.stage == .passed && (f.cutThrough || (f.tail && !f.icvWait)))

/-- An earlier frame of the input waits at the head of the arrival store (R151). -/
def State.blocked (s : State) (f : Frame) : Bool :=
  decide (f.inPort < 14) && s.frames.any fun g => g.waiting && g.inPort == f.inPort && decide (g.fid < f.fid)

/-- A frame of the class waits in the arrival store: at its head, or behind the one that stands there (R151). -/
def State.waits (s : State) (i c : Nat) : Bool :=
  s.frames.any fun f => f.inPort == i && f.tc == c && (f.waiting || (f.ready && s.blocked f))

/-- A PFC frame is queued; changes of one tick share one frame (R87). -/
def State.pfcQueue (s : State) (p : Nat) (mask xoff : BitVec 8) : State :=
  let m := s.mac p
  s.setMac p { m with pfcQ := match m.pfcQ.getLast? with
    | some q => if q.at_ = s.tim.wt then m.pfcQ.dropLast ++ [PfcOut.mk (q.mask ||| mask) ((q.xoff &&& ~~~mask) ||| xoff) q.at_]
                else m.pfcQ ++ [PfcOut.mk mask xoff s.tim.wt]
    | none => [PfcOut.mk mask xoff s.tim.wt] }

/-- The MAC is told a change of XOFF: PFC_STATE follows, and a PFC frame is queued, except on a paired port whose unit does not
drive (R87, R275). -/
def State.pfcChange (s : State) (i : Nat) (mask xoff : BitVec 8) : State :=
  let t := word (s.get (BSN.XOFF_STATE_TC i))
  let s := s.set (MAC.PFC_STATE_TX_XOFF i) t.toNat
  if s.shadowPort i then s else s.pfcQueue i mask xoff

/-- XOFF is signalled when LL_OCC reaches XOFF_TH or a frame of the class waits (R157). -/
def State.xoffCheck (s : State) (i c : Nat) : State :=
  if i < 14 ∧ bitsOf (word (s.get (MAC.PFC_CFG_PFC_TX_MASK i))) c c = 1 ∧ bitsOf (word (s.get (BSN.XOFF_STATE_TC i))) c c = 0
      ∧ (s.get (BSN.PFC_TH_XOFF_TH i) * 256 ≤ s.llOcc i c ∨ s.waits i c) then
    let m := BitVec.ofNat 8 (2 ^ c)
    (s.set (BSN.XOFF_STATE_TC i) (s.get (BSN.XOFF_STATE_TC i) + 2 ^ c)).pfcChange i m m
  else s

/-- XON is signalled when LL_OCC has fallen to XON_TH and no frame of the class waits (R157). -/
def State.pfcXon (s : State) (i c : Nat) : State :=
  if !s.stalled ∧ bitsOf (word (s.get (BSN.XOFF_STATE_TC i))) c c = 1 ∧ s.llOcc i c ≤ s.get (BSN.PFC_TH_XON_TH i) * 256 ∧ !s.waits i c then
    (s.set (BSN.XOFF_STATE_TC i) (s.get (BSN.XOFF_STATE_TC i) - 2 ^ c)).pfcChange i (BitVec.ofNat 8 (2 ^ c)) 0
  else s

def execPfcXon (port : Fin 14) (tc : Fin 8) (s : State) : Host.Outcome State Fault Refusal := .next (s.pfcXon port tc)

/-! ### Allocation (R148 to R153) -/

/-- The rank of a frame's request: yellow is best effort on P0 to P13; a P14 or P15 requester states its rank (R149). -/
def State.reqRank (s : State) (f : Frame) : Nat :=
  if 14 ≤ f.inPort then min 2 f.rank else if f.colour = 1 then 2 else s.rankOf f.inPort f.tc

/-- Some pool from the smallest fitting one upwards holds a free buffer reserved for a higher rank (R151). -/
def State.yields (s : State) (i rank len : Nat) : Bool :=
  (fitting len).any fun q => decide (0 < s.freeCount i q) &&
    (List.range 2).any fun r => decide (r < rank) && decide (s.usedBy i q r < s.reserve i q r)

/-- A frame of P0 to P13 is discarded for want of a buffer (Table 7.2, R390). -/
def State.noBuffer (s : State) (f : Frame) (rank : Nat) : State :=
  let s := if s.yields f.inPort rank f.len then
      ((s.bump (BSN.RANK_YIELD_TC f.inPort f.tc)).raise BSN.BSN_EVENT_RANK_YIELD).yieldRank (if rank = 1 then 3 else 4)
    else (s.bump (BSN.NOBUF_TC f.inPort f.tc)).raise BSN.BSN_EVENT_NOBUF
  s.endFrame f.fid

/-- The source of a P15 frame lets go of what it kept: TIO entries leave the capture FIFO, a CAN message its receive FIFO
(R65, R151, R207). -/
def State.sourceTaken (s : State) (f : Frame) : State :=
  if f.inPort ≠ 15 then s else
  match f.origin with
  | none => s
  | some (k, n) =>
    if f.src = 2 then (s.evtAccepted k n).evtFull k
    else
      (s.setCan k { s.can k with rx := (s.can k).rx.drop n }).bump GWE.INT_FRAMES_CNT

/-- A P15 frame meets the SecY of its port when it is offered: a discarded one has left its source (R245, R255). -/
def State.p15Sec (s : State) (fid : Nat) : State :=
  match s.frame? fid with
  | none => s
  | some f =>
    if f.inPort = 15 ∧ f.secPend then
      match s.secMeet f with
      | (some g, s) => s.putFrame { g with len := g.data.length - g.secLen + 4 }
      | (none, s) => (s.sourceTaken f).endFrame fid
    else s

/-- The slow-path delivery of a message that failed its check: the frame owns no output (R225). -/
def State.failedMessage (s : State) (f : Frame) : State :=
  let x := s.deliver 0xF3 f
  if x.1 then x.2.letIn f.fid else x.2.dropUnqueued f.fid

/-- A frame at its allocation point takes the buffer found (R148, R153). -/
def State.place (s : State) (f : Frame) (q share : Nat) : State :=
  if 14 ≤ f.inPort then
    let s := (s.takeBuf f q share).sourceTaken f
    if f.cpu = some 0xF3 then (match s.frame? f.fid with | some g => s.failedMessage { g with stage := .passed } | none => s) else s
  else
    let a := s.admitAll { f with handle := none }
    if ownerMask a.1 f.cpu.isSome = 0 then a.2.endFrame f.fid
    else ((s.takeBuf f q share).letIn f.fid).xoffCheck f.inPort f.tc

/-- One request: answers whether it obtained a buffer (R149, R151). -/
def State.allocOne (s : State) (fid : Nat) : Bool × State :=
  match s.frame? fid with
  | none => (false, s)
  | some f =>
    let rank := s.reqRank f
    match s.findPool f.inPort rank f.len (f.inPort == 15 && f.src == 0) with
    | some (q, share) => (true, s.place { f with rank := rank } q share)
    | none =>
      if 14 ≤ f.inPort then (false, s.putFrame { f with waiting := true })
      else if rank = 1 then
        (false, (s.putFrame { f with waiting := true, waitAt := if f.waiting then f.waitAt else s.nowQ }).xoffCheck f.inPort f.tc)
      else (false, s.noBuffer f rank)

/-- Number of requesters of slices 14 and 15. -/
def requesters (slice : Nat) : Nat := if slice = 14 then 8 else 5

/-- Position of a requester from the round-robin pointer. -/
def rrPos (slice ptr src : Nat) : Nat := (src + requesters slice - ptr) % requesters slice

/-- The requests of one clock in the order in which Basin serves them: by rank, then from the pointer (R150). -/
def State.reqOrder (s : State) (slice : Nat) (fs : List Frame) : List Frame :=
  let ptr := s.get (BSN.RR_PTR_PTR slice)
  (List.range 3).flatMap fun r => (List.range (requesters slice)).flatMap fun d =>
    fs.filter fun f => s.reqRank f == r && rrPos slice ptr f.src == d

/-- Serves requests in order; keeps the first requester that obtained a buffer. -/
def State.serve (s : State) (fs : List Frame) : Option Nat × State :=
  fs.foldl (fun a f => let x := a.2.allocOne f.fid; (if a.1.isNone && x.1 then some f.src else a.1, x.2)) (none, s)

/-- A frame that the control cores (source 3) or the security cores (source 4) start on P15: one at a time for each source, from a pair
that can act (R7, R148, R150). Answers the frames that request. -/
def State.coreOffer (s : State) (fids : List Nat) (sec : Bool) (d : Bytes) : List Nat × State :=
  let src := if sec then 4 else 3
  if !s.flowing ∨ s.mute (if sec then .sec else .hart0) ∨ s.frames.any (fun f => f.inPort == 15 && f.src == src && f.handle.isNone) then (fids, s)
  else (fids ++ [s.nextFid], s.offerP15 src d)

/-- The frames that cores start in this clock. -/
def State.coreOffers (s : State) (fids : List Nat) (core : List (Bool × Bytes)) : List Nat × State :=
  core.foldl (fun a x => a.2.coreOffer a.1 x.1 x.2) (fids, s)

/-- The requests of one clock at a slice (R150): on slices 0 to 13 only the input itself requests, one frame at a time; on
slices 14 and 15 each requester has at most one. -/
def State.bufferAllocate (s : State) (slice : Nat) (fids : List Nat) (core : List (Bool × Bytes)) : State :=
  let (fids, s) := if slice = 15 then s.coreOffers fids core else (fids, s)
  let s := if s.flowing then s.each fids fun s f => s.p15Sec f else s
  let mine := (fids.filterMap s.frame?).filter fun f => f.inPort == slice && f.ready
  let fs := mine.filter fun f => !s.blocked f
  if !s.flowing then s
  else if slice < 14 then
    let s := match fs with
      | f :: _ => (s.allocOne f.fid).2
      | [] => s
    s.each mine fun s f => s.xoffCheck f.inPort f.tc
  else
    let fs := (List.range (requesters slice)).filterMap fun r => fs.find? fun f => f.src == r
    match fs, s.serve (s.reqOrder slice fs) with
    | _ :: _ :: _, (some r, s) => s.set (BSN.RR_PTR_PTR slice) ((r + 1) % requesters slice)
    | _, (_, s) => s

/-- The thresholds or the classes of an input have been written: XOFF is signalled where it now holds (R157). -/
def State.xoffAll (s : State) (i : Nat) : State := s.each (List.range 8) fun s c => s.xoffCheck i c

/-- WAIT_US has passed: the waiting frame is discarded and counted; on a paired port whose unit does not drive it is a yield of
lossless delivery (R151, R275, R390). -/
def State.losslessWait (s : State) (p : Nat) : State :=
  match s.frames.find? fun f => f.waiting && f.inPort == p with
  | none => s
  | some f =>
    if s.stalled ∨ s.nowQ < f.waitAt + clampN 1 1000 (s.get (BSN.AGE_CFG_WAIT_US p)) * usQ then s else
    let s := if s.shadowPort p then ((s.bump TWP.STANDBY_YIELD_CNT).raise TWP.TWP_EVENT_STANDBY_YIELD).yieldRank 3 else s
    s.noBuffer f 1

def execLosslessWaitExpiry (port : Fin 14) (s : State) : Host.Outcome State Fault Refusal := .next (s.losslessWait port)

/-! ### Software (R154, Table 7.3) -/

/-- REL_CMD: the release by the control cores (R154). -/
def State.relCmd (s : State) (w : Word) : State :=
  let slice := bitsOf w 27 24
  let h := bitsOf w 23 0
  let x := s.releaseBuf 17 slice h
  if x.1 then
    let fid := match s.buf? slice (h / 4194304 % 4) (h % 65536) with | some b => b.fid | none => s.nextFid
    let s := x.2
    ({ s with slc := { s.slc with slow := s.slc.slow.filter fun e => e.fid != fid } }).set BSN.REL_STATUS_RESULT 1
  else x.2.set BSN.REL_STATUS_RESULT 2

def execRelCmd (ini : Initiator) (value : Word) (s : State) : Host.Outcome State Fault Refusal :=
  .next (s.writeAt ini BSN.REL_CMD fun s => s.relCmd value)

/-- A write of BUF_SEL captures the selected record (Table 7.3). -/
def State.bufSel (s : State) (w : Word) : State :=
  let s := s.plainWrite BSN.BUF_SEL w
  let i := bitsOf w 31 28
  let q := bitsOf w 23 22
  let idx := bitsOf w 15 0
  match s.buf? i q idx with
  | some b =>
    (s.wr BSN.BUF_INFO (word (b.gen * 67108864 + (if b.taken || b.withdrawn then 0 else 33554432)
      + (match b.dup with | some p => 16777216 + p * 1048576 | none => 0) + b.owner.toNat))).wr
      BSN.BUF_EXT (word ((if b.withdrawn then 16 else 0) + b.laRefs))
  | none => (s.wr BSN.BUF_INFO (if idx < s.get (BSN.POOL_CNT_COUNT i q) then 0x02000000 else 0)).wr BSN.BUF_EXT 0

def execBufSelWrite (ini : Initiator) (value : Word) (s : State) : Host.Outcome State Fault Refusal :=
  .next (s.writeAt ini BSN.BUF_SEL fun s => s.bufSel value)

/-- The four words of a copy's descriptor (Table 1.3). -/
def descriptor (c : Copy) (f : Frame) : List Word :=
  [word (f.handleNat * 256 + c.inp * 16 + c.out),
   word (f.len * 262144 + c.tc * 32768 + f.version * 4096 + f.stream.getD 0),
   word (nsOf f.ts * 4 + qnsOf f.ts),
   word (secOf f.ts % 4 * 1073741824 + f.zone * 67108864 + f.colour * 16777216 + (if f.stream.isSome then 8388608 else 0)
     + (if c.ct then 4194304 else 0) + (if f.unverified then 2097152 else 0) + (if c.mirror then 1048576 else 0)
     + (if c.oneStep then 524288 else 0) + (f.parse.ptpOff.getD 0 % 256) * 2048)]

/-- A write of VOQ_SEL captures the selected queue's depth, bytes and head (Table 7.3). -/
def State.voqSel (s : State) (w : Word) : State :=
  let s := s.plainWrite BSN.VOQ_SEL w
  let q := s.voq (bitsOf w 11 8) (bitsOf w 7 4) (bitsOf w 2 0)
  let bytes := q.foldl (fun n c => n + (match s.frame? c.fid with | some f => f.len | none => 0)) 0
  let head := match q.head? with
    | some c => (match s.frame? c.fid with | some f => descriptor c f | none => [])
    | none => []
  ((s.wr BSN.VOQ_DEPTH (word q.length)).wr BSN.VOQ_BYTES (word bytes)).fillWindow (BSN.VOQ_HEAD 0) 4 head

def execVoqSelWrite (ini : Initiator) (value : Word) (s : State) : Host.Outcome State Fault Refusal :=
  .next (s.writeAt ini BSN.VOQ_SEL fun s => s.voqSel value)

/-- Octets that a MAC holds of what it is receiving. -/
def Mac.heldOctets (m : Mac) : Nat :=
  (match m.rx with | some r => (r.held.getD []).length | none => 0) + (match m.assembly with | some a => (a.rx.held.getD []).length | none => 0)

/-- Bytes of a frame in the arrival store: from its allocation on they move into its buffer, 64 a clock (R148). -/
def State.storeBytes (s : State) (f : Frame) : Nat :=
  f.data.length + (if f.tail then 4 else 0) - (if f.handle.isSome then 64 * (s.tim.ticks - f.allocAt) else 0)

/-- Bytes in an arrival store: those of the frames of P0 to P13, and those that the MAC still holds (R148). -/
def State.arrivalLevel (s : State) (i : Nat) : Nat :=
  if 14 ≤ i then 0 else (s.mac i).heldOctets + s.frames.foldl (fun n f => if f.inPort == i then n + s.storeBytes f else n) 0

end Sys2Proof.Machine
end

