-- ==== Sys2Proof/Machine/Lkp.lean ====
section
/-! DEFINITION. Lkp.lean: Lockkeeper (chapter 09): gate lists and windows, holds, the armed change, backlogs and the published
record, shapers, queue monitors and tables. Instants are in picoseconds of working time. -/
namespace Sys2Proof.Machine

/-! ### Classes of an output -/

/-- Preemption is active on a port (R82). -/
def State.pmtActive (s : State) (p : Nat) : Bool := decide (p < 14) && s.bit (MAC.PORT_STATUS_PREEMPT_ACTIVE p)

/-- Class c of output p is preemptable and preemption is active (PMT of Table 8.2). -/
def State.pmt (s : State) (p c : Nat) : Bool := s.pmtActive p && bitsOf (s.rd (LKP.PMT_CFG_PREEMPTABLE p).addr) (16 + c) (16 + c) == 1

/-- 64 × (1 + ADD_FRAG) (R83). -/
def State.fragMin (s : State) (p : Nat) : Nat := 64 * (1 + (if p < 14 then s.get (MAC.PREEMPT_CFG_ADD_FRAG p) else 0))

/-- H (R186). -/
def State.hBytes (s : State) (p : Nat) : Nat := s.fragMin p + 12

/-- A copy that R83 can preempt. -/
def State.canPreempt (s : State) (p c len : Nat) (oneStep : Bool) : Bool := s.pmt p c && !oneStep && decide (s.fragMin p + 64 ≤ len)

/-- L_fit of a LENGTH; a secured output counts LENGTH + EXP (R164, R247). -/
def State.lFit (s : State) (p c len : Nat) (oneStep : Bool) : Nat := if s.canPreempt p c (len + s.expBytes p) oneStep then s.fragMin p else len + s.expBytes p

/-! ### Gate lists on working time (R179 to R182) -/

/-- One entry of a list as it governs within a cycle: positions in picoseconds. -/
structure Seg where
  op : Nat
  gates : Nat
  entry : Nat
  lo : Nat
  hi : Nat
  deriving DecidableEq, Repr

/-- Entries cut to the cycle: the last governs to the cycle's end, one that reaches past it is cut, later ones are not used. -/
def cutSegs (cyc : Nat) : List (Nat × Nat × Nat) → Nat → Nat → List Seg
  | [], _, _ => []
  | (op, g, iv) :: rest, e, at_ =>
    let hi := at_ + iv
    if rest = [] ∨ cyc ≤ hi then [{ op := op, gates := g, entry := e, lo := at_, hi := cyc }]
    else { op := op, gates := g, entry := e, lo := at_, hi := hi } :: cutSegs cyc rest (e + 1) hi

/-- The parameters of a port's admin (0) or oper (1) list: GATE_EN, INIT_GATES, LIST_LEN, cycle and base in picoseconds. -/
structure ListCfg where
  en : Bool
  init : Nat
  len : Nat
  cyc : Nat
  base : Nat
  deriving DecidableEq, Repr

/-- The cycle as it places a list: with GATE_EN 0 no cycle is asked for, and one of 0 ticks acts as one tick (R180, assumption 125). -/
def ListCfg.span (c : ListCfg) : Nat := if c.cyc = 0 then 2000 else c.cyc

def State.listCfg (s : State) (bank p : Nat) : ListCfg :=
  if bank = 0 then
    { en := s.bit (LKP.ADMIN_CFG_GATE_EN p), init := s.get (LKP.ADMIN_CFG_INIT_GATES p), len := s.get (LKP.ADMIN_CFG_LIST_LEN p),
      cyc := s.get (LKP.ADMIN_CYCLE_TICKS p) * 2000,
      base := instant (s.get (LKP.ADMIN_BASE_SEC_HI_SEC_HI p) * 4294967296 + s.get (LKP.ADMIN_BASE_SEC_LO_SEC_LO p)) (s.get (LKP.ADMIN_BASE_NS_NS p)) 0 * 250 }
  else
    { en := s.bit (LKP.OPER_CFG_GATE_EN p), init := s.get (LKP.OPER_CFG_INIT_GATES p), len := s.get (LKP.OPER_CFG_LIST_LEN p),
      cyc := s.get (LKP.OPER_CYCLE_TICKS p) * 2000,
      base := instant (s.get (LKP.OPER_BASE_SEC_HI_SEC_HI p) * 4294967296 + s.get (LKP.OPER_BASE_SEC_LO_SEC_LO p)) (s.get (LKP.OPER_BASE_NS_NS p)) 0 * 250 }

/-- The entries of a port's list in a bank: op, gates, interval in picoseconds. -/
def State.gateEntries (s : State) (bank p n : Nat) : List (Nat × Nat × Nat) :=
  (List.range n).map fun e =>
    let w := s.tw 8 bank 0 (1024 * p + e) 0
    (bitsOf w 31 30, bitsOf w 7 0, bitsOf (s.tw 8 bank 0 (1024 * p + e) 1) 28 0 * 2000)

/-- The segments of a port's list; with GATE_EN 0 one segment that holds INIT_GATES (R180). -/
def State.segs (s : State) (bank p : Nat) : List Seg :=
  let c := s.listCfg bank p
  if c.en then cutSegs c.span (s.gateEntries bank p c.len) 0 0 else [{ op := 0, gates := c.init, entry := 0, lo := 0, hi := c.span }]

/-- What governs at an instant: the segment, when it began, when it ends. -/
structure Gov where
  op : Nat
  gates : Nat
  entry : Nat
  start : Int
  stop : Nat
  deriving DecidableEq, Repr

/-- Governing entry of one list at an instant. -/
def governOf (c : ListCfg) (segs : List Seg) (t : Nat) : Gov :=
  let x := (((t : Int) - c.base).emod c.span).toNat
  match segs.find? fun g => decide (g.lo ≤ x) && decide (x < g.hi) with
  | some g => { op := g.op, gates := g.gates, entry := g.entry, start := (t : Int) - (x - g.lo : Nat), stop := t + (g.hi - x) }
  | none => { op := 0, gates := 0, entry := 0, start := t, stop := t + 2000 }

def State.govern (s : State) (bank p t : Nat) : Gov := governOf (s.listCfg bank p) (s.segs bank p) t

/-- T of the armed change when it concerns port p. -/
def State.changeAt (s : State) (p : Nat) : Option Nat :=
  match s.lkp.change with
  | some c => if c.mask / 2 ^ p % 2 = 1 then some c.t else none
  | none => none

/-- What governs port p at an instant, with the old list before an armed T and the new list from T on (R184). -/
def State.plan (s : State) (p t : Nat) : Gov :=
  match s.changeAt p with
  | some T => if T ≤ t then s.govern 0 p t else (let g := s.govern 1 p t; { g with stop := min g.stop T })
  | none => s.govern 1 p t

/-- The gate of class c is open at an instant; a governing entry that could not be read closes every gate (R182). -/
def State.gateOpen (s : State) (p c t : Nat) : Bool :=
  !(s.lkp.eccShut.getLsbD p && decide (t < (s.plan p s.nowPs).stop)) && (s.plan p t).gates / 2 ^ c % 2 == 1

/-- The first instant at or after t at which class c is closed (`want` false) or open (`want` true) on one list; none when the
list never is so. -/
def listNext (c : ListCfg) (segs : List Seg) (cls : Nat) (want : Bool) : Nat → Nat → Option Nat
  | 0, _ => none
  | n + 1, t =>
    let g := governOf c segs t
    if (g.gates / 2 ^ cls % 2 == 1) == want then some t else listNext c segs cls want n g.stop

def State.nextOn (s : State) (bank p c : Nat) (want : Bool) (t : Nat) : Option Nat :=
  let sg := s.segs bank p
  listNext (s.listCfg bank p) sg c want (sg.length + 1) t

/-- The first instant at or after t at which class c is closed or open, across an armed change (R181, R184). -/
def State.nextGate (s : State) (p c : Nat) (want : Bool) (t : Nat) : Option Nat :=
  match s.changeAt p with
  | some T =>
    if T ≤ t then s.nextOn 0 p c want t else
    match s.nextOn 1 p c want t with
    | some e => if e < T then some e else s.nextOn 0 p c want T
    | none => s.nextOn 0 p c want T
  | none => s.nextOn 1 p c want t

/-- The close of class c's window that contains t; none for a window without end (R181). -/
def State.windowClose (s : State) (p c t : Nat) : Option Nat := s.nextGate p c false t

/-- The opening of class c's next window after the present one, from t on. -/
def State.nextOpening (s : State) (p c t : Nat) : Option Nat :=
  match s.nextGate p c false t with
  | some e => s.nextGate p c true e
  | none => none

/-! ### Holds (R193) -/

/-- HOLD_ADV as it acts, picoseconds: 0 means ⌈H × b / 2 ns⌉ ticks. -/
def State.holdAdv (s : State) (p : Nat) : Nat :=
  let a := s.get (LKP.PMT_CFG_HOLD_ADV p)
  if a = 0 then (s.hBytes p * s.byteTime p + 1999) / 2000 * 2000 else a * 2000

/-- The hold instant of a HOLD entry that starts at `start` after one that started at `prev`. -/
def State.holdInstant (s : State) (p : Nat) (prev : Int) (start : Nat) : Nat :=
  (max ((start : Int) - s.holdAdv p) (prev + 2000)).toNat

/-- An armed change fires where an entry's rule ends: the new list governs from there on (R184). -/
def State.crosses (s : State) (p : Nat) (g : Gov) : Bool := s.changeAt p == some g.stop

/-- The instant at which the entry after g asserts a hold; none when it is no HOLD entry. An entry of the new list that governs at T
asserts its hold at T (R184, R193; DEDUCED, assumption 125). -/
def State.holdBefore (s : State) (p : Nat) (g : Gov) : Option Nat :=
  if (s.plan p g.stop).op ≠ 1 then none
  else if s.crosses p g then some g.stop
  else some (s.holdInstant p g.start g.stop)

/-- The hold from the end of g's rule on: at T it is what the new list's governing entry says (R184); a RELEASE entry releases it
(R193). -/
def State.holdAfter (s : State) (p : Nat) (g : Gov) (h : Bool) : Bool :=
  let op := (s.plan p g.stop).op
  if s.crosses p g then op == 1 else if op = 2 then false else h

/-- Does the schedule assert a hold at or before t, from what governs at `at_` on? It answers the state of the hold at t (R193). -/
def State.holdWalk (s : State) (p t : Nat) : Nat → Bool → Nat → Bool
  | 0, h, _ => h
  | n + 1, h, at_ =>
    let g := s.plan p at_
    let h := h || (s.holdBefore p g).any fun x => decide (x ≤ t)
    if t < g.stop then h else s.holdWalk p t n (s.holdAfter p g h) g.stop

/-- The hold is in force at an instant (now or later). -/
def State.holdAt (s : State) (p t : Nat) : Bool :=
  s.pmtActive p && (if t ≤ s.nowPs then s.lkp.hold.getLsbD p
    else s.holdWalk p t ((t - s.nowPs) / 2000 + 2) (s.lkp.hold.getLsbD p) s.nowPs)

/-- The first hold instant after t among the next n rules, from what governs at an instant on. -/
def State.holdScan (s : State) (p t : Nat) : Nat → Nat → Option Nat
  | 0, _ => none
  | n + 1, at_ =>
    let g := s.plan p at_
    match s.holdBefore p g with
    | some h => if t < h then some h else s.holdScan p t n g.stop
    | none => s.holdScan p t n g.stop

/-- The first hold instant after t: within one pass over the list that governs, and, where that list asserts none before an armed T, at T or
within one pass over the new list (R184, R193). -/
def State.nextHold (s : State) (p t : Nat) : Option Nat :=
  match s.changeAt p with
  | some T =>
    if t < T then
      match s.holdScan p t ((s.segs 1 p).length + 2) t with
      | some h => some h
      | none => if (s.plan p T).op = 1 then some T else s.holdScan p t ((s.segs 0 p).length + 2) T
    else s.holdScan p t ((s.segs 0 p).length + 2) t
  | none => s.holdScan p t ((s.segs 1 p).length + 2) t

/-- The close that a frame of class c which starts at t has to meet: for a preemptable class with preemption active, the earlier
of its window's close and the next hold instant (R187, R190). -/
def State.fitClose (s : State) (p c t : Nat) : Option Nat :=
  let w := s.windowClose p c t
  if !s.pmt p c then w else
  match w, s.nextHold p t with
  | some a, some b => some (min a b)
  | some a, none => some a
  | none, b => b

/-- GATE_STATUS follows the governing entry at the present tick. -/
def State.gateStatus (s : State) (p : Nat) : State :=
  let g := s.govern 1 p s.nowPs
  let gates := if s.lkp.eccShut.getLsbD p then 0 else g.gates
  ((s.set (LKP.GATE_STATUS_ENTRY p) g.entry).set (LKP.GATE_STATUS_GATES p) gates).setBit (LKP.GATE_STATUS_HOLD p) (s.lkp.hold.getLsbD p)

/-- Sets or releases the hold of a port. -/
def State.setHold (s : State) (p : Nat) (b : Bool) : State :=
  let m := BitVec.ofNat 16 (2 ^ p)
  ({ s with lkp := { s.lkp with hold := if b then s.lkp.hold ||| m else s.lkp.hold &&& ~~~m } }).setBit (LKP.GATE_STATUS_HOLD p) b

/-- The hold asserts (R193). -/
def State.assertHold (s : State) (p : Nat) : State :=
  if s.lkp.hold.getLsbD p then s else (s.setHold p true).bump (LKP.HOLD_CNT p)

/-- The hold instant of the governing or the next HOLD entry has come (R193); an entry that read bad asserts none (R182). -/
def State.holdAssert (s : State) (p : Nat) : State :=
  let g := s.govern 1 p s.nowPs
  let stands := g.op == 1 && !s.lkp.eccShut.getLsbD p
  let comes := (s.holdBefore p (s.plan p s.nowPs)).any fun x => decide (x ≤ s.nowPs)
  if s.flowing ∧ s.pmtActive p ∧ (stands ∨ comes) then s.assertHold p else s

def execHoldAssert (port : Fin 16) (s : State) : Host.Outcome State Fault Refusal := .next (s.holdAssert port)

/-! ### Copies set aside (R191) -/

/-- SEL_STATUS.SET_ASIDE: classes with a copy set aside. -/
def State.asideStatus (s : State) (p : Nat) : State :=
  s.set (LKP.SEL_STATUS_SET_ASIDE p) ((List.range 8).foldl (fun m c =>
    if s.copies.any fun k => k.out == p && k.tc == c && k.aside then m + 2 ^ c else m) 0)

/-- Copies of the classes in a mask rejoin. -/
def State.rejoin (s : State) (p mask : Nat) : State :=
  ({ s with copies := s.copies.map fun (k : Copy) => if k.out = p ∧ k.aside ∧ mask / 2 ^ k.tc % 2 = 1 then { k with aside := false } else k }).asideStatus p

/-- A gate-list entry begins at the present tick: gates, RELEASE, and the windows that open (R180, R182, R191, R193). -/
def State.gateEntryStart (s : State) (p : Nat) (ecc : EccState) : State :=
  if !s.flowing then s else
  let g := s.govern 1 p s.nowPs
  let old := s.get (LKP.GATE_STATUS_GATES p)
  let new_ := decide (g.entry ≠ s.get (LKP.GATE_STATUS_ENTRY p))
  let bad := ecc = .uncorrectable ∧ s.bit (LKP.OPER_CFG_GATE_EN p)
  let m := BitVec.ofNat 16 (2 ^ p)
  let s := { s with lkp := { s.lkp with eccShut := if bad then s.lkp.eccShut ||| m else s.lkp.eccShut &&& ~~~m } }
  let s := if bad then
      (if s.bit LKP.LKP_EVENT_ECC_UNCORR then s else s.wr LKP.ECC_INFO (word (p * 268435456 + 134217728 + g.entry))).raise LKP.LKP_EVENT_ECC_UNCORR
    else if !s.pmtActive p then s
    else if g.op = 2 ∧ new_ then s.setHold p false
    else if g.op = 1 then s.assertHold p
    else s
  let s := s.gateStatus p
  s.rejoin p (s.get (LKP.GATE_STATUS_GATES p) &&& (255 - old))

def execGateEntryStart (port : Fin 16) (ecc : EccState) (s : State) : Host.Outcome State Fault Refusal :=
  .next (s.gateEntryStart port ecc)

/-! ### The armed change (R183) -/

/-- CHANGE_T in quarter nanoseconds. -/
def State.changeT (s : State) : Nat :=
  instant (s.get LKP.CHANGE_T_SEC_HI_SEC_HI * 4294967296 + s.get LKP.CHANGE_T_SEC_LO_SEC_LO) (s.get LKP.CHANGE_T_NS_NS) 0

/-- The ports of a mask. -/
def maskPorts (m : Nat) : List Nat := (List.range 16).filter fun p => m / 2 ^ p % 2 == 1

/-- The first port at which the running least common multiple of the cycles exceeds 1 s (R183). -/
def State.hypercycle (s : State) (mask : Nat) : Option Nat :=
  let ps := (List.range 16).filterMap fun p =>
    let c := s.listCfg (if mask / 2 ^ p % 2 = 1 then 0 else 1) p
    if c.en then some (p, c.cyc / 2000) else none
  (ps.foldl (fun (a : Nat × Option Nat) x =>
    let l := Nat.lcm a.1 x.2
    if a.2.isSome then a else (l, if 500000000 < l then some x.1 else none)) (1, none)).2

/-- Why an ARM is refused: (cause, port), the first that fails in the order of REFUSE_CAUSE (R183). -/
def State.armRefusal (s : State) (mask t : Nat) : Option (Nat × Nat) :=
  match (maskPorts mask).find? fun p => let n := s.get (LKP.ADMIN_CFG_LIST_LEN p); n == 0 || decide (1024 < n) with
  | some p => some (1, p)
  | none =>
    match (maskPorts mask).find? fun p => let n := s.get (LKP.ADMIN_CYCLE_TICKS p); decide (n < 32) || decide (500000000 < n) with
    | some p => some (2, p)
    | none =>
      match s.hypercycle mask with
      | some p => some (3, p)
      | none => if s.lkp.change.isSome then some (4, 0) else if t < s.nowQ + 50 * usQ then some (5, 0) else none

/-- CHANGE_STATUS follows the armed change. -/
def State.changeLevels (s : State) : State :=
  (s.setBit LKP.CHANGE_STATUS_ARMED s.lkp.change.isSome).set LKP.CHANGE_STATUS_PENDING_MASK (match s.lkp.change with | some c => c.mask | none => 0)

/-- Disarms the change. -/
def State.changeDisarm (s : State) : State := ({ s with lkp := { s.lkp with change := none } }).changeLevels

/-- A shadow span of the copy runs or is suspended at its output: until it ends the copy counts as one that is being sent (R186, R195,
R275). -/
def State.spanOf (s : State) (k : Copy) : Bool :=
  let mine := fun (t : Option Tx) => t.any fun (x : Tx) => x.shadow.isSome && x.cid == some k.cid
  k.st == .parked && (mine (s.mac k.out).tx || mine (s.mac k.out).suspended)

/-- The copy is queued, committed or set aside, or its shadow span is not over. -/
def State.atOutput (s : State) (k : Copy) : Bool := k.st != .draining && (k.st != .parked || s.spanOf k)

/-- The queue monitor's depth of an output and class: queued, committed and set-aside copies (R200). -/
def State.depthOf (s : State) (o c : Nat) : Nat :=
  s.copies.foldl (fun n k => if k.out == o && k.tc == c && s.atOutput k then
    n + (match s.frame? k.fid with | some f => f.len | none => 0) else n) 0

/-- A monitor word saturates. -/
def State.monMax (s : State) (o c w v : Nat) : State :=
  let k := 8 * o + c
  s.setTw 8 2 0 k w (word (min 0xFFFFFFFF (max (s.tw 8 2 0 k w).toNat v)))

def State.monBump (s : State) (o c w : Nat) : State :=
  let k := 8 * o + c
  s.setTw 8 2 0 k w (word (min 0xFFFFFFFF ((s.tw 8 2 0 k w).toNat + 1)))

/-- Bin of a delay (R200). -/
def monBin (base d : Nat) : Nat := ((List.range 15).filter fun k => decide (base * 2 ^ k ≤ d)).length

/-- A copy ended with a correct FCS: its delay is measured (R200). -/
def State.monDelay (s : State) (o c te ti : Nat) : State :=
  let d := residence te ti / 4
  let k := 8 * o + c
  let n := min (2 ^ 64 - 1) ((s.tw 8 2 0 k 3).toNat * 4294967296 + (s.tw 8 2 0 k 2).toNat + 1)
  let s := s.monMax o c 1 d
  let s := (s.setTw 8 2 0 k 2 (word n)).setTw 8 2 0 k 3 (word (n / 4294967296))
  s.monBump o c (4 + monBin (max 1 (s.get (LKP.MON_CFG_BIN_BASE o))) d)

/-! ### Shapers (R196 to R199) -/

/-- The shaper of an output and class. -/
def State.shaper (s : State) (o c : Nat) : Shaper :=
  (s.lkp.shapers.find? fun x => x.key == 8 * o + c).getD { key := 8 * o + c }

def State.setShaper (s : State) (x : Shaper) : State :=
  { s with lkp := { s.lkp with shapers := s.lkp.shapers.filter (fun y => y.key != x.key) ++
      (if x.mode = 0 ∧ x.level = 0 ∧ x.inc = 0 ∧ x.burst = 0 then [] else [x]) } }

/-- SHP_MODE of a class, 0b11 acting as none. -/
def State.shpMode (s : State) (o c : Nat) : Nat := bitsOf (word (s.get (LKP.SHP_MODE_MODE o))) (2 * c + 1) (2 * c) % 3

/-- Shaper-eligible (R196 to R198). -/
def State.shaperOk (s : State) (o c : Nat) : Bool :=
  let x := s.shaper o c
  match x.mode with | 1 => decide (0 < x.level) | 2 => decide (0 ≤ x.level) | _ => true

/-- A charge of bytes (R196). -/
def State.shaperCharge (s : State) (o c bytes : Nat) : State :=
  let x := s.shaper o c
  if x.mode = 0 then s else s.setShaper { x with level := x.level - bytes * 65536 }

/-- The copies whose cell 0 was granted in the cell time before are charged (R188). -/
def State.shaperCharges (s : State) : State :=
  let s' := s.each s.lkp.charges fun s x => s.shaperCharge x.out x.tc x.bytes
  { s' with lkp := { s'.lkp with charges := [] } }

/-- The tail of a copy shows fewer bytes than were charged, or are to be charged (R196). -/
def State.shaperRefund (s : State) (c : Copy) (bytes : Nat) : State :=
  if s.lkp.charges.any fun x => x.cid == c.cid then
    { s with lkp := { s.lkp with charges := s.lkp.charges.map fun (x : Charge) => if x.cid = c.cid then { x with bytes := x.bytes - bytes } else x } }
  else
    let x := s.shaper c.out c.tc
    if x.mode = 0 then s else s.setShaper { x with level := min ((x.burst : Int) * 65536) (x.level + bytes * 65536) }

/-- Class c is published as paused at output o by received PFC (R89). -/
def State.rxPaused (s : State) (o c : Nat) : Bool :=
  decide (o < 14) && bitsOf (word (s.get (MAC.PFC_STATE_RX_PAUSED o))) c c == 1 && decide (assocD (s.mac o).pauseAt c 0 ≤ s.nowQ)

/-- Backlog of a class: a head in Basin, or a copy committed or set aside (R198). -/
def State.hasBacklog (s : State) (o c : Nat) : Bool :=
  s.copies.any fun k => k.out == o && k.tc == c && s.atOutput k

/-- One refill: new parameters, clamp, then the rule of the mode (R197 to R199). -/
def State.refillShaper (s : State) (o c : Nat) : State :=
  let x := s.shaper o c
  let mode := s.shpMode o c
  let burst := s.get (LKP.SHP_BURST_TC_BYTES o c)
  let inc := s.get (LKP.SHP_RATE_TC_INC o c)
  let cap : Int := burst * 65536
  let lv : Int := if mode = x.mode then min cap x.level else 0
  let lv : Int := match mode with
    | 1 => min cap (lv + inc)
    | 2 =>
      if !s.gateOpen o c s.nowPs || s.rxPaused o c then lv
      else if s.hasBacklog o c then min cap (lv + inc)
      else if lv < 0 then min 0 (lv + inc) else 0
    | _ => 0
  if mode = 0 ∧ x.mode = 0 then s else s.setShaper (if mode = 0 then { key := x.key } else { x with level := lv, mode := mode, inc := inc, burst := burst })

/-- The refill of every shaper on the time-base grid, once in 32 ticks (R196). -/
def State.shaperRefillAll (s : State) : State :=
  if s.stalled ∨ s.lkp.grid = s.tim.ticks / 32 then s else
  let s := { s with lkp := { s.lkp with grid := s.tim.ticks / 32 } }
  s.each (List.range 16) fun s o =>
    if s.get (LKP.SHP_MODE_MODE o) = 0 ∧ (s.lkp.shapers.all fun x => x.key / 8 != o) then s
    else s.each (List.range 8) fun s c => s.refillShaper o c

def execShaperRefill (s : State) : Host.Outcome State Fault Refusal := .next s.shaperRefillAll

/-- SHP_LEVEL as it reads: signed whole bytes, rounded down. -/
def State.shpLevel (s : State) (o c : Nat) : Word := wordS ((s.shaper o c).level.fdiv 65536)

/-! ### Backlogs and the record (R186, R187) -/

/-- W of a frame. -/
def wireBytes (len : Nat) : Nat := 8 + len + 12

/-- A copy is committed and not set aside; one whose shadow span is not over counts as sent ones do (R186, R195). -/
def State.inBacklog (s : State) (k : Copy) : Bool :=
  (k.st == .committed || k.st == .sending || k.st == .preempted || s.spanOf k) && !k.aside

/-- Time left of the transmission in progress at output o, a shadow-sent one included (R186, R195). -/
def State.txLeft (s : State) (o : Nat) : Nat :=
  match (s.mac o).tx with
  | some t => t.start + wireBytes t.bytes * s.byteTime o - s.nowPs
  | none => (s.mac o).freeAt - s.nowPs

/-- Committed bytes of an output other than those of the transmission in progress; `express` counts express copies only. -/
def State.committedBytes (s : State) (o : Nat) (express : Bool) : Nat :=
  let busy := match (s.mac o).tx with | some t => t.cid | none => none
  s.copies.foldl (fun n k =>
    if k.out == o && s.inBacklog k && busy != some k.cid && !(express && s.pmt o k.tc) then
      n + wireBytes ((match s.frame? k.fid with | some f => f.len | none => 0) + s.expBytes o)
    else n) 0

/-- B_full, picoseconds. -/
def State.bFull (s : State) (o : Nat) : Nat := s.txLeft o + s.committedBytes o false * s.byteTime o

/-- B_exp. -/
def State.bExp (s : State) (o : Nat) : Nat :=
  if !s.pmtActive o then s.bFull o else
  let left := match (s.mac o).tx with
    | some t => if t.express then s.txLeft o else min (s.txLeft o) (s.hBytes o * s.byteTime o)
    | none => s.txLeft o
  left + s.committedBytes o true * s.byteTime o

/-- CT_CUR of an output; P14 and P15 use 128 (R78). -/
def State.ctCur (s : State) (o : Nat) : Nat := if o < 14 then s.get (MAC.CT_CUR_CUR o) else 128

/-- LEAD, picoseconds (R186). -/
def State.lead (s : State) (o : Nat) : Nat := 144000 + s.ctCur o * 250 + s.get (LKP.SEL_CFG_LEAD_EXTRA o) * 1000

/-- The receive ring of class c of P14 is enabled and holds a descriptor (R319). -/
def State.ringReady (s : State) (c : Nat) : Bool :=
  s.bit (BRG.RING_CTRL_ENABLE 1 c) && s.rd (BRG.RING_HEAD 1 c) != s.rd (BRG.RING_TAIL 1 c)

/-- Class c of output o is closed for a reason other than its gate: paused, link down, TX_EN clear, ring not ready
(R73, R76, R89, R319). -/
def State.classShut (s : State) (o c : Nat) : Bool :=
  if o < 14 then s.rxPaused o c || !s.bit (MAC.PORT_STATUS_LINK o) || !s.bit (MAC.MAC_CFG_TX_EN o)
  else if o = 14 then !s.ringReady c
  else false

/-- TW_SYS_TX as it acts, picoseconds: at least the minimum wake time of IEEE 802.3 for the mode and speed (R85). -/
def State.twSys (s : State) (o : Nat) : Nat :=
  max (Config.lpiWake (s.get (MAC.PCS_CFG_MODE o)) (s.speed o)) (s.get (MAC.EEE_CFG_TW_SYS_TX o) * 1000000)

/-- The record of one class: WIN_BUDGET when its gate is open at the projected start, and whether it is ready (R187). -/
def State.classRecord (s : State) (o c : Nat) (fit : Option Nat) : Nat × Bool :=
  let b := if s.pmt o c then s.bFull o else s.bExp o
  let wake := if o < 14 ∧ s.bit (MAC.PORT_STATUS_LPI_TX o) ∧ b = 0 then s.twSys o else 0
  let p := s.nowPs + max (s.lead o) b + wake
  if s.classShut o c || !s.gateOpen o c p || (s.pmt o c && s.holdAt o p) || s.byteTime o == 0 then (0, false) else
  let budget := match s.fitClose o c p with
    | some cl => min 65535 ((cl - p) / s.byteTime o)
    | none => 65535
  (budget, s.shaperOk o c && decide (b ≤ s.lead o + s.get (LKP.SEL_CFG_LOOKAHEAD o) * 1000)
    && (match fit with | some n => decide (n + 20 ≤ budget) | none => false))

/-- The eligible class of an output with its WIN_BUDGET; `fits` gives FIT_MIN of the classes that have one (R187). -/
def State.topClass (s : State) (o : Nat) (fits : List (Nat × Nat)) : Option (Nat × Nat) :=
  [7, 6, 5, 4, 3, 2, 1, 0].findSome? fun c =>
    match fits.find? fun x => x.1 == c with
    | none => none
    | some x => let r := s.classRecord o c (some x.2); if r.2 then some (c, r.1) else none

/-! ### Tables (R179, R183, R396) -/

def State.lkpResult (s : State) (res : Nat) : State := s.wr LKP.TBL_STATUS (word (res * 16777216))

/-- A gate entry that R179 refuses. -/
def badGate (w0 w1 : Word) : Bool :=
  bitsOf w1 28 0 == 0 || bitsOf w0 31 30 == 3 || !legalWord w0 0xC00000FF || !legalWord w1 0x1FFFFFFF

/-- Runs a table command: 1 READ, 2 WRITE. -/
def State.lkpRun (s : State) (cmd : Word) (ecc : EccState) : State :=
  let tbl := bitsOf cmd 31 28
  let op := bitsOf cmd 27 24
  let idx := bitsOf cmd 13 0
  if 2 < tbl ∨ (op ≠ 1 ∧ ¬(op = 2 ∧ tbl = 0)) then s.lkpResult 8
  else if tbl = 2 ∧ 128 ≤ idx then s.lkpResult 2
  else if op = 2 then
    let w0 := s.rd (LKP.TBL_DATA 0)
    let w1 := s.rd (LKP.TBL_DATA 1)
    if (s.changeAt (idx / 1024)).isSome then s.lkpResult 9
    else if badGate w0 w1 then s.lkpResult 6
    else (s.setEntry 8 0 0 idx 0 [w0, w1]).lkpResult 0
  else if ecc = .uncorrectable then
    let s := if tbl = 2 then s else
      (if s.bit LKP.LKP_EVENT_ECC_UNCORR then s else s.wr LKP.ECC_INFO (word (idx / 1024 * 268435456 + tbl * 134217728 + idx % 1024))).raise LKP.LKP_EVENT_ECC_UNCORR
    s.lkpResult 7
  else
    let n := if tbl = 2 then 20 else 2
    let s := s.fillWindow (LKP.TBL_DATA 0) 20 (s.entry 8 tbl 0 idx n)
    (if tbl = 2 then s.setEntry 8 2 0 idx 0 (List.replicate 20 0) else s).lkpResult 0

/-- The write of TBL_CMD by an initiator (R397). -/
def State.lkpTable (s : State) (ini : Initiator) (cmd : Word) (ecc : EccState) : State :=
  s.tableWrite ini 3 LKP.TBL_CMD false fun s => s.lkpRun cmd ecc

def execLkpTblRead (ini : Initiator) (cmd : Word) (ecc : EccState) (s : State) : Host.Outcome State Fault Refusal :=
  .next (s.lkpTable ini (putBits cmd 27 24 1) ecc)
def execLkpTblWrite (ini : Initiator) (cmd : Word) (s : State) : Host.Outcome State Fault Refusal :=
  .next (s.lkpTable ini (putBits cmd 27 24 2) .ok)

/-- A write of a port's ADMIN register while its change is pending is ignored and sets ADMIN_LOCKED (R183). -/
def State.adminWrite (s : State) (p a : Nat) (w : Word) : State :=
  if (s.changeAt p).isSome then s.raise LKP.LKP_EVENT_ADMIN_LOCKED else s.plainWrite a w

end Sys2Proof.Machine
end

