-- ==== Sys2Proof/Machine/Crs.lean ====
section
/-! DEFINITION. Crs.lean: Carousel and Turnstile (chapter 08): cell times, reservations, open matching, planes, lanes. -/
namespace Sys2Proof.Machine

/-! ### Planes (R160, R171) -/

/-- A plane is in service; `true` names plane A. -/
def State.planeUp (s : State) (a : Bool) : Bool := s.bit (if a then CRS.CRS_STATUS_A_UP else CRS.CRS_STATUS_B_UP)

/-- The start plane (R162). -/
def State.startPlane (s : State) : Option Bool :=
  if s.planeUp true then some true else if s.planeUp false then some false else none

/-! ### Tracks, lanes and cells (R162, R163) -/

/-- Track E carries TC7 (R163). -/
def Copy.express (c : Copy) : Bool := c.tc == 7

/-- Cells of a track's lane. -/
def laneCells (express : Bool) : Nat := if express then 24 else 40

/-- Cells of a frame of a length. -/
def cellsOf (len : Nat) : Nat := (len + 63) / 64

/-- Cells that stand in order from cell 0. -/
def Copy.inOrder (c : Copy) : Nat := (List.range (c.arrived.length + 1)).foldl (fun n k => if n = k ∧ c.arrived.contains k then k + 1 else n) 0

/-- Bytes of a copy that have gone out by now: what earlier fragments sent and what the one in progress has (R178). -/
def State.bytesOut (s : State) (c : Copy) : Nat :=
  match (s.mac c.out).tx with
  | some t =>
    if t.cid = some c.cid ∧ s.byteTime c.out ≠ 0 then
      c.sent + ((s.nowPs - t.start) / s.byteTime c.out - 8) - (match t.sec with | some x => x.tag.length | none => 0) else c.sent
  | none => c.sent

/-- The output has started the copy and is not through with it. -/
def Copy.started (c : Copy) : Bool := c.st == .sending || c.st == .preempted

/-- Cells of a copy that have left Turnstile: sent, or discarded with a lost frame; of a lost copy that has started, the cells in order
stay until they are sent (R163, R171). A parked copy has been neither transmitted nor discarded: its cells keep their credit (R163, R275;
DEDUCED, assumption 147). -/
def State.cellsLeft (s : State) (c : Copy) : Nat :=
  let kept := if c.lost then (if c.started then c.inOrder else 0) else c.arrived.length
  if c.st == .draining then c.arrived.length
  else if c.st == .parked then c.arrived.length - kept
  else c.arrived.length - kept + min kept (s.bytesOut c / 64)

/-- Cells of a lane in use: granted and not yet left. -/
def State.laneUsed (s : State) (i o : Nat) (express : Bool) : Nat :=
  s.copies.foldl (fun n c => if c.inp == i && c.out == o && c.express == express then n + (c.arrived.length + c.flying.length - s.cellsLeft c) else n) 0

def State.laneFree (s : State) (i o : Nat) (express : Bool) : Nat := laneCells express - s.laneUsed i o express

/-- The copy's frame has all bytes of cell k in its buffer (R162). -/
def Frame.written (f : Frame) (k : Nat) : Bool :=
  if f.tail then decide (k < cellsOf f.len) else decide ((k + 1) * 64 ≤ f.data.length)

/-- Cells of a copy still to be granted may be requested. -/
def Copy.feedingOn (c : Copy) : Bool :=
  c.st != .queued && !c.lost && decide (c.granted.length < c.cells)

/-- The frame in progress on a track (R163). -/
def State.inProgress (s : State) (i o : Nat) (express : Bool) : Option Copy :=
  s.copies.find? fun c => c.inp == i && c.out == o && c.express == express && c.feedingOn

/-- The lowest ungranted cell of a copy, and the lowest one that a plane carries (R162). -/
def Copy.nextCell (c : Copy) : Nat := ((List.range c.cells).find? fun k => !c.granted.contains k).getD c.cells
def Copy.planeOf (c : Copy) (k : Nat) : Bool := match c.pin with | some a => a | none => k % 2 == 0
def Copy.nextOn (c : Copy) (a : Bool) : Option Nat := (List.range c.cells).find? fun k => !c.granted.contains k && c.planeOf k == a

/-- A cell that may be requested on a plane in this cell time: the copy, its index, and whether it is feeding (R168). -/
structure Req where
  c : Copy
  k : Nat
  feeding : Bool
  deriving DecidableEq, Repr

/-- The requestable cell of a frame in progress on a plane. The lane's credit covers the lower cell first (assumption 23). -/
def State.contReq (s : State) (i o : Nat) (express a : Bool) : Option Req :=
  match s.inProgress i o express with
  | none => none
  | some c =>
    match c.nextOn a, s.frame? c.fid with
    | some k, some f =>
      let need := match c.nextOn (!a) with | some k' => if k' < k ∧ f.written k' then 2 else 1 | none => 1
      if f.written k ∧ need ≤ s.laneFree i o express then some { c := c, k := k, feeding := c.started } else none
    | _, _ => none

/-- The head of a VOQ whose cell 0 may be requested as far as its track, credit and bytes go (R162, R163). -/
def State.headReady (s : State) (i o c : Nat) : Option Copy :=
  match (s.voq i o c).head? with
  | none => none
  | some k =>
    match s.frame? k.fid with
    | some f =>
      if f.written 0 ∧ (s.inProgress i o k.express).isNone ∧ 0 < s.laneFree i o k.express ∧ s.startPlane.isSome then some k else none
    | none => none

/-- L_fit of a copy (R164). -/
def State.copyFit (s : State) (k : Copy) : Nat :=
  s.lFit k.out k.tc (match s.frame? k.fid with | some f => f.len | none => 0) k.oneStep

/-- Heads of an output's VOQs whose cell 0 is requestable. -/
def State.heads (s : State) (o : Nat) : List Copy :=
  let mine := s.copies.filter fun k => k.out == o && k.st == .queued
  (mine.filter fun k => (s.headReady k.inp o k.tc) == some k)

/-- FIT_MIN of the classes that have one (R187). -/
def State.fits (s : State) (hs : List Copy) : List (Nat × Nat) :=
  hs.foldl (fun m k =>
    let n := s.copyFit k
    match m.find? fun x => x.1 == k.tc with
    | some x => if n < x.2 then assocSet m k.tc n else m
    | none => assocSet m k.tc n) []

/-- The heads that the published record lets request cell 0 (R164). -/
def State.eligibleHeads (s : State) (o : Nat) : List Copy :=
  let hs := s.heads o
  match s.topClass o (s.fits hs) with
  | none => []
  | some (c, budget) => hs.filter fun k => k.tc == c && decide (s.copyFit k + 20 ≤ budget)

/-- Requestable cells on a plane: at most one per pair and track (R162 to R164). `hs` are the eligible heads. -/
def State.requests (s : State) (hs : List Copy) (a : Bool) : List Req :=
  let pairs := (s.copies.filter fun c => c.feedingOn).map fun c => (c.inp, c.out, c.express)
  let conts := pairs.eraseDups.filterMap fun x => s.contReq x.1 x.2.1 x.2.2 a
  let starts := if s.startPlane = some a then hs.map fun k => { c := k, k := 0, feeding := false : Req } else []
  if s.planeUp a then conts ++ starts else []

/-! ### Reservations (R165 to R167) -/

/-- Valid oper entries in order of index. -/
def State.operRes (s : State) : List Nat :=
  ((s.tabs.filter fun x => decide (x.1 / 1048576 = (7 * 16 + 1) * 4) && x.1 % 32 == 0 && bitsOf x.2 31 31 == 1).map fun x => x.1 % 1048576 / 32)

def State.resW (s : State) (tbl e w : Nat) : Word := s.tw 7 tbl 0 e w
def State.resIn (s : State) (e : Nat) : Nat := bitsOf (s.resW 1 e 0) 23 20
def State.resOut (s : State) (e : Nat) : Nat := bitsOf (s.resW 1 e 0) 19 16

/-- n of an entry at this cell time: the starts of earlier cell times at or after the open instant of its window; none outside the
window (R166). -/
def State.resCount (s : State) (e : Nat) : Option Nat :=
  let c := s.listCfg 1 (s.resOut e)
  let x := (((s.nowPs : Int) - c.base).emod c.span).toNat
  let open_ := bitsOf (s.resW 1 e 1) 28 0 * 2000
  if open_ ≤ x ∧ x < bitsOf (s.resW 1 e 2) 28 0 * 2000 then
    some (s.crs.starts.filter fun (t : Nat) => decide (s.nowPs ≤ t + (x - open_))).length
  else none

/-- Entries for which this cell time is reserved (R166). -/
def State.reserved (s : State) : List Nat :=
  s.operRes.filter fun e => (s.resCount e).any fun n => n % max 1 (bitsOf (s.resW 1 e 0) 26 24) == 0

/-- The request that an entry claims on a plane (R167). -/
def State.resClaim (s : State) (rs : List Req) (a : Bool) (e : Nat) : Option Req :=
  let i := s.resIn e
  let o := s.resOut e
  match s.inProgress i o true with
  | some c => if c.planeOf c.nextCell = a then rs.find? fun r => r.c.cid == c.cid && r.k == c.nextCell else none
  | none => rs.find? fun r => r.c.inp == i && r.c.out == o && r.c.express && r.k == 0

/-- The outcome of a reservation phase. -/
structure ResEnd where
  grants : List Req := []
  released : Nat := 0
  conflicts : Nat := 0
  deriving DecidableEq, Repr

/-- Claims in order of index; a claim that shares an input or an output with a winner loses (R167). -/
def State.resPhase (s : State) (rs : List Req) (a : Bool) (entries : List Nat) : ResEnd :=
  entries.foldl (fun r e =>
    match s.resClaim rs a e with
    | none => { r with released := r.released + 1 }
    | some q =>
      if r.grants.any fun g => g.c.inp == q.c.inp || g.c.out == q.c.out then { r with released := r.released + 1, conflicts := r.conflicts + 1 }
      else { r with grants := r.grants ++ [q] }) {}

/-! ### Open matching (R168, R169) -/

/-- Grant pointer of output o and accept pointer of input i on a plane. -/
def ptrKey (a : Bool) (accept : Bool) (n : Nat) : Nat := (if a then 0 else 64) + (if accept then 16 else 0) + n
def State.ptr (s : State) (a accept : Bool) (n : Nat) : Nat := assocD s.crs.ptrs (ptrKey a accept n) 0
def State.setPtr (s : State) (a accept : Bool) (n v : Nat) : State :=
  let k := ptrKey a accept n
  { s with crs := { s.crs with ptrs := (s.crs.ptrs.filter fun x => x.1 != k) ++ (if v = 0 then [] else [(k, v)]) } }

/-- The cell a pair would send on a plane: a feeding one before any other, then track E before track N. -/
def pairCell (rs : List Req) (i o : Nat) : Option Req :=
  let mine := rs.filter fun r => r.c.inp == i && r.c.out == o
  match mine.find? fun r => r.feeding && r.c.express with
  | some r => some r
  | none => match mine.find? fun r => r.feeding with
    | some r => some r
    | none => match mine.find? fun r => r.c.express with
      | some r => some r
      | none => mine.head?

/-- The first number at or after a pointer, modulo 16, that a test accepts. -/
def fromPtr (p : Nat) (ok : Nat → Bool) : Option Nat := ((List.range 16).map fun d => (p + d) % 16).find? ok

/-- The choice of an output or input: among level-0 requests when there is one, else level 1, from its pointer. -/
def pick (p : Nat) (lvl : Nat → Option Nat) : Option Nat :=
  match fromPtr p fun n => lvl n == some 0 with
  | some n => some n
  | none => fromPtr p fun n => (lvl n).isSome

/-- One iteration: the new matches (input, output). -/
def State.iterate (s : State) (rs : List Req) (a : Bool) (done : List (Nat × Nat)) : List (Nat × Nat) :=
  let freeI := fun (i : Nat) => !(done.any fun m => m.1 == i)
  let freeO := fun (o : Nat) => !(done.any fun m => m.2 == o)
  let lvl := fun (i o : Nat) => if !freeI i || !freeO o then none else (pairCell rs i o).map fun r => if r.feeding then 0 else 1
  let outs := (rs.map fun r => r.c.out).eraseDups.filter freeO
  let grants := outs.filterMap fun o => (pick (s.ptr a false o) fun i => lvl i o).map fun i => (i, o)
  let ins := (grants.map fun g => g.1).eraseDups
  ins.filterMap fun i => (pick (s.ptr a true i) fun o => if grants.contains (i, o) then lvl i o else none).map fun o => (i, o)

/-- Four iterations; answers the matches and the state with the pointers that iteration 1 moved (R169). -/
def State.openPhase (s : State) (rs : List Req) (a : Bool) (done : List (Nat × Nat)) : List (Nat × Nat) × State :=
  let m1 := s.iterate rs a done
  let d1 := done ++ m1
  let d2 := d1 ++ s.iterate rs a d1
  let d3 := d2 ++ s.iterate rs a d2
  let d4 := d3 ++ s.iterate rs a d3
  (d4.drop done.length, s.each m1 fun s m => (s.setPtr a false m.2 ((m.1 + 1) % 16)).setPtr a true m.1 ((m.2 + 1) % 16))

/-! ### Grants (R162 to R164, R188) -/

/-- The pair's SEQ that its next frame takes (R163). -/
def State.nextSeq (s : State) (i o : Nat) : Nat := assocD s.crs.nextSeq (16 * i + o) 0

/-- Commits a copy at the grant of its cell 0: SEQ, SPRAY, the shaper's charge (R162, R163, R188). -/
def State.commitCopy (s : State) (c : Copy) : Copy × State :=
  let len := match s.frame? c.fid with | some f => f.len | none => 0
  let both := s.planeUp true && s.planeUp false
  let seq := s.nextSeq c.inp c.out
  let one := if both then none else s.startPlane
  let c := { c with st := .committed, seq := seq, spray := both, pin := one, home := one, grantNo := s.crs.grants,
                    cells := cellsOf len }
  let charge : Charge := { cid := c.cid, out := c.out, tc := c.tc, bytes := wireBytes (len + s.expBytes c.out) }
  (c, { s with crs := { s.crs with grants := s.crs.grants + 1, nextSeq := assocSet s.crs.nextSeq (16 * c.inp + c.out) ((seq + 1) % 65536) },
               lkp := { s.lkp with charges := s.lkp.charges ++ [charge] } })

/-- CRC-16 with polynomial 0x1021 and initial value 0xFFFF over the 176 bits above CHECK (Table 8.1). -/
def sideCrc (v : Nat) : Nat := (toBE 22 v).foldl (fun c b => crcUp 16 0x1021 8 (c ^^^ (b.toNat * 256))) 0xFFFF

/-- The side-band word of cell k of a copy: word 0 of the descriptor at the top of DESC (R161, Table 8.1, assumption 126). -/
def sideWord (c : Copy) (f : Frame) (k : Nat) : BitVec 192 :=
  let last := f.tail && k + 1 == cellsOf f.len
  let desc := if k = 0 then (descriptor c f).foldl (fun n w => n * 4294967296 + w.toNat) 0 else 0
  let v := ((((((((c.seq * 256 + k) * 16 + c.inp) * 16 + c.out) * 2 + (if k = 0 then 1 else 0)) * 2 + (if last then 1 else 0)) * 2
    + (if c.express then 1 else 0)) * 2 + (if c.spray then 1 else 0)) * 64 + (if last then f.len % 64 else 0)) * 2 ^ 134 + desc
  BitVec.ofNat 192 (v * 65536 + sideCrc v)

/-- CHECK of a side-band word as it arrives is right. -/
def sideOk (w : BitVec 192) : Bool := sideCrc (w.toNat / 65536) == w.toNat % 65536

/-- The scan: a VOQ is ordered by age, so its descriptors that are too old are found at its head in turn; a head that is being
offered to the fabric is not discarded (R156). -/
def State.ageScan (s : State) : State :=
  if !s.flowing then s else
  let offered := ((s.copies.filter fun c => c.st == .queued).map fun c => c.out).eraseDups.flatMap s.eligibleHeads
  s.each (s.copies.filter s.aged) fun s c =>
    if offered.any fun k => k.inp == c.inp && k.out == c.out && k.tc == c.tc && c.st == .queued then s else s.ageDrop c

def execAgeScan (s : State) : Host.Outcome State Fault Refusal := .next s.ageScan

/-- One cell is granted on a plane. -/
def State.grantCell (s : State) (a : Bool) (r : Req) : State :=
  match s.copy? r.c.cid with
  | none => s
  | some c =>
    let (c, s) := if r.k = 0 then s.commitCopy c else (c, s)
    let w := match s.frame? c.fid with | some f => sideWord c f r.k | none => 0
    let s := s.putCopy { c with granted := c.granted ++ [r.k], flying := c.flying ++ [{ idx := r.k, plane := a, at_ := s.crs.cellNo, word := w }] }
    let s := s.bump (if a then CRS.CELLS_A_CNT else CRS.CELLS_B_CNT)
    if r.k = 0 then s.newHead c.inp c.out c.tc else s

/-! ### Lost frames and planes that leave service (R171, R175) -/

/-- MISSING_INFO records the first frame declared lost. -/
def State.missingInfo (s : State) (c : Copy) (planeLoss : Bool) : State :=
  let s := if s.bit CRS.CRS_EVENT_MISSING then s else
    s.wr CRS.MISSING_INFO (word (c.inp * 268435456 + c.out * 16777216 + (if c.express then 8388608 else 0) + (if planeLoss then 4194304 else 0) + c.seq))
  s.raise CRS.CRS_EVENT_MISSING

/-- A frame is declared lost: counted, its cells at Turnstile discarded, its ungranted cells withdrawn; a copy that has started
ends stomped at its first missing byte, any other leaves (R171, R175). -/
def State.declareLost (s : State) (c : Copy) (planeLoss : Bool) : State :=
  if c.lost then s.putCopy c else
  let s := (s.bump (if planeLoss then CRS.PLANE_LOSS_FRAME_CNT else CRS.MISSING_FRAME_CNT)).bump (CRS.TS_LOST_FRAME c.out)
  let s := s.missingInfo c planeLoss
  let held := c.arrived.length - (if c.started then c.inOrder else s.cellsLeft c)
  let s := s.bumpBy (CRS.TS_LOST_CELL c.out) held
  if c.started then s.putCopy { c with lost := true, stomp := some (c.stomp.getD .underrun) }
  else if c.st == .draining || c.st == .parked then s.putCopy { c with lost := true }
  else (s.putCopy { c with lost := true }).copyLeaves { c with lost := true } 1

/-- A copy that is only draining ends when its last cell is accounted for. -/
def State.drained (s : State) (cid : Nat) : State :=
  match s.copy? cid with
  | some c => if c.st = .draining ∧ c.flying = [] ∧ (c.lost ∨ c.cells ≤ c.granted.length) then s.copyEnds c else s
  | none => s

/-- Cells in flight on a removed plane are lost, and with them their frames; remaining cells of every frame in progress move to
the surviving plane, when there is one (R162, R171). -/
def State.planeCells (s : State) (a : Bool) : State :=
  s.each s.copies fun s c =>
    match s.copy? c.cid with
    | none => s
    | some c =>
      let gone := c.flying.filter fun x => x.plane == a && decide (s.crs.cellNo < x.at_ + 3)
      let c := { c with pin := if c.cells = 0 then none else if s.planeUp (!a) then some (!a) else c.pin }
      if gone = [] then s.putCopy c else
      let s := s.bumpBy CRS.PLANE_LOSS_CELL_CNT gone.length
      let c := { c with flying := c.flying.filter fun x => !gone.contains x }
      ((s.putCopy c).declareLost c true).drained c.cid

/-- A plane leaves service: cause 1 comparison, 2 memory, 3 software (R171, R172). -/
def State.planeLeaves (s : State) (a : Bool) (cause : Nat) : State :=
  if !s.planeUp a then s else
  let s := (s.setBit (if a then CRS.CRS_STATUS_A_UP else CRS.CRS_STATUS_B_UP) false).set (if a then CRS.CRS_STATUS_A_CAUSE else CRS.CRS_STATUS_B_CAUSE) cause
  let s := if cause = 1 then s.bump CRS.CMP_FAULT_CNT else s
  let s := s.planeCells a
  let s := s.raise (if a then CRS.CRS_EVENT_PLANE_A_DOWN else CRS.CRS_EVENT_PLANE_B_DOWN)
  if s.planeUp (!a) then s
  else
    let s := s.raise CRS.CRS_EVENT_BOTH_DOWN
    { s with fltCond := s.fltCond ||| 0x01000000 }.direct 24

/-- A scheduler fault at the end of a cell time (R170). -/
def State.schedFault (s : State) (a : Bool) (f : CrsFault) : State :=
  if !s.planeUp a then s else
  let info := fun (ph port : Nat) => if s.crs.cmpHeld then s else
    { s with crs := { s.crs with cmpHeld := true } }.wr CRS.CMP_INFO (word ((if a then 0 else 0x80000000) + ph * 268435456 + port * 16777216))
  match f with
  | .none => s
  | .compare ph port => (info ph port).planeLeaves a 1
  | .memory port => (info 6 port).planeLeaves a 2

/-! ### The cell time (R160, R164, R167 to R170, R200) -/

/-- SEL_STATUS of an output and the monitors' depths (R200). -/
def State.outputStatus (s : State) (o elig : Nat) : State :=
  let s := (s.set (LKP.SEL_STATUS_ELIG o) elig).set (LKP.SEL_STATUS_BACKLOG o) (min 65535 (s.bFull o / 1000))
  s.each ((s.copies.filter fun k => k.out == o).map fun k => k.tc).eraseDups fun s c => s.monMax o c 0 (s.depthOf o c)

/-- What one plane grants in a cell time: the grants and the state with its pointers and counters. -/
def State.planeTime (s : State) (hs : List Copy) (entries : List Nat) (a : Bool) : List Req × State :=
  if !s.planeUp a then ([], s) else
  let rs := s.requests hs a
  let r := s.resPhase rs a entries
  let s := ((s.bumpBy CRS.RES_USED_CNT r.grants.length).bumpBy CRS.RES_RELEASED_CNT r.released).bumpBy CRS.RES_CONFLICT_CNT r.conflicts
  let s := if r.conflicts = 0 then s else s.raise CRS.CRS_EVENT_RES_CONFLICT
  let x := s.openPhase rs a (r.grants.map fun g => (g.c.inp, g.c.out))
  (r.grants ++ x.1.filterMap fun m => pairCell rs m.1 m.2, x.2)

/-- The read of a granted cell from packet memory: a correctable error is counted, and a cell with an uncorrectable one is not sent
and will be missing (R159). -/
def State.cellRead (s : State) (g : Req) (e : EccState) : State :=
  match e with
  | .ok => s
  | .corrected => s.bump BSN.PKT_ECC_CORR_CNT
  | .uncorrectable =>
    let s := if s.bit BSN.BSN_EVENT_PKT_ECC_UNCORR then s else
      s.wr BSN.ECC_INFO (word (g.c.inp * 268435456 + (match s.frame? g.c.fid with | some f => f.handleNat | none => 0)))
    let s := (s.bump BSN.PKT_ECC_UNCORR_CNT).raise BSN.BSN_EVENT_PKT_ECC_UNCORR
    match s.copy? g.c.cid with
    | some c => s.putCopy { c with flying := c.flying.map fun x => if x.idx = g.k then { x with sent := false } else x }
    | none => s

/-- The reads of a cell time; an input's reads are those of its grants in order. -/
def State.cellReads : List (Fin 16 × EccState) → List Req → State → State
  | [], _, s => s
  | (i, e) :: rest, grants, s =>
    match grants.find? fun g => g.c.inp == i.val with
    | none => State.cellReads rest grants s
    | some g => State.cellReads rest (grants.erase g) (s.cellRead g e)

/-- An owner record read with an uncorrectable error: its buffer is withdrawn; one that no frame holds leaves its free list (R159). -/
def State.ownerError (s : State) (record : Option (Fin 16 × BitVec 24)) : State :=
  match record with
  | none => s
  | some (i, h) =>
    let q := bitsOf (h.setWidth 32) 23 22
    let idx := bitsOf (h.setWidth 32) 15 0
    match s.buf? i q idx with
    | some b => if b.taken then s.withdraw b.fid else s.withdrawFree i.val q idx b
    | none => if idx < s.get (BSN.POOL_CNT_COUNT i q) then s.withdrawFree i.val q idx { slice := i.val, pool := q, idx := idx } else s

/-- The start of this cell time is kept for one second, the longest gate cycle (R166, R180). -/
def State.cellStarted (s : State) : State :=
  { s with crs := { s.crs with starts := s.nowPs :: s.crs.starts.filter fun t => decide (s.nowPs ≤ t + 1000000000000) } }

/-- A cell time (R160 to R170). A plane whose copies disagree gives nothing in that cell time. -/
def State.cellTime (s : State) (fa fb : CrsFault) (reads : List (Fin 16 × EccState)) (record : Option (Fin 16 × BitVec 24)) : State :=
  if s.pllLost 0 then s else
  let s := { s with crs := { s.crs with cellNo := s.crs.cellNo + 1 } }
  if !s.cellsMove then s.cellStarted else
  let s := s.shaperCharges.ownerError record
  let entries := s.reserved
  let outs := (s.copies.filter fun k => k.st == .queued).map fun k => k.out
  let hs := outs.eraseDups.flatMap fun o => s.eligibleHeads o
  let a := s.planeTime hs entries true
  let useA := fa = .none
  let useB := fb = .none
  let s' := if useA then a.2 else s
  let b := s'.planeTime hs entries false
  let s' := if useB then b.2 else s'
  let ga := if useA then a.1 else []
  let gb := if useB then b.1 else []
  let s' := s'.each ga fun s r => s.grantCell true r
  let s' := s'.each gb fun s r => s.grantCell false r
  let s' := State.cellReads reads (ga ++ gb) s'
  let s' := s'.cellStarted.each (List.range 16) fun s o =>
    s.outputStatus o (match hs.find? fun k => k.out == o with | some k => 2 ^ k.tc | none => 0)
  (s'.schedFault true fa).schedFault false fb

/-! ### Turnstile (R174, R175) -/

/-- The copy that a cell's side-band word names. -/
def State.cellCopy (s : State) (i o : Nat) (express : Bool) (seq : Nat) : Option Copy :=
  s.copies.find? fun c => c.inp == i && c.out == o && c.express == express && c.seq == seq && c.st != .queued

/-- A stale cell is discarded (R174). -/
def State.staleCell (s : State) : State := (s.bump CRS.STALE_CELL_CNT).raise CRS.CRS_EVENT_STALE_CELL

/-- A cell stands at Turnstile with its frame: its payload check, and its place (R174). The rest of a copy that its output is through
with is discarded. -/
def State.cellPlace (s : State) (c : Copy) (idx : Nat) (ecc : EccState) : State :=
  match ecc with
  | .uncorrectable =>
    let s := ((s.putCopy c).bump CRS.CELL_ECC_UNCORR_CNT).raise CRS.CRS_EVENT_CELL_ECC
    (s.declareLost c false).drained c.cid
  | e =>
    let s := if e = .corrected then s.bump CRS.CELL_ECC_CORR_CNT else s
    if c.st = .draining then (s.putCopy c).drained c.cid else s.putCopy { c with arrived := c.arrived ++ [idx] }

/-- What a cell that has crossed the fabric meets at the lane, frame and position that its side-band word names (R174). -/
def State.cellMeet (s : State) (i o : Nat) (express : Bool) (seq idx : Nat) (ecc : EccState) : State :=
  match s.cellCopy i o express seq with
  | none => s.staleCell
  | some c =>
    match c.flying.find? fun x => x.idx == idx with
    | none => s.staleCell
    | some x =>
      let c := { c with flying := c.flying.erase x }
      if c.lost then (((s.putCopy c).staleCell).bump (CRS.TS_LOST_CELL o)).drained c.cid
      else s.cellPlace c idx ecc

/-- The cell of a copy that a grant sent on its way, when it can have arrived: three cell times after the grant (R171). -/
def State.cellDue (s : State) (i o : Nat) (express : Bool) (seq idx : Nat) : Option Cell :=
  (s.cellCopy i o express seq).bind fun c => c.flying.find? fun x => x.idx == idx && x.sent && decide (x.at_ + 3 ≤ s.crs.cellNo)

/-- A granted cell arrives at Turnstile; `flips` are the bits of its side-band word that the way has changed. With CHECK wrong the cell
is missing, as with an uncorrectable payload; otherwise the word names its place. A cell that no grant sent arrives with the operands as
its word (R161, R174, assumption 126). -/
def State.cellArrival (s : State) (i o : Nat) (express : Bool) (seq idx : Nat) (flips : BitVec 192) (ecc : EccState) : State :=
  if !s.cellsMove ∨ !s.planesRun then s else
  match s.cellDue i o express seq idx with
  | none =>
    if (s.cellCopy i o express seq).any fun c => c.flying.any fun x => x.idx == idx then s else s.staleCell
  | some x =>
    let w := x.word ^^^ flips
    let n := w.toNat
    if flips = 0 then s.cellMeet i o express seq idx ecc
    else if sideOk w then s.cellMeet (n / 2 ^ 164 % 16) (n / 2 ^ 160 % 16) (n / 2 ^ 157 % 2 == 1) (n / 2 ^ 176) (n / 2 ^ 168 % 256) ecc
    else s.cellMeet i o express seq idx .uncorrectable

def execCellArrival (inp out : Fin 16) (express : Bool) (seq : BitVec 16) (idx : Fin 152) (flips : BitVec 192) (ecc : EccState) (s : State) :
    Host.Outcome State Fault Refusal := .next (s.cellArrival inp out express seq.toNat idx flips ecc)

/-- A granted cell has not arrived 2 us (125 cell times) after its grant: its frame is lost (R175). -/
def State.cellMissing (s : State) (i o : Nat) (express : Bool) (seq idx : Nat) : State :=
  match s.cellCopy i o express seq with
  | none => s
  | some c =>
    match c.flying.find? fun x => x.idx == idx with
    | none => s
    | some x =>
      if s.crs.cellNo < x.at_ + 125 then s else
      let c := { c with flying := c.flying.erase x }
      ((s.putCopy c).declareLost c false).drained c.cid

def execCellMissingTimeout (inp out : Fin 16) (express : Bool) (seq : BitVec 16) (idx : Fin 152) (s : State) :
    Host.Outcome State Fault Refusal := .next (s.cellMissing inp out express seq.toNat idx)

/-! ### Software (R171, R173, Table 8.5) -/

def planeA : Plane → Bool
  | .A => true
  | .B => false

def execPlaneRemoveCmd (ini : Initiator) (plane : Plane) (s : State) : Host.Outcome State Fault Refusal :=
  .next (s.writeAt ini CRS.PLANE_CMD fun s => s.planeLeaves (planeA plane) 3)

/-- RESTORE starts the self-check of a plane that is out of service (R173). -/
def State.planeRestore (s : State) (a : Bool) : State :=
  let n := s.crs.cellNo
  if s.planeUp a then s
  else if a then { s with crs := { s.crs with checkA := true, checkAt := (n, s.crs.checkAt.2) } }
  else { s with crs := { s.crs with checkB := true, checkAt := (s.crs.checkAt.1, n) } }

def execPlaneRestoreCmd (ini : Initiator) (plane : Plane) (s : State) : Host.Outcome State Fault Refusal :=
  .next (s.writeAt ini CRS.PLANE_CMD fun s => s.planeRestore (planeA plane))

/-- A plane returns while the other is out: it carries on with the frames in progress that started with it, the sprayed ones among them; the
cells of any other wait for the plane it started with (R162; DEDUCED, assumption 126). -/
def State.planeCarries (s : State) (a : Bool) : State :=
  if s.planeUp (!a) then s else
  { s with copies := s.copies.map fun (c : Copy) => if c.cells = 0 then c else { c with pin := if c.spray then some a else c.home } }

/-- The self-check ends, 4,096 cell times after it began: the plane returns with every pointer at 0, or stays out (R173). -/
def State.selfCheckDone (s : State) (a pass : Bool) : State :=
  if !(if a then s.crs.checkA else s.crs.checkB) ∨ s.crs.cellNo < (if a then s.crs.checkAt.1 else s.crs.checkAt.2) + 4096 then s else
  let s := if a then { s with crs := { s.crs with checkA := false } } else { s with crs := { s.crs with checkB := false } }
  if !pass then s.raise CRS.CRS_EVENT_RESTORE_FAIL else
  let s := { s with crs := { s.crs with ptrs := s.crs.ptrs.filter fun x => x.1 / 64 != (if a then 0 else 1) }, fltCond := s.fltCond &&& 0xFEFFFFFF }
  (s.setBit (if a then CRS.CRS_STATUS_A_UP else CRS.CRS_STATUS_B_UP) true).planeCarries a

def execPlaneSelfCheckDone (plane : Plane) (pass : Bool) (s : State) : Host.Outcome State Fault Refusal :=
  .next (s.selfCheckDone (planeA plane) pass)

/-- Eight pointers in a word. -/
def State.ptrWord (s : State) (a accept : Bool) (first : Nat) : Word :=
  (List.range 8).foldl (fun w n => putBits w (4 * n + 3) (4 * n) (s.ptr a accept (first + n))) 0

/-- The write of PTR_SEL captures a plane's pointers. -/
def State.ptrSel (s : State) (w : Word) : State :=
  let s := s.plainWrite CRS.PTR_SEL w
  let a := bitsOf w 0 0 == 0
  (((s.wr CRS.GRANT_PTR_LO (s.ptrWord a false 0)).wr CRS.GRANT_PTR_HI (s.ptrWord a false 8)).wr CRS.ACCEPT_PTR_LO (s.ptrWord a true 0)).wr
    CRS.ACCEPT_PTR_HI (s.ptrWord a true 8)

def execPtrSelWrite (ini : Initiator) (value : Word) (s : State) : Host.Outcome State Fault Refusal :=
  .next (s.writeAt ini CRS.PTR_SEL fun s => s.ptrSel value)

/-- Cells that a lane holds at Turnstile. -/
def State.laneHeld (s : State) (i o : Nat) (express : Bool) : Nat :=
  s.copies.foldl (fun n c => if c.inp == i && c.out == o && c.express == express then n + (c.arrived.length - s.cellsLeft c) else n) 0

/-- SEQ of the oldest frame held at Turnstile, if any. -/
def State.oldestSeq (s : State) (i o : Nat) : Option Nat :=
  let held := s.copies.filter fun c => c.inp == i && c.out == o && !c.lost && decide (s.cellsLeft c < c.arrived.length)
  match held.foldl (fun (m : Option Copy) c => match m with | some k => if c.grantNo < k.grantNo then some c else m | none => some c) none with
  | some c => some c.seq
  | none => none

/-- The write of TS_SEL captures TS_LEVEL and TS_SEQ; OLDEST is a free value while no frame is held. -/
def State.tsSel (s : State) (w : Word) : State :=
  let s := s.plainWrite CRS.TS_SEL w
  let o := bitsOf w 7 4
  let i := bitsOf w 3 0
  let x := match s.oldestSeq i o with | some n => (n, s) | none => (s.draw.1.toNat % 65536, s.draw.2)
  (x.2.wr CRS.TS_LEVEL (word (s.laneHeld i o true * 256 + s.laneHeld i o false))).wr CRS.TS_SEQ (word (s.nextSeq i o * 65536 + x.1))

def execTsSelWrite (ini : Initiator) (value : Word) (s : State) : Host.Outcome State Fault Refusal :=
  .next (s.writeAt ini CRS.TS_SEL fun s => s.tsSel value)

/-! ### The reservation table (R165, R396) -/

def State.crsResult (s : State) (res : Nat) : State := s.wr CRS.TBL_STATUS (word (res * 16777216))

/-- A reservation entry that R165 refuses. -/
def State.badRes (s : State) (idx : Nat) (ws : List Word) : Bool :=
  let w0 := ws.getD 0 0
  let o := bitsOf w0 19 16
  bitsOf w0 26 24 == 0 || decide (14 ≤ o) || bitsOf w0 23 20 == o || decide (bitsOf (ws.getD 2 0) 28 0 ≤ bitsOf (ws.getD 1 0) 28 0)
    || (bitsOf (s.resW 1 idx 0) 31 31 == 1 && s.resOut idx != o)
    || !legalWord w0 0x87FF0000 || !legalWord (ws.getD 1 0) 0x1FFFFFFF || !legalWord (ws.getD 2 0) 0x1FFFFFFF || ws.getD 3 0 != 0

def State.crsRun (s : State) (cmd : Word) (ecc : EccState) : State :=
  let tbl := bitsOf cmd 31 28
  let op := bitsOf cmd 27 24
  let idx := bitsOf cmd 8 0
  if 1 < tbl ∨ (op ≠ 1 ∧ ¬(op = 2 ∧ tbl = 0)) then s.crsResult 8
  else if op = 2 then
    let ws := s.window (CRS.TBL_DATA 0) 4
    if s.badRes idx ws then s.crsResult 6 else (s.setEntry 7 0 0 idx 0 ws).crsResult 0
  else if ecc = .uncorrectable then s.crsResult 7
  else (s.fillWindow (CRS.TBL_DATA 0) 4 (s.entry 7 tbl 0 idx 4)).crsResult 0

def State.crsTable (s : State) (ini : Initiator) (cmd : Word) (ecc : EccState) : State :=
  s.tableWrite ini 2 CRS.TBL_CMD false fun s => s.crsRun cmd ecc

def execCrsTblRead (ini : Initiator) (cmd : Word) (ecc : EccState) (s : State) : Host.Outcome State Fault Refusal :=
  .next (s.crsTable ini (putBits cmd 27 24 1) ecc)
def execCrsTblWrite (ini : Initiator) (cmd : Word) (s : State) : Host.Outcome State Fault Refusal :=
  .next (s.crsTable ini (putBits cmd 27 24 2) .ok)

end Sys2Proof.Machine
end

