-- ==== Sys2Proof/Machine/Linked.lean ====
section
/-! DEFINITION. Linked.lean: the timed changes that LINK joins: Sluice's COMMIT_AT (R119) and Lockkeeper's armed change (R183,
R184), with the pair commit they make on a pair (R295). -/
namespace Sys2Proof.Machine

/-! ### Records of stream 0 (R297, R298) -/

/-- A stream-0 record goes out on the twin link; it is sent again after 2 us (R297). -/
def State.sendCtrl (s : State) (type : Nat) (ws : List Word) : State :=
  if !s.twUp false then s else
  let f := s.twWords 0 type ws
  let s := s.twSend 0 type ws
  { s with twp := { s.twp with resend := s.twp.resend ++ [(false, s.nowQ, f)] } }

/-- The words of an instant: nanoseconds, seconds [31:0], seconds [47:32]. -/
def timeWords (t : Nat) : List Word := [word (nsOf t), word (secOf t), word (secOf t / 4294967296 % 65536)]

/-- The unit is the pair's active or its standby (R275). -/
def State.isActive (s : State) : Bool := s.pairEn && s.drives
def State.isStandby (s : State) : Bool := s.pairEn && !s.drives

/-! ### What is armed with LINK -/

/-- Instants at which changes are armed with LINK. -/
def State.slcLink (s : State) : Option Nat := match s.slc.armed with | some (t, true) => some t | _ => none
def State.lkpLink (s : State) : Option Nat := match s.lkp.change with | some c => if c.link then some (c.t / 250) else none | none => none

/-- The ports of Lockkeeper's armed change (PENDING_MASK). -/
def State.pendingMask (s : State) : Nat := match s.lkp.change with | some c => c.mask | none => 0

/-- A PAIR_COMMIT record for an instant (Table 13.7); its PORT_MASK is PENDING_MASK. -/
def State.pcWords (s : State) (sub t : Nat) : List Word :=
  let slc := s.slcLink == some t
  word (sub * 268435456 + (if slc then 134217728 else 0) + (s.slc.stage.getD 0) * 16777216 + s.pendingMask) :: s.rd TWP.PC_TAG :: timeWords t

/-- READY or GO for an instant counts no longer. -/
def State.pcForget (s : State) (t : Nat) : State :=
  { s with twp := { s.twp with pc := { ready := s.twp.pc.ready.filter (· != t), go := s.twp.pc.go.filter (· != t) } } }

/-- The active announces a change that it has armed with LINK; a READY for an earlier announcement no longer counts (R295). -/
def State.announce (s : State) (t : Nat) : State :=
  if s.isActive then (s.pcForget t).sendCtrl 4 (s.pcWords 1 t) else s

/-! ### COMMIT_AT and ARM -/

/-- COMMIT_AT (R119). -/
def State.verCommitAt (s : State) (link : Bool) : State :=
  if !s.released ∨ !s.bit SLC.VER_STATUS_STAGE_OPEN ∨ s.slc.armed.isSome then s.verRefuse
  else if s.commitT < s.nowQ + usQ then s.raise SLC.SLC_EVENT_COMMIT_LATE
  else
    let s := ({ s with slc := { s.slc with armed := some (s.commitT, link) } }).verLevels
    if link then s.announce s.commitT else s

def execVersionCommitAt (ini : Initiator) (link : Bool) (s : State) : Host.Outcome State Fault Refusal :=
  .next (s.writeAt ini SLC.VER_CMD fun s => s.verCommitAt link)

/-- ARM of CHANGE_CMD (R183). -/
def State.changeArm (s : State) (mask : Nat) (link : Bool) : State :=
  let t := s.changeT
  match s.armRefusal mask t with
  | some (cause, port) =>
    let s := (s.set LKP.CHANGE_STATUS_REFUSE_CAUSE cause).set LKP.CHANGE_STATUS_REFUSE_PORT port
    s.raise (if cause = 5 then LKP.LKP_EVENT_CHANGE_LATE else LKP.LKP_EVENT_CHANGE_REFUSED)
  | none =>
    let s := ({ s with lkp := { s.lkp with change := some { t := t * 250, mask := mask, link := link } } }).changeLevels
    if link then s.announce t else s

def execGateChangeArm (ini : Initiator) (mask : BitVec 16) (link : Bool) (s : State) : Host.Outcome State Fault Refusal :=
  .next (s.writeAt ini LKP.CHANGE_CMD fun s => s.changeArm mask.toNat link)

/-! ### Cancelling -/

/-- Lockkeeper's change is disarmed and CANCELLED sets (R183). -/
def State.changeCancel (s : State) : State := if s.lkp.change.isSome then s.changeDisarm.raise LKP.LKP_EVENT_CANCELLED else s

/-- Every change armed with LINK for an instant is cancelled (R119, R183). -/
def State.linkCancel (s : State) (t : Nat) : State :=
  let s := if s.slcLink = some t then s.verDisarm else s
  let s := if s.lkpLink = some t then s.changeCancel else s
  (s.pcForget t).setBit TWP.PAIR_STATUS_HELD false

/-- The armed commit is cancelled, with what is linked to it (R119). -/
def State.commitCancel (s : State) : State :=
  match s.slc.armed with
  | none => s
  | some (t, link) => if link then s.linkCancel t else s.verDisarm

/-- CANCEL of VER_CMD (R116, R119). -/
def State.verCancel (s : State) : State := if !s.released then s.verRefuse else s.commitCancel

def execVersionCancel (ini : Initiator) (s : State) : Host.Outcome State Fault Refusal :=
  .next (s.writeAt ini SLC.VER_CMD fun s => s.verCancel)

/-- ABANDON (R118). -/
def State.verAbandon (s : State) : State :=
  match s.slc.stage with
  | none => s.verRefuse
  | some n =>
    if !s.released ∨ s.slc.sweeps ≠ [] then s.verRefuse else
    let s := (s.commitCancel.setLive n false).setBit SLC.VER_STATUS_STAGE_OPEN false
    ({ s with slc := { s.slc with stage := none, commitNow := false, sweeps := [.abandon n] } }).verLevels

def execVersionAbandon (ini : Initiator) (s : State) : Host.Outcome State Fault Refusal :=
  .next (s.writeAt ini SLC.VER_CMD fun s => s.verAbandon)

/-- CANCEL of CHANGE_CMD (R183). -/
def State.gateCancel (s : State) : State :=
  match s.lkp.change with
  | none => s
  | some c => if c.link then s.linkCancel (c.t / 250) else s.changeCancel

def execGateChangeCancel (ini : Initiator) (s : State) : Host.Outcome State Fault Refusal :=
  .next (s.writeAt ini LKP.CHANGE_CMD fun s => s.gateCancel)

/-! ### Firing -/

/-- The oper reservation bank takes the admin entries with OUT p, at the same indices, and drops its other ones with OUT p
(R166). -/
def State.takeReservations (s : State) (p : Nat) : State :=
  let mine := fun (s : State) (tbl : Nat) =>
    (s.tabs.filter fun x => decide (x.1 / 1048576 = (7 * 16 + tbl) * 4) && x.1 % 32 == 0 && bitsOf x.2 31 31 == 1 && bitsOf x.2 19 16 == p).map
      fun x => x.1 % 1048576 / 32
  let s := s.each (mine s 1) fun s e => s.setEntry 7 1 0 e 0 [0, 0, 0, 0]
  s.each (mine s 0) fun s e => s.setEntry 7 1 0 e 0 (s.entry 7 0 0 e 4)

/-- A port takes its admin list, cycle, base, GATE_EN and reservations into oper (R180, R184). -/
def State.operTake (s : State) (p : Nat) : State :=
  let head := fun (bank : Nat) (x : Nat × Word) => decide (x.1 / 1048576 = (8 * 16 + bank) * 4) && x.1 % 1048576 / 32 / 1024 == p
  let adm := s.tabs.filter (head 0)
  let s := s.each (s.tabs.filter (head 1)) fun s x => { s with tabs := Sparse.erase s.tabs x.1 }
  let s := s.each adm fun s x => s.setTab (x.1 + 4194304) x.2
  let s := s.each [0, 4, 8, 12, 16] fun s o => s.wr ((LKP.OPER_CFG p) + o) (s.rd ((LKP.ADMIN_CFG p) + o))
  s.takeReservations p

/-- A port meets its new list: gates, hold, and the windows that open (R184, R191). A window without end opens nothing later, so
a set-aside copy of such a class rejoins (assumption 24). -/
def State.meetList (s : State) (p : Nat) : State :=
  let old := s.get (LKP.GATE_STATUS_GATES p)
  let s := { s with lkp := { s.lkp with eccShut := s.lkp.eccShut &&& ~~~(BitVec.ofNat 16 (2 ^ p)) } }
  let g := s.govern 1 p s.nowPs
  let s := if s.pmtActive p ∧ g.op = 1 then s.assertHold p else s.setHold p false
  let s := s.gateStatus p
  let ever := (List.range 8).foldl (fun m c => if (s.windowClose p c s.nowPs).isNone then m + 2 ^ c else m) 0
  s.rejoin p ((g.gates &&& (255 - old)) ||| ever)

/-- The armed change fires (R184). -/
def State.changeFire (s : State) : State :=
  match s.lkp.change with
  | none => s
  | some c =>
    let s := s.changeDisarm
    let s := s.each (maskPorts c.mask) fun s p => (s.operTake p).meetList p
    s.raise LKP.LKP_EVENT_CHANGED

/-- Every change armed with LINK for an instant fires in one tick (R119, R183). -/
def State.linkFire (s : State) (t : Nat) : State :=
  let s := if s.slcLink = some t then s.verFire t else s
  let s := if s.lkpLink = some t then s.changeFire else s
  (s.pcForget t).setBit TWP.PAIR_STATUS_HELD false

/-- A linked instant has come: a lone unit fires; the active fires when READY had arrived, the standby when GO has, and holds
otherwise (R295). -/
def State.linkDue (s : State) (t : Nat) : State :=
  if !s.pairEn then s.linkFire t
  else if t ∈ s.twp.pc.ready ∨ t ∈ s.twp.pc.go then s.linkFire t
  else if s.drives then s
  else s.setBit TWP.PAIR_STATUS_HELD true

/-- A commit falls due (R119). -/
def State.commitFire (s : State) : State :=
  match s.commitDue with
  | none => s
  | some t => if !s.slc.commitNow ∧ s.slcLink = some t then s.linkDue t else s.verFire t

def execCommitFire (s : State) : Host.Outcome State Fault Refusal := .next s.commitFire

/-- The first tick at or after T has come (R184). -/
def State.gateChangeFire (s : State) : State :=
  match s.lkp.change with
  | none => s
  | some c => if s.nowPs < c.t then s else if c.link then s.linkDue (c.t / 250) else s.changeFire

def execGateChangeFire (s : State) : Host.Outcome State Fault Refusal := .next s.gateChangeFire

end Sys2Proof.Machine
end

