-- ==== Sys2Proof/Machine/Key.lean ====
section
/-! DEFINITION. Key.lean: the key store, the life cycle and the OTP cells (chapter 11). Slots stand in Slots.lean. -/
namespace Sys2Proof.Machine

/-! ### Commands (R232 to R236) -/

/-- KEY_ATTR_IN is valid: VALID 1, HW 0, reserved fields 0 (Table 11.1). -/
def attrValid (a : Word) : Bool := bitsOf a 31 31 == 1 && bitsOf a 28 28 == 0 && a &&& 0x0F800F80 == 0

/-- USAGE of an attribute word within DERIVE_USAGE of the source. -/
def usageWithin (a src : Word) : Bool := word (bitsOf a 7 0) &&& ~~~(word (bitsOf src 23 16)) == 0

/-- The checks on a destination, in order: 1 BAD_SLOT, 2 LOCKED, 3 IN_USE, 5 BAD_ATTR (Table 11.2). -/
def State.destCheck (s : State) (slot : Nat) (extra : Bool) : Nat :=
  if slot = 0 then 1
  else if bitsOf (s.attr slot) 29 29 = 1 then 2
  else if 0 < s.refs slot then 3
  else if !attrValid (s.rd KEY.KEY_ATTR_IN) || extra then 5
  else 0

/-- The source's checks: 9 NOT_VALID, 4 DENIED; `usage` are the USAGE bits it must have. -/
def State.srcCheck (s : State) (usage : Word) : Nat :=
  let a := s.attr (s.get KEY.KEY_SRC_SRC)
  if bitsOf a 31 31 = 0 then 9
  else if a &&& usage != usage || !usageWithin (s.rd KEY.KEY_ATTR_IN) a then 4
  else 0

/-- Key material as KEY_DATA holds it. -/
def State.keyData (s : State) (n : Nat) : List Word := (List.range n).map fun w => s.rd (KEY.KEY_DATA w)

/-- Value words of a slot: a 128-bit key fills the first four. -/
def slotValue (a : Word) (ws : List Word) : List Word :=
  (if bitsOf a 30 30 = 1 then ws.take 8 else ws.take 4 ++ [0, 0, 0, 0])

/-- What a command does: its result, and the words it stores (Table 11.2). -/
def State.keyEffect (s : State) (op slot : Nat) : Nat × Option (List Word) :=
  let a := s.rd KEY.KEY_ATTR_IN
  let src := s.keyOctets (s.get KEY.KEY_SRC_SRC)
  let long := bitsOf a 30 30 == 1
  match op with
  | 1 =>
    let c := s.destCheck slot false
    (c, if c = 0 then some (slotValue a (s.keyData 8) ++ [a]) else none)
  | 2 =>
    let ll := s.get KEY.KDF_CFG_LABEL_LEN
    let cl := s.get KEY.KDF_CFG_CTX_LEN
    let d := s.destCheck slot (decide (16 < ll) || decide (32 < cl))
    let c := if d = 0 then s.srcCheck 0x40 else d
    let label := (wordOctets ((List.range 4).map fun w => s.rd (KEY.KDF_LABEL w))).take ll
    let ctx := (wordOctets ((List.range 8).map fun w => s.rd (KEY.KDF_CTX w))).take cl
      ++ (if s.bit KEY.KDF_CFG_UID then wordOctets ((List.range 4).map Config.uid) else [])
    (c, if c = 0 then some (slotValue a (octetWords 8 (kdf src label ctx (if long then 256 else 128))) ++ [a]) else none)
  | 3 =>
    let d := s.destCheck slot false
    let c := if d = 0 then s.srcCheck 0x60 else d
    let wrapped := wordOctets (s.keyData (if long then 10 else 6))
    if c ≠ 0 then (c, none) else
    match kwUnwrap src wrapped with
    | none => (6, none)
    | some k => (0, some (slotValue a (octetWords 8 k) ++ [a]))
  | 4 => if slot = 0 then (1, none) else if 0 < s.refs slot then (3, none) else (0, some (List.replicate 9 0))
  | 5 =>
    if slot = 0 then (1, none)
    else if bitsOf (s.attr slot) 31 31 = 0 then (9, none)
    else (0, some ((List.range 8).map (s.slotW slot) ++ [s.attr slot ||| 0x20000000]))
  | 6 => (0, none)
  | _ => (8, none)

/-- KEY_DATA is cleared, RESULT set and DONE raised at the end of every command (R233, Table 11.5). -/
def State.keyEnd (s : State) (res : Nat) : State :=
  let s := s.each (List.range 10) fun s w => s.wr (KEY.KEY_DATA w) 0
  let s := ({ s with key := { s.key with run := none } }).setBit KEY.KEY_STATUS_BUSY false
  (s.set KEY.KEY_STATUS_RESULT res).raise KEY.KEY_EVENT_DONE

/-- A write of KEY_CMD: ignored while BUSY, ended with ZEROIZED during the sweep, else checked and started (R232, R234, R241). -/
def State.keyCmd (s : State) (op slot : Nat) : State :=
  if s.bit KEY.KEY_STATUS_BUSY then s.raise KEY.KEY_EVENT_CMD_IGNORED else
  let s := s.set KEY.KEY_STATUS_SLOT slot
  if s.zeroizing then s.keyEnd 7 else
  let e := s.keyEffect op slot
  ({ s with key := { s.key with run := some { op := op, slot := slot, res := e.1, store := e.2 } } }).setBit KEY.KEY_STATUS_BUSY true

/-- The command that runs completes (R232, R233); a rewrite or erase of a slot that an association has come to use meanwhile is refused
with IN_USE (R234). -/
def State.keyCmdDone (s : State) : State :=
  match s.key.run with
  | none => s
  | some r =>
    if r.res = 0 ∧ 1 ≤ r.op ∧ r.op ≤ 4 ∧ 0 < s.refs r.slot then s.keyEnd 3 else
    let s := match r.store with | some ws => s.setEntry 12 0 0 r.slot 0 ws | none => s
    let s := if r.res = 0 ∧ (r.op = 2 ∨ r.op = 3) then s.bump KEY.DERIVE_CNT else s
    let s := if r.op = 6 then (s.wr KEY.INFO_ATTR (s.attr r.slot)).wr KEY.INFO_REF (word (s.refs r.slot)) else s
    s.keyEnd r.res

/-- The write of KEY_CMD with one OP by an initiator (R244). -/
def State.keyWriteCmd (s : State) (ini : Initiator) (op : Nat) (slot : BitVec 10) : State :=
  s.writeAt ini KEY.KEY_CMD fun s => s.keyCmd op slot.toNat

def execKeyWrite (ini : Initiator) (slot : BitVec 10) (s : State) : Host.Outcome State Fault Refusal := .next (s.keyWriteCmd ini 1 slot)
def execKeyDerive (ini : Initiator) (slot : BitVec 10) (s : State) : Host.Outcome State Fault Refusal := .next (s.keyWriteCmd ini 2 slot)
def execKeyUnwrap (ini : Initiator) (slot : BitVec 10) (s : State) : Host.Outcome State Fault Refusal := .next (s.keyWriteCmd ini 3 slot)
def execKeyErase (ini : Initiator) (slot : BitVec 10) (s : State) : Host.Outcome State Fault Refusal := .next (s.keyWriteCmd ini 4 slot)
def execKeyLock (ini : Initiator) (slot : BitVec 10) (s : State) : Host.Outcome State Fault Refusal := .next (s.keyWriteCmd ini 5 slot)
def execKeyInfo (ini : Initiator) (slot : BitVec 10) (s : State) : Host.Outcome State Fault Refusal := .next (s.keyWriteCmd ini 6 slot)
def execKeyCmdDone (s : State) : Host.Outcome State Fault Refusal := .next s.keyCmdDone

/-! ### Zeroization (R241, R261) -/

/-- Every VALID SA is marked KEY_LOST and KEY_LOST sets; copies in transmission on a secured output, also between two fragments, end
stomped with cause UNDERRUN, and frames under check fail (R261). -/
def State.keysLost (s : State) : State :=
  let sas := (s.tabs.filter fun x => decide (x.1 / 1048576 = (11 * 16 + 1) * 4) && x.1 % 32 == 0 && bitsOf x.2 31 31 == 1).map
    fun x => x.1 % 1048576 / 32
  let s := s.each sas fun s i => s.setTw 11 1 0 i 0 (s.tw 11 1 0 i 0 ||| 0x20000000)
  let on := fun (t : Option Tx) (c : Copy) => t.any fun t => t.cid == some c.cid && t.sec.isSome
  let onSa := fun (s : State) (c : Copy) => on (s.mac c.out).tx c || on (s.mac c.out).suspended c
  let s := { s with copies := s.copies.map fun (c : Copy) => if onSa s c then { c with stomp := some (c.stomp.getD .underrun) } else c }
  let s := { s with frames := s.frames.map fun (f : Frame) => { f with sec := f.sec.map fun (x : SecRx) => { x with lost := true } } }
  s.raise CPH.CPH_EVENT_KEY_LOST

/-- Every key slot is cleared (R241). -/
def State.slotsCleared (s : State) : State := { s with tabs := s.tabs.filter fun x => !decide (x.1 / 1048576 = 12 * 64) }

/-- Zeroization begins (R241): slots 1 to 1,023 and every REF_COUNT are cleared, requests in flight will end with KEY, a running
key command ends with ZEROIZED. -/
def State.zeroize (s : State) : State :=
  let s := s.slotsCleared
  let s := { s with la := { s.la with reqs := s.la.reqs.map fun (r : LaReq) => { r with killed := true, key := [] } } }
  let s := if s.key.run.isSome then s.keyEnd 7 else s
  (s.setBit KEY.KEY_STATUS_ZEROIZING true).keysLost

/-- The 8,192-clock sweep ends (R241). -/
def State.zeroizeDone (s : State) : State :=
  if s.zeroizing then ((s.setBit KEY.KEY_STATUS_ZEROIZING false).bump KEY.ZEROIZE_CNT).raise KEY.KEY_EVENT_ZEROIZED else s

/-! ### Debug enables (R238, R314) -/

/-- Debug of a pair is enabled by the life-cycle state and the grant (Table 14.2). -/
def State.dbgOpen (s : State) (sec : Bool) : Bool :=
  let g := bitsOf (word (s.get CPU.DBG_AUTH_STATUS_GRANTED)) (if sec then 1 else 0) (if sec then 1 else 0) == 1
  match s.get KEY.LC_STATUS_LC_STATE with
  | 0 => true
  | 1 => !sec || g
  | 3 => g
  | _ => true

/-- Security-pair debug becomes enabled: the test root is substituted and zeroization starts (R238). -/
def State.rootSubst (s : State) : State :=
  ((s.setBit KEY.LC_STATUS_DEBUG_ROOT true).zeroize).raise KEY.KEY_EVENT_ROOT_SUBST

/-- CTRL_DBG_EN and SEC_DBG_EN follow their conditions; a pair that becomes enabled sets DBG_ENABLED. -/
def State.dbgLevels (s : State) : State :=
  let c := s.dbgOpen false
  let x := s.dbgOpen true
  let newC := c && !s.bit CPU.CPU_STATUS_CTRL_DBG_EN
  let newX := x && !s.bit CPU.CPU_STATUS_SEC_DBG_EN
  let s := (s.setBit CPU.CPU_STATUS_CTRL_DBG_EN c).setBit CPU.CPU_STATUS_SEC_DBG_EN x
  let s := if newC || newX then s.raise CPU.CPU_EVENT_DBG_ENABLED else s
  if newX then s.rootSubst else s

/-! ### Life cycle and OTP (R239 to R243) -/

/-- The state that a pattern of the three cells reads as (Table 11.3): a pattern not listed reads as RMA. -/
def lcState (cells : BitVec 3) : Nat := match cells.toNat with | 0 => 0 | 1 => 1 | 3 => 3 | _ => 7

/-- The next state of the table. -/
def lcNext (lc : Nat) : Option Nat := match lc with | 0 => some 1 | 1 => some 3 | 3 => some 7 | _ => none

/-- What the OTP cells give at a cold reset: the life-cycle state, the anti-rollback counter, the split option, the root in slot 0 and
the debug enables of Table 14.2 (R237, R239, R243, R310, R314). -/
def State.cellsRead (s : State) : State :=
  let lc := lcState s.key.lc
  let s := (s.set KEY.LC_STATUS_LC_STATE lc).set KEY.OTP_ARB_VALUE s.key.arb
  let s := ((s.set KEY.OTP_SPLIT_CHANGES s.key.split).set KEY.OTP_SPLIT_VALUE (s.key.split % 2)).setBit CPU.CPU_STATUS_SPLIT (s.key.split % 2 == 1)
  let s := (s.setBit CPU.CPU_STATUS_CTRL_DBG_EN (s.dbgOpen false)).setBit CPU.CPU_STATUS_SEC_DBG_EN (s.dbgOpen true)
  s.setBit KEY.LC_STATUS_DEBUG_ROOT (lc != 1 && lc != 3)

/-- An OTP or LC command ends with a result (Table 11.5). -/
def State.otpEnd (s : State) (res : Nat) : State :=
  (({ s with key := { s.key with otp := none } }).setBit KEY.OTP_STATUS_BUSY false).set KEY.OTP_STATUS_RESULT res |>.raise KEY.KEY_EVENT_OTP_DONE

/-- OTP programming starts. -/
def State.otpStart (s : State) (r : OtpRun) : State :=
  ({ s with key := { s.key with otp := some r } }).setBit KEY.OTP_STATUS_BUSY true

/-- LC_CMD (R240); a write while an OTP or LC command runs has no effect (assumption 26). -/
def State.lcCmd (s : State) (w : Word) : State :=
  if s.bit KEY.OTP_STATUS_BUSY then s
  else if bitsOf w 31 16 ≠ 0x4C43 then s.otpEnd 2
  else
    let t := bitsOf w 2 0
    if lcNext (s.get KEY.LC_STATUS_LC_STATE) ≠ some t ∨ (t = 7 ∧ !s.key.authSec) then s.otpEnd 4
    else s.zeroize.otpStart (.lc (BitVec.ofNat 3 t))

/-- ARB_ADVANCE (R243). -/
def State.arbAdvance (s : State) (w : Word) : State :=
  let t := bitsOf w 14 8
  if s.bit KEY.OTP_STATUS_BUSY then s
  else if bitsOf w 31 16 ≠ 0x4F54 then s.otpEnd 2
  else if t ≤ s.key.arb then s.otpEnd 0
  else if 64 < t then s.otpEnd 1
  else s.otpStart (.arb t)

def execArbAdvance (ini : Initiator) (value : Word) (s : State) : Host.Outcome State Fault Refusal :=
  .next (s.writeAt ini KEY.OTP_CMD fun s => s.arbAdvance value)

/-- SPLIT_TOGGLE (R243). -/
def State.splitToggle (s : State) (w : Word) : State :=
  if s.bit KEY.OTP_STATUS_BUSY then s
  else if bitsOf w 31 16 ≠ 0x4F54 then s.otpEnd 2
  else if 3 ≤ s.key.split then s.otpEnd 1
  else s.otpStart .split

def execSplitToggle (ini : Initiator) (value : Word) (s : State) : Host.Outcome State Fault Refusal :=
  .next (s.writeAt ini KEY.OTP_CMD fun s => s.splitToggle value)

/-- One more bit of the anti-rollback counter is set; the command ends when the target is reached. -/
def State.arbBit (s : State) (target : Nat) : State :=
  let n := s.key.arb + 1
  let s := ({ s with key := { s.key with arb := n } }).set KEY.OTP_ARB_VALUE n
  if target ≤ n then s.otpEnd 0 else s

/-- LC_STATE takes what the cells say, and the debug enables follow it (R314); at the step to RMA the test root enters slot 0 (R240). -/
def State.lcTaken (s : State) : State :=
  let lc := lcState s.key.lc
  let s := s.set KEY.LC_STATUS_LC_STATE lc
  (if lc = 7 then s.setBit KEY.LC_STATUS_DEBUG_ROOT true else s).dbgLevels

/-- The life-cycle bit has verified: LC_STATE changes (R240). -/
def State.lcBit (s : State) (t : BitVec 3) : State := ({ s with key := { s.key with lc := t } }).lcTaken.otpEnd 0

/-- One bit has been programmed and read back: it reads 1, or it still reads 0 (R242, R243). The update engine's part of an
advance at confirmation follows in Upd.lean. -/
def State.otpBitDone (s : State) (ok : Bool) : State :=
  match s.key.otp with
  | none => s
  | some r =>
    if !ok then (s.raise KEY.KEY_EVENT_OTP_FAIL).otpEnd 3
    else match r with
      | .lc t => s.lcBit t
      | .arb t => s.arbBit t
      | .confirm t => s.arbBit t
      | .split => (({ s with key := { s.key with split := s.key.split + 1 } }).set KEY.OTP_SPLIT_CHANGES (s.key.split + 1)).otpEnd 0

end Sys2Proof.Machine
end

