-- ==== Sys2Proof/Machine/Cph.lean ====
section
/-! DEFINITION. Cph.lean: the cipher block's tables, the ICV result, and the look-aside engine (chapter 12). -/
namespace Sys2Proof.Machine

/-! ### Tables (R249, R250) -/

def State.cphResult (s : State) (res : Nat) : State := (s.setBit CPH.TBL_STATUS_BUSY false).set CPH.TBL_STATUS_RESULT res

/-- Defined bits of an SC entry; SC 0 of a port is its transmit SC (Table 12.1). -/
def scMask (idx w : Nat) : Word :=
  if w = 0 then (if idx % 8 = 0 then 0xBF000000 else 0xC0000000)
  else if w = 3 then (if idx % 8 = 0 then 0 else 0xFFFFFFFF) else 0xFFFFFFFF

/-- Defined bits of an SA entry; PAIRED belongs to transmit SAs, SSCI, SALT and NEXT_PN_HI to XPN suites (Table 12.2). -/
def saMask (tx xpn : Bool) (w : Nat) : Word :=
  if w = 0 then (if tx then 0xE00003FF else 0xA00003FF)
  else if w = 5 then 0xFFFFFFFF
  else if w = 7 then 0
  else if xpn then 0xFFFFFFFF else 0

/-- An SA belongs to the transmit SC of its port. -/
def txSa (idx : Nat) : Bool := idx % 32 < 4

/-- The slot meets the conditions of R250 for a port's suite; a refusal by the key store is counted there (R229). -/
def State.saSlotOk (s : State) (port slot : Nat) : Bool × State :=
  if !s.keyGrants slot 0 12 then (false, s.keyDenied)
  else (bitsOf (s.attr slot) 30 30 == s.get (CPH.PORT_SEC_CFG_SUITE port) % 2, s)

/-- WRITE of an SA entry (R250); a transmit SA that it puts at or above PN_THRESH has reached it (R253). One of a 32-bit suite that is out
of PN has bit 32 set in its NEXT_PN (R252), which a WRITE may leave as it stands. -/
def State.saWrite (s : State) (idx : Nat) (ws : List Word) : State :=
  let port := idx / 32
  let tx := txSa idx
  let old := s.entry 11 1 0 idx 8
  let was := bitsOf (old.getD 0 0) 31 31 == 1
  let valid := bitsOf (ws.getD 0 0) 31 31 == 1
  let slot := bitsOf (ws.getD 0 0) 9 0
  let pn := (ws.getD 6 0).toNat * 4294967296 + (ws.getD 5 0).toNat
  let past := fun (w : Nat) => if tx && was && w == 6 then old.getD 6 0 else 0
  if (List.range 8).any fun w => !legalWord (ws.getD w 0) (saMask tx (s.xpn port) w ||| past w) then s.cphResult 6
  else if was && (bitsOf (old.getD 0 0) 9 0 != slot || (ws.drop 1).take 4 != (old.drop 1).take 4) then s.cphResult 10
  else if was && tx && decide (pn < s.nextPn idx) then s.cphResult 12
  else
    let x := if valid then s.saSlotOk port slot else (true, s)
    if !x.1 then x.2.cphResult 11 else
    let s := x.2
    let lost := bitsOf (old.getD 0 0) 29 29
    let w0 := putBits (ws.getD 0 0) 29 29 (if was && valid then lost else 0)
    let s := if !was && valid then s.refTake slot else if was && !valid && lost == 0 then s.refDrop slot else s
    let s := { s with cph := { s.cph with raised := s.cph.raised.filter fun n => n / 2 != idx } }
    let s := s.setEntry 11 1 0 idx 0 (w0 :: ws.drop 1)
    (if tx && valid then s.pnMoved idx else s).cphResult 0

/-- Runs a table command: 1 READ, 2 WRITE (Table 12.5). -/
def State.cphRun (s : State) (cmd : Word) (ecc : EccState) : State :=
  let tbl := bitsOf cmd 31 28
  let op := bitsOf cmd 27 24
  let idx := bitsOf cmd 8 0
  if 2 < tbl ∨ (op ≠ 1 ∧ ¬(op = 2 ∧ tbl < 2)) then s.cphResult 8
  else if tbl = 0 ∧ 128 ≤ idx then s.cphResult 2
  else if op = 2 then
    let ws := s.window (CPH.TBL_DATA 0) 8
    if tbl = 1 then s.saWrite idx ws
    else if (List.range 4).any fun w => !legalWord (ws.getD w 0) (scMask idx w) then s.cphResult 6
    else (s.setEntry 11 0 0 idx 0 (ws.take 4)).cphResult 0
  else if ecc = .uncorrectable then
    ((if s.bit CPH.CPH_EVENT_ECC_UNCORR then s else s.wr CPH.ECC_INFO (word (tbl * 268435456 + idx))).raise CPH.CPH_EVENT_ECC_UNCORR).cphResult 7
  else
    let s := s.fillWindow (CPH.TBL_DATA 0) 8 (s.entry 11 tbl 0 idx (if tbl = 0 then 4 else 8))
    (if tbl = 2 then s.setEntry 11 2 0 idx 0 (List.replicate 8 0) else s).cphResult 0

/-- The write of TBL_CMD by an initiator (R397). -/
def State.cphTable (s : State) (ini : Initiator) (cmd : Word) (ecc : EccState) : State :=
  s.tableWrite ini 5 CPH.TBL_CMD false fun s => s.cphRun cmd ecc

def execCphTblRead (ini : Initiator) (cmd : Word) (ecc : EccState) (s : State) : Host.Outcome State Fault Refusal :=
  .next (s.cphTable ini (putBits cmd 27 24 1) ecc)
def execCphTblWrite (ini : Initiator) (cmd : Word) (s : State) : Host.Outcome State Fault Refusal :=
  .next (s.cphTable ini (putBits cmd 27 24 2) .ok)

/-- A write of PORT_SEC_CFG: while an SA of the port is VALID, a write that changes it is ignored and sets CFG_LOCKED (R245). -/
def State.secCfgWrite (s : State) (p : Nat) (w : Word) : State :=
  let a := (CPH.PORT_SEC_CFG_SECURED p).addr
  let live := (List.range 32).any fun k => bitsOf (s.saW (32 * p + k) 0) 31 31 == 1
  if live && (s.rd a ^^^ w) &&& 0x7F != 0 then s.raise CPH.CPH_EVENT_CFG_LOCKED else s.plainWrite a w

/-- The unit's claim becomes the higher one after a takeover: the NEXT_PN of every PAIRED transmit SA rises by PN_SKIP (R254). -/
def State.pnSkip (s : State) : State :=
  let sas := (s.tabs.filter fun x => decide (x.1 / 1048576 = (11 * 16 + 1) * 4) && x.1 % 32 == 0 && bitsOf x.2 31 30 == 3 &&
    txSa (x.1 % 1048576 / 32)).map fun x => x.1 % 1048576 / 32
  s.each sas fun s sa => (s.setNextPn sa (min (2 ^ 64 - 1) (s.nextPn sa + (s.rd CPH.PN_SKIP).toNat))).pnMoved sa

/-! ### Core data memories (Table 14.1) -/

/-- The key of a byte of a pair's data memory: pair 0 control, 1 security. -/
def memKey (pair addr : Nat) : Nat := pair * 4294967296 + addr
def State.memByte (s : State) (pair addr : Nat) : Byte := Sparse.get (fun _ => 0) s.mem (memKey pair addr)
def State.setMem (s : State) (pair addr : Nat) (b : Byte) : State := { s with mem := Sparse.set (fun _ => 0) s.mem (memKey pair addr) b }

/-- n bytes from an address, and bytes stored from an address. -/
def State.memBytes (s : State) (pair addr n : Nat) : Bytes := (List.range n).map fun k => s.memByte pair (addr + k)
def State.memStore (s : State) (pair addr : Nat) : Bytes → State
  | [] => s
  | b :: rest => State.memStore (s.setMem pair addr b) pair (addr + 1) rest

/-- Addresses of a pair's data RAM. -/
def inDataRam (pair addr n : Nat) : Bool :=
  decide (0x10000000 ≤ addr) && decide (addr + n ≤ 0x10000000 + (if pair = 0 then 0x80000 else 0x10000))

/-! ### Bytes of a buffer -/

/-- Byte i of a frame's buffer, where it is known: the frame, its FCS, or what has been written beyond. -/
def Frame.bufByte (f : Frame) (i : Nat) : Option Byte :=
  if i < f.data.length then f.data[i]?
  else match f.extra.find? fun x => x.1 == i with
    | some x => some x.2
    | none => (fcsOf f.data)[i - f.data.length]?

/-- Bytes of a buffer; what no frame has written is a free value (assumption 3). -/
def State.bufBytes (s : State) (f : Frame) (off n : Nat) : Bytes × State :=
  (List.range n).foldl (fun a k =>
    match f.bufByte (off + k) with
    | some b => (a.1 ++ [b], a.2)
    | none => let x := a.2.draw; (a.1 ++ [x.1.setWidth 8], x.2)) ([], s)

/-- Bytes stored into a buffer from an offset on. -/
def Frame.bufStore (f : Frame) (off : Nat) : Bytes → Frame
  | [] => f
  | b :: rest =>
    Frame.bufStore (if off < f.data.length then { f with data := f.data.set off b } else { f with extra := Sparse.insert f.extra off b }) (off + 1) rest

/-! ### The look-aside engine (R263 to R268) -/

/-- Fields of a request (Table 12.3). -/
def LaReq.w (r : LaReq) (k : Nat) : Word := r.words.getD k 0
def LaReq.op (r : LaReq) : Nat := bitsOf (r.w 0) 31 28
def LaReq.src (r : LaReq) : Nat := bitsOf (r.w 0) 27 26
def LaReq.dst (r : LaReq) : Nat := bitsOf (r.w 0) 25 24
def LaReq.ctrEn (r : LaReq) : Bool := bitsOf (r.w 0) 23 23 == 1
def LaReq.ctrNo (r : LaReq) : Nat := bitsOf (r.w 0) 22 19
def LaReq.slot (r : LaReq) : Nat := bitsOf (r.w 0) 9 0
def LaReq.tagNo (r : LaReq) : Nat := bitsOf (r.w 1) 31 16
def LaReq.macLen (r : LaReq) : Nat := bitsOf (r.w 1) 12 8
def LaReq.aadLen (r : LaReq) : Nat := bitsOf (r.w 2) 31 16
def LaReq.textLen (r : LaReq) : Nat := bitsOf (r.w 2) 15 0
def LaReq.cmac (r : LaReq) : Bool := decide (r.op ≤ 2)

/-- Bytes of the IV that the source holds. -/
def LaReq.ivLen (r : LaReq) : Nat := if r.op = 4 ∨ (r.op = 3 ∧ !r.ctrEn) then 12 else 0

/-- Bytes that the source holds (R265). -/
def LaReq.srcLen (r : LaReq) : Nat :=
  r.ivLen + r.aadLen + r.textLen + (if r.op = 4 then 16 else if r.op = 2 then r.macLen else 0)

/-- Bytes that the request writes. -/
def LaReq.outLen (r : LaReq) : Nat := if r.op = 3 then r.textLen + 16 else if r.op = 4 then r.textLen else 0

/-- Slice, pool, index and generation that SRC names. -/
def LaReq.slice (r : LaReq) : Nat := bitsOf (r.w 3) 31 28
def LaReq.handle (r : LaReq) : Nat := bitsOf (r.w 3) 23 0
def State.laBuf (s : State) (r : LaReq) : Option Buf := s.buf? r.slice (r.handle / 4194304 % 4) (r.handle % 65536)

/-- Size of the pool that SRC names. -/
def laPool (r : LaReq) : Nat := match r.handle / 4194304 % 4 with | 0 => 256 | 1 => 1024 | 2 => 2048 | _ => 9728

/-- BAD_REQ (R265). -/
def LaReq.bad (r : LaReq) : Bool :=
  r.op == 0 || decide (4 < r.op) || r.src == 3 || r.dst == 3 || decide (9728 < r.textLen)
    || (r.cmac && (r.macLen == 0 || decide (16 < r.macLen) || r.aadLen != 0))
    || (r.dst == 0 && !r.cmac) || (r.dst == 1 && r.src != 1)
    || (r.src == 0 && decide (96 < r.srcLen))
    || (r.src == 1 && (r.who == 2 || decide (laPool r < (r.w 4).toNat + r.srcLen)))
    || (r.dst == 1 && decide (laPool r < (r.w 5).toNat + r.outLen))
    || (r.src == 2 && !inDataRam (r.who - 1) (r.w 3).toNat r.srcLen)
    || (r.dst == 2 && !inDataRam (r.who - 1) (r.w 5).toNat r.outLen)
    || (r.ctrEn && (r.op == 2 || r.op == 4 || r.ctrNo / 8 + 1 != r.who))

/-- The agent bit of a requester: 15 gateway engine, 17 control pair. -/
def LaReq.agent (r : LaReq) : Nat := if r.who = 0 then 15 else 17

/-- OWNER: a stale handle, an owner mask without the requester's bit, or LA_REFS above 15 (R265). -/
def State.laForeign (s : State) (r : LaReq) : Bool :=
  match s.laBuf r with
  | none => true
  | some b => b.gen != r.handle / 65536 % 64 || !b.owner.getLsbD r.agent || decide (15 ≤ b.laRefs)

/-- The requester's USERS bit and the operation's USAGE bit. -/
def LaReq.users (r : LaReq) : Nat := 13 + r.who
def LaReq.usage (r : LaReq) : Nat := r.op

/-- A look-aside counter's value (R266). -/
def State.laCtr (s : State) (c : Nat) : Nat := (s.rd (CPH.LA_CTR_HI c)).toNat * 4294967296 + (s.rd (CPH.LA_CTR_LO c)).toNat
def State.setLaCtr (s : State) (c v : Nat) : State := (s.wr (CPH.LA_CTR_LO c) (word v)).wr (CPH.LA_CTR_HI c) (word (v / 4294967296))

/-- The first check that fails: 3 BAD_REQ, 4 OWNER, 1 KEY, 5 CTR_EXHAUSTED; 0 none (R265, R266). -/
def State.laCheck (s : State) (r : LaReq) : Nat :=
  if r.bad then 3
  else if r.src = 1 ∧ s.laForeign r then 4
  else if !s.keyGrants r.slot r.usage r.users then 1
  else if r.ctrEn ∧ s.laCtr r.ctrNo = 2 ^ 64 - 1 then 5
  else 0

/-- A result entry (R268). -/
def laResult (r : LaReq) (res : Nat) (mac : Bytes) : List Word :=
  let c := r.ctr.getD 0
  [word (r.tagNo * 65536 + res * 4096), word c, word (c / 4294967296), 0] ++ octetWords 4 (mac ++ zeros (16 - mac.length))

/-- Results that wait for a requester. -/
def State.laPosted (s : State) (who : Nat) : Nat := if who = 1 then s.la.resCtrl.length else if who = 2 then s.la.resSec.length else 0

/-- An entry enters its requester's result queue, which holds 64 (R268); one that finds it full waits for room (assumption 30). -/
def State.laEnter (s : State) (who : Nat) (e : List Word) : State :=
  if 64 ≤ s.laPosted who then { s with la := { s.la with owed := s.la.owed ++ [(who, e)] } }
  else if who = 1 then { s with la := { s.la with resCtrl := s.la.resCtrl ++ [e] } }
  else { s with la := { s.la with resSec := s.la.resSec ++ [e] } }

/-- Posts a result to its requester's queue. -/
def State.laPost (s : State) (r : LaReq) (res : Nat) (mac : Bytes) : State := s.laEnter r.who (laResult r res mac)

/-- Room in a requester's result queue: the oldest entry that waits for it enters. -/
def State.laSettle (s : State) (who : Nat) : State :=
  match s.la.owed.find? fun x => x.1 == who with
  | none => s
  | some x => ({ s with la := { s.la with owed := s.la.owed.erase x } }).laEnter who x.2

/-- Requests of a requester. -/
def State.laCount (s : State) (who : Nat) : Nat :=
  (s.la.reqs.filter fun r => r.who == who).length + (s.la.held.filter fun r => r.who == who).length

/-- Places of a core that a request takes: a core interleaves 16 CMAC requests, and one GCM request fills a core (R269). -/
def LaReq.places (r : LaReq) : Nat := if r.cmac then 1 else 16

/-- The request at a place of the queue has started: the requests up to it in order of acceptance find room in the four cores
(R263, R269), or zeroization has ended it (R241). -/
def State.laStarted (s : State) (idx : Nat) (r : LaReq) : Bool :=
  r.killed || decide ((((s.la.reqs.take (idx + 1)).map LaReq.places).foldl (· + ·) 0) ≤ 64)

/-- The share of a requester. -/
def laShare (who : Nat) : Nat := if who = 0 then 128 else 64

/-- A request passes its checks and is queued: it takes its key, its counter value and a reference on its buffer (R229, R265, R266). -/
def State.laAccept (s : State) (r : LaReq) : State :=
  let x := if r.ctrEn then (some (s.laCtr r.ctrNo), s.setLaCtr r.ctrNo (s.laCtr r.ctrNo + 1)) else (none, s)
  let s := x.2
  let y := match (if r.src = 1 then s.laBuf r else none) with
    | some b => (some b.fid, s.putBuf { b with laRefs := b.laRefs + 1, owner := b.owner ||| BitVec.ofNat 18 65536 })
    | none => (none, s)
  let r := { r with key := s.keyOctets r.slot, ctr := x.1, fid := y.1 }
  { y.2 with la := { y.2.la with reqs := y.2.la.reqs ++ [r] } }

/-- The checks on a submission of a core pair, and what follows; answers LA_SUB_STATUS: 1 accepted, 3 refused with its result posted. -/
def State.laTake (s : State) (r : LaReq) : Nat × State :=
  let c := s.laCheck r
  if c = 0 then (1, s.laAccept r)
  else (3, (if c = 1 then s.keyDenied else s).laPost r c [])

/-- The frame whose buffer a request names is UNVERIFIED and its result not yet known (R259). -/
def State.laWaits (s : State) (r : LaReq) : Option Nat :=
  if r.src = 1 ∧ !r.bad ∧ !s.laForeign r then
    match s.laBuf r with
    | some b => (match s.frame? b.fid with | some f => if f.verified then none else some f.fid | none => none)
    | none => none
  else none

/-- Base address of a core pair's look-aside interface. -/
def laBase (sec : Bool) : Nat := if sec then CPH.SEC_LA_REQ 0 else CPH.LA_REQ 0

/-- LA_SUBMIT with GO set (R263, R264). A submission that would be refused with its result posted finds FULL while its result
queue has no room (assumption 30). -/
def State.laSubmit (s : State) (sec : Bool) : State :=
  let base := laBase sec
  let who := if sec then 2 else 1
  let f := if sec then CPH.SEC_LA_SUB_STATUS_RESULT else CPH.LA_SUB_STATUS_RESULT
  let r : LaReq := { who := who, words := s.window base 8, key := [], imm := wordOctets (s.window (base + 0x20) 24) }
  if laShare who ≤ s.laCount who ∨ (64 ≤ s.laPosted who ∧ s.laCheck r ≠ 0) then s.set f 2 else
  let s := s.each (List.range 32) fun s k => s.wr (base + 4 * k) 0
  match s.laWaits r with
  | some fid => ({ s with la := { s.la with held := s.la.held ++ [{ r with fid := some fid }] } }).set f 0
  | none => let x := s.laTake r; x.2.set f x.1

def execLaSubmit (ini : Initiator) (sec : Bool) (s : State) : Host.Outcome State Fault Refusal :=
  .next (s.writeAt ini (if sec then CPH.SEC_LA_SUBMIT else CPH.LA_SUBMIT) fun s => s.laSubmit sec)

/-- The result of an UNVERIFIED frame is known: held submissions that name it are taken, or discarded with it (R259, R260). -/
def State.laHeldGo (s : State) (fid : Nat) (pass : Bool) : State :=
  let mine := s.la.held.filter fun r => r.fid == some fid
  let s := { s with la := { s.la with held := s.la.held.filter fun r => r.fid != some fid } }
  if !pass then s else
  s.each mine fun s r =>
    let x := s.laTake { r with fid := none }
    x.2.set (if r.who = 2 then CPH.SEC_LA_SUB_STATUS_RESULT else CPH.LA_SUB_STATUS_RESULT) x.1

/-- The source bytes of a request. -/
def State.laSource (s : State) (r : LaReq) : Bytes × State :=
  match r.src with
  | 0 => (r.imm.take r.srcLen, s)
  | 1 => match r.fid.bind s.frame? with
    | some f => s.bufBytes f (r.w 4).toNat r.srcLen
    | none => ([], s)
  | _ => (s.memBytes (r.who - 1) (r.w 3).toNat r.srcLen, s)

/-- The destination takes bytes. -/
def State.laDest (s : State) (r : LaReq) (d : Bytes) : State :=
  match r.dst with
  | 1 => match r.fid.bind s.frame? with
    | some f => s.putFrame (f.bufStore (r.w 5).toNat d)
    | none => s
  | 2 => s.memStore (r.who - 1) (r.w 5).toNat d
  | _ => s

/-- A corrected error at the source counts in the memory's own counter (R159, R304). -/
def State.laCorr (s : State) (r : LaReq) : State :=
  match r.src with
  | 1 => s.bump BSN.PKT_ECC_CORR_CNT
  | 2 => s.bump CPU.MEM_ECC_CORR_CNT
  | _ => s

/-- An uncorrectable error at the source: the memory's own event. -/
def State.laEcc (s : State) (r : LaReq) : State :=
  match r.src with
  | 1 =>
    let s := if s.bit BSN.BSN_EVENT_PKT_ECC_UNCORR then s else s.wr BSN.ECC_INFO (word (r.slice * 268435456 + r.handle))
    (s.bump BSN.PKT_ECC_UNCORR_CNT).raise BSN.BSN_EVENT_PKT_ECC_UNCORR
  | 2 =>
    let s := if s.bit CPU.CPU_EVENT_MEM_ECC_UNCORR then s else
      s.wr CPU.MEM_ECC_INFO (word ((if r.who = 2 then 4 else 1) * 268435456 + ((r.w 3).toNat - 0x10000000)))
    (s.bump CPU.MEM_ECC_UNCORR_CNT).raise CPU.CPU_EVENT_MEM_ECC_UNCORR
  | _ => s

/-- What a request computes: RESULT, the MAC returned, and the destination written (R265 to R267). -/
def State.laCompute (s : State) (r : LaReq) : Nat × Bytes × State :=
  let x := s.laSource r
  let d := x.1
  let s := x.2
  let ctr8 := match r.ctr with | some v => toBE 8 v | none => []
  match r.op with
  | 1 => (0, (cmac r.key (d.take r.textLen ++ ctr8)).take r.macLen, s)
  | 2 => (if (cmac r.key (d.take r.textLen)).take r.macLen = (d.drop r.textLen).take r.macLen then 0 else 2, [], s)
  | op =>
    let iv := if r.ctrEn then wordOctets [s.rd (CPH.LA_IV_FIXED r.ctrNo)] ++ ctr8 else d.take 12
    let d := d.drop r.ivLen
    let aad := d.take r.aadLen
    let text := (d.drop r.aadLen).take r.textLen
    if op = 3 then
      let ct := gcmStream r.key iv text
      (0, [], s.laDest r (ct ++ gcmTag r.key iv aad ct))
    else if gcmTag r.key iv aad text = (d.drop (r.aadLen + r.textLen)).take 16 then
      (0, [], s.laDest r (gcmStream r.key iv text))
    else (2, [], s.laDest r (zeros r.textLen))

/-- Request number `idx` in order of acceptance completes: RESULT, MAC; its buffer reference is released (R241, R263, R265). -/
def State.laFinish (s : State) (idx : Nat) (r : LaReq) (ecc : EccState) : Nat × Bytes × State :=
  let s := { s with la := { s.la with reqs := s.la.reqs.eraseIdx idx } }
  let x := if r.killed then (1, [], s) else if ecc = .uncorrectable then (6, [], s.laEcc r)
    else (if ecc = .corrected then s.laCorr r else s).laCompute r
  let s := if r.src = 1 then (x.2.2.releaseBuf 16 r.slice r.handle).2 else x.2.2
  (x.1, x.2.1, s)

/-- The read of LA_RES7 removes the head result (R268). -/
def State.laResultPop (s : State) (sec : Bool) : Word × State :=
  if sec then ((s.la.resSec.headD []).getD 7 0, ({ s with la := { s.la with resSec := s.la.resSec.tail } }).laSettle 2)
  else ((s.la.resCtrl.headD []).getD 7 0, ({ s with la := { s.la with resCtrl := s.la.resCtrl.tail } }).laSettle 1)

def execLaResultRead (ini : Initiator) (sec : Bool) (s : State) : Host.Outcome State Fault Refusal :=
  .next (s.readAt ini (if sec then CPH.SEC_LA_RES 7 else CPH.LA_RES 7) fun s => s.laResultPop sec)

/-- A write of LA_CTR_HI applies {HI, staged LO} when it raises the counter, else sets CTR_REFUSED (R266). -/
def State.laCtrHi (s : State) (c : Nat) (hi : Word) : State :=
  let v := hi.toNat * 4294967296 + (assocD s.la.staged c 0).toNat
  if s.laCtr c < v then s.setLaCtr c v else s.raise CPH.CPH_EVENT_CTR_REFUSED

/-- A write of LA_CTR_LO stages the low word. -/
def State.laCtrLo (s : State) (c : Nat) (lo : Word) : State := { s with la := { s.la with staged := assocSet s.la.staged c lo } }

def execLaCtrWrite (ini : Initiator) (ctr : Fin 16) (value : Word) (s : State) : Host.Outcome State Fault Refusal :=
  .next (s.writeAt ini (CPH.LA_CTR_HI ctr) fun s => s.laCtrHi ctr value)

/-! ### The ICV result (R257 to R260) -/

/-- The deliveries of a frame to the control cores are counted, now that its result is known (R259). -/
def State.countDeliveries (s : State) (fid : Nat) : State :=
  s.each (s.slc.slow.filter fun e => e.fid == fid) fun s e => s.countDelivery (bitsOf (e.hdr.getD 0 0) 31 24)

/-- A frame has passed. -/
def State.icvPassed (s : State) (f : Frame) (x : SecRx) : State :=
  let s := (s.saCount x.sa 0).setNextPn x.sa (max (s.nextPn x.sa) (x.pn + 1))
  let s := (s.putFrame { f with icvWait := false }).countDeliveries f.fid
  let s := if f.unverified then (s.bump (CPH.FBV_PASS_CNT f.inPort)).laHeldGo f.fid true else s
  s.admitInternal f.fid

/-- The ICV of a frame has failed: a held frame is discarded; an UNVERIFIED one fails under R260. -/
def State.icvFailed (s : State) (f : Frame) (x : SecRx) : State :=
  let s := s.saCount x.sa 2
  if !f.unverified then s.dropUnqueued f.fid else
  let s := s.bump (CPH.FBV_FAIL_CNT f.inPort)
  let s := match f.stream with | some c => s.ctxEvent c 4 f.inPort 3 | none => s
  let s := (s.undoRecovery f).raise CPH.CPH_EVENT_FBV_FAIL
  let s := (s.putFrame { f with icvWait := false }).laHeldGo f.fid false
  if f.handle.isSome then s.failFrame f.fid .fbv else s.endFrame f.fid

/-- 12 ns after the ICV's last byte (R257); the result waits while the data path stands still (R23). -/
def State.icvResult (s : State) (fid : Nat) : State :=
  if s.stalled then s else
  match s.frame? fid with
  | none => s
  | some f =>
    match f.sec with
    | none => s
    | some x =>
      if !f.icvWait then s else
      if f.icvOk then s.icvPassed f x else s.icvFailed f x

end Sys2Proof.Machine
end

