-- ==== Sys2Proof/Machine/Can.lean ====
section
/-! DEFINITION. Can.lean: the CAN FD channel controllers (chapter 10, R202 to R217). -/
namespace Sys2Proof.Machine

/-! ### Modes and timing (R203, R204) -/

/-- MODE of CH_CTRL, and the operation that it asks for: an isolated channel acts as MODE OFF (R375). -/
def State.canCfg (s : State) (c : Nat) : Nat := s.get (CAN.CH_CTRL_MODE c)
def State.canMode (s : State) (c : Nat) : Nat := if bitsOf (s.rd WAK.ISOLATED) c c = 1 then 0 else s.canCfg c

/-- The claim asks a paired channel to be gated (R216). -/
def State.canWantGate (s : State) (c : Nat) : Bool := s.pairEn && s.bit (CAN.CH_CTRL_PAIRED c) && !s.drives

/-- MODE_ACT: a gated channel acts as LISTEN (R216). -/
def State.canAct (s : State) (c : Nat) : State :=
  let m := s.canMode c
  s.set (CAN.CH_STATUS_MODE_ACT c) (if m != 0 && s.bit (CAN.CH_STATUS_CLAIM_GATED c) then 2 else m)

/-- Nominal and data bit time in CAN clocks. -/
def State.nomBit (s : State) (c : Nat) : Nat := s.get (CAN.NBT_NBRP c) * (1 + s.get (CAN.NBT_NTSEG1 c) + s.get (CAN.NBT_NTSEG2 c))
def State.datBit (s : State) (c : Nat) : Nat := s.get (CAN.DBT_DBRP c) * (1 + s.get (CAN.DBT_DTSEG1 c) + s.get (CAN.DBT_DTSEG2 c))

/-- A number lies in a range. -/
def inRange (lo hi n : Nat) : Bool := decide (lo ≤ n) && decide (n ≤ hi)

/-- The timing check; a CAN clock is 12.5 ns, so 80 clocks are 1,000 ns and 10 are 125 ns (R204). -/
def State.canTiming (s : State) (c : Nat) : Bool :=
  inRange 1 63 (s.get (CAN.NBT_NBRP c)) && inRange 2 256 (s.get (CAN.NBT_NTSEG1 c)) && inRange 2 128 (s.get (CAN.NBT_NTSEG2 c))
    && inRange 1 128 (s.get (CAN.NBT_NSJW c)) && inRange 1 32 (s.get (CAN.DBT_DBRP c)) && inRange 1 32 (s.get (CAN.DBT_DTSEG1 c))
    && inRange 1 16 (s.get (CAN.DBT_DTSEG2 c)) && inRange 1 16 (s.get (CAN.DBT_DSJW c))
    && decide (s.get (CAN.NBT_NSJW c) ≤ s.get (CAN.NBT_NTSEG2 c)) && decide (s.get (CAN.DBT_DSJW c) ≤ s.get (CAN.DBT_DTSEG2 c))
    && decide (80 ≤ s.nomBit c) && (!s.bit (CAN.CH_CTRL_FD_EN c) || (decide (10 ≤ s.datBit c) && decide (s.datBit c ≤ s.nomBit c)))

/-- MODE is OFF and the message in progress has ended: the channel is off (R203). -/
def State.canOff (s : State) (c : Nat) : State :=
  (s.setCan c { s.can c with offPend := false, integ := false }).set (CAN.CH_STATUS_MODE_ACT c) 0

/-- A write of CH_CTRL (R203, R204); `rx`: the channel is receiving a message, whose end a return to OFF awaits. -/
def State.canCtrl (s : State) (c : Nat) (w : Word) (rx : Bool) : State :=
  let a := (CAN.CH_CTRL_MODE c).addr
  let old := s.rd a
  let m := s.canCfg c
  let locked := m != 0 && (old ^^^ w) &&& 0x38 != 0
  let s := s.plainWrite a (if m = 0 then w else (w &&& ~~~0x38) ||| (old &&& 0x38))
  let s := if locked then s.raise (CAN.CH_EVENT_CFG_LOCKED c) else s
  let n := s.canCfg c
  if m = 0 ∧ n ≠ 0 then
    if s.canTiming c then
      let s := s.setCan c { s.can c with integ := (s.can c).integ || !(s.can c).offPend, offPend := false, offAt := none }
      (s.setBit (CAN.CH_STATUS_CLAIM_GATED c) (s.canWantGate c)).canAct c
    else (s.set (CAN.CH_CTRL_MODE c) 0).raise (CAN.CH_EVENT_BAD_TIMING c)
  else if m ≠ 0 ∧ n = 0 then
    let s := s.setCan c { s.can c with offAt := if (s.can c).integ then none else some s.nowQ }
    if (s.can c).inMsg ∨ (rx ∧ !(s.can c).integ) then s.setCan c { s.can c with inMsg := true, offPend := true } else s.canOff c
  else s.canAct c

def execCanModeWrite (ini : Initiator) (ch : Fin 16) (value : Word) (rx : Bool) (s : State) : Host.Outcome State Fault Refusal :=
  .next (s.writeAt ini (CAN.CH_CTRL_MODE ch).addr fun s => s.canCtrl ch value rx)

/-- Eleven recessive bits have been seen: the channel takes part (R203). -/
def State.canIntegrated (s : State) (c : Nat) : State :=
  if (s.can c).integ ∧ s.canMode c ≠ 0 ∧ !s.canStopped c then
    (s.setCan c { s.can c with integ := false }).setBit (CAN.CH_STATUS_BUS_IDLE c) true
  else s

def execCanIntegrated (ch : Fin 16) (s : State) : Host.Outcome State Fault Refusal := .next (s.canIntegrated ch)

/-! ### Transmit FIFOs (R208 to R212) -/

/-- The message in progress has ended: a return of MODE to OFF takes effect, and the bus is idle (R203). -/
def State.msgEnds (s : State) (c : Nat) : State :=
  let s := (s.setCan c { s.can c with inMsg := false }).setBit (CAN.CH_STATUS_BUS_IDLE c) true
  if (s.can c).offPend then s.canOff c else s

/-- At a SOF opportunity: the channel may send (R208, R212, R216). -/
def State.canMay (s : State) (c : Nat) : Bool :=
  let k := s.can c
  (s.canMode c == 1 || s.canMode c == 3) && !k.integ && !k.inMsg && !s.bit (CAN.CH_STATUS_FROZEN c) && !s.bit (CAN.CH_STATUS_CLAIM_GATED c)
    && !s.canWantGate c && s.get (CAN.CH_STATUS_STATE c) != 2 && !s.canStopped c

/-- A message as the channel sends it: a classical one has no BRS and no ESI, and a remote frame no data; an FD one goes without BRS when
the channel's data bit time equals its nominal one, with ESI when the channel is error passive (R202, R219). -/
def State.asSent (s : State) (c : Nat) (m : CanMsg) : CanMsg :=
  if m.fdf then { m with rtr := false, esi := s.get (CAN.CH_STATUS_STATE c) == 1, brs := m.brs && s.datBit c != s.nomBit c }
  else { m with esi := false, brs := false, data := if m.rtr then [] else m.data.take 8 }

/-- The head of the lowest-numbered non-empty FIFO is latched at the sample point of the SOF (R208). A LOOPBACK message takes its timestamp
here, the exact working time of the command, within the uncertainty of R22 (DESIGN CHOICE, assumption 149). -/
def State.canTxSof (s : State) (c : Nat) : State :=
  let k := s.can c
  if !s.canMay c then s else
  match [0, 1, 2, 3].find? fun f => (k.fifo f) != [] with
  | none => s
  | some f =>
    let loop := s.canMode c == 3
    let s := (s.setCan c { k with latched := some f, inMsg := true, loop := loop, sof := s.nowQ }).setBit (CAN.CH_STATUS_BUS_IDLE c) false
    match (k.fifo f).head? with
    | some m => if loop then s else s.emit (.can c (s.asSent c m))
    | none => s

def execCanTxSof (ch : Fin 16) (s : State) : Host.Outcome State Fault Refusal := .next (s.canTxSof ch)

/-- Arbitration is lost; the channel goes on as a receiver (R208). -/
def State.canArbLost (s : State) (c : Nat) : State :=
  if (s.can c).latched.isNone ∨ s.canStopped c then s else (s.bump (CAN.ARB_LOST c)).attemptFails c

def execCanArbLost (ch : Fin 16) (s : State) : Host.Outcome State Fault Refusal := .next (s.canArbLost ch)

/-! ### Error counters (R212; their rules are those of ISO 11898-1) -/

def State.tec (s : State) (c : Nat) : Nat := s.get (CAN.CH_STATUS_TEC c)
def State.rec_ (s : State) (c : Nat) : Nat := s.get (CAN.CH_STATUS_REC c)

/-- Bus-off: FIFOs freeze, one-shot messages leave, recovery starts with AUTO_RECOVER (R212). -/
def State.busOff (s : State) (c : Nat) : State :=
  let s := (s.set (CAN.CH_STATUS_STATE c) 2).setBit (CAN.CH_STATUS_FROZEN c) true
  let s := s.bump (CAN.BUS_OFF_CNT c)
  let k := s.can c
  let gone := k.tx.filter fun x => s.oneShot c x.1
  let s := s.setCan c { k with tx := k.tx.filter fun x => !s.oneShot c x.1, inMsg := false }
  let s := s.each gone fun s x => s.oneShotFail c x.1 2 x.2
  let s := s.raise (CAN.CH_EVENT_BUS_OFF c)
  if s.bit (CAN.CH_CTRL_AUTO_RECOVER c) then s.setBit (CAN.CH_STATUS_RECOVERING c) true else s

/-- The counters take new values; the error state follows them. -/
def State.canCounts (s : State) (c tec rec_ : Nat) : State :=
  let st := s.get (CAN.CH_STATUS_STATE c)
  let s := (s.set (CAN.CH_STATUS_TEC c) (min 255 tec)).set (CAN.CH_STATUS_REC c) (min 255 rec_)
  if st = 2 then s
  else if 256 ≤ tec then s.busOff c
  else if 128 ≤ tec ∨ 128 ≤ rec_ then
    if st = 0 then (s.set (CAN.CH_STATUS_STATE c) 1).raise (CAN.CH_EVENT_ERR_PASSIVE c) else s
  else s.set (CAN.CH_STATUS_STATE c) 0

/-- A reception without error: REC falls by one; from above 127 it falls to a value between 119 and 127, which is free
(assumption 3). -/
def State.recGood (s : State) (c : Nat) : State :=
  let r := s.rec_ c
  if s.get (CAN.CH_STATUS_MODE_ACT c) ≠ 1 ∨ r = 0 then s
  else if r ≤ 127 then s.canCounts c (s.tec c) (r - 1)
  else let x := s.draw; x.2.canCounts c (s.tec c) (119 + x.1.toNat % 9)

/-- A message has been sent (R208, R211). -/
def State.canTxDone (s : State) (c : Nat) : State :=
  let k := s.can c
  match (if s.canStopped c then none else k.latched) with
  | none => s
  | some f =>
    let m := (k.fifo f).head?
    let s := s.delayMeasured c
    let s := (s.setCan c { k with latched := none, loop := false, tx := dropHead k.tx f }).bump (CAN.TX_MSG c)
    let s := if k.cancel then s.cancelEnd c 2 else s
    let s := s.canCounts c (s.tec c - 1) (s.rec_ c)
    let s := match k.loop, m with
      | true, some m =>
        if 64 ≤ (s.can c).rx.length then (s.bump (CAN.RX_OVF_DROP c)).raise (CAN.CH_EVENT_RX_OVF c)
        else (s.setCan c { s.can c with rx := (s.can c).rx ++ [CanRx.mk (s.asSent c m) k.sof 0] }).bump (CAN.RX_MSG c)
      | _, _ => s
    s.msgEnds c

/-- The channel takes no part in the bus: bus-off (R212, ISO 11898-1), without its clock, integrating (R203), or off. -/
def State.canOut (s : State) (c : Nat) : Bool :=
  s.canStopped c || (s.can c).integ || s.get (CAN.CH_STATUS_STATE c) == 2 || (s.canMode c == 0 && !(s.can c).inMsg)

/-- A bus error: kind 0 bit, 1 stuff, 2 form, 3 CRC, 4 ACK; the increments are those that ISO 11898-1 gives the error (R206, R212). -/
def State.canError (s : State) (c kind tecInc recInc : Nat) : State :=
  if s.canOut c then s else
  let s := s.delayMeasured c
  let s := s.bump (match kind with
    | 0 => CAN.ERR_BIT c | 1 => CAN.ERR_STUFF c | 2 => CAN.ERR_FORM c | 3 => CAN.ERR_CRC c | _ => CAN.ERR_ACK c)
  let s := s.attemptFails c
  let s := if s.get (CAN.CH_STATUS_MODE_ACT c) = 1 then s.canCounts c (s.tec c + tecInc) (s.rec_ c + recInc) else s
  s.msgEnds c

def execCanErrorFrame (ch : Fin 16) (kind : Fin 5) (tecInc recInc : Fin 16) (s : State) : Host.Outcome State Fault Refusal :=
  .next (s.canError ch kind tecInc recInc)

/-- A frame with FDF recessive while FD_EN is 0: a protocol exception with PEX_EN, else a form error (R205). It ends the message in
progress, so that a return of MODE to OFF takes effect (R203). -/
def State.canException (s : State) (c : Nat) : State :=
  if s.canOut c ∨ s.bit (CAN.CH_CTRL_FD_EN c) then s
  else if s.bit (CAN.CH_CTRL_PEX_EN c) then
    let s := (s.setCan c { s.can c with integ := true, inMsg := false }).raise (CAN.CH_EVENT_PROTO_EXC c)
    if (s.can c).offPend then s.canOff c else s
  else s.canError c 2 0 1

def execCanProtocolException (ch : Fin 16) (s : State) : Host.Outcome State Fault Refusal := .next (s.canException ch)

/-- RECOVER_CMD (R212). -/
def State.canRecover (s : State) (c : Nat) : State :=
  if s.get (CAN.CH_STATUS_STATE c) = 2 then s.setBit (CAN.CH_STATUS_RECOVERING c) true else s

def execCanRecoverCmd (ini : Initiator) (ch : Fin 16) (s : State) : Host.Outcome State Fault Refusal :=
  .next (s.writeAt ini (CAN.RECOVER_CMD_GO ch).addr fun s => s.canRecover ch)

/-- 128 occurrences of 11 recessive bits have been seen: recovery completes (R212); the FIFOs of an isolated channel stay frozen (R375). -/
def State.canRecovered (s : State) (c : Nat) : State :=
  if !s.bit (CAN.CH_STATUS_RECOVERING c) ∨ s.canStopped c then s else
  let s := (s.setBit (CAN.CH_STATUS_RECOVERING c) false).setBit (CAN.CH_STATUS_FROZEN c) (bitsOf (s.rd WAK.ISOLATED) c c == 1)
  let s := ((s.set (CAN.CH_STATUS_TEC c) 0).set (CAN.CH_STATUS_REC c) 0).set (CAN.CH_STATUS_STATE c) 0
  s.raise (CAN.CH_EVENT_RECOVERED c)

def execCanRecoveryDone (ch : Fin 16) (s : State) : Host.Outcome State Fault Refusal := .next (s.canRecovered ch)

/-! ### Cancel and flush (R211) -/

/-- An entry has the format and identifier of CANCEL_ID. -/
def State.cancelNames (s : State) (c : Nat) (m : CanMsg) : Bool :=
  m.ide == s.bit (CAN.CANCEL_ID_IDE c) && m.id.toNat == s.get (CAN.CANCEL_ID_ID c)

/-- The head of the FIFO is the message of the attempt in progress. -/
def CanCh.holds (k : CanCh) (f : Nat) : Bool := k.latched == some f

/-- CANCEL (R211); while a result is pending a further command has no effect (assumption 27). -/
def State.canCancel (s : State) (c f : Nat) : State :=
  let k := s.can c
  if s.bit (CAN.CANCEL_STATUS_BUSY c) then s else
  match k.tx.find? fun x => x.1 == f && s.cancelNames c x.2 with
  | none => s.cancelEnd c 4
  | some x =>
    if k.holds f && (k.fifo f).head? == some x.2 then
      (s.setCan c { k with cancel := true }).setBit (CAN.CANCEL_STATUS_BUSY c) true
    else ((s.setCan c { k with tx := k.tx.erase x }).bump (CAN.CANCELLED_CNT c)).cancelEnd c 1

def execCanCancel (ini : Initiator) (ch : Fin 16) (fifo : Fin 4) (s : State) : Host.Outcome State Fault Refusal :=
  .next (s.writeAt ini (CAN.CANCEL_CMD_OP ch).addr fun s => s.canCancel ch fifo)

/-- FLUSH: every entry of the FIFO; the result is that of the head entry (R211). -/
def State.canFlush (s : State) (c f : Nat) : State :=
  let k := s.can c
  if s.bit (CAN.CANCEL_STATUS_BUSY c) then s else
  match k.fifo f with
  | [] => s.cancelEnd c 4
  | h :: rest =>
    let others := k.tx.filter fun x => x.1 != f
    if k.holds f then
      ((s.setCan c { k with tx := (f, h) :: others, cancel := true }).bumpBy (CAN.CANCELLED_CNT c) rest.length).setBit (CAN.CANCEL_STATUS_BUSY c) true
    else ((s.setCan c { k with tx := others }).bumpBy (CAN.CANCELLED_CNT c) (rest.length + 1)).cancelEnd c 1

def execCanFlush (ini : Initiator) (ch : Fin 16) (fifo : Fin 4) (s : State) : Host.Outcome State Fault Refusal :=
  .next (s.writeAt ini (CAN.CANCEL_CMD_OP ch).addr fun s => s.canFlush ch fifo)

/-! ### Claim gating (R216) -/

/-- At bus idle, a paired channel leaves or enters claim-gated LISTEN; without its clock it stands still (R23). -/
def State.canGating (s : State) (c : Nat) : State :=
  if (s.can c).inMsg ∨ s.pllLost 2 then s else (s.setBit (CAN.CH_STATUS_CLAIM_GATED c) (s.canWantGate c)).canAct c

def execCanGatingChange (ch : Fin 16) (s : State) : Host.Outcome State Fault Refusal := .next (s.canGating ch)

/-- The peer's transmission of a message that this unit holds (R216): equal in IDE, identifier, format, length and data. -/
def sameMsg (a b : CanMsg) : Bool := a.ide == b.ide && a.id == b.id && a.rtr == b.rtr && a.fdf == b.fdf && a.data == b.data

/-- The FIFO whose head equals a received message. -/
def CanCh.seenIn (k : CanCh) (m : CanMsg) : Option (Nat × CanMsg) :=
  [0, 1, 2, 3].findSome? fun f => match (k.fifo f).head? with | some h => if sameMsg h m then some (f, h) else none | none => none

/-! ### Reception (R206) -/

/-- The channel takes part and receives from the bus: NORMAL or LISTEN and not bus-off, or it was off only after the SOF (R203, R212). -/
def State.canHears (s : State) (c sof : Nat) : Bool :=
  let k := s.can c
  !k.integ && !s.canStopped c && s.get (CAN.CH_STATUS_STATE c) != 2 && bitsOf (s.rd WAK.ISOLATED) c c == 0 && (s.canMode c == 1 || s.canMode c == 2 || k.offPend
    || (s.canMode c == 0 && match k.offAt with | some t => decide (sof ≤ t) | none => false))

/-- A message is valid at the sample point of its sixth EOF bit; a classical one has at most 8 bytes (R206, R216). -/
def State.canReceive (s : State) (c : Nat) (m : CanMsg) (sof : Nat) : State :=
  if !s.canHears c sof ∨ (m.fdf ∧ !s.bit (CAN.CH_CTRL_FD_EN c)) then s else
  let m := if m.fdf then { m with rtr := false } else { m with brs := false, esi := false, data := m.data.take 8 }
  let k := s.can c
  let s := s.recGood c
  let s := match (if s.bit (CAN.CH_STATUS_CLAIM_GATED c) then k.seenIn m else none) with
    | some (f, h) => (s.setCan c { s.can c with tx := dropHead k.tx f, seen := k.seen ++ [(f, sof, h)] }).bump (CAN.SEEN_TX c)
    | none =>
      if 64 ≤ k.rx.length then (s.bump (CAN.RX_OVF_DROP c)).raise (CAN.CH_EVENT_RX_OVF c)
      else (s.setCan c { s.can c with rx := k.rx ++ [CanRx.mk m sof 0] }).bump (CAN.RX_MSG c)
  if s.canMode c = 0 ∧ !(s.can c).offPend then s.setCan c { s.can c with offAt := none } else s.msgEnds c

end Sys2Proof.Machine
end

