-- ==== Sys2Proof/Machine/Cpu.lean ====
section
/-! DEFINITION. Cpu.lean: the core pairs (chapter 14): lockstep, timers, debug and its authorisation. What the programs of the cores
do arrives as commands of their initiators. -/
namespace Sys2Proof.Machine

/-! ### Pairs and harts (R301, R306, R310) -/

/-- The harts of a pair, and the pair of a hart. -/
def pairHarts (sec : Bool) : List Nat := if sec then [2] else [0, 1]
def hartSec (h : Nat) : Bool := h == 2

def State.gpr (s : State) (h r : Nat) : Word := if r = 0 then 0 else Sparse.get (fun _ => 0) s.cpu.gprs (32 * h + r)
def State.setGpr (s : State) (h r : Nat) (v : Word) : State :=
  if r = 0 then s else { s with cpu := { s.cpu with gprs := Sparse.set (fun _ => 0) s.cpu.gprs (32 * h + r) v } }
def State.setPc (s : State) (h : Nat) (v : Word) : State := { s with cpu := { s.cpu with pcs := s.cpu.pcs.set h v } }

/-- A bit per hart. -/
def hartBit (h : Nat) : BitVec 3 := BitVec.ofNat 3 (2 ^ h)

/-- The hart's privilege mode (R301). -/
def State.setUser (s : State) (h : Nat) (u : Bool) : State :=
  { s with cpu := { s.cpu with user := if u then s.cpu.user ||| hartBit h else s.cpu.user &&& ~~~(hartBit h) } }

/-! ### Interrupts (R311) -/

/-- The machine external interrupt of a hart: in split mode, as without it, the control pair's route reaches hart 0 only. -/
def State.extIrq (s : State) : Nat → Bool | 0 => s.ctrlIrq | 2 => s.secIrq | _ => false
/-- The machine timer interrupt and the machine software interrupt of a hart. -/
def State.timerIrq (s : State) (h : Nat) : Bool := s.cpu.mtip.getLsbD h
def State.softIrq (s : State) (h : Nat) : Bool := bitsOf (s.rd CPU.IPI) h h == 1

/-! ### CSRs (R301, R310): what the base specifications that R301 names fix of them (assumption 129) -/

def csrMisa : Nat := 0x301
def csrMip : Nat := 0x344
def csrTselect : Nat := 0x7A0
def csrDcsr : Nat := 0x7B0
def csrDpc : Nat := 0x7B1
def csrMhartid : Nat := 0xF14
def csrPmpcfg (k : Nat) : Nat := 0x3A0 + k
def csrPmpaddr (k : Nat) : Nat := 0x3B0 + k

/-- The stored word of a CSR. -/
def State.csrRaw (s : State) (k : Nat) : Word := Sparse.get (fun _ => 0) s.cpu.csrs k

/-- Where a CSR of a hart is stored: tdata1 to tdata3 once for each of the four triggers that tselect names. -/
def State.csrKey (s : State) (h c : Nat) : Nat :=
  if 0x7A1 ≤ c ∧ c ≤ 0x7A3 then 4096 * (3 + 4 * h + (s.csrRaw (4096 * h + csrTselect)).toNat % 4) + c else 4096 * h + c
/-- The hart whose CSR a key names. -/
def csrHart (k : Nat) : Nat := if k / 4096 < 3 then k / 4096 else (k / 4096 - 3) / 4

/-- Configuration byte of PMP entry k: L in bit 7, A in bits 4 and 3 (0 off, 1 TOR, 3 NAPOT). -/
def State.pmpCfg (s : State) (h k : Nat) : Nat := (s.csrRaw (4096 * h + csrPmpcfg (k / 4))).toNat / 256 ^ (k % 4) % 256
/-- The entry's address does not change: it is locked, or the next one is and ends its range there (TOR). -/
def State.pmpHeld (s : State) (h k : Nat) : Bool :=
  decide (128 ≤ s.pmpCfg h k) || (decide (k < 15) && decide (128 ≤ s.pmpCfg h (k + 1)) && s.pmpCfg h (k + 1) / 8 % 4 == 1)

/-- What a write leaves in a configuration byte: a locked one stays, reserved bits are zero, and A does not take 2 (NA4), which a
granularity of 32 bytes has not. -/
def pmpCfgNext (old new : Nat) : Nat :=
  if 128 ≤ old then old else
  let v := new % 32 + new / 128 * 128
  if v / 8 % 4 = 2 then v - 16 + old / 8 % 4 * 8 else v

/-- A CSR as it reads: mhartid tells the harts apart (R310), mip shows the three interrupts (R311), a PMP address has the granularity of
32 bytes (R301). -/
def State.csr (s : State) (h c : Nat) : Word :=
  let v := s.csrRaw (s.csrKey h c)
  if c = csrMhartid then word h
  else if c = csrMisa then 0x40101105
  else if c = csrMip then word ((if s.extIrq h then 2048 else 0) + (if s.timerIrq h then 128 else 0) + (if s.softIrq h then 8 else 0))
  else if c = csrDpc then s.cpu.pcs.getD h 0
  else if c = csrDcsr then (v &&& 0xFFFFFFFC) ||| (if s.cpu.user.getLsbD h then 0 else 3)
  else if csrPmpaddr 0 ≤ c ∧ c ≤ csrPmpaddr 15 then
    if s.pmpCfg h (c - csrPmpaddr 0) / 8 % 4 = 3 then v ||| 3 else v &&& 0xFFFFFFF8
  else v

/-- A CSR write: read-only CSRs, misa and mip keep what they show; dpc and the mode in dcsr are the hart's own; the rest is stored. -/
def State.setCsr (s : State) (h c : Nat) (v : Word) : State :=
  let put := fun (s : State) (v : Word) => { s with cpu := { s.cpu with csrs := Sparse.set (fun _ => 0) s.cpu.csrs (s.csrKey h c) v } }
  if c / 1024 = 3 ∨ c = csrMisa ∨ c = csrMip then s
  else if c = csrDpc then s.setPc h (v &&& 0xFFFFFFFE)
  else if c = csrDcsr then
    let s := if v &&& 3 = 0 then s.setUser h true else if v &&& 3 = 3 then s.setUser h false else s
    put s (v &&& 0xFFFFFFFC)
  else if c = csrTselect then put s (v &&& 3)
  else if csrPmpcfg 0 ≤ c ∧ c ≤ csrPmpcfg 3 then
    put s (word ((List.range 4).foldl (fun n k =>
      n + pmpCfgNext (s.pmpCfg h (4 * (c - csrPmpcfg 0) + k)) (v.toNat / 256 ^ k % 256) * 256 ^ k) 0))
  else if csrPmpaddr 0 ≤ c ∧ c ≤ csrPmpaddr 15 ∧ s.pmpHeld h (c - csrPmpaddr 0) = true then s
  else put s v

/-- A hart is not halted, and the harts of a pair. -/
def State.unhalt (s : State) (h : Nat) : State := { s with cpu := { s.cpu with halted := s.cpu.halted &&& ~~~(hartBit h) } }
def State.setRst (s : State) (sec : Bool) (t : Option Nat) : State :=
  { s with cpu := if sec then { s.cpu with rst1 := t } else { s.cpu with rst0 := t } }

/-! ### The boot ROM (R345, R348) -/

/-- RESTART_VEC; bits [1:0] read 0. -/
def State.restartVec (s : State) (sec : Bool) : Word := s.rd (if sec then CPU.RESTART_VEC_SEC else CPU.RESTART_VEC_CTRL) &&& 0xFFFFFFFC

/-- FW_ENTRY of a pair, and the boot ROM's jump there. -/
def State.fwEntry (s : State) (sec : Bool) : Word := s.rd (if sec then SYS.FW_ENTRY_SEC else SYS.FW_ENTRY_CTRL)
def State.toEntry (s : State) (sec : Bool) : State := s.each (pairHarts sec) fun s h => s.setPc h (s.fwEntry sec)

/-- The pair starts in its boot ROM: its RESTART_VEC stands there (R345). -/
def State.atRom (s : State) (sec : Bool) : Bool := s.restartVec sec == 0x20000000

/-- The code RAM that the image's CODE records for the pair loaded has the hash that the loader kept (R348). -/
def State.codeGood (s : State) (sec : Bool) : Bool :=
  let n := if sec then 1 else 0
  sha ((if sec then s.boot.code1 else s.boot.code0).flatMap fun r => s.memBytes n r.1 r.2) == (if sec then s.boot.hash1 else s.boot.hash0)

/-- A code reload begins. -/
def State.reloadStart (s : State) (sec : Bool) : State := { s with boot := { s.boot with reload := some sec } }

/-- The boot ROM of a pair that restarts checks its code, at once: it jumps to FW_ENTRY, or asks for a reload, which waits while the other
pair's runs (R348, assumption 151). -/
def State.romRun (s : State) (sec : Bool) : State :=
  if !s.atRom sec then s
  else if s.codeGood sec then s.toEntry sec
  else if s.stage ≠ 5 ∧ s.stage ≠ 6 then s
  else match s.boot.reload with
    | none => s.reloadStart sec
    | some x => if x = sec then s else { s with boot := { s.boot with reloadNext := some sec } }

/-- A pair leaves reset: every general register is zero, and every hart of it starts at an address in machine mode (R301, R307,
R310). -/
def State.startPair (s : State) (sec : Bool) (entry : Word) : State :=
  let hs := pairHarts sec
  let s := { s with cpu := { s.cpu with
    gprs := s.cpu.gprs.filter fun x => !hs.contains (x.1 / 32), csrs := s.cpu.csrs.filter fun x => !hs.contains (csrHart x.1) } }
  let s := s.each hs fun s h => (((s.setPc h entry).setUser h false).unhalt h)
  (s.setRst sec none).set (pairState sec) 0

/-- The update session ends when its owner's path is lost (R353): initiators 0 host, 1 and 2 control harts, 3 peer. -/
def State.sessionLost (s : State) (who : List Nat) : State :=
  match s.upd.owner with
  | some o => if who.contains o then { s with upd := { s.upd with owner := none } } else s
  | none => s

/-- Restarts of a pair that lie within WINDOW_S seconds. -/
def State.recentRestarts (s : State) (sec : Bool) : List Nat :=
  let win := max 1 (s.get CPU.LS_CFG_WINDOW_S) * 1000000
  (if sec then s.cpu.hist1 else s.cpu.hist0).filter fun t => decide (s.cpu.mtime < t + win)
def State.setHist (s : State) (sec : Bool) (l : List Nat) : State :=
  { s with cpu := if sec then { s.cpu with hist1 := l } else { s.cpu with hist0 := l } }

/-- A mismatch leads to a restart: its bit of LS_CFG is set, and fewer than RESTART_MAX restarts lie within the window (R307). -/
def State.mayRestart (s : State) (sec : Bool) : Bool :=
  s.bit (if sec then CPU.LS_CFG_SEC_RESTART else CPU.LS_CFG_CTRL_RESTART)
    && decide ((s.recentRestarts sec).length < s.get CPU.LS_CFG_RESTART_MAX)

/-- The registers of a pair that a mismatch writes. -/
def lsEvent (sec : Bool) : Fld := if sec then CPU.CPU_EVENT_SEC_LS else CPU.CPU_EVENT_CTRL_LS
def lsGiveup (sec : Bool) : Fld := if sec then CPU.CPU_EVENT_SEC_GIVEUP else CPU.CPU_EVENT_CTRL_GIVEUP
def lsInfo (sec : Bool) : Nat := if sec then CPU.LS_INFO_SEC else CPU.LS_INFO_CTRL
def lsPc (sec : Bool) : Nat := if sec then CPU.LS_PC_SEC else CPU.LS_PC_CTRL
def lsCnt (sec : Bool) : Nat := if sec then CPU.SEC_LS_CNT else CPU.CTRL_LS_CNT

/-- What happened to a pair in the present clock: a CORE_CMD reset (0), a mismatch (1) (R309). -/
def State.lsMark (s : State) (sec : Bool) (what : Nat) : State := s.markSet CPU.CORE_CMD (2 * what + if sec then 1 else 0)
def State.lsMarked (s : State) (sec : Bool) (what : Nat) : Bool := s.fltNow.contains (CPU.CORE_CMD * 32 + (2 * what + if sec then 1 else 0))
def State.lsUndo (s : State) (sec : Bool) : LsUndo := if sec then s.cpu.undo1 else s.cpu.undo0
def State.setUndo (s : State) (sec : Bool) (u : LsUndo) : State :=
  { s with cpu := if sec then { s.cpu with undo1 := u } else { s.cpu with undo0 := u } }

/-- A lockstep mismatch: a pair that runs or is halted stops, the first one is recorded (R306), and a pair that is not to restart has
given up (R307). In split mode nothing of the control pair is compared (R310); a reset of the same clock drops the mismatch (R309). -/
def State.mismatch (s : State) (sec : Bool) (kind index : Nat) (pc : Word) : State :=
  if 1 < s.get (pairState sec) ∨ (!sec ∧ s.split) ∨ kind = 0 ∨ s.pllLost 1 ∨ s.lsMarked sec 0 then s else
  let s := (s.setUndo sec { ev := s.bit (lsEvent sec), gave := s.bit (lsGiveup sec), info := s.rd (lsInfo sec), pc := s.rd (lsPc sec) }).lsMark sec 1
  let s := if s.bit (lsEvent sec) then s else
    (s.wr (lsInfo sec) (word (kind * 268435456 + (if kind = 3 then 0 else index * 65536)))).wr (lsPc sec) pc
  let s := s.each (pairHarts sec) fun s h => s.unhalt h
  let s := if sec then s else s.sessionLost [1, 2]
  let s := (s.bump (lsCnt sec)).raise (lsEvent sec)
  if s.mayRestart sec then s.set (pairState sec) 2 else (s.set (pairState sec) 4).raise (lsGiveup sec)

/-- KIND and INDEX of a compared item (Table 14.3). -/
def itemKind : CoreItem → Nat | .gpr .. => 1 | .csr .. => 2 | .bus .. => 3
def itemIndex : CoreItem → Nat | .gpr n _ => n | .csr a _ => a.toNat | .bus .. => 0

/-! ### Memory protection (R301; the matching is that of the base specification, assumption 129) -/

/-- PMP entry k of hart h holds the word at an address: TOR up to its own address from the one before it, or a NAPOT range. -/
def State.pmpHolds (s : State) (h a k : Nat) : Bool :=
  let w := a / 4
  let v := (s.csr h (csrPmpaddr k)).toNat
  match s.pmpCfg h k / 8 % 4 with
  | 1 => decide ((if k = 0 then 0 else (s.csr h (csrPmpaddr (k - 1))).toNat / 8 * 8) ≤ w) && decide (w < v / 8 * 8)
  | 3 => w ||| (v ^^^ (v + 1)) == v ||| (v ^^^ (v + 1))
  | _ => false

/-- An access of a hart in machine mode, or in user mode, is allowed: the lowest entry that holds it decides, but in machine mode a locked
one alone; with none, machine mode alone may. -/
def State.pmpAllows (s : State) (h a : Nat) (write machine : Bool) : Bool :=
  match (List.range 16).find? (s.pmpHolds h a) with
  | some k => (machine && decide (s.pmpCfg h k < 128)) || s.pmpCfg h k / (if write then 2 else 1) % 2 == 1
  | none => machine

/-- The pair has a request that has not completed: a read through a window, a request that waits for a slot, or an access to a locked
semaphore (R306, R307). -/
def State.pairWaits (s : State) (sec : Bool) : Bool := if sec then s.nearHeld .sec else s.nearHeld .hart0 || s.nearHeld .hart1

/-- The last outstanding request of a pair that a mismatch has stopped is complete: the pair is held in reset (R307). -/
def State.pairHold (s : State) (sec : Bool) : State :=
  if s.get (pairState sec) = 2 ∧ s.pairWaits sec = false then (s.setRst sec (some s.tim.ticks)).set (pairState sec) 3 else s

/-- A LIVE activation holds the control pair in reset once its outstanding requests have completed, its harts no longer halted (R362); a
pair that has given up stays so (R307). -/
def State.liveHold (s : State) : State :=
  match s.upd.run with
  | some (.live _) =>
    if s.pairWaits false ∨ s.get (pairState false) = 4 then s
    else ((s.each (pairHarts false) State.unhalt).setRst false none).set (pairState false) 3
  | _ => s

/-- 256 core clocks, in ticks: the control pair runs at 400 MHz, the security pair at 200 MHz. -/
def resetTicks (sec : Bool) : Nat := if sec then 640 else 320

/-- The 256 clocks in reset are over: the pair restarts in its boot ROM (R307, R348). -/
def State.pairRestart (s : State) (sec : Bool) : State :=
  match if sec then s.cpu.rst1 else s.cpu.rst0 with
  | none => s
  | some t =>
    if s.get (pairState sec) ≠ 3 ∨ s.tim.ticks < t + resetTicks sec ∨ s.pllLost 1 then s else
    ((((s.setHist sec (s.cpu.mtime :: s.recentRestarts sec)).startPair sec (s.restartVec sec)).romRun sec).bump CPU.RESTART_CNT).raise
      CPU.CPU_EVENT_RESTARTED

def execPairRestart (sec : Bool) (s : State) : Host.Outcome State Fault Refusal := .next (s.pairRestart sec)

/-- A mismatch of the present clock is dropped by a reset (R309). -/
def State.undoMismatch (s : State) (sec : Bool) : State :=
  if !s.lsMarked sec 1 then s else
  let u := s.lsUndo sec
  (((s.wr (lsInfo sec) u.info).wr (lsPc sec) u.pc).setBit (lsEvent sec) u.ev).setBit (lsGiveup sec) u.gave
    |>.setCnt (lsCnt sec) (s.cnt (lsCnt sec) - 1)

/-- The initiator is a core of the pair. -/
def ofPair (sec : Bool) (ini : Initiator) : Bool := if sec then ini == .sec else ini == .hart0 || ini == .hart1

/-- The pair is reset while requests of it are outstanding: they complete, and their responses are discarded (R306). -/
def State.dropAnswers (s : State) (sec : Bool) : State :=
  let out := fun (q : OutReq) => { q with drop := q.drop || ofPair sec q.ini }
  { s with brg := { s.brg with hostReads := s.brg.hostReads.map fun (r : HostRead) => { r with drop := r.drop || ofPair sec r.ini },
                               sent := s.brg.sent.map out, queue := s.brg.queue.map out,
                               waits := s.brg.waits.map fun (x : SemWait) => { x with drop := x.drop || ofPair sec x.ini } } }

/-- CORE_CMD (R307, R309): the pair resets, its restart history clears, and its boot ROM runs (R348); the debug module reports havereset. A
LIVE activation holds it again at once (assumption 141). -/
def State.coreReset (s : State) (sec : Bool) (confirm : Nat) : State :=
  if confirm ≠ 0xC0E5 then s else
  let s := ((((s.undoMismatch sec).lsMark sec 0).setHist sec []).dropAnswers sec).startPair sec (s.restartVec sec)
  let s := if sec then s else s.sessionLost [1, 2]
  let s := { s with cpu := { s.cpu with reset_ := (pairHarts sec).foldl (fun (m : BitVec 3) h => m ||| hartBit h) s.cpu.reset_ } }
  let s := s.romRun sec
  if sec then s else s.liveHold

def execResetCtrl (ini : Initiator) (confirm : BitVec 16) (s : State) : Host.Outcome State Fault Refusal :=
  .next (s.writeAt ini CPU.CORE_CMD fun s => s.coreReset false confirm.toNat)
def execResetSec (ini : Initiator) (confirm : BitVec 16) (s : State) : Host.Outcome State Fault Refusal :=
  .next (s.writeAt ini CPU.CORE_CMD fun s => s.coreReset true confirm.toNat)

/-- A read of a core's memory met an error that is corrected, or one that is not: the memory and the offset of its word are recorded
(R304). -/
def State.memCorrected (s : State) : State := s.bump CPU.MEM_ECC_CORR_CNT
def State.memFailed (s : State) (mem off : Nat) : State :=
  let s := if s.bit CPU.CPU_EVENT_MEM_ECC_UNCORR then s else s.wr CPU.MEM_ECC_INFO (word (mem * 268435456 + off / 4 * 4))
  (s.bump CPU.MEM_ECC_UNCORR_CNT).raise CPU.CPU_EVENT_MEM_ECC_UNCORR

/-! ### Timers (R311, R312) -/

/-- One time-base tick of the local reference: MTIME rises every 500 ticks. -/
def State.mtimeTick (s : State) : State :=
  if s.cpu.sub + 1 < 500 then { s with cpu := { s.cpu with sub := s.cpu.sub + 1 } }
  else { s with cpu := { s.cpu with sub := 0, mtime := (s.cpu.mtime + 1) % 18446744073709551616 } }

/-- The timer interrupt of a hart follows MTIME and MTIMECMP. -/
def State.mtimeLevel (s : State) (h : Nat) : State :=
  let m := hartBit h
  { s with cpu := { s.cpu with mtip := if s.cpu.cmp.getD h 0 ≤ s.cpu.mtime then s.cpu.mtip ||| m else s.cpu.mtip &&& ~~~m } }

def execMtimeMatch (hart : Fin 3) (s : State) : Host.Outcome State Fault Refusal := .next (s.mtimeLevel hart)

/-- A write of MTIMECMP_HI applies both words (R312). -/
def State.mtimecmpHi (s : State) (h : Nat) (v : Word) : State :=
  let s := s.wr (CPU.MTIMECMP_HI h) v
  ({ s with cpu := { s.cpu with cmp := s.cpu.cmp.set h (v.toNat * 4294967296 + (s.rd (CPU.MTIMECMP_LO h)).toNat) } }).mtimeLevel h

def execMtimecmpHiWrite (ini : Initiator) (hart : Fin 3) (value : Word) (s : State) : Host.Outcome State Fault Refusal :=
  .next (s.writeAt ini (CPU.MTIMECMP_HI hart) fun s => s.mtimecmpHi hart value)

/-! ### The debug module's harts (R312, R314) -/

/-- The debug module presents the hart, debug of its pair is enabled, and its clock runs (R312, R314, R23). -/
def State.dbgHart (s : State) (h : Nat) : Bool :=
  (h != 1 || s.split) && !s.pllLost 1 && s.bit (if hartSec h then CPU.CPU_STATUS_SEC_DBG_EN else CPU.CPU_STATUS_CTRL_DBG_EN)
def State.isHalted (s : State) (h : Nat) : Bool := s.cpu.halted.getLsbD h && s.dbgHart h

/-! ### Debug actions (R309, R313) -/

/-- Registers of a hart take what its execution left. -/
def State.takeRegs (s : State) (h : Nat) (r : CoreRegs) : State :=
  let s := s.each r.gprs fun s x => s.setGpr h x.1 x.2
  ((s.each r.csrs fun s x => s.setCsr h x.1.toNat x.2).setPc h r.pc).setUser h r.user

/-- A halt request: a running hart halts, unless its pair is reset in the same clock (R309, R313). -/
def State.dbgHalt (s : State) (h : Nat) (r : CoreRegs) : State :=
  if !s.dbgHart h ∨ 1 < s.get (pairState (hartSec h)) ∨ s.cpu.halted.getLsbD h ∨ s.lsMarked (hartSec h) 0 then s else
  let s := { s with cpu := { s.cpu with halted := s.cpu.halted ||| hartBit h } }
  (s.takeRegs h r).set (pairState (hartSec h)) 1

def execDebugHalt (hart : Fin 3) (r : CoreRegs) (s : State) : Host.Outcome State Fault Refusal := .next (s.dbgHalt hart r)

/-- A halted hart runs again; the pair reads as running when no hart of it is halted. -/
def State.dbgResume (s : State) (h : Nat) : State :=
  if !s.isHalted h then s else
  let s := s.unhalt h
  if (pairHarts (hartSec h)).any fun k => s.cpu.halted.getLsbD k then s else s.set (pairState (hartSec h)) 0

def execDebugResume (hart : Fin 3) (s : State) : Host.Outcome State Fault Refusal := .next (s.dbgResume hart)

/-- One instruction of a halted hart has run on both copies. -/
def State.dbgStep (s : State) (h : Nat) (r : CoreRegs) : State := if s.isHalted h then s.takeRegs h r else s

def execDebugStep (hart : Fin 3) (r : CoreRegs) (s : State) : Host.Outcome State Fault Refusal := .next (s.dbgStep hart r)

/-- An abstract register or CSR write. -/
def State.dbgAbstract (s : State) (h : Nat) (csr : Bool) (n : Nat) (v : Word) : State :=
  if !s.isHalted h then s else if csr then s.setCsr h n v else if n < 32 then s.setGpr h n v else s

def execDebugAbstractWrite (hart : Fin 3) (csr : Bool) (num : BitVec 12) (value : Word) (s : State) : Host.Outcome State Fault Refusal :=
  .next (s.dbgAbstract hart csr num.toNat value)

/-- The program buffer has run on a halted hart; the halted program counter stays. -/
def State.dbgProgbuf (s : State) (h : Nat) (r : CoreRegs) : State :=
  if s.isHalted h then s.takeRegs h { r with pc := s.cpu.pcs.getD h 0 } else s

def execDebugProgbufExec (hart : Fin 3) (r : CoreRegs) (s : State) : Host.Outcome State Fault Refusal := .next (s.dbgProgbuf hart r)

/-! ### Authorisation (R315) -/

/-- CHALLENGE: a fresh nonce, whose words are free values (assumption 3). -/
def State.challenge (s : State) : State :=
  let s := s.each (List.range 4) fun s w => let x := s.draw; x.2.wr (CPU.DBG_NONCE w) x.1
  { s with cpu := { s.cpu with nonce := true } }

/-- DBG_AUTH_CMD acts while no verification runs (assumption 31). -/
def State.dbgAct (s : State) (f : State → State) : State := if s.bit CPU.DBG_AUTH_STATUS_BUSY then s else f s
def State.dbgCmd (s : State) (ini : Initiator) (f : State → State) : State :=
  s.writeAt ini CPU.DBG_AUTH_CMD fun s => s.dbgAct f

def execDbgChallenge (ini : Initiator) (_scope : BitVec 2) (s : State) : Host.Outcome State Fault Refusal :=
  .next (s.dbgCmd ini fun s => s.challenge)

/-- SUBMIT: refused when locked out, without a nonce or without a key, else verification starts; the nonce is used, DBG_SIG clears. -/
def State.dbgSubmit (s : State) (scope : Nat) : State :=
  let sig := wordOctets ((List.range 16).map fun w => s.rd (CPU.DBG_SIG w))
  let s := s.each (List.range 16) fun s w => s.wr (CPU.DBG_SIG w) 0
  if 3 ≤ s.get CPU.DBG_AUTH_STATUS_FAILS then s.set CPU.DBG_AUTH_STATUS_RESULT 5
  else if !s.cpu.nonce then s.set CPU.DBG_AUTH_STATUS_RESULT 3
  else
    let s := { s with cpu := { s.cpu with nonce := false } }
    if !s.bit SYS.SYS_STATUS_DBG_KEY_VALID then s.set CPU.DBG_AUTH_STATUS_RESULT 4
    else ({ s with cpu := { s.cpu with verify := some (scope, sig) } }).setBit CPU.DBG_AUTH_STATUS_BUSY true

def execDbgSubmit (ini : Initiator) (scope : BitVec 2) (s : State) : Host.Outcome State Fault Refusal :=
  .next (s.dbgCmd ini fun s => s.dbgSubmit scope.toNat)

/-- The 34-byte message that is signed. -/
def State.dbgMessage (s : State) (scope : Nat) : Bytes :=
  wordOctets ((List.range 4).map fun w => s.rd (CPU.DBG_NONCE w)) ++ wordOctets ((List.range 4).map Config.uid)
    ++ [BitVec.ofNat 8 scope, BitVec.ofNat 8 (s.get KEY.LC_STATUS_LC_STATE)]

/-- Verification ends: a grant, or BAD_SIG; the third failure locks out (R315). -/
def State.dbgVerified (s : State) : State :=
  match s.cpu.verify with
  | none => s
  | some (scope, sig) =>
    let ok := p256Ok (wordOctets ((List.range 16).map fun w => s.rd (SYS.DBG_KEY w))) (s.dbgMessage scope) sig
    let s := ({ s with cpu := { s.cpu with verify := none } }).setBit CPU.DBG_AUTH_STATUS_BUSY false
    if ok then
      let s := (s.set CPU.DBG_AUTH_STATUS_RESULT 1).set CPU.DBG_AUTH_STATUS_GRANTED scope
      let s := if scope / 2 % 2 = 1 then { s with key := { s.key with authSec := true } } else s
      s.dbgLevels
    else
      let s := (s.set CPU.DBG_AUTH_STATUS_RESULT 2).set CPU.DBG_AUTH_STATUS_FAILS (min 3 (s.get CPU.DBG_AUTH_STATUS_FAILS + 1))
      (s.bump CPU.DBG_AUTH_FAIL_CNT).raise CPU.CPU_EVENT_DBG_AUTH_FAIL

/-- DISABLE withdraws the grant of a scope (R315). -/
def State.dbgDisable (s : State) (scope : BitVec 2) : State :=
  (s.set CPU.DBG_AUTH_STATUS_GRANTED (BitVec.ofNat 2 (s.get CPU.DBG_AUTH_STATUS_GRANTED) &&& ~~~scope).toNat).dbgLevels

def execDbgDisable (ini : Initiator) (scope : BitVec 2) (s : State) : Host.Outcome State Fault Refusal :=
  .next (s.dbgCmd ini fun s => s.dbgDisable scope)

end Sys2Proof.Machine
end

