-- ==== Sys2Proof/Machine/Wake.lean ====
section
/-! DEFINITION. Wake.lean: what sleep sequences and wakes share (chapter 18): sleeping sets, the keep-awake log, aborts, and the
acceptance of a wake. A target of a sequence is a group, or the device. -/
namespace Sys2Proof.Machine

/-! ### Targets and their sleeping sets (R378) -/

abbrev Target_ := Option (Fin 8)

/-- STATE of the target's sequence: 0 awake, 1 READY_SLEEP, 2 PREPARE; a group also 3 asleep. -/
def State.seqState (s : State) : Target_ → Nat
  | none => s.get WAK.SLEEP_STATUS_STATE
  | some g => s.get (WAK.GRP_STATUS_STATE g)
def State.setSeq (s : State) (t : Target_) (v : Nat) : State :=
  match t with | none => s.set WAK.SLEEP_STATUS_STATE v | some g => s.set (WAK.GRP_STATUS_STATE g) v

/-- Is channel c (16 + p: port p) in the sleeping set? -/
def State.inSet (s : State) (t : Target_) (m : Nat) : Bool :=
  match t with | none => true | some g => bitsOf (s.grpMembers g) m m == 1
def State.setChans (s : State) (t : Target_) : List Nat := (List.range 16).filter fun c => s.inSet t c
def State.setPorts (s : State) (t : Target_) : List Nat := (List.range 14).filter fun p => s.inSet t (16 + p)

def allTargets : List Target_ := none :: (List.finRange 8).map some

/-- The timer of a sequence's stage begins (Table 18.3). -/
def State.seqTimer (s : State) (t : Target_) : State :=
  { s with wak := { s.wak with since := assocSet s.wak.since (match t with | none => 8 | some g => g.val) s.tim.ticks } }

/-- The timer of a sequence's stage has run for a number of ms. -/
def State.seqRan (s : State) (t : Target_) (ms : Nat) : Bool :=
  decide (assocD s.wak.since (match t with | none => 8 | some g => g.val) 0 + ms * msTicks ≤ s.tim.ticks)

/-- A keep-awake message of channel c restarts RS_TIME of the sequences in READY_SLEEP whose set holds it (Table 18.3). -/
def State.rsRestart (s : State) (c : Nat) : State := s.each allTargets fun s t => if s.seqState t = 1 ∧ s.inSet t c then s.seqTimer t else s

/-- ETHn_WAKE of ports; the ports of a group that is asleep stay low (R377). -/
def State.ethWakes (s : State) (ps : List Nat) (high : Bool) : State :=
  s.each (ps.filter fun p => !s.portAsleep p) fun s p => s.emit (.ethWake p high)

/-- An event of WAK: the fault collector sees it at once while the logic is powered, and at the release otherwise. -/
def State.wakRaise (s : State) (f : Fld) : State := if s.wak.power = .active then s.raise f else s.set f 1

/-- GROUP and IN_GROUP of a channel or port. -/
def State.groupBits (s : State) (m : Nat) : Nat × Bool := match s.groupOf m with | some g => (g, true) | none => (0, false)

/-! ### The always-on count (R372, R381) -/

/-- Time passes: the edge of the always-on clock on which wakes were accepted lies behind (R381). -/
def State.edgePassed (s : State) : State := { s with wak := { s.wak with edgeRec := false, edgeDev := false, edgeGrps := 0 } }

/-- Counts of the 32.768 kHz clock that have passed while the time base did not tick. -/
def State.aoPass (s : State) (n : Nat) : State :=
  if s.wak.power = .active ∨ n = 0 then s else ({ s with wak := { s.wak with ao := s.wak.ao + n } }).edgePassed

/-- The count after one 2 ns tick: 65,536 / 10^9 of a period. -/
def State.aoTick (s : State) : State :=
  let u := s.wak.aoSub + 65536
  if u < 1000000000 then { s with wak := { s.wak with aoSub := u } }
  else { s with wak := { s.wak with aoSub := u - 1000000000, ao := s.wak.ao + 1 } }

/-! ### Aborts (R379) -/

/-- A sequence is aborted: cause 1 software, 2 keep-awake, 3 wake, 4 port awake at PREP_TIME; `m` is the channel, or 16 + the port. -/
def State.seqAbort (s : State) (t : Target_) (cause : Nat) (m : Option Nat) : State :=
  let gb := match t with | some g => (g.val, true) | none => (match m with | some m => s.groupBits m | none => (0, false))
  let low := s.seqState t == 2
  let s := s.setSeq t 0
  let s := if low then s.ethWakes (s.setPorts t) true else s
  let idx := match m with | some m => m % 16 | none => 0
  let s := (s.set WAK.ABORT_INFO_CAUSE cause).set WAK.ABORT_INFO_INDEX idx
  let s := ((s.set WAK.ABORT_INFO_GROUP gb.1).setBit WAK.ABORT_INFO_DEVICE t.isNone).setBit WAK.ABORT_INFO_IN_GROUP gb.2
  (s.bump WAK.ABORT_CNT).wakRaise WAK.WAK_EVENT_SLEEP_ABORT

/-- The sequences in PREPARE whose set holds m are aborted. -/
def State.prepAborts (s : State) (m cause : Nat) : State :=
  s.each allTargets fun s t => if s.seqState t = 2 ∧ s.inSet t m then s.seqAbort t cause (some m) else s

/-! ### The keep-awake log (R381, Table 18.4) -/

/-- An entry: KIND, INDEX of the channel or port, its group, COUNT 1, identifier, time. -/
def State.kaEntry (s : State) (kind m : Nat) (w1 : Word) : List Word :=
  let gb := s.groupBits m
  [word (kind * 268435456 + m % 16 * 16777216 + gb.1 * 2097152 + (if gb.2 then 1048576 else 0) + 1), w1, word (nsOf s.nowQ), word (secOf s.nowQ)]

/-- A new entry; at a full log it is discarded. -/
def State.kaAdd (s : State) (e : List Word) : State :=
  if 32 ≤ s.wak.ka.length then (s.bump WAK.KA_DROP_CNT).wakRaise WAK.WAK_EVENT_KA_OVF
  else { s with wak := { s.wak with ka := s.wak.ka ++ [e] } }

/-- Entry e is that of the same channel, format and identifier as n. -/
def kaSame (e n : List Word) : Bool := (e.headD 0).toNat / 16777216 == (n.headD 0).toNat / 16777216 && e.getD 1 0 == n.getD 1 0

/-- Entry e after a further occurrence n: COUNT saturates. -/
def kaAgain (e n : List Word) : List Word :=
  let w0 := e.headD 0
  [if bitsOf w0 15 0 = 0xFFFF then w0 else w0 + 1, e.getD 1 0, n.getD 2 0, n.getD 3 0]

/-- A keep-awake message on channel c is logged. -/
def State.kaNote (s : State) (c : Nat) (m : CanMsg) : State :=
  let n := s.kaEntry 1 c (word ((if m.ide then 2147483648 else 0) + m.id.toNat))
  if s.wak.ka.any fun e => kaSame e n then
    { s with wak := { s.wak with ka := s.wak.ka.map fun e => if kaSame e n then kaAgain e n else e } }
  else s.kaAdd n

/-- The message is a keep-awake message of the channel: KA_EN, and KA_ID under KA_MASK (Table 18.3). -/
def State.isKeepAwake (s : State) (c : Nat) (m : CanMsg) : Bool :=
  s.bit (WAK.CAN_WAKE_CFG_KA_EN c) && m.ide == s.bit (WAK.KA_ID_IDE c) &&
    m.id &&& BitVec.ofNat 29 (s.get (WAK.KA_MASK_MASK c)) ==
      BitVec.ofNat 29 (s.get (WAK.KA_ID_ID c)) &&& BitVec.ofNat 29 (s.get (WAK.KA_MASK_MASK c))

/-! ### Wake methods (R373, R374) -/

/-- METHOD as it acts: 0 none, 1 DOM, 2 FRAME, 3 TRX; an undefined RATE acts as none (Table 18.6). -/
def State.wakeMethod (s : State) (c : Nat) : Nat :=
  if 2 < s.get (WAK.CAN_WAKE_CFG_RATE c) then 0 else s.get (WAK.CAN_WAKE_CFG_METHOD c)

/-- FILTER in always-on clocks and STUCK_US, as they act. -/
def State.wakeFilter (s : State) (c : Nat) : Nat := clampN 4 40 (s.get (WAK.CAN_WAKE_CFG_FILTER c))
def State.stuckUs (s : State) (c : Nat) : Nat := max 100 (s.get (WAK.CAN_WAKE_CFG_STUCK_US c))

/-- Data byte i fits WF_DATA under WF_DMASK. -/
def State.wfByte (s : State) (c i : Nat) (d : Bytes) : Bool :=
  let sel := fun (lo hi : Nat) => BitVec.ofNat 8 ((s.rd (if i < 4 then lo else hi)).toNat / 256 ^ (3 - i % 4))
  let mask := sel (WAK.WF_DMASK_LO c) (WAK.WF_DMASK_HI c)
  mask == 0 || (match d[i]? with | some b => b &&& mask == sel (WAK.WF_DATA_LO c) (WAK.WF_DATA_HI c) &&& mask | none => false)

/-- A classical frame that fits WF_ID, WF_MASK and, with DATA_EN, WF_DATA (R374). -/
def State.isWakeFrame (s : State) (c : Nat) (m : CanMsg) : Bool :=
  let mask := BitVec.ofNat 29 (s.get (WAK.WF_MASK_MASK c))
  !m.fdf && m.ide == s.bit (WAK.WF_ID_IDE c) && m.id &&& mask == BitVec.ofNat 29 (s.get (WAK.WF_ID_ID c)) &&& mask
    && (!s.bit (WAK.WF_MASK_DATA_EN c) || (List.range 8).all fun i => s.wfByte c i (if m.rtr then [] else m.data))

def State.isolated (s : State) (c : Nat) : Bool := bitsOf (s.rd WAK.ISOLATED) c c == 1

/-- A channel c, or a port 16 + p, slept until the present edge: the device or its group wakes on it (R381). -/
def State.sleptTill (s : State) (m : Nat) : Bool :=
  s.wak.edgeDev || match s.groupOf m with | some g => s.wak.edgeGrps.getLsbD g | none => false

/-- Wakes of a channel c, or a port 16 + p, are accepted: in SLEEP and POWER_DOWN, while its group is asleep, and further ones on the edge
that ends its sleep (R373, R376, R381; DESIGN CHOICE, assumption 104). -/
def State.canWake (s : State) (m : Nat) : Bool :=
  s.wak.power == .sleep || s.wak.power == .powerDown || s.memberAsleep m || s.sleptTill m

/-- The decoder watches the channel; not while it is isolated (R373, R375). -/
def State.watched (s : State) (c : Nat) : Bool := !s.isolated c && s.canWake c

/-- A received message while sequences run: a keep-awake message is logged; in PREPARE it aborts with cause 2, and a message that is a
wake under the channel's method with cause 3 (R379, R381). -/
def State.canSeq (s : State) (c : Nat) (m : CanMsg) : State :=
  let on := allTargets.any fun t => (s.seqState t == 1 || s.seqState t == 2) && s.inSet t c
  if !on then s
  else if s.isKeepAwake c m then ((s.kaNote c m).rsRestart c).prepAborts c 2
  else if s.wakeMethod c = 1 ∨ (s.wakeMethod c = 2 ∧ s.isWakeFrame c m) then s.prepAborts c 3
  else s

/-- A message reaches an awake channel. -/
def State.canHeard (s : State) (c : Nat) (m : CanMsg) (sof : Nat) : State :=
  if !s.canHears c sof ∨ (m.fdf ∧ !s.bit (CAN.CH_CTRL_FD_EN c)) then s else s.canSeq c m

/-! ### Acceptance of a wake (R377, R380, R381, R382) -/

/-- Channels restart from the levels of TRX_CTRL: they integrate (R203). -/
def State.canRestart (s : State) (c : Nat) : State :=
  if s.canCfg c = 0 then s else (s.setCan c { s.can c with integ := true, inMsg := false, latched := none }).canAct c

/-- CANn_STB and CANn_EN: the levels of TRX_CTRL, from an accepted wake on, one latched in POWER_DOWN too, or standby (R215, R375, R377,
Table 18.5). -/
def State.trxPins (s : State) (c : Nat) : Bool × Bool :=
  if (s.wak.power == .powerDown && !s.wak.late) || s.wak.power == .sleep || s.memberAsleep c || s.isolated c then (true, false)
  else (s.bit (CAN.TRX_CTRL_STB c), s.bit (CAN.TRX_CTRL_EN c))

/-- One group wakes: an asleep group becomes awake, a group in PREPARE aborts (a wake that WAKE_FWD carries into it). -/
def State.groupWakes (s : State) (g : Fin 8) (m : Option Nat) : State :=
  if s.grpAsleep g then
    let s := (s.setSeq (some g) 0).wakRaise WAK.WAK_EVENT_GROUP_WOKE
    let s := { s with wak := { s.wak with edgeGrps := s.wak.edgeGrps ||| BitVec.ofNat 8 (2 ^ g.val) } }
    let s := s.ethWakes (s.setPorts (some g)) true
    s.each ((s.setChans (some g)).filter fun c => !s.isolated c) fun s c => s.canRestart c
  else if s.seqState (some g) = 2 then s.seqAbort (some g) 3 m
  else s

/-- A group and its WAKE_FWD wake; a device sequence in PREPARE aborts. -/
def State.groupsWake (s : State) (g : Option Nat) (m : Option Nat) : State :=
  match g with
  | none => s
  | some g =>
    let fwd := s.get (WAK.GRP_CTRL_WAKE_FWD g)
    let gs := (List.finRange 8).filter fun k => k.val == g || fwd / 2 ^ k.val % 2 == 1
    let s := s.each gs fun s k => s.groupWakes k m
    if s.seqState none = 2 then s.seqAbort none 3 m else s

/-- KIND and INDEX of a wake as one number, by which the lowest of those on one edge is recorded (R381). -/
def wakeOrder (kind : Nat) (m : Option Nat) : Nat := 16 * kind + match m with | some m => m % 16 | none => 0

/-- A wake gives the record: the first since its release, and of several on its edge the lowest (R381). -/
def State.wakeFirst (s : State) (kind : Nat) (m : Option Nat) : Bool :=
  !s.bit WAK.WAKE_SRC_VALID
    || (s.wak.edgeRec && decide (wakeOrder kind m < 16 * s.get WAK.WAKE_SRC_KIND + s.get WAK.WAKE_SRC_INDEX))

/-- The record of the wake (R381): KIND, the channel or port (16 + port), the group, and a FRAME's identifier. -/
def State.wakeRecord (s : State) (kind : Nat) (m : Option Nat) (gb : Nat × Bool) (id : Option (Bool × Nat)) : State :=
  if !s.wakeFirst kind m then s else
  let s := (({ s with wak := { s.wak with edgeRec := true } }.wr WAK.WAKE_SRC 0).wr WAK.WAKE_ID 0).setBit WAK.WAKE_SRC_VALID true
  let s := (s.set WAK.WAKE_SRC_KIND kind).set WAK.WAKE_SRC_INDEX (match m with | some m => m % 16 | none => 0)
  let s := (s.set WAK.WAKE_SRC_GROUP gb.1).setBit WAK.WAKE_SRC_IN_GROUP gb.2
  let s := (s.setBit WAK.WAKE_SRC_AFTER_COMMIT (s.wak.power == .powerDown)).setBit WAK.WAKE_SRC_GROUP_ONLY (s.wak.power == .active)
  let s := match id with | some (ide, n) => s.wr WAK.WAKE_ID (word ((if ide then 2147483648 else 0) + n)) | none => s
  s.wr WAK.WAKE_AO (word s.wak.ao)

/-- WAKE_ALL accumulates the source: a channel, a port or the timer. -/
def State.wakeAll (s : State) (kind : Nat) (m : Option Nat) : State :=
  match m with
  | some m => s.wr WAK.WAKE_ALL (s.rd WAK.WAKE_ALL ||| word (2 ^ m))
  | none => if kind = 5 then s.setBit WAK.WAKE_ALL_TIMER true else s

/-- The device wakes: from SLEEP at once, with WAKE_OUT high and ETHn_WAKE high on the ports that no asleep group holds; a wake in
POWER_DOWN is latched (R380, R382). -/
def State.deviceWake (s : State) : State :=
  match s.wak.power with
  | .active => s
  | .waking => s
  | .powerDown => (({ s with wak := { s.wak with late := true } }).bump WAK.LATE_WAKE_CNT).wakRaise WAK.WAK_EVENT_LATE_WAKE
  | .sleep => ({ s with wak := { s.wak with power := .waking, clocks := false, edgeDev := true } }).emit (.wakeOut true)

/-- A wake is accepted: recorded and counted; it wakes its group, with WAKE_FWD, and the device. -/
def State.wakeAccept (s : State) (kind : Nat) (m g : Option Nat) (id : Option (Bool × Nat)) : State :=
  let gb := match g with | some g => (g, true) | none => (0, false)
  let rest := s.wak.power == .sleep || (s.wak.power == .powerDown && !s.wak.late)
  let s := ((s.wakeRecord kind m gb id).wakeAll kind m).bump WAK.WAKE_CNT
  let s := (s.groupsWake g m).wakRaise WAK.WAK_EVENT_WOKE
  let s := s.deviceWake
  if rest then s.ethWakes (List.range 14) true else s

/-- A wake by a channel c, or 16 + a port. -/
def State.memberWake (s : State) (kind m : Nat) (id : Option (Bool × Nat)) : State := s.wakeAccept kind (some m) (s.groupOf m) id

/-- A routed message for a channel whose group is asleep: it is shut out like MODE OFF without WAKE_ON_TX, and wakes the group with it,
KIND TX (R377). -/
def State.asleepShut (s : State) (c : Nat) : Bool :=
  match s.groupOf c with | some g => s.grpAsleep g && !s.bit (WAK.GRP_CTRL_WAKE_ON_TX g) | none => false
def State.txWake (s : State) (c : Nat) : State :=
  if s.memberAsleep c && !s.asleepShut c && !s.isolated c && s.canMode c == 1 then s.memberWake 7 c none else s

/-! ### Commands of the wake decoders -/

/-- A dominant phase of `clocks` always-on clocks (8 MHz) has ended (R373); in PREPARE wakes come as messages (R379). -/
def State.canDom (s : State) (c clocks : Nat) : State :=
  if s.watched c ∧ s.wakeMethod c = 1 ∧ s.wakeFilter c ≤ clocks ∧ clocks < 8 * s.stuckUs c then s.memberWake 1 c none else s

def execCanWakeDom (ch : Fin 16) (clocks ao : Nat) (s : State) : Host.Outcome State Fault Refusal :=
  .next ((s.aoPass ao).canDom ch clocks)

/-- The decoder has received a frame (R374). -/
def State.canFrame (s : State) (c : Nat) (m : CanMsg) : State :=
  if s.watched c ∧ s.wakeMethod c = 2 ∧ s.isWakeFrame c m then s.memberWake 2 c (some (m.ide, m.id.toNat)) else s

def execCanWakeFrame (ch : Fin 16) (msg : CanMsg) (ao : Nat) (s : State) : Host.Outcome State Fault Refusal :=
  .next ((s.aoPass ao).canFrame ch msg)

/-- CANn_WAKE has been high for FILTER (R373): a wake of a watched channel, an abort in PREPARE. -/
def State.canTrx (s : State) (c : Nat) : State :=
  if s.wakeMethod c ≠ 3 ∨ s.isolated c then s
  else if s.watched c then s.memberWake 3 c none
  else s.prepAborts c 3

def execCanWakeTrx (ch : Fin 16) (ao : Nat) (s : State) : Host.Outcome State Fault Refusal := .next ((s.aoPass ao).canTrx ch)

/-- ETHn_INH has risen and held for 1 us (R376): a wake while the port is asleep, an abort in PREPARE. -/
def State.inhRise (s : State) (p : Nat) : State :=
  let was := s.wak.inh.getLsbD p
  let s := { s with wak := { s.wak with inh := s.wak.inh ||| BitVec.ofNat 16 (2 ^ p) } }
  if was then s
  else if s.canWake (16 + p) then s.memberWake 4 (16 + p) none
  else s.prepAborts (16 + p) 3

def execEthInhRise (port : Fin 14) (ao : Nat) (s : State) : Host.Outcome State Fault Refusal := .next ((s.aoPass ao).inhRise port)

/-- ETHn_INH has fallen: the PHY has agreed to sleep (R376). -/
def State.inhFall (s : State) (p : Nat) : State := { s with wak := { s.wak with inh := s.wak.inh &&& ~~~(BitVec.ofNat 16 (2 ^ p)) } }

def execEthInhFall (port : Fin 14) (s : State) : Host.Outcome State Fault Refusal := .next (s.inhFall port)

/-- WAKE_TIMER seconds have passed since the device commit. -/
def State.timerWake (s : State) : State :=
  let sec := s.get WAK.WAKE_TIMER_SECONDS
  if (s.wak.power = .sleep ∨ s.wak.power = .powerDown ∨ s.wak.edgeDev) ∧ sec ≠ 0 ∧ s.wak.ac + sec * 32768 ≤ s.wak.ao then s.wakeAccept 5 none none none else s

def execWakeTimerExpiry (ao : Nat) (s : State) : Host.Outcome State Fault Refusal := .next ((s.aoPass ao).timerWake)

end Sys2Proof.Machine
end

