-- ==== Sys2Proof/Machine/Gwe.lean ====
section
/-! DEFINITION. Gwe.lean: the gateway engine (chapter 10, R207, R218 to R228): internal message frames, routes, packers, secure
messages, and the commands of other blocks that end in it. Tables: (10, 0) route, (10, 1) secure, (10, 2) freshness, (10, 3)
packer. -/
namespace Sys2Proof.Machine

def State.routeW (s : State) (e w : Nat) : Word := s.tw 10 0 0 e w
def State.secW (s : State) (e w : Nat) : Word := s.tw 10 1 0 e w
def State.packW (s : State) (p w : Nat) : Word := s.tw 10 3 0 p w

/-- A freshness counter (R225). -/
def State.freshness (s : State) (k : Nat) : Nat := s.tcnt 10 2 k 0
def State.setFreshness (s : State) (k v : Nat) : State := s.setEntry 10 2 0 k 0 [word v, word (v / 4294967296)]

/-! ### ACF messages (Table 10.5, R220) -/

/-- Payload lengths that CAN knows (R220). -/
def canLen (fdf : Bool) (n : Nat) : Bool :=
  decide (n ≤ 8) || (fdf && (n == 12 || n == 16 || n == 20 || n == 24 || n == 32 || n == 48 || n == 64))

/-- An ACF CAN (or Brief) message. -/
def acfMessage (brief : Bool) (g : GwMsg) : Bytes :=
  let head : Nat := if brief then 8 else 16
  let pad := (4 - g.msg.data.length % 4) % 4
  let q := (head + g.msg.data.length + pad) / 4
  let b := fun (x : Bool) (n : Nat) => if x then n else 0
  toBE 2 ((if brief then 2 else 1) * 512 + q)
    ++ [BitVec.ofNat 8 (pad * 64 + b (!brief && g.stamp.isSome) 32 + b g.msg.rtr 16 + b g.msg.ide 8 + b g.msg.brs 4 + b g.msg.fdf 2 + b g.msg.esi 1),
        BitVec.ofNat 8 g.bus]
    ++ (if brief then [] else toBE 8 (g.stamp.getD 0)) ++ toBE 4 g.msg.id.toNat ++ g.msg.data ++ zeros pad

/-- message_timestamp of an instant in quarter nanoseconds. -/
def acfStamp (q : Nat) : Nat := (secOf q * 1000000000 + nsOf q) % 2 ^ 64

/-- An NTSCF frame without FCS: addresses, tag, header, messages, padding (Table 10.1, R222). -/
def ntscf (da sa tag sid : Bytes) (seq : Nat) (acf : Bytes) : Bytes :=
  padTo 60 (da ++ sa ++ tag ++ toBE 2 0x22F0
    ++ [0x82, BitVec.ofNat 8 (128 + acf.length / 256 % 8), BitVec.ofNat 8 acf.length, BitVec.ofNat 8 seq] ++ sid ++ acf)

/-- GW_SA. -/
def State.gwSa (s : State) : Bytes := toBE 2 (s.get GWE.GW_SA_HI_SA_HI) ++ toBE 4 (s.get GWE.GW_SA_LO_SA_LO)

/-- The internal frame of a received message, and the channel's next sequence_num (Table 10.1). -/
def State.internalFrame (s : State) (c : Nat) (r : CanRx) : Bytes × State :=
  let g : GwMsg := { msg := r.msg, bus := c, oide := r.msg.ide, oid := r.msg.id, stamp := some (acfStamp r.sof) }
  let sid := toBE 4 (s.rd GWE.GW_SID_HI).toNat ++ toBE 3 ((s.rd GWE.GW_SID_LO).toNat / 256) ++ toBE 1 c
  let d := ntscf (toBE 2 (s.get GWE.GW_DA_HI_DA_HI) ++ toBE 4 (s.get GWE.GW_DA_LO_DA_LO)) s.gwSa [] sid (s.can c).seq (acfMessage false g)
  (d, s.setCan c { s.can c with seq := ((s.can c).seq + 1) % 256 })

/-! ### Secure entries and failures (R223 to R225) -/

/-- The inbound entry that a message of a channel matches; the lowest index acts. -/
def State.inboundEntry (s : State) (c : Nat) (ide : Bool) (id : BitVec 29) : Option Nat :=
  (List.range 256).find? fun e => bitsOf (s.secW e 0) 31 30 == 2 && (bitsOf (s.secW e 0) 29 29 == 1) == ide &&
    bitsOf (s.secW e 0) 28 0 == id.toNat && bitsOf (s.secW e 1) 31 28 == c

def State.freshLen (s : State) (e : Nat) : Nat := bitsOf (s.secW e 1) 23 21
def State.macBytes (s : State) (e : Nat) : Nat := bitsOf (s.secW e 1) 20 16
def State.totalLen (s : State) (e : Nat) : Nat := bitsOf (s.secW e 1) 15 9
def State.freshIdx (s : State) (e : Nat) : Nat := bitsOf (s.secW e 1) 8 0
def State.dataLen (s : State) (e : Nat) : Nat := s.totalLen e - s.freshLen e - s.macBytes e

/-- A failure with a cause: 0 LEN, 1 FRESH, 2 KEY, 3 MAC (R225). -/
def State.secFail (s : State) (e c cause : Nat) (m : CanMsg) : State :=
  let s := s.bump (match cause with
    | 0 => GWE.SEC_LEN_FAIL_CNT | 1 => GWE.SEC_FRESH_FAIL_CNT | 2 => GWE.SEC_KEY_FAIL_CNT | _ => GWE.SEC_MAC_FAIL_CNT)
  let s := if s.bit GWE.GWE_EVENT_SEC_FAIL then s else s.wr GWE.SEC_FAIL_INFO (word (c * 268435456 + cause * 16777216 + e))
  (s.raise GWE.GWE_EVENT_SEC_FAIL).gwEvent 3 c 0 m.ide m.id.toNat

/-- The head of a channel's receive FIFO fails: it is discarded, with FAIL_SLOW also delivered on the slow path (R225). -/
def State.inboundFail (s : State) (c e cause : Nat) : State :=
  match (s.can c).rx with
  | [] => s
  | r :: rest =>
    let s := (s.setCan c { s.can c with rx := rest }).secFail e c cause r.msg
    if bitsOf (s.secW e 3) 0 0 = 0 then s else
    let x := s.internalFrame c r
    let s := x.2.offerP15 0 x.1 none (some r.sof)
    { s with frames := s.frames.map fun (f : Frame) => if f.fid + 1 = s.nextFid then { f with cpu := some 0xF3 } else f }

/-- The candidate value of R225, or none when it fails FRESH. -/
def State.candidate (s : State) (e : Nat) (m : CanMsg) : Option Nat :=
  let l := s.freshness (s.freshIdx e)
  let n := s.freshLen e
  let got := ((m.data.drop (s.dataLen e)).take n).foldl (fun a b => a * 256 + b.toNat) 0
  let c := l / 256 ^ n * 256 ^ n + got
  let c := if n = 0 then l + 1 else if c ≤ l then c + 256 ^ n else c
  if bitsOf (s.secW e 3) 31 16 < c - l ∨ 2 ^ 64 ≤ c then none else some c

/-! ### Gateway requests (R224, R226, R227) -/

/-- The look-aside request of a job. -/
def State.gwRequest (s : State) (j : GwJob) : LaReq :=
  let mk := fun (op e : Nat) (data mac : Bytes) (v : Nat) =>
    let d := toBE 2 (bitsOf (s.secW e 2) 31 16) ++ data ++ toBE 8 v
    ({ who := 0, words := [word (op * 268435456 + bitsOf (s.secW e 2) 9 0), word (s.macBytes e * 256), word d.length, 0, 0, 0, 0, 0],
       key := [], imm := d ++ mac, job := some j } : LaReq)
  match j with
  | .inbound c e cand =>
    let d := match (s.can c).rx.head? with | some r => r.msg.data | none => []
    mk 2 e (d.take (s.dataLen e)) (d.drop (s.dataLen e + s.freshLen e)) cand
  | .outbound e v g _ => mk 1 e g.msg.data [] v

/-- The checks of the look-aside engine on a gateway request, which stands or is refused (R265). -/
def State.gwSubmit (s : State) (j : GwJob) : Nat × State :=
  let r := s.gwRequest j
  match s.laCheck r with
  | 0 => (1, s.laAccept r)
  | 1 => (2, s.keyDenied)
  | _ => (3, s)

/-- The cause of a gateway request that was refused: KEY by the key store, MAC for BAD_REQ (assumption 128). -/
def gwCause (made : Nat) : Nat := if made = 2 then 2 else 3

/-- A request is made: accepted, refused by the checks of R265, or kept pending while the share is full (R226, R263). Answers
1 accepted, 2 refused by the key store, 3 refused as BAD_REQ, 0 pending. -/
def State.gwMake (s : State) (j : GwJob) : Nat × State :=
  if laShare 0 ≤ s.laCount 0 ∨ s.gwe.waitQ ≠ [] then
    (0, { (s.bump GWE.SEC_LA_FULL_CNT) with gwe := { s.gwe with waitQ := s.gwe.waitQ ++ [j] } })
  else s.gwSubmit j

/-- The channel's head is marked as being checked, or as free to be built. -/
def State.markHead (s : State) (c k : Nat) : State :=
  match (s.can c).rx with
  | [] => s
  | r :: rest => s.setCan c { s.can c with rx := { r with check := k } :: rest }

/-- A request on a freshness counter has been made and has no result yet (R226). -/
def State.ctrBusy (s : State) (k : Nat) : Bool :=
  let on := fun (j : GwJob) => match j with | .inbound _ e _ => s.freshIdx e == k | .outbound e _ _ _ => s.freshIdx e == k
  (s.la.reqs.any fun r => match r.job with | some j => on j | none => false) || s.gwe.waitQ.any on

/-- The freshness counter that the next message of the copy in hand needs, and the message's SOF (R226). -/
def State.handNeeds (s : State) : Option (Nat × Nat) :=
  match s.gwe.hand with
  | none => none
  | some h =>
    let w2 := h.route.getD 2 0
    let e := bitsOf w2 7 0
    if h.steps ≠ [] ∧ bitsOf w2 31 31 = 1 ∧ bitsOf (s.secW e 0) 31 30 = 3 then some (s.freshIdx e, h.ts) else none

/-- Heads that need a check: SOF, channel, entry (R225). -/
def State.unchecked (s : State) : List (Nat × Nat × Nat) :=
  (List.range 16).filterMap fun c => match (s.can c).rx.head? with
    | some r => if r.check = 0 then (s.inboundEntry c r.msg.ide r.msg.id).map fun e => (r.sof, c, e) else none
    | none => none

/-- One head that needs a check, earliest SOF first, lowest channel between equals, whose counter is free, and which no outbound message
of an earlier SOF waits for (R225, R226). -/
def State.nextCheck (s : State) : Option (Nat × Nat) :=
  let hs := s.unchecked.filter fun x => !s.ctrBusy (s.freshIdx x.2.2) && !s.handNeeds.any fun n => n.1 == s.freshIdx x.2.2 && decide (n.2 < x.1)
  match hs.foldl (fun (m : Option (Nat × Nat × Nat)) h => match m with | some k => if h.1 < k.1 then some h else m | none => some h) none with
  | some (_, c, e) => some (c, e)
  | none => none

/-- The check of one head begins (R225). -/
def State.beginCheck (s : State) (c e : Nat) : State :=
  match (s.can c).rx.head? with
  | none => s
  | some r =>
    if r.msg.data.length ≠ s.totalLen e then s.inboundFail c e 0 else
    match s.candidate e r.msg with
    | none => s.inboundFail c e 1
    | some v =>
      let x := s.gwMake (.inbound c e v)
      if 2 ≤ x.1 then x.2.inboundFail c e (gwCause x.1) else x.2.markHead c 1

/-- Heads without a secure entry need no check. -/
def State.freeHeads (s : State) : State :=
  s.each (List.range 16) fun s c => match (s.can c).rx.head? with
    | some r => if r.check = 0 ∧ (s.inboundEntry c r.msg.ide r.msg.id).isNone then s.markHead c 2 else s
    | none => s

/-- Checks begin for every head that can be checked (at most 16 FIFOs of 64 messages). -/
def State.checks (s : State) : Nat → State
  | 0 => s
  | n + 1 => match s.nextCheck with | some (c, e) => (s.beginCheck c e).checks n | none => s

def State.gwService (s : State) : State := (s.checks 1024).freeHeads

/-! ### Internal message frames (R207) -/

/-- The channel whose head goes next: the earliest SOF, the lowest channel between equals. -/
def State.nextMessage (s : State) : Option Nat :=
  let hs := (List.range 16).filterMap fun c => match (s.can c).rx.head? with
    | some r => if r.check = 2 then some (r.sof, c) else none
    | none => none
  (hs.foldl (fun (m : Option (Nat × Nat)) h => match m with | some k => if h.1 < k.1 then some h else m | none => some h) none).map fun h => h.2

/-! ### Placing messages (R209, R210, R214, R219, R222) -/

/-- The packer's first instant after a time, quarter ns. -/
def State.packNext (s : State) (p q : Nat) : Nat :=
  let start := instant (bitsOf (s.packW p 5) 15 0 * 4294967296 + (s.packW p 4).toNat) (bitsOf (s.packW p 3) 29 0) 0
  let per := max 1 (bitsOf (s.packW p 2) 19 0) * usQ
  start + firstK start per (q + 1) * per

def State.pack (s : State) (p : Nat) : Pack := assocD s.gwe.packs p {}
def State.setPack (s : State) (p : Nat) (x : Pack) : State := { s with gwe := { s.gwe with packs := assocSet s.gwe.packs p x } }
def Pack.size (x : Pack) : Nat := x.msgs.foldl (fun n m => n + m.length) 0

/-- The packer's frame leaves for Basin as requester 1 (R222). -/
def State.packSend (s : State) (p : Nat) : State :=
  let x := s.pack p
  let w0 := s.packW p 0
  let tag := if bitsOf w0 28 28 = 1 then toBE 2 0x8100 ++ toBE 2 (bitsOf w0 27 25 * 8192 + bitsOf w0 11 0) else []
  let d := ntscf (toBE 2 (s.packW p 8).toNat ++ toBE 4 (s.packW p 9).toNat) s.gwSa tag (toBE 4 (s.packW p 6).toNat ++ toBE 4 (s.packW p 7).toNat)
    x.seq x.msgs.flatten
  ((s.setPack p { x with msgs := [], seq := (x.seq + 1) % 256 }).offerP15 1 d).bump GWE.PACK_FRAME_CNT

/-- A message is discarded by a packer (R222). -/
def State.packOvf (s : State) (p : Nat) (m : CanMsg) : State :=
  ((s.bump GWE.PACK_OVF_CNT).raise GWE.GWE_EVENT_PACK_OVF).gwEvent 4 p 0 m.ide m.id.toNat

/-- A message reaches a packer (R222). -/
def State.packPut (s : State) (p : Nat) (g : GwMsg) : State :=
  let w0 := s.packW p 0
  let b := acfMessage (bitsOf w0 30 30 == 1) g
  let mx := bitsOf (s.packW p 1) 10 0
  if bitsOf w0 31 31 = 0 ∨ mx < b.length then s.packOvf p g.msg else
  let full := decide (mx < (s.pack p).size + b.length)
  if full ∧ bitsOf w0 29 29 = 0 then s.packOvf p g.msg else
  let s := if full then (s.packSend p).bump GWE.PACK_EARLY_CNT else s
  let x := s.pack p
  (s.setPack p { x with msgs := x.msgs ++ [b], next := if x.msgs = [] then s.packNext p s.nowQ else x.next }).bump GWE.PACK_MSG_CNT

/-- An instant B of a packer has come (R222). -/
def State.packRelease (s : State) (p : Nat) : State :=
  if s.flowing ∧ bitsOf (s.packW p 0) 31 31 = 1 ∧ (s.pack p).msgs ≠ [] ∧ (s.pack p).next ≤ s.nowQ then s.packSend p else s

def execPackerRelease (packer : Fin 16) (s : State) : Host.Outcome State Fault Refusal := .next (s.packRelease packer)

/-- A step of working time: the frame in hand waits for the next instant (R222). -/
def State.packReposition (s : State) : State :=
  s.each (List.range 16) fun s p =>
    if (s.pack p).msgs = [] then s else s.setPack p { s.pack p with next := s.packNext p (s.nowQ - 1) }

/-- A message reaches a transmit FIFO (R210), and wakes the channel's group when it may (R377). -/
def State.fifoPut (s : State) (c f : Nat) (m : CanMsg) : State :=
  let s := s.txWake c
  if s.canMode c ≠ 1 ∨ s.memberAsleep c then s.bump (CAN.TX_REFUSED c)
  else if 32 ≤ ((s.can c).fifo f).length then (s.bump (CAN.TX_FULL_DROP c)).raise (CAN.CH_EVENT_TX_FULL c)
  else s.setCan c { s.can c with tx := (s.can c).tx ++ [(f, m)] }

/-- A message enters its target. -/
def State.gwPlace (s : State) (g : GwMsg) : GwTarget → State
  | .fifo c f => s.fifoPut c f g.msg
  | .packer p => s.packPut p g

/-- FIFO of a message on a channel (R209). -/
def State.fifoOf (s : State) (c : Nat) (w0 : Word) (m : CanMsg) : Nat :=
  if bitsOf w0 22 22 = 0 then bitsOf w0 21 20 else
  let k := if m.ide then m.id.toNat else m.id.toNat % 2048 * 262144
  if k < s.get (CAN.TXF_TH_KEY c 0) then 0 else if k < s.get (CAN.TXF_TH_KEY c 1) then 1 else if k < s.get (CAN.TXF_TH_KEY c 2) then 2 else 3

/-- CAN_ZONE of a channel under a version, and whether a zone may reach it (R113, R115). -/
def State.canZoneOk (s : State) (ver z c : Nat) : Bool :=
  let cz := s.tbits 4 tZone (ver % 4) 16 (c / 8) (4 * (c % 8) + 3) (4 * (c % 8))
  bitsOf (s.slcW tZone (ver % 4) z 0) cz cz == 1

/-- The channel that a message routed to c goes to: the fallback when c is bus-off or OFF, or asleep without WAKE_ON_TX, and
FB_EN is set (R214, R377). -/
def State.fallback (s : State) (c : Nat) (w0 : Word) : Option Nat :=
  if bitsOf w0 27 27 = 1 ∧ (s.get (CAN.CH_STATUS_STATE c) = 2 ∨ s.canMode c = 0 ∨ s.asleepShut c) then some (bitsOf w0 26 23) else none

/-- Outbound data: an inbound entry's freshness and MAC bytes are removed first (R227). -/
def State.bareData (s : State) (g : GwMsg) : GwMsg :=
  match s.inboundEntry g.bus g.oide g.oid with
  | some e => { g with msg := { g.msg with data := g.msg.data.take (g.msg.data.length - s.freshLen e - s.macBytes e) } }
  | none => g

/-- A message with a target, authenticated first when the route has SEC_EN (R227). Answers whether the engine may go on; without a
valid outbound entry the message is discarded as refused by KEY (assumption 28). -/
def State.gwSend (s : State) (w2 : Word) (g : GwMsg) (t : GwTarget) : Bool × State :=
  if bitsOf w2 31 31 = 0 then (true, s.gwPlace g t) else
  let e := bitsOf w2 7 0
  let g := s.bareData g
  if bitsOf (s.secW e 0) 31 30 ≠ 3 then (true, s.secFail e g.bus 2 g.msg)
  else if g.msg.data.length ≠ s.dataLen e then (true, s.bump GWE.SEC_LEN_FAIL_CNT)
  else
    let l := s.freshness (s.freshIdx e)
    if l = 2 ^ 64 - 1 then (true, s.secFail e g.bus 1 g.msg) else
    let x := (s.setFreshness (s.freshIdx e) (l + 1)).gwMake (.outbound e (l + 1) g t)
    if 2 ≤ x.1 then (true, x.2.secFail e g.bus (gwCause x.1) g.msg) else (x.1 = 1, x.2)

/-- One message at one target: 0 to 15 a channel, 16 + p a packer (R219). -/
def State.gwStep (s : State) (h : GwHand) (g : GwMsg) (t : Nat) : Bool × State :=
  let w0 := h.route.getD 0 0
  let w2 := h.route.getD 2 0
  if 16 ≤ t then s.gwSend w2 g (.packer (t - 16)) else
  let fb := s.fallback t w0
  let c := fb.getD t
  let s := if fb.isSome then s.bump (CAN.FALLBACK_CNT t) else s
  if !s.canZoneOk h.ver h.zone c then (true, (s.bump (CAN.ZONE_DROP c)).raise (CAN.CH_EVENT_ZONE_VIOL c))
  else if g.msg.fdf ∧ (g.msg.rtr ∨ !s.bit (CAN.CH_CTRL_FD_EN c)) then (true, s.bump (CAN.FORMAT_DROP c))
  else s.gwSend w2 g (.fifo c (s.fifoOf t w0 g.msg))

/-- The message in hand needs a freshness counter on which a request has no result yet, or which an inbound message of an earlier SOF
waits for (R226). -/
def State.gwHeld (s : State) : Bool :=
  s.handNeeds.any fun n => s.ctrBusy n.1 || s.unchecked.any fun x => s.freshIdx x.2.2 == n.1 && decide (x.1 ≤ n.2)

/-- The engine goes on with the copy in hand until a request is pending, a counter is busy or nothing is left. -/
def State.gwRun (s : State) : Nat → State
  | 0 => s
  | n + 1 =>
    match s.gwe.hand with
    | none => s
    | some h =>
      match h.steps with
      | [] => s
      | (g, t) :: rest =>
        if s.gwHeld then s else
        let s := { s with gwe := { s.gwe with hand := some { h with steps := rest } } }
        let x := s.gwStep h g t
        if x.1 then x.2.gwRun n else x.2

/-- The engine may handle nothing while an outbound request is pending (R226). -/
def State.gwStalled (s : State) : Bool := s.gwe.waitQ.any fun j => match j with | .outbound _ _ _ _ => true | .inbound _ _ _ => false

/-- The engine goes on with the copy in hand when nothing holds it any more. -/
def State.gwResume (s : State) : State :=
  if s.gwStalled then s else s.gwRun (match s.gwe.hand with | some h => h.steps.length + 1 | none => 0)

/-- What the engine can go on with, in both directions; it stands still without its clock (R23, R225, R226). -/
def State.gwGo (s : State) : State := if s.pllLost 0 then s else (s.gwService.gwResume).gwService

def execCanMsgReceived (ch : Fin 16) (msg : CanMsg) (sof : Nat) (s : State) : Host.Outcome State Fault Refusal :=
  .next (((s.canHeard ch msg sof).canReceive ch msg sof).gwGo)
def execCanTxDone (ch : Fin 16) (s : State) : Host.Outcome State Fault Refusal := .next ((s.canTxDone ch).gwGo)
def execBufferAllocate (slice : Fin 16) (fids : List Nat) (core : List (Bool × Bytes)) (s : State) : Host.Outcome State Fault Refusal :=
  .next ((s.bufferAllocate slice fids core).gwGo)

/-- The gateway message source builds one frame and offers it to Basin (R207); it holds one frame at a time (R151). -/
def State.internalBuild (s : State) : State :=
  let s := s.gwGo
  if !s.flowing ∨ s.frames.any (fun f => f.inPort == 15 && f.src == 0 && f.waiting) then s else
  match s.nextMessage with
  | none => s
  | some c =>
    match (s.can c).rx.head? with
    | none => s
    | some r => let x := s.internalFrame c r; x.2.offerP15 0 x.1 (some (c, 1)) (some r.sof)

def execInternalFrameBuild (s : State) : Host.Outcome State Fault Refusal := .next s.internalBuild

/-! ### Unpacking (R220) -/

/-- What a walk finds: messages, skipped and bad ones. -/
structure Unpacked where
  msgs : List GwMsg := []
  skip : Nat := 0
  bad  : Nat := 0
  deriving DecidableEq, Repr

/-- One ACF message of n quadlets: none when its payload length is not valid. -/
def acfParse (d : Bytes) (brief : Bool) (n : Nat) : Option GwMsg :=
  let b := byteAt d 2
  let head : Nat := if brief then 8 else 16
  let len : Int := (n * 4 : Int) - head - b / 64
  let fdf := b / 2 % 2 == 1
  if len < 0 ∨ !canLen fdf len.toNat then none else
  let ide := b / 8 % 2 == 1
  let id := BitVec.ofNat 29 (be32 d (head - 4) % (if ide then 2 ^ 29 else 2048))
  let m : CanMsg := { ide := ide, id := id, rtr := b / 16 % 2 == 1, fdf := fdf, brs := b / 4 % 2 == 1, esi := b % 2 == 1,
                      data := (d.drop head).take len.toNat }
  some { msg := m, bus := byteAt d 3 % 32, oide := ide, oid := id, stamp := if !brief ∧ b / 32 % 2 = 1 then some (be64 d 4) else none }

/-- Walks the messages of `left` bytes; a message takes at least four, so a quarter of the frame's bytes bounds the walk. -/
def acfWalk : Nat → Bytes → Nat → Unpacked → Unpacked
  | 0, _, _, u => u
  | k + 1, d, left, u =>
    if left = 0 then u else
    let n := be16 d 0 % 512
    let ty := be16 d 0 / 512
    if n = 0 ∨ left < n * 4 ∨ d.length < n * 4 then { u with bad := u.bad + 1 } else
    let u := if ty ≠ 1 ∧ ty ≠ 2 then { u with skip := u.skip + 1 }
      else match acfParse d (ty == 2) n with
        | some g => { u with msgs := u.msgs ++ [g] }
        | none => { u with bad := u.bad + 1 }
    acfWalk k (d.drop (n * 4)) (left - n * 4) u

/-- The walk of a frame: NTSCF subtype 0x82 with a header of 12 bytes, TSCF subtype 0x05 with one of 24 (its length field as in
IEEE 1722, assumption 29). -/
def unpack (d : Bytes) : Unpacked :=
  let o := if be16 d 12 = 0x8100 ∨ be16 d 12 = 0x88A8 then 18 else 14
  if d.length ≤ o then { bad := 1 }
  else if byteAt d o = 0x82 then acfWalk (d.length / 4 + 1) (d.drop (o + 12)) (be16 d (o + 1) % 2048) {}
  else if byteAt d o = 0x05 then acfWalk (d.length / 4 + 1) (d.drop (o + 24)) (be16 d (o + 20)) {}
  else { bad := 1 }

/-- XLAT (R219). -/
def xlat (w1 : Word) (g : GwMsg) : GwMsg :=
  if bitsOf w1 31 31 = 0 then g else
  let ide := bitsOf w1 30 30 == 1
  { g with msg := { g.msg with ide := ide, id := BitVec.ofNat 29 (if ide then bitsOf w1 28 0 else bitsOf w1 10 0) } }

/-- The targets of a message (R219). -/
def routeTargets (w0 : Word) (g : GwMsg) : List Nat :=
  if bitsOf w0 30 29 = 1 then [16 + bitsOf w0 19 16]
  else (List.range 16).filter fun c => bitsOf w0 c c == 1 && (bitsOf w0 28 28 == 0 || c == g.bus)

/-- A copy of frame bytes d reaches the gateway engine (R218 to R220). -/
def State.gwCopy (s : State) (f : Frame) (d : Bytes) : State :=
  let r := (List.range 4).map fun w => s.routeW f.gwRoute w
  let w0 := r.getD 0 0
  let h : GwHand := { fid := f.fid, route := r, zone := f.zone, ver := f.version, ts := f.ts, steps := [] }
  if bitsOf w0 31 31 = 0 then { (s.bump GWE.ROUTE_INVALID_CNT) with gwe := { s.gwe with hand := some h } } else
  let u := unpack d
  let s := ((s.bumpBy GWE.UNPACK_MSG_CNT u.msgs.length).bumpBy GWE.UNPACK_SKIP_CNT u.skip).bumpBy GWE.UNPACK_BAD_CNT u.bad
  let s := if u.bad = 0 then s else s.raise GWE.GWE_EVENT_UNPACK_BAD
  let steps := u.msgs.flatMap fun g => (routeTargets w0 g).map fun t => (xlat (r.getD 1 0) g, t)
  ({ s with gwe := { s.gwe with hand := some { h with steps := steps } } }).gwRun (steps.length + 1)

/-- An outbound request of the copy in hand has no result yet: its message is neither placed nor discarded (R219). -/
def State.gwAwaits (s : State) : Bool :=
  s.gwStalled || s.la.reqs.any fun r => match r.job with | some (.outbound _ _ _ _) => true | _ => false

/-- Every message of a frame's copy has been placed or discarded, and the engine holds no other (R219). -/
def State.gwDone (s : State) (fid : Nat) : Bool :=
  match s.gwe.hand with | some h => h.fid == fid && h.steps == [] && !s.gwAwaits | none => false

/-- The copy in hand ends. -/
def State.gwLeave (s : State) : State := { s with gwe := { s.gwe with hand := none } }

/-! ### Results of gateway requests (R225 to R227) -/

/-- The result of an inbound check: pass moves L and frees the head (R225). -/
def State.inboundResult (s : State) (c e v res : Nat) : State :=
  match (s.can c).rx.head? with
  | none => s
  | some r =>
    if r.check ≠ 1 then s
    else if res = 0 then ((s.setFreshness (s.freshIdx e) v).bump GWE.SEC_OK_CNT).markHead c 2
    else s.inboundFail c e (if res = 1 then 2 else 3)

/-- The result of an outbound request: freshness and MAC bytes are appended and the message enters its target (R227). -/
def State.outboundResult (s : State) (e v : Nat) (g : GwMsg) (t : GwTarget) (res : Nat) (mac : Bytes) : State :=
  if res ≠ 0 then s.secFail e g.bus 2 g.msg else
  let n := s.freshLen e
  let d := g.msg.data ++ toBE n (v % 256 ^ n) ++ mac
  (s.bump GWE.SEC_GEN_CNT).gwPlace { g with msg := { g.msg with data := d } } t

/-- A look-aside request that has started completes (R263): a core pair's result is posted, the gateway engine acts on its own. A
result that finds its queue full waits (assumption 30), and without the clock of the data path none comes (R23). -/
def State.laComplete (s : State) (idx : Nat) (ecc : EccState) : State :=
  match s.la.reqs[idx]? with
  | none => s
  | some r =>
    if s.pllLost 0 ∨ !s.laStarted idx r ∨ (r.who ≠ 0 ∧ 64 ≤ s.laPosted r.who) then s else
    let x := s.laFinish idx r ecc
    let s := x.2.2
    let s := match r.job with
      | none => s.laPost r x.1 x.2.1
      | some (.inbound c e v) => s.inboundResult c e v x.1
      | some (.outbound e v g t) => s.outboundResult e v g t x.1 x.2.1
    s.gwGo

def execLaComplete (idx : Nat) (ecc : EccState) (s : State) : Host.Outcome State Fault Refusal := .next (s.laComplete idx ecc)

/-- An entry of the share frees: the oldest pending request is made again (R226). -/
def State.secResubmit (s : State) : State :=
  match s.gwe.waitQ with
  | [] => s
  | j :: rest =>
    if s.pllLost 0 ∨ laShare 0 ≤ s.laCount 0 then s else
    let s := { s with gwe := { s.gwe with waitQ := rest } }
    let x := s.gwSubmit j
    let s := if x.1 = 1 then x.2 else match j with
      | .inbound c e _ => x.2.inboundFail c e (gwCause x.1)
      | .outbound e _ g _ => x.2.secFail e g.bus (gwCause x.1) g.msg
    s.gwGo

def execSecRequestResubmit (s : State) : Host.Outcome State Fault Refusal := .next s.secResubmit

/-- Every paired freshness counter advances by FRESH_SKIP after a takeover (R228). -/
def State.freshSkip (s : State) : State :=
  let ks := (s.tabs.filter fun x => decide (x.1 / 1048576 = (10 * 16 + 2) * 4) && x.1 % 32 == 2 && bitsOf x.2 31 31 == 1).map
    fun x => x.1 % 1048576 / 32
  s.each ks fun s k => s.setFreshness k (min (2 ^ 64 - 1) (s.freshness k + s.get GWE.GW_CTRL_FRESH_SKIP))

/-! ### Tables (R218, R221, R223) -/

def State.gweResult (s : State) (res : Nat) : State := (s.setBit GWE.TBL_STATUS_BUSY false).set GWE.TBL_STATUS_RESULT res

/-- Words and entries of a table. -/
def gweSize : Nat → Nat × Nat
  | 0 => (4, 1024) | 1 => (4, 256) | 2 => (3, 512) | _ => (10, 16)

/-- Defined bits of word w; an outbound secure entry has no CHANNEL, IDE and ID. -/
def gweMask (tbl w : Nat) (out : Bool) : Word :=
  match tbl with
  | 0 => if w = 0 then 0xFFFFFFFF else if w = 1 then 0xDFFFFFFF else if w = 2 then 0x800000FF else 0
  | 1 => if w = 0 then (if out then 0xC0000000 else 0xFFFFFFFF) else if w = 1 then (if out then 0x00FFFFFF else 0xF0FFFFFF)
         else if w = 2 then 0xFFFF03FF else 0xFFFF0001
  | 2 => if w = 2 then 0x80000000 else 0xFFFFFFFF
  | _ => if w = 0 then 0xFE000FFF else if w = 1 then 0x7FF else if w = 2 then 0xFFFFF else if w = 3 then 0x3FFFFFFF
         else if w = 5 ∨ w = 8 then 0xFFFF else 0xFFFFFFFF

/-- Contents that a WRITE refuses with BAD_ENTRY (R218, R221, R223). -/
def gweBad (tbl : Nat) (ws : List Word) : Bool :=
  let w0 := ws.getD 0 0
  let w1 := ws.getD 1 0
  match tbl with
  | 0 => decide (2 ≤ bitsOf w0 30 29)
  | 1 =>
    let n := bitsOf w1 23 21
    let m := bitsOf w1 20 16
    decide (bitsOf w1 15 9 < n + m) || !canLen true (bitsOf w1 15 9)
  | 3 => !inRange 64 1488 (bitsOf w1 10 0) || !inRange 1 1000000 (bitsOf (ws.getD 2 0) 19 0)
  | _ => false

/-- A WRITE of a packer that changes PERIOD, START or VALID discards the frame in hand (R221). -/
def State.packRewrite (s : State) (p : Nat) (ws : List Word) : State :=
  let old := s.entry 10 3 0 p 10
  if bitsOf (old.getD 0 0) 31 31 = bitsOf (ws.getD 0 0) 31 31 ∧ (old.drop 2).take 4 = (ws.drop 2).take 4 then s
  else (s.bumpBy GWE.PACK_OVF_CNT (s.pack p).msgs.length).setPack p { s.pack p with msgs := [] }

/-- Runs a table command: 1 READ, 2 WRITE (Table 10.9). -/
def State.gweRun (s : State) (cmd : Word) (ecc : EccState) : State :=
  let tbl := bitsOf cmd 31 28
  let op := bitsOf cmd 27 24
  let idx := bitsOf cmd 9 0
  let n := (gweSize tbl).1
  if 3 < tbl ∨ (op ≠ 1 ∧ op ≠ 2) then s.gweResult 8
  else if (gweSize tbl).2 ≤ idx then s.gweResult 2
  else if op = 2 then
    let ws := s.window (GWE.TBL_DATA 0) n
    let out := tbl == 1 && bitsOf (ws.getD 0 0) 30 30 == 1
    if ((List.range n).any fun w => !legalWord (ws.getD w 0) (gweMask tbl w out)) || gweBad tbl ws then s.gweResult 6 else
    let s := if tbl = 3 then s.packRewrite idx ws else s
    (s.setEntry 10 tbl 0 idx 0 ws).gweResult 0
  else if ecc = .uncorrectable then (s.raise GWE.GWE_EVENT_ECC_UNCORR).gweResult 7
  else (s.fillWindow (GWE.TBL_DATA 0) 10 (s.entry 10 tbl 0 idx n)).gweResult 0

/-- The write of TBL_CMD by an initiator (R397). -/
def State.gweTable (s : State) (ini : Initiator) (cmd : Word) (ecc : EccState) : State :=
  s.tableWrite ini 4 GWE.TBL_CMD false fun s => s.gweRun cmd ecc

def execGweTblRead (ini : Initiator) (cmd : Word) (ecc : EccState) (s : State) : Host.Outcome State Fault Refusal :=
  .next (s.gweTable ini (putBits cmd 27 24 1) ecc)
def execGweTblWrite (ini : Initiator) (cmd : Word) (s : State) : Host.Outcome State Fault Refusal :=
  .next (s.gweTable ini (putBits cmd 27 24 2) .ok)

/-- The read of EVQ_DATA removes the head entry (Table 10.9). -/
def State.gwPop (s : State) : Word × State := (s.gwe.evq.headD 0, { s with gwe := { s.gwe with evq := s.gwe.evq.tail } })

def execGweEvqRead (ini : Initiator) (s : State) : Host.Outcome State Fault Refusal :=
  .next (s.readAt ini GWE.EVQ_DATA fun s => s.gwPop)

end Sys2Proof.Machine
end

