-- ==== Sys2Proof/Machine/Twp.lean ====
section
/-! DEFINITION. Twp.lean: Towpath (chapter 13): claims, heartbeats, state copy, departure notes, planned swaps, pair commits. -/
namespace Sys2Proof.Machine

/-! ### Instants of the pair cycle (R279) -/

/-- HB_GRACE and SWAP_GUARD as they act, in microseconds. -/
def State.graceUs (s : State) : Nat := max 1 (s.get TWP.HB_CFG_HB_GRACE)
def State.guardUs (s : State) : Nat := clampN 10 10000 (s.get TWP.HB_CFG_SWAP_GUARD)

/-- PAIR_BASE in quarter nanoseconds. -/
def State.pairBase (s : State) : Nat :=
  instant (s.get TWP.PAIR_BASE_SEC_HI_SEC_HI * 4294967296 + s.get TWP.PAIR_BASE_SEC_LO_SEC_LO) (s.get TWP.PAIR_BASE_NS_NS) 0

/-- T_n (R279). -/
def State.pairT (s : State) (n : Nat) : Nat := s.pairBase + n * (s.pairUs * usQ)

/-- T_n of the last pair-cycle end that the unit took. -/
def State.lastT (s : State) : Nat := match s.twp.cycle with | some n => s.pairT n | none => 0

/-- The standby of a pair: rank 4 and not driving. -/
def State.standby (s : State) : Bool := s.isStandby && claimRank s.ownClaim == 4

/-! ### Sync (R285, R286, R291) -/

/-- A full resync of the sections in a mask is requested (R285, R286). -/
def State.requestResync (s : State) (mask : BitVec 8) : State :=
  ({ s with twp := { s.twp with resync := s.twp.resync ||| mask, whole := s.twp.whole &&& ~~~mask, asked := s.twp.cycle.getD 0 } }).sendCtrl 5
    [mask.setWidth 32]

/-- A note gap opens (R291). -/
def State.noteGap (s : State) : State := ({ s with twp := { s.twp with gap := some s.nextCid } }).raise TWP.TWP_EVENT_NOTE_GAP

/-! ### Flushes (R281, R294) -/

/-- Parked copies of the ports that `on` names can be started; one that has lost cells is discarded (R171, R275). -/
def State.unpark (s : State) (on : Nat → Bool) : State :=
  s.each (s.copies.filter fun c => c.st == .parked && on c.out) fun s c =>
    if c.lost then s.copyLeaves c 1 else s.putCopy { c with st := .committed }

/-- The copies of paired ports in a mask with an ingress timestamp before t are discarded and counted; parked copies that stay
can be started. -/
def State.fenceFlush (s : State) (mask t : Nat) : State :=
  let mine := fun (c : Copy) => mask / 2 ^ c.out % 2 == 1 && s.pairedPort c.out
  let old := s.copies.filter fun c => mine c && c.waits && (s.frame? c.fid).any fun f => s.fenced f t
  let s := s.each old fun s c => (s.copyGone c).bump (TWP.FLUSH_TC c.tc)
  s.unpark fun p => mask / 2 ^ p % 2 == 1 && s.pairedPort p

/-- A takeover (R281, R254, R228, R295). -/
def State.takeover (s : State) : State :=
  let q := s.nowQ
  let s := s.setClaim 8 (claimEpoch s.ownClaim + 1)
  let s := (s.wr TWP.TAKEOVER_NS (word (nsOf q))).wr TWP.TAKEOVER_SEC_LO (word (secOf q))
  let s := (s.bump TWP.TAKEOVER_CNT).raise TWP.TWP_EVENT_TAKEOVER
  let s := ({ s with twp := { s.twp with fence := some (q, s.tim.ticks), swap := none, swapped := none } }).setBit TWP.SWAP_STATUS_ARMED false
  let s := (s.fenceFlush 65535 q).pnSkip.freshSkip
  let s := match s.slcLink with | some t => if t ∈ s.twp.pc.go then s else s.linkCancel t | none => s
  match s.lkpLink with | some t => if t ∈ s.twp.pc.go then s else s.linkCancel t | none => s

/-! ### Claims heard (R273, R274, R276, R294, R300) -/

/-- The peer's claim as the unit knows it changes. -/
def State.setPeer (s : State) (c : Nat) : State := (s.set TWP.CLAIM_STATUS_PEER c).claimsChanged

/-- The peer's word confirms the plan of an executed swap (R294). -/
def State.swapConfirm (s : State) (c : Nat) : State :=
  match s.twp.swapped with
  | some d =>
    if d.planned = c ∧ !d.confirmed then
      (({ s with twp := { s.twp with swapped := some { d with confirmed := true } } }).bump TWP.SWAP_CNT).raise TWP.TWP_EVENT_SWAPPED
    else s
  | none => s

/-- A claim-line word's time, 3.84 us. -/
def lineWordQ : Nat := 15360

/-- The peer's planned claim while the words that arrive may have left before T: until one claim-line word after T, or the word that
confirms it (R294). -/
def State.planOpen (s : State) : Option Nat :=
  match s.twp.swapped with
  | some d => if d.confirmed ∨ d.t + lineWordQ ≤ s.nowQ then none else some d.planned
  | none => none

/-- The peer's word has corrected the plan of an executed swap, since a COMMIT was lost: the old active drives again, and its copies
parked since T can be started (R294). -/
def State.planFailed (s : State) : State :=
  match s.twp.swapped with
  | some d =>
    if d.active ∨ d.confirmed ∨ s.peerClaim = d.planned ∨ !s.drives then s
    else ({ s with twp := { s.twp with swapped := none } }).unpark s.pairedPort
  | none => s

/-- A claim is heard; one with a reserved rank, or of the time before a planned swap, is ignored. -/
def State.hearClaim (s : State) (c : Nat) : State :=
  let rank := claimRank c
  if (rank ≠ 0 ∧ rank ≠ 4 ∧ rank ≠ 8) ∨ (rank ≠ 0 ∧ s.planOpen.any fun x => x != c) then s else
  let was := s.peerClaim
  let s := ((s.setPeer c).swapConfirm c).planFailed
  let own := s.ownClaim
  if claimRank own = 8 ∧ rank = 8 then
    let s := s.raise TWP.TWP_EVENT_DUAL_ACTIVE
    if own < c then (s.setClaim 4 (claimEpoch own)).requestResync 0x7F else s
  else if claimRank own = 4 ∧ rank = 8 then
    let s := s.setClaim 4 (claimEpoch c)
    if s.twp.heard8 then s else ({ s with twp := { s.twp with heard8 := true } }).requestResync 0x7F
  else if claimRank own = 4 ∧ rank = 0 ∧ claimRank was ≠ 0 then s.takeover
  else s

/-! ### Frames and words received (R277, R279, R280, R297) -/

def State.pathOn (s : State) (p : Nat) : Bool :=
  if p = 0 then s.bit TWP.TWP_CTRL_TW_EN else if p = 1 then s.bit TWP.TWP_CTRL_LINE_EN else s.bit TWP.TWP_CTRL_NET_HB_EN
def pathUp (p : Nat) : Fld := if p = 0 then TWP.PAIR_STATUS_TW_UP else if p = 1 then TWP.PAIR_STATUS_LINE_UP else TWP.PAIR_STATUS_NET_UP

/-- A path has brought a word or heartbeat of pair cycle n, known modulo m: it delivers the heartbeat when it comes in time, or
before this unit's own T (R279, R280). -/
def State.delivers (s : State) (p n m : Nat) : State :=
  let ok := fun (s : State) => ((s.setBit (pathUp p) true).setBit TWP.PAIR_STATUS_PEER_PRESENT true).set TWP.PAIR_STATUS_MISSED 0
  match s.twp.cycle with
  | none => s
  | some k =>
    if n = k % m ∧ s.nowQ ≤ s.pairT k + s.graceUs * usQ then ok { s with twp := { s.twp with paths := p :: s.twp.paths.filter (· != p) } }
    else if n = (k + 1) % m then ok { s with twp := { s.twp with early := p :: s.twp.early.filter (· != p) } }
    else s

/-- SEQ of a received frame against the last one taken of its key: the frames missing before it; none for a stream-0 frame that has
been taken already. A SEQ behind is taken: a second copy whose first was lost, or the frame of a peer that has started anew (R297). -/
def State.seqStep (s : State) (key : Nat) (h : TwHead) : Option Nat :=
  if key % 4 = 0 ∧ (key, h.seq.toNat) ∈ s.twp.taken then none else
  match s.twp.seqRx.find? fun x => x.1 == key with
  | none => some 0
  | some x =>
    let d := (h.seq - word x.2).toNat
    if 0 < d ∧ d < 2147483648 then some (d - 1) else some 0

/-- A frame is one of those that a gap lacks. -/
def TwGap.holds (g : TwGap) (key : Nat) (seq : Word) : Bool := g.key == key && decide ((seq - word g.first).toNat < g.n)

/-- A frame's SEQ has been taken, and those of the `extra` frames that its record goes on in. -/
def State.seqTaken (s : State) (key : Nat) (seq : Word) (extra : Nat) : State :=
  let late := s.twp.gaps.any fun g => g.holds key seq
  { s with twp := { s.twp with
      seqRx := if late then s.twp.seqRx else assocSet s.twp.seqRx key (seq + word extra).toNat,
      taken := if key % 4 = 0 then ((key, seq.toNat) :: s.twp.taken).take 64 else s.twp.taken,
      gaps := s.twp.gaps.map fun g => if g.holds key seq then { g with got := g.got + 1 } else g } }

/-- Stream-0 frames that have been missing for 2 us are lost, both copies of them (R297). -/
def State.gapsLost (s : State) : State :=
  let due := fun (g : TwGap) => decide (g.at_ + 2 * usQ ≤ s.nowQ)
  let lost := ((s.twp.gaps.filter due).map fun g => g.n - g.got).foldl (· + ·) 0
  ({ s with twp := { s.twp with gaps := s.twp.gaps.filter fun g => !due g } }).bumpBy TWP.CTRL_GAP_CNT lost

/-- The snapshot of a pair cycle, as a record of it says, against this unit's own: S_n, the one before it or the one after it, whose
T has come at the peer first (R283, R285); none for any other. -/
inductive SnapAge where
  | own | last | next
  deriving DecidableEq, Repr

def State.snapAge (s : State) (cycle : Word) : Option SnapAge :=
  match s.twp.cycle with
  | none => none
  | some n => if cycle = word n then some .own else if cycle + 1 = word n then some .last else if cycle = word (n + 1) then some .next else none

/-- A frame of stream 2 is missing before one of a pair cycle: that snapshot fails (R287, R297). -/
def State.snapMiss (s : State) (cycle : Word) : State :=
  match s.snapAge cycle with
  | some .own => { s with twp := { s.twp with snapBad := true } }
  | some .next => { s with twp := { s.twp with nextBad := true } }
  | _ => s

/-- A frame of a stream with a good FCS arrives: dropped when it comes by an unused path or repeats a SEQ of stream 0, else its
claim is heard and what its SEQ shows missing is dealt with (R274, R297). -/
def State.twTake (s : State) (stream : Nat) (h : TwHead) (extra : Nat := 0) : Option State :=
  let key := if h.net then 4 else stream
  if !s.twUp h.net ∨ (h.net ∧ stream ≠ 0) then none else
  match s.seqStep key h with
  | none => none
  | some miss =>
    let s := (s.gapsLost).seqTaken key h.seq extra
    let s := if miss = 0 then s else match stream with
      | 0 => { s with twp := { s.twp with gaps := s.twp.gaps ++ [TwGap.mk key (h.seq - word miss).toNat miss 0 s.nowQ] } }
      | 1 => if s.standby || (List.range 14).any s.awaitsEnd then s.noteGap else s
      | 2 => s.snapMiss h.cycle
      | _ => s
    some (s.hearClaim h.claim.toNat)

/-- A record of a stream acts as f when its frame is taken. -/
def State.twGet (s : State) (stream : Nat) (h : TwHead) (f : State → State) (extra : Nat := 0) : State :=
  match s.twTake stream h extra with | some s => f s | none => s

/-- A frame with a bad FCS is counted; its SEQ is missing (R297). -/
def State.badFrame (s : State) : State := if s.pairEn then s.bump TWP.TW_CRC_ERR_CNT else s

/-- A record of a stream has a reserved TYPE: ignored and counted (R298). -/
def State.oddRecord (s : State) (stream : Nat) (h : TwHead) : State := s.twGet stream h fun s => s.bump TWP.CTRL_GAP_CNT

def execTowpathBadFrame (odd : Option (TwHead × Fin 4 × BitVec 8)) (s : State) : Host.Outcome State Fault Refusal :=
  .next (match odd with | none => s.badFrame | some (h, stream, _) => s.oddRecord stream h)

/-- A network heartbeat is handed to the MAC of NET_HB_PORT while its link is up (R279). -/
def State.hbPut (s : State) (x : Nat × List Word) : State :=
  let p := s.get TWP.TWP_CTRL_NET_HB_PORT
  if s.twUp true ∧ p < 14 ∧ s.bit (MAC.PORT_STATUS_LINK p) then s.setMac p { s.mac p with hbQ := (s.mac p).hbQ ++ [x] } else s

/-- The oldest stream-0 frame goes out again 2 us after its first copy (R297). -/
def State.ctrlResend (s : State) : State :=
  match s.twp.resend with
  | [] => s
  | (net, t, f) :: rest =>
    if s.nowQ < t + 2 * usQ then s else
    let s := { s with twp := { s.twp with resend := rest } }
    if net then s.hbPut (0, f) else if s.twUp false then s.emit (.towpath (twFrame f)) else s

def execCtrlFrameResend (s : State) : Host.Outcome State Fault Refusal := .next s.ctrlResend

/-! ### Claim-line words (Table 13.4) -/

/-- CRC-8 of bits 39 to 8. -/
def lineCrc (v : Nat) : Nat := (toBE 4 v).foldl (fun c b => crcUp 8 7 8 (c ^^^ b.toNat)) 0

/-- The word that goes out; through a warm reset it carries the claim itself, whatever PAIR_EN reads (R330). -/
def State.lineWord (s : State) : BitVec 48 :=
  let v := s.get TWP.CLAIM_STATUS_OWN * 65536 + s.twp.cycle.getD 0 % 256 * 256 + (if s.synced then 128 else 0)
  BitVec.ofNat 48 (0xD5 * 1099511627776 + v * 256 + lineCrc v)

/-- A word goes out at a word boundary, while REFCLK_SYS runs (R272, R277). -/
def State.claimSend (s : State) : State :=
  if ((s.pairEn ∧ s.bit TWP.TWP_CTRL_LINE_EN) ∨ s.twp.lineKeep) ∧ s.bit SYS.SYS_STATUS_REFCLK_OK then s.emit (.claimWord s.lineWord) else s

def execClaimWordSend (s : State) : Host.Outcome State Fault Refusal := .next s.claimSend

/-- A word arrives (R277). -/
def State.claimReceive (s : State) (w : BitVec 48) : State :=
  let n := w.toNat
  let v := n / 256 % 4294967296
  let c := v / 65536
  if !s.pairEn ∨ !s.bit TWP.TWP_CTRL_LINE_EN then s
  else if n / 1099511627776 ≠ 0xD5 ∨ n % 256 ≠ lineCrc v then s.bump TWP.LINE_CRC_ERR_CNT
  else if claimRank c = 0 ∨ claimRank c = 4 ∨ claimRank c = 8 then (s.delivers 1 (v / 256 % 256) 256).hearClaim c
  else s

def execClaimWordReceived (w : BitVec 48) (s : State) : Host.Outcome State Fault Refusal := .next (s.claimReceive w)

/-! ### Heartbeats (R278, R279, R288) -/

/-- The eight words of a heartbeat (Table 13.8); before one has been received, the echo words are zero. -/
def State.heartbeat (s : State) (n : Nat) : List Word :=
  let e := s.twp.echo.getD (0, 0)
  [word n, word (s.ownClaim * 65536 + (if s.synced then 32768 else 0) + (if s.bit TWP.PAIR_STATUS_DIVERGED then 16384 else 0)),
   word s.pairUs, word (s.get TWP.PAIRED_PORTS_PORTS), word (s.nowQ % 4000000000), e.1, e.2, s.rd (SYS.IMG_HASH 0)]

/-- A difference of quarter nanoseconds taken modulo 10^9 ns. -/
def timeDiff (a b : Word) : Int :=
  let d : Nat := (a.toNat + 4000000000 - b.toNat % 4000000000) % 4000000000
  if d < 2000000000 then d else (d : Int) - 4000000000

/-- PEER_OFFSET and TW_DELAY from a heartbeat (R288); none before the peer has one of ours to echo. -/
def State.peerTimes (s : State) (t1 t2 t3 : Word) : State :=
  if t1 = 0 ∧ t2 = 0 then s else
  let t4 := word (s.nowQ % 4000000000)
  let a := timeDiff t2 t1
  let b := timeDiff t3 t4
  let off := (a + b).fdiv 2
  let s := (s.wr TWP.PEER_OFFSET (wordS off)).wr TWP.TW_DELAY (wordS ((a - b).fdiv 2))
  if s.get TWP.OFFSET_LIMIT_NS * 4 < off.natAbs then s.raise TWP.TWP_EVENT_TIME_DIVERGE else s

/-- The peer's configuration against the own one (R276, R278). -/
def State.peerCheck (s : State) (ws : List Word) : State :=
  let s := s.setBit TWP.PAIR_STATUS_IMG_DIFF (ws.getD 7 0 != s.rd (SYS.IMG_HASH 0))
  let s := if bitsOf (ws.getD 2 0) 13 0 = s.pairUs ∧ bitsOf (ws.getD 3 0) 13 0 = s.get TWP.PAIRED_PORTS_PORTS then s else
    let s := s.raise TWP.TWP_EVENT_CFG_MISMATCH
    if s.ownClaim < s.peerClaim then s.isolateClaim else s
  if bitsOf (ws.getD 1 0) 16 16 = s.pairId then (s.raise TWP.TWP_EVENT_ID_CLASH).isolateClaim else s

/-- A heartbeat record arrives. -/
def State.heartbeatReceive (s : State) (h : TwHead) (ws : List Word) : State :=
  s.twGet 0 h fun s =>
    let s := s.delivers (if h.net then 2 else 0) (ws.getD 0 0).toNat 4294967296
    let s := s.hearClaim (bitsOf (ws.getD 1 0) 31 16)
    let s := s.peerTimes (ws.getD 5 0) (ws.getD 6 0) (ws.getD 4 0)
    ({ s with twp := { s.twp with echo := some (ws.getD 4 0, word (s.nowQ % 4000000000)) } }).peerCheck ws

def execHeartbeatReceived (h : TwHead) (ws : List Word) (s : State) : Host.Outcome State Fault Refusal :=
  .next (s.heartbeatReceive h ws)

/-- The peer is lost (R274, R280, R281). -/
def State.peerLost (s : State) : State :=
  let s := (s.setBit TWP.PAIR_STATUS_PEER_PRESENT false).setPeer 0
  let s := ({ s with twp := { s.twp with heard8 := false } }).raise TWP.TWP_EVENT_PEER_LOST
  if claimRank s.ownClaim = 4 then s.takeover else s

/-- T_n + HB_GRACE has come (R280). -/
def State.hbDeadline (s : State) : State :=
  if !s.pairEn ∨ !s.twp.due ∨ s.nowQ < s.lastT + s.graceUs * usQ then s else
  let s := { s with twp := { s.twp with due := false } }
  let on := [0, 1, 2].filter s.pathOn
  let s := s.each (on.filter fun p => !s.twp.paths.contains p) fun s p => (s.setBit (pathUp p) false).raise TWP.TWP_EVENT_PATH_DOWN
  if on.any fun p => s.twp.paths.contains p then s else
  let missed := min 2 (s.get TWP.PAIR_STATUS_MISSED + 1)
  let s := ((s.set TWP.PAIR_STATUS_MISSED missed).bump TWP.HB_MISS_CNT).raise TWP.TWP_EVENT_HB_MISS
  if missed = 2 ∧ (s.bit TWP.PAIR_STATUS_PEER_PRESENT ∨ s.peerClaim ≠ 0) then s.peerLost else s

def execHeartbeatDeadline (s : State) : Host.Outcome State Fault Refusal := .next s.hbDeadline

/-! ### The capture (R283, Table 13.7) -/

/-- Indices of a table's entries with a bit of word w set. -/
def State.pairedOf (s : State) (blk tbl w b : Nat) : List Nat :=
  (s.tabs.filter fun x => decide (x.1 / 1048576 = (blk * 16 + tbl) * 4) && x.1 % 32 == w && bitsOf x.2 b b == 1).map fun x => x.1 % 1048576 / 32

/-- Words w to w + n - 1 of an entry. -/
def State.someWords (s : State) (blk tbl idx w n : Nat) : List Word := (List.range n).map fun k => s.tw blk tbl 0 idx (w + k)

/-- Gate oper state of a paired port, and Sluice's VER_CUR and LIVE (section 3). -/
def State.gateObj (s : State) (p : Nat) : Obj :=
  Obj.mk 3 p ((List.range 5).map (fun k => s.rd (LKP.OPER_CFG p + 4 * k)) ++
    (List.range (s.get (LKP.OPER_CFG_LIST_LEN p))).flatMap (fun e => s.someWords 8 1 (1024 * p + e) 0 2) ++
    (s.operRes.filter fun e => s.resOut e == p).flatMap fun e => s.someWords 7 1 e 0 4)
def State.section3 (s : State) : List Obj :=
  ((List.range 14).filter s.pairedPort).map s.gateObj ++
    [Obj.mk 3 16 [word (s.verCur + s.get SLC.VER_STATUS_LIVE * 256)]]

/-- A transmit FIFO (section 4). -/
def msgWords (m : CanMsg) : List Word :=
  [word ((if m.ide then 2147483648 else 0) + (if m.fdf then 1073741824 else 0) + (if m.brs then 536870912 else 0) + m.id.toNat),
   word m.data.length] ++ octetWords ((m.data.length + 3) / 4) m.data
def State.fifoObj (s : State) (c f : Nat) : Obj :=
  let ms := (s.can c).fifo f
  Obj.mk 4 (4 * c + f) (word ms.length :: ms.flatMap msgWords)

/-- The paired state as it stands now, section by section, indices rising. -/
def State.captureAll (s : State) : List Obj :=
  (s.pairedOf 5 tRec 0 28).map (fun i => Obj.mk 0 i (s.someWords 5 tRec i 1 3)) ++
  (s.pairedOf 5 tMeter 0 28).map (fun i => Obj.mk 1 i (s.someWords 5 tMeter i 4 4)) ++
  (s.pairedOf 5 tGen 0 30).map (fun i => Obj.mk 2 i (s.someWords 5 tGen i 0 1)) ++
  s.section3 ++
  ((List.range 16).filter fun c => s.bit (CAN.CH_CTRL_PAIRED c)).flatMap (fun c => (List.range 4).map fun f => s.fifoObj c f) ++
  (s.pairedOf 10 2 2 31).map (fun i => Obj.mk 5 i (s.someWords 10 2 i 0 2)) ++
  ((s.pairedOf 11 1 0 30).filter txSa).map (fun i => Obj.mk 6 i (s.someWords 11 1 i 5 2))

/-- The digest of one section's objects (R285): every word of each record's payload, its INDEX word first. -/
def sectionDigest (os : List Obj) (sec : Nat) : Word :=
  word (crc32c 0xFFFFFFFF (wordOctets ((os.filter fun o => o.sec == sec).flatMap fun o => word o.idx :: o.words)))

/-- The ten words of the TIME record (Table 13.7). -/
def State.timeRecord (s : State) : List Word :=
  let off := fun (t : Tracker) => let v := t.off.fdiv (2 ^ 56); [wordS v, wordS (v.fdiv 4294967296)]
  [s.rd TIM.TIM_STATUS &&& 0x7F, wordS s.tim.incr, wordS (s.tim.incr.fdiv 4294967296)] ++ off s.tim.dom0 ++ off s.tim.dom1 ++
    [wordS s.tim.dom0.rate, wordS s.tim.dom1.rate, s.holdoverTime]

/-! ### Promotion and the snapshot at the pair-cycle end (R276, R283, R286) -/

/-- Start-up promotion and re-promotion (Table 13.3). -/
def State.promote (s : State) (t : Nat) : State :=
  let own := s.ownClaim
  let two := s.twp.relAt + 2 * (s.pairUs * usQ)
  let lower := claimRank s.peerClaim = 4 ∧ s.peerClaim < own
  if claimRank own ≠ 4 then s
  else if two ≤ t ∧ t < two + s.pairUs * usQ ∧ !s.bit TWP.PAIR_STATUS_PEER_PRESENT then s.setClaim 8 (claimEpoch own + 1)
  else if two ≤ t ∧ lower ∧ s.twp.swap.isNone then s.setClaim 8 (claimEpoch own + 1)
  else s

/-- The records of the snapshot: every object that changed, and those of sections to be sent whole, then TIME, then DIGEST (R283,
R286). -/
def State.snapRecords (s : State) (n : Nat) : List (Nat × List Word) :=
  let send := s.twp.snap.filter fun o => s.twp.full.getLsbD o.sec || !s.twp.prev.contains o
  send.map (fun o => (16 + o.sec, word o.idx :: o.words)) ++
    [(0x20, s.timeRecord), (6, word n :: (List.range 7).map (sectionDigest s.twp.snap) ++ [0])]

/-- Picoseconds that a record with n words after its header word takes on the twin link, 320 a byte: its frames with preamble and
gap. -/
def twTime (n : Nat) : Nat := 320 * (n / twRoom * wireBytes (34 + 4 * twRoom) + wireBytes (max 64 (34 + 4 * (n % twRoom + 1))))

/-- The records that go out, in order, within a time. -/
def twFit : Nat → List (Nat × List Word) → List (Nat × List Word)
  | _, [] => []
  | room, r :: rest => if twTime r.2.length ≤ room then r :: twFit (room - twTime r.2.length) rest else []

/-- The active sends the snapshot; what cannot go out before the next pair-cycle end is abandoned (R287). -/
def State.sendSnapshot (s : State) (n : Nat) : State :=
  let rs := s.snapRecords n
  let go := twFit ((s.pairT (n + 1) - s.nowQ) * 250) rs
  let s := s.each go fun s r => s.twSend 2 r.1 r.2
  { s with twp := { s.twp with full := 0, overrun := decide (go.length < rs.length) } }

/-- Sections whose digests differ (R285); one of section 3 sets DIVERGED unless a change is held (R296). -/
def State.digestFail (s : State) (n : Nat) (bad : BitVec 8) : State :=
  if bad = 0 then s else
  let s := if s.bit TWP.TWP_EVENT_DIGEST_MISMATCH then s else s.wr TWP.SYNC_INFO (word (bad.toNat * 16777216 + n % 16777216))
  let s := (s.bump TWP.DIGEST_MISMATCH_CNT).raise TWP.TWP_EVENT_DIGEST_MISMATCH
  let s := { s with twp := { s.twp with match_ := s.twp.match_ &&& ~~~bad } }
  let s := if bad.getLsbD 3 ∧ !s.bit TWP.PAIR_STATUS_HELD then (s.setBit TWP.PAIR_STATUS_DIVERGED true).raise TWP.TWP_EVENT_DIVERGED else s
  s.requestResync bad

/-! ### State objects at the standby (R283 to R286, R217) -/

/-- The capture's object. -/
def findObj (os : List Obj) (sec idx : Nat) : Option Obj := os.find? fun o => o.sec == sec && o.idx == idx

/-- An object takes the place of the one with its section and index. -/
def putObj (os : List Obj) (o : Obj) : List Obj := os.map fun x => if x.sec = o.sec ∧ x.idx = o.idx then o else x

/-- A 64-bit value in two words, low first. -/
def lowHigh (ws : List Word) : Nat := (ws.getD 1 0).toNat * 4294967296 + (ws.getD 0 0).toNat

/-- The merge of a recovery function (R284). -/
def State.mergeRecovery (s : State) (i : Nat) (ws : List Word) : State :=
  let a := ws.getD 0 0
  let hl := s.strB tRec i 0 22 16
  if s.strB tRec i 1 15 15 = 1 then s.setEntry 5 tRec 0 i 1 ws
  else if bitsOf a 15 15 = 1 then s
  else
    let live := s.strB tRec i 1 31 16
    let d : Int := (BitVec.ofNat 16 (bitsOf a 31 16 + 65536 - live)).toInt
    let up := (max 0 d).toNat
    let dn := (max 0 (-d)).toNat
    let h := (((s.history i) * 2 ^ up) ||| (lowHigh (ws.drop 1) * 2 ^ dn)) % 2 ^ hl
    let filled := min hl (max (s.strB tRec i 1 6 0 + up) (bitsOf a 6 0 + dn))
    (s.setRecov i ((live + up) % 65536) false filled).setHistory i h

/-- A bucket moves by A - S and stays between 0 and its burst size. -/
def bucketMove (live a c burst : Nat) : Nat := (max 0 (min ((burst : Int) * 65536) ((live : Int) + a - c))).toNat

def State.mergeMeter (s : State) (m : Nat) (a c : List Word) : State :=
  let tc := bucketMove (s.tc m) (lowHigh a) (lowHigh c) (bitsOf (s.meterW m 2) 19 0)
  let te := bucketMove (s.te m) (lowHigh (a.drop 2)) (lowHigh (c.drop 2)) (bitsOf (s.meterW m 3) 19 0)
  (s.setTc m tc).setTe m te

/-- Messages of a section-4 record. -/
def fifoMsgs : Nat → List Word → List CanMsg
  | 0, _ => []
  | n + 1, ws =>
    let w := ws.getD 0 0
    let len := bitsOf (ws.getD 1 0) 6 0
    let k := (len + 3) / 4
    CanMsg.mk (bitsOf w 31 31 == 1) (w.setWidth 29) false (bitsOf w 30 30 == 1) (bitsOf w 29 29 == 1) false
      ((wordOctets ((ws.drop 2).take k)).take len) :: fifoMsgs n (ws.drop (2 + k))

/-- Heads that the standby saw sent with a SOF at or after T_n leave the copy of a FIFO (R217). -/
def dropSeen (t f : Nat) (seen : List (Nat × Nat × CanMsg)) (ms : List CanMsg) : List CanMsg :=
  seen.foldl (fun ms x => match ms with
    | m :: rest => if x.1 = f ∧ t ≤ x.2.1 ∧ sameMsg x.2.2 m then rest else ms
    | [] => []) ms

/-- The standby's FIFO becomes the active's as it stood at T (R217). -/
def State.replaceFifo (s : State) (at_ idx : Nat) (ws : List Word) : State :=
  let c := idx / 4 % 16
  let f := idx % 4
  let k := s.can c
  let ms := dropSeen at_ f k.seen (fifoMsgs (ws.getD 0 0).toNat (ws.drop 1))
  s.setCan c { k with tx := k.tx.filter (fun x => x.1 != f) ++ ms.map fun m => (f, m) }

/-- The live state is corrected by a received object: `c` is the own capture of it at T; with `whole` it is replaced (R283, R286). -/
def State.mergeObj (s : State) (at_ : Nat) (o c : Obj) (whole : Bool) : State :=
  match o.sec with
  | 0 => if whole then s.setEntry 5 tRec 0 o.idx 1 (o.words.take 3) else s.mergeRecovery o.idx (o.words.take 3)
  | 1 => if whole then s.setEntry 5 tMeter 0 o.idx 4 (o.words.take 4) else s.mergeMeter o.idx o.words c.words
  | 2 =>
    let g := s.strB tGen o.idx 0 15 0
    let a := bitsOf (o.words.getD 0 0) 15 0
    let v := if whole then a else (g + a + 65536 - bitsOf (c.words.getD 0 0) 15 0) % 65536
    s.setStrW tGen o.idx 0 (putBits (s.strW tGen o.idx 0) 15 0 v)
  | 4 => s.replaceFifo at_ o.idx o.words
  | 5 => s.setFreshness o.idx (if whole then max (s.freshness o.idx) (lowHigh o.words)
      else min (2 ^ 64 - 1) (s.freshness o.idx + (lowHigh o.words - lowHigh c.words)))
  | 6 => (s.setNextPn o.idx (if whole then max (s.nextPn o.idx) (lowHigh o.words)
      else min (2 ^ 64 - 1) (s.nextPn o.idx + (lowHigh o.words - lowHigh c.words)))).pnMoved o.idx
  | _ => s

/-- Objects of a section replace the standby's: a resync was asked for in a pair cycle before that of their capture (R286). -/
def State.wholeAt (s : State) (k sec : Nat) : Bool := s.twp.resync.getLsbD sec && decide (s.twp.asked < k)
def State.wholeNow (s : State) (sec : Nat) : Bool := s.wholeAt (s.twp.cycle.getD 0) sec

/-- An OBJ record of S_n, or of the capture before it, is taken. Section 3 is compared only; while a resync of it is pending, the standby
cancels what is armed with LINK (R295, R296). -/
def State.objTake (s : State) (last : Bool) (sec : Nat) (ws : List Word) : State :=
  let o := Obj.mk sec (bitsOf (ws.getD 0 0) 15 0) (ws.drop 1)
  let n := s.twp.cycle.getD 0 - (if last then 1 else 0)
  let whole := s.wholeAt n sec
  let s := if last then s else { s with twp := { s.twp with recvd := s.twp.recvd ++ [o] } }
  if sec = 3 then
    if !whole ∨ s.bit TWP.PAIR_STATUS_HELD then s else
    let s := match s.slcLink with | some t => s.linkCancel t | none => s
    match s.lkpLink with | some t => s.linkCancel t | none => s
  else
    match findObj (if last then s.twp.prev else s.twp.snap) sec o.idx with
    | none => s
    | some c =>
      let s := s.mergeObj (s.pairT n) o c whole
      if !whole then s
      else if last then { s with twp := { s.twp with prev := putObj s.twp.prev o } }
      else { s with twp := { s.twp with snap := putObj s.twp.snap o } }

/-- A record of the next snapshot waits for the own capture. -/
def State.aheadPut (s : State) (sec : Nat) (ws : List Word) : State :=
  { s with twp := { s.twp with ahead := s.twp.ahead ++ [(sec, ws)] } }

/-- An OBJ record arrives: it corrects the standby against its own capture of the same pair cycle (R283). -/
def State.objReceive (s : State) (h : TwHead) (sec : Nat) (ws : List Word) : State :=
  s.twGet 2 h (extra := twFrames ws.length - 1) fun s =>
    if !s.standby then s else
    match s.snapAge h.cycle with
    | some .own => s.objTake false sec ws
    | some .last => s.objTake true sec ws
    | some .next => s.aheadPut sec ws
    | none => s

def execStateObjectReceived (h : TwHead) (sect : Fin 7) (ws : List Word) (s : State) : Host.Outcome State Fault Refusal :=
  .next (s.objReceive h sect ws)

/-- A TIME record is stored (Table 13.5). -/
def State.timeReceive (s : State) (h : TwHead) (ws : List Word) : State :=
  s.twGet 2 h fun s => s.each (List.range 10) fun s k => s.wr (TWP.PEER_TIM k) (ws.getD k 0)

def execTimeRecordReceived (h : TwHead) (ws : List Word) (s : State) : Host.Outcome State Fault Refusal := .next (s.timeReceive h ws)

/-- T of the held change: the instant of a LINK change that has passed without GO (R295). -/
def State.heldT (s : State) : Option Nat :=
  if s.bit TWP.PAIR_STATUS_HELD then (s.slcLink.toList ++ s.lkpLink.toList).find? fun t => decide (t ≤ s.nowQ) else none

/-- A held change is decided by section 3 of the first snapshot captured at or after its T: it fires when the active's state is the
one it makes, else it is cancelled (R295). -/
def State.heldDecide (s : State) (d3 : Word) : State :=
  match s.heldT with
  | none => s
  | some t =>
  if s.lastT < t then s else
  let fired := s.linkFire t
  if sectionDigest fired.section3 3 = d3 then
    { fired with twp := { fired.twp with snap := s.twp.snap.filter (fun o => o.sec != 3) ++ fired.section3 } }
  else s.linkCancel t

/-- Sections of which a digest of the capture, with every received record in its place, is not the active's; section 3 is compared
as captured (R283, R285). -/
def State.digestDiff (s : State) (ws : List Word) : BitVec 8 :=
  let mine := s.twp.recvd.foldl (fun os o => if o.sec = 3 then os else putObj os o) s.twp.snap
  (List.range 7).foldl (fun m k => if sectionDigest mine k = ws.getD (k + 1) 0 then m else m ||| BitVec.ofNat 8 (2 ^ k)) 0

/-- Sections under resync of which every object of the capture has come in this snapshot (R286). -/
def State.wholeCame (s : State) : BitVec 8 :=
  (List.range 7).foldl (fun m k =>
    if s.wholeNow k && ((s.twp.snap.filter fun o => o.sec == k).all fun o => (findObj s.twp.recvd k o.idx).isSome) then m ||| BitVec.ofNat 8 (2 ^ k)
    else m) 0

/-- The DIGEST record of S_n is taken (R285, R286). A section whose objects have come whole is in sync again when the digests of a later
snapshot match. -/
def State.digestTake (s : State) (ws : List Word) : State :=
  if s.twp.digest then s else
  let s := s.heldDecide (ws.getD 4 0)
  let bad := if s.twp.snapBad then 0x7F else s.digestDiff ws
  let was := s.twp.resync ||| s.twp.whole
  let came := s.wholeCame
  let s := { s with twp := { s.twp with digest := true, match_ := 0x7F &&& ~~~bad, resync := s.twp.resync &&& ~~~came,
                                        whole := (s.twp.whole &&& bad) ||| came } }
  let s := if bad.getLsbD 3 then s else s.setBit TWP.PAIR_STATUS_DIVERGED false
  let s := if was ≠ 0 ∧ s.twp.resync ||| s.twp.whole = (0 : BitVec 8) then (s.bump TWP.RESYNC_CNT).raise TWP.TWP_EVENT_RESYNC_DONE else s
  s.digestFail (s.twp.cycle.getD 0) bad

/-- A DIGEST record arrives: one that comes after the next T is too late (R287). -/
def State.digestReceive (s : State) (h : TwHead) (ws : List Word) : State :=
  s.twGet 2 h fun s =>
    if !s.standby then s else
    match s.snapAge (ws.getD 0 0) with
    | some .own => s.digestTake ws
    | some .next => s.aheadPut 7 ws
    | _ => s

def execDigestReceived (h : TwHead) (ws : List Word) (s : State) : Host.Outcome State Fault Refusal := .next (s.digestReceive h ws)

/-! ### The pair-cycle end (R276, R279, R283) -/

/-- What T_n brings (R279): the active reports a snapshot that it could not finish, a standby without a DIGEST for the one before takes
it as mismatched (R287), claims rise, the heartbeat goes out, the paired state is captured; records of S_n that have come already are
taken (R283, R285). -/
def State.pairCycle (s : State) (n : Nat) : State :=
  if !s.released ∨ s.pllLost 0 ∨ !s.pairEn ∨ s.twp.cycle = some n then s else
  let s := match s.twp.cycle with
    | some k => if s.standby ∧ !s.twp.digest then s.digestFail k 0x7F else s
    | none => s
  let ahead := if s.standby ∧ s.twp.cycle.map (· + 1) = some n then s.twp.ahead else []
  let s := if s.twp.overrun then ({ s with twp := { s.twp with overrun := false } }).raise TWP.TWP_EVENT_SNAP_OVERRUN else s
  let t := s.pairT n
  let s := s.promote t
  let s := { s with twp := { s.twp with cycle := some n, paths := s.twp.early, early := [], due := true } }
  let s := (s.sendCtrl 1 (s.heartbeat n)).hbPut (n, [])
  let s := { s with twp := { s.twp with prev := s.twp.snap, snap := s.captureAll, recvd := [], digest := false,
                                          snapBad := s.twp.nextBad, nextBad := false, ahead := [] } }
  let s := s.each (List.range 16) fun s c =>
    if (s.can c).seen = [] then s else
      s.setCan c { s.can c with seen := (s.can c).seen.filter fun x => decide (t ≤ x.2.1 + s.pairUs * usQ) }
  if s.isActive then s.sendSnapshot n else s.each ahead fun s x => if x.1 = 7 then s.digestTake x.2 else s.objTake false x.1 x.2

/-- T_n has come, when it has not been taken yet (R279). -/
def State.pairEnd (s : State) : State :=
  if s.nowQ < s.pairBase then s else s.pairCycle ((s.nowQ - s.pairBase) / (s.pairUs * usQ))

def execPairCycleEnd (s : State) : Host.Outcome State Fault Refusal := .next s.pairEnd

/-! ### Resync requests (R286) -/

/-- The active will send the sections asked for whole (R286). -/
def State.resyncReceive (s : State) (h : TwHead) (mask : Word) : State :=
  s.twGet 0 h fun s => if s.isActive then { s with twp := { s.twp with full := s.twp.full ||| mask.setWidth 8 } } else s

def execResyncReqReceived (h : TwHead) (mask : Word) (s : State) : Host.Outcome State Fault Refusal := .next (s.resyncReceive h mask)

/-! ### Departure notes (R289 to R291) -/

/-- END of a port has arrived: parked copies that the old active did not send can be started (R294). -/
def State.endTaken (s : State) (p : Nat) : State :=
  match s.twp.swapped, s.twp.swap with
  | some d, _ =>
    if d.active ∧ !d.ends.getLsbD p then
      ({ s with twp := { s.twp with swapped := some { d with ends := d.ends ||| BitVec.ofNat 16 (2 ^ p) } } }).unpark fun o => o == p
    else s
  | none, some w => { s with twp := { s.twp with swap := some { w with ends := w.ends ||| BitVec.ofNat 16 (2 ^ p) } } }
  | none, none => s

/-- A note acts: END, a match, a wait, or a gap when 256 wait (R290, R291). -/
def State.noteTake (s : State) (w0 w1 : Word) : State :=
  let out := bitsOf w0 31 28
  let inp := bitsOf w0 27 24
  let tc := bitsOf w0 23 21
  let len := bitsOf w0 13 0
  if bitsOf w0 19 19 = 1 then s.endTaken out else
  let cs := s.noteCopies out inp tc
  let hit := fun (c : Copy) => match s.frame? c.fid with | some f => f.len == len && frameId f == w1 | none => false
  match cs.find? hit with
  | some c => s.noteMatch c
  | none =>
    if 256 ≤ s.notes.length then s.noteGap
    else { s with notes := s.notes ++ [{ out := out, inp := inp, tc := tc, len := len, fid := w1, at_ := s.nowQ }] }

def State.noteReceive (s : State) (h : TwHead) (w0 w1 : Word) : State :=
  s.twGet 1 h fun s => if s.standby || s.awaitsEnd (bitsOf w0 31 28) then s.noteTake w0 w1 else s

def execNoteReceived (h : TwHead) (w0 w1 : Word) (s : State) : Host.Outcome State Fault Refusal := .next (s.noteReceive h w0 w1)

/-- Notes that have waited 64 us are orphans (R290). -/
def State.noteExpire (s : State) : State :=
  let old := s.notes.filter fun n => decide (n.at_ + 64 * usQ ≤ s.nowQ)
  ({ s with notes := s.notes.filter fun n => decide (s.nowQ < n.at_ + 64 * usQ) }).bumpBy TWP.NOTE_ORPHAN_CNT old.length

def execNoteWaitExpiry (s : State) : Host.Outcome State Fault Refusal := .next s.noteExpire

/-! ### Planned swaps (R292 to R294) -/

/-- T from the SWAP_T registers. -/
def State.swapT (s : State) : Nat :=
  instant (s.get TWP.SWAP_T_SEC_HI_SEC_HI * 4294967296 + s.get TWP.SWAP_T_SEC_LO_SEC_LO) (s.get TWP.SWAP_T_NS_NS) 0

/-- A paired port with GATE_EN 1 has its TC7 gate open in [T, T + 2 us) (cause 3). -/
def State.tc7Open (s : State) (t : Nat) : Bool :=
  (List.range 14).any fun p =>
    let bank := match s.changeAt p with | some x => if x ≤ t * 250 then 0 else 1 | none => 1
    s.pairedPort p && (s.listCfg bank p).en &&
      match s.nextGate p 7 true (t * 250) with | some x => decide (x < t * 250 + 2000000) | none => false

/-- The four words of a SWAP record. -/
def swapWords (sub cause epoch t : Nat) : List Word := word (sub * 268435456 + cause * 16777216 + epoch % 2048) :: timeWords t
/-- T in the last three words of a record. -/
def wordsT (ws : List Word) : Nat := instant (bitsOf (ws.getD 2 0) 15 0 * 4294967296 + (ws.getD 1 0).toNat) (bitsOf (ws.getD 0 0) 29 0) 0

/-- A swap is refused or comes to nothing, with a cause. -/
def State.swapRefuse (s : State) (cause : Nat) : State := (s.set TWP.SWAP_STATUS_CAUSE cause).raise TWP.TWP_EVENT_SWAP_REFUSED

/-- SWAP_ARM (R292); a refusal for a TC7 window is a yield of rank 2 (R390). -/
def State.swapArm (s : State) : State :=
  let t := s.swapT
  let e := (claimEpoch s.ownClaim + 1) % 2048
  if !s.pairEn ∨ claimRank s.ownClaim ≠ 8 then s.swapRefuse 1
  else if t < s.nowQ + 2 * (s.guardUs * usQ) then s.swapRefuse 2
  else if s.tc7Open t then (s.swapRefuse 3).yieldRank 2
  else if !s.bit TWP.PAIR_STATUS_PEER_PRESENT then s.swapRefuse 9
  else if s.twp.swap.isSome then s.swapRefuse 7
  else
    let s := { s with twp := { s.twp with swap := some { t := t, epoch := e, mine := true } } }
    ((s.setBit TWP.SWAP_STATUS_ARMED true).set TWP.SWAP_STATUS_EPOCH e).sendCtrl 3 (swapWords 1 0 e t)

def execSwapArm (ini : Initiator) (s : State) : Host.Outcome State Fault Refusal := .next (s.writeAt ini TWP.TWP_CMD fun s => s.swapArm)

/-- The active's swap is disarmed: CANCEL goes out and the cause is recorded (R293). -/
def State.swapDisarm (s : State) (w : Swap) (cause : Nat) : State :=
  let s := ({ s with twp := { s.twp with swap := none } }).setBit TWP.SWAP_STATUS_ARMED false
  (s.sendCtrl 3 (swapWords 5 cause w.epoch w.t)).swapRefuse cause

/-- SWAP_CANCEL before T - SWAP_GUARD (R293). -/
def State.swapCancel (s : State) : State :=
  match s.twp.swap with
  | some w => if w.mine ∧ s.nowQ + s.guardUs * usQ < w.t then s.swapDisarm w 8 else s
  | none => s

def execSwapCancel (ini : Initiator) (s : State) : Host.Outcome State Fault Refusal :=
  .next (s.writeAt ini TWP.TWP_CMD fun s => s.swapCancel)

/-- PROPOSE: the standby's checks and answer (R293). -/
def State.propose (s : State) (h : TwHead) (ws : List Word) : State :=
  s.twGet 0 h fun s =>
    let t := wordsT (ws.drop 1)
    let e := bitsOf (ws.getD 0 0) 10 0
    let off : Int := (s.rd TWP.PEER_OFFSET).toInt
    let nak := fun (c : Nat) => s.sendCtrl 3 (swapWords 3 c e t)
    if claimRank s.ownClaim ≠ 4 ∨ !s.synced then nak 4
    else if s.get TWP.OFFSET_LIMIT_NS * 4 < off.natAbs then nak 5
    else if s.tc7Open t then nak 3
    else ({ s with twp := { s.twp with swap := some { t := t, epoch := e, mine := false } } }).sendCtrl 3 (swapWords 2 0 e t)

def execPropose (h : TwHead) (ws : List Word) (s : State) : Host.Outcome State Fault Refusal := .next (s.propose h ws)

/-- The swap that a SWAP record names. -/
def State.swapNamed (s : State) (mine : Bool) (ws : List Word) : Option Swap :=
  match s.twp.swap with
  | some w => if w.mine = mine ∧ w.epoch = bitsOf (ws.getD 0 0) 10 0 ∧ w.t = wordsT (ws.drop 1) then some w else none
  | none => none

/-- ACK by T - SWAP_GUARD: COMMIT goes out (R293). -/
def State.swapAck (s : State) (h : TwHead) (ws : List Word) : State :=
  s.twGet 0 h fun s => match s.swapNamed true ws with
    | some w =>
      if w.commit ∨ w.t < s.nowQ + s.guardUs * usQ then s else
      ({ s with twp := { s.twp with swap := some { w with commit := true } } }).sendCtrl 3 (swapWords 4 0 w.epoch w.t)
    | none => s

def execAck (h : TwHead) (ws : List Word) (s : State) : Host.Outcome State Fault Refusal := .next (s.swapAck h ws)

/-- NAK: its cause is kept (R293). -/
def State.swapNak (s : State) (h : TwHead) (ws : List Word) : State :=
  s.twGet 0 h fun s => match s.swapNamed true ws with
    | some w => { s with twp := { s.twp with swap := some { w with nak := bitsOf (ws.getD 0 0) 27 24 } } }
    | none => s

def execNak (h : TwHead) (ws : List Word) (s : State) : Host.Outcome State Fault Refusal := .next (s.swapNak h ws)

/-- COMMIT by T: the standby's swap is armed (R293). -/
def State.swapCommitted (s : State) (h : TwHead) (ws : List Word) : State :=
  s.twGet 0 h fun s => match s.swapNamed false ws with
    | some w =>
      if w.t < s.nowQ then s else
      (({ s with twp := { s.twp with swap := some { w with commit := true } } }).setBit TWP.SWAP_STATUS_ARMED true).set
        TWP.SWAP_STATUS_EPOCH w.epoch
    | none => s

def execSwapCommit (h : TwHead) (ws : List Word) (s : State) : Host.Outcome State Fault Refusal := .next (s.swapCommitted h ws)

/-- CANCEL at the standby (R293). -/
def State.swapCancelled (s : State) (h : TwHead) (ws : List Word) : State :=
  s.twGet 0 h fun s => match s.swapNamed false ws with
    | some _ => ({ s with twp := { s.twp with swap := none } }).setBit TWP.SWAP_STATUS_ARMED false
    | none => s

def execSwapCancelReceived (h : TwHead) (ws : List Word) (s : State) : Host.Outcome State Fault Refusal := .next (s.swapCancelled h ws)

/-- T - SWAP_GUARD has come without ACK (R293); where the standby refused for a TC7 window, the refusal is a yield of rank 2 (R390). -/
def State.swapDeadline (s : State) : State :=
  match s.twp.swap with
  | some w =>
    if !w.mine ∨ w.commit ∨ s.nowQ + s.guardUs * usQ < w.t then s else
    let s := s.swapDisarm w (if w.nak = 0 then 6 else w.nak)
    if w.nak = 3 then s.yieldRank 2 else s
  | none => s

def execSwapGuardDeadline (s : State) : Host.Outcome State Fault Refusal := .next s.swapDeadline

/-- The old active sends END for port p once its last copy there has ended (R289). -/
def State.sendEnd (s : State) (p : Nat) : State :=
  match s.twp.swapped with
  | some d =>
    if !s.pairedPort p ∨ d.active ∨ d.ends.getLsbD p ∨ ((s.mac p).tx.any fun x => x.cid.isSome) then s else
    let s := s.twSend 1 2 [word (p * 268435456 + 524288), 0]
    { s with twp := { s.twp with swapped := some { d with ends := d.ends ||| BitVec.ofNat 16 (2 ^ p) } } }
  | none => s

/-- The old active hands over its Ethernet ports: fragments whose continuation cannot be sent are noted as not sent, and END goes
out for every port on which no copy is being sent (R294). -/
def State.handOver (s : State) : State :=
  let s := s.each (s.copies.filter fun c => c.st == .preempted && s.pairedPort c.out) fun s c =>
    (s.setMac c.out { s.mac c.out with suspended := none }).copyLeaves c 1
  s.each ((List.range 14).filter s.pairedPort) fun s p => s.sendEnd p

/-- T of a swap has come: a unit that sent or holds COMMIT takes its planned claim, and the peer's (R293, R294). -/
def State.swapExecute (s : State) : State :=
  match s.twp.swap with
  | none => s
  | some w =>
    if s.nowQ < w.t ∨ (w.mine ∧ !w.commit) then s else
    let s := ({ s with twp := { s.twp with swap := none } }).setBit TWP.SWAP_STATUS_ARMED false
    if !w.commit ∨ claimRank s.ownClaim ≠ (if w.mine then 8 else 4) then s else
    let planned := mkClaim (if w.mine then 8 else 4) w.epoch (1 - s.pairId)
    let s := { s with twp := { s.twp with swapped := some { t := w.t, planned := planned, active := !w.mine, ends := w.ends } } }
    let s := (s.setClaim (if w.mine then 4 else 8) w.epoch).setPeer planned
    if w.mine then s.handOver else s.unpark w.ends.getLsbD

def execSwapExecute (s : State) : Host.Outcome State Fault Refusal := .next s.swapExecute

/-- T + 2 us has come: the new active flushes older copies of ports without END; SWAP_FENCED is reported by SWAPPED (R294). -/
def State.swapFence (s : State) : State :=
  match s.twp.swapped with
  | none => s
  | some d =>
    let late := (List.range 14).filter fun p => s.pairedPort p && !d.ends.getLsbD p
    if !d.active ∨ s.nowQ < d.t + 2 * usQ ∨ late = [] then s else
    let mask := late.foldl (fun m p => m + 2 ^ p) 0
    let s := { s with twp := { s.twp with swapped := some { d with ends := d.ends ||| BitVec.ofNat 16 mask } } }
    (s.fenceFlush mask d.t).raise TWP.TWP_EVENT_SWAPPED

def execSwapEndFence (s : State) : Host.Outcome State Fault Refusal := .next s.swapFence

/-! ### Commands of TWP_CMD (Tables 13.3, 13.10) -/

def execIsolate (ini : Initiator) (s : State) : Host.Outcome State Fault Refusal :=
  .next (s.writeAt ini TWP.TWP_CMD fun s => s.isolateClaim)

/-- REJOIN while the rank is 0 and no source of the highest class is pending (Table 13.3). -/
def State.rejoinPair (s : State) : State :=
  if !s.pairEn ∨ claimRank s.ownClaim ≠ 0 ∨ s.bit FLT.FLT_STATUS_FATAL then s
  else (s.setClaim 4 (claimEpoch s.ownClaim)).requestResync 0x7F

def execRejoin (ini : Initiator) (s : State) : Host.Outcome State Fault Refusal :=
  .next (s.writeAt ini TWP.TWP_CMD fun s => s.rejoinPair)

/-- RESYNC requests every section (R286). -/
def State.resyncAll (s : State) : State := if s.standby then s.requestResync 0x7F else s

def execResync (ini : Initiator) (s : State) : Host.Outcome State Fault Refusal := .next (s.writeAt ini TWP.TWP_CMD fun s => s.resyncAll)

/-! ### Pair commits (R295) -/

/-- The standby's answer to ANNOUNCE. -/
def State.pcAnnounced (s : State) (h : TwHead) (ws : List Word) : State :=
  s.twGet 0 h fun s =>
    let t := wordsT (ws.drop 2)
    let w := ws.getD 0 0
    let ok := (s.slcLink == some t || s.lkpLink == some t)
      && (match s.slc.stage with | some v => v == bitsOf w 26 24 | none => true)
      && s.pendingMask == bitsOf w 15 0 && s.rd TWP.PC_TAG == ws.getD 1 0
    if s.standby then s.sendCtrl 4 (s.pcWords (if ok then 2 else 3) t) else s

def execAnnounce (h : TwHead) (ws : List Word) (s : State) : Host.Outcome State Fault Refusal := .next (s.pcAnnounced h ws)

/-- T of a LINK change for which neither READY nor GO has come by T - SWAP_GUARD (R295). -/
def State.pcLate (s : State) : Option Nat :=
  (s.slcLink.toList ++ s.lkpLink.toList).find? fun t =>
    !s.twp.pc.ready.contains t && !s.twp.pc.go.contains t && decide (t ≤ s.nowQ + s.guardUs * usQ)

/-- READY by T - SWAP_GUARD: GO goes out (R295). -/
def State.pcReady (s : State) (h : TwHead) (ws : List Word) : State :=
  s.twGet 0 h fun s =>
    let t := wordsT (ws.drop 2)
    if !s.isActive ∨ (s.slcLink ≠ some t ∧ s.lkpLink ≠ some t) ∨ t < s.nowQ + s.guardUs * usQ then s else
    ({ s with twp := { s.twp with pc := { s.twp.pc with ready := t :: s.twp.pc.ready } } }).sendCtrl 4 (s.pcWords 4 t)

def execReady (h : TwHead) (ws : List Word) (s : State) : Host.Outcome State Fault Refusal := .next (s.pcReady h ws)

/-- NOT_READY: the change does not count as ready (R295). -/
def State.pcNotReady (s : State) (h : TwHead) (ws : List Word) : State :=
  s.twGet 0 h fun s => if s.isActive then s.pcForget (wordsT (ws.drop 2)) else s

def execNotReady (h : TwHead) (ws : List Word) (s : State) : Host.Outcome State Fault Refusal := .next (s.pcNotReady h ws)

/-- GO by T (R295). -/
def State.pcGo (s : State) (h : TwHead) (ws : List Word) : State :=
  s.twGet 0 h fun s =>
    let t := wordsT (ws.drop 2)
    if !s.standby ∨ (s.slcLink ≠ some t ∧ s.lkpLink ≠ some t) ∨ t < s.nowQ then s
    else { s with twp := { s.twp with pc := { s.twp.pc with go := t :: s.twp.pc.go } } }

def execGo (h : TwHead) (ws : List Word) (s : State) : Host.Outcome State Fault Refusal := .next (s.pcGo h ws)

/-- CANCEL at the standby (R295). -/
def State.pcCancelled (s : State) (h : TwHead) (ws : List Word) : State :=
  s.twGet 0 h fun s => if s.standby then s.linkCancel (wordsT (ws.drop 2)) else s

def execPcCancelReceived (h : TwHead) (ws : List Word) (s : State) : Host.Outcome State Fault Refusal := .next (s.pcCancelled h ws)

/-- T - SWAP_GUARD has come without READY (R295). -/
def State.pcDeadline (s : State) : State :=
  match s.pcLate with
  | none => s
  | some t =>
    if !s.isActive then s else
    let ws := s.pcWords 5 t
    let s := match s.slcLink with | some x => s.linkCancel x | none => s
    let s := match s.lkpLink with | some x => s.linkCancel x | none => s
    ((s.sendCtrl 4 ws).bump TWP.PC_CANCEL_CNT).raise TWP.TWP_EVENT_PC_CANCELLED

def execPcGuardDeadline (s : State) : Host.Outcome State Fault Refusal := .next s.pcDeadline

end Sys2Proof.Machine
end

