-- ==== Sys2Proof/Machine/Brg.lean ====
section
/-! DEFINITION. Brg.lean: the host and peer bridges and the DMA rings of P14 (chapter 15). Inbound register accesses of the peer stand
in Bus.lean. -/
namespace Sys2Proof.Machine

/-! ### Rings (R317 to R321) -/

def ringKey (rx : Bool) (r : Nat) : Nat := (if rx then 8 else 0) + r
def ringNo (rx : Bool) : Nat := if rx then 1 else 0
def State.ring (s : State) (rx : Bool) (r : Nat) : Ring := assocD s.brg.rings (ringKey rx r) {}
def State.setRing (s : State) (rx : Bool) (r : Nat) (x : Ring) : State :=
  { s with brg := { s.brg with rings := assocSet s.brg.rings (ringKey rx r) x } }

def State.ringSize (s : State) (rx : Bool) (r : Nat) : Nat := s.get (BRG.RING_SIZE_ENTRIES (ringNo rx) r)
def State.ringHead (s : State) (rx : Bool) (r : Nat) : Nat := s.get (BRG.RING_HEAD_HEAD (ringNo rx) r)
def State.ringTail (s : State) (rx : Bool) (r : Nat) : Nat := s.get (BRG.RING_TAIL_TAIL (ringNo rx) r)

/-- SIZE is a power of two from 16 to 32,768. -/
def sizeOk (n : Nat) : Bool := (List.range 12).any fun k => n == 16 * 2 ^ k

/-- Bit of a ring in RING_EVENT. -/
def ringBit (rx : Bool) (r : Nat) : Fld := ⟨BRG.RING_EVENT, ringKey rx r, ringKey rx r⟩

/-- Host address of the descriptor at HEAD: 16 bytes of a transmit ring, 32 of a receive ring. -/
def State.ringDesc (s : State) (rx : Bool) (r : Nat) : Nat :=
  let d := ringNo rx
  (s.rd (BRG.RING_BASE_HI d r)).toNat * 4294967296 + s.get (BRG.RING_BASE_LO_BASE_LO d r) * 64 + (if rx then 32 else 16) * s.ringHead rx r

/-- HEAD advances. -/
def State.ringAdvance (s : State) (rx : Bool) (r : Nat) : State :=
  s.set (BRG.RING_HEAD_HEAD (ringNo rx) r) ((s.ringHead rx r + 1) % max 1 (s.ringSize rx r))

/-- What happened to a ring in the present clock: a write-back (0), a clear of its bit (16); noted beside RING_EVENT (R321). -/
def State.ringMarked (s : State) (what k : Nat) : Bool := s.fltNow.contains (BRG.RING_EVENT_EN * 32 + what + k)
def State.ringMark (s : State) (what k : Nat) : State := s.markSet BRG.RING_EVENT_EN (what + k)

/-- A descriptor has been written back: unreported until RING_EVENT's bit is cleared; COAL_FRAMES of them set the bit, and one in the same
clock as a clear sets it again (R321). -/
def State.ringReport (s : State) (rx : Bool) (r : Nat) : State :=
  let x := s.ring rx r
  let x := { x with unrep := x.unrep + 1, oldest := if x.unrep = 0 then s.nowQ else x.oldest }
  let s := (s.setRing rx r x).ringMark 0 (ringKey rx r)
  if s.ringMarked 16 (ringKey rx r) ∨ max 1 (s.get (BRG.RING_CTRL_COAL_FRAMES (ringNo rx) r)) ≤ x.unrep then s.raise (ringBit rx r) else s

/-- A ring that has been disabled ends with the frame in progress. -/
def State.ringStops (s : State) (rx : Bool) (r : Nat) : State :=
  if s.bit (BRG.RING_CTRL_ENABLE (ringNo rx) r) then s else s.setBit (BRG.RING_STATUS_RUNNING (ringNo rx) r) false

/-- COAL_FRAMES write-backs, as RING_CTRL now gives them, are unreported: the ring's bit is set (R321). -/
def State.ringLevel (s : State) (rx : Bool) (r : Nat) : State :=
  if max 1 (s.get (BRG.RING_CTRL_COAL_FRAMES (ringNo rx) r)) ≤ (s.ring rx r).unrep ∧ !s.bit (ringBit rx r) then s.raise (ringBit rx r) else s

/-- Write-back of a transmit descriptor: DONE and STATUS in word 3 (R318). -/
def State.txBack (s : State) (r status : Nat) : State :=
  let s := s.emit (.ringTx r (s.ringDesc false r) (word (2147483648 + status * 268435456)))
  let s := if status = 0 then s else s.bump BRG.TX_DESC_ERR_CNT
  let s := s.setRing false r { s.ring false r with frame := none }
  ((s.ringAdvance false r).ringReport false r).ringStops false r

/-- A bit of the AER uncorrectable error status is set (R316, R393). -/
def State.aerSet (s : State) (m : Word) : State := { s with brg := { s.brg with pcie := { s.brg.pcie with aer := s.brg.pcie.aer ||| m } } }

/-- A read of host memory has ended with an error completion or a poisoned TLP: of the latter AER notes the poisoned TLP, and which of the
two it was is free (R316, R318, R324, assumption 133). -/
def State.hostReadBad (s : State) : State := let x := s.draw; if bitsOf x.1 0 0 = 1 then x.2.aerSet 0x1000 else x.2

/-- The bus result of an access; AER notes an Unsupported Request of the host (R316, R393). -/
def State.busOut (s : State) (ini : Initiator) (r : BusEnd) : State :=
  (if r = .unsupported then s.aerSet 0x100000 else s).emit (.bus ini r)

/-- A write of RING_TAIL (R318, R319). -/
def State.tailWrite (s : State) (rx : Bool) (r : Nat) (w : Word) : State := s.plainWrite (BRG.RING_TAIL (ringNo rx) r) w

def execRingTailWrite (ini : Initiator) (rx : Bool) (ring : Fin 8) (value : Word) (s : State) : Host.Outcome State Fault Refusal :=
  .next (s.writeAt ini (BRG.RING_TAIL (ringNo rx) ring) fun s => s.tailWrite rx ring value)

/-- A write of RING_CTRL: ENABLE 1 starts a ring that is not running, with HEAD at TAIL's position at the last disable and ERR_STOP
clear, unless SIZE is not a legal one; ENABLE 0 acts after the frame in progress (Table 15.7, R318). -/
def State.ringCtrl (s : State) (rx : Bool) (r : Nat) (w : Word) : State :=
  let d := ringNo rx
  let was := s.bit (BRG.RING_CTRL_ENABLE d r)
  let on := bitsOf w 0 0 == 1
  let s := (s.plainWrite (BRG.RING_CTRL d r) w).ringLevel rx r
  if on then
    if !sizeOk (s.ringSize rx r) then s.setBit (BRG.RING_CTRL_ENABLE d r) was
    else if s.bit (BRG.RING_STATUS_RUNNING d r) then s
    else ((s.setBit (BRG.RING_STATUS_ERR_STOP d r) false).setBit (BRG.RING_STATUS_RUNNING d r) true).set (BRG.RING_HEAD_HEAD d r)
      ((s.ring rx r).tailOff % s.ringSize rx r)
  else
    let s := if was then s.setRing rx r { s.ring rx r with tailOff := s.ringTail rx r } else s
    if (s.ring rx r).frame.isSome then s else s.setBit (BRG.RING_STATUS_RUNNING d r) false

def execRingEnableWrite (ini : Initiator) (rx : Bool) (ring : Fin 8) (value : Word) (s : State) : Host.Outcome State Fault Refusal :=
  .next (s.writeAt ini (BRG.RING_CTRL (ringNo rx) ring) fun s => s.ringCtrl rx ring value)

/-- A transmit ring fetches the descriptor at HEAD: a failed read stops the ring, a bad descriptor is written back, any other
requests its buffer (R318). -/
def State.txFetch (s : State) (r : Nat) (desc : Option (BitVec 128)) : State :=
  if !s.bit (BRG.RING_CTRL_ENABLE 0 r) ∨ !s.bit (BRG.RING_STATUS_RUNNING 0 r) ∨ !s.bit BRG.BRG_STATUS_PCIE_LINK
      ∨ s.ringHead false r = s.ringTail false r ∨ (s.ring false r).frame.isSome then s else
  let s := s.emit (.dmaRead (s.ringDesc false r) 16)
  match desc with
  | none => (s.hostReadBad.setBit (BRG.RING_STATUS_ERR_STOP 0 r) true).setBit (BRG.RING_STATUS_RUNNING 0 r) false
  | some d =>
    let w2 := (d >>> 64).setWidth 32
    let n := bitsOf w2 13 0
    if bitsOf w2 31 14 ≠ 0 then s.txBack r 3
    else if n < 60 ∨ 9724 < n then s.txBack r 1
    else
      let s := s.setRing false r { s.ring false r with frame := some s.nextFid, addr := (d.setWidth 64).toNat, bytes := n }
      s.addFrame { fid := 0, inPort := 14, src := r, data := [], ts := s.nowQ, len := n + 4, waiting := true,
                   rank := s.get (BRG.RING_CTRL_RANK 0 r) }

def execTxRingFetch (ring : Fin 8) (desc : Option (BitVec 128)) (s : State) : Host.Outcome State Fault Refusal :=
  .next (s.txFetch ring desc)

/-- The read of a transmit frame has ended: well, and the frame, stamped now (R33), is offered to Sluice; or with an error, and it
is discarded (R318). On a secured P14 its SecY meets it first (R245). -/
def State.txFrameDone (s : State) (r : Nat) (data : Option Bytes) : State :=
  match (s.ring false r).frame with
  | none => s
  | some fid =>
    match s.frame? fid with
    | none => s.txBack r 2
    | some f =>
      if f.handle.isNone then s else
      let s := s.emit (.dmaRead (s.ring false r).addr (s.ring false r).bytes)
      match data with
      | none => (s.hostReadBad.dropUnqueued fid).txBack r 2
      | some d =>
        let n := (s.ring false r).bytes
        let d := padTo n (d.take n)
        let sec := s.secured 14
        let f := { f with data := d, tail := true, ts := s.nowQ, secPend := sec, raw := if sec then d else [] }
        match s.secMeet f with
        | (some g, s) => ((s.putFrame { g.unsecured with len := g.data.length - g.secLen + 4 }).bump BRG.TX_FRAMES_CNT).txBack r 0
        | (none, s) => (s.dropUnqueued fid).txBack r 0

def execTxRingFrameDone (ring : Fin 8) (data : Option Bytes) (s : State) : Host.Outcome State Fault Refusal :=
  .next (s.txFrameDone ring data)

/-- COAL_US have passed since the oldest unreported write-back (R321). -/
def State.coalExpiry (s : State) (rx : Bool) (r : Nat) : State :=
  let x := s.ring rx r
  let us := s.get (BRG.RING_CTRL_COAL_US (ringNo rx) r)
  if us = 0 ∨ x.unrep = 0 ∨ s.nowQ < x.oldest + us * usQ then s else s.raise (ringBit rx r)

def execRingCoalExpiry (rx : Bool) (ring : Fin 8) (s : State) : Host.Outcome State Fault Refusal := .next (s.coalExpiry rx ring)

/-- A W1C write of RING_EVENT reports every write-back made before it; a ring with a write-back in the same clock has its bit set again
(R321). -/
def State.ringClear (s : State) (w : Word) : State :=
  let ks := (List.range 16).filter fun k => bitsOf w k k == 1
  let s := s.plainWrite BRG.RING_EVENT w
  let fresh := fun (k : Nat) => if s.ringMarked 0 k then 1 else 0
  let f := fun (x : Nat × Ring) => if ks.contains x.1 then (x.1, { x.2 with unrep := fresh x.1 }) else x
  let s := { s with brg := { s.brg with rings := s.brg.rings.map f } }
  let s := s.each ks fun s k => s.ringMark 16 k
  let s := s.each (ks.filter fun k => s.ringMarked 0 k) fun s k => s.raise ⟨BRG.RING_EVENT, k, k⟩
  s.afterEvent BRG.RING_EVENT

def execRingEventClear (ini : Initiator) (value : Word) (s : State) : Host.Outcome State Fault Refusal :=
  .next (s.writeAt ini BRG.RING_EVENT fun s => s.ringClear value)

/-- A copy to P14 starts: the receive ring of its class takes it with the descriptor at HEAD (R319). -/
def State.rxBegin (s : State) (r fid : Nat) (desc : BitVec 128) : State :=
  (s.emit (.dmaRead (s.ringDesc true r) 32)).setRing true r { s.ring true r with frame := some fid, addr := (desc.setWidth 64).toNat }

/-- Write-back of a receive descriptor and the frame before it, with its FCS when all of it has left Turnstile (R320, Table 15.3); a ring
that has been stopped since writes nothing (R317). -/
def State.rxBack (s : State) (r : Nat) (f : Frame) (data : Bytes) (poisoned : Bool) : State :=
  if (s.ring true r).frame ≠ some f.fid then s else
  let bytes := if poisoned then data else data ++ fcsOf data
  let q := f.ts
  let wb := [word (2147483648 + (if poisoned then 1073741824 else 0) + f.inPort * 67108864 + f.version * 8388608 + f.zone * 524288 + bytes.length % 16384),
    word (secOf q % 4 * 1073741824 + nsOf q),
    word (qnsOf q * 1073741824 + (match f.stream with | some c => 4096 + c | none => 0)), 0]
  let s := (s.emit (.ring r (s.ring true r).addr bytes (s.ringDesc true r + 16) wb)).bump BRG.RX_FRAMES_CNT
  let s := s.setRing true r { s.ring true r with frame := none }
  let s := if poisoned then s.bump BRG.RX_POISONED_CNT else s
  ((s.ringAdvance true r).ringReport true r).ringStops true r

/-! ### The PCIe endpoint (R317, R387, R407) -/

/-- Every ring is disabled; fetches end and their buffers return (R317). -/
def State.ringsOff (s : State) : State :=
  s.each (List.range 16) fun s k =>
    let rx := decide (8 ≤ k)
    let r := k % 8
    let x := s.ring rx r
    let s := match x.frame with | some fid => if rx = true then s else s.dropUnqueued fid | none => s
    let on := s.bit (BRG.RING_CTRL_ENABLE (ringNo rx) r)
    let s := if on || x.frame.isSome then s.setRing rx r { x with frame := none, tailOff := if on then s.ringTail rx r else x.tailOff } else s
    (s.setBit (BRG.RING_CTRL_ENABLE (ringNo rx) r) false).setBit (BRG.RING_STATUS_RUNNING (ringNo rx) r) false

/-- A window read has ended with an error (R324). -/
def State.readErr (s : State) (ini : Initiator) (drop : Bool) (e : BusEnd) : State :=
  ((s.bump BRG.READ_ERR_CNT).raise BRG.BRG_EVENT_READ_ERR).reply ini drop e

/-- The function's configuration, its MSI-X state with it, returns to reset; the link stays as it is (assumption 133). -/
def State.pcieReset (s : State) : State :=
  { s with msixMask := 0xFFFFFFFF, msixFn := false, msixPba := 0,
           brg := { s.brg with pcie := { speed := s.brg.pcie.speed, width := s.brg.pcie.width } } }

/-- Function level reset, hot reset, D3hot, or loss of the link (R317): every ring stops, and a reset of the function takes its
configuration with it; host reads cannot complete over a lost link. -/
def State.pcieDown (s : State) (why : PcieCause) : State :=
  let s := (s.ringsOff.sessionLost [0]).raise BRG.BRG_EVENT_PCIE_DOWN
  match why with
  | .d3hot => { s with brg := { s.brg with pcie := { s.brg.pcie with d3 := true } } }
  | .flr | .hotReset => s.pcieReset
  | .linkLost =>
    let rs := s.brg.hostReads
    let s := s.pcieReset
    let s := ({ s with brg := { s.brg with hostReads := [], pcie := {} } }).setBit BRG.BRG_STATUS_PCIE_LINK false
    s.each rs fun s r => s.readErr r.ini r.drop .fault

def execPcieDown (why : PcieCause) (s : State) : Host.Outcome State Fault Refusal := .next (s.pcieDown why)

/-- PERST_N resets the endpoint alone, under R317 (R407): the link goes down with it. -/
def State.perst (s : State) : State := s.pcieDown .linkLost

def execPerst (s : State) : Host.Outcome State Fault Refusal := .next s.perst

/-- Link training is complete, at a speed and a width (R316); it starts no earlier than the end of stage FUSE (R407). The function is
in D0. -/
def State.pcieUp (s : State) (speed width : Nat) : State :=
  if s.stage = 0 then s else
  ({ s with brg := { s.brg with pcie := { s.brg.pcie with speed := speed, width := width, d3 := false } } }).setBit BRG.BRG_STATUS_PCIE_LINK true

def execPcieLinkUp (speed width : Fin 5) (s : State) : Host.Outcome State Fault Refusal := .next (s.pcieUp speed width)

/-- The longest time of a completion timeout range, microseconds: the default, ranges A and B (R316; PRESUMED from PCIe, assumption 133). -/
def ctoUs (v : BitVec 4) : Nat := match v.toNat with | 1 => 100 | 2 => 10000 | 5 => 55000 | 6 => 210000 | _ => 50000

/-- The host sets up the function: its BARs, the completion timeout, and its return from D3hot to D0 (R316). -/
def State.pcieSet (s : State) : Option PcieCfg → State
  | none => s
  | some c => { s with brg := { s.brg with pcie :=
      { s.brg.pcie with bar0 := c.bar0, bar2 := c.bar2, cto := ctoUs c.cto, d3 := s.brg.pcie.d3 && !c.d0 } } }

/-- The host sets up the function, and writes the MSI-X table, its vector masks and the function mask: a PBA bit whose vector is no longer
masked clears, and its message is sent when the vector is still pending (R316, R387). -/
def State.msixUnmask (s : State) (mask : Word) (fn : Bool) (table : List (Fin 32 × BitVec 64 × Word)) (cfg : Option PcieCfg) : State :=
  let s := s.pcieSet cfg
  let s := { s with msixMask := mask, msixFn := fn,
                    brg := { s.brg with pcie := { s.brg.pcie with msix := table.foldl (fun l x => assocSet l x.1.val x.2) s.brg.pcie.msix } } }
  if fn then s else
  s.each ((List.range 32).filter fun v => s.msixPba.getLsbD v && !mask.getLsbD v) fun s v =>
    let s := { s with msixPba := s.msixPba &&& ~~~(BitVec.ofNat 32 (2 ^ v)) }
    if s.vecPend v && s.bit BRG.BRG_STATUS_PCIE_LINK then s.emit (s.msixMsg v) else s

def execMsixUnmask (mask : Word) (fnMask : Bool) (table : List (Fin 32 × BitVec 64 × Word)) (cfg : Option PcieCfg) (s : State) :
    Host.Outcome State Fault Refusal := .next (s.msixUnmask mask fnMask table cfg)

/-- Device ID and vendor ID as configuration space shows them (R316, Table 15.1). -/
def State.pcieId (s : State) : Word := word (0x9216 * 65536 + bitsOf (s.rd SYS.PCIE_VID) 15 0)

/-- What BAR2 reads: the MSI-X table from 0x0000 on, its 32 pending bits at 0x8000 (R316). -/
def State.bar2Word (s : State) (off : Nat) : Word :=
  let v := off / 16
  let x := assocD s.brg.pcie.msix v (0, 0)
  if off = 0x8000 then s.msixPba
  else if 512 ≤ off then 0
  else match off % 16 / 4 with
    | 0 => x.1.setWidth 32 | 1 => (x.1 >>> 32).setWidth 32 | 2 => x.2 | _ => if s.msixMask.getLsbD v then 1 else 0

/-! ### The posted-error log (R325) -/

/-- INITIATOR of an entry. -/
def perrIni : Initiator → Nat | .host => 0 | .hart0 => 1 | .hart1 => 2 | _ => 0

/-- A posted write has failed (R325, Table 15.4). -/
def State.postedFail (s : State) (peer : Bool) (off : Nat) (ini : Initiator) (cause : Nat) : State :=
  let win := off / 0x100000
  let bit := if peer then 4 + win % 8 else win % 4
  let s := (s.wr BRG.PERR_STICKY (s.rd BRG.PERR_STICKY ||| BitVec.ofNat 32 (2 ^ bit))).markSet BRG.PERR_STICKY bit
  let s := s.bump BRG.PERR_CNT
  let q := s.nowQ
  let e := [word off, word (2147483648 + (if peer then 1073741824 else 0) + win * 134217728 + perrIni ini * 16777216 + cause * 1048576),
    word (qnsOf q * 1073741824 + nsOf q), word (secOf q)]
  let s := if s.brg.perr.length < 8 then { s with brg := { s.brg with perr := s.brg.perr ++ [e] } }
    else (s.bump BRG.PERR_LOST_CNT).raise BRG.BRG_EVENT_PERR_LOST
  s.raise BRG.BRG_EVENT_PERR

/-- The host answers a posted write with an error: UR, or CA or a poisoned TLP. -/
def State.hostPostedFail (s : State) (ini : Initiator) (off : Nat) (aborted : Bool) : State := s.postedFail false off ini (if aborted then 2 else 1)

def execPostedWriteFail (ini : Initiator) (off : BitVec 22) (aborted : Bool) (s : State) : Host.Outcome State Fault Refusal :=
  .next (s.hostPostedFail ini off.toNat aborted)

/-- PERR_LOG and PERR_LEVEL as they read; the read of PERR_LOG3 removes the head entry. -/
def State.perrWord (s : State) (w : Nat) : Word := (s.brg.perr.headD []).getD w 0
def State.perrPop (s : State) : Word × State := (s.perrWord 3, { s with brg := { s.brg with perr := s.brg.perr.tail } })

def execPerrLogRead (ini : Initiator) (s : State) : Host.Outcome State Fault Refusal :=
  .next (s.readAt ini (BRG.PERR_LOG 3) fun s => s.perrPop)

/-! ### Outbound requests of the peer bridge (R322, R324, R327) -/

/-- PEER_TIMEOUT and LOCK_TIMEOUT as they act, quarter ns. -/
def State.peerTimeout (s : State) : Nat := clampN 2 1000 (s.get BRG.BRG_TIMEOUT_PEER_TIMEOUT) * usQ
def State.lockTimeout (s : State) : Nat := clampN 10 10000 (s.get BRG.BRG_TIMEOUT_LOCK_TIMEOUT) * usQ

/-- A BRIDGE record. -/
def bridgeWords (kind status tag addr : Nat) (data : Word) : List Word :=
  [word (kind * 268435456 + status * 16777216 + tag % 256 * 65536), word addr, data]

/-- A request is outstanding: one that is answered until its answer, a write for PEER_TIMEOUT (assumption 32). -/
def State.outstanding (s : State) (q : OutReq) : Bool := q.kind != 2 || decide (s.nowQ < q.at_ + s.peerTimeout)

/-- One request leaves. -/
def State.sendOut (s : State) (q : OutReq) : State :=
  let q := { q with tag := s.brg.tag, at_ := s.nowQ, claim := s.ownClaim }
  let s := s.twSend 3 0x30 (bridgeWords q.kind 0 q.tag q.addr q.data)
  { s with brg := { s.brg with sent := s.brg.sent.filter (fun x => x.tag != q.tag) ++ [q], tag := (s.brg.tag + 1) % 256 } }

/-- Requests that wait leave while fewer than 16 are outstanding. -/
def State.pump (s : State) : Nat → State
  | 0 => s
  | n + 1 => match s.brg.queue with
    | [] => s
    | q :: rest =>
      if 16 ≤ (s.brg.sent.filter s.outstanding).length then s
      else
        let s := ({ s with brg := { s.brg with queue := rest } }).sendOut q
        (if q.kind = 2 then s.reply q.ini q.drop .done else s).pump n

/-- A tick: a request that waits leaves when a posted write is no longer outstanding (R327, assumption 32). -/
def State.pumpTick (s : State) : State := if s.brg.queue = [] then s else s.pump s.brg.queue.length

/-- A request is made. -/
def State.request (s : State) (q : OutReq) : State :=
  let s := { s with brg := { s.brg with queue := s.brg.queue ++ [q] } }
  s.pump s.brg.queue.length

/-- How an access through a closed window, or one that is not allowed, ends (R322, R399). An access of the security pair is recorded whatever
its size and alignment, since it does not reach the apertures (DESIGN CHOICE, assumption 150). -/
def State.windowRefuse (s : State) (ini : Initiator) : State :=
  if ini = .sec then s.violation.emit (.bus ini .fault)
  else s.busOut ini (match ini with | .host => .unsupported | .peer => .decode | _ => .fault)

/-- The initiators that windows serve: the control pair, and the host for the peer aperture. -/
def windowUser (peer : Bool) : Initiator → Bool | .hart0 => true | .hart1 => true | .host => peer | _ => false

/-- Host address of window n's byte k. -/
def State.hostAddr (s : State) (n k : Nat) : Nat :=
  (s.rd (BRG.HOST_WIN_HI n)).toNat * 4294967296 + s.get (BRG.HOST_WIN_LO_BASE_LO n) * 4096 + k

/-- Bytes of a word, lowest first. -/
def bytesLE (n : Nat) (w : Word) : Bytes := (List.range n).map fun k => BitVec.ofNat 8 (w.toNat / 256 ^ k)

/-- The bytes of a word turned round. -/
def swapWord (w : Word) : Word := word ((bytesLE 4 w).foldl (fun a b => a * 256 + b.toNat) 0)

/-- A host window takes an access: naturally aligned, 32 bits only when data-invariant (R323). -/
def State.hostTakes (s : State) (n off size : Nat) : Bool :=
  s.bit (BRG.HOST_WIN_CTRL_EN n) && (size == 4 || (!s.bit (BRG.HOST_WIN_CTRL_DATA_INV n) && (size == 1 || size == 2))) && off % size == 0

/-- A read through an aperture (R322 to R324). -/
def State.windowRead (s : State) (ini : Initiator) (a size : Nat) : State :=
  if s.readMute ini then s
  else if a < 0x1800000 then
    let off := a - 0x1400000
    let n := off / 0x100000
    if !windowUser false ini ∨ a < 0x1400000 ∨ !s.hostTakes n off size then s.windowRefuse ini else
    let inv := s.bit (BRG.HOST_WIN_CTRL_DATA_INV n)
    let s := { s with brg := { s.brg with hostReads := s.brg.hostReads ++ [HostRead.mk ini inv size s.nowQ false] } }
    s.emit (.window (s.hostAddr n (off % 0x100000)) size none)
  else
    let off := a - 0x1800000
    let n := off / 0x100000
    if !windowUser true ini ∨ size ≠ 4 ∨ off % 4 ≠ 0 ∨ !s.bit (BRG.PEER_WIN_EN n) then s.windowRefuse ini
    else if !s.twUp false then s.readErr ini false (if ini = .host then .abort else .fault)
    else s.request { kind := 1, ini := ini, off := off, addr := s.get (BRG.PEER_WIN_TARGET n) * 0x100000 + off % 0x100000, data := 0 }

def execWindowRead (ini : Initiator) (addr : BitVec 25) (size : Nat) (s : State) : Host.Outcome State Fault Refusal :=
  .next (s.windowRead ini addr.toNat size)

/-- A write through an aperture: posted (R322, R323, R325). -/
def State.windowWrite (s : State) (ini : Initiator) (a size : Nat) (w : Word) : State :=
  if s.mute ini then s
  else if a < 0x1800000 then
    let off := a - 0x1400000
    let n := off / 0x100000
    if !windowUser false ini ∨ a < 0x1400000 ∨ !s.hostTakes n off size then s.windowRefuse ini else
    let b := bytesLE size w
    (s.emit (.window (s.hostAddr n (off % 0x100000)) size (some (if s.bit (BRG.HOST_WIN_CTRL_DATA_INV n) then b.reverse else b)))).emit (.bus ini .done)
  else
    let off := a - 0x1800000
    let n := off / 0x100000
    if !windowUser true ini ∨ size ≠ 4 ∨ off % 4 ≠ 0 ∨ !s.bit (BRG.PEER_WIN_EN n) then s.windowRefuse ini
    else if !s.twUp false then (s.emit (.bus ini .done)).postedFail true off ini 5
    else s.request { kind := 2, ini := ini, off := off, addr := s.get (BRG.PEER_WIN_TARGET n) * 0x100000 + off % 0x100000, data := w }

def execWindowWrite (ini : Initiator) (addr : BitVec 25) (size : Nat) (value : Word) (s : State) : Host.Outcome State Fault Refusal :=
  .next (s.windowWrite ini addr.toNat size value)

/-- A host-window read has ended: with its bytes, lowest address first, or with an error (R324). -/
def State.hostReadEnd (s : State) (r : HostRead) (data : Option Word) : State :=
  let s := { s with brg := { s.brg with hostReads := s.brg.hostReads.erase r } }
  match data with
  | none => s.readErr r.ini r.drop .fault
  | some w => s.reply r.ini r.drop (.data (if r.inv then swapWord w else word (w.toNat % 256 ^ r.size)))

/-- The completion of a host-window read; an error completion or a poisoned TLP is none (R324). -/
def State.hostResponse (s : State) (ini : Initiator) (data : Option Word) : State :=
  match s.brg.hostReads.find? fun r => r.ini == ini with
  | none => s
  | some r => if data.isNone then s.hostReadBad.hostReadEnd r none else s.hostReadEnd r data

def execWindowReadResponse (ini : Initiator) (data : Option Word) (s : State) : Host.Outcome State Fault Refusal :=
  .next (s.hostResponse ini data)

/-- The completion timeout of a host-window read has passed: it ends with an error, and AER notes the completion timeout (R316, R324). -/
def State.hostTimeout (s : State) (ini : Initiator) : State :=
  match s.brg.hostReads.find? fun r => r.ini == ini with
  | none => s
  | some r =>
    if s.nowQ < r.at_ + s.brg.pcie.cto * usQ then s else (s.aerSet 0x4000).hostReadEnd r none

def execHostWindowCompletionTimeout (ini : Initiator) (s : State) : Host.Outcome State Fault Refusal :=
  .next (s.hostTimeout ini)

/-! ### Locked sequences, outbound (R328) -/

/-- A step of a locked sequence ends with a RESULT. -/
def State.lockEnd (s : State) (res : Nat) (held : Bool) : State :=
  ((s.setBit BRG.PEER_LOCK_STATUS_BUSY false).set BRG.PEER_LOCK_STATUS_RESULT res).setBit BRG.BRG_STATUS_LOCK_OUT held

/-- PEER_LOCK_CMD with an OP: 3 LOCK_READ, 4 WRITE_UNLOCK, 5 UNLOCK by KIND. While BUSY, or to lock a second time, it is ignored. -/
def State.lockCmd (s : State) (ini : Initiator) (kind : Nat) : State :=
  if s.bit BRG.PEER_LOCK_STATUS_BUSY ∨ (kind = 3 ∧ s.bit BRG.BRG_STATUS_LOCK_OUT) then s.raise BRG.BRG_EVENT_LOCK_IGNORED
  else if !s.twUp false then s.lockEnd 4 false
  else (s.setBit BRG.PEER_LOCK_STATUS_BUSY true).request
    { kind := kind, ini := ini, off := 0, addr := BRG.BRG_SEM (s.get BRG.PEER_LOCK_ADDR_SEM), data := if kind = 4 then s.rd BRG.PEER_LOCK_DATA else 0 }

def execLockRead (ini : Initiator) (s : State) : Host.Outcome State Fault Refusal :=
  .next (s.writeAt ini BRG.PEER_LOCK_CMD fun s => s.lockCmd ini 3)
def execWriteUnlock (ini : Initiator) (s : State) : Host.Outcome State Fault Refusal :=
  .next (s.writeAt ini BRG.PEER_LOCK_CMD fun s => s.lockCmd ini 4)
def execUnlock (ini : Initiator) (s : State) : Host.Outcome State Fault Refusal :=
  .next (s.writeAt ini BRG.PEER_LOCK_CMD fun s => s.lockCmd ini 5)

/-! ### Answers (R324, R325, R327 to R329) -/

/-- A request leaves the list of those outstanding. -/
def State.dropSent (s : State) (tag : Nat) : State := { s with brg := { s.brg with sent := s.brg.sent.filter fun q => q.tag != tag } }

/-- RESULT of an answer's STATUS: OK, DECODE, ACCESS (as DECODE), RETRY, ERR_LOCK. -/
def lockResult : Nat → Nat | 0 => 1 | 3 => 2 | 4 => 3 | _ => 6

/-- The answer to an outbound request (R324, R328, R329). An earlier posted write of the same initiator through the same window has
completed when a read's answer returns (R326). -/
def State.answered (s : State) (q : OutReq) (status : Nat) (data : Word) : State :=
  let s := s.dropSent q.tag
  match q.kind with
  | 1 =>
    let s := { s with brg := { s.brg with sent := s.brg.sent.filter fun x => !(x.kind == 2 && x.ini == q.ini && x.off / 0x100000 == q.off / 0x100000) } }
    if status = 0 then s.reply q.ini q.drop (.data data) else s.readErr q.ini q.drop (if q.ini = .host then .abort else .fault)
  | 2 => s
  | 3 =>
    let s := if status = 3 then s.bump BRG.LOCK_RETRY_CNT else s
    if status = 0 then (s.wr BRG.PEER_LOCK_DATA data).lockEnd 1 true else s.lockEnd (lockResult status) false
  | _ => s.lockEnd (lockResult status) false

/-- RESPONSE (KIND 8); one that comes after its timeout is discarded. -/
def State.bridgeResponse (s : State) (h : TwHead) (ws : List Word) : State :=
  s.twGet 3 h fun s =>
    let w := ws.getD 0 0
    match s.brg.sent.find? fun q => q.tag == bitsOf w 23 16 with
    | none => s
    | some q => let s := s.answered q (bitsOf w 27 24) (ws.getD 2 0); s.pump s.brg.queue.length

def execBridgeResponseReceived (h : TwHead) (ws : List Word) (s : State) : Host.Outcome State Fault Refusal :=
  .next (s.bridgeResponse h ws)

/-- POSTED_FAIL (KIND 9): logged with cause 3 DECODE or 4 ACCESS (R325). -/
def State.bridgePostedFail (s : State) (h : TwHead) (ws : List Word) : State :=
  s.twGet 3 h fun s =>
    let w := ws.getD 0 0
    match s.brg.sent.find? fun q => q.tag == bitsOf w 23 16 && q.kind == 2 with
    | none => s
    | some q => let s := (s.dropSent q.tag).postedFail true q.off q.ini (if bitsOf w 27 24 = 2 then 4 else 3); s.pump s.brg.queue.length

def execBridgePostedFailReceived (h : TwHead) (ws : List Word) (s : State) : Host.Outcome State Fault Refusal :=
  .next (s.bridgePostedFail h ws)

/-- An outbound request ends without an answer: reads as a timeout, a write as a posted failure, a lock step with a RESULT. -/
def State.reqLost (s : State) (q : OutReq) (res : Nat) : State :=
  let s := s.dropSent q.tag
  match q.kind with
  | 1 => s.readErr q.ini q.drop (if q.ini = .host then .abort else .fault)
  | 2 => s.postedFail true q.off q.ini 5
  | _ => s.lockEnd res false

/-- PEER_TIMEOUT has passed (R324, R328). -/
def State.peerTimedOut (s : State) (tag : Nat) : State :=
  match s.brg.sent.find? fun q => q.tag == tag && q.kind != 2 with
  | none => s
  | some q => if s.nowQ < q.at_ + s.peerTimeout then s else let s := s.reqLost q 5; s.pump s.brg.queue.length

def execPeerReadTimeout (tag : BitVec 8) (s : State) : Host.Outcome State Fault Refusal := .next (s.peerTimedOut tag.toNat)

/-! ### Semaphores and inbound locks (R328, R329) -/

/-- The semaphore that an address names. -/
def semOf (a : Nat) : Option Nat := if BRG.BRG_SEM 0 ≤ a ∧ a < BRG.BRG_SEM 8 ∧ a % 4 = 0 then some ((a - BRG.BRG_SEM 0) / 4) else none

/-- The peer holds this semaphore. -/
def State.semLocked (s : State) (n : Nat) : Bool := match s.brg.lockIn with | some x => x.1 == n | none => false

/-- An access that waited for a semaphore is made; a write of the host or the peer before stage RUN is ignored and recorded (R344). -/
def State.semServe (s : State) (x : SemWait) : State :=
  if (semOf x.addr).isNone then s else
  let v := s.rd x.addr
  let s := match x.w with | some w => (s.writeEnd x.ini x.addr fun s => s.wr x.addr w).2 | none => s
  match x.tag, x.w with
  | some t, none => s.twSend 3 0x30 (bridgeWords 8 0 t x.addr v)
  | some _, some _ => s
  | none, none => s.reply x.ini x.drop (.data v)
  | none, some _ => s.reply x.ini x.drop .done

/-- The lock is released; what waited for the semaphore, or behind such an access, is served in order by f. -/
def State.lockRelease (s : State) (f : State → SemWait → State) : State :=
  let ws := s.brg.waits
  ({ s with brg := { s.brg with lockIn := none, waits := [] } }).setBit BRG.BRG_STATUS_LOCK_IN false |>.each ws f

/-- A response to an inbound request. -/
def State.bridgeAnswer (s : State) (w : Word) (status addr : Nat) (data : Word) : State :=
  s.twSend 3 0x30 (bridgeWords 8 status (bitsOf w 23 16) addr data)

/-- LOCK_READ: granted, or answered RETRY, by the order of R329; an address that is no semaphore is answered DECODE. -/
def State.bridgeLock (s : State) (h : TwHead) (ws : List Word) : State :=
  s.twGet 3 h fun s =>
    let s := s.bump BRG.PEER_IN_CNT
    let w := ws.getD 0 0
    let a := bitsOf (ws.getD 1 0) 24 0
    match semOf a with
    | none => s.bridgeAnswer w 1 a 0
    | some n =>
      let mine := s.brg.sent.find? fun q => q.kind == 3
      let retry := s.bit BRG.BRG_STATUS_LOCK_OUT || match mine with | some q => decide (h.claim.toNat < q.claim) | none => false
      if retry then s.bridgeAnswer w 3 a 0 else
      let s := ({ s with brg := { s.brg with lockIn := some (n, s.nowQ) } }).setBit BRG.BRG_STATUS_LOCK_IN true
      s.bridgeAnswer w 0 a (s.rd (BRG.BRG_SEM n))

def execBridgeLockReadReceived (h : TwHead) (ws : List Word) (s : State) : Host.Outcome State Fault Refusal :=
  .next (s.bridgeLock h ws)

/-! ### The twin link (R327) -/

/-- The link goes down: requests in flight and waiting end, inbound locks release, the path drops. Reads of the peer that waited are not made,
since no answer can return (assumption 152). -/
def State.twinDown (s : State) : State :=
  if !s.bit BRG.BRG_STATUS_TW_LINK then s else
  let s := (s.setBit BRG.BRG_STATUS_TW_LINK false).sessionLost [3]
  let wait := s.brg.queue
  let qs := s.brg.sent.filter s.outstanding ++ wait
  let s := { s with brg := { s.brg with sent := [], queue := [] } }
  let s := s.each (qs.filter fun q => q.kind == 2 && wait.contains q) fun s q => s.reply q.ini q.drop .done
  let s := s.each qs fun s q => s.reqLost q 4
  let s := s.setBit BRG.BRG_STATUS_LOCK_OUT false
  let s := if s.bit TWP.PAIR_STATUS_TW_UP then (s.setBit TWP.PAIR_STATUS_TW_UP false).raise TWP.TWP_EVENT_PATH_DOWN else s
  if s.brg.lockIn.isSome then s.lockRelease fun s x => if x.tag.isSome ∧ x.w = none then s else s.semServe x else s

def execTwinLinkDown (s : State) : Host.Outcome State Fault Refusal := .next s.twinDown

def State.twinUp (s : State) : State := s.setBit BRG.BRG_STATUS_TW_LINK true

def execTwinLinkUp (s : State) : Host.Outcome State Fault Refusal := .next s.twinUp

end Sys2Proof.Machine
end

