-- ==== Sys2Proof/Machine/MacRx.lean ====
section
/-! DEFINITION. MacRx.lean: the links of the external ports, reception, and received pause frames (chapter 04, R69 to R92). -/
namespace Sys2Proof.Machine

/-! ### Modes and speeds (R69, Table 4.1) -/

/-- The MODE in force: a MODE that the port does not support acts as disabled. -/
def State.macMode (s : State) (p : Nat) : Nat :=
  let m := s.get (MAC.PCS_CFG_MODE p)
  if m = 4 ∨ (p < 12 ∧ (m = 1 ∨ m = 2 ∨ m = 3 ∨ m = 5)) ∨ (12 ≤ p ∧ m = 6) then m else 0

/-- Auto-negotiation with the PHY is in use: SGMII and USXGMII with AN_EN. -/
def State.anUsed (s : State) (p : Nat) : Bool := (s.macMode p == 1 || s.macMode p == 5) && s.bit (MAC.PCS_CFG_AN_EN p)

/-- A speed code that SGMII or USXGMII offers. -/
def offered (mode code : Nat) : Bool := if mode = 1 then code == 1 || code == 2 else code == 1 || code == 2 || code == 3 || code == 4 || code == 5

/-- The speed code in force; zero while there is none. -/
def State.speedNow (s : State) (p : Nat) : Nat :=
  match s.macMode p with
  | 2 => 3 | 3 => 4 | 4 => 5 | 6 => 6
  | 0 => 0
  | m =>
    if s.anUsed p then
      (match (s.mac p).anWord with | some (c, half) => if !half && offered m c then c else 0 | none => 0)
    else if offered m (s.get (MAC.PCS_CFG_SPEED p)) then s.get (MAC.PCS_CFG_SPEED p) else 0

/-- FEC is in use (R72). -/
def State.fecUsed (s : State) (p : Nat) : Bool := s.macMode p == 6 && s.bit (MAC.PCS_CFG_FEC_EN p)

def State.linkUp (s : State) (p : Nat) : Bool := s.bit (MAC.PORT_STATUS_LINK p)

/-- AN_DONE and SPEED_ACT follow what is in force. -/
def State.speedLevels (s : State) (p : Nat) : State :=
  (s.setBit (MAC.PORT_STATUS_AN_DONE p) (s.anUsed p && s.speedNow p != 0)).set (MAC.PORT_STATUS_SPEED_ACT p) (s.speedNow p)

/-- The 1 ms hold runs while the PCS holds lock and a speed is in force (R73). -/
def State.holdCheck (s : State) (p : Nat) : State :=
  let on := !s.linkUp p && s.bit (MAC.PORT_STATUS_PCS_LOCK p) && s.speedNow p != 0
  s.setMac p { s.mac p with holding := on, holdFrom := if (s.mac p).holding then (s.mac p).holdFrom else s.nowPs }

/-- BAD_MODE for a MODE that the port does not support, or for a SPEED that the mode does not offer (R69). -/
def State.badMode (s : State) (p : Nat) : State :=
  let m := s.macMode p
  let speedBad := (m == 1 || m == 5) && !s.bit (MAC.PCS_CFG_AN_EN p) && !offered m (s.get (MAC.PCS_CFG_SPEED p))
  if (s.get (MAC.PCS_CFG_MODE p) ≠ 0 ∧ m = 0) ∨ speedBad then s.raise (MAC.PORT_EVENT_BAD_MODE p) else s

/-! ### Preemption's verify process (R82) -/

/-- PREEMPT_ACTIVE follows VERIFY_DIS and the verify process; without preemption no hold stands (R193). -/
def State.pmtLevels (s : State) (p : Nat) : State :=
  let on := s.bit (MAC.PREEMPT_CFG_PREEMPT_EN p) && (s.bit (MAC.PREEMPT_CFG_VERIFY_DIS p) || s.get (MAC.PORT_STATUS_VERIFY_STATUS p) == 2)
  let s := s.setBit (MAC.PORT_STATUS_PREEMPT_ACTIVE p) on
  if on || !s.lkp.hold.getLsbD p then s else s.setHold p false

/-- The verify process returns to its start (R82). -/
def State.verifyRestart (s : State) (p : Nat) : State :=
  let runs := s.bit (MAC.PREEMPT_CFG_PREEMPT_EN p) && !s.bit (MAC.PREEMPT_CFG_VERIFY_DIS p)
  ((s.setMac p { s.mac p with attempts := 0, verifyAt := s.nowPs }).set (MAC.PORT_STATUS_VERIFY_STATUS p) (if runs then 1 else 0)).pmtLevels p

/-- After a write of PREEMPT_CFG: the process starts when it has become enabled, and goes on when it was. -/
def State.pmtCfg (s : State) (p : Nat) (old : Word) : State :=
  let ran := bitsOf old 0 0 == 1 && bitsOf old 1 1 == 0
  let runs := s.bit (MAC.PREEMPT_CFG_PREEMPT_EN p) && !s.bit (MAC.PREEMPT_CFG_VERIFY_DIS p)
  if ran && runs then s.pmtLevels p else s.verifyRestart p

/-- The port's mPackets can leave and arrive. -/
def State.mPackets (s : State) (p : Nat) : Bool := s.flowing && s.linkUp p

/-- The instant at which VERIFY_TIME expires, picoseconds (R82). -/
def State.verifyDue (s : State) (p : Nat) : Nat := (s.mac p).verifyAt + clampN 1 128 (s.get (MAC.PREEMPT_CFG_VERIFY_TIME p)) * 1000000000

/-- VERIFY_TIME has expired since the last verify mPacket, or since the process started: one goes out, or the process fails (R82). -/
def State.verifyTimer (s : State) (p : Nat) : State :=
  if !s.mPackets p ∨ s.get (MAC.PORT_STATUS_VERIFY_STATUS p) ≠ 1 ∨ s.nowPs < s.verifyDue p then s
  else if max 1 (s.get (MAC.PREEMPT_CFG_VERIFY_LIMIT p)) ≤ (s.mac p).attempts then
    (s.set (MAC.PORT_STATUS_VERIFY_STATUS p) 3).raise (MAC.PORT_EVENT_VERIFY_FAIL p)
  else (s.setMac p { s.mac p with attempts := (s.mac p).attempts + 1, verifyAt := s.nowPs }).emit (.mpacket p false)

def execVerifyTimerExpiry (port : Fin 14) (s : State) : Host.Outcome State Fault Refusal := .next (s.verifyTimer port)

/-- A verify mPacket is answered (R82). -/
def State.verifyTake (s : State) (p : Nat) : State :=
  if s.mPackets p && s.bit (MAC.MAC_CFG_RX_EN p) then s.emit (.mpacket p true) else s

def execVerifyMpacketReceived (port : Fin 14) (s : State) : Host.Outcome State Fault Refusal := .next (s.verifyTake port)

/-- A respond mPacket completes the process (R82). -/
def State.respondTake (s : State) (p : Nat) : State :=
  if s.mPackets p ∧ s.bit (MAC.MAC_CFG_RX_EN p) ∧ s.get (MAC.PORT_STATUS_VERIFY_STATUS p) = 1 ∧ 0 < (s.mac p).attempts then
    (s.set (MAC.PORT_STATUS_VERIFY_STATUS p) 2).pmtLevels p
  else s

def execRespondMpacketReceived (port : Fin 14) (s : State) : Host.Outcome State Fault Refusal := .next (s.respondTake port)

/-! ### Stomped endings (R79 to R81, R417) -/

/-- CT_CUR rises after an underrun, in steps of 64 bytes and never past CT_CEIL (R78, R81). -/
def State.ctRaise (s : State) (p : Nat) : State :=
  if !s.bit (MAC.MAC_CFG_AUTO_RAISE p) then s else
  let cur := s.ctCur p
  let up := max cur (min (clampN 64 2048 (s.get (MAC.CT_THRESH_CT_CEIL p)) / 64 * 64) (cur + 64))
  if up = cur then s else (s.set (MAC.CT_CUR_CUR p) up).raise (MAC.PORT_EVENT_CT_RAISED p)

/-- The octets of a copy as they leave: what the one-step engine rewrote, then the rest of the frame, through the SecY when the
copy is protected. -/
def Tx.octets (t : Tx) (f : Frame) (whole : Bool) : Bytes :=
  let d := t.data.take f.data.length ++ f.data.drop t.data.length
  match t.sec with | some x => x.stream d whole | none => d

/-- The ICV that a failing protected copy has still to send, complemented (R260). -/
def Tx.badIcv (t : Tx) (sent : Bytes) : Bytes :=
  match t.sec with
  | some x =>
    let n := x.off + x.tag.length
    (gcmIcv x.key x.iv x.enc x.conf (sent.take n) (sent.drop n)).map fun b => ~~~b
  | none => []

/-- Octets of the wire frame that have gone out by now, earlier fragments included. -/
def State.wireOut (s : State) (p : Nat) (c : Copy) (t : Tx) : Nat :=
  c.sent + ((s.nowPs - t.start) / max 1 (s.byteTime p) - 8)

/-- Octets of the wire frame that the copy's cells in order give. -/
def Tx.present (t : Tx) (c : Copy) : Nat := 64 * c.inOrder + (match t.sec with | some x => x.tag.length | none => 0)

/-- The one-step engine acts on a copy's octets as of its egress tick (R41, R42). -/
def State.engineAct (s : State) (c : Copy) (f : Frame) (d : Bytes) (e : Egress) : Bytes × State :=
  match f.parse.ptpOff with
  | some h => s.oneStep c.out f.inPort d h f.ts e
  | none => (d, s)

/-- A transmission with what the engine has still to do done (R42). -/
def State.engineLate (s : State) (c : Copy) (f : Frame) (t : Tx) : Tx × State :=
  match t.late with
  | some e => let x := s.engineAct c f f.data e; ({ t with data := x.1, late := none }, x.2)
  | none => (t, s)

/-- The counter of a stomped ending. -/
def stompCounter (p : Nat) : Stomp → Nat
  | .rxerr => MAC.TX_STOMP_RXERR p | .fbv => MAC.TX_STOMP_FBV p | .underrun => MAC.TX_STOMP_UNDERRUN p

/-- The transmission of a copy at its output: in progress, or suspended between two fragments. -/
def State.txOf (s : State) (c : Copy) : Option Tx :=
  match (s.mac c.out).tx with
  | some t => if t.cid = some c.cid then some t else (s.mac c.out).suspended
  | none => (s.mac c.out).suspended

/-- Octets of the wire frame that leave before a stomped ending: up to the missing byte when the copy ran dry, otherwise what has gone
out by now, and at least 64 of a frame's first fragment; of a suspended copy those sent before (R79, R81). -/
def State.stompAt (s : State) (c : Copy) (t : Tx) (n : Option Nat) : Nat :=
  if c.st = .preempted then c.sent
  else n.getD (if t.frag.isNone then max 64 (s.wireOut c.out c t) else s.wireOut c.out c t)

/-- A copy in transmission, or between two fragments, ends: a stomped ending on P0 to P13 after `n` octets, a POISONED write-back on P14,
nothing on P15 (R79, R80, R417). `dry` marks a copy that ran dry: the rest of its cells still come (R81). -/
def State.stompEnd (s : State) (c : Copy) (n : Option Nat) (dry : Bool) : State :=
  let p := c.out
  let why : Stomp := c.stomp.getD .underrun
  match s.frame? c.fid, s.txOf c with
  | some f, some t =>
    let x := s.engineLate c f t
    let t := x.1
    let out := (t.octets f false).take (s.stompAt c t n)
    let all := if p < 14 ∧ why = Stomp.fbv then out ++ t.badIcv out else out
    let endAt := t.start + (24 + (all.length - c.sent)) * s.byteTime p
    let s := x.2
    let s := if c.st ≠ .preempted ∧ t.close.any (fun cl => decide (cl < endAt)) then s.bump (LKP.CLOSE_OVERRUN_CNT p) else s
    let s := if p < 14 then
        (s.emit (.frame p (all.drop c.sent) true (s.bit (MAC.MAC_CFG_ERR_SIGNAL p)) t.frag)).bump (stompCounter p why)
      else if p = 14 then s.rxBack c.tc f out true
      else if s.gwe.hand.any fun (h : GwHand) => h.fid == c.fid then s.gwLeave
      else s
    let s := if p < 14 ∧ why = .underrun ∧ c.ct ∧ (dry ∨ c.lost) then (s.raise (MAC.PORT_EVENT_UNDERRUN p)).ctRaise p else s
    let m := s.mac p
    let s := s.setMac p (if c.st = .preempted then { m with suspended := none }
      else { m with tx := none, freeAt := endAt })
    let s := s.noteSend c 1
    let s := if dry ∧ c.granted.length < c.cells then s.putCopy { c with st := .draining } else s.copyQuiet c
    s.sendEnd p
  | _, _ => s

/-- A copy that must end now: its frame has failed, or its keys are gone. A copy that lost a cell goes on to its first missing
byte (R171). -/
def Copy.endsNow (c : Copy) : Bool := (c.st == .sending || c.st == .preempted) && c.stomp.isSome && !(c.lost && c.stomp == some .underrun)

/-- Every copy that must end stomped does so (R75, R260, R261). -/
def State.endStomped (s : State) : State := s.each (s.copies.filter Copy.endsNow) fun s c => s.stompEnd c none false

def execCellTime (faultA faultB : CrsFault) (reads : List (Fin 16 × EccState)) (record : Option (Fin 16 × BitVec 24)) (s : State) :
    Host.Outcome State Fault Refusal := .next (s.cellTime faultA faultB reads record).endStomped
def execIcvResult (fid : Nat) (s : State) : Host.Outcome State Fault Refusal := .next (s.icvResult fid).endStomped
def execLcTransition (ini : Initiator) (value : Word) (s : State) : Host.Outcome State Fault Refusal :=
  .next (s.writeAt ini KEY.LC_CMD fun s => (s.lcCmd value).endStomped)
def execDbgVerifyDone (s : State) : Host.Outcome State Fault Refusal := .next s.dbgVerified.endStomped
def execZeroizeDone (s : State) : Host.Outcome State Fault Refusal := .next s.zeroizeDone.endStomped

/-! ### A frame as it arrives (R75, R148, R255) -/

/-- A receive fault of a frame that the MAC has passed on (R75, R140): without a buffer it is discarded, otherwise its copies end
or are discarded, and requests for its buffer with them. -/
def State.rxFault (s : State) (fid : Nat) : State :=
  match s.frame? fid with
  | none => s
  | some f =>
    let s := s.undoRecovery f
    if f.handle.isNone then s.dropUnqueued fid else
    let s := (s.failFrame fid .rxerr).laHeldGo fid false
    s.each (s.copies.filter fun c => c.fid == fid && c.st == .draining) fun s c => (s.putCopy { c with cells := c.granted.length }).drained c.cid

/-- Of `more` octets that come now, one finds the arrival store, 20,480 bytes, full: those of a frame that the MAC holds, or has passed on
and that has no buffer (R148). -/
def State.storeFull (s : State) (p : Nat) (fid : Option Nat) (more : Nat) : Bool :=
  (match fid with | some n => (s.frame? n).any fun f => f.handle.isNone | none => true) && decide (20480 < s.arrivalLevel p + more)

/-- A frame is discarded at the MAC for want of room in the arrival store (R148). -/
def State.countFull (s : State) (p : Nat) : State := (s.bump (BSN.ARRIVAL_DROP p)).raise BSN.BSN_EVENT_ARRIVAL_DROP

/-- A byte finds the arrival store full: the frame is discarded at the MAC (R148). Answers whether it stays. -/
def State.arrivalCheck (s : State) (p fid : Nat) : Bool × State :=
  if s.storeFull p (some fid) 0 then (false, (s.countFull p).dropUnqueued fid) else (true, s)

/-- The MAC passes a frame on; its SecY meets it when the port is secured. Answers the frame's number while it lives. -/
def State.rxPass (s : State) (p ts : Nat) (d : Bytes) : Option Nat × State :=
  let fid := s.nextFid
  let sec := s.secured p
  let s := s.addFrame { fid := 0, inPort := p, src := 0, data := d, ts := ts, secPend := sec, raw := if sec then d else [] }
  match s.frame? fid with
  | none => (none, s)
  | some f =>
    match s.secMeet f with
    | (none, s) => (none, s.dropUnqueued fid)
    | (some g, s) => let x := (s.putFrame g).arrivalCheck p fid; (if x.1 then some fid else none, x.2)

/-- EtherType of frames that the MAC consumes: MAC control, and network heartbeats on their port (R76, R279). -/
def State.consumed (s : State) (p : Nat) (d : Bytes) : Bool :=
  be16 d 12 == 0x8808 || (be16 d 12 == 0x88B6 && s.get TWP.TWP_CTRL_NET_HB_PORT == p)

/-- The allowances for the tags present: up to two VLAN tags, one R-TAG, and on a secured port SecTAG and ICV; further tags are passed over
without one. A tag that stands at or behind the offset `dark`, where confidential data begin, is not seen (R74, assumption 66). -/
def tagAllow (sec : Bool) (conf : Nat) (d : Bytes) : Nat → Nat → Bool → Option Nat → Nat → Nat
  | 0, _, _, _, _ => 0
  | n + 1, vlans, rtag, dark, o =>
    let et := be16 d o
    let seen := fun (k : Nat) => ((match dark with | some x => decide (o + k ≤ x) | none => true) : Bool)
    if (et = 0x8100 ∨ et = 0x88A8) ∧ seen 4 then (if vlans < 2 then 4 else 0) + tagAllow sec conf d n (vlans + 1) rtag dark (o + 4)
    else if et = 0xF1C1 ∧ seen 6 then (if rtag then 0 else 6) + tagAllow sec conf d n vlans true dark (o + 6)
    else if et = 0x88E5 ∧ sec ∧ dark = none then
      let len := if byteAt d (o + 2) / 32 % 2 = 1 then 16 else 8
      len + 16 + tagAllow false conf d n vlans rtag (if byteAt d (o + 2) / 8 % 2 = 1 then some (o + len + conf) else none) (o + len)
    else 0

/-- L_max of a frame with these first octets, of which tags are read in the first 64 (R74). -/
def State.lMax (s : State) (p : Nat) (front : Bytes) : Nat :=
  18 + clampN 46 9216 (s.get (MAC.MAC_CFG_MAX_CLIENT p)) + tagAllow (s.secured p) (s.confOffset p) front 16 0 false none 12

/-- What comes of a frame whose receive fault is known goes no further: the fault is counted and the frame dropped (R75). -/
def State.rxFail (s : State) (r : Rx) (cnt : Nat) : State :=
  match r.fid with | some fid => (s.bump cnt).rxFault fid | none => s.bump cnt

/-- Octets beyond L_max: the frame is cut off at byte L_max + 1 and counted; `old` octets had come before, and one of those up to L_max may
have found the arrival store full (R75, R148). -/
def State.rxCut (s : State) (p : Nat) (r : Rx) (old : Nat) : Rx × State :=
  if r.cut ∨ r.len ≤ s.lMax p r.front then (r, s) else
  let s := if (r.fid.isSome || r.held.isSome) && s.storeFull p r.fid (s.lMax p r.front - old) then s.countFull p else s
  ({ r with fid := none, held := none, cut := true }, s.rxFail r (if r.bad then MAC.RX_PCS_ERR p else MAC.RX_OVERSIZE p))

/-- Octets that the MAC holds go on to Sluice once they show that the frame is not the MAC's own. -/
def State.rxRoute (s : State) (p : Nat) (r : Rx) : Rx × State :=
  match r.held with
  | none => (r, s)
  | some d =>
    if d.length < 14 ∨ s.consumed p d then (r, s)
    else let x := s.rxPass p r.ts d; ({ r with held := none, fid := x.1 }, x.2)

/-- The first octets of a frame. -/
def State.rxOpen (s : State) (p ts : Nat) (d : Bytes) : Rx × State :=
  let r : Rx := { ts := ts, len := d.length, front := d.take 64, held := some d, fid := none }
  let x := s.rxCut p r 0
  if x.1.cut then x else s.rxRoute p r

/-- More octets of a frame under check, before its tail. -/
def Frame.secMore (f : Frame) (more : Bytes) : Frame :=
  match f.sec with
  | none => { f with data := f.data ++ more }
  | some x =>
    let raw := f.raw ++ more
    { f with raw := raw, data := f.data ++ (x.plain raw false).drop f.raw.length }

/-- Bytes of a frame as R126 counts them, as far as they have come: with its tail the FCS stands at their end, and before it the last 16
octets of a frame under check may be its ICV (R127, R247). -/
def Frame.bytesIn (f : Frame) : Nat :=
  if f.tail then (if f.sec.isSome then max 64 (f.octetsIn + 4) else f.octetsIn + 4)
  else f.octetsIn - (if f.sec.isSome then 16 else 0)

/-- A cut-through frame has more bytes than H + MAX_SDU + 4: its SDU is above MAX_SDU (R127). -/
def Frame.overLength (f : Frame) : Bool := f.cutThrough && decide (f.sduEnd < f.bytesIn)

/-- Octets of those that have come last which stand before the byte at which R127 ends the frame. -/
def Frame.within (f : Frame) (more : Nat) : Nat := more - (f.bytesIn - f.sduEnd)

/-- Octets between a frame's first and its tail. -/
def State.rxMore (s : State) (p : Nat) (r : Rx) (more : Bytes) : Rx × State :=
  let old := r.len
  let r := { r with len := r.len + more.length, front := (r.front ++ more).take 64, held := r.held.map (· ++ more) }
  let (r, s) := s.rxCut p r old
  match r.fid with
  | none => s.rxRoute p r
  | some fid =>
    match s.frame? fid with
    | none => ({ r with fid := none }, s)
    | some f =>
      let f := if f.secPend then { f with raw := f.raw ++ more, data := f.data ++ more } else f.secMore more
      match s.secMeet f with
      | (none, s) => ({ r with fid := none }, s.dropUnqueued fid)
      | (some g, s) =>
        if g.overLength then
          let s := if s.storeFull p (some fid) (g.within more.length) then s.countFull p else s
          ({ r with fid := none, cut := true }, ((s.putFrame g).lateOversize g).rxFail r (if r.bad then MAC.RX_PCS_ERR p else MAC.RX_OVERSIZE p))
        else let x := (s.putFrame g).arrivalCheck p fid; ({ r with fid := if x.1 then some fid else none }, x.2)

/-- The counter of a received frame's first fault (R75). -/
def State.rxCause (s : State) (p total : Nat) (front : Bytes) (fcsOk pcsOk : Bool) : Option Nat :=
  if !pcsOk then some (MAC.RX_PCS_ERR p)
  else if s.lMax p front < total then some (MAC.RX_OVERSIZE p)
  else if !fcsOk then some (MAC.RX_FCS_ERR p)
  else if total < 64 then some (MAC.RX_RUNT p)
  else none

/-- The true length replaces LENGTH in the copies' records: cells, span, shaper charge (R13, R186, R196). -/
def State.tailCopy (s : State) (c : Copy) (old new : Nat) : State :=
  if c.st = .queued then s else
  let s := s.shaperRefund c (old - new)
  let s := s.putCopy { c with cells := cellsOf new }
  let m := s.mac c.out
  let fix := fun (t : Tx) => if t.cid = some c.cid then { t with bytes := t.bytes - (old - new) } else t
  s.setMac c.out { m with tx := m.tx.map fix, suspended := m.suspended.map fix }

/-- The tail of a frame without a fault. -/
def State.rxTail (s : State) (fid : Nat) (rest : Bytes) : State :=
  match s.frame? fid with
  | none => s
  | some f =>
    let g := if f.secPend then { f with raw := f.raw ++ rest, data := f.data ++ rest, tail := true } else f.secTail rest
    match s.secMeet g with
    | (none, s) => s.dropUnqueued fid
    | (some g, s) =>
      let s := if g.cutThrough then s.refund g else s
      let g := g.tailPad
      let new := g.data.length - g.secLen + 4
      let s := if g.cutThrough then s.each (s.copies.filter fun c => c.fid == fid) fun s c => s.tailCopy c g.len new else s
      let s := match g.hitCtr with | some k => s.tbump 4 tCtr k 2 new | none => s
      let s := (s.putFrame { g with len := new, hitCtr := none }).slowFollow { g with len := new }
      (s.arrivalCheck g.inPort fid).2

/-- A frame without fault is counted (R92). -/
def State.rxCount (s : State) (p total : Nat) : State := (s.bump (MAC.RX_FRAMES_OK p)).bumpBy (MAC.RX_BYTES_OK p) total

/-- A frame that the MAC held to its tail: a short one goes on; a MAC control frame whose opcode has no row of its own is counted
(R76). -/
def State.rxHeld (s : State) (p : Nat) (r : Rx) (d : Bytes) : State :=
  if !s.consumed p d then
    let x := s.rxPass p r.ts d
    match x.1 with | some fid => x.2.rxTail fid [] | none => x.2
  else if be16 d 12 = 0x8808 ∧ be16 d 14 ≠ 0x0101 ∧ be16 d 14 ≠ 0x0001 then s.bump (MAC.RX_CTRL_OTHER p)
  else s

/-- A frame whose tail shows a fault of R75, or a cut-through frame whose tail shows an SDU above MAX_SDU, ends as a receive fault; one
whose last octets overran the arrival store was discarded at that byte (R75, R127, R148). -/
def State.rxBadTail (s : State) (p fid : Nat) (rest : Bytes) : State :=
  if s.storeFull p (some fid) (rest.length + 4) then (s.countFull p).dropUnqueued fid else s.rxFault fid

/-- A cut-through frame with its tail, when its SDU is above MAX_SDU. -/
def State.sduOver (s : State) (fid : Nat) (rest : Bytes) : Option Frame :=
  match s.frame? fid with
  | some f => let g := f.secTail rest; if !f.secPend && g.overLength then some g else none
  | none => none

/-- A frame's tail: checks, counts, and its fate. A cut-through frame above MAX_SDU ends before its FCS is seen (R75, R127). -/
def State.rxClose (s : State) (p : Nat) (r : Rx) (rest : Bytes) (fcsOk pcsOk : Bool) : State :=
  let total := r.len + rest.length + 4
  let pcs := pcsOk && !r.bad
  if r.cut then s else
  match r.fid.bind fun fid => s.sduOver fid rest with
  | some g =>
    let s := if s.storeFull p (some g.fid) (g.within (rest.length + 4)) then s.countFull p else s
    ((s.bump (if pcs then MAC.RX_OVERSIZE p else MAC.RX_PCS_ERR p)).lateOversize g).rxFault g.fid
  | none =>
    match s.rxCause p total ((r.front ++ rest).take 64) fcsOk pcs with
    | some cnt =>
      let s := s.bump cnt
      match r.fid, r.held with
      | some fid, _ => s.rxBadTail p fid rest
      | none, some d => if s.storeFull p none (min (s.lMax p ((r.front ++ rest).take 64)) (d.length + rest.length + 4)) then s.countFull p else s
      | none, none => s
    | none =>
      match r.fid, r.held with
      | some fid, _ => (s.rxTail fid rest).rxCount p total
      | none, some d => (s.rxCount p total).rxHeld p r (d ++ rest)
      | none, none => s.rxCount p total

/-- Ingress timestamp: pin time − PHY_RX_LAT, in quarter nanoseconds (R31, R32); a pin time below PHY_RX_LAT gives 0 (DESIGN CHOICE,
assumption 145). -/
def State.rxStamp (s : State) (p phase : Nat) : Nat := s.nowQ + phase - (s.rd (TIM.PHY_RX_LAT p)).toNat / 16384

/-- What the MAC does with a frame that begins to arrive: nothing while the link is down or the data path stands still, counted only
while reception is off (R9, R23, R73, R76, R172). -/
def State.rxRefused (s : State) (p : Nat) : Option State :=
  if !s.linkUp p ∨ s.pllLost 0 ∨ s.stalled then some s
  else if !s.released || !s.bit (MAC.MAC_CFG_RX_EN p) then some (s.bump (MAC.RX_DISABLED_DROP p))
  else none

/-- A frame in reception is cut off (R73). -/
def State.rxCutOff (s : State) (p : Nat) (r : Rx) : State := if r.cut then s else s.rxFail r (MAC.RX_PCS_ERR p)

/-- FRAME_RX_START (R31). A frame whose end came while the data path stood still is cut off by the next (assumption 127). -/
def State.frameStart (s : State) (p phase : Nat) (head : Bytes) : State :=
  match s.rxRefused p with
  | some s => s
  | none =>
    let s := match (s.mac p).rx with
      | some r => ((s.setMac p { s.mac p with rx := none }).rxCutOff p r).endStomped
      | none => s
    let x := s.rxOpen p (s.rxStamp p phase) head
    x.2.setMac p { x.2.mac p with rx := some x.1 }

def execFrameRxStart (port : Fin 14) (phase : Fin 8) (head : Bytes) (s : State) : Host.Outcome State Fault Refusal :=
  .next (s.frameStart port phase head)

/-- FRAME_RX_END (R75). -/
def State.frameEnd (s : State) (p : Nat) (rest : Bytes) (fcsOk pcsOk : Bool) : State :=
  if s.stalled then s else
  match (s.mac p).rx with
  | none => s
  | some r => ((s.setMac p { s.mac p with rx := none }).rxClose p r rest fcsOk pcsOk).endStomped

def execFrameRxEnd (port : Fin 14) (rest : Bytes) (fcsOk pcsOk : Bool) (s : State) : Host.Outcome State Fault Refusal :=
  .next (s.frameEnd port rest fcsOk pcsOk)

/-! ### Reassembly (R84) -/

/-- A frame under reassembly is discarded and counted once, whatever more of it comes: one in which a PCS error is known counts as that
(R75), and one that has been cut off has been counted (R84; DEDUCED, assumption 148). -/
def State.assyFail (s : State) (p : Nat) (pcsOk : Bool) : State :=
  let m := s.mac p
  let s := s.setMac p { m with assembly := none, assyBad := true }
  match m.assembly with
  | none => s.bump (if pcsOk then MAC.RX_ASSY_ERR p else MAC.RX_PCS_ERR p)
  | some a =>
    if a.rx.cut then s else
    let s := s.bump (if pcsOk && !a.rx.bad then MAC.RX_ASSY_ERR p else MAC.RX_PCS_ERR p)
    match a.rx.fid with | some fid => s.rxFault fid | none => s

/-- A fragment has shown a PCS error code: its frame ends with one. -/
def Rx.marked (r : Rx) (pcsOk : Bool) : Rx := { r with bad := r.bad || !pcsOk }

/-- A fragment arrives: the first one opens a frame; a continuation must carry the expected count (modulo 4, from 0) and be without
CRC error; the last one closes the frame. A frame that comes whole in one mPacket is no fragment. -/
def State.fragment (s : State) (p phase : Nat) (d : Bytes) (count : Nat) (initial final crcOk pcsOk : Bool) : State :=
  match s.rxRefused p with
  | some t => if initial then t else s
  | none =>
    let s := if initial && final then s else s.bump (MAC.RX_FRAG p)
    if initial then
      let s := if (s.mac p).assembly.isSome then s.assyFail p true else s
      let s := s.setMac p { s.mac p with assyBad := false }
      let x := s.rxOpen p (s.rxStamp p phase) d
      if final then x.2.rxClose p x.1 [] crcOk pcsOk
      else
        let s := x.2.setMac p { x.2.mac p with assembly := some { rx := x.1.marked pcsOk, next := 0 } }
        if crcOk then s else s.assyFail p pcsOk
    else match (s.mac p).assembly with
      | none => if (s.mac p).assyBad then s else s.assyFail p pcsOk
      | some a =>
        if a.next ≠ count ∨ !crcOk then s.assyFail p pcsOk
        else if final then (s.setMac p { s.mac p with assembly := none }).rxClose p a.rx d true pcsOk
        else
          let x := s.rxMore p (a.rx.marked pcsOk) d
          x.2.setMac p { x.2.mac p with assembly := some { rx := x.1, next := (count + 1) % 4 } }

def execFragmentReceived (port : Fin 14) (phase : Fin 8) (data : Bytes) (count : Fin 4) (initial final crcOk pcsOk : Bool) (s : State) :
    Host.Outcome State Fault Refusal := .next (s.fragment port phase data count initial final crcOk pcsOk).endStomped

/-! ### Low-power idle counters (R85) -/

/-- Whole microseconds spent in low-power idle are counted. -/
def State.lpiFold (s : State) (p : Nat) (tx : Bool) : State :=
  let m := s.mac p
  let on := s.bit (if tx then MAC.PORT_STATUS_LPI_TX p else MAC.PORT_STATUS_LPI_RX p)
  let at_ := if tx then m.lpiTxAt else m.lpiRxAt
  let us := (s.nowPs - at_) / 1000000
  if !on ∨ us = 0 then s else
  let s := s.bumpBy (if tx then MAC.LPI_TX_US p else MAC.LPI_RX_US p) us
  s.setMac p (if tx then { m with lpiTxAt := at_ + us * 1000000 } else { m with lpiRxAt := at_ + us * 1000000 })

/-- The receiver follows the link partner's signalling. -/
def State.lpiRx (s : State) (p : Nat) (idle : Bool) : State :=
  if idle then
    if !s.linkUp p ∨ s.macMode p = 6 ∨ s.bit (MAC.PORT_STATUS_LPI_RX p) then s
    else (s.setMac p { s.mac p with lpiRxAt := s.nowPs }).setBit (MAC.PORT_STATUS_LPI_RX p) true
  else ((s.lpiFold p false).setMac p { (s.lpiFold p false).mac p with lpiRxAt := 0 }).setBit (MAC.PORT_STATUS_LPI_RX p) false

def execLinkPartnerLpiSignalling (port : Fin 14) (idle : Bool) (s : State) : Host.Outcome State Fault Refusal := .next (s.lpiRx port idle)

/-- The transmitter is no longer in low-power idle. -/
def State.lpiTxEnd (s : State) (p : Nat) : State :=
  let s := s.lpiFold p true
  (s.setMac p { s.mac p with lpiTxAt := 0 }).setBit (MAC.PORT_STATUS_LPI_TX p) false

/-! ### Links (R71, R73) -/

/-- A copy that link loss cuts off: its owner bit clears at once, as though it had left (R73). -/
def State.txAbort (s : State) (p : Nat) (t : Tx) : State :=
  if t.shadow.isSome then s else
  let s := s.bump (MAC.TX_LINK_ABORT p)
  match t.cid with
  | none => s
  | some cid =>
    match s.copy? cid with
    | none => s
    | some c =>
      let s := (s.noteSend c 1).outRelease c.fid p
      if c.flying = [] then s.dropCopy cid else s.putCopy { c with st := .draining, freed := true, cells := c.granted.length }

/-- The frames in progress in both directions are cut off. -/
def State.linkCuts (s : State) (p : Nat) : State :=
  let m := s.mac p
  let s := s.setMac p { m with rx := none, assembly := none, assyBad := false, tx := none, suspended := none }
  let s := match m.rx with | some r => s.rxCutOff p r | none => s
  let s := match m.assembly with | some a => s.rxCutOff p a.rx | none => s
  let s := match m.tx with | some t => s.txAbort p t | none => s
  match m.suspended with | some t => s.txAbort p t | none => s

/-- Every descriptor queued for the port is discarded, committed and set-aside copies that have not started included (R73, R188). -/
def State.linkFlush (s : State) (p : Nat) : State :=
  if !s.bit (MAC.MAC_CFG_FLUSH_ON_DOWN p) then s else
  s.each (s.copies.filter fun c => c.out == p && (c.st == .queued || c.st == .committed)) fun s c =>
    match s.copy? c.cid with
    | some c => (s.copyGone c).bump (MAC.LINKDOWN_DROP p)
    | none => s

/-- A link condition is lost: the link goes down, when it was up with what R73 lists; the hold starts over (R73, R82). -/
def State.linkLost (s : State) (p : Nat) : State :=
  let was := s.linkUp p
  let s := (((s.setBit (MAC.PORT_STATUS_PCS_LOCK p) false).setBit (MAC.PORT_STATUS_FEC_LOCK p) false).setBit (MAC.PORT_STATUS_LINK p) false)
  let s := (s.setMac p { s.mac p with holding := false, anWord := none }).speedLevels p
  if !was then s else
  let s := ((s.linkCuts p).linkFlush p).endStomped
  let s := ((s.lpiRx p false).lpiTxEnd p).verifyRestart p
  ((s.bump (MAC.LINK_DOWN_CNT p)).raise (MAC.PORT_EVENT_LINK_DOWN p)).sendEnd p

def execLinkDown (port : Fin 14) (s : State) : Host.Outcome State Fault Refusal := .next (s.linkLost port)

/-- The conditions of R73 hold: the 1 ms hold starts. Without a speed in force it starts when there is one. -/
def State.pcsGained (s : State) (p : Nat) : State :=
  if s.macMode p = 0 ∨ s.wak.serdes ∨ s.portAsleep p then s else
  ((s.setBit (MAC.PORT_STATUS_PCS_LOCK p) true).setBit (MAC.PORT_STATUS_FEC_LOCK p) (s.fecUsed p)).holdCheck p

def execPcsLockGained (port : Fin 14) (s : State) : Host.Outcome State Fault Refusal := .next (s.pcsGained port)

/-- The hold has lasted 1 ms: the link is up; TIM refreshes the internal latencies (R31, R73). -/
def State.linkGained (s : State) (p : Nat) : State :=
  if !(s.mac p).holding ∨ s.nowPs < (s.mac p).holdFrom + 1000000000 then s else
  let s := (s.setMac p { s.mac p with holding := false }).setBit (MAC.PORT_STATUS_LINK p) true
  let s := { (s.wr (TIM.INT_RX_LAT p) (Config.intRxLat p s.fresh)).wr (TIM.INT_TX_LAT p) (Config.intTxLat p s.fresh) with fresh := s.fresh + 1 }
  s.raise (MAC.PORT_EVENT_LINK_UP p)

def execLinkUp (port : Fin 14) (s : State) : Host.Outcome State Fault Refusal := .next (s.linkGained port)

/-- A write of PCS_CFG (R71). -/
def State.pcsCfg (s : State) (p : Nat) (w : Word) : State :=
  let old := s.rd (MAC.PCS_CFG p)
  let s := s.plainWrite (MAC.PCS_CFG p) w
  if (old ^^^ s.rd (MAC.PCS_CFG p)) &&& 0xFF = 0 then s else ((s.linkLost p).speedLevels p).badMode p

def execPcsCfgWrite (ini : Initiator) (port : Fin 14) (value : Word) (s : State) : Host.Outcome State Fault Refusal :=
  .next (s.writeAt ini (MAC.PCS_CFG port) fun s => s.pcsCfg port value)

/-- The PHY's auto-negotiation word (R69, R70). A word that changes the speed of a link that is up takes the link down first. -/
def State.anTake (s : State) (p speed : Nat) (half : Bool) : State :=
  if !s.anUsed p then s else
  let lock := s.bit (MAC.PORT_STATUS_PCS_LOCK p)
  let good := !half && offered (s.macMode p) speed
  if s.linkUp p ∧ good ∧ speed = s.speedNow p then s else
  let s := if s.linkUp p then (s.linkLost p).setBit (MAC.PORT_STATUS_PCS_LOCK p) lock else s
  let s := (s.setMac p { s.mac p with anWord := some (speed, half) }).speedLevels p
  let s := if half then s.raise (MAC.PORT_EVENT_DUPLEX_FAULT p) else s
  let s := if offered (s.macMode p) speed then s else s.raise (MAC.PORT_EVENT_BAD_MODE p)
  s.holdCheck p

def execAutonegWordReceived (port : Fin 14) (speed : BitVec 3) (half : Bool) (s : State) : Host.Outcome State Fault Refusal :=
  .next (s.anTake port speed.toNat half)

/-- An RS-FEC codeword with errors: corrected, or its blocks marked errored, so that a frame that overlaps it ends with a PCS error: the
frame in reception, or, with none, the one under reassembly (R72). -/
def State.fecWord (s : State) (p : Nat) (bad : Bool) : State :=
  if !s.fecUsed p ∨ !s.bit (MAC.PORT_STATUS_FEC_LOCK p) ∨ !s.linkUp p then s
  else if !bad then s.bump (MAC.FEC_CORR_CW p)
  else
    let m := s.mac p
    let s := s.setMac p { m with rx := m.rx.map (fun (r : Rx) => { r with bad := true }),
                                 assembly := if m.rx.isSome then m.assembly else m.assembly.map fun (a : Assembly) => { a with rx := { a.rx with bad := true } } }
    (s.bump (MAC.FEC_UNCORR_CW p)).raise (MAC.PORT_EVENT_FEC_UNCORR p)

def execFecCodewordReceived (port : Fin 14) (uncorrectable : Bool) (s : State) : Host.Outcome State Fault Refusal :=
  .next (s.fecWord port uncorrectable)

/-! ### Received pauses (R89, R90) -/

/-- The MAC receives: link up, RX_EN set, data path released. -/
def State.receives (s : State) (p : Nat) : Bool := (s.rxRefused p).isNone

/-- One class is paused for a time of 512 bit times each, from 64 ns on, or resumed; a later time replaces what remains (R89). -/
def State.pauseClass (s : State) (p c time : Nat) : State :=
  let w := word (s.get (MAC.PFC_STATE_RX_PAUSED p))
  let m := s.mac p
  if time = 0 then
    (s.set (MAC.PFC_STATE_RX_PAUSED p) (putBits w c c 0).toNat).setMac p
      { m with pauseAt := m.pauseAt.filter (fun x => x.1 != c), pauseEnd := m.pauseEnd.filter fun x => x.1 != c }
  else
    let m := { m with pauseEnd := assocSet m.pauseEnd c (s.nowPs + time * 64 * s.byteTime p) }
    if bitsOf w c c = 1 then s.setMac p m
    else (s.set (MAC.PFC_STATE_RX_PAUSED p) (putBits w c c 1).toNat).setMac p { m with pauseAt := assocSet m.pauseAt c (s.nowQ + 256) }

/-- The classes of a mask take their times. -/
def State.pauseTake (s : State) (p : Nat) (mask : BitVec 8) (times : List (BitVec 16)) : State :=
  s.each ((List.range 8).filter fun c => mask.getLsbD c) fun s c => s.pauseClass p c (times.getD c 0).toNat

/-- A PFC frame (R89). -/
def State.pfcTake (s : State) (p : Nat) (enable : BitVec 8) (times : List (BitVec 16)) : State :=
  if !s.receives p then s else
  let mask := BitVec.ofNat 8 (s.get (MAC.PFC_CFG_PFC_RX_MASK p))
  let s := s.bump (MAC.RX_PFC p)
  let s := if enable &&& ~~~mask = 0 then s else s.bump (MAC.RX_PFC_IGNORED p)
  s.pauseTake p (enable &&& mask) times

def execPfcReceived (port : Fin 14) (enable : BitVec 8) (times : List (BitVec 16)) (s : State) : Host.Outcome State Fault Refusal :=
  .next (s.pfcTake port enable times)

/-- A PAUSE frame (R90). -/
def State.pauseFrame (s : State) (p : Nat) (time : BitVec 16) : State :=
  if !s.receives p then s else
  let s := s.bump (MAC.RX_CTRL_OTHER p)
  if s.bit (MAC.PFC_CFG_PAUSE_RX_EN p) then
    s.pauseTake p (BitVec.ofNat 8 (s.get (MAC.PFC_CFG_PFC_RX_MASK p))) (List.replicate 8 time)
  else s

def execPauseReceived (port : Fin 14) (time : BitVec 16) (s : State) : Host.Outcome State Fault Refusal := .next (s.pauseFrame port time)

/-- A class's pause time has run out (R89). -/
def State.pauseOver (s : State) (p c : Nat) : State :=
  if s.nowPs < assocD (s.mac p).pauseEnd c 0 then s else s.pauseClass p c 0

def execPfcPauseExpiry (port : Fin 14) (tc : Fin 8) (s : State) : Host.Outcome State Fault Refusal := .next (s.pauseOver port tc)

/-! ### The cut-through threshold (R78) -/

/-- The write of CT_THRESH loads CT_CUR. -/
def State.ctThresh (s : State) (p : Nat) (w : Word) : State :=
  let s := s.plainWrite (MAC.CT_THRESH p) w
  s.set (MAC.CT_CUR_CUR p) (clampN 64 2048 (s.get (MAC.CT_THRESH_THRESH p) / 64 * 64))

def execCtThreshWrite (ini : Initiator) (port : Fin 14) (value : Word) (s : State) : Host.Outcome State Fault Refusal :=
  .next (s.writeAt ini (MAC.CT_THRESH port) fun s => s.ctThresh port value)

end Sys2Proof.Machine
end

