-- ==== Sys2Proof/Machine/MacTx.lean ====
section
/-! DEFINITION. MacTx.lean: what an output starts, sends and ends: selection and fit (R178, R189 to R195), cut-through starts and
underruns (R78, R81), preemption (R83), priority flow control (R87, R88), low-power idle (R85, R86), P14 and P15 (R417). -/
namespace Sys2Proof.Machine

/-! ### PFC frames and network heartbeats that wait (R87, R88, R279) -/

/-- Bytes of the frame that the MAC originates next: a PFC frame, else a network heartbeat (R87, R297, Table 13.8). -/
def State.ownLen (s : State) (p : Nat) : Nat := if (s.mac p).pfcQ != [] then 64 else 70

/-- Until when the port's TC7 window holds a PFC frame back: it has to end before the next TC7 opening, or waits for the window's
end; a window without end holds nothing back (R88). -/
def State.pfcHeld (s : State) (p : Nat) : Bool :=
  let t := s.nowPs
  if s.gateOpen p 7 t then (s.windowClose p 7 t).isSome
  else match s.nextGate p 7 true t with
    | some o => (s.windowClose p 7 o).isSome && decide (o < t + wireBytes (s.ownLen p) * s.byteTime p)
    | none => false

/-- A PFC frame or a network heartbeat waits at a port that may send one (R87, R275, R279). -/
def State.pfcWaits (s : State) (p : Nat) : Bool :=
  decide (p < 14) && ((s.mac p).pfcQ != [] || (s.mac p).hbQ != []) && !s.shadowPort p

/-- PFC_REFRESH quanta of 512 bit times have passed since the committed start of the last PFC frame that carried the class (R87). -/
def State.refreshDue (s : State) (p c : Nat) : Bool :=
  match (s.mac p).pfcLast.find? fun x => x.1 == c with
  | some x => decide (x.2 + s.get (MAC.PFC_TIME_PFC_REFRESH p) * 64 * s.byteTime p ≤ s.nowPs)
  | none => true

/-- A PFC frame is repeated while XOFF persists (R87). -/
def State.pfcRefresh (s : State) (p c : Nat) : State :=
  let m := BitVec.ofNat 8 (2 ^ c)
  if !s.refreshDue p c ∨ s.get (MAC.PFC_STATE_TX_XOFF p) / 2 ^ c % 2 = 0 ∨ s.shadowPort p ∨ ((s.mac p).pfcQ.any fun q => q.mask &&& m != 0) then s
  else s.pfcQueue p m m

def execPfcRefreshExpiry (port : Fin 14) (tc : Fin 8) (s : State) : Host.Outcome State Fault Refusal := .next (s.pfcRefresh port tc)

/-- The MAC may start something now: released, link up, transmit enabled, awake, the previous span over (R9, R73, R76, R85). -/
def State.mayStart (s : State) (p : Nat) : Bool :=
  s.flowing && (s.mac p).tx.isNone && decide ((s.mac p).freeAt ≤ s.nowPs) && s.byteTime p != 0 &&
    (if p < 14 then s.linkUp p && s.bit (MAC.MAC_CFG_TX_EN p) && !s.bit (MAC.PORT_STATUS_LPI_TX p) else true)

/-- The octets of a PFC frame, without FCS (R87). -/
def State.pfcOctets (s : State) (p : Nat) (q : PfcOut) : Bytes :=
  let time := fun (c : Nat) => if q.xoff.getLsbD c && q.mask.getLsbD c then s.get (MAC.PFC_TIME_PFC_QUANTA p) else 0
  padTo 60 (toBE 6 0x0180C2000001 ++ toBE 2 (s.get (MAC.PORT_SA_HI_SA_HI p)) ++ toBE 4 (s.get (MAC.PORT_SA_LO_SA_LO p)) ++ toBE 2 0x8808
    ++ toBE 2 0x0101 ++ toBE 2 q.mask.toNat ++ (List.range 8).flatMap fun c => toBE 2 (time c))

/-- A waiting network heartbeat starts as a PFC frame does; one that starts for the first time is sent again after 2 us (R279, R297). -/
def State.hbSend (s : State) (p : Nat) : State :=
  match (s.mac p).hbQ with
  | [] => s
  | (n, again) :: rest =>
    if !s.mayStart p ∨ s.shadowPort p ∨ s.pfcHeld p then s else
    let words := if again = [] then s.twWords 4 1 (s.heartbeat n) else again
    let s := s.setMac p { s.mac p with hbQ := rest,
                                       tx := some { cid := none, start := s.nowPs, first := s.nowPs, data := twOctets words, bytes := 70, express := true, close := none } }
    if again = [] then ({ s with twp := { s.twp with resend := s.twp.resend ++ [(true, s.nowQ, words)] } }).seqUsed 4 else s

/-- A waiting PFC frame starts, ahead of every waiting frame (R88), and a network heartbeat behind it. -/
def State.pfcSend (s : State) (p : Nat) : State :=
  match (s.mac p).pfcQ with
  | [] => s.hbSend p
  | q :: rest =>
    if !s.mayStart p ∨ s.shadowPort p ∨ s.pfcHeld p then s else
    let d := s.pfcOctets p q
    let classes := (List.range 8).filter fun c => q.mask.getLsbD c
    s.setMac p { s.mac p with pfcQ := rest, pfcLast := classes.foldl (fun l c => assocSet l c s.nowPs) (s.mac p).pfcLast,
                              tx := some { cid := none, start := s.nowPs, first := s.nowPs, data := d, bytes := 64, express := true, close := none } }

def execPfcFrameSend (port : Fin 14) (s : State) : Host.Outcome State Fault Refusal := .next (s.pfcSend port)

/-! ### Which copies can start (R78, R176, R189) -/

/-- Turnstile has made the copy startable: every byte is there in order, its lane is full with its cells in order, or, cut through,
CT_CUR bytes are there. A stored UNVERIFIED copy, and every one on P15, waits for its result (R259). -/
def State.startable (s : State) (c : Copy) (f : Frame) : Bool :=
  let n := c.inOrder
  (if c.ct && c.out != 15 then true else f.verified) && (
    (f.tail && decide (c.cells ≤ n)) || decide (laneCells c.express ≤ n) || (c.ct && decide (s.ctCur c.out ≤ 64 * n)))

/-- The copy's class is sent as preemptable at its output; a continuation stays so. -/
def State.preemptable (s : State) (c : Copy) : Bool := s.pmt c.out c.tc || c.st == .preempted

/-- An earlier committed copy of the same input and class stands before it (R189, R191). -/
def State.behind (s : State) (c : Copy) : Bool :=
  s.copies.any fun d => d.out == c.out && d.inp == c.inp && d.tc == c.tc && (d.st == .committed || d.st == .preempted) && decide (d.grantNo < c.grantNo)

/-- The copies that output p can consider now: started ones apart, their class gate open and, when preemptable, no hold in force; the
continuation of a preempted frame is the only preemptable one, also when it has lost a cell and goes on to its first missing byte (R171);
while a PFC frame waits behind a TC7 window only TC7 copies start (R88, R189). On P14 the class's ring must hold a descriptor (R319). -/
def State.candidates (s : State) (p : Nat) : List Copy :=
  let t := s.nowPs
  let susp := (s.mac p).suspended.isSome
  s.copies.filter fun c =>
    c.out == p && !c.aside && ((c.st == .preempted && !c.endsNow) || (c.st == .committed && !c.lost && c.stomp.isNone && !s.behind c))
      && (c.st == .preempted || (s.frame? c.fid).any (s.startable c))
      && s.gateOpen p c.tc t && (!s.preemptable c || (!s.holdAt p t && (!susp || c.st == .preempted)))
      && (!s.pfcWaits p || c.tc == 7) && (p != 14 || s.ringReady c.tc)

/-- A copy goes before another (R189). -/
def State.before (s : State) (a b : Copy) : Bool :=
  let pa := s.preemptable a
  let pb := s.preemptable b
  if pa != pb then pb
  else if a.tc != b.tc then decide (b.tc < a.tc)
  else decide (a.grantNo < b.grantNo)

/-- The first candidate. -/
def State.firstOf (s : State) : List Copy → Option Copy
  | [] => none
  | a :: rest => match s.firstOf rest with
    | some b => if s.before b a then some b else some a
    | none => some a

/-- Bytes of a frame at an output: LENGTH and what its SecY adds. -/
def State.outLen (s : State) (p : Nat) (f : Frame) : Nat := f.len + s.expBytes p

/-- Wire bytes that the fit check counts (R190). -/
def State.wFit (s : State) (c : Copy) (f : Frame) : Nat :=
  if c.st = .preempted then wireBytes (min ((match (s.mac c.out).suspended with | some t => t.bytes | none => 0)) (s.fragMin c.out))
  else wireBytes (s.lFit c.out c.tc f.len c.oneStep)

/-- The fit check at a start now (R190). -/
def State.fitsNow (s : State) (c : Copy) (f : Frame) : Bool :=
  match s.fitClose c.out c.tc s.nowPs with
  | some cl => decide (s.nowPs + s.wFit c f * s.byteTime c.out ≤ cl)
  | none => true

/-- From SWAP_ARM on, the active starts a copy on a paired port only if the whole of it ends by T (R294). -/
def State.endsByT (s : State) (c : Copy) (f : Frame) : Bool :=
  match s.twp.swap with
  | some w =>
    if w.mine && s.pairedPort c.out then
      let n := match (s.mac c.out).suspended with | some t => if c.st = .preempted then t.bytes else s.outLen c.out f | none => s.outLen c.out f
      decide (s.nowPs + wireBytes n * s.byteTime c.out ≤ w.t * 250)
    else true
  | none => true

/-- A copy that fails the fit check is set aside (R191). -/
def State.setAside (s : State) (c : Copy) : State :=
  (((s.putCopy { c with aside := true }).asideStatus c.out).bump (LKP.WINDOW_MISS_TC c.out c.tc)).raise LKP.LKP_EVENT_WINDOW_MISS

/-! ### Starting (R42, R178, R251, R275) -/

/-- The egress timestamp of a committed start: the first bit after the SFD, 8 byte times later, at the MDI; on P14 and P15 the
committed start (R31, R32, R200). Quarter nanoseconds. -/
def State.txStamp (s : State) (p start : Nat) : Nat :=
  if 14 ≤ p then start / 250
  else (start + 8 * s.byteTime p) / 250 + ((s.rd (TIM.INT_TX_LAT p)).toNat + (s.rd (TIM.PHY_TX_LAT p)).toNat) / 16384

/-- The one-step engine on a copy's octets at its egress tick (R41, R42): it acts when the octets up to the header's end have come.
Answers the octets, and what it has still to act with. -/
def State.engine (s : State) (c : Copy) (f : Frame) (d : Bytes) (start : Nat) : Bytes × Option Egress × State :=
  match f.parse.ptpOff with
  | some h =>
    if !c.oneStep ∨ 14 ≤ c.out ∨ !s.bit (TIM.PORT_TS_CFG_PTP_EN c.out) then (d, none, s)
    else
      let e := s.egress c.out f.inPort (s.txStamp c.out start)
      if !f.tail ∧ [h + 34, h + 44].any (fun n => decide (d.length < n) && decide (n ≤ f.len - 4)) then (d, some e, s)
      else let x := s.engineAct c f d e; (x.1, none, x.2)
  | none => (d, none, s)

/-- A selected copy on a paired port whose unit does not drive: its span runs as though it were sent, its SecY spends the PN, and it
is parked (R195, R275). -/
def State.shadowSend (s : State) (c : Copy) (f : Frame) (close : Option Nat) : State :=
  let x := s.secOut c.out f.data f.len
  match x.1 with
  | .gone => x.2.copyGone c
  | _ =>
    let n := s.outLen c.out f
    let t : Tx := { cid := some c.cid, start := s.nowPs, first := s.nowPs, data := [], bytes := n, express := !s.preemptable c, close := close,
                    shadow := some (c.tc, s.canPreempt c.out c.tc n c.oneStep) }
    (x.2.setMac c.out { x.2.mac c.out with tx := some t }).putCopy { c with st := .parked }

/-- A copy's transmission begins at the present tick; on P14 the ring of its class takes it with the descriptor `desc`. -/
def State.txBegin (s : State) (c : Copy) (f : Frame) (desc : BitVec 128) : State :=
  let now := s.nowPs
  let close := s.fitClose c.out c.tc now
  if s.shadowPort c.out then s.shadowSend c f close else
  match c.st, (s.mac c.out).suspended with
  | .preempted, some t =>
    (s.setMac c.out { s.mac c.out with suspended := none, tx := some { t with start := now, close := close } }).putCopy { c with st := .sending }
  | _, _ =>
    let (d, late, s) := s.engine c f f.data now
    let x := s.secOut c.out d f.len
    match x.1 with
    | .gone => x.2.copyGone c
    | o =>
      let sec := match o with | .sec y => some y | _ => none
      let bytes := f.len + (match sec with | some _ => s.expBytes c.out | none => 0)
      let t : Tx := { cid := some c.cid, start := now, first := now, data := d, bytes := bytes, express := !s.preemptable c, close := close, sec := sec, late := late }
      let s := (x.2.setMac c.out { x.2.mac c.out with tx := some t }).putCopy { c with st := .sending }
      if c.out = 14 then s.rxBegin c.tc f.fid desc else s

/-- The gateway engine takes a P15 copy that is whole and good (R219). -/
def State.gwTake (s : State) (p : Nat) : State :=
  match (s.mac p).tx with
  | some t =>
    match t.cid.bind s.copy? with
    | some c =>
      match s.frame? c.fid with
      | some f => if p = 15 ∧ f.tail ∧ c.stomp = none ∧ c.cells ≤ c.inOrder ∧ s.gwe.hand = none then s.gwCopy f (t.octets f true) else s
      | none => s
    | none => s
  | none => s

/-- A preempted shadow span left from before the unit drove is dropped. -/
def State.shadowDrop (s : State) (p : Nat) : State :=
  if !s.shadowPort p && (s.mac p).suspended.any fun (t : Tx) => t.shadow.isSome then s.setMac p { s.mac p with suspended := none } else s

/-- The rest of a preempted shadow span starts, when its class's window is open, no hold is in force and it fits; one that does not fit
is set aside with its copy (R189 to R192, R195). -/
def State.shadowResume (s : State) (p : Nat) : State :=
  match (s.mac p).suspended with
  | none => s
  | some t =>
    match t.shadow with
    | none => s
    | some (tc, _) =>
      let c := t.cid.bind s.copy?
      let close := s.fitClose p tc s.nowPs
      let w := wireBytes (min t.bytes (s.fragMin p)) * s.byteTime p
      if c.any Copy.aside ∨ !s.gateOpen p tc s.nowPs ∨ s.holdAt p s.nowPs then s
      else if close.any fun cl => decide (cl < s.nowPs + w) then (match c with | some c => s.setAside c | none => s)
      else s.setMac p { s.mac p with suspended := none, tx := some { t with start := s.nowPs, close := close } }

/-- BUF_SIZE of a receive descriptor (Table 15.3). -/
def bufSize (desc : BitVec 128) : Nat := bitsOf ((desc >>> 64).setWidth 32) 13 0

/-- Bytes that a copy of a frame leaves with: LENGTH, and what the SecY of its output adds unless it passes in clear (R247, R248,
R319). -/
def State.sentLen (s : State) (p : Nat) (f : Frame) : Nat := if s.outBypass p f.data then f.len else s.outLen p f

/-- Selection: the first candidate that passes the fit check starts; those before it are set aside. On P14 a copy longer than the buffer of
`desc`, the descriptor at HEAD of its class's ring, is discarded (R189, R191, R319). -/
def State.select (s : State) (p : Nat) (desc : BitVec 128) : Nat → State
  | 0 => s
  | n + 1 =>
    match s.firstOf ((s.candidates p).filter fun c => (s.frame? c.fid).any (s.endsByT c)) with
    | none => s.shadowResume p
    | some c =>
      match s.frame? c.fid with
      | none => s
      | some f =>
        if !s.fitsNow c f then (s.setAside c).select p desc n
        else if p = 14 ∧ bufSize desc < s.sentLen p f then ((s.bump BRG.RX_TOO_BIG).copyGone c).select p desc n
        else s.txBegin c f desc

/-- The fence of a takeover stands: 2 s, the longest age of a frame, have not passed since (R14, R281; DEDUCED, assumption 146). -/
def State.fenceAt (s : State) : Option Nat :=
  match s.twp.fence with
  | some (t, tick) => if s.tim.ticks < tick + 1000000000 then some t else none
  | none => none

/-- Copies that reach selection with an ingress timestamp before the fence are flushed (R281). -/
def State.fenceSelect (s : State) (p : Nat) : State :=
  match s.fenceAt with
  | some t => if s.pairedPort p then
      s.each (s.copies.filter fun c => c.out == p && c.st == .committed && (s.frame? c.fid).any fun f => s.startable c f && s.fenced f t) fun s c =>
        (s.copyGone c).bump (TWP.FLUSH_TC c.tc)
    else s
  | none => s

/-- TX_START (R189). A waiting PFC frame that its TC7 window does not hold back goes first; the new active waits for END (R88,
R294). -/
def State.txStart (s : State) (p : Nat) (desc : BitVec 128) : State :=
  if !s.mayStart p ∨ s.awaitsEnd p ∨ (p = 15 ∧ s.gwe.hand ≠ none) ∨ (s.pfcWaits p ∧ !s.pfcHeld p) then s
  else
    let s := (s.shadowDrop p).fenceSelect p
    (s.select p desc (s.copies.length + 1)).gwTake p

def execTxStart (port : Fin 16) (desc : BitVec 128) (s : State) : Host.Outcome State Fault Refusal := .next (s.txStart port desc)

/-! ### Ending (R154, R200, R320) -/

/-- A PFC frame or a network heartbeat ends (R87, R279). -/
def State.pfcEnd (s : State) (p : Nat) (t : Tx) : State :=
  if s.nowPs < t.start + (8 + t.bytes) * s.byteTime p then s else
  let times := (List.range 8).map fun c => be16 t.data (18 + 2 * c)
  let s := s.setMac p { s.mac p with tx := none, freeAt := t.start + wireBytes t.bytes * s.byteTime p }
  if be16 t.data 12 = 0x8808 then (s.emit (.pfc p (be16 t.data 16) times)).bump (MAC.TX_PFC p)
  else ((s.emit (.frame p t.data false false)).bump (MAC.TX_FRAMES_OK p)).bumpBy (MAC.TX_BYTES_OK p) t.bytes

/-- The read of the buffer's owner record at the release (R159). -/
def State.recordRead (s : State) (c : Copy) (e : EccState) : State :=
  match e with
  | .ok => s
  | .corrected => s.bump BSN.PKT_ECC_CORR_CNT
  | .uncorrectable => s.withdraw c.fid (some c.cid)

/-- A copy has left: counted at its class, its delay measured, a frame past its close counted, its output released with a note
(Table 9.8, R192, R200, R289). -/
def State.txDone (s : State) (c : Copy) (f : Frame) (t : Tx) (span : Nat) (e : EccState) : State :=
  let p := c.out
  let b := s.byteTime p
  let s := (s.bump (LKP.TX_FRAMES_TC p c.tc)).monDelay p c.tc (s.txStamp p t.first) f.ts
  let s := match t.close with | some cl => if cl < t.start + wireBytes span * b then s.bump (LKP.CLOSE_OVERRUN_CNT p) else s | none => s
  let s := s.setMac p { s.mac p with tx := none, freeAt := t.start + wireBytes span * b }
  ((s.recordRead c e).copyLeaves c 0).sendEnd p

/-- A shadow span ends (R195): as a frame's own span does, but nothing has left. -/
def State.shadowEnd (s : State) (p : Nat) (t : Tx) : State :=
  if s.nowPs < t.start + (8 + t.bytes) * s.byteTime p then s else
  let e := t.start + wireBytes t.bytes * s.byteTime p
  let s := if t.close.any fun cl => decide (cl < e) then s.bump (LKP.CLOSE_OVERRUN_CNT p) else s
  s.setMac p { s.mac p with tx := none, freeAt := e }

/-- The transmission of a copy ends: every byte has come, the result of an UNVERIFIED frame is known, and its last byte has gone
out. On P15 the copy stays until the gateway engine is through with it. -/
def State.copyEnd (s : State) (p : Nat) (t : Tx) (c : Copy) (f : Frame) (e : EccState) : State :=
  let span := s.outLen p f - c.sent
  let span := match t.sec with | some _ => span | none => f.len - c.sent
  if !f.tail ∨ !f.verified ∨ c.inOrder < c.cells ∨ c.stomp.isSome ∨ s.nowPs < t.start + (8 + span) * s.byteTime p then s else
  let x := s.engineLate c f t
  let s := x.2
  let t := x.1
  let d := t.octets f true
  if p < 14 then
    let s := (s.emit (.frame p (d.drop c.sent) false false t.frag)).bump (MAC.TX_FRAMES_OK p)
    (s.bumpBy (MAC.TX_BYTES_OK p) (d.length + 4)).txDone c f t span e
  else if p = 14 then (s.rxBack c.tc f d false).txDone c f t span e
  else
    let s := if s.gwe.hand = none then s.gwCopy f d else s
    if s.gwDone c.fid then s.gwLeave.txDone c f t span e else s

/-- TX_END (R154). -/
def State.txEnd (s : State) (p : Nat) (e : EccState) : State :=
  if s.stalled then s else
  match (s.mac p).tx with
  | none => s
  | some t =>
    if t.shadow.isSome then s.shadowEnd p t else
    match t.cid with
    | none => s.pfcEnd p t
    | some cid =>
      match s.copy? cid with
      | none => s
      | some c => match s.frame? c.fid with
        | none => s
        | some f => s.copyEnd p t c f e

def execTxEnd (port : Fin 16) (record : EccState) (s : State) : Host.Outcome State Fault Refusal := .next (s.txEnd port record).endStomped

/-! ### Underrun (R81, R171, R176) -/

/-- The byte after those present in order is needed, 96 ns ahead of its place on the wire, and absent. P14 waits for the bytes of an
UNVERIFIED copy (R259). -/
def State.ranDry (s : State) (p : Nat) (t : Tx) (c : Copy) (f : Frame) : Bool :=
  decide (c.inOrder < c.cells) && decide (t.start + (8 + (t.present c - c.sent)) * s.byteTime p ≤ s.nowPs + 96000)
    && !(p == 14 && f.unverified && !c.lost)

/-- UNDERRUN (R81): the copy ends with cause UNDERRUN, or with a stricter cause known before. -/
def State.underrun (s : State) (p : Nat) : State :=
  match (s.mac p).tx with
  | none => s
  | some t =>
    match t.cid.bind s.copy? with
    | none => s
    | some c => match s.frame? c.fid with
      | none => s
      | some f =>
        if s.stalled ∨ c.st ≠ .sending ∨ !s.ranDry p t c f then s
        else s.stompEnd { c with stomp := some (Stomp.first c.stomp .underrun) } (some (t.present c)) (!c.lost)

def execUnderrun (port : Fin 16) (s : State) : Host.Outcome State Fault Refusal := .next (s.underrun port)

/-! ### Preemption (R83, R192 to R194) -/

/-- Why the frame in progress is preempted: by a hold or its class's close (true), or for an express frame or a PFC frame. -/
def State.preemptFor (s : State) (p tc : Nat) : Option (Option Bool) :=
  if s.holdAt p s.nowPs || !s.gateOpen p tc s.nowPs then some (some true)
  else if (s.candidates p).any fun k => !s.preemptable k then some (some false)
  else if s.pfcWaits p && !s.pfcHeld p then some none
  else none

/-- Octets of the fragment in progress that end at the byte on the wire (R192). -/
def State.fragBytes (s : State) (p : Nat) (t : Tx) : Nat :=
  let b := max 1 (s.byteTime p)
  (s.nowPs - t.start + b - 1) / b - 8

/-- R83 lets the fragment in progress end after n octets. -/
def State.cutPoint (s : State) (p : Nat) (t : Tx) (n : Nat) : Bool :=
  s.flowing && !t.express && s.pmtActive p && decide (s.fragMin p ≤ n + 4) && decide (n + 64 ≤ t.bytes)

/-- The fragment in progress ends after n octets, with its mCRC and the IFG; what is left waits (R83, R192, R194). -/
def State.fragEnd (s : State) (p : Nat) (t : Tx) (n : Nat) (why : Option Bool) : State :=
  let s := match why with
    | some true => s.bump (LKP.HOLD_PREEMPT_CNT p)
    | some false => s.bump (LKP.EXPRESS_PREEMPT_CNT p)
    | none => s
  let next := match t.frag with | some k => (k + 1) % 4 | none => 0
  s.setMac p { s.mac p with tx := none, suspended := some { t with bytes := t.bytes - n, frag := some next },
                            freeAt := t.start + (24 + n) * s.byteTime p }

/-- PREEMPTION: the fragment ends at a point that R83 allows. -/
def State.preempt (s : State) (p : Nat) : State :=
  match (s.mac p).tx with
  | none => s
  | some t =>
    let n := s.fragBytes p t
    if !s.cutPoint p t n then s else
    match t.shadow with
    | some (tc, can) => match s.preemptFor p tc with
      | some why => if can then s.fragEnd p t n why else s
      | none => s
    | none =>
      match t.cid.bind s.copy? with
      | none => s
      | some c =>
        match s.preemptFor p c.tc, s.frame? c.fid with
        | some why, some f =>
          if c.stomp.isSome ∨ !s.canPreempt p c.tc (c.sent + t.bytes) c.oneStep then s else
          let s := (s.bump (MAC.TX_FRAG p)).emit (.frame p (((t.octets f false).drop c.sent).take n) false false t.frag)
          (s.fragEnd p t n why).putCopy { c with st := .preempted, sent := c.sent + n }
        | _, _ => s

def execPreemption (port : Fin 14) (s : State) : Host.Outcome State Fault Refusal := .next (s.preempt port)

/-! ### Low-power idle (R85, R86) -/

/-- The port has an eligible frame: a PFC frame, a committed copy, or a head that the published record lets start. -/
def State.portEligible (s : State) (p : Nat) : Bool :=
  s.pfcWaits p || (s.copies.any fun c => c.out == p && s.inBacklog c) || s.eligibleHeads p != []

/-- The next TC7 or TC6 window opens less than a time ahead (R86, R195). -/
def State.opensBefore (s : State) (p ahead : Nat) : Bool :=
  [6, 7].any fun c => (s.nextOpening p c s.nowPs).any fun o => decide (o < s.nowPs + ahead)

/-- A tick with LPI_EN set and an eligible frame: LPI_IDLE counts from there (R85). -/
def State.eligTick (s : State) (p : Nat) : State :=
  if s.bit (MAC.EEE_CFG_LPI_EN p) && s.portEligible p then s.setMac p { s.mac p with eligAt := s.nowPs } else s

/-- LPI_ENTER: after LPI_IDLE since the last span without an eligible frame, unless a TC7 or TC6 window opens too soon (R85, R86). -/
def State.lpiEnter (s : State) (p : Nat) : State :=
  let idle := max 1 (s.get (MAC.EEE_CFG_LPI_IDLE p)) * 1000000
  if !s.bit (MAC.EEE_CFG_LPI_EN p) ∨ s.macMode p = 6 ∨ !s.mayStart p ∨ s.portEligible p ∨ s.nowPs < max (s.mac p).freeAt (s.mac p).eligAt + idle
      ∨ (s.bit (MAC.EEE_CFG_GATE_WAKE p) ∧ s.opensBefore p (idle + s.twSys p)) then s
  else ((s.setMac p { s.mac p with lpiTxAt := s.nowPs }).setBit (MAC.PORT_STATUS_LPI_TX p) true).bump (MAC.LPI_TX_ENTRY p)

def execLpiEnter (port : Fin 14) (s : State) : Host.Outcome State Fault Refusal := .next (s.lpiEnter port)

/-- LPI_EXIT: for an eligible frame, or ahead of a TC7 or TC6 window; a frame starts TW_SYS_TX after the exit begins. -/
def State.lpiExit (s : State) (p : Nat) : State :=
  if s.stalled ∨ !s.bit (MAC.PORT_STATUS_LPI_TX p) ∨ !(s.portEligible p || !s.bit (MAC.EEE_CFG_LPI_EN p)
      || (s.bit (MAC.EEE_CFG_GATE_WAKE p) && s.opensBefore p (s.twSys p + 1))) then s
  else
    let s := s.lpiTxEnd p
    s.setMac p { s.mac p with freeAt := s.nowPs + s.twSys p }

def execLpiExit (port : Fin 14) (s : State) : Host.Outcome State Fault Refusal := .next (s.lpiExit port)

end Sys2Proof.Machine
end

