-- ==== Sys2Proof/Machine/RegStore.lean ====
section
/-! DEFINITION. RegStore.lean: what a write of a register of access RW, RWL, RWS or W1C does, register by register: the effects that
the chapters give such a write beyond storing its fields. The loader's REG records (R340) and every bus write go through it. -/
namespace Sys2Proof.Machine

/-! ### Writes with effects of their own, chapters 18 and 19 -/

/-- A write of GRP_MEMBERS: GRP_BUSY while the group is not awake, GRP_CONFLICT when a channel or port is in another group (R377). -/
def State.grpWrite (s : State) (g : Nat) (w : Word) : State :=
  if s.get (WAK.GRP_STATUS_STATE g) ≠ 0 then s.raise WAK.WAK_EVENT_GRP_BUSY
  else if (List.range 8).any fun k => k != g && s.grpMembers k &&& w &&& 0x3FFFFFFF != 0 then s.raise WAK.WAK_EVENT_GRP_CONFLICT
  else s.plainWrite (WAK.GRP_MEMBERS g) w

/-- Vectors whose pending state has risen send their messages (R387). -/
def State.newVectors (s : State) (had : List Nat) : State :=
  s.each (List.range 32) fun s v => if s.vecPend v && !had.contains v then s.sendVector v else s

/-- A write of FLT_SRC_CFG: CLASS of sources 20, 23 and 24 is fixed; after release only the security pair writes the fields of
sources 12 and 25, and any other such write is itself recorded (R386, R387). -/
def State.srcCfgWrite (s : State) (ini : Initiator) (loader : Bool) (src : Nat) (w : Word) : State :=
  if (src = 12 ∨ src = 25) ∧ s.released ∧ ini ≠ .sec ∧ !loader then s.violation else
  let had := (List.range 32).filter s.vecPend
  let s := s.plainWrite (FLT.FLT_SRC_CFG_CLASS src).addr w (if src = 20 ∨ src = 23 ∨ src = 24 then maskBits 31 30 else 0)
  let s := (s.newVectors had).fltLevels
  if s.pend src ∧ s.classOf src = 3 then s.isolateClaim else s

/-! ### The write -/

/-- Effects in TIM (R27, R37 to R40). -/
def State.timStore (s : State) (a : Nat) (w : Word) : State :=
  if a = TIM.TIM_CTRL_STEP_EN.addr then (s.plainWrite a w).timSelect
  else if a = TIM.WT_INCR_FRAC then s.wtFrac w
  else if a = TIM.WT_INCR_NS then s.wtIncr w
  else if a = TIM.DOM_CFG 0 then s.domCfgWrite 0 w
  else if a = TIM.DOM_CFG 1 then s.domCfgWrite 1 w
  else s.plainWrite a w

/-- Effects in TIO (R51, R64, R66). -/
def State.tioStore (s : State) (a : Nat) (w : Word) : State :=
  let p := (a % 0x100000 - 0x100) / 0x80
  if a = TIO.MK_CTRL then s.mkCtrlWrite w
  else if a = TIO.PIN_CFG p then s.pinCfgWrite p w
  else if a = (TIO.EVT_CFG_EVT_MAX p).addr then (s.plainWrite a w).evtFull p
  else s.plainWrite a w

/-- Effects in MAC (R70, R78, R82). -/
def State.macStore (s : State) (a : Nat) (w : Word) : State :=
  let p := a % 0x100000 / 0x1000
  if a = MAC.PCS_CFG p then s.pcsCfg p w
  else if a = MAC.CT_THRESH p then s.ctThresh p w
  else if a = (MAC.PFC_CFG_PFC_TX_MASK p).addr then (s.plainWrite a w).xoffAll p
  else if a = (MAC.PREEMPT_CFG_ADD_FRAG p).addr then (s.plainWrite a w).pmtCfg p (s.rd a)
  else s.plainWrite a w

/-- Effects in LKP (R183). -/
def State.lkpStore (s : State) (a : Nat) (w : Word) : State :=
  let off := a % 0x100000
  if 0x1000 ≤ off ∧ off < 0x2000 ∧ off % 0x100 ≤ 0x10 then s.adminWrite ((off - 0x1000) / 0x100) a w else s.plainWrite a w

/-- Effects in CAN (R203, R204). -/
def State.canStore (s : State) (a : Nat) (w : Word) : State :=
  let c := (a % 0x100000 - 0x1000) / 0x100
  if a = (CAN.CH_CTRL_MODE c).addr then s.canCtrl c w false
  else if a = (CAN.NBT_NBRP c).addr ∨ a = (CAN.DBT_DBRP c).addr then
    (if s.canCfg c ≠ 0 then s.raise (CAN.CH_EVENT_CFG_LOCKED c) else s.plainWrite a w)
  else s.plainWrite a w

/-- Effects in CPH (R245, R266). -/
def State.cphStore (s : State) (a : Nat) (w : Word) : State :=
  let off := a % 0x100000
  let c := (off - 0x800) / 16
  if 0x1000 ≤ off ∧ off < 0x1400 ∧ a = (CPH.PORT_SEC_CFG_SECURED ((off - 0x1000) / 64)).addr then s.secCfgWrite ((off - 0x1000) / 64) w
  else if c < 16 ∧ a = CPH.LA_CTR_LO c then s.laCtrLo c w
  else if c < 16 ∧ a = CPH.LA_CTR_HI c then s.laCtrHi c w
  else s.plainWrite a w

/-- Effects in CPU: SEC_RESTART is a field of the security pair and of the loader, so that any other write of LS_CFG has no effect on it and
is recorded (R398, assumption 110); MTIMECMP applies at its high word. -/
def State.cpuStore (s : State) (ini : Initiator) (loader : Bool) (a : Nat) (w : Word) : State :=
  let h := (a % 0x100000 - 0x40) / 8
  if a = CPU.LS_CFG_SEC_RESTART.addr then
    if ini = .sec ∨ loader then s.plainWrite a w
    else (s.plainWrite a ((w &&& ~~~(2 : Word)) ||| (s.rd a &&& 2)) 2).violation
  else if a = CPU.RESTART_VEC_CTRL ∨ a = CPU.RESTART_VEC_SEC then s.plainWrite a (w &&& 0xFFFFFFFC)
  else if h < 3 ∧ a = CPU.MTIMECMP_HI h then s.mtimecmpHi h w
  else s.plainWrite a w

/-- Effects in BRG (R318, R319). -/
def State.brgStore (s : State) (a : Nat) (w : Word) : State :=
  let off := a % 0x100000
  let d := (off - 0x1000) / 0x200
  let r := (off - 0x1000) % 0x200 / 0x40
  if a = BRG.RING_TAIL d r then s.tailWrite (d == 1) r w
  else if a = BRG.RING_CTRL d r then s.ringCtrl (d == 1) r w
  else s.plainWrite a w

/-- Effects in the remaining blocks; bits 14 and 15 of DROP_CAP ignore writes (Table 7.3). -/
def State.restStore (s : State) (ini : Initiator) (loader : Bool) (a : Nat) (w : Word) : State :=
  if a = SYS.FW_ENTRY_CTRL ∨ a = SYS.FW_ENTRY_SEC then s.plainWrite a (w &&& 0xFFFFFFFC)
  else if a = BSN.BSN_CTRL then s.plainWrite a (w ||| 0xC000)
  else if a / 0x100000 = 6 ∧ a % 0x100000 < 0x2000 ∧ a = (BSN.PFC_TH_XOFF_TH ((a % 0x100000 - 0x1024) / 0x100)).addr then
    (s.plainWrite a w).xoffAll ((a % 0x100000 - 0x1024) / 0x100)
  else if a = BSN.BUF_SEL then s.bufSel w
  else if a = BSN.VOQ_SEL then s.voqSel w
  else if a = CRS.PTR_SEL then s.ptrSel w
  else if a = CRS.TS_SEL then s.tsSel w
  else if a / 0x100000 = 17 ∧ a % 0x100000 < 0x700 ∧ a = WAK.GRP_MEMBERS ((a % 0x100000 - 0x600) / 0x20) then s.grpWrite ((a % 0x100000 - 0x600) / 0x20) w
  else if a / 0x100000 = 19 ∧ 0x100 ≤ a % 0x100000 ∧ a % 0x100000 < 0x180 then s.srcCfgWrite ini loader ((a % 0x100000 - 0x100) / 4) w
  else s.plainWrite a w

/-- The EVENT register that an address is, or whose EVENT_EN register it is. -/
def eventAt (a : Nat) : Option Nat :=
  (eventRegs (sourceOf a)).find? (fun e => e == a || e + 4 == a) |>.or
    (if a = BRG.RING_EVENT_EN then some BRG.RING_EVENT else none)

/-- A write of an EVENT register: W1C bits clear; the source follows (R385). Clearing WOKE releases the wake records (R381), and
clearing PLANE_A_DOWN or PLANE_B_DOWN releases CMP_INFO (Table 8.5). -/
def State.eventStore (s : State) (a : Nat) (w : Word) : State :=
  let s := s.plainWrite a w
  let s := if a = WAK.WAK_EVENT ∧ bitsOf w 0 0 = 1 then
    (((s.wr WAK.WAKE_SRC 0).wr WAK.WAKE_ID 0).wr WAK.WAKE_AO 0).wr WAK.WAKE_ALL 0 else s
  let s := if a = CRS.CRS_EVENT ∧ bitsOf w 1 0 ≠ 0 then { s with crs := { s.crs with cmpHeld := false } } else s
  s.afterEvent a

/-- A write that reaches a register of access RW, RWL, RWS or W1C. -/
def State.regStore (s : State) (ini : Initiator) (loader : Bool) (a : Nat) (w : Word) : State :=
  match eventAt a with
  | some e => if e = a then (if a = BRG.RING_EVENT then s.ringClear w else s.eventStore a w) else (s.plainWrite a w).afterEvent e
  | none =>
    match a / 0x100000 with
    | 1 => s.timStore a w | 2 => s.tioStore a w | 3 => s.macStore a w | 8 => s.lkpStore a w | 9 => s.canStore a w
    | 11 => s.cphStore a w | 14 => s.cpuStore ini loader a w | 15 => s.brgStore a w
    | _ => s.restStore ini loader a w

end Sys2Proof.Machine
end

