-- ==== Sys2Proof/Machine/Flt.lean ====
section
/-! DEFINITION. Flt.lean: what software does to the fault collector, and the loss and return of clocks (R23, chapter 19). -/
namespace Sys2Proof.Machine

/-! ### Clocks (R23, R384) -/

/-- A direct source whose condition holds until further notice. -/
def State.cond (s : State) (src : Nat) : State := ({ s with fltCond := s.fltCond ||| word (2 ^ src) }).direct src
def State.uncond (s : State) (src : Nat) : State := { s with fltCond := s.fltCond &&& ~~~(word (2 ^ src)) }

/-- The lock bit of PLL n. -/
def pllBit (n : Nat) : Fld := if n = 0 then SYS.SYS_STATUS_PLL0_LOCK else if n = 1 then SYS.SYS_STATUS_PLL1_LOCK else SYS.SYS_STATUS_PLL2_LOCK

/-- The PLLs are stopped and REFCLK_SYS may be removed: in SLEEP, and until a warm wake has locked them (R369, R382, R406). -/
def State.clocksOff (s : State) : Bool := s.wak.power == .sleep || (s.wak.power == .waking && !s.wak.clocks)

/-- PLL n has lost lock: source 20, 21 or 22. -/
def State.pllLoss (s : State) (n : Nat) : State := (s.setBit (pllBit n) false).cond (20 + n)

/-- A change of the clocks acts while they are to run. -/
def State.clockChange (s : State) (f : State → State) : State := if s.clocksOff then s else f s

def execPll0Loss (s : State) : Host.Outcome State Fault Refusal := .next (s.clockChange fun s => s.pllLoss 0)
def execPll1Loss (s : State) : Host.Outcome State Fault Refusal := .next (s.clockChange fun s => s.pllLoss 1)
def execPll2Loss (s : State) : Host.Outcome State Fault Refusal := .next (s.clockChange fun s => s.pllLoss 2)

/-- REFCLK_SYS is lost: source 23, and treated as loss of lock on all three PLLs. -/
def State.refclkLoss (s : State) : State :=
  ((((s.setBit SYS.SYS_STATUS_REFCLK_OK false).pllLoss 0).pllLoss 1).pllLoss 2).cond 23

def execRefclkLoss (s : State) : Host.Outcome State Fault Refusal := .next (s.clockChange State.refclkLoss)

/-- PLL n has locked again. -/
def State.pllRegained (s : State) (n : Nat) : State := (s.setBit (pllBit n) true).uncond (20 + n)

def execPllLockRegained (pll : Fin 3) (s : State) : Host.Outcome State Fault Refusal := .next (s.clockChange fun s => s.pllRegained pll)

/-- REFCLK_SYS is back. -/
def State.refclkBack (s : State) : State := (s.setBit SYS.SYS_STATUS_REFCLK_OK true).uncond 23

def execRefclkRestored (s : State) : Host.Outcome State Fault Refusal := .next (s.clockChange State.refclkBack)

/-! ### The log and the first-fault record (R388) -/

/-- Word w of the head entry; zero when the log is empty. The read of FLT_LOG2 removes it. -/
def State.logWord (s : State) (w : Nat) : Word := (s.fltLog.headD []).getD w 0
def State.logPop (s : State) : Word × State := (s.logWord 2, { s with fltLog := s.fltLog.tail })

def execFltLogRead (ini : Initiator) (s : State) : Host.Outcome State Fault Refusal := .next (s.readAt ini (FLT.FLT_LOG 2) fun s => s.logPop)

/-- FIRST_CLR empties the record and arms it. -/
def State.firstClr (s : State) : State := ((s.wr FLT.FLT_FIRST_VALID.addr 0).wr FLT.FIRST_NS 0).wr FLT.FIRST_SEC 0

def execFirstClr (ini : Initiator) (s : State) : Host.Outcome State Fault Refusal :=
  .next (s.writeAt ini FLT.FLT_FIRST_VALID.addr fun s => s.firstClr)

/-- A write of FLT_DIRECT clears latches; a source whose condition still holds latches again in the next clock (R384). -/
def State.directClear (s : State) (w : Word) : State :=
  let s := s.plainWrite FLT.FLT_DIRECT w
  s.each [20, 21, 22, 23, 24, 25, 26, 27] fun s c => s.refreshSource c

def execFltDirectClear (ini : Initiator) (value : Word) (s : State) : Host.Outcome State Fault Refusal :=
  .next (s.writeAt ini FLT.FLT_DIRECT fun s => s.directClear value)

end Sys2Proof.Machine
end

