-- ==== Sys2Proof/Machine/Image.lean ====
section
/-! DEFINITION. Image.lean: the flash, the bank-state record (R358 to R360), and the configuration image: header, signature block and
records, with every check that needs nothing loaded (R334 to R341). -/
namespace Sys2Proof.Machine

/-! ### The flash (R334) -/

def State.flashByte (s : State) (a : Nat) : Byte := Sparse.get (fun _ => 0xFF) s.boot.flash a
def State.setFlash (s : State) (a : Nat) (b : Byte) : State :=
  { s with boot := { s.boot with flash := Sparse.set (fun _ => 0xFF) s.boot.flash a b } }

/-- Programs bytes from an address on. -/
def State.flashStore (s : State) (a : Nat) : Bytes → State
  | [] => s
  | b :: rest => State.flashStore (s.setFlash a b) (a + 1) rest

/-- Erases n bytes from an address on. -/
def State.flashErase (s : State) (a n : Nat) : State :=
  { s with boot := { s.boot with flash := s.boot.flash.filter fun x => !(decide (a ≤ x.1) && decide (x.1 < a + n)) } }

/-- What a flash operation that failed, or that was cut off, leaves: a free value in each byte (assumption 3). -/
def State.flashOpen (s : State) (a n : Nat) : State :=
  s.each (List.range n) fun s k => let x := s.draw; x.2.setFlash (a + k) (x.1.setWidth 8)

/-- Base of a bank. -/
def State.bankBase (s : State) (b : Nat) : Nat := 0x100000 + b * s.boot.bankSize

/-- Byte k of an image, n bytes of it, and the little-endian word at byte k. -/
def State.imgByte (s : State) (src : ImgSrc) (k : Nat) : Byte :=
  match src with
  | .bank b => s.flashByte (s.bankBase b + k)
  | .host => s.boot.host.getD k 0
def State.imgBytes (s : State) (src : ImgSrc) (k n : Nat) : Bytes := (List.range n).map fun i => s.imgByte src (k + i)
def leWord (d : Bytes) : Word := word (byteAt d 0 + byteAt d 1 * 256 + byteAt d 2 * 65536 + byteAt d 3 * 16777216)
def State.imgWord (s : State) (src : ImgSrc) (k : Nat) : Word := leWord (s.imgBytes src k 4)

/-- Bytes of words, the least significant first. -/
def leBytes (ws : List Word) : Bytes := ws.flatMap fun w => (toBE 4 w.toNat).reverse

/-- CRC-32C with the initial value of the image's checks (R336). -/
def imgCrc (d : Bytes) : Word := word (crc32c 0xFFFFFFFF d)

/-! ### The bank-state record (R358 to R360) -/

def BankRec.named (r : BankRec) : Nat := bitsOf r.word2 0 0
def BankRec.trial (r : BankRec) : Bool := bitsOf r.word2 1 1 == 1
def BankRec.tries (r : BankRec) : Nat := bitsOf r.word2 3 2
/-- STATE of a bank: 0 EMPTY, 1 INCOMPLETE, 2 VERIFIED, 3 TRIAL, 4 CONFIRMED, 5 REJECTED. -/
def BankRec.state (r : BankRec) (b : Nat) : Nat := if b = 0 then bitsOf r.word2 7 4 else bitsOf r.word2 11 8
def BankRec.hash (r : BankRec) (b : Nat) : List Word := if b = 0 then r.hashA else r.hashB
def BankRec.setState (r : BankRec) (b v : Nat) : BankRec :=
  { r with word2 := if b = 0 then putBits r.word2 7 4 v else putBits r.word2 11 8 v }
def BankRec.setHash (r : BankRec) (b : Nat) (h : List Word) : BankRec := if b = 0 then { r with hashA := h } else { r with hashB := h }
/-- NAMED, TRIAL and TRIES. -/
def BankRec.setName (r : BankRec) (named trial tries : Nat) : BankRec :=
  { r with word2 := putBits (putBits (putBits r.word2 0 0 named) 1 1 trial) 3 2 tries }

/-- The 31 words that CRC covers, and the 128 bytes of a copy (Table 17.2). -/
def BankRec.words (r : BankRec) : List Word :=
  [0x47534253, word r.seq, r.word2, 0] ++ r.hashA ++ r.hashB ++ List.replicate 11 0
def BankRec.bytes (r : BankRec) : Bytes := leBytes r.words ++ leBytes [imgCrc (leBytes r.words)]

/-- Offset of a copy. -/
def copyAddr (c : Nat) : Nat := c * 0x8000

/-- A copy when it is valid (R359). -/
def State.readCopy (s : State) (c : Nat) : Option BankRec :=
  let d := (List.range 128).map fun k => s.flashByte (copyAddr c + k)
  let w := fun (i : Nat) => leWord (d.drop (4 * i))
  let r : BankRec := { seq := (w 1).toNat, word2 := w 2, hashA := (List.range 8).map fun k => w (4 + k),
                       hashB := (List.range 8).map fun k => w (12 + k) }
  if w 0 = 0x47534253 ∧ r.bytes = d then some r else none

/-- Reserved fields of word 2 are zero. -/
def BankRec.clean (r : BankRec) : Bool := bitsOf r.word2 31 12 == 0

def State.copyOf (s : State) (c : Nat) : Option BankRec := (s.readCopy c).filter BankRec.clean
def State.copyErased (s : State) (c : Nat) : Bool := (List.range 128).all fun k => s.flashByte (copyAddr c + k) == 0xFF

/-- The record in force and the copy that holds it, of the two copies: the valid one with the higher SEQ; with none valid, the record
of an erased pair or of a lost one (R359). -/
def recordOf (a b : Option BankRec) (erased : Bool) : BankRec × Option Nat :=
  match a, b with
  | some a, some b => if a.seq < b.seq then (b, some 1) else (a, some 0)
  | some a, none => (a, some 0)
  | none, some b => (b, some 1)
  | none, none => (if erased then {} else { word2 := 0 }, none)

/-- The record in force is read (R359). -/
def State.takeRecord (s : State) : State :=
  let x := recordOf (s.copyOf 0) (s.copyOf 1) (s.copyErased 0 && s.copyErased 1)
  { s with boot := { s.boot with record := x.1, copy := x.2 } }

/-- The bank is REJECTED, and its hash zero again (Table 17.2). -/
def BankRec.reject (r : BankRec) (b : Nat) : BankRec := (r.setState b 5).setHash b (List.replicate 8 0)

/-- The copy that a write goes to, and the record with its new SEQ (R360). -/
def State.otherCopy (s : State) : Nat := match s.boot.copy with | some c => 1 - c | none => 0
def State.nextRecord (s : State) (r : BankRec) : BankRec := { r with seq := (s.boot.record.seq + 1) % 4294967296 }

/-- A record has been written and reads back right: it is in force. -/
def State.recordWritten (s : State) (r : BankRec) : State :=
  let c := s.otherCopy
  let s := (s.flashErase (copyAddr c) 0x8000).flashStore (copyAddr c) r.bytes
  { s with boot := { s.boot with record := r, copy := some c } }

/-- A write of a copy has been cut off, or reads back wrong: its bytes are free, but they make no valid copy, so that the other one stays in
force (R360, assumption 3). -/
def State.copyCut (s : State) : State :=
  let c := s.otherCopy
  let t := s.flashOpen (copyAddr c) 128
  if (t.copyOf c).isSome then t.flashErase (copyAddr c) 128 else t

/-- The loader writes a record (R363). -/
def State.loaderRecord (s : State) (r : BankRec) : State := s.recordWritten (s.nextRecord r)

/-! ### The header and the signature block (R336 to R338) -/

def State.bootLen (s : State) (src : ImgSrc) : Nat := (s.imgWord src 8).toNat
def State.payLen (s : State) (src : ImgSrc) : Nat := (s.imgWord src 12).toNat
def State.imgSecVer (s : State) (src : ImgSrc) : Nat := bitsOf (s.imgWord src 16) 7 0

/-- The header's fields of one image that WRITE_BLOCK checks as well: MAGIC, FMT_VER, HW_TYPE, reserved fields, HDR_CRC. Answers the
offset of the first wrong one. -/
def State.headerForm (s : State) (src : ImgSrc) : Option Nat :=
  let w := fun i => s.imgWord src (4 * i)
  let res := ((List.range 35).map fun k => 28 + k).find? fun i => w i != 0
  if w 0 ≠ 0x47534946 then some 0
  else if w 1 ≠ 0x00019216 then some 4
  else if bitsOf (w 4) 31 8 ≠ 0 then some 16
  else if bitsOf (w 5) 15 1 ≠ 0 then some 20
  else if w 7 ≠ 0 then some 28
  else match res with
    | some i => some (4 * i)
    | none => if w 63 ≠ imgCrc (s.imgBytes src 0 252) then some 252 else none

/-- Lengths in range (R336); a host image is bounded by S when S is known. -/
def State.badLengths (s : State) (src : ImgSrc) : Option Nat :=
  let b := s.bootLen src
  let p := s.payLen src
  if b < 4096 ∨ b % 4096 ≠ 0 then some 8
  else if p % 4096 ≠ 0 ∨ (s.boot.bankSize ≠ 0 ∧ s.boot.bankSize < b + p + 4096) then some 12
  else none

/-- UID of the header differs from the unit's (R338). -/
def State.foreignUid (s : State) (src : ImgSrc) : Bool :=
  bitsOf (s.imgWord src 20) 0 0 == 1 && (List.range 4).any fun k => s.imgWord src (32 + 4 * k) != Config.uid k

/-- A Folsar signature under a root key. -/
def State.certUnder (s : State) (src : ImgSrc) (test : Bool) : Bool :=
  let o := s.bootLen src + s.payLen src
  p256Ok ((List.range 64).map (Config.imageRoot test)) (s.imgBytes src o 96) (s.imgBytes src (o + 96) 64)

/-- The test root is accepted in TEST and RMA (R337); the certificate verifies under it alone. -/
def State.testAllowed (s : State) : Bool := let l := s.get KEY.LC_STATUS_LC_STATE; l != 1 && l != 3
def State.underTest (s : State) (src : ImgSrc) : Bool := !s.certUnder src false && s.testAllowed && s.certUnder src true

/-- The certificate's first fault, by offset in the bank (Table 16.3). -/
def State.badCert (s : State) (src : ImgSrc) : Option Nat :=
  let o := s.bootLen src + s.payLen src
  let nonZero := fun a b => (List.range (b - a)).any fun k => s.imgByte src (o + a + k) != 0
  if s.imgWord src o ≠ 0x47534345 then some o
  else if s.imgWord src (o + 4) ≠ 0x00009216 then some (o + 4)
  else if nonZero 72 96 then some (o + 72)
  else if nonZero 224 4096 then some (o + 224)
  else if !s.certUnder src false ∧ !s.underTest src then some (o + 96)
  else none

/-- The integrator's signature over the header. -/
def State.badSignature (s : State) (src : ImgSrc) : Bool :=
  let o := s.bootLen src + s.payLen src
  !p256Ok (s.imgBytes src (o + 8) 64) (s.imgBytes src 0 256) (s.imgBytes src (o + 160) 64)

/-- The checks of R338 in order: cause and offset of the first that fails. -/
def State.badAuth (s : State) (src : ImgSrc) : Option (Nat × Nat) :=
  if s.imgWord src 0 = 0xFFFFFFFF then some (12, 0) else
  match s.headerForm src with
  | some o => some (2, o)
  | none => match s.badLengths src with
    | some o => some (2, o)
    | none =>
      if 64 < s.imgSecVer src then some (2, 16) else
      match s.badCert src with
      | some o => some (3, o)
      | none =>
        if s.badSignature src then some (4, s.bootLen src + s.payLen src + 160)
        else if s.imgSecVer src < s.get KEY.OTP_ARB_VALUE then some (5, 16)
        else if s.foreignUid src then some (6, 32)
        else none

/-! ### Records (R339 to R341) -/

/-- A record: its offset in the bank, TYPE, the reserved bits of word 0, LEN and ARG. -/
structure ImgRec where
  off : Nat
  typ : Nat
  res : Nat
  len : Nat
  arg : Word
  deriving DecidableEq, Repr

def State.imgRec (s : State) (src : ImgSrc) (off : Nat) : ImgRec :=
  { off := off, typ := bitsOf (s.imgWord src off) 31 24, res := bitsOf (s.imgWord src off) 23 0,
    len := (s.imgWord src (off + 4)).toNat, arg := s.imgWord src (off + 8) }

/-- Words of a record's body, and its bytes. -/
def State.recBody (s : State) (src : ImgSrc) (r : ImgRec) : Bytes := s.imgBytes src (r.off + 12) r.len
def State.recWords (s : State) (src : ImgSrc) (r : ImgRec) : List Word :=
  (List.range (r.len / 4)).map fun k => s.imgWord src (r.off + 12 + 4 * k)

/-- Is ARG reserved (Table 16.4)? The bits of ARG that must be zero. -/
def argReserved (typ : Nat) : Word :=
  match typ with | 2 => 0xFE000000 | 3 => 0x7FF00000 | 4 => 0x7FF00000 | 16 => 0 | _ => 0xFFFFFFFF

/-- Bytes of a core's code RAM (TYPE 3) or data RAM (TYPE 4) (Table 14.1). -/
def ramSize (typ sec : Nat) : Nat := if typ = 3 then (if sec = 0 then 1048576 else 131072) else (if sec = 0 then 524288 else 65536)

/-- The blocks with a table window: address of TBL_CMD, and words of the data window (Table 20.2). -/
def tableWindows : List (Nat × Nat) := [(0x400100, 32), (0x500100, 16), (0x700100, 4), (0x800100, 20), (0xA00100, 10), (0xB00100, 8)]

/-- The groups of a TABLE record: data words and command; none when they are not well formed. -/
def tableGroups (win : Nat) : Nat → List Word → Option (List (List Word × Word))
  | 0, ws => if ws = [] then some [] else none
  | k + 1, ws =>
    match ws with
    | [] => some []
    | h :: rest =>
      let n := bitsOf h 5 0
      if bitsOf h 31 6 ≠ 0 ∨ n = 0 ∨ win < n ∨ rest.length < n + 1 then none else
      match tableGroups win k (rest.drop (n + 1)) with
      | some gs => some ((rest.take n, rest.getD n 0) :: gs)
      | none => none

/-- A value carries no reserved bit of the register at an address (R3). -/
def reservedZero (a : Nat) (v : Word) : Bool :=
  match regAt a with | some r => v &&& ~~~(r.bitsWith fun _ => true) == 0 | none => false

/-- A REG pair's register takes a loader's write: access RW, RWL or RWS, outside KEY (R340), reserved fields zero (R3). -/
def regPairOk (p : Word × Word) : Bool :=
  let o := p.1
  bitsOf o 31 25 == 0 && o.toNat / 0x100000 != 12 && isMapped o.toNat && o.toNat % 4 == 0 && reservedZero o.toNat p.2 &&
    (match regAt o.toNat with | some r => r.fields.any (fun f => f.acc == .rw || f.acc == .rwl || f.acc == .rws) | none => false)

/-- Pairs of words. -/
def pairsOf : List Word → List (Word × Word)
  | a :: b :: rest => (a, b) :: pairsOf rest
  | _ => []

/-- Is the body of a record well formed (Table 16.4)? -/
def State.bodyOk (s : State) (src : ImgSrc) (r : ImgRec) : Bool :=
  let ws := s.recWords src r
  match r.typ with
  | 1 => r.len % 8 == 0 && (pairsOf ws).all regPairOk
  | 2 => match tableWindows.find? fun t => t.1 == bitsOf r.arg 24 0 with
    | some t => (match tableGroups t.2 ws.length ws with | some gs => gs.all fun g => bitsOf g.2 27 24 == 2 && reservedZero t.1 g.2 | none => false)
    | none => false
  | 3 => decide (bitsOf r.arg 19 0 + r.len ≤ ramSize 3 (bitsOf r.arg 31 31))
  | 4 => decide (bitsOf r.arg 19 0 + r.len ≤ ramSize 4 (bitsOf r.arg 31 31))
  | 5 => r.len == 64
  | 14 => true
  | 15 => r.len == 0
  | 16 => true
  | _ => false

/-- A record that lies before `limit` is valid in itself: TYPE (BLOB in the payload only), reserved fields, LEN, CRC and body. -/
def State.recOk (s : State) (src : ImgSrc) (limit : Nat) (payload : Bool) (r : ImgRec) : Bool :=
  decide (r.off + 16 + r.len ≤ limit) && r.len % 4 == 0 && r.res == 0 && r.arg &&& argReserved r.typ == 0
    && (r.typ == 16) == payload && s.bodyOk src r
    && s.imgWord src (r.off + 12 + r.len) == imgCrc (s.imgBytes src r.off (12 + r.len))

/-- The records of the boot part up to END, or the offset of the first that is not valid (a second DEBUG_KEY among them). -/
def State.walkBoot (s : State) (src : ImgSrc) (limit : Nat) : Nat → Nat → Bool → Except Nat (List ImgRec)
  | 0, off, _ => .error off
  | k + 1, off, key =>
    let r := s.imgRec src off
    if !s.recOk src limit false r ∨ (r.typ = 5 ∧ key) then .error off
    else if r.typ = 15 then .ok [r]
    else match State.walkBoot s src limit k (off + 16 + r.len) (key || r.typ == 5) with
      | .ok rs => .ok (r :: rs)
      | .error o => .error o
def State.bootRecs (s : State) (src : ImgSrc) : Except Nat (List ImgRec) := s.walkBoot src (s.bootLen src) (s.bootLen src / 16) 256 false

/-- The offset of the payload's first record that is not a valid BLOB. -/
def State.badPayload (s : State) (src : ImgSrc) (limit : Nat) : Nat → Nat → Option Nat
  | 0, off => if off = limit then none else some off
  | k + 1, off =>
    if off = limit then none else
    let r := s.imgRec src off
    if s.recOk src limit true r then State.badPayload s src limit k (off + 16 + r.len) else some off

/-- Hash of the bodies of a pair's CODE records, in image order (R348). -/
def State.codeHash (s : State) (src : ImgSrc) (rs : List ImgRec) (sec : Nat) : Bytes :=
  sha ((rs.filter fun r => r.typ == 3 && bitsOf r.arg 31 31 == sec).flatMap (s.recBody src))

/-- Where a pair's CODE records go in its code RAM: offset and length, in image order (R348, Table 16.4). -/
def codeRanges (rs : List ImgRec) (sec : Nat) : List (Nat × Nat) :=
  (rs.filter fun r => r.typ == 3 && bitsOf r.arg 31 31 == sec).map fun r => (bitsOf r.arg 19 0, r.len)

/-- CFG_HASH: every record but PAD and the control pair's CODE and DATA (R357). -/
def State.cfgHash (s : State) (src : ImgSrc) (rs : List ImgRec) : Bytes :=
  sha ((rs.filter fun r => !(r.typ == 14 || ((r.typ == 3 || r.typ == 4) && bitsOf r.arg 31 31 == 0))).flatMap fun r =>
    s.imgBytes src r.off (16 + r.len))

/-- BOOT_HASH and PAYLOAD_HASH match. -/
def State.bootHashOk (s : State) (src : ImgSrc) : Bool :=
  sha (s.imgBytes src 256 (s.bootLen src - 256)) == s.imgBytes src 48 32
def State.payHashOk (s : State) (src : ImgSrc) : Bool :=
  s.payLen src == 0 || sha (s.imgBytes src (s.bootLen src) (s.payLen src)) == s.imgBytes src 80 32

/-- The checks of VERIFY (R357): cause and offset of the first that fails. -/
def State.badImage (s : State) (src : ImgSrc) : Option (Nat × Nat) :=
  match s.badAuth src with
  | some e => some e
  | none =>
    if !s.bootHashOk src then some (9, 48)
    else if !s.payHashOk src then some (9, 80)
    else match s.bootRecs src with
      | .error o => some (7, o)
      | .ok _ => (s.badPayload src (s.bootLen src + s.payLen src) (s.payLen src / 16) (s.bootLen src)).map fun o => (7, o)

end Sys2Proof.Machine
end

