-- ==== Sys2Proof/Machine/Sys.lean ====
section
/-! DEFINITION. Sys.lean: start-up (chapter 16): cold and warm reset, the loader's stages, release, code reloads. -/
namespace Sys2Proof.Machine

/-- The bank whose image runs; after a load from host memory the one that SYS_STATUS.BANK names. -/
def State.runBank (s : State) : Nat := match s.boot.src with | .bank b => b | .host => s.get SYS.SYS_STATUS_BANK

/-! ### Resets (R330, R331, R335, R407) -/

/-- Flash bytes and OTP bits that are being programmed when a reset cuts in: flash bytes are free values; each OTP bit reads as a free
value decides (R242, assumption 3), and OTP_ARB.VALUE and OTP_SPLIT.CHANGES count the bits set (R243). A record being written leaves the
other copy in force (R360). -/
def State.cutFlash (s : State) : State :=
  let tgt := s.bankBase (1 - s.runBank)
  match s.upd.run with
  | some (.erase _) => s.flashOpen tgt (4096 * s.upd.blocks)
  | some (.block _ i) => s.flashOpen (tgt + 4096 * i) 4096
  | some (.begin_ _) | some (.verified _ _) | some (.activate _ _) | some (.unlive _) | some (.confirm _) | some (.revert _) =>
    s.copyCut
  | _ => s
def State.cutOtp (s : State) : State :=
  match s.key.otp with
  | none => s
  | some r =>
    let x := s.draw
    let s := x.2
    let k := { s.key with otp := none }
    if bitsOf x.1 0 0 = 0 then { s with key := k } else
    match r with
    | .lc t => { s with key := { k with lc := t } }
    | .arb _ => ({ s with key := { k with arb := k.arb + 1 } }).set KEY.OTP_ARB_VALUE (k.arb + 1)
    | .confirm _ => ({ s with key := { k with arb := k.arb + 1 } }).set KEY.OTP_ARB_VALUE (k.arb + 1)
    | .split => ({ s with key := { k with split := k.split + 1 } }).set KEY.OTP_SPLIT_CHANGES (k.split + 1)

/-- Input levels at the timing pins stay as they are. -/
def State.rawPins (s : State) : List (Nat × Pin) :=
  (s.pins.filter fun x => x.2.raw).map fun x => (x.1, { raw := true })

/-- Withdrawn buffers keep their bit (R159). -/
def Bsn.kept (b : Bsn) : Bsn :=
  { bufs := (b.bufs.filter fun x => x.withdrawn).map fun (x : Buf) => { slice := x.slice, pool := x.pool, idx := x.idx, withdrawn := true } }

/-- Fields outside SYS that a warm reset leaves: the own claim (RWS, R276), what OTP gave at the last cold reset, debug grants and the
root in slot 0 (R237, R238, R310, R315), and the two links, which the reset does not take down. -/
def keptFields : List Fld :=
  [TWP.CLAIM_STATUS_OWN, KEY.LC_STATUS_LC_STATE, KEY.LC_STATUS_DEBUG_ROOT, KEY.OTP_ARB_VALUE, KEY.OTP_SPLIT_CHANGES, KEY.OTP_SPLIT_VALUE,
   CPU.CPU_STATUS_SPLIT, CPU.CPU_STATUS_SEC_DBG_EN, CPU.CPU_STATUS_CTRL_DBG_EN, CPU.DBG_AUTH_STATUS_GRANTED, CPU.DBG_AUTH_STATUS_FAILS,
   BRG.BRG_STATUS_PCIE_LINK, BRG.BRG_STATUS_TW_LINK]

/-- INT_N follows when the alarm bit has been reset. -/
def State.resetAlarm (s : State) (was : Bool) : State := (s.setBit FLT.FLT_STATUS_ALARM was).fltLevels

/-- Conditions of direct sources that persist latch again (R384). -/
def State.relatch (s : State) : State :=
  s.each (List.range 32) fun s c => if bitsOf s.fltCond c c = 1 then s.direct c else s

/-- The blocks of a list, by number, return to their reset values, but for the fields above, the OTP cells, the flash, what stands outside the
device, and the claim line that a warm reset keeps (R330); the fault collector follows, the loss of both planes ending with CRS. -/
def State.blocksCleared (s : State) (l : List Nat) : State :=
  let k := fun (n : Nat) => l.contains n
  { s with
    regs := s.regs.filter fun x => !k (x.1 / 0x100000), cnts := s.cnts.filter fun x => !k (x.1 / 0x100000),
    hold := s.hold.filter fun x => !k (x.1 / 0x800000), tabs := s.tabs.filter fun x => !k (x.1 / 0x4000000),
    tim := if k 1 then {} else s.tim, pins := if k 2 then s.rawPins else s.pins, marker := if k 2 then {} else s.marker,
    macs := if k 3 then [] else s.macs, slc := if k 4 then {} else s.slc, str := if k 5 then {} else s.str,
    bsn := if k 6 then s.bsn.kept else s.bsn, crs := if k 7 then {} else s.crs, lkp := if k 8 then {} else s.lkp,
    cans := if k 9 then [] else s.cans, gwe := if k 10 then {} else s.gwe, cph := if k 11 then {} else s.cph, la := if k 11 then {} else s.la,
    key := if k 12 then { lc := s.key.lc, arb := s.key.arb, split := s.key.split, authSec := s.key.authSec } else s.key,
    twp := if k 13 then { lineKeep := s.twp.lineKeep } else s.twp, notes := if k 13 then [] else s.notes, cpu := if k 14 then {} else s.cpu, brg := if k 15 then { pcie := s.brg.pcie } else s.brg,
    msixMask := if k 15 then 0xFFFFFFFF else s.msixMask, msixFn := if k 15 then false else s.msixFn, msixPba := if k 15 then 0 else s.msixPba,
    upd := if k 16 then {} else s.upd, wak := if k 17 then { ao := s.wak.ao, aoSub := s.wak.aoSub, inh := s.wak.inh } else s.wak,
    fltLog := if k 19 then [] else s.fltLog, fltDue := if k 19 then [] else s.fltDue,
    fltCond := if k 7 then s.fltCond &&& ~~~0x01000000 else s.fltCond,
    fltNow := s.fltNow.filter fun (x : Nat) => !k (x / 0x2000000) }

/-- The fields that stay, and the fault collector follows. -/
def State.clearedFrom (t s : State) (flt : Bool) : State :=
  let t := t.each keptFields fun t f => t.set f (s.get f)
  let t := if flt then (t.resetAlarm (s.bit FLT.FLT_STATUS_ALARM)).relatch else t
  t.each (List.range 19) fun t n => t.refreshSource n

def State.resetBlocks (s : State) (l : List Nat) : State := (s.blocksCleared l).clearedFrom s (l.contains 19)

/-- Every block except SYS returns to its reset values, and every frame ends. Core memories are not cleared. -/
def State.blocksReset (s : State) : State :=
  ({ s with frames := [], copies := [] }).resetBlocks ((List.range 19).map (· + 1))

/-- What SYS shows of an image is withdrawn (R335). Of SYS itself an image can load the registers of the second list. -/
def imageRegs : List Nat := [SYS.SEC_VER, SYS.IMG_ID, SYS.RELEASE_WAIT] ++ (List.range 8).map SYS.IMG_HASH ++ (List.range 16).map SYS.DBG_KEY
def loadedRegs : List Nat :=
  [SYS.FW_ENTRY_CTRL, SYS.FW_ENTRY_SEC, SYS.SYS_EVENT_EN, SYS.PCIE_VID, SYS.PCIE_SUBSYS, SYS.TBL_OWNER, SYS.HOST_IMG_LO, SYS.HOST_IMG_HI]
def imageBits : List Fld := [SYS.SYS_STATUS_FROM_HOST, SYS.SYS_STATUS_PAYLOAD_OK, SYS.SYS_STATUS_DBG_KEY_VALID, SYS.SYS_STATUS_TEST_ROOT]

/-- Every block that the loader has loaded is returned to reset and the core memories are cleared (R335). -/
def State.unload (s : State) : State :=
  let l := s.boot.loaded
  let t := { s with mem := [] }.resetBlocks (l.filter (· != 0))
  let t := t.each (imageRegs ++ (if l.contains 0 then loadedRegs else [])) fun t a => t.wr a (resetWord a)
  ((t.each imageBits fun t f => t.setBit f false).refreshSource 0)

/-- What a cold reset leaves: the OTP cells, the flash and what stands outside the device. -/
def State.coldKept (s : State) : State :=
  { State.reset with
    pins := s.rawPins, key := { lc := s.key.lc, arb := s.key.arb, split := s.key.split }, boot := { flash := s.boot.flash },
    wak := { inh := s.wak.inh }, fresh := s.fresh, wire := s.wire, pending := s.pending }

/-- XSPI_RESET_N is high from stage FLASH on, and stays so over a sleep, which is no reset (R410). -/
def State.xspiResetN (s : State) : Bool := s.stage != 0 || s.gated

/-- The straps are sampled, the OTP cells give their settings (Table 11.5), the claim starts, INT_N, WAKE_OUT and XSPI_RESET_N follow. -/
def State.coldStart (t : State) (pairId : Bool) (mode : Nat) (alarm sleep xspi : Bool) : State :=
  let t := (t.setBit SYS.SYS_STRAP_PAIR_ID pairId).set SYS.SYS_STRAP_BOOT_MODE mode
  let t := (t.set TWP.CLAIM_STATUS_OWN (mkClaim 0 0 t.pairId)).cellsRead
  let t := t.resetAlarm alarm
  let t := if sleep then t.emit (.wakeOut true) else t
  if xspi then t.emit (.xspiReset false) else t

/-- A cold reset: everything but what is kept returns to its reset value; the straps are sampled, STAGE is FUSE. -/
def State.coldReset (s : State) (pairId : Bool) (mode : Nat) : State :=
  let s := (s.cutFlash).cutOtp
  s.coldKept.coldStart pairId mode (s.bit FLT.FLT_STATUS_ALARM) (s.wak.power == .sleep) s.xspiResetN

def execColdReset (pairId : Bool) (mode : BitVec 2) (s : State) : Host.Outcome State Fault Refusal :=
  .next (s.coldReset pairId mode.toNat)

/-- The boot begins again at stage FLASH. -/
def State.warmStart (t : State) (line : Bool) : State :=
  let t := { t with boot := { t.boot with second := false, trial := false, payload := false, reload := none, reloadNext := none }, twp := { t.twp with lineKeep := line } }
  ((t.setBit SYS.SYS_STATUS_RELEASED false).set SYS.SYS_STATUS_STAGE 1).fltLevels

/-- A warm reset: the own claim takes rank 0 with the epoch kept, and the start sequence resumes at stage FLASH (R330). -/
def State.warmReset (s : State) : State :=
  let s := (s.cutFlash).cutOtp
  let line := s.pairEn && s.bit TWP.TWP_CTRL_LINE_EN || s.twp.lineKeep
  let s := if s.pairEn then s.set TWP.CLAIM_STATUS_OWN (mkClaim 0 (claimEpoch s.ownClaim) s.pairId) else s
  s.blocksReset.warmStart line

/-! ### SYS_CMD (R343 to R345) -/

/-- A write of SYS_CMD: outside stage RUN a host or peer write is ignored and recorded, but for a host's LOAD where it is allowed and
for a host in FLASH_HOLD (R344). -/
def State.sysAct (s : State) (ini : Initiator) (load ok : Bool) (f : State → State) : State :=
  let blocked := (ini == .host || ini == .peer) && s.stage != stageRun && !(ini == .host && s.bootMode == 1)
  if blocked && !(load && ok) then s.violation else if ok then f s else s
def State.sysCmd (s : State) (ini : Initiator) (load ok : Bool) (f : State → State) : State :=
  s.writeAt ini SYS.SYS_CMD fun s => s.sysAct ini load ok f

/-- The initiator is a control hart. -/
def isCtrl (ini : Initiator) : Bool := ini == .hart0 || ini == .hart1

/-- WARM_RESET acts with its CONFIRM, from the control pair or the host. -/
def mayWarmReset (ini : Initiator) (confirm : Nat) : Bool := confirm == 0x5953 && (isCtrl ini || ini == .host)

def execWarmReset (ini : Initiator) (confirm : BitVec 16) (s : State) : Host.Outcome State Fault Refusal :=
  .next (s.sysCmd ini false (mayWarmReset ini confirm.toNat) fun s => s.warmReset)

/-! ### Stage FUSE (R26, R237, R239, R310, R314) -/

/-- PLLs locked, OTP and option fuses read, the root in slot 0, memories cleared. -/
def State.fuseDone (s : State) : State :=
  if s.stage ≠ 0 ∨ s.wak.power ≠ .active then s else
  let s := s.each [SYS.SYS_STATUS_PLL0_LOCK, SYS.SYS_STATUS_PLL1_LOCK, SYS.SYS_STATUS_PLL2_LOCK, SYS.SYS_STATUS_REFCLK_OK] fun s f => s.setBit f true
  ({ s.cellsRead with mem := [] }.set SYS.SYS_STATUS_STAGE 1).emit (.xspiReset true)

def execFuseStageDone (s : State) : Host.Outcome State Fault Refusal := .next s.fuseDone

/-! ### Banks and failure (R334, R335, R363) -/

/-- STAGE becomes FAIL: INT_N goes low, BOOT_FAIL sets, and the claim line stays constant (R335, R343). -/
def State.failStage (s : State) : State :=
  let s := { s with twp := { s.twp with lineKeep := false } }
  ((s.set SYS.SYS_STATUS_STAGE stageFail).raise SYS.SYS_EVENT_BOOT_FAIL).fltLevels

/-- BOOT_ERR of a source: host loads report in BOOT_ERR_B. -/
def bootErr : ImgSrc → Nat | .bank 0 => SYS.BOOT_ERR_A | _ => SYS.BOOT_ERR_B

/-- The loader turns to an image: stage AUTH. -/
def State.imageBegin (s : State) (src : ImgSrc) : State :=
  let s := { s with boot := { s.boot with src := src, off := 256, payload := false, reload := none, reloadNext := none, loaded := [] } }
  let s := s.each imageBits fun s f => s.setBit f false
  (s.wr (bootErr src) 0).set SYS.SYS_STATUS_STAGE 2

/-- The trial is reverted: the other bank is named, the trial bank REJECTED (R363). -/
def State.revertTrial (s : State) : State :=
  let r := s.boot.record
  let s := s.loaderRecord ((r.setName (1 - r.named) 0 r.tries).reject r.named)
  (({ s with boot := { s.boot with trial := false } }).bump UPD.REVERT_CNT).raise UPD.UPD_EVENT_REVERTED

/-- What follows a failed image: the other bank is tried, once, or the boot fails (R335); a bank on trial is reverted (R364). -/
def State.imageFailed (s : State) : ImgSrc → State
  | .host => s.failStage
  | .bank b =>
    let s := if s.boot.trial then s.revertTrial else s
    if s.boot.second then s.failStage
    else (({ s with boot := { s.boot with second := true } }).raise SYS.SYS_EVENT_FALLBACK).imageBegin (.bank (1 - b))

/-- The image fails with a cause at an offset: what it loaded is undone (R335). -/
def State.bootFail (s : State) (cause off : Nat) : State :=
  let s := { s with boot := { s.boot with payload := false } }
  ((s.wr (bootErr s.boot.src) (word (cause * 268435456 + off % 268435456))).unload).imageFailed s.boot.src

/-- S of a density: half of what lies above 1 MiB, in whole MiB (R334). -/
def bankSizeOf (density : Nat) : Nat := (density - 0x100000) / 2 / 0x100000 * 0x100000

/-- The record in force names the bank; a trial's boot is counted, or the trial is reverted (R363). -/
def State.trialBoot (s : State) : State :=
  let r := s.boot.record
  if !r.trial then { s with boot := { s.boot with trial := false } }
  else if r.tries = 3 then s.revertTrial
  else
    let s := s.loaderRecord (r.setName r.named 1 (r.tries + 1))
    { s with boot := { s.boot with trial := true } }

/-- SFDP and the record have been read: what follows depends on BOOT_MODE (R332, R333, R359). -/
def State.flashDone (s : State) (octal : Bool) (density : Nat) : State :=
  if s.stage ≠ 1 then s else
  let good := octal && decide (0x1000000 ≤ density) && decide (density ≤ 0x10000000)
  let s := { s with boot := { s.boot with bankSize := if good then bankSizeOf density else 0, second := false, trial := false } }
  let s := if good then s.takeRecord else s
  if s.bootMode = 3 then ((s.set SYS.SYS_STATUS_STAGE 9).set (pairState false) 3).set (pairState true) 3
  else if s.bootMode = 2 then s.set SYS.SYS_STATUS_STAGE stageHostWait
  else if !good then ((s.wr SYS.BOOT_ERR_A 0x10000000).wr SYS.BOOT_ERR_B 0x10000000).failStage
  else
    let s := s.trialBoot
    s.imageBegin (.bank s.boot.record.named)

def execFlashStageDone (octal : Bool) (density : Nat) (s : State) : Host.Outcome State Fault Refusal :=
  .next (s.flashDone octal density)

/-! ### Stages AUTH and LOAD (R338 to R341) -/

/-- What SYS shows of an image: IMG_HASH, IMG_ID, SEC_VER, RELEASE_WAIT and the bank. -/
def State.showImage (s : State) (src : ImgSrc) : State :=
  let h := octetWords 8 (sha (s.imgBytes src 0 256))
  let s := s.each (List.range 8) fun s k => s.wr (SYS.IMG_HASH k) (h.getD k 0)
  let s := (s.wr SYS.IMG_ID (s.imgWord src 24)).set SYS.SEC_VER_VER (s.imgSecVer src)
  match src with | .bank b => s.set SYS.SYS_STATUS_BANK b | .host => s

/-- An image that fails its checks ends its bank; one that passes is shown and goes to CONFIG (R336, R337). -/
def State.authEnd (s : State) (src : ImgSrc) : Option (Nat × Nat) → State
  | some (cause, off) => s.bootFail cause off
  | none =>
    let s := (s.showImage src).set SYS.RELEASE_WAIT_MS (bitsOf (s.imgWord src 20) 31 16)
    let s := (s.setBit SYS.SYS_STATUS_FROM_HOST (src == .host)).setBit SYS.SYS_STATUS_TEST_ROOT (s.underTest src)
    s.set SYS.SYS_STATUS_STAGE 3

/-- The checks of R338 have passed or failed. -/
def State.authDone (s : State) : State :=
  if s.stage ≠ 2 then s else s.authEnd s.boot.src (s.badAuth s.boot.src)

def execImageAuthDone (s : State) : Host.Outcome State Fault Refusal := .next s.authDone

/-- A WRITE to a Sluice table before release: banked tables take bank 0, a VALID rule carries VER_MASK 1, and a VALID hash entry lies
at its candidate index (R341). -/
def State.slcLoad (s : State) (cmd : Word) : State :=
  let tbl := bitsOf cmd 31 28
  let idx := bitsOf cmd 15 0
  let ws := s.slcWin (slcSize tbl).1
  if !slcCombo tbl 2 then s.slcResult 8 0
  else if (slcSize tbl).2 ≤ idx then s.slcResult 2 0
  else if slcBadEntry tbl idx ws then s.slcResult 6 0
  else
    let t := (s.setEntry 4 tbl 0 idx 0 ws).slcResult 0 0
    if tbl = tRule ∧ bitsOf (ws.getD 12 0) 31 31 = 1 then
      (if bitsOf (ws.getD 12 0) 7 0 = 1 ∧ t.ruleCand (t.ruleKey idx) (idx / 8192) = idx then t else s.slcResult 6 0)
    else if tbl = tFdb ∧ bitsOf (ws.getD 2 0) 31 31 = 1 then
      (if t.fdbCand (bitsOf (ws.getD 1 0) 11 0) (bitsOf (ws.getD 1 0) 31 16 * 2 ^ 32 + (ws.getD 0 0).toNat) (idx / 4096) = idx then t
       else s.slcResult 6 0)
    else t

/-- One group of a TABLE record through the window of a block; RESULT tells whether it was OK. -/
def State.loadGroup (s : State) (base : Nat) (g : List Word × Word) : Bool × State :=
  let s := s.each (List.range g.1.length) fun s k => s.wr (base + 0x100 + 4 * k) (g.1.getD k 0)
  let cmd := g.2
  let (t, f) := match base / 0x100000 with
    | 4 => (s.slcLoad cmd, SLC.TBL_STATUS_RESULT)
    | 5 => (s.strRun cmd .ok, STR.TBL_STATUS_RESULT)
    | 7 => (s.crsRun cmd .ok, CRS.TBL_STATUS_RESULT)
    | 8 => (s.lkpRun cmd .ok, LKP.TBL_STATUS_RESULT)
    | 10 => (s.gweRun cmd .ok, GWE.TBL_STATUS_RESULT)
    | _ => (s.cphRun cmd .ok, CPH.TBL_STATUS_RESULT)
  (t.get f == 0, t)
def State.loadGroups (s : State) (base : Nat) : List (List Word × Word) → Bool × State
  | [] => (true, s)
  | g :: rest => match s.loadGroup base g with
    | (false, t) => (false, t)
    | (true, t) => t.loadGroups base rest

/-- The body of a CODE or DATA record goes into its RAM. -/
def State.loadRam (s : State) (src : ImgSrc) (r : ImgRec) : State :=
  s.memStore (bitsOf r.arg 31 31) ((if r.typ = 4 then 0x10000000 else 0) + bitsOf r.arg 19 0) (s.recBody src r)

/-- Blocks that a record writes. -/
def State.recordBlocks (s : State) (src : ImgSrc) (r : ImgRec) : List Nat :=
  match r.typ with
  | 1 => (pairsOf (s.recWords src r)).map fun p => p.1.toNat / 0x100000
  | 2 => [bitsOf r.arg 24 0 / 0x100000]
  | 5 => [0]
  | _ => []

/-- The effect of a valid record (Table 16.4); false when a TABLE result is not OK. -/
def State.recordEffect (s : State) (src : ImgSrc) (r : ImgRec) : Bool × State :=
  let s := { s with boot := { s.boot with loaded := (s.boot.loaded ++ s.recordBlocks src r).eraseDups } }
  match r.typ with
  | 1 => (true, s.each (pairsOf (s.recWords src r)) fun s p => s.regStore .hart0 true p.1.toNat p.2)
  | 2 =>
    let win := ((tableWindows.find? fun t => t.1 == bitsOf r.arg 24 0).getD (0, 0)).2
    s.loadGroups (bitsOf r.arg 24 0) ((tableGroups win (r.len / 4) (s.recWords src r)).getD [])
  | 3 => (true, s.loadRam src r)
  | 4 => (true, s.loadRam src r)
  | 5 =>
    let k := octetWords 16 (s.recBody src r)
    (true, (s.each (List.range 16) fun s i => s.wr (SYS.DBG_KEY i) (k.getD i 0)).setBit SYS.SYS_STATUS_DBG_KEY_VALID true)
  | _ => (true, s)

/-- A record has been applied: the next one follows; END ends the stage, and the payload is read in the background (R339, R347). -/
def State.recordPassed (s : State) (r : ImgRec) : State :=
  let t := { s with boot := { s.boot with off := s.boot.off + 16 + r.len } }
  if r.typ = 15 then { t with boot := { t.boot with payload := t.payLen t.boot.src != 0 } }.set SYS.SYS_STATUS_STAGE 4 else t

/-- The loader applies the next record, after its checks (R339 to R341); END ends the stage. Every option fuse reads 1, so no record
fails under R349. -/
def State.recordApply (s : State) : State :=
  if s.stage ≠ 3 then s else
  let src := s.boot.src
  let r := s.imgRec src s.boot.off
  if !s.recOk src (s.bootLen src) false r ∨ (r.typ = 5 ∧ s.bit SYS.SYS_STATUS_DBG_KEY_VALID) then s.bootFail 7 s.boot.off else
  let x := s.recordEffect src r
  if !x.1 then x.2.bootFail 8 s.boot.off else x.2.recordPassed r

def execRecordApply (s : State) : Host.Outcome State Fault Refusal := .next s.recordApply

/-! ### Stage CHECK (R342) -/

/-- No two values of a list are equal. -/
def distinct : List Nat → Bool
  | [] => true
  | a :: rest => !rest.contains a && distinct rest

/-- Bytes of a slice's packet memory (Table 7.1). -/
def sliceBytes (i : Nat) : Nat := if i < 12 then 655360 else if i < 14 then 1572864 else 786432

/-- A slice's pools fit it, and its reserves fit its pools (R147, R149). -/
def State.sliceOk (s : State) (i : Nat) : Bool :=
  decide (((List.range 4).foldl (fun n q => n + s.get (BSN.POOL_CNT_COUNT i q) * poolSize q) 0) ≤ sliceBytes i) &&
  (List.range 4).all fun q =>
    decide (s.get (BSN.POOL_CNT_COUNT i q) ≤ 65536) &&
    decide (s.get (BSN.RSV_SCHED i q) + s.get (BSN.RSV_LL i q) + (if i = 15 ∧ q = 0 then s.get (BSN.GW_RSV_COUNT i) else 0) ≤ s.get (BSN.POOL_CNT_COUNT i q))

/-- The configuration as loaded is consistent. -/
def State.consistent (s : State) : Bool :=
  (s.hypercycle 0xFFFF).isNone &&
  ((List.range 16).all fun p => !s.bit (LKP.ADMIN_CFG_GATE_EN p) ||
    (inRange 1 1024 (s.get (LKP.ADMIN_CFG_LIST_LEN p)) && inRange 32 500000000 (s.get (LKP.ADMIN_CYCLE_TICKS p)))) &&
  distinct ((List.range 4).map fun b => (s.rd (SLC.SEED_RULE b)).toNat) && distinct ((List.range 4).map fun b => (s.rd (SLC.SEED_FDB b)).toNat) &&
  ((List.range 16).all s.sliceOk) && ((List.range 14).all fun i => decide (s.get (BSN.PFC_TH_XON_TH i) < s.get (BSN.PFC_TH_XOFF_TH i)))

/-- The boot ROM of each pair jumps to FW_ENTRY (R345). -/
def State.romEnter (s : State) : State := s.each [false, true] fun s sec => if s.atRom sec then s.toEntry sec else s

/-- BOOT_HASH and consistency pass: the cores leave reset (R342, R345). -/
def State.checkDone (s : State) : State :=
  if s.stage ≠ 4 then s else
  let src := s.boot.src
  if !s.bootHashOk src then s.bootFail 9 48
  else if !s.consistent then s.bootFail 10 0
  else
    let rs := (s.bootRecs src).toOption.getD []
    let s := { s with boot := { s.boot with hash0 := s.codeHash src rs 0, hash1 := s.codeHash src rs 1, cfg := s.cfgHash src rs,
                                            code0 := codeRanges rs 0, code1 := codeRanges rs 1, coresAt := s.tim.ticks } }
    ((s.startPair false (s.restartVec false)).startPair true (s.restartVec true)).romEnter.set SYS.SYS_STATUS_STAGE stageCores

def execImageCheckDone (s : State) : Host.Outcome State Fault Refusal := .next s.checkDone

/-- The background read of the payload ends (R347). -/
def State.payloadDone (s : State) : State :=
  if !s.boot.payload then s else
  let ok := s.payHashOk s.boot.src
  let s := { s with boot := { s.boot with payload := false } }
  if ok then (s.setBit SYS.SYS_STATUS_PAYLOAD_OK true).raise SYS.SYS_EVENT_PAYLOAD_OK else s.raise SYS.SYS_EVENT_PAYLOAD_FAIL

def execPayloadCheckDone (s : State) : Host.Outcome State Fault Refusal := .next s.payloadDone

/-! ### LOAD (R343) -/

/-- A host may supply the image: in HOST mode while STAGE is HOST_WAIT, and in any mode while STAGE is FAIL. -/
def State.mayLoad (s : State) (ini : Initiator) : Bool :=
  ini == .host && ((s.bootMode == 2 && s.stage == stageHostWait) || s.stage == stageFail)

/-- The image is read from host memory at HOST_IMG_HI and HOST_IMG_LO: `image` is what it returned, none when a read met a PCIe error
(R343, R348). -/
def State.imageRead (s : State) (image : Option Bytes) : State :=
  s.emit (.dmaRead ((s.rd SYS.HOST_IMG_HI).toNat * 4294967296 + (s.rd SYS.HOST_IMG_LO).toNat / 4096 * 4096) (image.getD []).length)

/-- LOAD. -/
def State.loadHost (s : State) (image : Option Bytes) : State :=
  let s := s.imageRead image
  match image with
  | some d => (({ s with boot := { s.boot with host := d } }).imageBegin .host).fltLevels
  | none => (s.wr SYS.BOOT_ERR_B 0xB0000000).failStage

def execSysLoad (ini : Initiator) (image : Option Bytes) (s : State) : Host.Outcome State Fault Refusal :=
  .next (s.sysCmd ini true (s.mayLoad ini) fun s => s.loadHost image)

/-! ### Release (R9, R345, R364) -/

/-- Every VALID meter starts full (R132). -/
def State.metersFull (s : State) : State :=
  let ms := (s.tabs.filter fun x => decide (x.1 / 1048576 = (5 * 16 + tMeter) * 4) && x.1 % 32 == 0 && bitsOf x.2 31 31 == 1).map
    fun x => x.1 % 1048576 / 32
  s.each ms fun s m => (s.setTc m (bitsOf (s.meterW m 2) 19 0 * 65536)).setTe m (bitsOf (s.meterW m 3) 19 0 * 65536)

/-- The anti-rollback advance that a confirmation deferred is repeated, after an OTP command that runs (R364). -/
def State.arbRepeat (s : State) : State :=
  let v := s.imgSecVer s.boot.src
  if s.boot.src = .host ∨ s.boot.record.state s.runBank ≠ 4 ∨ v ≤ s.get KEY.OTP_ARB_VALUE then s
  else if s.key.otp.isSome then { s with upd := { s.upd with arbDue := true } }
  else s.otpStart (.confirm v)

/-- The data path is released: every port, table and sequencer starts in this tick; RWL fields lock with RELEASED (R4, R9). -/
def State.release (s : State) : State :=
  let s := (s.set SYS.SYS_STATUS_STAGE stageRun).setBit SYS.SYS_STATUS_RELEASED true
  let s := s.raise SYS.SYS_EVENT_RELEASED
  let s := { s with twp := { s.twp with relAt := s.nowQ, lineKeep := false } }
  let s := if s.pairEn then s.setClaim 4 (claimEpoch s.ownClaim) else s
  let s := s.metersFull
  let s := s.each (List.range 16) fun s p => (s.operTake p).meetList p
  s.arbRepeat

/-- RELEASE may be written by this initiator now (R345). -/
def State.mayRelease (s : State) (ini : Initiator) : Bool :=
  s.stage == stageCores && (if s.bootMode == 1 then ini == .host else isCtrl ini)

def execSysRelease (ini : Initiator) (s : State) : Host.Outcome State Fault Refusal :=
  .next (s.sysCmd ini false (s.mayRelease ini) fun s => s.release)

/-- RELEASE_WAIT ms have passed since stage CORES began (R345). -/
def State.waitExpiry (s : State) : State :=
  let ms := s.get SYS.RELEASE_WAIT_MS
  if s.stage = stageCores ∧ s.bootMode ≠ 1 ∧ ms ≠ 0 ∧ s.boot.coresAt + ms * msTicks ≤ s.tim.ticks then s.release else s

def execReleaseWaitExpiry (s : State) : Host.Outcome State Fault Refusal := .next s.waitExpiry

/-! ### Code reloads (R348) -/

/-- RELOAD_CTRL or RELOAD_SEC by software: the loader begins to read the pair's CODE records again. -/
def State.mayReload (s : State) : Bool := decide (s.stage = stageCores ∨ s.stage = stageRun) && s.boot.reload.isNone
def State.reload (s : State) (ini : Initiator) (sec : Bool) : State := s.sysCmd ini false s.mayReload fun s => s.reloadStart sec

def execReloadCtrl (ini : Initiator) (s : State) : Host.Outcome State Fault Refusal := .next (s.reload ini false)
def execReloadSec (ini : Initiator) (s : State) : Host.Outcome State Fault Refusal := .next (s.reload ini true)

/-- The records of the boot part by their lengths alone. -/
def State.plainRecs (s : State) (src : ImgSrc) (limit : Nat) : Nat → Nat → List ImgRec
  | 0, _ => []
  | k + 1, off =>
    let r := s.imgRec src off
    if limit < off + 16 + r.len then [] else if r.typ = 15 then [r] else r :: s.plainRecs src limit k (off + 16 + r.len)
def State.pairRecs (s : State) (src : ImgSrc) (sec : Nat) (data : Bool) : List ImgRec :=
  (s.plainRecs src (s.bootLen src) (s.bootLen src / 16) 256).filter fun r =>
    (r.typ == 3 || (data && r.typ == 4)) && bitsOf r.arg 31 31 == sec
def State.recsOk (s : State) (src : ImgSrc) (rs : List ImgRec) : Bool := rs.all fun r => s.recOk src (s.bootLen src) false r

/-- Records go into a pair's RAM. -/
def State.loadRams (s : State) (src : ImgSrc) (rs : List ImgRec) : State := s.each rs fun s r => s.loadRam src r

/-- The reload ends; `image` is what host memory holds now, which it reads after a host load. -/
def State.reloadDone (s : State) (image : Option Bytes) : State :=
  match s.boot.reload with
  | none => s
  | some sec =>
    let n := if sec then 1 else 0
    let s := { s with boot := { s.boot with reload := s.boot.reloadNext, reloadNext := none } }
    let s := if s.boot.src = .host then { s.imageRead image with boot := { s.boot with host := image.getD [] } } else s
    let src := s.boot.src
    let rs := s.pairRecs src n false
    let read := (src != .host || image.isSome) && s.recsOk src rs
    let ok := read && s.codeHash src rs n == (if sec then s.boot.hash1 else s.boot.hash0)
    let s := if read then s.loadRams src rs else s
    if ok then (s.toEntry sec).raise SYS.SYS_EVENT_CODE_RELOAD
    else (s.set (pairState sec) 4).raise SYS.SYS_EVENT_CODE_RELOAD_FAIL

def execCodeReloadDone (image : Option Bytes) (s : State) : Host.Outcome State Fault Refusal := .next (s.reloadDone image)

end Sys2Proof.Machine
end

