-- ==== Sys2Proof/Machine/Upd.lean ====
section
/-! DEFINITION. Upd.lean: the update engine (chapter 17): session lock, download, verification, activation, confirmation, revert, and
reads of the running bank. -/
namespace Sys2Proof.Machine

/-! ### Initiators, results and the session (R351 to R354) -/

/-- The number of an initiator that reaches UPD. -/
def updNo : Initiator → Option Nat
  | .host => some 0 | .hart0 => some 1 | .hart1 => some 2 | .peer => some 3 | .sec => none | .jtag => none

/-- RESULT of an initiator's last command. -/
def State.updRes (s : State) (n v : Nat) : State := { s with upd := { s.upd with results := s.upd.results.set n v } }

def resOk : Nat := 0
def resBusy : Nat := 1
def resNoSession : Nat := 2
def resBadState : Nat := 3
def resCrc : Nat := 4
def resDup : Nat := 5
def resHeader : Nat := 6
def resBinding : Nat := 7
def resVerifyFail : Nat := 8
def resCfgDiff : Nat := 9
def resActiveUnit : Nat := 10
def resTrialPending : Nat := 11
def resFlash : Nat := 12
def resIgnored : Nat := 13
def resRange : Nat := 14

/-- A write of UPD_CMD: while BUSY it returns IGNORED (R354). -/
def State.updAct (s : State) (ini : Initiator) (f : Nat → State → State) : State :=
  match updNo ini with
  | none => s
  | some n => if s.upd.run.isSome then s.updRes n resIgnored else f n s
def State.updCmd (s : State) (ini : Initiator) (f : Nat → State → State) : State :=
  s.writeAt ini UPD.UPD_CMD fun s => s.updAct ini f

/-- A command of the owner has been accepted: TIMEOUT begins anew (R353). -/
def State.accepted (s : State) (n : Nat) : State :=
  if s.upd.owner = some n then { s with upd := { s.upd with cmdAt := s.tim.ticks } } else s

/-- Only the owner's command with its SESSION is taken (R352). -/
def State.owned (s : State) (n : Nat) (session : BitVec 16) (f : State → State) : State :=
  if s.upd.owner = some n ∧ s.upd.session = session.toNat then f s else s.updRes n resNoSession

/-- The session ends. -/
def State.sessionEnd (s : State) : State := { s with upd := { s.upd with owner := none } }

/-- The engine's command ends with a result. -/
def State.updEnd (s : State) (n v : Nat) : State := ({ s with upd := { s.upd with run := none } }).updRes n v
def State.updFlash (s : State) (n : Nat) : State := (s.updEnd n resFlash).raise UPD.UPD_EVENT_FLASH_ERR

/-- The engine starts to run something. -/
def State.updRun (s : State) (r : UpdRun) : State := { s with upd := { s.upd with run := some r } }

/-- The engine starts to write a record (R360). -/
def State.updRecord (s : State) (r : UpdRun) (rec : BankRec) : State :=
  { s with upd := { s.upd with run := some r, next := s.nextRecord rec } }

/-- OPEN (R352). -/
def State.updOpen (s : State) (n : Nat) : State :=
  if s.upd.owner.isSome then (s.updRes n resBusy).bump UPD.BUSY_REFUSE_CNT
  else
    let k := (s.upd.session + 1) % 65536
    ({ s with upd := { s.upd with owner := some n, cmdAt := s.tim.ticks, session := if k = 0 then 1 else k } }).updRes n resOk

def execUpdOpen (ini : Initiator) (s : State) : Host.Outcome State Fault Refusal := .next (s.updCmd ini fun n s => s.updOpen n)

/-- CLOSE (R353). -/
def State.updClose (s : State) (n : Nat) (session : BitVec 16) : State := s.owned n session fun s => s.sessionEnd.updRes n resOk

def execUpdClose (ini : Initiator) (session : BitVec 16) (s : State) : Host.Outcome State Fault Refusal :=
  .next (s.updCmd ini fun n s => s.updClose n session)

/-- TIMEOUT_S seconds, 500,000,000 ticks each, have passed without an accepted command (R353). -/
def State.updTimeout (s : State) : State :=
  if s.upd.owner.isSome ∧ s.upd.cmdAt + max 1 (s.get UPD.UPD_SESS_TIMEOUT_S) * 500000000 ≤ s.tim.ticks then s.sessionEnd.raise UPD.UPD_EVENT_SESS_TIMEOUT else s

def execUpdSessionTimeout (s : State) : Host.Outcome State Fault Refusal := .next s.updTimeout

/-! ### Download (R355, R356) -/

def State.target (s : State) : Nat := 1 - s.runBank
def State.running (s : State) : Nat := s.boot.record.state s.runBank

def zeroHash : List Word := List.replicate 8 0

/-- BEGIN (R355). -/
def State.updBegin (s : State) (n : Nat) (session : BitVec 16) : State :=
  s.owned n session fun s =>
    let blocks := s.get UPD.IMG_BLOCKS_BLOCKS
    if s.running = 3 then s.updRes n resTrialPending
    else if blocks = 0 ∨ s.boot.bankSize / 4096 < blocks then s.updRes n resRange
    else
      let s := ({ s with upd := { s.upd with blocks := blocks } }).accepted n
      s.updRecord (.begin_ n) ((s.boot.record.setState s.target 1).setHash s.target zeroHash)

def execUpdBegin (ini : Initiator) (session : BitVec 16) (s : State) : Host.Outcome State Fault Refusal :=
  .next (s.updCmd ini fun n s => s.updBegin n session)

/-- The record that names the target INCOMPLETE stands: the erase begins, and the block map is clear; no block is erased yet (R355). -/
def State.eraseStart (s : State) (n : Nat) : State :=
  (({ s with upd := { s.upd with map := [], erased := 0 } }).set UPD.BLK_DONE_COUNT 0).updRun (.erase n)

/-- The erase ends; one that failed leaves the blocks open (assumption 3). -/
def State.eraseDone (s : State) (ok : Bool) : State :=
  match s.upd.run with
  | some (.erase n) =>
    if ok then
      (({ s with upd := { s.upd with erased := s.upd.blocks } }).flashErase (s.bankBase s.target) (4096 * s.upd.blocks)).updEnd n resOk
    else (s.flashOpen (s.bankBase s.target) (4096 * s.upd.blocks)).updFlash n
  | _ => s

def execUpdEraseDone (ok : Bool) (s : State) : Host.Outcome State Fault Refusal := .next (s.eraseDone ok)

/-- The block window's bytes (R368), and the window cleared. -/
def State.blockData (s : State) : Bytes := leBytes ((List.range 1024).map fun w => s.rd (UPD.UPD_DATA w))
def State.clearWindow (s : State) : State :=
  { s with regs := s.regs.filter fun x => !(decide (UPD.UPD_DATA 0 ≤ x.1) && decide (x.1 ≤ UPD.UPD_DATA 1023)) }

/-- The header check of block 0: HEADER, BINDING, or none. -/
def State.blockZero (s : State) (d : Bytes) : Option Nat :=
  let t := { s with boot := { s.boot with host := d } }
  if (t.headerForm .host).isSome ∨ t.bootLen .host + t.payLen .host + 4096 ≠ 4096 * s.get UPD.IMG_BLOCKS_BLOCKS then some resHeader
  else if t.foreignUid .host then some resBinding
  else none

/-- WRITE_BLOCK, its checks in order; the window reads zero after it (R356). A block that no BEGIN has erased, since the last reset or beyond
its IMG_BLOCKS, counts as written (DEDUCED, assumption 153), and a block that fails a check was a command accepted (R352, R353). -/
def State.updBlock (s : State) (n : Nat) (session : BitVec 16) : State :=
  s.owned n session fun s =>
    let s := s.accepted n
    let i := s.get UPD.BLK_INDEX_INDEX
    let d := s.blockData
    let crc := s.rd UPD.BLK_CRC
    let bad := if i = 0 then s.blockZero d else none
    let s := s.clearWindow
    if s.get UPD.IMG_BLOCKS_BLOCKS ≤ i then s.updRes n resRange
    else if s.upd.erased ≤ i ∨ s.upd.map.contains i then s.updRes n resDup
    else if imgCrc d ≠ crc then (s.updRes n resCrc).bump UPD.BLK_CRC_CNT
    else match bad with
      | some v => s.updRes n v
      | none => ({ s with upd := { s.upd with data := d } }).updRun (.block n i)

def execUpdWriteBlock (ini : Initiator) (session : BitVec 16) (s : State) : Host.Outcome State Fault Refusal :=
  .next (s.updCmd ini fun n s => s.updBlock n session)

/-- Programming and read-back of a block end; a block that reads back wrong is open (R356, assumption 3). -/
def State.blockDone (s : State) (ok : Bool) : State :=
  match s.upd.run with
  | some (.block n i) =>
    let at_ := s.bankBase s.target + 4096 * i
    let t := { s with upd := { s.upd with map := i :: s.upd.map, data := [] } }
    if ok then
      (((t.flashStore at_ s.upd.data).set UPD.BLK_DONE_COUNT (s.get UPD.BLK_DONE_COUNT + 1)).bump UPD.BLK_OK_CNT).updEnd n resOk
    else (t.flashOpen at_ 4096).updFlash n
  | _ => s

def execBlockProgramDone (ok : Bool) (s : State) : Host.Outcome State Fault Refusal := .next (s.blockDone ok)

/-! ### Verification (R357) -/

/-- VERIFY. -/
def State.updVerify (s : State) (n : Nat) (session : BitVec 16) : State :=
  s.owned n session fun s =>
    if s.get UPD.BLK_DONE_COUNT = s.get UPD.IMG_BLOCKS_BLOCKS then (s.accepted n).updRun (.verify n) else s.updRes n resBadState

def execUpdVerify (ini : Initiator) (session : BitVec 16) (s : State) : Host.Outcome State Fault Refusal :=
  .next (s.updCmd ini fun n s => s.updVerify n session)

/-- The verdict of a VERIFY goes into the record (R355). -/
def State.verifyEnd (s : State) (n : Nat) (src : ImgSrc) : Option (Nat × Nat) → State
  | none =>
    let h := sha (s.imgBytes src 0 256)
    (s.wr UPD.UPD_VERIFY_ERR 0).updRecord (.verified n none)
      ((s.boot.record.setState s.target 2).setHash s.target ((List.range 8).map fun k => leWord (h.drop (4 * k))))
  | some (c, o) =>
    (s.wr UPD.UPD_VERIFY_ERR (word (c * 268435456 + o % 268435456))).updRecord (.verified n (some (c, o))) (s.boot.record.reject s.target)

/-- The bank has been read and checked: its state is recorded. -/
def State.verifyDone (s : State) : State :=
  match s.upd.run with
  | some (.verify n) =>
    s.verifyEnd n (.bank s.target) (s.badImage (.bank s.target))
  | _ => s

def execUpdVerifyDone (s : State) : Host.Outcome State Fault Refusal := .next s.verifyDone

/-! ### Activation (R361, R362) -/

/-- Why ACTIVATE is refused, the first that fails (R361). -/
def State.activateRefusal (s : State) (mode : Nat) (force : Bool) : Option Nat :=
  let src := ImgSrc.bank s.target
  if s.boot.record.state s.target ≠ 2 then some resBadState
  else if s.imgSecVer src < s.get KEY.OTP_ARB_VALUE then some resVerifyFail
  else if s.pairEn ∧ claimRank s.ownClaim = 8 ∧ s.bit TWP.PAIR_STATUS_PEER_PRESENT ∧ !force then some resActiveUnit
  else if mode = 1 ∧ s.cfgHash src ((s.bootRecs src).toOption.getD []) ≠ s.boot.cfg then some resCfgDiff
  else if mode ≠ 1 ∧ mode ≠ 2 then some resBadState
  else none

/-- ACTIVATE: it ends the session whatever its result (R353). -/
def State.updActivate (s : State) (n : Nat) (session : BitVec 16) (mode : Nat) (force : Bool) : State :=
  s.owned n session fun s =>
    let s := s.sessionEnd
    match s.activateRefusal mode force with
    | some v => (if v = resVerifyFail then s.wr UPD.UPD_VERIFY_ERR 0x50000010 else s).updRes n v
    | none =>
      (s.bump UPD.ACTIVATE_CNT).updRecord (.activate n (mode == 1))
        ((s.boot.record.setName s.target 1 (if mode = 1 then 1 else 0)).setState s.target 3)

def execUpdActivate (ini : Initiator) (session : BitVec 16) (mode : BitVec 2) (force : Bool) (s : State) : Host.Outcome State Fault Refusal :=
  .next (s.updCmd ini fun n s => s.updActivate n session mode.toNat force)

/-- The control pair leaves reset at FW_ENTRY_CTRL (R362); one that has given up stays so until a CORE_CMD reset (R307). -/
def State.liveRestart (s : State) : State := if s.get (pairState false) = 4 then s else s.startPair false (s.fwEntry false)

/-- The new code and data of the control pair stand (R362); the bank that ran is the target now, and no BEGIN has erased it. -/
def State.liveStart (s : State) (n : Nat) (src : ImgSrc) (rs : List ImgRec) : State :=
  let s := { s with upd := { s.upd with map := [], erased := 0 }, boot := { s.boot with hash0 := s.codeHash src rs 0, code0 := codeRanges rs 0, src := src } }
  (((s.showImage src).raise UPD.UPD_EVENT_ACTIVATED).liveRestart).updEnd n resOk

/-- The running bank's records have been loaded again: the record is put back (R362). -/
def State.liveUndo (s : State) (n : Nat) : State :=
  s.liveRestart.updRecord (.unlive n) ((s.boot.record.setName s.runBank 0 s.boot.record.tries).reject s.target)

/-- Steps 2 to 4 of a LIVE activation end: the control pair's new code and data are loaded and it leaves reset at FW_ENTRY_CTRL; or a
record CRC has failed, and the running bank's records are loaded again (R362). -/
def State.liveDone (s : State) : State :=
  match s.upd.run with
  | some (.live n) =>
    if s.get (pairState false) ≠ 3 ∧ s.get (pairState false) ≠ 4 then s else
    let src := ImgSrc.bank s.target
    let rs := s.pairRecs src 0 true
    if s.recsOk src rs then (s.loadRams src rs).liveStart n src rs
    else (s.loadRams s.boot.src (s.pairRecs s.boot.src 0 true)).liveUndo n
  | _ => s

def execLiveActivationDone (s : State) : Host.Outcome State Fault Refusal := .next s.liveDone

/-! ### Confirmation and revert (R364, R365) -/

/-- CONFIRM. -/
def State.updConfirm (s : State) (n : Nat) : State :=
  if s.running ≠ 3 ∨ s.stage ≠ stageRun then s.updRes n resBadState
  else
    let r := s.boot.record
    (s.accepted n).updRecord (.confirm n) (((r.setName r.named 0 r.tries).setState s.runBank 4).setState s.target 2)

def execUpdConfirm (ini : Initiator) (s : State) : Host.Outcome State Fault Refusal := .next (s.updCmd ini fun n s => s.updConfirm n)

/-- The anti-rollback advance of a confirmation starts, waits for another OTP command, or is not needed (R364). -/
def State.confirmArb (s : State) : State :=
  match s.upd.run with
  | some (.arb n) =>
    let v := s.imgSecVer s.boot.src
    if v ≤ s.get KEY.OTP_ARB_VALUE then (s.updEnd n resOk).raise UPD.UPD_EVENT_CONFIRMED
    else if s.key.otp.isNone then s.otpStart (.confirm v) else s
  | _ => s

/-- The advance that waited for an OTP command since the release begins (R364). -/
def State.arbTurn (s : State) : State :=
  if s.upd.arbDue ∧ s.key.otp.isNone then ({ s with upd := { s.upd with arbDue := false } }).arbRepeat else s

/-- One OTP bit has been programmed (R242, R364): the last bit of a confirmation's advance sets ARB_ADVANCED. -/
def State.otpDone (s : State) (ok : Bool) : State :=
  let mine := match s.key.otp with | some (.confirm _) => true | _ => false
  let t := s.otpBitDone ok
  let t := if mine && ok && t.key.otp.isNone then t.raise UPD.UPD_EVENT_ARB_ADVANCED else t
  match t.upd.run with
  | some (.arb n) => if mine && !ok then t.updEnd n resVerifyFail else if t.key.otp.isNone then t.confirmArb else t
  | _ => t.arbTurn

def execOtpProgramDone (ok : Bool) (s : State) : Host.Outcome State Fault Refusal := .next (s.otpDone ok).endStomped

/-- REVERT (R365). -/
def State.updRevert (s : State) (n : Nat) : State :=
  if s.running ≠ 3 then s.updRes n resBadState
  else (s.accepted n).updRecord (.revert n) ((s.boot.record.setName s.target 0 s.boot.record.tries).reject s.runBank)

def execUpdRevert (ini : Initiator) (s : State) : Host.Outcome State Fault Refusal := .next (s.updCmd ini fun n s => s.updRevert n)

/-! ### The end of a record write (R360) -/

/-- What follows a record that has been written. -/
def State.recordNext (s : State) : UpdRun → State
  | .begin_ n => s.eraseStart n
  | .verified n none => (s.updEnd n resOk).raise UPD.UPD_EVENT_VERIFIED
  | .verified n (some _) => s.updEnd n resVerifyFail
  | .activate n true => (s.updRun (.live n)).liveHold
  | .activate n false => (s.updEnd n resOk).warmReset
  | .unlive n => s.updEnd n resFlash
  | .confirm n => (s.updRun (.arb n)).confirmArb
  | .revert n => (s.updEnd n resOk).raise UPD.UPD_EVENT_REVERTED
  | _ => s

/-- The initiator's number of a command that writes a record. -/
def UpdRun.recording : UpdRun → Option Nat
  | .begin_ n => some n | .verified n _ => some n | .activate n _ => some n | .unlive n => some n | .confirm n => some n
  | .revert n => some n | _ => none

/-- Erase, program and read-back of a copy end: the new record is in force, or the old one stays and FLASH is returned (R360). -/
def State.recordDone_ (s : State) (ok : Bool) : State :=
  match s.upd.run with
  | none => s
  | some r => match r.recording with
    | none => s
    | some n =>
      if ok then (s.recordWritten s.upd.next).recordNext r
      else s.copyCut.updFlash n

def execBankStateWriteDone (ok : Bool) (s : State) : Host.Outcome State Fault Refusal := .next (s.recordDone_ ok)

/-! ### Reads of the running bank (R366) -/

/-- READ. -/
def State.updRead (s : State) (n : Nat) : State :=
  let len := s.get UPD.RD_LEN_BYTES
  let off := (s.rd UPD.RD_OFF).toNat
  let src := ImgSrc.bank s.runBank
  if s.boot.src = .host then s.updRes n resBadState
  else if !inRange 4 4096 len ∨ len % 4 ≠ 0 ∨ off % 4 ≠ 0 ∨ s.bootLen src + s.payLen src < off + len then s.updRes n resRange
  else ((s.accepted n).each (List.range (len / 4)) fun s k => s.wr (UPD.UPD_RDATA k) (s.imgWord src (off + 4 * k))).updRes n resOk

def execUpdRead (ini : Initiator) (s : State) : Host.Outcome State Fault Refusal := .next (s.updCmd ini fun n s => s.updRead n)

end Sys2Proof.Machine
end

