-- ==== Sys2Proof/Machine/Wak.lean ====
section
/-! DEFINITION. Wak.lean: the sleep sequences, power-down and the warm wake (chapter 18). -/
namespace Sys2Proof.Machine

/-! ### SLEEP_CMD (R375, R377 to R379) -/

/-- A write of SLEEP_CMD with a CONFIRM; any value but 0x534C makes no effect. -/
def State.sleepCmd (s : State) (ini : Initiator) (confirm : Nat) (f : State → State) : State :=
  s.writeAt ini WAK.SLEEP_CMD fun s => if confirm = 0x534C then f s else s

/-- RESULT and CAUSE of a command. -/
def State.sleepResult (s : State) (res cause : Nat) : State := (s.set WAK.SLEEP_STATUS_RESULT res).set WAK.SLEEP_STATUS_CAUSE cause

/-- Why a sequence is refused; none when it may start (R378). -/
def State.sleepRefusal (s : State) (t : Target_) : Option Nat :=
  if !s.bit WAK.WAK_CTRL_SLEEP_EN then some 1
  else if s.upd.owner.isSome then some 2
  else if s.stage ≠ stageRun then some 3
  else match t with
    | some g => if s.grpMembers g = 0 then some 4 else none
    | none => if (List.range 8).any fun g => s.get (WAK.GRP_STATUS_STATE g) == 1 || s.get (WAK.GRP_STATUS_STATE g) == 2 then some 5 else none

/-- SLEEP and GROUP_SLEEP: READY_SLEEP begins (R378). A group that is asleep already stays so. -/
def State.sleepStart (s : State) (t : Target_) : State :=
  if s.wak.power ≠ .active ∨ s.seqState t = 1 ∨ s.seqState t = 2 then s.sleepResult 4 0 else
  match s.sleepRefusal t with
  | some c => s.sleepResult 3 c
  | none => (if s.seqState t = 0 then (s.setSeq t 1).seqTimer t else s).sleepResult 1 0

def execSleep (ini : Initiator) (confirm : BitVec 16) (s : State) : Host.Outcome State Fault Refusal :=
  .next (s.sleepCmd ini confirm.toNat fun s => s.sleepStart none)
def execGroupSleep (ini : Initiator) (confirm : BitVec 16) (g : Fin 8) (s : State) : Host.Outcome State Fault Refusal :=
  .next (s.sleepCmd ini confirm.toNat fun s => s.sleepStart (some g))

/-- GROUP_WAKE: a wake of an asleep group by software, KIND 6. -/
def State.groupWakeCmd (s : State) (g : Fin 8) : State :=
  (if s.grpAsleep g then s.wakeAccept 6 none (some g) none else s).sleepResult 1 0

def execGroupWake (ini : Initiator) (confirm : BitVec 16) (g : Fin 8) (s : State) : Host.Outcome State Fault Refusal :=
  .next (s.sleepCmd ini confirm.toNat fun s => s.groupWakeCmd g)

/-- ABORT: it ends a sequence before its commit; after the commit it is too late (R379). -/
def State.abortCmd (s : State) (t : Target_) : State :=
  let late : Bool := match t with | none => s.wak.power != .active | some g => s.grpAsleep g
  if late then s.sleepResult 2 0
  else if s.seqState t = 0 then s
  else (s.seqAbort t 1 none).sleepResult 1 0

def execAbortDevice (ini : Initiator) (confirm : BitVec 16) (s : State) : Host.Outcome State Fault Refusal :=
  .next (s.sleepCmd ini confirm.toNat fun s => s.abortCmd none)
def execAbortGroup (ini : Initiator) (confirm : BitVec 16) (g : Fin 8) (s : State) : Host.Outcome State Fault Refusal :=
  .next (s.sleepCmd ini confirm.toNat fun s => s.abortCmd (some g))

/-- RELEASE_ISO: the channel is no longer isolated; it integrates again, its FIFOs thaw unless it is bus-off (R375). -/
def State.releaseIso (s : State) (c : Nat) : State :=
  if !s.isolated c then s.sleepResult 1 0 else
  let s := s.wr WAK.ISOLATED (s.rd WAK.ISOLATED &&& ~~~(word (2 ^ c)))
  let s := s.setBit (CAN.CH_STATUS_FROZEN c) (s.get (CAN.CH_STATUS_STATE c) == 2)
  (s.canRestart c).sleepResult 1 0

def execReleaseIso (ini : Initiator) (confirm : BitVec 16) (ch : Fin 16) (s : State) : Host.Outcome State Fault Refusal :=
  .next (s.sleepCmd ini confirm.toNat fun s => s.releaseIso ch)

/-- The bus has been dominant for STUCK_US (R375, R213): the channel is isolated; it acts as MODE OFF, its FIFOs frozen, also when its group
is asleep. -/
def State.stuckDominant (s : State) (c : Nat) : State :=
  if s.isolated c then s else
  let s := s.wr WAK.ISOLATED (s.rd WAK.ISOLATED ||| word (2 ^ c))
  let s := (s.bump WAK.STUCK_DOM_CNT).wakRaise WAK.WAK_EVENT_STUCK_DOM
  let s := s.canCut c
  let s := s.setCan c { s.can c with inMsg := false, integ := false, offPend := false, offAt := none }
  (s.setBit (CAN.CH_STATUS_FROZEN c) true).set (CAN.CH_STATUS_MODE_ACT c) 0

def execCanStuckDominant (ch : Fin 16) (s : State) : Host.Outcome State Fault Refusal := .next (s.stuckDominant ch)

def execGrpMembersWrite (ini : Initiator) (g : Fin 8) (value : Word) (s : State) : Host.Outcome State Fault Refusal :=
  .next (s.writeAt ini (WAK.GRP_MEMBERS g) fun s => s.grpWrite g value)

/-! ### The sequence (Table 18.3, R379) -/

/-- RS_TIME ms without a keep-awake message have passed: PREPARE. -/
def State.prepare (s : State) (t : Target_) : State :=
  if s.seqState t ≠ 1 ∨ !s.seqRan t (max 10 (s.get WAK.WAK_CTRL_RS_TIME)) then s
  else ((s.setSeq t 2).seqTimer t).ethWakes (s.setPorts t) false

def execReadySleepExpiry (g : Option (Fin 8)) (s : State) : Host.Outcome State Fault Refusal := .next (s.prepare g)

/-- The set's transmit FIFOs are empty and its ETHn_INH all low. -/
def State.setQuiet (s : State) (t : Target_) : Bool :=
  ((s.setChans t).all fun c => (s.can c).tx == []) && (s.setPorts t).all fun p => !s.wak.inh.getLsbD p

/-- The transceiver goes to standby: the channel leaves the message in progress, and a return of MODE to OFF that waited for its end takes
effect (R203). -/
def State.canStandby (s : State) (c : Nat) : State :=
  let s := s.canCut c
  let s := s.setCan c { s.can c with inMsg := false }
  if (s.can c).offPend then s.canOff c else s

/-- Commit of a group (R377, R379): its channels stand by, its ports' links count as down. -/
def State.groupCommit (s : State) (g : Fin 8) : State :=
  let s := s.each (s.setChans (some g)) fun s c => s.canStandby c
  let s := s.each (s.setPorts (some g)) fun s p => s.linkLost p
  (s.setSeq (some g) 3).raise WAK.WAK_EVENT_GROUP_SLEPT

/-- Frames with a copy that a MAC is sending. -/
def State.sendingFids (s : State) : List Nat :=
  (s.copies.filter fun (c : Copy) => decide (c.st = CopySt.sending)).map fun (c : Copy) => c.fid

/-- Commit of the device (R372, R379): working time and the always-on count are recorded, the data path stops after the frames in
progress, what Basin holds is lost, and a unit of a pair isolates itself. -/
def State.deviceCommit (s : State) : State :=
  let s := (s.setSeq none 0).bump WAK.SLEEP_CNT
  let s := { s with wak := { s.wak with wc := s.tim.wt, ac := s.wak.ao, late := false } }
  let s := s.wr WAK.COMMIT_AO (word s.wak.ao)
  let keep := s.sendingFids
  let lost := s.frames.filter fun f => f.handle.isSome && !keep.contains f.fid
  let s := s.bumpBy WAK.COMMIT_DROP_CNT lost.length
  let s := { s with frames := s.frames.filter fun (f : Frame) => keep.contains f.fid, copies := s.copies.filter fun (c : Copy) => decide (c.st = CopySt.sending) }
  let s := s.each (List.range 14) fun s p =>
    s.setMac p { s.mac p with suspended := none, assembly := none,
                              rx := (s.mac p).rx.map fun (x : Rx) => if x.fid.any fun i => keep.contains i then x else { x with held := none, fid := none } }
  let s := s.each (List.range 16) fun s c => s.canStandby c
  let s := (s.setBit SYS.SYS_STATUS_RELEASED false).isolateClaim
  { s with wak := { s.wak with power := .powerDown } }

def State.commit (s : State) (t : Target_) : State := match t with | none => s.deviceCommit | some g => s.groupCommit g

/-- The always-on clock finds the conditions of the commit (R379). -/
def State.sleepCommit (s : State) (t : Target_) : State := if s.seqState t = 2 ∧ s.setQuiet t then s.commit t else s

def execSleepCommit (g : Option (Fin 8)) (s : State) : Host.Outcome State Fault Refusal := .next (s.sleepCommit g)

/-- PREP_TIME has passed: ports still awake are logged; PREP_FORCE commits, otherwise the sequence aborts with cause 4. -/
def State.prepExpiry (s : State) (t : Target_) : State :=
  if s.seqState t ≠ 2 ∨ !s.seqRan t (max 1 (s.get WAK.PREP_CFG_PREP_TIME)) then s else
  let up := (s.setPorts t).filter fun p => s.wak.inh.getLsbD p
  let s := s.each up fun s p => s.kaAdd (s.kaEntry 2 (16 + p) 0)
  if s.bit WAK.WAK_CTRL_PREP_FORCE then s.commit t else s.seqAbort t 4 (up.head?.map fun p => 16 + p)

def execPrepTimeExpiry (g : Option (Fin 8)) (s : State) : Host.Outcome State Fault Refusal := .next (s.prepExpiry g)

/-! ### POWER_DOWN and retention (R371, R380) -/

/-- RO values that sleep keeps, and the own claim, which is no RO field (R276); what OTP gives is read again at the wake. -/
def sleepFields : List Fld :=
  [TWP.CLAIM_STATUS_OWN, SYS.SYS_STRAP_PAIR_ID, SYS.SYS_STRAP_BOOT_MODE, TIM.TIM_STATUS_TIME_SET, TIM.TIM_STATUS_FOLLOWED,
   KEY.LC_STATUS_LC_STATE, KEY.LC_STATUS_DEBUG_ROOT, KEY.OTP_ARB_VALUE, KEY.OTP_SPLIT_CHANGES, KEY.OTP_SPLIT_VALUE,
   CPU.CPU_STATUS_SPLIT, CPU.CPU_STATUS_SEC_DBG_EN, CPU.CPU_STATUS_CTRL_DBG_EN, CPU.DBG_AUTH_STATUS_GRANTED, CPU.DBG_AUTH_STATUS_FAILS]

/-- A register word after power gating: its RO fields at reset; WAK keeps all. -/
def gatedWord (a : Nat) (w : Word) : Word :=
  if a / 0x100000 = 17 then w else
  match regAt a with
  | some r => let m := r.bitsWith (· == .ro); (w &&& ~~~m) ||| (resetWord a &&& m)
  | none => w

/-- A pin keeps its armed train and its input level. -/
def Pin.gated (x : Pin) : Pin := { train := x.train, raw := x.raw }

/-- A holding register that sleep keeps: the high word of a counter (access RC, Table 20.1), or one of WAK. -/
def heldKept (k : Nat) : Bool := (cntAt (k / 8)).isSome || k / 0x800000 == 17

/-- Everything but the retention arrays has lost power: fields that are not RO, counters, tables, key slots, the core memories,
withdrawn bits and the settings of R371 stay. -/
def State.retained (s : State) : State :=
  { State.reset with
    regs := s.regs.filterMap fun x => let w := gatedWord x.1 x.2; if w = resetWord x.1 then none else some (x.1, w),
    cnts := s.cnts, hold := s.hold.filter fun x => heldKept x.1, tabs := s.tabs,
    tim := { wt := s.tim.wt, incr := s.tim.incr, sel := s.tim.sel },
    pins := s.pins.filterMap fun x => let y := x.2.gated; if y = {} then none else some (x.1, y),
    marker := { running := s.marker.running }, nextFid := s.nextFid, nextCid := s.nextCid, bsn := s.bsn.kept,
    key := { lc := s.key.lc, arb := s.key.arb, split := s.key.split, authSec := s.key.authSec }, cph := s.cph,
    cpu := { cmp := s.cpu.cmp }, la := { staged := s.la.staged },
    boot := { s.boot with payload := false, reload := none, reloadNext := none }, wak := { s.wak with since := [] }, mem := s.mem, fresh := s.fresh, wire := s.wire,
    pending := s.pending }

/-- The RO fields that stay (R371) over what is retained. -/
def State.gatedFrom (g s : State) : State :=
  (g.each sleepFields fun g f => g.set f (s.get f)).resetAlarm (s.bit FLT.FLT_STATUS_ALARM)

/-- The logic is power-gated (R370, R371, R380). -/
def State.powerGate (s : State) : State :=
  let s := (((s.cutFlash).cutOtp).pcieDown .linkLost).twinDown
  s.retained.gatedFrom s

/-- Digests stored, PLLs stopped: SLEEP, where WAKE_OUT goes low, or the warm wake at once when a wake was latched (R380). -/
def State.sleepEnter (s : State) : State :=
  if s.wak.late then { s with wak := { s.wak with digests := true, clocks := false, power := .waking, late := false } }
  else ({ s with wak := { s.wak with digests := true, clocks := false, power := .sleep } }).emit (.wakeOut false)

/-- POWER_DOWN ends (R380). -/
def State.powerDown (s : State) : State := if s.wak.power ≠ .powerDown then s else s.powerGate.sleepEnter

def execPowerDownDone (ao : Nat) (s : State) : Host.Outcome State Fault Refusal := .next ((s.aoPass ao).powerDown)

/-! ### The warm wake (R372, R382, R383) -/

/-- REFCLK_SYS is there and the PLLs have locked: working time is loaded, rounded down to 2^-16 ns; the state is holdover, for the whole
seconds slept (R372), which a domain followed before the sleep makes a change (R38). -/
def State.wakeClocks (s : State) : State :=
  if s.wak.power ≠ .waking ∨ s.wak.clocks then s else
  let s := s.edgePassed
  let s := if s.tim.sel = .holdover then s else s.set TIM.TIM_EVENT_HOLDOVER_ENTER 1
  let n := s.wak.ao - s.wak.ac
  let w := (s.wak.wc + n * 1000000000 * 131072) / 65536 * 65536 % wtWrap
  let s := { s with tim := { s.tim with wt := w, sel := .holdover, holdTicks := n / 32768 * revertTicks }, wak := { s.wak with clocks := true } }
  let s := s.each [SYS.SYS_STATUS_PLL0_LOCK, SYS.SYS_STATUS_PLL1_LOCK, SYS.SYS_STATUS_PLL2_LOCK, SYS.SYS_STATUS_REFCLK_OK] fun s f => s.setBit f true
  s.setBit TIM.TIM_STATUS_HOLDOVER true

def execWakeClockReady (ao : Nat) (s : State) : Host.Outcome State Fault Refusal := .next ((s.aoPass ao).wakeClocks)

/-- Every digest matches: the data path is released under R9, both core pairs leave reset at RESTART_VEC and
check their code under R348, channels integrate, armed trains
and the marker go on with working time, and the fault collector sees the events that are set. -/
def State.wakeRelease (s : State) : State :=
  let s := { s with wak := { s.wak with power := .active, digests := false, clocks := false, serdes := true } }
  let s := if s.get KEY.LC_STATUS_LC_STATE = lcState s.key.lc then s else s.lcTaken
  let s := s.release
  let s := (s.startPair false (s.restartVec false)).startPair true (s.restartVec true)
  let s := (s.romRun false).romRun true
  let s := s.each ((List.range 16).filter fun c => !s.isolated c && !s.memberAsleep c) fun s c => s.canRestart c
  let s := s.each (List.range 16) fun s c =>
    if s.isolated c then s.setBit (CAN.CH_STATUS_FROZEN c) true else s.setBit (CAN.CH_STATUS_CLAIM_GATED c) (s.canWantGate c && s.canMode c != 0)
  let s := s.each (List.range 16) fun s p => (s.pinReposition p).pinEnable p
  let s := { s with marker := { s.marker with next := if s.marker.running then s.mkNext s.nowQ else 0 } }
  let s := s.each (List.range 16) fun s p => s.setPin p { s.pin p with stepped := false }
  (s.each (List.range 28) fun s c => s.refreshSource c).uncertainCheck

/-- The registers and counters of WAK over those of a cold reset. -/
def mergeWak {α : Type} (new old : List (Nat × α)) : List (Nat × α) :=
  (new.filter fun x => decide (x.1 / 0x100000 < 17)) ++ (old.filter fun x => x.1 / 0x100000 == 17)
    ++ new.filter fun x => decide (17 < x.1 / 0x100000)

def State.wakOf (t s : State) : State :=
  { t with regs := mergeWak t.regs s.regs, cnts := mergeWak t.cnts s.cnts, hold := s.hold.filter fun x => x.1 / 0x800000 == 17,
           wak := { s.wak with power := .active, digests := false, clocks := false } }

/-- A digest differs: as from a cold reset at stage FUSE, with the WAK registers kept (R383). -/
def State.wakeFail (s : State) : State :=
  (((s.coldReset (s.pairId == 1) (s.get SYS.SYS_STRAP_BOOT_MODE)).wakOf s).bump WAK.RET_FAIL_CNT).raise WAK.WAK_EVENT_RET_FAIL

def State.retentionDone (s : State) (pass : Bool) : State :=
  if s.wak.power ≠ .waking ∨ !s.wak.clocks then s else if pass then s.wakeRelease else s.wakeFail

def execRetentionCheckDone (pass : Bool) (s : State) : Host.Outcome State Fault Refusal := .next (s.retentionDone pass)

/-- The SerDes lanes are calibrated and the MACs are ready: links may come up under R73. -/
def State.serdesDone (s : State) : State := { s with wak := { s.wak with serdes := false } }

def execSerdesReady (s : State) : Host.Outcome State Fault Refusal := .next s.serdesDone

/-! ### The keep-awake log (R381) -/

/-- Word w of the head entry; zero when the log is empty. The read of KA_LOG3 removes it. -/
def State.kaWord (s : State) (w : Nat) : Word := (s.wak.ka.headD []).getD w 0
def State.kaPop (s : State) : Word × State := (s.kaWord 3, { s with wak := { s.wak with ka := s.wak.ka.tail } })

def execKaLogRead (ini : Initiator) (s : State) : Host.Outcome State Fault Refusal := .next (s.readAt ini (WAK.KA_LOG 3) fun s => s.kaPop)

end Sys2Proof.Machine
end

