-- ==== Sys2Proof/Machine/Reposition.lean ====
section
/-! DEFINITION. Reposition.lean: the time base's tick, and what a step of working time moves (R24, R29, R56, R66, R185). -/
namespace Sys2Proof.Machine

/-! ### What a change of working time moves (R29) -/

/-- An instant moved by d, not below zero. -/
def moved (d : Int) (x : Nat) : Nat := ((x : Int) + d).toNat

/-- A MAC's running spans keep their durations: d in picoseconds. -/
def Mac.moved (d : Int) (m : Mac) : Mac :=
  let tx := fun (t : Tx) => { t with start := Machine.moved d t.start, close := t.close.map (Machine.moved d) }
  { m with tx := m.tx.map tx, suspended := m.suspended.map tx, freeAt := Machine.moved d m.freeAt, eligAt := Machine.moved d m.eligAt,
           lpiTxAt := Machine.moved d m.lpiTxAt, lpiRxAt := Machine.moved d m.lpiRxAt,
           pauseAt := m.pauseAt.map fun x => (x.1, Machine.moved (d / 250) x.2),
           pauseEnd := m.pauseEnd.map fun x => (x.1, Machine.moved d x.2), pfcLast := m.pfcLast.map fun x => (x.1, Machine.moved d x.2),
           verifyAt := Machine.moved d m.verifyAt, holdFrom := Machine.moved d m.holdFrom,
           pfcQ := m.pfcQ.map fun (q : PfcOut) => { q with at_ := Machine.moved (d / 250) q.at_ } }

/-- What counts a duration from an instant goes on counting it, working time having moved by d quarter nanoseconds; the starts of cell times
keep their instants, and those that are not past any more are dropped (R166, assumption 126). -/
def State.spansMoved (s : State) (d : Int) : State :=
  let s := s.each (s.macs.map fun x => x.1) fun s p => s.setMac p ((s.mac p).moved (d * 250))
  { s with
    frames := s.frames.map (fun (f : Frame) => { f with waitAt := moved d f.waitAt }),
    notes := s.notes.map fun (n : Note) => { n with at_ := moved d n.at_ },
    str := { s.str with passAt := s.str.passAt.map fun x => (x.1, moved d x.2) },
    slc := { s.slc with since := s.slc.since.map fun x => (x.1, moved d x.2) },
    crs := { s.crs with starts := s.crs.starts.filter fun t => decide (t < s.nowPs) },
    twp := { s.twp with resend := s.twp.resend.map (fun x => (x.1, moved d x.2.1, x.2.2)), relAt := moved d s.twp.relAt,
                        gaps := s.twp.gaps.map (fun (g : TwGap) => { g with at_ := moved d g.at_ }),
                        echo := s.twp.echo.map fun x => (x.1, word (moved d (x.2.toNat + 4000000000) % 4000000000)) },
    brg := { s.brg with sent := s.brg.sent.map (fun (q : OutReq) => { q with at_ := moved d q.at_ }),
                        hostReads := s.brg.hostReads.map (fun (r : HostRead) => { r with at_ := moved d r.at_ }),
                        lockIn := s.brg.lockIn.map fun x => (x.1, moved d x.2),
                        rings := s.brg.rings.map fun x => (x.1, { x.2 with oldest := moved d x.2.oldest }) } }

/-! ### The tick -/

/-- How far a SET before release, which loads in this tick, carries working time past what the tick gives it, quarter nanoseconds. -/
def State.loadShift (s : State) : Int :=
  match s.tim.loadPend with
  | some w => ((w / 1073741824 : Nat) : Int) - ((s.tim.takeIncr.ramp.advance s.slewMax).wt / 1073741824 : Nat)
  | none => 0

/-- The time base at one tick; a load moves what counts a duration with working time, as a step does (R29). -/
def State.timeBase (s : State) : State :=
  let d := s.loadShift
  let s := s.timTick
  if d = 0 then s else s.spansMoved d

/-- The time base ticks: not without PLL0, before stage FUSE has locked it, nor in SLEEP until a warm wake has locked it again and loaded
working time (R23, R26, R372). -/
def State.timeRuns (s : State) : Bool :=
  !s.pllLost 0 && match s.wak.power with
  | .active | .powerDown => s.stage != 0
  | .waking => s.wak.clocks
  | .sleep => false

/-- One 2 ns tick: working time, MTIME, the always-on count, held pairs, requests that wait for a slot, the ports' eligibility and the clock
of the fault collector (R85, R307, R327, R385). -/
def State.timeTick (s : State) : State :=
  let s := s.fltClock.edgePassed
  (if !s.timeRuns then s
   else (((((((s.timeBase).mtimeTick).aoTick).pairHold false).pairHold true).liveHold).pumpTick).each (List.range 14) State.eligTick).fltReady

def execTimeTick (s : State) : Host.Outcome State Fault Refusal := .next s.timeTick

/-! ### A step (R29) -/

/-- A change of port p's list fires in this tick (R184, R295): the port meets the new list then. -/
def State.firesNow (s : State) (p : Nat) : Bool :=
  match s.lkp.change with
  | some c => (s.changeAt p).isSome && decide (c.t ≤ s.nowPs)
      && (!c.link || !s.pairEn || decide (c.t / 250 ∈ s.twp.pc.ready) || decide (c.t / 250 ∈ s.twp.pc.go))
  | none => false

/-- After a step, port p's list takes the position that the new time gives it: an entry that could not be read stays shut while the step
stays in it (R182, R185); a port whose change fires in this tick meets its new list alone (R184). -/
def State.gateReposition (s : State) (p : Nat) : State :=
  if s.firesNow p ∨ (s.lkp.eccShut.getLsbD p ∧ (s.govern 1 p s.nowPs).entry = s.get (LKP.GATE_STATUS_ENTRY p)) then s
  else s.gateEntryStart p .ok

/-- A step: working time takes the new value, and every sequencer the position that it gives. -/
def State.timeStep (s : State) : State :=
  let q := s.nowQ
  let s := s.timStep
  let s := (((s.spansMoved ((s.nowQ : Int) - q)).tioReposition).packReposition).commitJump q
  s.each (List.range 16) State.gateReposition

/-- OP = SET: a load before release, a step after it while TIME_SET is 0. -/
def State.wtSet (s : State) : State :=
  if !s.released then { s with tim := { s.tim with loadPend := some s.setTarget } }
  else if s.bit TIM.TIM_STATUS_TIME_SET then s.raise TIM.TIM_EVENT_STEP_REJECTED
  else s.timeStep

def execWtSet (ini : Initiator) (s : State) : Host.Outcome State Fault Refusal := .next (s.writeAt ini TIM.WT_SET_CMD fun s => s.wtSet)

/-- OP = STEP: accepted only with STEP_EN. -/
def State.wtStep (s : State) : State := if s.bit TIM.TIM_CTRL_STEP_EN then s.timeStep else s.raise TIM.TIM_EVENT_STEP_REJECTED

def execWtStep (ini : Initiator) (s : State) : Host.Outcome State Fault Refusal := .next (s.writeAt ini TIM.WT_SET_CMD fun s => s.wtStep)

end Sys2Proof.Machine
end

