-- ==== Sys2Proof/Machine/Bus.lean ====
section
/-! DEFINITION. Bus.lean: the register space as a bus sees it (chapters 00 and 20): the value that a read of a register returns, what a
write to any register does, counters and holding registers, and the accesses of the JTAG system bus and of the peer bridge. -/
namespace Sys2Proof.Machine

/-! ### Values that are formed when they are read -/

def flag (b : Bool) (k : Nat) : Nat := if b then 2 ^ k else 0

/-- Bits of a list of conditions, bit k from element k. -/
def bitsWhere (n : Nat) (f : Nat → Bool) : Word := word ((List.range n).foldl (fun m k => if f k then m + 2 ^ k else m) 0)

def State.timValue (s : State) (ini : Initiator) (a : Nat) : Word :=
  let d := a % 0x100000 / 0x80 - 2
  if a = TIM.PHASE_REMAIN then s.phaseRemain
  else if a = TIM.HOLDOVER_TIME then s.holdoverTime
  else if a % 0x100000 < 0x100 ∨ 0x200 ≤ a % 0x100000 then s.rd a
  else if a = TIM.DOM_OFF_LO d then wordS (s.dom d).off16
  else if a = TIM.DOM_OFF_HI d then s.held ini (TIM.DOM_OFF_LO d)
  else if a = TIM.DOM_RATE d then wordS (s.dom d).rate
  else if a = TIM.SYNC_FIFO_STAT d then word (s.dom d).fifo.length
  else if TIM.SYNC_REC d 0 ≤ a ∧ a ≤ TIM.SYNC_REC d 9 then s.syncRec d ((a - TIM.SYNC_REC d 0) / 4)
  else s.rd a

def State.tioValue (s : State) (a : Nat) : Word :=
  let p := (a % 0x100000 - 0x100) / 0x80
  let x := s.pin p
  if a = TIO.TIO_EVENT_SUM then bitsWhere 16 fun p => s.rd (TIO.PIN_EVENT p) != 0
  else if a = TIO.PIN_STATUS p then word (flag x.masked 3 + flag x.level 2 + flag x.driving 1 + flag x.train.isSome 0)
  else if a = TIO.FIFO_LEVEL p then word x.fifo.length
  else if a = TIO.CAP_INFO p ∨ a = TIO.CAP_NS p ∨ a = TIO.CAP_SEC_LO p ∨ a = TIO.CAP_SEC_HI p then
    match s.capHead p with
    | some e =>
      if a = TIO.CAP_INFO p then word (flag e.2 1 + 1)
      else if a = TIO.CAP_NS p then word (nsOf e.1 * 4 + qnsOf e.1)
      else if a = TIO.CAP_SEC_LO p then word (secOf e.1)
      else word (secOf e.1 / 4294967296 % 65536)
    | none => 0
  else s.rd a

/-- Entries of the slow-path queue that have been delivered: their frames are verified (R112). -/
def State.spLevel (s : State) : Nat :=
  (s.slc.slow.filter fun e => match s.frame? e.fid with | some f => f.verified | none => true).length

def State.bsnValue (s : State) (a : Nat) : Word :=
  let i := (a % 0x100000 - 0x1000) / 0x100
  if a % 0x100000 < 0x1000 ∨ 0x2000 ≤ a % 0x100000 then s.rd a
  else if BSN.FREE i 0 ≤ a ∧ a ≤ BSN.FREE i 3 then word (s.freeCount i ((a - BSN.FREE i 0) / 4))
  else if a = BSN.DESC_FREE i then word (s.descFree i)
  else if a = BSN.ARRIVAL_LEVEL i then word (s.arrivalLevel i)
  else s.rd a

def State.canValue (s : State) (a : Nat) : Word :=
  let c := (a % 0x100000 - 0x1000) / 0x100
  if a = CAN.CAN_EVENT_SUM then bitsWhere 16 fun c => s.rd (CAN.CH_EVENT c) != 0
  else if a = CAN.FIFO_LEVEL c then
    word ((s.can c).rx.length * 16777216 + (List.range 4).foldl (fun n f => n + ((s.can c).fifo f).length * 64 ^ f) 0)
  else s.rd a

def State.cphValue (s : State) (ini : Initiator) (a : Nat) : Word :=
  let c := (a % 0x100000 - 0x800) / 16
  if a = CPH.LA_STATUS then word (s.laCount 0 * 16777216 + s.laCount 1 * 65536 + s.laCount 2 * 256)
  else if a = CPH.LA_RES_LEVEL then word s.la.resCtrl.length
  else if a = CPH.SEC_LA_RES_LEVEL then word s.la.resSec.length
  else if CPH.LA_RES 0 ≤ a ∧ a ≤ CPH.LA_RES 7 then (s.la.resCtrl.headD []).getD ((a - CPH.LA_RES 0) / 4) 0
  else if CPH.SEC_LA_RES 0 ≤ a ∧ a ≤ CPH.SEC_LA_RES 7 then (s.la.resSec.headD []).getD ((a - CPH.SEC_LA_RES 0) / 4) 0
  else if a = CPH.LA_CTR_HI c ∧ c < 16 then s.held ini (CPH.LA_CTR_LO c)
  else s.rd a

def State.cpuValue (s : State) (ini : Initiator) (a : Nat) : Word :=
  if a = CPU.MTIME_LO then word s.cpu.mtime
  else if a = CPU.MTIME_HI then s.held ini CPU.MTIME_LO
  else if a = CPU.LS_CFG_SEC_RESTART.addr ∧ ini ≠ .sec then s.rd a &&& ~~~2
  else s.rd a

/-- UPD_STATUS as an initiator sees it (R351, R352). -/
def State.updStatus (s : State) (ini : Initiator) : Word :=
  match updNo ini with
  | some n => word (flag s.upd.run.isSome 31 + s.upd.results.getD n 0 * 16777216 + (if s.upd.owner = some n then s.upd.session else 0))
  | none => word (flag s.upd.run.isSome 31)

def State.updValue (s : State) (ini : Initiator) (a : Nat) : Word :=
  if a = UPD.UPD_STATUS then s.updStatus ini
  else if a = UPD.UPD_SESS_HELD.addr then
    word ((s.rd a).toNat % 67108864 + flag s.upd.owner.isSome 31 + (s.upd.owner.getD 0) * 67108864)
  else if a = UPD.UPD_BANKS then s.boot.record.word2 &&& 0xFFF
  else if a = UPD.BS_SEQ then word s.boot.record.seq
  else s.rd a

def State.wakValue (s : State) (ini : Initiator) (a : Nat) : Word :=
  if a = WAK.SLEEP_STATUS_STATE.addr then s.rd a ||| word ((bitsWhere 8 s.grpAsleep).toNat * 65536)
  else if a = WAK.AO_TIME_LO then word s.wak.ao
  else if a = WAK.AO_TIME_HI then s.held ini WAK.AO_TIME_LO
  else if a = WAK.KA_LEVEL then word s.wak.ka.length
  else if WAK.KA_LOG 0 ≤ a ∧ a ≤ WAK.KA_LOG 3 then s.kaWord ((a - WAK.KA_LOG 0) / 4)
  else s.rd a

def State.restValue (s : State) (a : Nat) : Word :=
  match a / 0x100000 with
  | 0 =>
    if a = SYS.SYS_ID then word (0x92160000 + Config.siliconRev.toNat * 256 + (s.rd a).toNat % 256)
    else if SYS.UID 0 ≤ a ∧ a ≤ SYS.UID 3 then Config.uid ((a - SYS.UID 0) / 4) else s.rd a
  | 4 => if a = SLC.SP_LEVEL then word s.spLevel else s.rd a
  | 5 => if a = STR.EVQ_LEVEL then word s.str.evq.length else if a = STR.EVQ_DATA then s.str.evq.headD 0 else s.rd a
  | 8 =>
    let o := (a % 0x100000 - 0x1000) / 0x100
    if 0x1000 ≤ a % 0x100000 ∧ LKP.SHP_LEVEL_TC o 0 ≤ a ∧ a ≤ LKP.SHP_LEVEL_TC o 7 then s.shpLevel o ((a - LKP.SHP_LEVEL_TC o 0) / 4) else s.rd a
  | 10 => if a = GWE.EVQ_LEVEL then word s.gwe.evq.length else if a = GWE.EVQ_DATA then s.gwe.evq.headD 0 else s.rd a
  | 13 =>
    if a = TWP.PAIR_STATUS_SYNCED.addr then s.rd a ||| word (flag s.gapOpen 11 + flag s.synced 9)
    else if a = TWP.CLAIM_STATUS_OWN.addr then word (s.ownClaim * 65536 + s.peerClaim) else s.rd a
  | 15 =>
    if a = BRG.PERR_LEVEL then word s.brg.perr.length
    else if BRG.PERR_LOG 0 ≤ a ∧ a ≤ BRG.PERR_LOG 3 then s.perrWord ((a - BRG.PERR_LOG 0) / 4) else s.rd a
  | 19 =>
    if a = FLT.FLT_STATUS_ALARM.addr then s.rd a ||| word s.fltLog.length
    else if FLT.FLT_LOG 0 ≤ a ∧ a ≤ FLT.FLT_LOG 2 then s.logWord ((a - FLT.FLT_LOG 0) / 4) else s.rd a
  | _ => s.rd a

/-- Bits of a register that read as zero: its WO fields (R4). -/
def woBits (a : Nat) : Word := match regAt a with | some r => r.bitsWith (· == .wo) | none => 0

/-- What a read of a register returns to an initiator. -/
def State.busValue (s : State) (ini : Initiator) (a : Nat) : Word :=
  (match a / 0x100000 with
    | 1 => s.timValue ini a | 2 => s.tioValue a | 6 => s.bsnValue a | 9 => s.canValue a | 11 => s.cphValue ini a
    | 14 => s.cpuValue ini a | 16 => s.updValue ini a | 17 => s.wakValue ini a | _ => s.restValue a) &&& ~~~(woBits a)

/-! ### Counters and latched pairs (R5, R394) -/

/-- Which counter's high word stands at an address. -/
def cntHigh (a : Nat) : Bool := decide (4 ≤ a) && (cntAt (a - 4)).isSome

/-- A low-power-idle counter is brought up to date before it is read (R85). -/
def State.cntReady (s : State) (a : Nat) : State :=
  let p := a % 0x100000 / 0x1000
  if a / 0x100000 ≠ 3 then s
  else if a = MAC.LPI_TX_US p then s.lpiFold p true
  else if a = MAC.LPI_RX_US p then s.lpiFold p false
  else s

/-- The low-word read of a counter: the low word, the high word to the initiator's holding register, and the counter at zero. -/
def State.cntRead (s : State) (ini : Initiator) (a : Nat) : Word × State :=
  let s := s.cntReady a
  let v := (s.cnt a).toNat
  (word v, (s.setHeld ini a (word (v / 4294967296))).setCnt a 0)

/-- The 64-bit value of which an address is the low word: DOM_OFF, MTIME, AO_TIME and LA_CTR. -/
def State.pairValue (s : State) (a : Nat) : Option Nat :=
  let c := (a % 0x100000 - 0x800) / 16
  if a = TIM.DOM_OFF_LO 0 then some (BitVec.ofInt 64 (s.dom 0).off16).toNat
  else if a = TIM.DOM_OFF_LO 1 then some (BitVec.ofInt 64 (s.dom 1).off16).toNat
  else if a = CPU.MTIME_LO then some s.cpu.mtime
  else if a = WAK.AO_TIME_LO then some s.wak.ao
  else if a / 0x100000 = 11 ∧ 0x800 ≤ a % 0x100000 ∧ a % 0x100000 < 0x900 ∧ a = CPH.LA_CTR_LO c then some (s.laCtr c)
  else none

/-- The low-word read of such a pair. -/
def State.pairRead (s : State) (ini : Initiator) (a v : Nat) : Word × State := (word v, s.setHeld ini a (word (v / 4294967296)))

/-! ### Reads that do something -/

def State.fetchBus (s : State) (ini : Initiator) (a : Nat) : Word × State :=
  let off := a % 0x100000
  let v := s.busValue ini a
  if (cntAt a).isSome then s.cntRead ini a
  else if cntHigh a then (s.held ini (a - 4), s)
  else match s.pairValue a with
  | some n => s.pairRead ini a n
  | none =>
    match a / 0x100000 with
    | 1 =>
      let p := (off - 0x400) / 0x80
      let d := off / 0x80 - 2
      if off < 0x400 then (if a = TIM.SYNC_REC d 9 ∧ 0x100 ≤ off then s.syncRecPop d else (v, s))
      else match [0, 1, 2].find? fun r => lttInfo p r == a with
        | some r => s.lttRead p r
        | none => (v, s)
    | 2 => let p := (off - 0x100) / 0x80; if 0x100 ≤ off ∧ a = TIO.CAP_SEC_HI p then s.capPop p else (v, s)
    | 5 => if a = STR.EVQ_DATA then s.evqPop else (v, s)
    | 10 => if a = GWE.EVQ_DATA then s.gwPop else (v, s)
    | 11 => if a = CPH.LA_RES 7 then s.laResultPop false else if a = CPH.SEC_LA_RES 7 then s.laResultPop true else (v, s)
    | 15 => if a = BRG.PERR_LOG 3 then s.perrPop else (v, s)
    | 17 => if a = WAK.KA_LOG 3 then s.kaPop else (v, s)
    | 19 => if a = FLT.FLT_LOG 2 then s.logPop else (v, s)
    | _ => (v, s)

/-! ### Command registers -/

def State.timCmd (s : State) (a : Nat) (w : Word) : Option State :=
  let d := a % 0x100000 / 0x80 - 2
  if a = TIM.WT_SET_CMD then some (if bitsOf w 1 0 = 1 then s.wtSet else if bitsOf w 1 0 = 2 then s.wtStep else s)
  else if a = TIM.WT_SNAP_CMD then some (if bitsOf w 0 0 = 1 then s.wtSnap else s)
  else if a = TIM.WT_ADJ then some (s.wtAdj w)
  else if a % 0x100000 < 0x100 ∨ 0x200 ≤ a % 0x100000 then none
  else if a = TIM.DOM_OFF_ADJ d then some (s.domOffAdj d w)
  else if a = TIM.DOM_RATE_ADJ d then some (s.domRateAdj d w)
  else if a = TIM.DOM_SET_HI d then some (s.domSetHi d w)
  else none

def State.tioCmd (s : State) (a : Nat) (w : Word) : Option State :=
  let p := (a % 0x100000 - 0x100) / 0x80
  if a % 0x100000 < 0x100 ∨ a ≠ TIO.PIN_CMD p then none else
  some (match bitsOf w 1 0 with | 1 => s.pinArm p | 2 => s.pinStop p | 3 => s.pinRelease p | _ => s)

/-- TBL_CMD and the data window of a block: `n` words in the window. -/
def State.windowCmd (s : State) (ini : Initiator) (bit base n a : Nat) (w : Word) (busy : Bool) (run : State → State) : Option State :=
  if a = base + 0x100 then some (s.tableAct ini bit busy run)
  else if base + 0x200 ≤ a ∧ a < base + 0x200 + 4 * n then some (s.tableAct ini bit busy fun s => s.wr a w)
  else none

def State.slcCmdReg (s : State) (ini : Initiator) (a : Nat) (w : Word) : Option State :=
  if a = SLC.VER_CMD then
    some (match bitsOf w 2 0 with
      | 1 => s.verOpen | 2 => s.verCommitNow | 3 => s.verCommitAt (bitsOf w 3 3 == 1) | 4 => s.verCancel | 5 => s.verAbandon | _ => s)
  else s.windowCmd ini 0 0x400000 32 a w s.slcBusy fun s => s.slcCmd w .ok

def State.lkpCmdReg (s : State) (ini : Initiator) (a : Nat) (w : Word) : Option State :=
  if a = LKP.CHANGE_CMD then
    some (match bitsOf w 17 16 with | 1 => s.changeArm (bitsOf w 15 0) (bitsOf w 18 18 == 1) | 2 => s.gateCancel | _ => s)
  else s.windowCmd ini 3 0x800000 20 a w false fun s => s.lkpRun w .ok

def State.crsCmdReg (s : State) (ini : Initiator) (a : Nat) (w : Word) : Option State :=
  if a = CRS.PLANE_CMD then
    let pa := bitsOf w 2 2 == 0
    some (match bitsOf w 1 0 with | 1 => s.planeLeaves pa 3 | 2 => s.planeRestore pa | _ => s)
  else s.windowCmd ini 2 0x700000 4 a w false fun s => s.crsRun w .ok

def State.canCmdReg (s : State) (a : Nat) (w : Word) : Option State :=
  let c := (a % 0x100000 - 0x1000) / 0x100
  if a % 0x100000 < 0x1000 then none
  else if a = (CAN.CANCEL_CMD_OP c).addr then
    some (match bitsOf w 1 0 with | 1 => s.canCancel c (bitsOf w 3 2) | 2 => s.canFlush c (bitsOf w 3 2) | _ => s)
  else if a = (CAN.RECOVER_CMD_GO c).addr then some (if bitsOf w 0 0 = 1 then s.canRecover c else s)
  else none

def State.cphCmdReg (s : State) (ini : Initiator) (a : Nat) (w : Word) : Option State :=
  if a = CPH.LA_SUBMIT then some (if bitsOf w 0 0 = 1 then s.laSubmit false else s)
  else if a = CPH.SEC_LA_SUBMIT then some (if bitsOf w 0 0 = 1 then s.laSubmit true else s)
  else if (CPH.LA_REQ 0 ≤ a ∧ a < CPH.LA_REQ 0 + 128) ∨ (CPH.SEC_LA_REQ 0 ≤ a ∧ a < CPH.SEC_LA_REQ 0 + 128) then some (s.wr a w)
  else s.windowCmd ini 5 0xB00000 8 a w false fun s => s.cphRun w .ok

def State.keyCmdReg (s : State) (a : Nat) (w : Word) : Option State :=
  if a = KEY.KEY_CMD then some (s.keyCmd (bitsOf w 31 28) (bitsOf w 9 0))
  else if a = KEY.LC_CMD then some ((s.lcCmd w).endStomped)
  else if a = KEY.OTP_CMD then some (match bitsOf w 1 0 with | 1 => s.arbAdvance w | 2 => s.splitToggle w | _ => s)
  else if KEY.KEY_DATA 0 ≤ a ∧ a ≤ KEY.KEY_DATA 9 then some (s.wr a w)
  else none

def State.twpCmdReg (s : State) (a : Nat) (w : Word) : Option State :=
  if a = TWP.TWP_CMD then
    some (match bitsOf w 2 0 with
      | 1 => s.swapArm | 2 => s.swapCancel | 3 => s.isolateClaim | 4 => s.rejoinPair | 5 => s.resyncAll | _ => s)
  else none

def State.cpuCmdReg (s : State) (a : Nat) (w : Word) : Option State :=
  if a = CPU.CORE_CMD then
    some (match bitsOf w 1 0 with | 1 => s.coreReset false (bitsOf w 31 16) | 2 => s.coreReset true (bitsOf w 31 16) | _ => s)
  else if a = CPU.DBG_AUTH_CMD then
    let scope := bitsOf w 5 4
    some (match bitsOf w 1 0 with
      | 1 => s.dbgAct fun s => s.challenge | 2 => s.dbgAct fun s => s.dbgSubmit scope
      | 3 => s.dbgAct fun s => s.dbgDisable (BitVec.ofNat 2 scope) | _ => s)
  else if CPU.DBG_SIG 0 ≤ a ∧ a ≤ CPU.DBG_SIG 15 then some (s.wr a w)
  else none

def State.brgCmdReg (s : State) (ini : Initiator) (a : Nat) (w : Word) : Option State :=
  if a = BRG.PEER_LOCK_CMD then
    some (match bitsOf w 1 0 with | 1 => s.lockCmd ini 3 | 2 => s.lockCmd ini 4 | 3 => s.lockCmd ini 5 | _ => s)
  else none

/-- SYS_CMD; a LOAD has a row of its own, with the bytes that the host's memory returns. -/
def State.sysCmdReg (s : State) (ini : Initiator) (a : Nat) (w : Word) : Option State :=
  if a = SYS.SYS_CMD then
    some (match bitsOf w 2 0 with
      | 1 => s.sysAct ini false (s.mayRelease ini) fun s => s.release
      | 3 => s.sysAct ini false (mayWarmReset ini (bitsOf w 31 16)) fun s => s.warmReset
      | 4 => s.sysAct ini false s.mayReload fun s => s.reloadStart false
      | 5 => s.sysAct ini false s.mayReload fun s => s.reloadStart true
      | _ => s.sysAct ini false false fun s => s)
  else none

def State.updCmdReg (s : State) (ini : Initiator) (a : Nat) (w : Word) : Option State :=
  let ses := BitVec.ofNat 16 (bitsOf w 31 16)
  if a = UPD.UPD_CMD then
    some (match bitsOf w 3 0 with
      | 1 => s.updAct ini fun n s => s.updOpen n | 2 => s.updAct ini fun n s => s.updClose n ses
      | 3 => s.updAct ini fun n s => s.updBegin n ses | 4 => s.updAct ini fun n s => s.updBlock n ses
      | 5 => s.updAct ini fun n s => s.updVerify n ses
      | 6 => s.updAct ini fun n s => s.updActivate n ses (bitsOf w 7 6) (bitsOf w 5 5 == 1)
      | 7 => s.updAct ini fun n s => s.updConfirm n | 8 => s.updAct ini fun n s => s.updRevert n
      | 9 => s.updAct ini fun n s => s.updRead n | _ => s)
  else if UPD.UPD_DATA 0 ≤ a ∧ a ≤ UPD.UPD_DATA 1023 then some (s.wr a w)
  else none

def State.wakCmdReg (s : State) (a : Nat) (w : Word) : Option State :=
  let g : Fin 8 := Fin.ofNat 8 (bitsOf w 10 8)
  if a ≠ WAK.SLEEP_CMD then none
  else if bitsOf w 31 16 ≠ 0x534C then some s
  else some (match bitsOf w 2 0 with
    | 1 => s.sleepStart none | 2 => s.abortCmd none | 3 => s.sleepStart (some g) | 4 => s.groupWakeCmd g
    | 5 => s.releaseIso (bitsOf w 15 12) | 6 => s.abortCmd (some g) | _ => s)

def State.fltCmdReg (s : State) (a : Nat) (w : Word) : Option State :=
  if a = FLT.FLT_DIRECT then some (s.directClear w)
  else if a = FLT.FLT_FIRST_VALID.addr then some (if bitsOf w 30 30 = 1 then s.firstClr else s)
  else none

/-- A write to a command register or a data window; none for any other register. -/
def State.cmdReg (s : State) (ini : Initiator) (a : Nat) (w : Word) : Option State :=
  match a / 0x100000 with
  | 0 => s.sysCmdReg ini a w | 1 => s.timCmd a w | 2 => s.tioCmd a w | 4 => s.slcCmdReg ini a w
  | 5 => s.windowCmd ini 1 0x500000 16 a w false fun s => s.strRun w .ok
  | 6 => if a = BSN.REL_CMD then some (s.relCmd w) else none
  | 7 => s.crsCmdReg ini a w | 8 => s.lkpCmdReg ini a w | 9 => s.canCmdReg a w
  | 10 => s.windowCmd ini 4 0xA00000 10 a w false fun s => s.gweRun w .ok
  | 11 => s.cphCmdReg ini a w | 12 => s.keyCmdReg a w | 13 => s.twpCmdReg a w | 14 => s.cpuCmdReg a w | 15 => s.brgCmdReg ini a w
  | 16 => s.updCmdReg ini a w | 17 => s.wakCmdReg a w | 19 => s.fltCmdReg a w | _ => none

/-! ### Accesses (R2, R393) -/

/-- How an access that decodes to nothing ends: for the host as an Unsupported Request, which AER reports. -/
def unmappedEnd (ini : Initiator) : BusEnd := match ini with | .host => .unsupported | .peer => .decode | _ => .fault

/-- A wrong size or alignment ends as an Unsupported Request, or as a bus error. -/
def sizeEnd (ini : Initiator) : BusEnd := match ini with | .host => .unsupported | _ => .fault

/-- A write of a word at an aligned address below the apertures. -/
def State.busWrite (s : State) (ini : Initiator) (a : Nat) (w : Word) : BusEnd × State :=
  if !isMapped a then (if ini == .sec && secBarred a then (.fault, s.violation) else (unmappedEnd ini, s)) else
  s.writeEnd ini a fun s => (s.cmdReg ini a w).getD (s.regStore ini false a w)

/-- A read of a word there. -/
def State.busRead (s : State) (ini : Initiator) (a : Nat) : BusEnd × State :=
  if !isMapped a then (if ini == .sec && secBarred a then (.fault, s.violation) else (unmappedEnd ini, s)) else
  s.readEnd ini a fun s => s.fetchBus ini a

/-- The bus result of an access. -/
def State.ended (x : BusEnd × State) (ini : Initiator) : State := x.2.busOut ini x.1

/-- The peer holds the semaphore at this address: the access waits (R328). -/
def State.semHeld (s : State) (a : Nat) : Option Nat := match semOf a with | some n => if s.semLocked n then some n else none | none => none

/-- An access waits for a semaphore. -/
def State.semWait (s : State) (ini : Initiator) (tag : Option Nat) (a : Nat) (w : Option Word) : State :=
  { s with brg := { s.brg with waits := s.brg.waits ++ [{ ini := ini, tag := tag, addr := a, w := w }] } }

/-- An access of `size` bytes at an address of the register space: through an aperture, or to a register (R2, R322). -/
def State.regAccess (s : State) (ini : Initiator) (a size : Nat) (w : Option Word) : State :=
  if 0x1400000 ≤ a then (match w with | some v => s.windowWrite ini a size v | none => s.windowRead ini a size)
  else if size ≠ 4 ∨ a % 4 ≠ 0 then s.busOut ini (sizeEnd ini)
  else match (if ini = .sec then none else s.semHeld a) with
    | some _ => s.semWait ini none a w
    | none => State.ended (match w with | some v => s.busWrite ini a v | none => s.busRead ini a) ini

/-- REGISTER_WRITE. -/
def State.registerWrite (s : State) (ini : Initiator) (a size : Nat) (w : Word) : State :=
  if s.mute ini then s else s.regAccess ini a size (some w)

def execRegisterWrite (ini : Initiator) (addr : BitVec 25) (size : Nat) (value : Word) (s : State) : Host.Outcome State Fault Refusal :=
  .next (s.registerWrite ini addr.toNat size value)

/-- A write of an EVENT register (R385). -/
def State.eventClear (s : State) (ini : Initiator) (a : Nat) (w : Word) : State :=
  match eventAt a with
  | some e => if e = a then s.writeAt ini a fun s => s.regStore ini false a w else s
  | none => s

def execEventClear (ini : Initiator) (addr : BitVec 25) (value : Word) (s : State) : Host.Outcome State Fault Refusal :=
  .next (s.eventClear ini addr.toNat value)

/-- A low-word read of a counter (R5). -/
def State.counterLow (s : State) (ini : Initiator) (a : Nat) : State :=
  if (cntAt a).isSome then s.readAt ini a fun s => s.cntRead ini a else s

def execCounterLowRead (ini : Initiator) (addr : BitVec 25) (s : State) : Host.Outcome State Fault Refusal :=
  .next (s.counterLow ini addr.toNat)

/-- A low-word read of DOM_OFF, MTIME, AO_TIME or LA_CTR (R394). -/
def State.holdingLow (s : State) (ini : Initiator) (a : Nat) : State :=
  match s.pairValue a with
  | some v => s.readAt ini a fun s => s.pairRead ini a v
  | none => s

def execHoldingLowRead (ini : Initiator) (addr : BitVec 25) (s : State) : Host.Outcome State Fault Refusal :=
  .next (s.holdingLow ini addr.toNat)

/-! ### Accesses through a pair's address map (R302 to R304, R313, R398) -/

/-- Where Table 14.1 puts an access of a pair: 0 code RAM, 1 data RAM, 2 boot ROM, 3 the register space, with the offset there. -/
def coreRegion (sec : Bool) (a size : Nat) : Option (Nat × Nat) :=
  if a + size ≤ (if sec then 0x20000 else 0x100000) then some (0, a)
  else if 0x10000000 ≤ a ∧ a + size ≤ 0x10000000 + (if sec then 0x10000 else 0x80000) then some (1, a - 0x10000000)
  else if 0x20000000 ≤ a ∧ a + size ≤ 0x20000000 + (if sec then 0x8000 else 0x10000) then some (2, a - 0x20000000)
  else if 0x40000000 ≤ a ∧ a + size ≤ 0x42000000 then some (3, a - 0x40000000) else none

/-- An access to a RAM of a pair (0 control, 1 security). -/
def State.ramAccess (s : State) (ini : Initiator) (pair a size : Nat) (w : Option Word) : State :=
  match w with
  | some v => (s.memStore pair a (bytesLE size v)).emit (.bus ini .done)
  | none => s.emit (.bus ini (.data (word ((s.memBytes pair a size).reverse.foldl (fun n b => n * 256 + b.toNat) 0))))

/-- A read of a boot ROM, whose contents are not in the spec: a free value (assumption 3). A write of it is an access fault. -/
def State.romAccess (s : State) (ini : Initiator) (size : Nat) (w : Option Word) : State :=
  match w with
  | some _ => s.emit (.bus ini .fault)
  | none => let x := s.draw; x.2.emit (.bus ini (.data (word (x.1.toNat % 256 ^ size))))

/-- An access through the map of a pair; outside the listed regions it is an access fault (R302). -/
def State.mapAccess (s : State) (ini : Initiator) (sec : Bool) (a size : Nat) (w : Option Word) : State :=
  match coreRegion sec a size with
  | none => s.emit (.bus ini .fault)
  | some (3, r) => s.regAccess ini r size w
  | some (2, _) => s.romAccess ini size w
  | some _ => s.ramAccess ini (if sec then 1 else 0) a size w

/-- The access reads its memory word: a read, or a write of less than the word. -/
def readsWord (size : Nat) (w : Option Word) : Bool := w.isNone || size != 4

/-- Sizes of an access through a pair's map. -/
def coreSize (n : Nat) : Bool := n == 1 || n == 2 || n == 4

/-- An access of a core with the condition of the memory word it meets: a correctable error of a RAM is counted and corrected; any other,
and every error of a ROM, which has parity alone, ends as an access fault of both copies (R304). -/
def State.coreMem (s : State) (ini : Initiator) (a size : Nat) (w : Option Word) (ecc : EccState) : State :=
  let sec := ini == .sec
  if s.mute ini ∨ (ini ≠ .hart0 ∧ ini ≠ .hart1 ∧ ini ≠ .sec) then s
  else if coreSize size = false ∨ a % size ≠ 0 then s.emit (.bus ini .fault)
  else match coreRegion sec a size with
  | some (m, off) =>
    if ecc = .ok ∨ 2 < m ∨ (m < 2 ∧ readsWord size w = false) ∨ (m = 2 ∧ w.isSome) then s.mapAccess ini sec a size w
    else if ecc = .corrected ∧ m < 2 then (s.memCorrected).mapAccess ini sec a size w
    else (s.memFailed (m + if sec then 3 else 0) off).emit (.bus ini .fault)
  | none => s.emit (.bus ini .fault)

def execCoreMemError (ini : Initiator) (addr : Word) (size : Nat) (w : Option Word) (ecc : EccState) (s : State) :
    Host.Outcome State Fault Refusal := .next (s.coreMem ini addr.toNat size w ecc)

/-! ### Held outputs of a pair (R305) -/

/-- The bus request that the main copy holds is made: PMP lets it through or not (R301), and a write takes the lanes of its data. -/
def State.heldAccess (s : State) (sec : Bool) (a d size : Nat) (write machine : Bool) : State :=
  let ini : Initiator := if sec then .sec else .hart0
  if s.mute ini then s
  else if !s.pmpAllows (if sec then 2 else 0) a write machine then s.emit (.bus ini .fault)
  else s.coreMem ini a size (if write then some (word (d / 256 ^ (a % 4) % 256 ^ size)) else none) .ok

/-- The held output of the main copy is released: a register or CSR write is made, a bus request is sent (R305). -/
def State.release_ (s : State) (sec : Bool) : CoreItem → State
  | .gpr n v => s.setGpr (if sec then 2 else 0) n v
  | .csr a v => s.setCsr (if sec then 2 else 0) a.toNat v
  | .bus a d _ size write machine => s.heldAccess sec a.toNat d.toNat size write machine

/-- The checker has its output of the same instruction: the same item releases the main copy's, anything else is a mismatch, recorded by
the main copy's item, or by the checker's where the main copy has none (R305, R306). -/
def State.checked (s : State) (sec : Bool) (main checker : Option CoreItem) (pc : Word) : State :=
  match main, checker with
  | some a, some b =>
    if a = b then (if 0 < s.get (pairState sec) ∨ (!sec ∧ s.split) ∨ s.pllLost 1 then s else s.release_ sec a)
    else s.mismatch sec (itemKind a) (itemIndex a) pc
  | some a, none => s.mismatch sec (itemKind a) (itemIndex a) pc
  | none, some b => s.mismatch sec (itemKind b) (itemIndex b) pc
  | none, none => s

def execLockstepMismatch (sec : Bool) (main checker : Option CoreItem) (pc : Word) (s : State) : Host.Outcome State Fault Refusal :=
  .next (s.checked sec main checker pc)

/-- A system-bus access through the control pair's map (R313): 8, 16 or 32 bits, naturally aligned; the apertures, which the debugger
does not reach, end with an error. -/
def State.sysbus (s : State) (a size : Nat) (w : Option Word) : State :=
  if s.mute .jtag then s
  else if coreSize size = false ∨ a % size ≠ 0 then s.emit (.bus .jtag .fault)
  else s.mapAccess .jtag false a size w

def execDebugSysbusAccess (addr : Word) (size : Nat) (w : Option Word) (s : State) : Host.Outcome State Fault Refusal :=
  .next (s.sysbus addr.toNat size w)

/-! ### Inbound accesses of the peer (R326 to R328) -/

/-- STATUS of a result: 0 OK, 1 DECODE. -/
def endStatus : BusEnd → Nat | .data _ => 0 | .done => 0 | _ => 1
def endData : BusEnd → Word | .data v => v | _ => 0

/-- 16 requests of the peer that have been accepted wait: a further READ or WRITE is not taken yet (R327, assumption 152). -/
def State.inboundFull (s : State) : Bool := decide (16 ≤ (s.brg.waits.filter fun x => x.tag.isSome).length)

/-- A WRITE of the peer waits for a semaphore: a READ behind it waits too, so that it passes no earlier write of its window (R326; the request
names no initiator, assumption 152). -/
def State.peerWriteWaits (s : State) : Bool := s.brg.waits.any fun x => x.tag.isSome && x.w.isSome

/-- A READ of the peer, made with the rights of a host access and answered; the apertures decode to no register of the target. -/
def State.peerRead (s : State) (tag a : Nat) : State :=
  let x := if 0x1400000 ≤ a ∨ a % 4 ≠ 0 then (BusEnd.decode, s) else s.busRead .peer a
  x.2.twSend 3 0x30 (bridgeWords 8 (endStatus x.1) tag a (endData x.1))

/-- READ: it waits for a locked semaphore, or behind a WRITE that does. -/
def State.bridgeRead (s : State) (h : TwHead) (ws : List Word) : State :=
  if s.inboundFull then s else
  s.twGet 3 h fun s =>
    let s := s.bump BRG.PEER_IN_CNT
    let tag := bitsOf (ws.getD 0 0) 23 16
    let a := bitsOf (ws.getD 1 0) 24 0
    if (s.semHeld a).isSome ∨ s.peerWriteWaits then s.semWait .peer (some tag) a none else s.peerRead tag a

def execBridgeReadReceived (h : TwHead) (ws : List Word) (s : State) : Host.Outcome State Fault Refusal := .next (s.bridgeRead h ws)

/-- WRITE: applied, or answered POSTED_FAIL with DECODE. -/
def State.bridgeWrite (s : State) (h : TwHead) (ws : List Word) : State :=
  if s.inboundFull then s else
  s.twGet 3 h fun s =>
    let s := s.bump BRG.PEER_IN_CNT
    let w := ws.getD 0 0
    let a := bitsOf (ws.getD 1 0) 24 0
    let v := ws.getD 2 0
    let fail := fun (s : State) => s.twSend 3 0x30 (bridgeWords 9 1 (bitsOf w 23 16) a 0)
    if 0x1400000 ≤ a ∨ a % 4 ≠ 0 then fail s
    else match s.semHeld a with
      | some _ => s.semWait .peer (some (bitsOf w 23 16)) a (some v)
      | none => let x := s.busWrite .peer a v; if endStatus x.1 = 0 then x.2 else fail x.2

def execBridgeWriteReceived (h : TwHead) (ws : List Word) (s : State) : Host.Outcome State Fault Refusal := .next (s.bridgeWrite h ws)

/-- What waited is served: an access to the semaphore, or a READ of the peer behind one. -/
def State.waitServe (s : State) (x : SemWait) : State :=
  match x.tag, x.w with
  | some t, none => s.peerRead t x.addr
  | _, _ => s.semServe x

/-- The closing request of a locked sequence, with or without a write; without the lock it is answered ERR_LOCK (R328). The write is one of the
peer, which is ignored and recorded before stage RUN (R344). -/
def State.bridgeUnlock (s : State) (h : TwHead) (ws : List Word) (write : Bool) : State :=
  s.twGet 3 h fun s =>
    let s := s.bump BRG.PEER_IN_CNT
    let w := ws.getD 0 0
    let a := bitsOf (ws.getD 1 0) 24 0
    match semOf a with
    | none => s.bridgeAnswer w 1 a 0
    | some n =>
      if !s.semLocked n then s.bridgeAnswer w 4 a 0 else
      let s := if write then (s.writeEnd .peer a fun s => s.wr a (ws.getD 2 0)).2 else s
      (s.lockRelease State.waitServe).bridgeAnswer w 0 a 0

def execBridgeWriteUnlockReceived (h : TwHead) (ws : List Word) (s : State) : Host.Outcome State Fault Refusal :=
  .next (s.bridgeUnlock h ws true)
def execBridgeUnlockReceived (h : TwHead) (ws : List Word) (s : State) : Host.Outcome State Fault Refusal :=
  .next (s.bridgeUnlock h ws false)

/-- LOCK_TIMEOUT has passed since the grant (R328). -/
def State.lockTimedOut (s : State) : State :=
  match s.brg.lockIn with
  | none => s
  | some (_, t) =>
    if s.nowQ < t + s.lockTimeout then s
    else ((s.lockRelease State.waitServe).bump BRG.LOCK_TIMEOUT_CNT).raise BRG.BRG_EVENT_LOCK_TIMEOUT

def execLockTimeoutExpiry (s : State) : Host.Outcome State Fault Refusal := .next s.lockTimedOut

end Sys2Proof.Machine
end

