-- ==== Sys2Proof/Machine/Dispatch.lean ====
section
/-! DEFINITION. Dispatch.lean: one arm per command. -/
namespace Sys2Proof.Machine

/-- The effect of a command on everything but the queue. -/
def exec (i : Instr) (s : State) : Host.Outcome State Fault Refusal :=
  match i with
  | .registerWrite ini addr size value => Sys2Proof.Machine.execRegisterWrite ini addr size value s
  | .eventClear ini addr value => Sys2Proof.Machine.execEventClear ini addr value s
  | .counterLowRead ini addr => Sys2Proof.Machine.execCounterLowRead ini addr s
  | .holdingLowRead ini addr => Sys2Proof.Machine.execHoldingLowRead ini addr s
  | .timeTick => Sys2Proof.Machine.execTimeTick s
  | .alignmentComplete => Sys2Proof.Machine.execAlignmentComplete s
  | .trackerTimeout d => Sys2Proof.Machine.execTrackerTimeout d s
  | .revertDelayExpiry => Sys2Proof.Machine.execRevertDelayExpiry s
  | .holdoverLimitExpiry => Sys2Proof.Machine.execHoldoverLimitExpiry s
  | .wtIncrWrite ini value => Sys2Proof.Machine.execWtIncrWrite ini value s
  | .wtAdjWrite ini value => Sys2Proof.Machine.execWtAdjWrite ini value s
  | .wtSet ini => Sys2Proof.Machine.execWtSet ini s
  | .wtStep ini => Sys2Proof.Machine.execWtStep ini s
  | .wtSnap ini => Sys2Proof.Machine.execWtSnap ini s
  | .domOffAdjWrite ini d value => Sys2Proof.Machine.execDomOffAdjWrite ini d value s
  | .domRateAdjWrite ini d value => Sys2Proof.Machine.execDomRateAdjWrite ini d value s
  | .domSetHiWrite ini d value => Sys2Proof.Machine.execDomSetHiWrite ini d value s
  | .syncReceive d port frame t2 => Sys2Proof.Machine.execSyncReceive d port frame t2 s
  | .followUpReceive d port frame => Sys2Proof.Machine.execFollowUpReceive d port frame s
  | .syncRecRead ini d => Sys2Proof.Machine.execSyncRecRead ini d s
  | .lttInfoRead ini port rec => Sys2Proof.Machine.execLttInfoRead ini port rec s
  | .pinModeWrite ini pin value => Sys2Proof.Machine.execPinModeWrite ini pin value s
  | .pinArm ini pin => Sys2Proof.Machine.execPinArm ini pin s
  | .pinStop ini pin => Sys2Proof.Machine.execPinStop ini pin s
  | .pinRelease ini pin => Sys2Proof.Machine.execPinRelease ini pin s
  | .pulseLeadingEdge pin => Sys2Proof.Machine.execPulseLeadingEdge pin s
  | .pulseTrailingEdge pin => Sys2Proof.Machine.execPulseTrailingEdge pin s
  | .pairedEnableChange pin => Sys2Proof.Machine.execPairedEnableChange pin s
  | .inputEdge pin high phase => Sys2Proof.Machine.execInputEdge pin high phase s
  | .edgeFilterExpiry pin => Sys2Proof.Machine.execEdgeFilterExpiry pin s
  | .inputStuckTimeout pin => Sys2Proof.Machine.execInputStuckTimeout pin s
  | .capSecHiRead ini pin => Sys2Proof.Machine.execCapSecHiRead ini pin s
  | .evtHoldExpiry pin => Sys2Proof.Machine.execEvtHoldExpiry pin s
  | .markerEnableWrite ini value => Sys2Proof.Machine.execMarkerEnableWrite ini value s
  | .markerInstant => Sys2Proof.Machine.execMarkerInstant s
  | .pcsCfgWrite ini port value => Sys2Proof.Machine.execPcsCfgWrite ini port value s
  | .autonegWordReceived port speed half => Sys2Proof.Machine.execAutonegWordReceived port speed half s
  | .pcsLockGained port => Sys2Proof.Machine.execPcsLockGained port s
  | .linkUp port => Sys2Proof.Machine.execLinkUp port s
  | .linkDown port => Sys2Proof.Machine.execLinkDown port s
  | .fecCodewordReceived port uncorrectable => Sys2Proof.Machine.execFecCodewordReceived port uncorrectable s
  | .frameRxStart port phase head => Sys2Proof.Machine.execFrameRxStart port phase head s
  | .frameRxEnd port rest fcsOk pcsOk => Sys2Proof.Machine.execFrameRxEnd port rest fcsOk pcsOk s
  | .pfcReceived port enable times => Sys2Proof.Machine.execPfcReceived port enable times s
  | .pauseReceived port time => Sys2Proof.Machine.execPauseReceived port time s
  | .pfcPauseExpiry port tc => Sys2Proof.Machine.execPfcPauseExpiry port tc s
  | .ctThreshWrite ini port value => Sys2Proof.Machine.execCtThreshWrite ini port value s
  | .txStart port desc => Sys2Proof.Machine.execTxStart port desc s
  | .txEnd port record => Sys2Proof.Machine.execTxEnd port record s
  | .underrun port => Sys2Proof.Machine.execUnderrun port s
  | .verifyTimerExpiry port => Sys2Proof.Machine.execVerifyTimerExpiry port s
  | .verifyMpacketReceived port => Sys2Proof.Machine.execVerifyMpacketReceived port s
  | .respondMpacketReceived port => Sys2Proof.Machine.execRespondMpacketReceived port s
  | .preemption port => Sys2Proof.Machine.execPreemption port s
  | .fragmentReceived port phase data count initial final crcOk pcsOk => Sys2Proof.Machine.execFragmentReceived port phase data count initial final crcOk pcsOk s
  | .lpiEnter port => Sys2Proof.Machine.execLpiEnter port s
  | .lpiExit port => Sys2Proof.Machine.execLpiExit port s
  | .pfcXon port tc => Sys2Proof.Machine.execPfcXon port tc s
  | .pfcRefreshExpiry port tc => Sys2Proof.Machine.execPfcRefreshExpiry port tc s
  | .pfcFrameSend port => Sys2Proof.Machine.execPfcFrameSend port s
  | .sluiceResolve fid bad => Sys2Proof.Machine.execSluiceResolve fid bad s
  | .versionOpen ini => Sys2Proof.Machine.execVersionOpen ini s
  | .openSweepDone => Sys2Proof.Machine.execOpenSweepDone s
  | .versionCommitNow ini => Sys2Proof.Machine.execVersionCommitNow ini s
  | .versionCommitAt ini link => Sys2Proof.Machine.execVersionCommitAt ini link s
  | .versionCancel ini => Sys2Proof.Machine.execVersionCancel ini s
  | .versionAbandon ini => Sys2Proof.Machine.execVersionAbandon ini s
  | .commitFire => Sys2Proof.Machine.execCommitFire s
  | .versionRetire v => Sys2Proof.Machine.execVersionRetire v s
  | .ruleSweepDone => Sys2Proof.Machine.execRuleSweepDone s
  | .slcTblRead ini cmd ecc => Sys2Proof.Machine.execSlcTblRead ini cmd ecc s
  | .slcTblWrite ini cmd => Sys2Proof.Machine.execSlcTblWrite ini cmd s
  | .slcTblHash ini cmd => Sys2Proof.Machine.execSlcTblHash ini cmd s
  | .slcTblMove ini cmd => Sys2Proof.Machine.execSlcTblMove ini cmd s
  | .slcTblLookup ini cmd => Sys2Proof.Machine.execSlcTblLookup ini cmd s
  | .streamStages fid bad => Sys2Proof.Machine.execStreamStages fid bad s
  | .meterRefill => Sys2Proof.Machine.execMeterRefill s
  | .recoveryTimeout f => Sys2Proof.Machine.execRecoveryTimeout f s
  | .strTblRead ini cmd ecc => Sys2Proof.Machine.execStrTblRead ini cmd ecc s
  | .strTblWrite ini cmd => Sys2Proof.Machine.execStrTblWrite ini cmd s
  | .clearLatch ini cmd => Sys2Proof.Machine.execClearLatch ini cmd s
  | .fill ini cmd => Sys2Proof.Machine.execFill ini cmd s
  | .recReset ini cmd => Sys2Proof.Machine.execRecReset ini cmd s
  | .strEvqRead ini => Sys2Proof.Machine.execStrEvqRead ini s
  | .bufferAllocate slice fids core => Sys2Proof.Machine.execBufferAllocate slice fids core s
  | .losslessWaitExpiry port => Sys2Proof.Machine.execLosslessWaitExpiry port s
  | .relCmd ini value => Sys2Proof.Machine.execRelCmd ini value s
  | .ageScan => Sys2Proof.Machine.execAgeScan s
  | .bufSelWrite ini value => Sys2Proof.Machine.execBufSelWrite ini value s
  | .voqSelWrite ini value => Sys2Proof.Machine.execVoqSelWrite ini value s
  | .cellTime faultA faultB reads record => Sys2Proof.Machine.execCellTime faultA faultB reads record s
  | .cellArrival inp out express seq idx flips ecc => Sys2Proof.Machine.execCellArrival inp out express seq idx flips ecc s
  | .cellMissingTimeout inp out express seq idx => Sys2Proof.Machine.execCellMissingTimeout inp out express seq idx s
  | .planeRemoveCmd ini plane => Sys2Proof.Machine.execPlaneRemoveCmd ini plane s
  | .planeRestoreCmd ini plane => Sys2Proof.Machine.execPlaneRestoreCmd ini plane s
  | .planeSelfCheckDone plane pass => Sys2Proof.Machine.execPlaneSelfCheckDone plane pass s
  | .ptrSelWrite ini value => Sys2Proof.Machine.execPtrSelWrite ini value s
  | .tsSelWrite ini value => Sys2Proof.Machine.execTsSelWrite ini value s
  | .crsTblRead ini cmd ecc => Sys2Proof.Machine.execCrsTblRead ini cmd ecc s
  | .crsTblWrite ini cmd => Sys2Proof.Machine.execCrsTblWrite ini cmd s
  | .gateEntryStart port ecc => Sys2Proof.Machine.execGateEntryStart port ecc s
  | .holdAssert port => Sys2Proof.Machine.execHoldAssert port s
  | .gateChangeArm ini mask link => Sys2Proof.Machine.execGateChangeArm ini mask link s
  | .gateChangeCancel ini => Sys2Proof.Machine.execGateChangeCancel ini s
  | .gateChangeFire => Sys2Proof.Machine.execGateChangeFire s
  | .shaperRefill => Sys2Proof.Machine.execShaperRefill s
  | .lkpTblRead ini cmd ecc => Sys2Proof.Machine.execLkpTblRead ini cmd ecc s
  | .lkpTblWrite ini cmd => Sys2Proof.Machine.execLkpTblWrite ini cmd s
  | .canModeWrite ini ch value rx => Sys2Proof.Machine.execCanModeWrite ini ch value rx s
  | .canIntegrated ch => Sys2Proof.Machine.execCanIntegrated ch s
  | .canMsgReceived ch msg sof => Sys2Proof.Machine.execCanMsgReceived ch msg sof s
  | .canProtocolException ch => Sys2Proof.Machine.execCanProtocolException ch s
  | .canErrorFrame ch kind tecInc recInc => Sys2Proof.Machine.execCanErrorFrame ch kind tecInc recInc s
  | .canTxSof ch => Sys2Proof.Machine.execCanTxSof ch s
  | .canArbLost ch => Sys2Proof.Machine.execCanArbLost ch s
  | .canTxDone ch => Sys2Proof.Machine.execCanTxDone ch s
  | .canCancel ini ch fifo => Sys2Proof.Machine.execCanCancel ini ch fifo s
  | .canFlush ini ch fifo => Sys2Proof.Machine.execCanFlush ini ch fifo s
  | .canRecoverCmd ini ch => Sys2Proof.Machine.execCanRecoverCmd ini ch s
  | .canRecoveryDone ch => Sys2Proof.Machine.execCanRecoveryDone ch s
  | .canGatingChange ch => Sys2Proof.Machine.execCanGatingChange ch s
  | .canStuckDominant ch => Sys2Proof.Machine.execCanStuckDominant ch s
  | .internalFrameBuild => Sys2Proof.Machine.execInternalFrameBuild s
  | .packerRelease packer => Sys2Proof.Machine.execPackerRelease packer s
  | .secRequestResubmit => Sys2Proof.Machine.execSecRequestResubmit s
  | .gweTblRead ini cmd ecc => Sys2Proof.Machine.execGweTblRead ini cmd ecc s
  | .gweTblWrite ini cmd => Sys2Proof.Machine.execGweTblWrite ini cmd s
  | .gweEvqRead ini => Sys2Proof.Machine.execGweEvqRead ini s
  | .keyWrite ini slot => Sys2Proof.Machine.execKeyWrite ini slot s
  | .keyDerive ini slot => Sys2Proof.Machine.execKeyDerive ini slot s
  | .keyUnwrap ini slot => Sys2Proof.Machine.execKeyUnwrap ini slot s
  | .keyErase ini slot => Sys2Proof.Machine.execKeyErase ini slot s
  | .keyLock ini slot => Sys2Proof.Machine.execKeyLock ini slot s
  | .keyInfo ini slot => Sys2Proof.Machine.execKeyInfo ini slot s
  | .keyCmdDone => Sys2Proof.Machine.execKeyCmdDone s
  | .lcTransition ini value => Sys2Proof.Machine.execLcTransition ini value s
  | .zeroizeDone => Sys2Proof.Machine.execZeroizeDone s
  | .otpProgramDone ok => Sys2Proof.Machine.execOtpProgramDone ok s
  | .arbAdvance ini value => Sys2Proof.Machine.execArbAdvance ini value s
  | .splitToggle ini value => Sys2Proof.Machine.execSplitToggle ini value s
  | .icvResult fid => Sys2Proof.Machine.execIcvResult fid s
  | .cphTblRead ini cmd ecc => Sys2Proof.Machine.execCphTblRead ini cmd ecc s
  | .cphTblWrite ini cmd => Sys2Proof.Machine.execCphTblWrite ini cmd s
  | .laSubmit ini sec => Sys2Proof.Machine.execLaSubmit ini sec s
  | .laComplete idx ecc => Sys2Proof.Machine.execLaComplete idx ecc s
  | .laResultRead ini sec => Sys2Proof.Machine.execLaResultRead ini sec s
  | .laCtrWrite ini ctr value => Sys2Proof.Machine.execLaCtrWrite ini ctr value s
  | .pairCycleEnd => Sys2Proof.Machine.execPairCycleEnd s
  | .heartbeatDeadline => Sys2Proof.Machine.execHeartbeatDeadline s
  | .claimWordSend => Sys2Proof.Machine.execClaimWordSend s
  | .claimWordReceived w => Sys2Proof.Machine.execClaimWordReceived w s
  | .heartbeatReceived h ws => Sys2Proof.Machine.execHeartbeatReceived h ws s
  | .noteReceived h w0 w1 => Sys2Proof.Machine.execNoteReceived h w0 w1 s
  | .noteWaitExpiry => Sys2Proof.Machine.execNoteWaitExpiry s
  | .digestReceived h ws => Sys2Proof.Machine.execDigestReceived h ws s
  | .stateObjectReceived h sect ws => Sys2Proof.Machine.execStateObjectReceived h sect ws s
  | .timeRecordReceived h ws => Sys2Proof.Machine.execTimeRecordReceived h ws s
  | .resyncReqReceived h mask => Sys2Proof.Machine.execResyncReqReceived h mask s
  | .towpathBadFrame odd => Sys2Proof.Machine.execTowpathBadFrame odd s
  | .ctrlFrameResend => Sys2Proof.Machine.execCtrlFrameResend s
  | .swapArm ini => Sys2Proof.Machine.execSwapArm ini s
  | .swapCancel ini => Sys2Proof.Machine.execSwapCancel ini s
  | .propose h ws => Sys2Proof.Machine.execPropose h ws s
  | .ack h ws => Sys2Proof.Machine.execAck h ws s
  | .nak h ws => Sys2Proof.Machine.execNak h ws s
  | .swapCommit h ws => Sys2Proof.Machine.execSwapCommit h ws s
  | .swapCancelReceived h ws => Sys2Proof.Machine.execSwapCancelReceived h ws s
  | .swapGuardDeadline => Sys2Proof.Machine.execSwapGuardDeadline s
  | .swapExecute => Sys2Proof.Machine.execSwapExecute s
  | .swapEndFence => Sys2Proof.Machine.execSwapEndFence s
  | .isolate ini => Sys2Proof.Machine.execIsolate ini s
  | .rejoin ini => Sys2Proof.Machine.execRejoin ini s
  | .resync ini => Sys2Proof.Machine.execResync ini s
  | .announce h ws => Sys2Proof.Machine.execAnnounce h ws s
  | .ready h ws => Sys2Proof.Machine.execReady h ws s
  | .notReady h ws => Sys2Proof.Machine.execNotReady h ws s
  | .go h ws => Sys2Proof.Machine.execGo h ws s
  | .pcCancelReceived h ws => Sys2Proof.Machine.execPcCancelReceived h ws s
  | .pcGuardDeadline => Sys2Proof.Machine.execPcGuardDeadline s
  | .lockstepMismatch sec kind index pc => Sys2Proof.Machine.execLockstepMismatch sec kind index pc s
  | .pairRestart sec => Sys2Proof.Machine.execPairRestart sec s
  | .resetCtrl ini confirm => Sys2Proof.Machine.execResetCtrl ini confirm s
  | .resetSec ini confirm => Sys2Proof.Machine.execResetSec ini confirm s
  | .coreMemError ini addr size w ecc => Sys2Proof.Machine.execCoreMemError ini addr size w ecc s
  | .mtimeMatch hart => Sys2Proof.Machine.execMtimeMatch hart s
  | .mtimecmpHiWrite ini hart value => Sys2Proof.Machine.execMtimecmpHiWrite ini hart value s
  | .debugHalt hart r => Sys2Proof.Machine.execDebugHalt hart r s
  | .debugResume hart => Sys2Proof.Machine.execDebugResume hart s
  | .debugStep hart r => Sys2Proof.Machine.execDebugStep hart r s
  | .debugAbstractWrite hart csr num value => Sys2Proof.Machine.execDebugAbstractWrite hart csr num value s
  | .debugProgbufExec hart r => Sys2Proof.Machine.execDebugProgbufExec hart r s
  | .debugSysbusAccess addr size w => Sys2Proof.Machine.execDebugSysbusAccess addr size w s
  | .dbgChallenge ini scope => Sys2Proof.Machine.execDbgChallenge ini scope s
  | .dbgSubmit ini scope => Sys2Proof.Machine.execDbgSubmit ini scope s
  | .dbgVerifyDone => Sys2Proof.Machine.execDbgVerifyDone s
  | .dbgDisable ini scope => Sys2Proof.Machine.execDbgDisable ini scope s
  | .pcieDown why => Sys2Proof.Machine.execPcieDown why s
  | .perst => Sys2Proof.Machine.execPerst s
  | .ringTailWrite ini rx ring value => Sys2Proof.Machine.execRingTailWrite ini rx ring value s
  | .ringEnableWrite ini rx ring value => Sys2Proof.Machine.execRingEnableWrite ini rx ring value s
  | .txRingFetch ring desc => Sys2Proof.Machine.execTxRingFetch ring desc s
  | .txRingFrameDone ring data => Sys2Proof.Machine.execTxRingFrameDone ring data s
  | .ringCoalExpiry rx ring => Sys2Proof.Machine.execRingCoalExpiry rx ring s
  | .ringEventClear ini value => Sys2Proof.Machine.execRingEventClear ini value s
  | .windowRead ini addr size => Sys2Proof.Machine.execWindowRead ini addr size s
  | .windowReadResponse ini data => Sys2Proof.Machine.execWindowReadResponse ini data s
  | .peerReadTimeout tag => Sys2Proof.Machine.execPeerReadTimeout tag s
  | .windowWrite ini addr size value => Sys2Proof.Machine.execWindowWrite ini addr size value s
  | .postedWriteFail ini off aborted => Sys2Proof.Machine.execPostedWriteFail ini off aborted s
  | .perrLogRead ini => Sys2Proof.Machine.execPerrLogRead ini s
  | .bridgeReadReceived h ws => Sys2Proof.Machine.execBridgeReadReceived h ws s
  | .bridgeWriteReceived h ws => Sys2Proof.Machine.execBridgeWriteReceived h ws s
  | .bridgeLockReadReceived h ws => Sys2Proof.Machine.execBridgeLockReadReceived h ws s
  | .bridgeWriteUnlockReceived h ws => Sys2Proof.Machine.execBridgeWriteUnlockReceived h ws s
  | .bridgeUnlockReceived h ws => Sys2Proof.Machine.execBridgeUnlockReceived h ws s
  | .bridgeResponseReceived h ws => Sys2Proof.Machine.execBridgeResponseReceived h ws s
  | .bridgePostedFailReceived h ws => Sys2Proof.Machine.execBridgePostedFailReceived h ws s
  | .lockRead ini => Sys2Proof.Machine.execLockRead ini s
  | .writeUnlock ini => Sys2Proof.Machine.execWriteUnlock ini s
  | .unlock ini => Sys2Proof.Machine.execUnlock ini s
  | .lockTimeoutExpiry => Sys2Proof.Machine.execLockTimeoutExpiry s
  | .twinLinkDown => Sys2Proof.Machine.execTwinLinkDown s
  | .msixUnmask mask fnMask table cfg => Sys2Proof.Machine.execMsixUnmask mask fnMask table cfg s
  | .coldReset pairId mode => Sys2Proof.Machine.execColdReset pairId mode s
  | .warmReset ini confirm => Sys2Proof.Machine.execWarmReset ini confirm s
  | .fuseStageDone => Sys2Proof.Machine.execFuseStageDone s
  | .flashStageDone octal density => Sys2Proof.Machine.execFlashStageDone octal density s
  | .imageAuthDone => Sys2Proof.Machine.execImageAuthDone s
  | .recordApply => Sys2Proof.Machine.execRecordApply s
  | .imageCheckDone => Sys2Proof.Machine.execImageCheckDone s
  | .sysLoad ini image => Sys2Proof.Machine.execSysLoad ini image s
  | .sysRelease ini => Sys2Proof.Machine.execSysRelease ini s
  | .releaseWaitExpiry => Sys2Proof.Machine.execReleaseWaitExpiry s
  | .payloadCheckDone => Sys2Proof.Machine.execPayloadCheckDone s
  | .reloadCtrl ini => Sys2Proof.Machine.execReloadCtrl ini s
  | .reloadSec ini => Sys2Proof.Machine.execReloadSec ini s
  | .codeReloadDone image => Sys2Proof.Machine.execCodeReloadDone image s
  | .updOpen ini => Sys2Proof.Machine.execUpdOpen ini s
  | .updClose ini session => Sys2Proof.Machine.execUpdClose ini session s
  | .updBegin ini session => Sys2Proof.Machine.execUpdBegin ini session s
  | .updEraseDone ok => Sys2Proof.Machine.execUpdEraseDone ok s
  | .updWriteBlock ini session => Sys2Proof.Machine.execUpdWriteBlock ini session s
  | .updVerify ini session => Sys2Proof.Machine.execUpdVerify ini session s
  | .updVerifyDone => Sys2Proof.Machine.execUpdVerifyDone s
  | .updActivate ini session mode force => Sys2Proof.Machine.execUpdActivate ini session mode force s
  | .liveActivationDone => Sys2Proof.Machine.execLiveActivationDone s
  | .updConfirm ini => Sys2Proof.Machine.execUpdConfirm ini s
  | .updRevert ini => Sys2Proof.Machine.execUpdRevert ini s
  | .updRead ini => Sys2Proof.Machine.execUpdRead ini s
  | .updSessionTimeout => Sys2Proof.Machine.execUpdSessionTimeout s
  | .sleep ini confirm => Sys2Proof.Machine.execSleep ini confirm s
  | .groupSleep ini confirm g => Sys2Proof.Machine.execGroupSleep ini confirm g s
  | .groupWake ini confirm g => Sys2Proof.Machine.execGroupWake ini confirm g s
  | .abortDevice ini confirm => Sys2Proof.Machine.execAbortDevice ini confirm s
  | .abortGroup ini confirm g => Sys2Proof.Machine.execAbortGroup ini confirm g s
  | .releaseIso ini confirm ch => Sys2Proof.Machine.execReleaseIso ini confirm ch s
  | .readySleepExpiry g => Sys2Proof.Machine.execReadySleepExpiry g s
  | .sleepCommit g => Sys2Proof.Machine.execSleepCommit g s
  | .prepTimeExpiry g => Sys2Proof.Machine.execPrepTimeExpiry g s
  | .powerDownDone ao => Sys2Proof.Machine.execPowerDownDone ao s
  | .canWakeDom ch clocks ao => Sys2Proof.Machine.execCanWakeDom ch clocks ao s
  | .canWakeFrame ch msg ao => Sys2Proof.Machine.execCanWakeFrame ch msg ao s
  | .canWakeTrx ch ao => Sys2Proof.Machine.execCanWakeTrx ch ao s
  | .ethInhRise port ao => Sys2Proof.Machine.execEthInhRise port ao s
  | .ethInhFall port => Sys2Proof.Machine.execEthInhFall port s
  | .wakeTimerExpiry ao => Sys2Proof.Machine.execWakeTimerExpiry ao s
  | .wakeClockReady ao => Sys2Proof.Machine.execWakeClockReady ao s
  | .retentionCheckDone pass => Sys2Proof.Machine.execRetentionCheckDone pass s
  | .serdesReady => Sys2Proof.Machine.execSerdesReady s
  | .kaLogRead ini => Sys2Proof.Machine.execKaLogRead ini s
  | .grpMembersWrite ini g value => Sys2Proof.Machine.execGrpMembersWrite ini g value s
  | .pll0Loss => Sys2Proof.Machine.execPll0Loss s
  | .pll1Loss => Sys2Proof.Machine.execPll1Loss s
  | .pll2Loss => Sys2Proof.Machine.execPll2Loss s
  | .refclkLoss => Sys2Proof.Machine.execRefclkLoss s
  | .fltLogRead ini => Sys2Proof.Machine.execFltLogRead ini s
  | .firstClr ini => Sys2Proof.Machine.execFirstClr ini s
  | .fltDirectClear ini value => Sys2Proof.Machine.execFltDirectClear ini value s
  | .linkPartnerLpiSignalling port idle => Sys2Proof.Machine.execLinkPartnerLpiSignalling port idle s
  | .twinLinkUp => Sys2Proof.Machine.execTwinLinkUp s
  | .pcieLinkUp speed width => Sys2Proof.Machine.execPcieLinkUp speed width s
  | .hostWindowCompletionTimeout ini => Sys2Proof.Machine.execHostWindowCompletionTimeout ini s
  | .blockProgramDone ok => Sys2Proof.Machine.execBlockProgramDone ok s
  | .bankStateWriteDone ok => Sys2Proof.Machine.execBankStateWriteDone ok s
  | .pllLockRegained pll => Sys2Proof.Machine.execPllLockRegained pll s
  | .refclkRestored => Sys2Proof.Machine.execRefclkRestored s

end Sys2Proof.Machine
end

