-- ==== Sys2Proof/Safety.lean ====
section
/-! DEFINITION. Safety.lean: what counts as a safe step: a step that answers a next state. -/
namespace Sys2Proof.Machine

/-- The step answers a next state. -/
def SafeStep (s : State) : Prop := ∃ t, step s = .next t

/-- The memories stand in their canonical form: the core memories and the flash. -/
def Memory.wf (s : State) : Bool := Sparse.wf (fun _ => 0) s.mem && Sparse.wf (fun _ => 0xFF) s.boot.flash

/-- The registers, counters, holding registers, tables, pins, MACs, CAN channels and memories stand in their canonical form. -/
def State.wf (s : State) : Bool :=
  Sparse.wf resetWord s.regs && Sparse.wf (fun _ => 0) s.cnts && Sparse.wf (fun _ => 0) s.hold && Sparse.wf tabReset s.tabs
    && Sparse.wf (fun _ => {}) s.pins && Sparse.wf (fun _ => {}) s.macs && Sparse.wf (fun _ => {}) s.cans && Memory.wf s

/-- The parts of State, the queue apart; `flash` is the part of `boot` that holds the external flash. -/
inductive Part
  | regs | cnts | hold | tabs | tim | pins | marker | frames | copies | nextFid | nextCid | macs | slc | str | bsn | crs
  | lkp | fltLog | fltCond | fltNow | fltDue | msixMask | msixFn | msixPba | notes | cans | twp | key | cph | la | gwe
  | cpu | brg | boot | upd | wak | mem | fresh | wire | flash
  deriving DecidableEq, Repr

/-- The two states agree in a part. -/
def Part.same : Part → State → State → Prop
  | .regs, s, t => t.regs = s.regs
  | .cnts, s, t => t.cnts = s.cnts
  | .hold, s, t => t.hold = s.hold
  | .tabs, s, t => t.tabs = s.tabs
  | .tim, s, t => t.tim = s.tim
  | .pins, s, t => t.pins = s.pins
  | .marker, s, t => t.marker = s.marker
  | .frames, s, t => t.frames = s.frames
  | .copies, s, t => t.copies = s.copies
  | .nextFid, s, t => t.nextFid = s.nextFid
  | .nextCid, s, t => t.nextCid = s.nextCid
  | .macs, s, t => t.macs = s.macs
  | .slc, s, t => t.slc = s.slc
  | .str, s, t => t.str = s.str
  | .bsn, s, t => t.bsn = s.bsn
  | .crs, s, t => t.crs = s.crs
  | .lkp, s, t => t.lkp = s.lkp
  | .fltLog, s, t => t.fltLog = s.fltLog
  | .fltCond, s, t => t.fltCond = s.fltCond
  | .fltNow, s, t => t.fltNow = s.fltNow
  | .fltDue, s, t => t.fltDue = s.fltDue
  | .msixMask, s, t => t.msixMask = s.msixMask
  | .msixFn, s, t => t.msixFn = s.msixFn
  | .msixPba, s, t => t.msixPba = s.msixPba
  | .notes, s, t => t.notes = s.notes
  | .cans, s, t => t.cans = s.cans
  | .twp, s, t => t.twp = s.twp
  | .key, s, t => t.key = s.key
  | .cph, s, t => t.cph = s.cph
  | .la, s, t => t.la = s.la
  | .gwe, s, t => t.gwe = s.gwe
  | .cpu, s, t => t.cpu = s.cpu
  | .brg, s, t => t.brg = s.brg
  | .boot, s, t => t.boot = s.boot
  | .upd, s, t => t.upd = s.upd
  | .wak, s, t => t.wak = s.wak
  | .mem, s, t => t.mem = s.mem
  | .fresh, s, t => t.fresh = s.fresh
  | .wire, s, t => t.wire = s.wire
  | .flash, s, t => t.boot.flash = s.boot.flash

/-- The two states agree in every part that is not listed. -/
def SameBut (ps : List Part) (s t : State) : Prop := ∀ p : Part, p ∉ ps → p.same s t

/-- A write by this initiator to a register at this address reaches the register: the initiator can access the bus (R369, R380, R382,
R23), the security pair reaches the address (R399), the write is not early (R344), and the address is not the security pair's alone
(R244, R398). -/
def State.mayWrite (s : State) (ini : Initiator) (a : Nat) : Bool :=
  !s.mute ini && !(ini == .sec && secBarred a) && !s.preRunBlocked ini a && !(ini != .sec && secOnly a)

/-- The same of a read. -/
def State.mayRead (s : State) (ini : Initiator) (a : Nat) : Bool :=
  !s.readMute ini && !(ini == .sec && secBarred a) && !(ini != .sec && secOnly a)

end Sys2Proof.Machine
end

