-- ==== Sys2Proof/Certificates/Slice0/Obligations.lean ====
section
/-! DEFINITION. Obligations.lean: the statements for the provers. Each says, for the commands it names, that exec answers a next state
and what that state holds, or what no command may change. A clause that rests on a choice of the model names its log entry. -/
open Sys2Proof Sys2Proof.Machine

/-- Every step takes the command at the front of the queue and runs it on the state with the queue's rest. -/
def Obligations.StepRunsFrontCommand : Prop :=
  ∀ (c : Instr) (rest : List Instr) (s : State), s.pending = c :: rest →
    step s = exec c { s with pending := rest }

/-- With an empty queue the device idles (the model's choice, log entry 4). -/
def Obligations.EmptyQueueIdles : Prop :=
  ∀ s : State, s.pending = [] → step s = .next s

/-- Every command is taken in every state and answers a next state. -/
def Obligations.EveryCommandAnswers : Prop :=
  ∀ (c : Instr) (s : State), ∃ t, exec c s = .next t

/-- No command touches the queue: the state that a command answers has the same commands waiting. -/
def Obligations.CommandsLeaveQueue : Prop :=
  ∀ (c : Instr) (s : State), ∃ t, exec c s = .next t ∧ t.pending = s.pending

/-- The form of the state: every list canonical, and at most 32 entries in the fault log. -/
def Obligations.StepsKeepForm : Prop :=
  ∀ s t : State, step s = .next t → s.wf = true ∧ s.fltLog.length ≤ 32 → t.wf = true ∧ t.fltLog.length ≤ 32

/-- The state after reset has that form: every list canonical, the fault log empty, no command waiting. -/
def Obligations.ResetForm : Prop :=
  State.reset.wf = true ∧ State.reset.fltLog = [] ∧ State.reset.pending = [] ∧ State.reset.released = false ∧ State.reset.stage = 0

/-- Steering of working time: a write of WT_INCR_NS takes the clamped increment for the next tick, a write of WT_ADJ adds to the
pending phase and changes nothing else (R27); while steering is blocked either write only sets STEER_IGNORED (R39, R40). -/
def Obligations.SteeringWrites : Prop :=
  (∀ (ini : Initiator) (w : Word) (s : State), s.wf = true → s.mayWrite ini TIM.WT_INCR_NS = true → s.steerBlocked = false →
    ∃ t, exec (.wtIncrWrite ini w) s = .next t ∧
      t.tim.incrPend = some (max incrMin (min incrMax ((w.toNat % 16 * 4294967296 + (s.rd TIM.WT_INCR_FRAC).toNat : Nat) : Int))) ∧
      t.tim.incr = s.tim.incr ∧ t.tim.wt = s.tim.wt ∧ t.tim.phase = s.tim.phase ∧ t.wire = s.wire ++ [.bus ini .done]) ∧
  (∀ (ini : Initiator) (w : Word) (s : State), s.mayWrite ini TIM.WT_ADJ = true → s.steerBlocked = false →
    exec (.wtAdjWrite ini w) s =
      .next { s with tim := { s.tim with phase := s.tim.phase + w.toInt * 1073741824 }, wire := s.wire ++ [.bus ini .done] }) ∧
  (∀ (ini : Initiator) (w : Word) (s : State), s.wf = true → s.mayWrite ini TIM.WT_ADJ = true → s.steerBlocked = true →
    ∃ t, exec (.wtAdjWrite ini w) s = .next t ∧ t.bit TIM.TIM_EVENT_STEER_IGNORED = true ∧ t.tim = s.tim) ∧
  (∀ (ini : Initiator) (w : Word) (s : State), s.wf = true → s.mayWrite ini TIM.WT_INCR_NS = true → s.steerBlocked = true →
    ∃ t, exec (.wtIncrWrite ini w) s = .next t ∧ t.bit TIM.TIM_EVENT_STEER_IGNORED = true ∧ t.tim = s.tim)

/-- Atomic additions to a domain's offset and rate, the staged load of an offset, and the loads of working time: before release a
SET is taken at the next tick, after it only while TIME_SET is 0; a STEP needs STEP_EN (R29, R34). A step puts working time at the
loaded value and the opposite amount on both offsets. The model's choices in these clauses: an offset outside the register is a free
value (log entry 117), DOM_RATE saturates (log entry 13) at the width of log entry 119, and a step acts at its write (log entry 37). -/
def Obligations.TimeAdjustments : Prop :=
  (∀ (ini : Initiator) (d : Fin 2) (w : Word) (s : State), s.mayWrite ini (TIM.DOM_OFF_ADJ d) = true →
    ∃ t, exec (.domOffAdjWrite ini d w) s = .next t ∧ t.wire = s.wire ++ [.bus ini .done] ∧
      t.dom d = { s.dom d with off := offFit ((s.dom d).off + w.toInt * 2 ^ 56) } ∧ t.dom (1 - d) = s.dom (1 - d) ∧ t.regs = s.regs) ∧
  (∀ (ini : Initiator) (d : Fin 2) (w : Word) (s : State), s.mayWrite ini (TIM.DOM_RATE_ADJ d) = true →
    ∃ t, exec (.domRateAdjWrite ini d w) s = .next t ∧ t.wire = s.wire ++ [.bus ini .done] ∧
      t.dom d = { s.dom d with rate := satS 32 ((s.dom d).rate + w.toInt) } ∧ t.dom (1 - d) = s.dom (1 - d) ∧ t.regs = s.regs) ∧
  (∀ (ini : Initiator) (d : Fin 2) (w : Word) (s : State), s.mayWrite ini (TIM.DOM_SET_HI d) = true →
    ∃ t, exec (.domSetHiWrite ini d w) s = .next t ∧ t.wire = s.wire ++ [.bus ini .done] ∧
      (t.dom d).setPend = some (w.toInt * 4294967296 + (s.rd (TIM.DOM_SET_LO d)).toNat) ∧ (t.dom d).off = (s.dom d).off ∧
      t.dom (1 - d) = s.dom (1 - d) ∧ t.regs = s.regs) ∧
  (∀ (ini : Initiator) (s : State), s.mayWrite ini TIM.WT_SET_CMD = true → s.released = false →
    ∃ t, exec (.wtSet ini) s = .next t ∧ t.tim = { s.tim with loadPend := some s.setTarget } ∧ t.regs = s.regs) ∧
  (∀ (ini : Initiator) (s : State), s.wf = true → s.mayWrite ini TIM.WT_SET_CMD = true → s.released = true →
    s.bit TIM.TIM_STATUS_TIME_SET = true →
    ∃ t, exec (.wtSet ini) s = .next t ∧ t.bit TIM.TIM_EVENT_STEP_REJECTED = true ∧ t.tim = s.tim) ∧
  (∀ (ini : Initiator) (s : State), s.mayWrite ini TIM.WT_SET_CMD = true → s.bit TIM.TIM_CTRL_STEP_EN = true →
    ∃ t, exec (.wtStep ini) s = .next t ∧ t.tim.wt = s.setTarget ∧
      (t.dom 0).off = offFit ((s.dom 0).off - ((s.setTarget : Int) - s.tim.wt) * 2 ^ 40) ∧
      (t.dom 1).off = offFit ((s.dom 1).off - ((s.setTarget : Int) - s.tim.wt) * 2 ^ 40) ∧ t.tim.incr = s.tim.incr) ∧
  (∀ (ini : Initiator) (s : State), s.wf = true → s.mayWrite ini TIM.WT_SET_CMD = true → s.bit TIM.TIM_CTRL_STEP_EN = false →
    ∃ t, exec (.wtStep ini) s = .next t ∧ t.bit TIM.TIM_EVENT_STEP_REJECTED = true ∧ t.tim = s.tim)

/-- The tick of working time: with no alignment and no staged value, working time advances by the increment and by as much of
the pending phase as the slew limit allows (R24, R27, R28); the time base stands still before stage FUSE has ended, without PLL0, and in
SLEEP until a wake has locked the clocks (R23, R26, R372). A snapshot copies working time and both offsets in one tick (R30). -/
def Obligations.TickAndSnapshot : Prop :=
  (∀ s : State, s.stage ≠ 0 → s.wak.power = .active ∨ s.wak.power = .powerDown → s.pllLost 0 = false → s.tim.align = none →
    s.tim.incrPend = none →
    s.tim.loadPend = none →
    ∃ t, exec .timeTick s = .next t ∧
      t.tim.wt = (s.tim.wt + (s.tim.incr + max (-s.slewMax) (min s.slewMax s.tim.phase)).toNat) % wtWrap ∧
      t.tim.incr = s.tim.incr) ∧
  (∀ s : State, s.stage = 0 ∧ s.wak.power ≠ .waking ∨ s.wak.power = .sleep ∨ s.wak.power = .waking ∧ s.wak.clocks = false ∨
      s.pllLost 0 = true →
    ∃ t, exec .timeTick s = .next t ∧ t.tim = s.tim ∧ t.cpu = s.cpu) ∧
  (∀ (ini : Initiator) (s : State), s.wf = true → s.mayWrite ini TIM.WT_SNAP_CMD = true →
    ∃ t, exec (.wtSnap ini) s = .next t ∧ t.tim = s.tim ∧
      t.rd TIM.WT_SNAP_FRAC = word (s.tim.wt % 4294967296 / 65536) ∧
      t.rd TIM.WT_SNAP_NS = word (s.tim.wt / 4294967296 % 1000000000) ∧
      t.rd TIM.WT_SNAP_SEC_LO = word (s.tim.wt / 4294967296 / 1000000000) ∧
      t.rd TIM.WT_SNAP_SEC_HI = word (s.tim.wt / 4294967296 / 1000000000 / 4294967296) ∧
      t.rd TIM.SNAP_DOM0_OFF = wordS (satS 32 ((s.dom 0).off16.fdiv 16384)) ∧
      t.rd TIM.SNAP_DOM1_OFF = wordS (satS 32 ((s.dom 1).off16.fdiv 16384)) ∧
      ∀ a, a ∉ [TIM.WT_SNAP_FRAC, TIM.WT_SNAP_NS, TIM.WT_SNAP_SEC_LO, TIM.WT_SNAP_SEC_HI, TIM.SNAP_DOM0_OFF, TIM.SNAP_DOM1_OFF] →
        t.rd a = s.rd a)

/-- The trackers and the selection: a one-step Sync completes a record on its own, a two-step Sync waits for its Follow_Up, whose record
enters the FIFO (R35, R36; the waiting Sync keeps DOM_OFF in whole register units, log entry 118); the read of the last word of the
head record removes it (R36); the receipt timeout ends validity when its window has passed, and does nothing before (R37); the
revert delay returns to the primary (R38); the end of an alignment (R39), the limit of a holdover (R40), and the read of a
last-tagged-transmit record (R46). -/
def Obligations.TrackersAndSelection : Prop :=
  (∀ (d : Fin 2) (p : Fin 14) (f : Bytes) (t2 h : Nat) (s : State), s.syncFits d p f 0 = some h → ptpTwoStep f h = true →
    ∃ t, exec (.syncReceive d p f t2) s = .next t ∧ t.regs = s.regs ∧ (t.dom d).fifo = (s.dom d).fifo ∧
      (t.dom d).pending = some { port := p, seqId := ptpSeq f h, logInt := ptpLogInt f h, t2 := t2, corr := ptpCorr f h,
                                 off := (s.dom d).off16 }) ∧
  (∀ (d : Fin 2) (p : Fin 14) (f : Bytes) (t2 h : Nat) (s : State), s.syncFits d p f 0 = some h → ptpTwoStep f h = false →
    (s.dom d).fifo.length < 32 →
    ∃ t, exec (.syncReceive d p f t2) s = .next t ∧ (t.dom d).fresh = true ∧ (t.dom d).age = 0 ∧ (t.dom d).logInt = ptpLogInt f h ∧
      (t.dom d).fifo.length = (s.dom d).fifo.length + 1 ∧ (t.dom d).fifo.take (s.dom d).fifo.length = (s.dom d).fifo ∧
      ((t.dom d).fifo.getLastD []).take 6 =
        [word (ptpSeq f h * 65536 + p * 4096 + (ptpLogInt f h).toNat * 8), word (qnsOf t2 * 1073741824 + nsOf t2), word (secOf t2),
         word (ptpNs f h % 1073741824), word (ptpSec f h), word (ptpSec f h / 4294967296 % 65536)] ∧
      t.dom (1 - d) = s.dom (1 - d)) ∧
  (∀ (d : Fin 2) (p : Fin 14) (f : Bytes) (h : Nat) (q : PendSync) (s : State), s.syncFits d p f 8 = some h → (s.dom d).pending = some q →
    q.seqId = ptpSeq f h → (s.dom d).fifo.length < 32 →
    ∃ t, exec (.followUpReceive d p f) s = .next t ∧ (t.dom d).pending = none ∧ (t.dom d).fresh = true ∧
      (t.dom d).fifo.length = (s.dom d).fifo.length + 1 ∧ (t.dom d).fifo.take (s.dom d).fifo.length = (s.dom d).fifo) ∧
  (∀ (ini : Initiator) (d : Fin 2) (s : State), s.mayRead ini (TIM.SYNC_REC d 9) = true →
    ∃ t, exec (.syncRecRead ini d) s = .next t ∧ t.wire = s.wire ++ [.bus ini (.data (((s.dom d).fifo.headD []).getD 9 0))] ∧
      (t.dom d).fifo = (s.dom d).fifo.tail ∧ t.dom (1 - d) = s.dom (1 - d) ∧ t.regs = s.regs) ∧
  (∀ (d : Fin 2) (s : State), s.wf = true → (s.dom d).fresh = true → s.receiptOver d = true →
    ∃ t, exec (.trackerTimeout d) s = .next t ∧ t.bit (TIM.DOM_STATUS_VALID d) = false ∧ t.bit (TIM.DOM_STATUS_TIMEOUT d) = true ∧
      t.dom 0 = s.dom 0 ∧ t.dom 1 = s.dom 1) ∧
  (∀ (d : Fin 2) (s : State), s.receiptOver d = false → exec (.trackerTimeout d) s = .next s) ∧
  (∀ s : State, s.wf = true → s.revertDue = true →
    ∃ t, exec .revertDelayExpiry s = .next t ∧ t.tim.sel = .follow (s.get TIM.TIM_CTRL_PRIMARY)) ∧
  (∀ (a : Align) (s : State), s.wf = true → s.tim.align = some a → a.passed = 512000 → s.onDomain a.dom = true →
    ∃ t, exec .alignmentComplete s = .next t ∧ t.tim = { s.tim with align := none } ∧ t.bit TIM.TIM_STATUS_ALIGNING = false ∧
      t.bit TIM.TIM_STATUS_UNCERTAIN = false) ∧
  (∀ s : State, s.wf = true → s.tim.sel = .holdover → s.released = true →
    s.get TIM.HOLDOVER_LIMIT_SECONDS < s.tim.holdTicks / revertTicks →
    ∃ t, exec .holdoverLimitExpiry s = .next t ∧ t.bit TIM.TIM_STATUS_UNCERTAIN = true ∧ t.tim.wt = s.tim.wt) ∧
  (∀ (ini : Initiator) (p : Fin 14) (r : Fin 3) (s : State), s.wf = true → s.mayRead ini (lttInfo p r) = true →
    ∃ t, exec (.lttInfoRead ini p r) s = .next t ∧ t.wire = s.wire ++ [.bus ini (.data (s.rd (lttInfo p r)))] ∧
      t.rd (lttInfo p r) = s.rd (lttInfo p r) &&& 0xFFFFFFFC ∧ t.rd (lttInfo p r + 4) = assocD s.tim.ltt (8 * p + 2 * r) 0 ∧
      t.rd (lttInfo p r + 8) = assocD s.tim.ltt (8 * p + 2 * r + 1) 0)

/-- The pulse generators: ARM places the train at the first leading edge at or after 100 ns from now, or is LATE (R54; the skip of edges
that have passed at the pin, and the stop of a running train by a late ARM, are the model's choice, log entry 122); STOP waits for
the active pulse's end (R55); a due leading edge drives the pin, a due trailing edge ends and counts the pulse (R53); a paired pin's
driver takes its enable while the level is inactive (R58); a change of MODE acts as STOP and empties the capture FIFO (R51). -/
def Obligations.PulseGenerators : Prop :=
  (∀ (ini : Initiator) (p : Fin 16) (s : State), s.wf = true → s.mayWrite ini (TIO.PIN_CMD p) = true → s.pinMode p = pinOutput →
    s.pinLimits p = true → s.nowQ + 400 ≤ s.pinStart p ∨ s.get (TIO.COUNT_PULSES p) = 0 → (s.pin p).active = false →
    ∃ t, exec (.pinArm ini p) s = .next t ∧ t.wire = s.wire ++ [.bus ini .done] ∧ t.regs = s.regs ∧
      (t.pin p).train = (let r : Train :=
          { start := s.pinStart p, period := s.get (TIO.PERIOD_QNS p), width := s.get (TIO.WIDTH_QNS p), count := s.get (TIO.COUNT_PULSES p),
            next := firstK (s.pinStart p) (s.get (TIO.PERIOD_QNS p)) (s.nowQ + 400), done := 0 };
        some (if s.pinStart p < s.nowQ + 400 then { r with next := max r.next (s.leadFrom p r s.nowQ) } else r)) ∧
      ∀ q, q ≠ (p : Nat) → t.pin q = s.pin q) ∧
  (∀ (ini : Initiator) (p : Fin 16) (s : State), s.wf = true → s.mayWrite ini (TIO.PIN_CMD p) = true → s.pinMode p = pinOutput →
    s.pinLimits p = true → s.pinStart p < s.nowQ + 400 → s.get (TIO.COUNT_PULSES p) ≠ 0 → (s.pin p).active = false →
    ∃ t, exec (.pinArm ini p) s = .next t ∧ (t.pin p).train = none ∧ t.bit (TIO.PIN_EVENT_LATE p) = true) ∧
  (∀ (ini : Initiator) (p : Fin 16) (s : State), s.wf = true → s.mayWrite ini (TIO.PIN_CMD p) = true →
    ∃ t, exec (.pinStop ini p) s = .next t ∧ t.regs = s.regs ∧
      t.pin p = (if (s.pin p).active then { s.pin p with defer := some none } else { s.pin p with train := none, defer := none }) ∧
      ∀ q, q ≠ (p : Nat) → t.pin q = s.pin q) ∧
  (∀ (p : Fin 16) (r : Train) (s : State), s.wf = true → (s.pin p).train = some r → s.pinMode p = pinOutput → (s.pin p).active = false →
    s.gated = false → s.leadAt p r r.next ≤ s.nowQ → (s.pin p).driving = true →
    ∃ t, exec (.pulseLeadingEdge p) s = .next t ∧ (t.pin p).active = true ∧ (t.pin p).train = some { r with next := r.next + 1 } ∧
      t.wire = s.wire ++ [.pin p (s.pinHigh p true)]) ∧
  (∀ (p : Fin 16) (s : State), s.wf = true → s.gated = false → (s.pin p).active = true → (s.pin p).trailAt ≤ s.nowQ →
    ∃ t, exec (.pulseTrailingEdge p) s = .next t ∧ (t.pin p).active = false ∧ (t.pin p).defer = none ∧
      t.cnt (TIO.PULSE_CNT p) = s.cnt (TIO.PULSE_CNT p) + 1 ∧ t.regs = s.regs) ∧
  (∀ (p : Fin 16) (s : State), s.wf = true → s.bit (TIO.PIN_CFG_PAIRED p) = true → (s.pin p).active = false →
    ∃ t, exec (.pairedEnableChange p) s = .next t ∧ (t.pin p).driving = s.pinWant p ∧ t.regs = s.regs) ∧
  (∀ (ini : Initiator) (p : Fin 16) (w : Word) (s : State), s.wf = true → s.mayWrite ini (TIO.PIN_CFG p) = true →
    bitsOf w 1 0 ≠ s.pinMode p →
    ∃ t, exec (.pinModeWrite ini p w) s = .next t ∧ t.pinMode p = bitsOf w 1 0 ∧ (t.pin p).fifo = [] ∧ (t.pin p).framed = 0)

/-- Inputs and the frames of the timing pins: an edge waits for the glitch filter and is captured at its original time less PIN_DLY
(R59, R60, R61); a stuck input is masked until RELEASE (R62); the read of CAP_SEC_HI removes the head entry (R64); EVT_HOLD sends the
waiting entries (R65); the time marker goes out at every M and numbers its frames (R66). -/
def Obligations.CapturesAndMarker : Prop :=
  (∀ (p : Fin 16) (hi : Bool) (ph : Fin 8) (s : State), s.wf = true → s.gated = false → s.pinMode p = pinInput → (s.pin p).raw ≠ hi →
    ((s.pin p).cand.any fun c => decide (c.2.2 + s.filterTicks p ≤ s.tim.ticks)) = false →
    ∃ t, exec (.inputEdge p hi ph) s = .next t ∧ (t.pin p).raw = hi ∧ (t.pin p).level = (s.pin p).level ∧
      (t.pin p).cand = (if s.pinHigh p hi = (s.pin p).level then none else some (s.pinHigh p hi, s.nowQ + ph, s.tim.ticks)) ∧
      ∀ q, q ≠ (p : Nat) → t.pin q = s.pin q) ∧
  (∀ (p : Fin 16) (act : Bool) (q n : Nat) (s : State), s.wf = true → s.pinMode p = pinInput → (s.pin p).cand = some (act, q, n) →
    n + s.filterTicks p ≤ s.tim.ticks → (s.pin p).masked = false → s.edgeSel p act = true → s.get (TIO.WIN_LEN_QNS p) = 0 →
    s.bit (TIO.PIN_CFG_EVT_EN p) = false →
    (s.pin p).fifo.length < 64 →
    ∃ t, exec (.edgeFilterExpiry p) s = .next t ∧ (t.pin p).level = act ∧ (t.pin p).cand = none ∧
      (t.pin p).fifo = (s.pin p).fifo ++ [(((q : Int) - s.pinDly p).toNat, act)] ∧ t.cnt (TIO.CAP_CNT p) = s.cnt (TIO.CAP_CNT p) + 1 ∧
      t.regs = s.regs) ∧
  (∀ (p : Fin 16) (n : Nat) (s : State), s.wf = true → s.pinMode p = pinInput → (s.pin p).stuckAt = some n →
    n + s.stuckTicks p < s.tim.ticks → (s.pin p).masked = false → s.get (TIO.PIN_CFG_STUCK_MS p) ≠ 0 → s.bit (TIO.PIN_CFG_EVT_EN p) = false →
    ∃ t, exec (.inputStuckTimeout p) s = .next t ∧ (t.pin p).masked = true ∧ t.bit (TIO.PIN_EVENT_STUCK p) = true ∧ t.cnts = s.cnts) ∧
  (∀ (ini : Initiator) (p : Fin 16) (s : State), s.wf = true → s.mayWrite ini (TIO.PIN_CMD p) = true → (s.pin p).masked = true →
    ∃ t, exec (.pinRelease ini p) s = .next t ∧ (t.pin p).masked = false ∧ (t.pin p).level = s.pinHigh p (s.pin p).raw ∧
      (t.pin p).fifo = (s.pin p).fifo ∧ t.regs = s.regs) ∧
  (∀ (ini : Initiator) (p : Fin 16) (e : Nat × Bool) (r : List (Nat × Bool)) (s : State), s.wf = true →
    s.mayRead ini (TIO.CAP_SEC_HI p) = true → s.bit (TIO.PIN_CFG_EVT_EN p) = false → (s.pin p).fifo = e :: r →
    ∃ t, exec (.capSecHiRead ini p) s = .next t ∧ (t.pin p).fifo = r ∧
      t.wire = s.wire ++ [.bus ini (.data (word (secOf e.1 / 4294967296 % 65536)))]) ∧
  (∀ (ini : Initiator) (p : Fin 16) (s : State), s.mayRead ini (TIO.CAP_SEC_HI p) = true → (s.pin p).fifo = [] →
    exec (.capSecHiRead ini p) s = .next { s with wire := s.wire ++ [.bus ini (.data 0)] }) ∧
  (∀ (p : Fin 16) (e : Nat × Bool) (s : State), s.wf = true → s.bit (TIO.PIN_CFG_EVT_EN p) = true → s.bit (TIO.PIN_CFG_PAIRED p) = false →
    ((s.pin p).fifo.drop (s.pin p).framed).head? = some e → e.1 + max 1 (s.get (TIO.EVT_CFG_EVT_HOLD p)) * usQ ≤ s.nowQ →
    ∃ t, exec (.evtHoldExpiry p) s = .next t ∧ (t.pin p).fifo = (s.pin p).fifo ∧
      (t.pin p).framed = (s.pin p).framed + min (s.evtMax p) ((s.pin p).fifo.length - (s.pin p).framed) ∧
      (t.pin p).seq = ((s.pin p).seq + 1) % 65536 ∧ t.frames.length = s.frames.length + 1 ∧ t.regs = s.regs) ∧
  (∀ (ini : Initiator) (w : Word) (s : State), s.wf = true → s.mayWrite ini TIO.MK_CTRL = true → s.marker.running = false → w.getLsbD 0 = true →
    ∃ t, exec (.markerEnableWrite ini w) s = .next t ∧ t.marker = { s.marker with running := true, next := s.mkNext (s.nowQ + 400) } ∧
      t.bit TIO.MK_CTRL_ENABLE = true) ∧
  (∀ s : State, s.wf = true → s.gated = false → s.marker.running = true → s.marker.next ≤ s.nowQ → s.bit TIO.MK_CTRL_PAIRED = false →
    s.get TIO.MK_SEQ_SEQ < 65535 →
    ∃ t, exec .markerInstant s = .next t ∧ t.marker.next = s.mkNext (s.marker.next + 1) ∧ t.get TIO.MK_SEQ_SEQ = s.get TIO.MK_SEQ_SEQ + 1 ∧
      t.cnt TIO.MK_CNT = s.cnt TIO.MK_CNT + 1 ∧ t.frames.length = s.frames.length + 1)

/-- Loss and return of the clocks, and what software does to the fault collector: the loss of a lock clears its bit and latches its
source, and REFCLK_SYS counts for all three (R23, R384); the read of FLT_LOG2 removes the head entry and FIRST_CLR empties the
first-fault record (R388); a write of FLT_DIRECT clears the latches it names (R384); the host writes the MSI-X table and its function's
configuration (R316; MSIX_UNMASK carries both, the model's choice of log entry 133), and a message that waited in the PBA is sent, with
what the table holds for it, when its vector is unmasked (R387). -/
def Obligations.ClocksAndFaults : Prop :=
  (∀ s : State, s.wf = true → s.clocksOff = false →
    ∃ t, exec .pll0Loss s = .next t ∧ t.bit SYS.SYS_STATUS_PLL0_LOCK = false ∧ t.fltCond = s.fltCond ||| 0x100000 ∧
      t.rd FLT.FLT_DIRECT = s.rd FLT.FLT_DIRECT ||| 0x100000 ∧ t.tim = s.tim) ∧
  (∀ s : State, s.wf = true → s.clocksOff = false →
    ∃ t, exec .pll1Loss s = .next t ∧ t.bit SYS.SYS_STATUS_PLL1_LOCK = false ∧ t.fltCond = s.fltCond ||| 0x200000 ∧
      t.rd FLT.FLT_DIRECT = s.rd FLT.FLT_DIRECT ||| 0x200000 ∧ t.tim = s.tim) ∧
  (∀ s : State, s.wf = true → s.clocksOff = false →
    ∃ t, exec .pll2Loss s = .next t ∧ t.bit SYS.SYS_STATUS_PLL2_LOCK = false ∧ t.fltCond = s.fltCond ||| 0x400000 ∧
      t.rd FLT.FLT_DIRECT = s.rd FLT.FLT_DIRECT ||| 0x400000 ∧ t.tim = s.tim) ∧
  (∀ s : State, s.wf = true → s.clocksOff = false →
    ∃ t, exec .refclkLoss s = .next t ∧ t.bit SYS.SYS_STATUS_REFCLK_OK = false ∧ t.bit SYS.SYS_STATUS_PLL0_LOCK = false ∧
      t.bit SYS.SYS_STATUS_PLL1_LOCK = false ∧ t.bit SYS.SYS_STATUS_PLL2_LOCK = false ∧ t.pllLost 0 = true ∧ t.pllLost 1 = true ∧
      t.pllLost 2 = true ∧ t.fltCond.getLsbD 23 = true) ∧
  (∀ (n : Fin 3) (s : State), s.wf = true → s.clocksOff = false →
    ∃ t, exec (.pllLockRegained n) s = .next t ∧ t.bit (pllBit n) = true ∧ t.fltCond.getLsbD (20 + n) = false ∧
      (∀ k : Nat, k < 32 → k ≠ 20 + (n : Nat) → t.fltCond.getLsbD k = s.fltCond.getLsbD k) ∧ t.rd FLT.FLT_DIRECT = s.rd FLT.FLT_DIRECT) ∧
  (∀ s : State, s.wf = true → s.clocksOff = false →
    ∃ t, exec .refclkRestored s = .next t ∧ t.bit SYS.SYS_STATUS_REFCLK_OK = true ∧ t.fltCond.getLsbD 23 = false ∧
      (∀ k : Nat, k < 23 → t.fltCond.getLsbD k = s.fltCond.getLsbD k) ∧ t.rd FLT.FLT_DIRECT = s.rd FLT.FLT_DIRECT) ∧
  (∀ (ini : Initiator) (e : List Word) (l : List (List Word)) (s : State), s.mayRead ini (FLT.FLT_LOG 2) = true → s.fltLog = e :: l →
    exec (.fltLogRead ini) s = .next { s with fltLog := l, wire := s.wire ++ [.bus ini (.data (e.getD 2 0))] }) ∧
  (∀ (ini : Initiator) (s : State), s.wf = true → s.mayWrite ini FLT.FLT_FIRST_VALID.addr = true →
    ∃ t, exec (.firstClr ini) s = .next t ∧ t.bit FLT.FLT_FIRST_VALID = false ∧ t.rd FLT.FIRST_NS = 0 ∧ t.rd FLT.FIRST_SEC = 0 ∧
      t.fltLog = s.fltLog ∧ t.rd FLT.FLT_PEND = s.rd FLT.FLT_PEND) ∧
  (∀ (ini : Initiator) (w : Word) (s : State), s.wf = true → s.mayWrite ini FLT.FLT_DIRECT = true → s.setNow FLT.FLT_DIRECT = 0 →
    ∃ t, exec (.fltDirectClear ini w) s = .next t ∧ t.rd FLT.FLT_DIRECT = s.rd FLT.FLT_DIRECT &&& ~~~(w &&& 0x0FF00000) ∧
      t.fltCond = s.fltCond ∧ t.rd FLT.FLT_PEND = s.rd FLT.FLT_PEND) ∧
  (∀ (mask : Word) (v : Fin 32) (x : BitVec 64 × Word) (s : State),
    exec (.msixUnmask mask true [(v, x)] none) s =
      .next { s with msixMask := mask, msixFn := true,
                     brg := { s.brg with pcie := { s.brg.pcie with msix := assocSet s.brg.pcie.msix v x } } }) ∧
  (∀ (mask : Word) (c : PcieCfg) (s : State),
    exec (.msixUnmask mask true [] (some c)) s =
      .next { s with msixMask := mask, msixFn := true,
                     brg := { s.brg with pcie := { s.brg.pcie with bar0 := c.bar0, bar2 := c.bar2, cto := ctoUs c.cto,
                                                                   d3 := s.brg.pcie.d3 && !c.d0 } } }) ∧
  (∀ (mask : Word) (v : Nat) (s : State), s.msixPba = BitVec.ofNat 32 (2 ^ v) → v < 32 → mask.getLsbD v = false → s.vecPend v = true →
    s.bit BRG.BRG_STATUS_PCIE_LINK = true →
    ∃ t, exec (.msixUnmask mask false [] none) s = .next t ∧ t.msixPba.getLsbD v = false ∧
      Emit.msix v (assocD s.brg.pcie.msix v (0, 0)).1 (assocD s.brg.pcie.msix v (0, 0)).2 ∈ t.wire ∧ t.regs = s.regs)

/-- Registers of one 32-bit field that take what is written and have no other effect, one or more of every block that has such. -/
def plainWords : List Nat :=
  [SYS.HOST_IMG_HI, TIM.WT_SET_SEC_LO, TIO.TIO_SA_LO_SA_LO.addr, SLC.COMMIT_T_SEC_LO_SEC_LO.addr, LKP.CHANGE_T_SEC_LO_SEC_LO.addr,
   GWE.GW_SA_LO_SA_LO.addr, GWE.GW_SID_HI, GWE.GW_SID_LO, CPH.PN_SKIP, TWP.SWAP_T_SEC_LO_SEC_LO.addr, TWP.PC_TAG, BRG.PEER_LOCK_DATA,
   UPD.BLK_CRC, UPD.RD_OFF]

/-- Accesses of the register space: a write stores its word and nothing else (R2, R3); after release a write that would change a locked
field changes nothing and is latched as a locked write (R4); a write of another size changes nothing (R2); a counter is read and
cleared at once, its high word going to the initiator's holding register (R5, R394); the pair registers latch alike (R394); one to an
event bit clears it (R385); the debugger's system bus reads and writes the control pair's RAMs (R313). -/
def Obligations.RegisterAccesses : Prop :=
  (∀ (ini : Initiator) (a : Nat) (w : Word) (s : State), s.wf = true → a ∈ plainWords → s.mayWrite ini a = true →
    ∃ t, exec (.registerWrite ini (BitVec.ofNat 25 a) 4 w) s = .next t ∧ t.rd a = w ∧ (∀ b, b ≠ a → t.rd b = s.rd b) ∧
      t.cnts = s.cnts ∧ t.wire = s.wire ++ [.bus ini .done]) ∧
  (∀ (ini : Initiator) (w : Word) (s : State), s.wf = true → s.mayWrite ini SYS.PCIE_SUBSYS = true → s.released = true →
    w ≠ s.rd SYS.PCIE_SUBSYS →
    ∃ t, exec (.registerWrite ini (BitVec.ofNat 25 SYS.PCIE_SUBSYS) 4 w) s = .next t ∧ t.rd SYS.PCIE_SUBSYS = s.rd SYS.PCIE_SUBSYS ∧
      (t.rd FLT.FLT_DIRECT).getLsbD 26 = true ∧ ∀ b, b ≠ FLT.FLT_DIRECT → t.rd b = s.rd b) ∧
  (∀ (ini : Initiator) (a : BitVec 25) (size : Nat) (w : Word) (s : State), s.mute ini = false → a.toNat < 0x1400000 →
    size ≠ 4 ∨ a.toNat % 4 ≠ 0 → ini ≠ .host →
    exec (.registerWrite ini a size w) s = .next { s with wire := s.wire ++ [.bus ini .fault] }) ∧
  (∀ (a : BitVec 25) (size : Nat) (w : Word) (s : State), s.mute .host = false → a.toNat < 0x1400000 → size ≠ 4 ∨ a.toNat % 4 ≠ 0 →
    exec (.registerWrite .host a size w) s =
      .next { s with brg := { s.brg with pcie := { s.brg.pcie with aer := s.brg.pcie.aer ||| 0x100000 } },
                     wire := s.wire ++ [.bus .host .unsupported] }) ∧
  (∀ (ini : Initiator) (a : BitVec 25) (s : State), s.wf = true → (cntAt a.toNat).isSome = true → a.toNat / 0x100000 ≠ 3 →
    s.mayRead ini a.toNat = true →
    ∃ t, exec (.counterLowRead ini a) s = .next t ∧ t.cnt a.toNat = 0 ∧ (∀ b, b ≠ a.toNat → t.cnt b = s.cnt b) ∧
      t.held ini a.toNat = word ((s.cnt a.toNat).toNat / 4294967296) ∧ t.regs = s.regs ∧
      t.wire = s.wire ++ [.bus ini (.data (word (s.cnt a.toNat).toNat))]) ∧
  (∀ (ini : Initiator) (s : State), s.wf = true → s.mayRead ini CPU.MTIME_LO = true →
    ∃ t, exec (.holdingLowRead ini (BitVec.ofNat 25 CPU.MTIME_LO)) s = .next t ∧ t.cpu = s.cpu ∧
      t.held ini CPU.MTIME_LO = word (s.cpu.mtime / 4294967296) ∧ t.wire = s.wire ++ [.bus ini (.data (word s.cpu.mtime))]) ∧
  (∀ (ini : Initiator) (p : Fin 16) (w : Word) (s : State), s.wf = true → s.mayWrite ini (TIO.PIN_EVENT p) = true →
    s.setNow (TIO.PIN_EVENT p) = 0 →
    ∃ t, exec (.eventClear ini (BitVec.ofNat 25 (TIO.PIN_EVENT p)) w) s = .next t ∧
      t.rd (TIO.PIN_EVENT p) = s.rd (TIO.PIN_EVENT p) &&& ~~~(w &&& 0x1F) ∧ ∀ b, b ≠ TIO.PIN_EVENT p → t.rd b = s.rd b) ∧
  (∀ (k : Nat) (v : Word) (s : State), s.wf = true → k < 0x20000 → s.mute .jtag = false →
    ∃ t, exec (.debugSysbusAccess (BitVec.ofNat 32 (0x10000000 + 4 * k)) 4 (some v)) s = .next t ∧
      (∀ j, j < 4 → t.memByte 0 (0x10000000 + 4 * k + j) = BitVec.ofNat 8 (v.toNat / 256 ^ j)) ∧
      (∀ p a, p < 2 → a < 4294967296 → ¬ (p = 0 ∧ 0x10000000 + 4 * k ≤ a ∧ a < 0x10000000 + 4 * k + 4) → t.memByte p a = s.memByte p a) ∧
      t.regs = s.regs ∧ t.wire = s.wire ++ [.bus .jtag .done]) ∧
  (∀ (a : Word) (size : Nat) (w : Option Word) (s : State), s.mute .jtag = false → 0x41400000 ≤ a.toNat →
    exec (.debugSysbusAccess a size w) s = .next { s with wire := s.wire ++ [.bus .jtag .fault] })

/-- The links of the external ports: a change of PCS_CFG takes the link through the drop procedure (R70, R71); the conditions of R73
start the 1 ms hold, whose end brings the link up; LINK_DOWN takes it down, clears PCS_LOCK whichever condition was lost (the model's
choice, log entry 43) and counts; an RS-FEC codeword is corrected or counted, and marks the frame that it overlaps (R72); the
auto-negotiation word is kept (R69); the verify process of preemption, whose mPackets leave at once (R82; log entry 46); the link
partner's low-power idle (R85); the write of CT_THRESH loads CT_CUR with whole cells (R78). -/
def Obligations.PortLinks : Prop :=
  (∀ (ini : Initiator) (p : Fin 14) (w : Word) (s : State), s.wf = true → s.mayWrite ini (MAC.PCS_CFG p) = true → s.linkUp p = false →
    bitsOf w 2 0 ≠ s.get (MAC.PCS_CFG_MODE p) →
    ∃ t, exec (.pcsCfgWrite ini p w) s = .next t ∧ t.get (MAC.PCS_CFG_MODE p) = bitsOf w 2 0 ∧ t.bit (MAC.PORT_STATUS_PCS_LOCK p) = false ∧
      t.linkUp p = false ∧ (t.mac p).holding = false ∧ (t.mac p).anWord = none) ∧
  (∀ (p : Fin 14) (s : State), s.wf = true → s.macMode p ≠ 0 → s.wak.serdes = false → s.portAsleep p = false → s.linkUp p = false →
    s.speedNow p ≠ 0 →
    ∃ t, exec (.pcsLockGained p) s = .next t ∧ t.bit (MAC.PORT_STATUS_PCS_LOCK p) = true ∧ t.bit (MAC.PORT_STATUS_FEC_LOCK p) = s.fecUsed p ∧
      (t.mac p).holding = true ∧ t.linkUp p = false) ∧
  (∀ (p : Fin 14) (s : State), s.wf = true → (s.mac p).holding = true → (s.mac p).holdFrom + 1000000000 ≤ s.nowPs →
    ∃ t, exec (.linkUp p) s = .next t ∧ t.linkUp p = true ∧ t.bit (MAC.PORT_EVENT_LINK_UP p) = true ∧ (t.mac p).holding = false ∧
      t.copies = s.copies ∧ t.frames = s.frames) ∧
  (∀ (p : Fin 14) (s : State), s.wf = true → s.linkUp p = true → s.copies = [] → (s.mac p).rx = none → (s.mac p).assembly = none →
    (s.mac p).tx = none → (s.mac p).suspended = none → s.twp.swapped = none → s.bit (MAC.PREEMPT_CFG_PREEMPT_EN p) = false →
    s.bit (MAC.PORT_STATUS_LPI_TX p) = false → s.bit (MAC.PORT_STATUS_LPI_RX p) = false → s.lkp.hold = 0 →
    ∃ t, exec (.linkDown p) s = .next t ∧ t.linkUp p = false ∧ t.bit (MAC.PORT_STATUS_PCS_LOCK p) = false ∧
      t.bit (MAC.PORT_EVENT_LINK_DOWN p) = true ∧ t.cnt (MAC.LINK_DOWN_CNT p) = s.cnt (MAC.LINK_DOWN_CNT p) + 1 ∧
      (t.mac p).holding = false) ∧
  (∀ (p : Fin 14) (s : State), s.wf = true → s.fecUsed p = true → s.bit (MAC.PORT_STATUS_FEC_LOCK p) = true → s.linkUp p = true →
    ∃ t, exec (.fecCodewordReceived p false) s = .next t ∧ t.cnt (MAC.FEC_CORR_CW p) = s.cnt (MAC.FEC_CORR_CW p) + 1 ∧ t.regs = s.regs ∧
      t.macs = s.macs) ∧
  (∀ (p : Fin 14) (s : State), s.wf = true → s.fecUsed p = true → s.bit (MAC.PORT_STATUS_FEC_LOCK p) = true → s.linkUp p = true →
    ∃ t, exec (.fecCodewordReceived p true) s = .next t ∧ t.cnt (MAC.FEC_UNCORR_CW p) = s.cnt (MAC.FEC_UNCORR_CW p) + 1 ∧
      t.bit (MAC.PORT_EVENT_FEC_UNCORR p) = true ∧ (t.mac p).rx = (s.mac p).rx.map (fun r => { r with bad := true }) ∧
      (t.mac p).assembly = (if (s.mac p).rx.isSome then (s.mac p).assembly
        else (s.mac p).assembly.map fun a => { a with rx := { a.rx with bad := true } })) ∧
  (∀ (p : Fin 14) (sp : BitVec 3) (s : State), s.wf = true → s.anUsed p = true → s.linkUp p = false → offered (s.macMode p) sp.toNat = true →
    ∃ t, exec (.autonegWordReceived p sp false) s = .next t ∧ (t.mac p).anWord = some (sp.toNat, false) ∧
      t.get (MAC.PORT_STATUS_SPEED_ACT p) = sp.toNat ∧ t.bit (MAC.PORT_STATUS_AN_DONE p) = true) ∧
  (∀ (p : Fin 14) (s : State), s.wf = true → s.mPackets p = true → s.get (MAC.PORT_STATUS_VERIFY_STATUS p) = 1 →
    (s.mac p).attempts < max 1 (s.get (MAC.PREEMPT_CFG_VERIFY_LIMIT p)) → s.verifyDue p ≤ s.nowPs →
    ∃ t, exec (.verifyTimerExpiry p) s = .next t ∧ (t.mac p).attempts = (s.mac p).attempts + 1 ∧ t.regs = s.regs ∧
      t.wire = s.wire ++ [.mpacket p false]) ∧
  (∀ (p : Fin 14) (s : State), s.wf = true → s.mPackets p = true → s.get (MAC.PORT_STATUS_VERIFY_STATUS p) = 1 →
    max 1 (s.get (MAC.PREEMPT_CFG_VERIFY_LIMIT p)) ≤ (s.mac p).attempts → s.verifyDue p ≤ s.nowPs →
    ∃ t, exec (.verifyTimerExpiry p) s = .next t ∧ t.get (MAC.PORT_STATUS_VERIFY_STATUS p) = 3 ∧
      t.bit (MAC.PORT_EVENT_VERIFY_FAIL p) = true ∧ t.wire = s.wire) ∧
  (∀ (p : Fin 14) (s : State), s.mPackets p = true → s.bit (MAC.MAC_CFG_RX_EN p) = true →
    exec (.verifyMpacketReceived p) s = .next { s with wire := s.wire ++ [.mpacket p true] }) ∧
  (∀ (p : Fin 14) (s : State), s.wf = true → s.mPackets p = true → s.bit (MAC.MAC_CFG_RX_EN p) = true →
    s.get (MAC.PORT_STATUS_VERIFY_STATUS p) = 1 → 0 < (s.mac p).attempts → s.bit (MAC.PREEMPT_CFG_PREEMPT_EN p) = true →
    ∃ t, exec (.respondMpacketReceived p) s = .next t ∧ t.get (MAC.PORT_STATUS_VERIFY_STATUS p) = 2 ∧
      t.bit (MAC.PORT_STATUS_PREEMPT_ACTIVE p) = true ∧ t.macs = s.macs) ∧
  (∀ (p : Fin 14) (s : State), s.wf = true → s.linkUp p = true → s.macMode p ≠ 6 → s.bit (MAC.PORT_STATUS_LPI_RX p) = false →
    ∃ t, exec (.linkPartnerLpiSignalling p true) s = .next t ∧ t.bit (MAC.PORT_STATUS_LPI_RX p) = true ∧ (t.mac p).lpiRxAt = s.nowPs) ∧
  (∀ (p : Fin 14) (s : State), s.wf = true →
    ∃ t, exec (.linkPartnerLpiSignalling p false) s = .next t ∧ t.bit (MAC.PORT_STATUS_LPI_RX p) = false) ∧
  (∀ (ini : Initiator) (p : Fin 14) (w : Word) (s : State), s.wf = true → s.mayWrite ini (MAC.CT_THRESH p) = true →
    ∃ t, exec (.ctThreshWrite ini p w) s = .next t ∧ t.get (MAC.CT_THRESH_THRESH p) = bitsOf w 11 0 ∧
      t.get (MAC.CT_CUR_CUR p) = max 64 (min 2048 (bitsOf w 11 0 / 64 * 64)))

/-- Frames at the external ports: a frame that begins is taken with its timestamp, one at a link that is down has no effect (R31, R73);
its tail completes it and counts it, a fault counts its cause (R75, R92); fragments are reassembled in order (R84; the first fragment
count expected is 0, PRESUMED in log entry 45); received pauses set and clear the classes they name, and their times (R89, R90). -/
def Obligations.PortReception : Prop :=
  (∀ (p : Fin 14) (ph : Fin 8) (head : Bytes) (s : State), s.wf = true → s.rxRefused p = none → (s.mac p).rx = none → head.length < 14 →
    ∃ t, exec (.frameRxStart p ph head) s = .next t ∧
      (t.mac p).rx = some { ts := s.rxStamp p ph, len := head.length, front := head.take 64, held := some head, fid := none } ∧
      t.frames = s.frames ∧ t.regs = s.regs) ∧
  (∀ (p : Fin 14) (ph : Fin 8) (head : Bytes) (s : State), s.linkUp p = false → exec (.frameRxStart p ph head) s = .next s) ∧
  (∀ (p : Fin 14) (rest : Bytes) (ok pcs : Bool) (r : Rx) (cause : Nat) (s : State), s.wf = true → s.stalled = false → s.copies = [] →
    (s.mac p).rx = some r → r.cut = false → r.fid = none → s.rxCause p (r.len + rest.length + 4) ((r.front ++ rest).take 64) ok (pcs && !r.bad) = some cause →
    ∃ t, exec (.frameRxEnd p rest ok pcs) s = .next t ∧ (t.mac p).rx = none ∧ t.cnt cause = s.cnt cause + 1 ∧ t.frames = s.frames) ∧
  (∀ (p : Fin 14) (rest : Bytes) (r : Rx) (fid : Nat) (f : Frame) (s : State), s.wf = true → s.stalled = false → s.copies = [] →
    (s.mac p).rx = some r → r.cut = false → r.fid = some fid → s.frame? fid = some f → f.secPend = false → f.sec = none → f.secLen = 0 →
    f.cutThrough = false → f.hitCtr = none →
    f.handle ≠ none → s.rxCause p (r.len + rest.length + 4) ((r.front ++ rest).take 64) true (!r.bad) = none →
    ∃ t, exec (.frameRxEnd p rest true true) s = .next t ∧ (t.mac p).rx = none ∧
      t.frame? fid = some { f with data := f.data ++ rest, tail := true, len := (f.data ++ rest).length + 4 } ∧
      t.cnt (MAC.RX_FRAMES_OK p) = s.cnt (MAC.RX_FRAMES_OK p) + 1 ∧
      t.cnt (MAC.RX_BYTES_OK p) = s.cnt (MAC.RX_BYTES_OK p) + BitVec.ofNat 64 (r.len + rest.length + 4)) ∧
  (∀ (p : Fin 14) (ph : Fin 8) (d : Bytes) (count : Fin 4) (s : State), s.wf = true → s.copies = [] → s.rxRefused p = none →
    (s.mac p).assembly = none → d.length < 14 →
    ∃ t, exec (.fragmentReceived p ph d count true false true true) s = .next t ∧
      (t.mac p).assembly = some { rx := { ts := s.rxStamp p ph, len := d.length, front := d.take 64, held := some d, fid := none }, next := 0 } ∧
      t.cnt (MAC.RX_FRAG p) = s.cnt (MAC.RX_FRAG p) + 1) ∧
  (∀ (p : Fin 14) (ph : Fin 8) (d : Bytes) (count : Fin 4) (a : Assembly) (s : State), s.wf = true → s.copies = [] → s.rxRefused p = none →
    (s.mac p).assembly = some a → a.rx.fid = none → a.rx.cut = false → a.next ≠ count →
    ∃ t cause, exec (.fragmentReceived p ph d count false true true true) s = .next t ∧ (t.mac p).assembly = none ∧
      cause = (if a.rx.bad then MAC.RX_PCS_ERR p else MAC.RX_ASSY_ERR p) ∧ t.cnt cause = s.cnt cause + 1) ∧
  (∀ (p : Fin 14) (c : Fin 8) (times : List (BitVec 16)) (s : State), s.wf = true → s.rxRefused p = none →
    BitVec.ofNat 8 (s.get (MAC.PFC_CFG_PFC_RX_MASK p)) = 0xFF →
    ∃ t, exec (.pfcReceived p (BitVec.ofNat 8 (2 ^ (c : Nat))) times) s = .next t ∧ t.cnt (MAC.RX_PFC p) = s.cnt (MAC.RX_PFC p) + 1 ∧
      (word (t.get (MAC.PFC_STATE_RX_PAUSED p))).getLsbD c = decide (times.getD c 0 ≠ 0) ∧
      ∀ k : Fin 8, k ≠ c → (word (t.get (MAC.PFC_STATE_RX_PAUSED p))).getLsbD k = (word (s.get (MAC.PFC_STATE_RX_PAUSED p))).getLsbD k) ∧
  (∀ (p : Fin 14) (time : BitVec 16) (s : State), s.wf = true → s.rxRefused p = none → s.bit (MAC.PFC_CFG_PAUSE_RX_EN p) = false →
    ∃ t, exec (.pauseReceived p time) s = .next t ∧ t.cnt (MAC.RX_CTRL_OTHER p) = s.cnt (MAC.RX_CTRL_OTHER p) + 1 ∧ t.regs = s.regs ∧
      t.macs = s.macs) ∧
  (∀ (p : Fin 14) (time : BitVec 16) (m : BitVec 8) (s : State), s.wf = true → s.rxRefused p = none →
    s.bit (MAC.PFC_CFG_PAUSE_RX_EN p) = true → m = BitVec.ofNat 8 (s.get (MAC.PFC_CFG_PFC_RX_MASK p)) →
    ∃ t, exec (.pauseReceived p time) s = .next t ∧ t.cnt (MAC.RX_CTRL_OTHER p) = s.cnt (MAC.RX_CTRL_OTHER p) + 1 ∧
      (∀ k : Fin 8, (word (t.get (MAC.PFC_STATE_RX_PAUSED p))).getLsbD k =
        if m.getLsbD k then decide (time ≠ 0) else (word (s.get (MAC.PFC_STATE_RX_PAUSED p))).getLsbD k) ∧
      ∀ k : Fin 8, m.getLsbD k = true → time ≠ 0 →
        assocD (t.mac p).pauseEnd k 0 = s.nowPs + time.toNat * 64 * s.byteTime p) ∧
  (∀ (p : Fin 14) (c : Fin 8) (s : State), s.wf = true → assocD (s.mac p).pauseEnd c 0 ≤ s.nowPs →
    ∃ t, exec (.pfcPauseExpiry p c) s = .next t ∧ (word (t.get (MAC.PFC_STATE_RX_PAUSED p))).getLsbD c = false ∧
      ∀ k : Fin 8, k ≠ c → (word (t.get (MAC.PFC_STATE_RX_PAUSED p))).getLsbD k = (word (s.get (MAC.PFC_STATE_RX_PAUSED p))).getLsbD k)

/-- The transmit side of the external ports: a copy that runs dry ends stomped and is counted (R81); a fragment ends where R83 allows
and the rest waits, its first fragment count being 0 (PRESUMED in log entry 45); low-power idle is entered and left (R85); priority
flow control (R87, R88). -/
def Obligations.PortTransmission : Prop :=
  (∀ (p : Fin 14) (t0 : Tx) (c : Copy) (f : Frame) (cid : Nat) (s : State), s.wf = true → (s.mac p).tx = some t0 → t0.cid = some cid →
    s.stalled = false → s.copy? cid = some c → c.out = p → c.cid = cid → c.stomp = none → s.frame? c.fid = some f → c.st = .sending →
    s.ranDry p t0 c f = true →
    s.twp.swapped = none →
    ∃ t, exec (.underrun (p.castLE (by decide))) s = .next t ∧ (t.mac p).tx = none ∧
      t.cnt (MAC.TX_STOMP_UNDERRUN p) = s.cnt (MAC.TX_STOMP_UNDERRUN p) + 1) ∧
  (∀ (p : Fin 14) (t0 : Tx) (c : Copy) (f : Frame) (cid : Nat) (s : State), s.wf = true → (s.mac p).tx = some t0 → t0.cid = some cid →
    s.copy? cid = some c → s.frame? c.fid = some f → c.stomp = none → t0.shadow = none → s.cutPoint p t0 (s.fragBytes p t0) = true →
    s.canPreempt p c.tc (c.sent + t0.bytes) c.oneStep = true → s.holdAt p s.nowPs = true →
    ∃ t, exec (.preemption p) s = .next t ∧ (t.mac p).tx = none ∧
      (t.mac p).suspended = some { t0 with bytes := t0.bytes - s.fragBytes p t0,
                                           frag := some (match t0.frag with | some k => (k + 1) % 4 | none => 0) } ∧
      (t.mac p).freeAt = t0.start + (24 + s.fragBytes p t0) * s.byteTime p ∧
      t.wire = s.wire ++ [.frame p (((t0.octets f false).drop c.sent).take (s.fragBytes p t0)) false false t0.frag] ∧
      t.cnt (MAC.TX_FRAG p) = s.cnt (MAC.TX_FRAG p) + 1 ∧ t.cnt (LKP.HOLD_PREEMPT_CNT p) = s.cnt (LKP.HOLD_PREEMPT_CNT p) + 1 ∧
      t.regs = s.regs) ∧
  (∀ (p : Fin 14) (s : State), s.wf = true → s.bit (MAC.EEE_CFG_LPI_EN p) = true → s.macMode p ≠ 6 → s.mayStart p = true →
    s.portEligible p = false → s.bit (MAC.EEE_CFG_GATE_WAKE p) = false →
    max (s.mac p).freeAt (s.mac p).eligAt + max 1 (s.get (MAC.EEE_CFG_LPI_IDLE p)) * 1000000 ≤ s.nowPs →
    ∃ t, exec (.lpiEnter p) s = .next t ∧ t.bit (MAC.PORT_STATUS_LPI_TX p) = true ∧ (t.mac p).lpiTxAt = s.nowPs ∧
      t.cnt (MAC.LPI_TX_ENTRY p) = s.cnt (MAC.LPI_TX_ENTRY p) + 1) ∧
  (∀ (p : Fin 14) (s : State), s.wf = true → s.stalled = false → s.bit (MAC.PORT_STATUS_LPI_TX p) = true → s.portEligible p = true →
    ∃ t, exec (.lpiExit p) s = .next t ∧ t.bit (MAC.PORT_STATUS_LPI_TX p) = false ∧ (t.mac p).lpiTxAt = 0) ∧
  (∀ (p : Fin 14) (c : Fin 8) (s : State), s.wf = true → s.stalled = false → s.pairEn = false → (word (s.get (BSN.XOFF_STATE_TC p))).getLsbD c = true →
    s.llOcc p c ≤ s.get (BSN.PFC_TH_XON_TH p) * 256 → s.waits p c = false →
    ∃ t, exec (.pfcXon p c) s = .next t ∧ t.get (BSN.XOFF_STATE_TC p) = s.get (BSN.XOFF_STATE_TC p) - 2 ^ (c : Nat) ∧
      (t.mac p).pfcQ ≠ []) ∧
  (∀ (p : Fin 14) (c : Fin 8) (s : State), s.wf = true → s.get (MAC.PFC_STATE_TX_XOFF p) / 2 ^ (c : Nat) % 2 = 1 → s.shadowPort p = false →
    (s.mac p).pfcQ = [] → s.refreshDue p c = true →
    ∃ t, exec (.pfcRefreshExpiry p c) s = .next t ∧
      (t.mac p).pfcQ = [PfcOut.mk (BitVec.ofNat 8 (2 ^ (c : Nat))) (BitVec.ofNat 8 (2 ^ (c : Nat))) s.tim.wt] ∧ t.regs = s.regs) ∧
  (∀ (p : Fin 14) (q : PfcOut) (rest : List PfcOut) (s : State), s.wf = true → (s.mac p).pfcQ = q :: rest → s.mayStart p = true →
    s.shadowPort p = false → s.pfcHeld p = false →
    ∃ t, exec (.pfcFrameSend p) s = .next t ∧ (t.mac p).pfcQ = rest ∧
      (t.mac p).tx = some { cid := none, start := s.nowPs, first := s.nowPs, data := s.pfcOctets p q, bytes := 64, express := true, close := none } ∧
      t.regs = s.regs)

/-- Rule versions in Sluice: OPEN makes the next version the stage, its sweep opens it (R117); COMMIT_NOW and COMMIT_AT arm, CANCEL
disarms, and before release sets VER_REFUSED (R116); the stage becomes current when the commit fires (R119); ABANDON drops the stage (R118); a version without frames retires
(R120), and its sweep ends. -/
def Obligations.RuleVersions : Prop :=
  (∀ (ini : Initiator) (s : State), s.wf = true → s.mayWrite ini SLC.VER_CMD = true → s.released = true → s.slc.stage = none →
    s.isLive (((s.verCur + 1) % 8 + 4) % 8) = false → s.slc.sweeps = [] →
    ∃ t, exec (.versionOpen ini) s = .next t ∧ t.slc = { s.slc with stage := some ((s.verCur + 1) % 8), sweeps := [.open_] } ∧
      t.get SLC.VER_STATUS_VER_STAGE = (s.verCur + 1) % 8 ∧ t.isLive ((s.verCur + 1) % 8) = true ∧
      t.bit SLC.VER_STATUS_SWEEP_BUSY = true ∧ t.verCur = s.verCur ∧ t.cnts = s.cnts) ∧
  (∀ (n : Nat) (rest : List Sweep) (s : State), s.wf = true → s.slc.stage = some n → s.slc.sweeps = .open_ :: rest → s.slc.waiting = [] →
    ∃ t, exec .openSweepDone s = .next t ∧ t.slc = { s.slc with sweeps := rest } ∧ t.bit SLC.VER_STATUS_STAGE_OPEN = true ∧
      t.bit SLC.SLC_EVENT_SWEEP_DONE = true) ∧
  (∀ (ini : Initiator) (s : State), s.wf = true → s.mayWrite ini SLC.VER_CMD = true → s.released = true →
    s.bit SLC.VER_STATUS_STAGE_OPEN = true →
    ∃ t, exec (.versionCommitNow ini) s = .next t ∧ t.slc = { s.slc with commitNow := true } ∧ t.regs = s.regs) ∧
  (∀ (ini : Initiator) (s : State), s.wf = true → s.mayWrite ini SLC.VER_CMD = true → s.released = true →
    s.bit SLC.VER_STATUS_STAGE_OPEN = true → s.slc.armed = none → s.nowQ + usQ ≤ s.commitT →
    ∃ t, exec (.versionCommitAt ini false) s = .next t ∧ t.slc = { s.slc with armed := some (s.commitT, false) } ∧
      t.bit SLC.VER_STATUS_COMMIT_ARMED = true ∧ t.twp = s.twp) ∧
  (∀ (ini : Initiator) (at_ : Nat) (s : State), s.wf = true → s.mayWrite ini SLC.VER_CMD = true → s.released = true →
    s.slc.armed = some (at_, false) →
    ∃ t, exec (.versionCancel ini) s = .next t ∧ t.slc = { s.slc with armed := none, jumped := none } ∧ t.bit SLC.VER_STATUS_COMMIT_ARMED = false ∧
      t.lkp = s.lkp) ∧
  (∀ (ini : Initiator) (s : State), s.wf = true → s.mayWrite ini SLC.VER_CMD = true → s.released = false →
    ∃ t, exec (.versionCancel ini) s = .next t ∧ t.bit SLC.SLC_EVENT_VER_REFUSED = true ∧ t.slc = s.slc) ∧
  (∀ (ini : Initiator) (n : Nat) (s : State), s.wf = true → s.mayWrite ini SLC.VER_CMD = true → s.released = true → n < 8 →
    s.slc.stage = some n → s.slc.sweeps = [] → (s.slc.armed.any fun a => a.2) = false →
    ∃ t, exec (.versionAbandon ini) s = .next t ∧
      t.slc = { s.slc with stage := none, armed := none, jumped := if s.slc.armed = none then s.slc.jumped else none, commitNow := false,
                           sweeps := [.abandon n] } ∧ t.isLive n = false ∧
      t.bit SLC.VER_STATUS_STAGE_OPEN = false) ∧
  (∀ (n : Nat) (s : State), s.wf = true → s.slc.commitNow = true → s.slc.stage = some n → n < 8 →
    ∃ t, exec .commitFire s = .next t ∧ t.verCur = n ∧ t.slc.stage = none ∧ t.slc.armed = none ∧ t.slc.commitNow = false ∧
      t.slc.intervals = ((n, s.nowQ) :: s.slc.intervals).take 8 ∧ t.bit SLC.VER_STATUS_STAGE_OPEN = false ∧
      t.bit SLC.SLC_EVENT_COMMITTED = true ∧ t.tabs = s.tabs) ∧
  (∀ (v : Fin 8) (t0 : Nat) (s : State), s.wf = true → s.slc.since.find? (fun x => x.1 == (v : Nat)) = some ((v : Nat), t0) →
    (v : Nat) ≠ s.verCur → s.isLive v = true → s.slc.stage ≠ some (v : Nat) → s.get (SLC.INFLIGHT_COUNT v) = 0 →
    t0 + s.retireGuard ≤ s.nowQ →
    ∃ t, exec (.versionRetire v) s = .next t ∧ t.isLive v = false ∧ t.bit SLC.SLC_EVENT_RETIRED = true ∧
      t.slc = { s.slc with sweeps := s.slc.sweeps ++ [.retire v] } ∧ t.tabs = s.tabs) ∧
  (∀ (v : Nat) (rest : List Sweep) (s : State), s.wf = true → s.slc.sweeps = .retire v :: rest →
    ∃ t, exec .ruleSweepDone s = .next t ∧ t.slc = { s.slc with sweeps := rest } ∧ t.bit SLC.SLC_EVENT_SWEEP_DONE = true ∧
      t.bit SLC.VER_STATUS_SWEEP_BUSY = !rest.isEmpty)

/-- Sluice's tables through indirect access, for an initiator that owns the window while it is idle (R396, R397): READ returns an
entry, and clears one of counters (Table 5.13); WRITE stores the window in a table without banks, and refuses a rule that a live version
would see change (R118 for an open stage; without one the model's choice, log entry 53); HASH gives the candidate of each bank (R101); MOVE moves a valid entry to a free candidate (R104); LOOKUP
finds the entry of a key (R103, R416). -/
def Obligations.SluiceTables : Prop :=
  (∀ (ini : Initiator) (cmd : Word) (ecc : EccState) (s : State), s.wf = true → s.mayWrite ini SLC.TBL_CMD = true →
    s.ownsTable 0 ini = true → s.slcBusy = false → s.slc.sweeps.head? ≠ some .open_ → bitsOf cmd 31 28 ≤ 8 →
    bitsOf cmd 15 0 < (slcSize (bitsOf cmd 31 28)).2 → ecc ≠ .uncorrectable →
    ∃ t, exec (.slcTblRead ini cmd ecc) s = .next t ∧ t.rd SLC.TBL_STATUS = 0 ∧
      (∀ w, w < (slcSize (bitsOf cmd 31 28)).1 → t.rd (SLC.TBL_DATA w) =
        s.slcW (bitsOf cmd 31 28) (if slcBanked (bitsOf cmd 31 28) then bitsOf cmd 17 16 else 0) (bitsOf cmd 15 0) w) ∧
      (bitsOf cmd 31 28 ≠ 8 → t.tabs = s.tabs) ∧
      (bitsOf cmd 31 28 = 8 → t.entry 4 tCtr 0 (bitsOf cmd 15 0) 4 = [0, 0, 0, 0])) ∧
  (∀ (ini : Initiator) (cmd : Word) (s : State), s.wf = true → s.mayWrite ini SLC.TBL_CMD = true → s.ownsTable 0 ini = true →
    s.slcBusy = false → s.slc.sweeps.head? ≠ some .open_ → bitsOf cmd 31 28 = 1 ∨ bitsOf cmd 31 28 = 2 →
    bitsOf cmd 15 0 < (slcSize (bitsOf cmd 31 28)).2 →
    slcBadEntry (bitsOf cmd 31 28) (bitsOf cmd 15 0) (s.slcWin (slcSize (bitsOf cmd 31 28)).1) = false →
    ∃ t, exec (.slcTblWrite ini cmd) s = .next t ∧ t.rd SLC.TBL_STATUS = 0 ∧
      t.entry 4 (bitsOf cmd 31 28) 0 (bitsOf cmd 15 0) (slcSize (bitsOf cmd 31 28)).1 = s.slcWin (slcSize (bitsOf cmd 31 28)).1 ∧
      ∀ k, (¬ (tkey 4 (bitsOf cmd 31 28) 0 (bitsOf cmd 15 0) 0 ≤ k ∧
        k < tkey 4 (bitsOf cmd 31 28) 0 (bitsOf cmd 15 0) 0 + (slcSize (bitsOf cmd 31 28)).1)) → t.tab k = s.tab k) ∧
  (∀ (ini : Initiator) (cmd : Word) (v : Fin 8) (s : State), s.wf = true → s.mayWrite ini SLC.TBL_CMD = true → s.ownsTable 0 ini = true →
    s.slcBusy = false → s.slc.sweeps.head? ≠ some .open_ → bitsOf cmd 31 28 = 0 → bitsOf cmd 15 0 < 32768 →
    slcBadEntry 0 (bitsOf cmd 15 0) (s.slcWin 16) = false →
    (∀ u : Fin 8, s.isLive u = false → bitsOf ((s.slcWin 16).getD 12 0) u u = 0) → s.isLive v = true → s.slc.stage ≠ some (v : Nat) →
    ruleFor v (s.entry 4 tRule 0 (bitsOf cmd 15 0) 16) ≠ ruleFor v (s.slcWin 16) →
    ∃ t, exec (.slcTblWrite ini cmd) s = .next t ∧ t.get SLC.TBL_STATUS_RESULT = 1 ∧ t.tabs = s.tabs) ∧
  (∀ (ini : Initiator) (cmd : Word) (s : State), s.wf = true → s.mayWrite ini SLC.TBL_CMD = true → s.ownsTable 0 ini = true →
    s.slcBusy = false → s.slc.sweeps.head? ≠ some .open_ → bitsOf cmd 31 28 = 0 →
    ∃ t, exec (.slcTblHash ini cmd) s = .next t ∧ t.rd SLC.TBL_STATUS = 0 ∧
      (∀ b : Fin 4, t.rd (SLC.TBL_HASH b) = word (s.ruleCand s.winKey b)) ∧ t.tabs = s.tabs) ∧
  (∀ (ini : Initiator) (cmd : Word) (s : State), s.wf = true → s.mayWrite ini SLC.TBL_CMD = true → s.ownsTable 0 ini = true →
    s.slcBusy = false → s.slc.sweeps.head? ≠ some .open_ → bitsOf cmd 31 28 = 0 → bitsOf cmd 15 0 < 32768 →
    bitsOf (s.slcW tRule 0 (bitsOf cmd 15 0) 12) 31 31 = 1 →
    bitsOf (s.slcW tRule 0 (s.ruleCand (s.ruleKey (bitsOf cmd 15 0)) (bitsOf cmd 19 18)) 12) 31 31 = 0 →
    ∃ t, exec (.slcTblMove ini cmd) s = .next t ∧ t.rd SLC.TBL_STATUS = 0 ∧
      t.entry 4 tRule 0 (s.ruleCand (s.ruleKey (bitsOf cmd 15 0)) (bitsOf cmd 19 18)) 16 = s.entry 4 tRule 0 (bitsOf cmd 15 0) 16 ∧
      t.entry 4 tRule 0 (bitsOf cmd 15 0) 16 = List.replicate 16 0) ∧
  (∀ (ini : Initiator) (cmd : Word) (s : State), s.wf = true → s.mayWrite ini SLC.TBL_CMD = true → s.ownsTable 0 ini = true →
    s.slcBusy = false → s.slc.sweeps.head? ≠ some .open_ → bitsOf cmd 31 28 = 0 →
    ∃ t, exec (.slcTblLookup ini cmd) s = .next t ∧ t.tabs = s.tabs ∧
      t.rd SLC.TBL_STATUS = (match (s.ruleHits s.winKey (bitsOf cmd 22 20)).head? with | some i => word i | none => word (3 * 16777216)))

/-- Sluice resolves a frame whose ICV, if it has one, has passed (R258): one of a version that is not live any more is dropped and counted (R93, R120); one whose walk fails at a
port with FAIL_ACT drop is counted, described and dropped (R95, Table 5.9); one that hits a rule takes the rule's copies, and is
counted (R93, R103, R109). -/
def Obligations.SluiceResolution : Prop :=
  (∀ (fid : Nat) (bad : Option (Fin 4)) (f : Frame) (s : State), s.wf = true → s.frame? fid = some f → f.stage = .arriving →
    f.secPend = false → f.verified = true → f.inPort < 14 → f.handle = none → f.counted = false → s.flowing = true →
    s.isLive (s.versionAt f.ts) = false →
    ∃ t, exec (.sluiceResolve fid bad) s = .next t ∧ t.cnt SLC.VER_LATE_DROP_CNT = s.cnt SLC.VER_LATE_DROP_CNT + 1 ∧
      t.bit SLC.SLC_EVENT_VER_LATE_DROP = true ∧ t.frames = s.frames.filter (fun g => g.fid != fid) ∧ t.tabs = s.tabs) ∧
  (∀ (fid : Nat) (bad : Option (Fin 4)) (f : Frame) (v cause node : Nat) (p : Parse) (s : State), s.wf = true → s.frame? fid = some f →
    f.stage = .arriving → f.secPend = false → f.verified = true → f.inPort < 14 → f.handle = none → s.flowing = true →
    s.versionAt f.ts = v → v < 8 →
    s.isLive v = true → s.parse v f.inPort f.bytes f.tail = .fail cause node p → s.portCfg v f.inPort 1 4 3 = 0 →
    ∃ t, exec (.sluiceResolve fid bad) s = .next t ∧ t.cnt SLC.PARSE_FAIL_CNT = s.cnt SLC.PARSE_FAIL_CNT + 1 ∧
      t.cnt SLC.FRAMES_CNT = s.cnt SLC.FRAMES_CNT + 1 ∧ t.bit SLC.SLC_EVENT_PARSE_FAIL = true ∧
      t.rd SLC.PARSE_FAIL_INFO = word (node * 256 + f.inPort * 16 + cause) ∧
      t.frames = s.frames.filter (fun g => g.fid != fid)) ∧
  (∀ (fid i v : Nat) (f : Frame) (p : Parse) (s : State), s.wf = true → s.frame? fid = some f → f.stage = .arriving →
    f.secPend = false → f.verified = true → f.inPort < 14 → f.tail = true → s.flowing = true → s.versionAt f.ts = v → v < 8 →
    s.isLive v = true → s.parse v f.inPort f.bytes f.tail = .ok p → p.hasFlag 13 = false → p.hasFlag 14 = false →
    bitsOf (s.slcW tProfile (v % 4) (p.profile.getD (s.portCfg v f.inPort 0 19 16)) 0) 31 30 = 3 →
    s.ruleHits (s.keyOf v f.inPort f.src (p.profile.getD (s.portCfg v f.inPort 0 19 16)) p f.bytes) v = [i] →
    bitsOf (s.slcW tRule 0 i 12) 30 30 = 0 → bitsOf (s.slcW tRule 0 i 10) 31 30 = 1 → bitsOf (s.slcW tRule 0 i 10) 19 19 = 0 →
    bitsOf (s.slcW tRule 0 i 10) 14 14 = 0 → bitsOf (s.slcW tRule 0 i 11) 31 31 = 0 →
    bitsOf (s.slcW tRule 0 i 11) 14 14 = 0 → (∀ q : Fin 16, s.zonePass v (s.portCfg v f.inPort 0 27 24) q = true) →
    portsOf (s.portSet (bitsOf (s.slcW tRule 0 i 10) 29 20) f.inPort) ≠ [] →
    ∃ t g, exec (.sluiceResolve fid none) s = .next t ∧ t.frame? fid = some g ∧ g.ruleHit = some i ∧ g.version = v ∧ g.stage = .passed ∧
      g.targets.map (·.out) = portsOf (s.portSet (bitsOf (s.slcW tRule 0 i 10) 29 20) f.inPort) ∧ g.cpu = none ∧ g.data = f.data ∧
      t.cnt SLC.HIT_CNT = s.cnt SLC.HIT_CNT + 1 ∧ t.cnt SLC.FRAMES_CNT = s.cnt SLC.FRAMES_CNT + 1 ∧ t.tabs = s.tabs)

/-- The stream stages on a frame that has fully arrived: a context that is not valid discards it (R123, R125); one with no stage enabled
passes it (R123); a meter passes it green and takes its length from the committed bucket (R133). A refill adds the rates within
the bucket sizes, once in 32 ticks (R132), and a recovery function that times out takes any number next (R139). -/
def Obligations.StreamStages : Prop :=
  (∀ (fid c : Nat) (f : Frame) (s : State), s.wf = true → s.stalled = false → c < 4096 → s.frame? fid = some f → f.stage = .resolved →
    f.stream = some c →
    f.tail = true → f.icvWait = false → f.handle = none → f.counted = false → s.strB tCtx c 0 31 31 = 0 →
    ∃ t, exec (.streamStages fid none) s = .next t ∧ t.frames = s.frames.filter (fun g => g.fid != fid) ∧
      t.cnt STR.INVALID_DROP_CNT = s.cnt STR.INVALID_DROP_CNT + 1 ∧ t.cnt STR.STR_FRAMES_CNT = s.cnt STR.STR_FRAMES_CNT + 1 ∧
      t.regs = s.regs) ∧
  (∀ (fid c : Nat) (f : Frame) (s : State), s.wf = true → s.stalled = false → c < 4096 → s.frame? fid = some f → f.inPort < 14 →
    f.stage = .resolved → f.stream = some c → f.tail = true → f.icvWait = false → s.strB tCtx c 0 31 31 = 1 → s.strB tCtx c 0 30 30 = 0 →
    s.strB tCtx c 0 28 28 = 0 →
    s.strB tCtx c 1 31 31 = 0 → s.strB tCtx c 1 15 14 = 0 → s.strB tCtx c 3 0 0 = 0 → s.strB tCtx c 3 1 1 = 0 →
    ∃ t, exec (.streamStages fid none) s = .next t ∧ t.frame? fid = some { f with stage := .passed } ∧
      t.cnt STR.STR_PASS_CNT = s.cnt STR.STR_PASS_CNT + 1 ∧ t.copies = s.copies ∧ t.regs = s.regs) ∧
  (∀ (fid c m : Nat) (f : Frame) (s : State), s.wf = true → s.stalled = false → c < 4096 → m < 4096 → s.frame? fid = some f →
    f.inPort < 14 → f.stage = .resolved → f.stream = some c → f.tail = true → f.icvWait = false → f.parse.outerTag = none →
    s.strB tCtx c 0 31 31 = 1 → s.strB tCtx c 0 30 30 = 0 →
    s.strB tCtx c 0 28 28 = 0 → s.strB tCtx c 1 31 31 = 1 → s.strB tCtx c 1 27 16 = m → s.strB tCtx c 1 15 14 = 0 →
    s.strB tCtx c 3 0 0 = 0 → s.strB tCtx c 3 1 1 = 0 → s.strB tCtx c 3 2 2 = 0 → s.strB tMeter m 0 31 31 = 1 → f.len * 65536 ≤ s.tc m →
    ∃ t, exec (.streamStages fid none) s = .next t ∧
      t.frame? fid = some { f with stage := .passed, colour := 0, paid := some (m, 0) } ∧ t.tc m = s.tc m - f.len * 65536 ∧
      t.te m = s.te m ∧ t.cnt STR.STR_PASS_CNT = s.cnt STR.STR_PASS_CNT + 1) ∧
  (∀ (m : Nat) (s : State), s.wf = true → s.stalled = false → s.str.grid ≠ s.tim.ticks / 32 → m < 4096 → s.strValid tMeter = [m] →
    ∃ t, exec .meterRefill s = .next t ∧
      t.tc m = min (s.strB tMeter m 2 19 0 * 65536) (min (s.strB tMeter m 2 19 0 * 65536) (s.tc m) + s.strB tMeter m 0 23 0) ∧
      (s.strB tMeter m 0 29 29 = 0 →
        t.te m = min (s.strB tMeter m 3 19 0 * 65536) (min (s.strB tMeter m 3 19 0 * 65536) (s.te m) + s.strB tMeter m 1 23 0)) ∧
      t.str.pend = [] ∧ t.str.grid = s.tim.ticks / 32 ∧ t.regs = s.regs) ∧
  (∀ s : State, s.str.grid = s.tim.ticks / 32 → exec .meterRefill s = .next s) ∧
  (∀ (r : Fin 1024) (s : State), s.wf = true → s.strB tRec r 0 31 31 = 1 → s.strB tRec r 1 15 15 = 0 → s.strB tRec r 0 26 26 = 0 →
    assocD s.str.passAt r 0 + max 1 (s.strB tRec r 0 15 0) * msQ ≤ s.nowQ →
    ∃ t, exec (.recoveryTimeout r) s = .next t ∧ t.strB tRec r 1 15 15 = 1 ∧ t.strB tRec r 1 31 16 = s.strB tRec r 1 31 16 ∧
      t.history r = 0 ∧ t.strW tRec r 0 = s.strW tRec r 0 ∧ t.regs = s.regs)

/-- The tables of the stream block through indirect access, for an initiator that owns the window (R396, R397): READ, clearing an
entry of counters (R145); WRITE of a legal entry (R418); CLEAR_LATCH (R125); FILL puts a meter's buckets at their sizes (R131);
RESET of a recovery function (R137); and the event queue (R145). -/
def Obligations.StreamTables : Prop :=
  (∀ (ini : Initiator) (cmd : Word) (ecc : EccState) (s : State), s.wf = true → s.mayWrite ini STR.TBL_CMD = true →
    s.ownsTable 1 ini = true → bitsOf cmd 31 28 ≤ 6 → bitsOf cmd 11 0 < (strSize (bitsOf cmd 31 28)).2 → ecc ≠ .uncorrectable →
    ∃ t, exec (.strTblRead ini cmd ecc) s = .next t ∧ t.rd STR.TBL_STATUS = 0 ∧
      (∀ w, w < (strSize (bitsOf cmd 31 28)).1 → t.rd (STR.TBL_DATA w) = s.strW (bitsOf cmd 31 28) (bitsOf cmd 11 0) w) ∧
      (bitsOf cmd 31 28 < 5 → t.tabs = s.tabs) ∧
      (5 ≤ bitsOf cmd 31 28 → t.entry 5 (bitsOf cmd 31 28) 0 (bitsOf cmd 11 0) 16 = List.replicate 16 0)) ∧
  (∀ (ini : Initiator) (cmd : Word) (s : State), s.wf = true → s.mayWrite ini STR.TBL_CMD = true → s.ownsTable 1 ini = true →
    bitsOf cmd 31 28 = 1 ∨ bitsOf cmd 31 28 = 4 → bitsOf cmd 11 0 < (strSize (bitsOf cmd 31 28)).2 →
    (∀ w, w < (strSize (bitsOf cmd 31 28)).1 → legalWord (s.rd (STR.TBL_DATA w)) (strMask (bitsOf cmd 31 28) w) = true) →
    strLegal (bitsOf cmd 31 28) (s.window (STR.TBL_DATA 0) (strSize (bitsOf cmd 31 28)).1) = true →
    ∃ t, exec (.strTblWrite ini cmd) s = .next t ∧ t.rd STR.TBL_STATUS = 0 ∧
      (∀ w, w < (strSize (bitsOf cmd 31 28)).1 → t.strW (bitsOf cmd 31 28) (bitsOf cmd 11 0) w = s.rd (STR.TBL_DATA w)) ∧ t.str = s.str) ∧
  (∀ (ini : Initiator) (cmd : Word) (s : State), s.wf = true → s.mayWrite ini STR.TBL_CMD = true → s.ownsTable 1 ini = true →
    bitsOf cmd 31 28 = 0 →
    ∃ t, exec (.clearLatch ini cmd) s = .next t ∧ t.rd STR.TBL_STATUS = 0 ∧
      ∀ k, t.tab k = if k = tkey 5 tCtx 0 (bitsOf cmd 11 0) 3 then 0 else s.tab k) ∧
  (∀ (ini : Initiator) (cmd : Word) (s : State), s.wf = true → s.mayWrite ini STR.TBL_CMD = true → s.ownsTable 1 ini = true →
    bitsOf cmd 31 28 = 2 → s.strB tMeter (bitsOf cmd 11 0) 0 31 31 = 1 →
    (s.str.pend.find? fun p => p.idx == bitsOf cmd 11 0) = none →
    ∃ t, exec (.fill ini cmd) s = .next t ∧ t.rd STR.TBL_STATUS = 0 ∧
      t.tc (bitsOf cmd 11 0) = s.strB tMeter (bitsOf cmd 11 0) 2 19 0 * 65536 ∧
      t.te (bitsOf cmd 11 0) = s.strB tMeter (bitsOf cmd 11 0) 3 19 0 * 65536) ∧
  (∀ (ini : Initiator) (cmd : Word) (s : State), s.wf = true → s.mayWrite ini STR.TBL_CMD = true → s.ownsTable 1 ini = true →
    bitsOf cmd 31 28 = 3 → bitsOf cmd 11 0 < 1024 → s.strB tRec (bitsOf cmd 11 0) 0 31 31 = 1 →
    ∃ t, exec (.recReset ini cmd) s = .next t ∧ t.rd STR.TBL_STATUS = 0 ∧ t.strB tRec (bitsOf cmd 11 0) 1 15 15 = 1 ∧
      t.history (bitsOf cmd 11 0) = 0 ∧ t.strW tRec (bitsOf cmd 11 0) 0 = s.strW tRec (bitsOf cmd 11 0) 0) ∧
  (∀ (ini : Initiator) (s : State), s.mayRead ini STR.EVQ_DATA = true →
    ∃ t, exec (.strEvqRead ini) s = .next t ∧ t.str = { s.str with evq := s.str.evq.tail } ∧ t.regs = s.regs ∧
      t.wire = s.wire ++ [.bus ini (.data (s.str.evq.headD 0))])

/-- Basin: a frame at its allocation point takes the buffer that its rank finds, and its copy joins a VOQ (R148, R149, R152, R153, R155);
a lossless frame that has waited WAIT_US is discarded (R151); REL_CMD releases the control cores' hold, and the last release frees the
buffer with the next generation (R152, R154); an aged descriptor is discarded as its output's release (R156); BUF_SEL and VOQ_SEL show
the selected record and queue (Table 7.3); the end of a transmission releases and counts (R154, R200). -/
def Obligations.BasinBuffers : Prop :=
  (∀ (i : Fin 14) (o q share : Nat) (f : Frame) (s : State), s.wf = true → s.flowing = true → s.frames = [f] → f.inPort = i → f.handle = none →
    f.stage = .passed → f.tail = true → f.icvWait = false → f.waiting = false → f.cpu = none → f.secLen = 0 → f.rank = 2 →
    f.targets = [⟨o, false, false⟩] → o < 16 → s.copies = [] → s.notes = [] → s.bsn.bufs = [] → s.bsn.nextIdx = [] →
    s.get (MAC.PFC_CFG_PFC_TX_MASK i) = 0 → s.reqRank f = 2 → s.findPool i 2 f.len false = some (q, share) →
    (∀ k : Fin 16, (s.can k).rx = []) → residence s.nowQ f.ts ≤ s.ageLimit i →
    ∃ t, exec (.bufferAllocate (i.castLE (by decide)) [f.fid] []) s = .next t ∧
      t.frames = [{ f with handle := some (q, 0, 0), stage := .buffered, allocAt := s.tim.ticks }] ∧ t.bsn.nextIdx = [(4 * (i : Nat) + q, 1)] ∧
      t.bsn.bufs = [{ slice := i, pool := q, idx := 0, owner := BitVec.ofNat 18 (2 ^ o), rank := share, taken := true, fid := f.fid }] ∧
      t.copies.map (fun c => (c.cid, c.fid, c.out, c.tc, c.st)) = [(s.nextCid, f.fid, o, f.tc, .queued)] ∧
      t.cnt (BSN.ALLOC_CNT i) = s.cnt (BSN.ALLOC_CNT i) + 1) ∧
  (∀ (p : Fin 14) (f : Frame) (s : State), s.wf = true → s.pairEn = false → s.stalled = false →
    s.frames.find? (fun f => f.waiting && f.inPort == (p : Nat)) = some f → s.frame? f.fid = some f → s.yields p 1 f.len = false →
    f.waitAt + clampN 1 1000 (s.get (BSN.AGE_CFG_WAIT_US p)) * usQ ≤ s.nowQ →
    ∃ t, exec (.losslessWaitExpiry p) s = .next t ∧ t.frames = s.frames.filter (fun g => g.fid != f.fid) ∧
      t.cnt (BSN.NOBUF_TC p f.tc) = s.cnt (BSN.NOBUF_TC p f.tc) + 1 ∧ t.bit BSN.BSN_EVENT_NOBUF = true ∧ t.bsn = s.bsn) ∧
  (∀ (ini : Initiator) (w : Word) (b : Buf) (s : State), s.wf = true → s.mayWrite ini BSN.REL_CMD = true →
    s.buf? (bitsOf w 27 24) (bitsOf w 23 22) (bitsOf w 15 0) = some b → b.gen = bitsOf w 21 16 → b.owner = BitVec.ofNat 18 131072 →
    b.dup ≠ some 17 → b.withdrawn = false →
    ∃ t, exec (.relCmd ini w) s = .next t ∧ t.get BSN.REL_STATUS_RESULT = 1 ∧
      t.buf? (bitsOf w 27 24) (bitsOf w 23 22) (bitsOf w 15 0) =
        some { b with taken := false, owner := 0, dup := none, laRefs := 0, gen := (b.gen + 1) % 64 } ∧
      t.bsn.freed = s.bsn.freed ++ [(bitsOf w 27 24, bitsOf w 23 22, bitsOf w 15 0)] ∧ t.frames = s.frames.filter (fun g => g.fid != b.fid)) ∧
  (∀ (ini : Initiator) (w : Word) (s : State), s.wf = true → s.mayWrite ini BSN.REL_CMD = true →
    s.buf? (bitsOf w 27 24) (bitsOf w 23 22) (bitsOf w 15 0) = none →
    ∃ t, exec (.relCmd ini w) s = .next t ∧ t.get BSN.REL_STATUS_RESULT = 2 ∧ t.bsn = s.bsn ∧ t.frames = s.frames ∧
      t.cnt (BSN.REJ_CNT 17) = s.cnt (BSN.REJ_CNT 17) + 1 ∧ t.bit BSN.BSN_EVENT_REL_REJECT = true) ∧
  (∀ (c : Copy) (f : Frame) (s : State), s.wf = true → s.flowing = true → s.pairEn = false → s.copies = [c] → s.frame? c.fid = some f →
    f.handle = none →
    s.aged c = true → s.eligibleHeads c.out = [] → c.flying = [] → c.freed = false →
    ∃ t, exec .ageScan s = .next t ∧ t.copies = [] ∧ t.cnt (BSN.AGE_DROP_TC c.inp c.tc) = s.cnt (BSN.AGE_DROP_TC c.inp c.tc) + 1 ∧
      t.bit BSN.BSN_EVENT_AGE_DROP = true) ∧
  (∀ (ini : Initiator) (w : Word) (b : Buf) (s : State), s.wf = true → s.mayWrite ini BSN.BUF_SEL = true →
    s.buf? (bitsOf w 31 28) (bitsOf w 23 22) (bitsOf w 15 0) = some b → b.taken = true → b.dup = none → b.withdrawn = false →
    ∃ t, exec (.bufSelWrite ini w) s = .next t ∧ t.rd BSN.BUF_INFO = word (b.gen * 67108864 + b.owner.toNat) ∧
      t.rd BSN.BUF_EXT = word b.laRefs ∧ t.bsn = s.bsn) ∧
  (∀ (ini : Initiator) (w : Word) (s : State), s.wf = true → s.mayWrite ini BSN.VOQ_SEL = true →
    ∃ t, exec (.voqSelWrite ini w) s = .next t ∧ t.rd BSN.VOQ_DEPTH = word (s.voq (bitsOf w 11 8) (bitsOf w 7 4) (bitsOf w 2 0)).length ∧
      t.copies = s.copies ∧ (s.voq (bitsOf w 11 8) (bitsOf w 7 4) (bitsOf w 2 0) = [] → ∀ k : Fin 4, t.rd (BSN.VOQ_HEAD k) = 0)) ∧
  (∀ (p : Fin 14) (t0 : Tx) (s : State), s.wf = true → s.stalled = false → (s.mac p).tx = some t0 → t0.cid = none → t0.shadow = none →
    be16 t0.data 12 = 0x8808 → s.copies.filter Copy.endsNow = [] → t0.start + (8 + t0.bytes) * s.byteTime p ≤ s.nowPs →
    ∃ t, exec (.txEnd (p.castLE (by decide)) .ok) s = .next t ∧ (t.mac p).tx = none ∧
      (t.mac p).freeAt = t0.start + wireBytes t0.bytes * s.byteTime p ∧
      t.cnt (MAC.TX_PFC p) = s.cnt (MAC.TX_PFC p) + 1 ∧ t.regs = s.regs) ∧
  (∀ (p : Fin 14) (t0 : Tx) (c : Copy) (f : Frame) (s : State), s.wf = true → s.pairEn = false → s.twp.swapped = none →
    s.stalled = false → (s.mac p).tx = some t0 → t0.cid = some c.cid → t0.shadow = none → t0.sec = none → t0.late = none → t0.close = none →
    s.copy? c.cid = some c → c.out = p →
    c.sent = 0 → c.stomp = none → c.flying = [] → c.cells ≤ c.inOrder → s.frame? c.fid = some f → f.tail = true → f.verified = true →
    f.handle = none → s.copies.filter Copy.endsNow = [] → t0.start + (8 + f.len) * s.byteTime p ≤ s.nowPs →
    ∃ t, exec (.txEnd (p.castLE (by decide)) .ok) s = .next t ∧ (t.mac p).tx = none ∧
      t.wire = s.wire ++ [.frame p (t0.octets f true) false false t0.frag] ∧ t.copies = s.copies.filter (fun g => g.cid != c.cid) ∧
      t.cnt (MAC.TX_FRAMES_OK p) = s.cnt (MAC.TX_FRAMES_OK p) + 1 ∧ t.cnt (LKP.TX_FRAMES_TC p c.tc) = s.cnt (LKP.TX_FRAMES_TC p c.tc) + 1)

/-- Carousel and Turnstile: a cell time grants the cell 0 of the only eligible head on the plane that starts it, and commits its copy
(R160, R162, R163, R164); without PLL0 no cell time passes (R23); a cell that arrives is kept, one that names no copy is stale (R174);
one missing after 125 cell times loses its frame (R175); software takes a plane out of service and restores it through its self-check
(R171, R173); the pointer and Turnstile windows (R169, R174; OLDEST of an empty lane is a free value, log entry 3). -/
def Obligations.CrossbarCells : Prop :=
  (∀ (fa fb : CrsFault) (rd : List (Fin 16 × EccState)) (r : Option (Fin 16 × BitVec 24)) (s : State), s.pllLost 0 = true →
    exec (.cellTime fa fb rd r) s = .next s) ∧
  (∀ (k : Copy) (f : Frame) (s : State), s.wf = true → s.flowing = true → s.lkp.charges = [] → s.frame? k.fid = some f → s.copies = [k] →
    k.st = .queued → k.inp < 16 → k.out < 16 → k.granted = [] →
    k.flying = [] → s.planeUp true = true → s.planeUp false = true → s.startPlane = some true → s.operRes = [] →
    ({ s with crs := { s.crs with cellNo := s.crs.cellNo + 1 } } : State).eligibleHeads k.out = [k] →
    ∃ t, exec (.cellTime .none .none [] none) s = .next t ∧ t.crs.cellNo = s.crs.cellNo + 1 ∧ t.crs.grants = s.crs.grants + 1 ∧
      t.nextSeq k.inp k.out = (s.nextSeq k.inp k.out + 1) % 65536 ∧ t.cnt CRS.CELLS_A_CNT = s.cnt CRS.CELLS_A_CNT + 1 ∧
      t.cnt CRS.CELLS_B_CNT = s.cnt CRS.CELLS_B_CNT ∧
      t.copies.map (fun c => (c.cid, c.st, c.seq, c.spray, c.granted)) = [(k.cid, .committed, s.nextSeq k.inp k.out, true, [0])] ∧
      (∀ c, c ∈ t.copies → c.flying = [{ idx := 0, plane := true, at_ := s.crs.cellNo + 1, word := sideWord c f 0 }])) ∧
  (∀ (i o : Fin 16) (e : Bool) (seq : BitVec 16) (idx : Fin 152) (c : Copy) (x : Cell) (s : State), s.wf = true → s.flowing = true →
    s.cellCopy i o e seq.toNat = some c → c.flying.find? (fun x => x.idx == (idx : Nat)) = some x → x.sent = true → x.at_ + 3 ≤ s.crs.cellNo →
    c.lost = false → c.st ≠ .draining →
    exec (.cellArrival i o e seq idx 0 .ok) s = .next (s.putCopy { c with flying := c.flying.erase x, arrived := c.arrived ++ [(idx : Nat)] })) ∧
  (∀ (i o : Fin 16) (e : Bool) (seq : BitVec 16) (idx : Fin 152) (flips : BitVec 192) (ecc : EccState) (s : State), s.wf = true →
    s.flowing = true → s.cellCopy i o e seq.toNat = none →
    ∃ t, exec (.cellArrival i o e seq idx flips ecc) s = .next t ∧ t.cnt CRS.STALE_CELL_CNT = s.cnt CRS.STALE_CELL_CNT + 1 ∧
      t.bit CRS.CRS_EVENT_STALE_CELL = true ∧ t.copies = s.copies) ∧
  (∀ (i o : Fin 16) (e : Bool) (seq : BitVec 16) (idx : Fin 152) (c : Copy) (x : Cell) (s : State), s.wf = true → s.pairEn = false →
    s.cellCopy i o e seq.toNat = some c → c.flying.find? (fun x => x.idx == (idx : Nat)) = some x → x.at_ + 125 ≤ s.crs.cellNo → c.lost = false →
    c.st = .committed → c.flying = [x] → s.frame? c.fid = none → s.copies = [c] →
    ∃ t, exec (.cellMissingTimeout i o e seq idx) s = .next t ∧ t.copies = [] ∧
      t.cnt CRS.MISSING_FRAME_CNT = s.cnt CRS.MISSING_FRAME_CNT + 1 ∧ t.cnt (CRS.TS_LOST_FRAME o) = s.cnt (CRS.TS_LOST_FRAME o) + 1 ∧
      t.bit CRS.CRS_EVENT_MISSING = true) ∧
  (∀ (ini : Initiator) (pl : Plane) (s : State), s.wf = true → s.mayWrite ini CRS.PLANE_CMD = true → s.copies = [] → s.planeUp true = true →
    s.planeUp false = true →
    ∃ t, exec (.planeRemoveCmd ini pl) s = .next t ∧ t.planeUp (planeA pl) = false ∧ t.planeUp (!planeA pl) = true ∧
      t.get (if planeA pl then CRS.CRS_STATUS_A_CAUSE else CRS.CRS_STATUS_B_CAUSE) = 3 ∧
      t.bit (if planeA pl then CRS.CRS_EVENT_PLANE_A_DOWN else CRS.CRS_EVENT_PLANE_B_DOWN) = true ∧ t.fltCond = s.fltCond) ∧
  (∀ (ini : Initiator) (pl : Plane) (s : State), s.mayWrite ini CRS.PLANE_CMD = true → s.planeUp (planeA pl) = false →
    ∃ t, exec (.planeRestoreCmd ini pl) s = .next t ∧ t.regs = s.regs ∧
      t.crs = (if planeA pl then { s.crs with checkA := true, checkAt := (s.crs.cellNo, s.crs.checkAt.2) }
        else { s.crs with checkB := true, checkAt := (s.crs.checkAt.1, s.crs.cellNo) })) ∧
  (∀ (pl : Plane) (s : State), s.wf = true → (if planeA pl then s.crs.checkA else s.crs.checkB) = true →
    (if planeA pl then s.crs.checkAt.1 else s.crs.checkAt.2) + 4096 ≤ s.crs.cellNo →
    ∃ t, exec (.planeSelfCheckDone pl true) s = .next t ∧ t.planeUp (planeA pl) = true ∧
      (∀ n, n < 16 → t.ptr (planeA pl) false n = 0 ∧ t.ptr (planeA pl) true n = 0) ∧
      (∀ n, n < 16 → t.ptr (!planeA pl) false n = s.ptr (!planeA pl) false n ∧ t.ptr (!planeA pl) true n = s.ptr (!planeA pl) true n) ∧
        t.fltCond = s.fltCond &&& 0xFEFFFFFF) ∧
  (∀ (pl : Plane) (s : State), s.wf = true → (if planeA pl then s.crs.checkA else s.crs.checkB) = true →
    (if planeA pl then s.crs.checkAt.1 else s.crs.checkAt.2) + 4096 ≤ s.crs.cellNo →
    ∃ t, exec (.planeSelfCheckDone pl false) s = .next t ∧ t.planeUp (planeA pl) = s.planeUp (planeA pl) ∧
      t.bit CRS.CRS_EVENT_RESTORE_FAIL = true ∧ t.crs.ptrs = s.crs.ptrs) ∧
  (∀ (ini : Initiator) (w : Word) (s : State), s.wf = true → s.mayWrite ini CRS.PTR_SEL = true →
    ∃ t, exec (.ptrSelWrite ini w) s = .next t ∧ t.rd CRS.GRANT_PTR_LO = s.ptrWord (bitsOf w 0 0 == 0) false 0 ∧
      t.rd CRS.GRANT_PTR_HI = s.ptrWord (bitsOf w 0 0 == 0) false 8 ∧ t.rd CRS.ACCEPT_PTR_LO = s.ptrWord (bitsOf w 0 0 == 0) true 0 ∧
      t.rd CRS.ACCEPT_PTR_HI = s.ptrWord (bitsOf w 0 0 == 0) true 8 ∧ t.crs = s.crs) ∧
  (∀ (ini : Initiator) (w : Word) (n : Nat) (s : State), s.wf = true → s.mayWrite ini CRS.TS_SEL = true →
    s.oldestSeq (bitsOf w 3 0) (bitsOf w 7 4) = some n →
    ∃ t, exec (.tsSelWrite ini w) s = .next t ∧ t.rd CRS.TS_SEQ = word (s.nextSeq (bitsOf w 3 0) (bitsOf w 7 4) * 65536 + n) ∧
      t.rd CRS.TS_LEVEL = word (s.laneHeld (bitsOf w 3 0) (bitsOf w 7 4) true * 256 + s.laneHeld (bitsOf w 3 0) (bitsOf w 7 4) false) ∧
      t.crs = s.crs ∧ t.fresh = s.fresh) ∧
  (∀ (ini : Initiator) (w : Word) (s : State), s.wf = true → s.mayWrite ini CRS.TS_SEL = true → s.copies = [] → s.crs.nextSeq = [] →
    ∃ t, exec (.tsSelWrite ini w) s = .next t ∧ t.rd CRS.TS_LEVEL = 0 ∧ bitsOf (t.rd CRS.TS_SEQ) 31 16 = 0 ∧ t.fresh = s.fresh + 1)

/-- The reservation table through indirect access, for an initiator that owns its window (R396, R397): READ gives the entry, WRITE
stores an entry that R165 accepts in the admin list and in nothing else. -/
def Obligations.ReservationTable : Prop :=
  (∀ (ini : Initiator) (cmd : Word) (ecc : EccState) (s : State), s.wf = true → s.mayWrite ini CRS.TBL_CMD = true → s.ownsTable 2 ini = true →
    bitsOf cmd 31 28 ≤ 1 → ecc ≠ .uncorrectable →
    ∃ t, exec (.crsTblRead ini cmd ecc) s = .next t ∧ t.rd CRS.TBL_STATUS = 0 ∧ t.tabs = s.tabs ∧
      ∀ w, w < 4 → t.rd (CRS.TBL_DATA w) = s.resW (bitsOf cmd 31 28) (bitsOf cmd 8 0) w) ∧
  (∀ (ini : Initiator) (cmd : Word) (s : State), s.wf = true → s.mayWrite ini CRS.TBL_CMD = true → s.ownsTable 2 ini = true →
    bitsOf cmd 31 28 = 0 → s.badRes (bitsOf cmd 8 0) (s.window (CRS.TBL_DATA 0) 4) = false →
    ∃ t, exec (.crsTblWrite ini cmd) s = .next t ∧ t.rd CRS.TBL_STATUS = 0 ∧
      (∀ w, w < 4 → t.resW 0 (bitsOf cmd 8 0) w = s.rd (CRS.TBL_DATA w)) ∧
      ∀ k, (¬ (tkey 7 0 0 (bitsOf cmd 8 0) 0 ≤ k ∧ k < tkey 7 0 0 (bitsOf cmd 8 0) 0 + 4)) → t.tab k = s.tab k) ∧
  (∀ (ini : Initiator) (cmd : Word) (s : State), s.wf = true → s.mayWrite ini CRS.TBL_CMD = true → s.ownsTable 2 ini = true →
    bitsOf cmd 31 28 = 0 → s.badRes (bitsOf cmd 8 0) (s.window (CRS.TBL_DATA 0) 4) = true →
    ∃ t, exec (.crsTblWrite ini cmd) s = .next t ∧ t.get CRS.TBL_STATUS_RESULT = 6 ∧ t.tabs = s.tabs)

/-- Starts, gates, holds and shapers: the first candidate that fits starts (R178, R189, R190); an entry that begins sets GATE_STATUS, and
one that could not be read closes every gate (R180, R182); a hold asserts and is counted (R193); ARM takes a change or names the first
cause that refuses it, CANCEL disarms it, and at T each of its ports takes its admin list (R183, R184, R180); a refill adds the rate
within the burst, once in 32 ticks (R196, R197), and a credit shaper whose gate is shut stands still (R198). -/
def Obligations.GatesAndShapers : Prop :=
  (∀ (p : Fin 14) (d : BitVec 128) (c : Copy) (f : Frame) (s : State), s.wf = true → s.mayStart p = true → s.pairEn = false →
    s.twp.fence = none → s.twp.swap = none → s.pfcWaits p = false → s.candidates p = [c] → s.copies = [c] → s.frame? c.fid = some f → c.out = p →
    c.st = .committed → f.parse.ptpOff = none → s.secured p = false → (s.mac p).suspended = none → s.fitsNow c f = true →
    ∃ t, exec (.txStart (p.castLE (by decide)) d) s = .next t ∧ t.copies = [{ c with st := .sending }] ∧ t.regs = s.regs ∧
      (t.mac p).tx = some { cid := some c.cid, start := s.nowPs, first := s.nowPs, data := f.data, bytes := f.len,
                            express := !s.preemptable c, close := s.fitClose p c.tc s.nowPs }) ∧
  (∀ (p : Fin 16) (d : BitVec 128) (s : State), s.mayStart p = false → exec (.txStart p d) s = .next s) ∧
  (∀ (p : Fin 16) (s : State), s.wf = true → s.flowing = true → s.pmtActive p = false → s.copies = [] → (s.govern 1 p s.nowPs).entry < 1024 →
    (s.govern 1 p s.nowPs).gates < 256 →
    ∃ t, exec (.gateEntryStart p .ok) s = .next t ∧ t.get (LKP.GATE_STATUS_ENTRY p) = (s.govern 1 p s.nowPs).entry ∧
      t.get (LKP.GATE_STATUS_GATES p) = (s.govern 1 p s.nowPs).gates ∧ t.lkp.eccShut.getLsbD p = false ∧ t.cnts = s.cnts) ∧
  (∀ (p : Fin 16) (s : State), s.wf = true → s.flowing = true → s.copies = [] → s.bit (LKP.OPER_CFG_GATE_EN p) = true →
    ∃ t, exec (.gateEntryStart p .uncorrectable) s = .next t ∧ t.get (LKP.GATE_STATUS_GATES p) = 0 ∧ t.lkp.eccShut.getLsbD p = true ∧
      t.bit LKP.LKP_EVENT_ECC_UNCORR = true ∧ t.lkp.hold = s.lkp.hold) ∧
  (∀ (p : Fin 16) (s : State), s.wf = true → s.flowing = true → s.pmtActive p = true → (s.govern 1 p s.nowPs).op = 1 →
    s.lkp.eccShut.getLsbD p = false → s.lkp.hold.getLsbD p = false →
    ∃ t, exec (.holdAssert p) s = .next t ∧ t.lkp.hold.getLsbD p = true ∧ t.bit (LKP.GATE_STATUS_HOLD p) = true ∧
      t.cnt (LKP.HOLD_CNT p) = s.cnt (LKP.HOLD_CNT p) + 1 ∧ ∀ q, q ≠ (p : Nat) → t.lkp.hold.getLsbD q = s.lkp.hold.getLsbD q) ∧
  (∀ (ini : Initiator) (m : BitVec 16) (s : State), s.wf = true → s.mayWrite ini LKP.CHANGE_CMD = true → s.armRefusal m.toNat s.changeT = none →
    ∃ t, exec (.gateChangeArm ini m false) s = .next t ∧
      t.lkp = { s.lkp with change := some { t := s.changeT * 250, mask := m.toNat, link := false } } ∧ t.bit LKP.CHANGE_STATUS_ARMED = true ∧
      t.get LKP.CHANGE_STATUS_PENDING_MASK = m.toNat ∧ t.tabs = s.tabs) ∧
  (∀ (ini : Initiator) (m : BitVec 16) (k : Bool) (cause port : Nat) (s : State), s.wf = true → s.mayWrite ini LKP.CHANGE_CMD = true →
    s.armRefusal m.toNat s.changeT = some (cause, port) →
    ∃ t, exec (.gateChangeArm ini m k) s = .next t ∧ t.lkp = s.lkp ∧ t.get LKP.CHANGE_STATUS_REFUSE_CAUSE = cause ∧
      t.get LKP.CHANGE_STATUS_REFUSE_PORT = port ∧ t.bit (if cause = 5 then LKP.LKP_EVENT_CHANGE_LATE else LKP.LKP_EVENT_CHANGE_REFUSED) = true) ∧
  (∀ (ini : Initiator) (c : Change) (s : State), s.wf = true → s.mayWrite ini LKP.CHANGE_CMD = true → s.lkp.change = some c → c.link = false →
    ∃ t, exec (.gateChangeCancel ini) s = .next t ∧ t.lkp = { s.lkp with change := none } ∧ t.bit LKP.CHANGE_STATUS_ARMED = false ∧
      t.get LKP.CHANGE_STATUS_PENDING_MASK = 0 ∧ t.bit LKP.LKP_EVENT_CANCELLED = true) ∧
  (∀ (p : Fin 16) (c : Change) (s : State), s.wf = true → s.lkp.change = some c → c.link = false → c.mask = 2 ^ (p : Nat) → c.t ≤ s.nowPs →
    s.copies = [] →
    ∃ t, exec .gateChangeFire s = .next t ∧ t.lkp.change = none ∧ t.bit LKP.LKP_EVENT_CHANGED = true ∧ t.bit LKP.CHANGE_STATUS_ARMED = false ∧
      (∀ o, o < 5 → t.rd (LKP.OPER_CFG p + 4 * o) = s.rd (LKP.ADMIN_CFG p + 4 * o)) ∧
      (∀ e w, e < 1024 → w < 32 → t.tw 8 1 0 (1024 * p + e) w = s.tw 8 0 0 (1024 * p + e) w) ∧
      (∀ k w, k < 16384 → k / 1024 ≠ (p : Nat) → w < 32 → t.tw 8 1 0 k w = s.tw 8 1 0 k w)) ∧
  (∀ (o c : Nat) (s : State), s.stalled = false → s.lkp.grid ≠ s.tim.ticks / 32 → o < 16 → c < 8 → s.shpMode o c = 1 → (s.shaper o c).mode = 1 →
    ∃ t, exec .shaperRefill s = .next t ∧ t.regs = s.regs ∧
      (t.shaper o c).level = min ((s.get (LKP.SHP_BURST_TC_BYTES o c) : Int) * 65536)
        (min ((s.get (LKP.SHP_BURST_TC_BYTES o c) : Int) * 65536) (s.shaper o c).level + s.get (LKP.SHP_RATE_TC_INC o c))) ∧
  (∀ s : State, s.lkp.grid = s.tim.ticks / 32 → exec .shaperRefill s = .next s) ∧
  (∀ (o c : Nat) (s : State), s.stalled = false → s.lkp.grid ≠ s.tim.ticks / 32 → o < 16 → c < 8 → s.shpMode o c = 2 →
    (s.shaper o c).mode = 2 → s.gateOpen o c s.nowPs = false →
    ∃ t, exec .shaperRefill s = .next t ∧ t.regs = s.regs ∧
      (t.shaper o c).level = min ((s.get (LKP.SHP_BURST_TC_BYTES o c) : Int) * 65536) (s.shaper o c).level)

/-- The gate lists through indirect access, for an initiator that owns their window (R396, R397): READ gives an entry, WRITE stores an
entry that R179 accepts in the admin list; the list of a port whose change is pending refuses it (R183). -/
def Obligations.GateTables : Prop :=
  (∀ (ini : Initiator) (cmd : Word) (ecc : EccState) (s : State), s.wf = true → s.mayWrite ini LKP.TBL_CMD = true → s.ownsTable 3 ini = true →
    bitsOf cmd 31 28 ≤ 1 → ecc ≠ .uncorrectable →
    ∃ t, exec (.lkpTblRead ini cmd ecc) s = .next t ∧ t.rd LKP.TBL_STATUS = 0 ∧ t.tabs = s.tabs ∧
      ∀ w, w < 2 → t.rd (LKP.TBL_DATA w) = s.tw 8 (bitsOf cmd 31 28) 0 (bitsOf cmd 13 0) w) ∧
  (∀ (ini : Initiator) (cmd : Word) (s : State), s.wf = true → s.mayWrite ini LKP.TBL_CMD = true → s.ownsTable 3 ini = true →
    bitsOf cmd 31 28 = 0 → s.changeAt (bitsOf cmd 13 0 / 1024) = none → badGate (s.rd (LKP.TBL_DATA 0)) (s.rd (LKP.TBL_DATA 1)) = false →
    ∃ t, exec (.lkpTblWrite ini cmd) s = .next t ∧ t.rd LKP.TBL_STATUS = 0 ∧ t.tw 8 0 0 (bitsOf cmd 13 0) 0 = s.rd (LKP.TBL_DATA 0) ∧
      t.tw 8 0 0 (bitsOf cmd 13 0) 1 = s.rd (LKP.TBL_DATA 1) ∧
      ∀ k, (¬ (tkey 8 0 0 (bitsOf cmd 13 0) 0 ≤ k ∧ k < tkey 8 0 0 (bitsOf cmd 13 0) 0 + 2)) → t.tab k = s.tab k) ∧
  (∀ (ini : Initiator) (cmd : Word) (s : State), s.wf = true → s.mayWrite ini LKP.TBL_CMD = true → s.ownsTable 3 ini = true →
    bitsOf cmd 31 28 = 0 → (s.changeAt (bitsOf cmd 13 0 / 1024)).isSome = true →
    ∃ t, exec (.lkpTblWrite ini cmd) s = .next t ∧ t.get LKP.TBL_STATUS_RESULT = 9 ∧ t.tabs = s.tabs)

/-- The CAN channels: MODE leaves OFF when the timing check passes and the channel integrates, and returns to OFF at once outside a
message (R203, R204), or at the end of the message that it sends or receives (R203); a valid message enters the receive FIFO (R206); a
frame that FD_EN does not allow is a protocol exception with PEX_EN, which ends the message (R205); an error frame is counted at its kind
and moves the error counters (R212); recovery from bus-off (R212) and claim gating at bus idle (R216). That CAN_INTEGRATED and
CAN_MSG_RECEIVED say when a channel has integrated and what the bus carried is the model's choice (log entries 70, 135). -/
def Obligations.CanChannels : Prop :=
  (∀ (ini : Initiator) (c : Fin 16) (w : Word) (s : State), s.wf = true → s.mayWrite ini (CAN.CH_CTRL_MODE c).addr = true → s.canCfg c ≠ 0 →
    bitsOf w 1 0 = 0 → (s.rd (CAN.CH_CTRL_MODE c).addr ^^^ w) &&& 0x38 = 0 → (s.can c).inMsg = false →
    ∃ t, exec (.canModeWrite ini c w false) s = .next t ∧ t.canCfg c = 0 ∧ t.get (CAN.CH_STATUS_MODE_ACT c) = 0 ∧ (t.can c).integ = false ∧
      (t.can c).rx = (s.can c).rx ∧ (t.can c).tx = (s.can c).tx) ∧
  (∀ (ini : Initiator) (c : Fin 16) (w : Word) (s : State), s.wf = true → s.mayWrite ini (CAN.CH_CTRL_MODE c).addr = true → s.canCfg c ≠ 0 →
    bitsOf w 1 0 = 0 → (s.rd (CAN.CH_CTRL_MODE c).addr ^^^ w) &&& 0x38 = 0 → (s.can c).integ = false →
    ∃ t, exec (.canModeWrite ini c w true) s = .next t ∧ t.canCfg c = 0 ∧ (t.can c).offPend = true ∧ (t.can c).inMsg = true ∧
      t.get (CAN.CH_STATUS_MODE_ACT c) = s.get (CAN.CH_STATUS_MODE_ACT c)) ∧
  (∀ (ini : Initiator) (c : Fin 16) (w : Word) (rx : Bool) (s : State), s.wf = true → s.mayWrite ini (CAN.CH_CTRL_MODE c).addr = true →
    s.canCfg c = 0 →
    bitsOf w 1 0 ≠ 0 → (s.plainWrite (CAN.CH_CTRL_MODE c).addr w).canTiming c = true → (s.can c).offPend = false →
    ∃ t, exec (.canModeWrite ini c w rx) s = .next t ∧ t.canCfg c = bitsOf w 1 0 ∧ (t.can c).integ = true ∧ t.fltNow = s.fltNow) ∧
  (∀ (ini : Initiator) (c : Fin 16) (w : Word) (rx : Bool) (s : State), s.wf = true → s.mayWrite ini (CAN.CH_CTRL_MODE c).addr = true →
    s.canCfg c = 0 → bitsOf w 1 0 ≠ 0 → (s.plainWrite (CAN.CH_CTRL_MODE c).addr w).canTiming c = false →
    ∃ t, exec (.canModeWrite ini c w rx) s = .next t ∧ t.canCfg c = 0 ∧ t.bit (CAN.CH_EVENT_BAD_TIMING c) = true ∧ t.cans = s.cans) ∧
  (∀ (c : Fin 16) (s : State), s.wf = true → (s.can c).integ = true → s.canMode c ≠ 0 → s.canStopped c = false →
    ∃ t, exec (.canIntegrated c) s = .next t ∧ t.can c = { s.can c with integ := false } ∧ t.bit (CAN.CH_STATUS_BUS_IDLE c) = true) ∧
  (∀ (c : Fin 16) (m : CanMsg) (sof : Nat) (s : State), s.wf = true → s.canHears c sof = true → s.canMode c = 2 → m.fdf = false →
    (allTargets.any fun x => s.seqState x == 1 || s.seqState x == 2) = false → s.get (CAN.CH_STATUS_MODE_ACT c) = 2 →
    s.bit (CAN.CH_STATUS_CLAIM_GATED c) = false → (s.can c).offPend = false → (∀ q : Fin 16, (s.can q).rx = []) →
    s.inboundEntry c m.ide m.id = none → s.pllLost 0 = false → s.gwe.hand = none →
    ∃ t, exec (.canMsgReceived c m sof) s = .next t ∧ t.cnt (CAN.RX_MSG c) = s.cnt (CAN.RX_MSG c) + 1 ∧
      (t.can c).rx = [{ msg := { m with brs := false, esi := false, data := m.data.take 8 }, sof := sof, check := 2 }] ∧
      (t.can c).inMsg = false ∧ t.bit (CAN.CH_STATUS_BUS_IDLE c) = true ∧ t.frames = s.frames) ∧
  (∀ (c : Fin 16) (m : CanMsg) (sof : Nat) (s : State), s.canHears c sof = false → exec (.canMsgReceived c m sof) s = .next s.gwGo) ∧
  (∀ (c : Fin 16) (s : State), s.wf = true → s.canOut c = false → (s.can c).offPend = true → s.bit (CAN.CH_CTRL_FD_EN c) = false →
    s.bit (CAN.CH_CTRL_PEX_EN c) = true →
    ∃ t, exec (.canProtocolException c) s = .next t ∧ t.can c = { s.can c with integ := false, inMsg := false, offPend := false } ∧
      t.bit (CAN.CH_EVENT_PROTO_EXC c) = true ∧ t.get (CAN.CH_STATUS_MODE_ACT c) = 0 ∧ t.cnts = s.cnts) ∧
  (∀ (c : Fin 16) (s : State), s.wf = true → s.canOut c = false → (s.can c).offPend = false → s.bit (CAN.CH_CTRL_FD_EN c) = false →
    s.bit (CAN.CH_CTRL_PEX_EN c) = true →
    ∃ t, exec (.canProtocolException c) s = .next t ∧ t.can c = { s.can c with integ := true, inMsg := false } ∧
      t.bit (CAN.CH_EVENT_PROTO_EXC c) = true ∧ t.cnts = s.cnts) ∧
  (∀ (c : Fin 16) (ti ri : Fin 16) (s : State), s.wf = true → s.canStopped c = false → (s.can c).integ = false → s.canMode c ≠ 0 → (s.can c).latched = none →
    s.get (CAN.CH_STATUS_MODE_ACT c) = 1 → s.get (CAN.CH_STATUS_STATE c) = 0 → s.tec c + (ti : Nat) < 128 → s.rec_ c + (ri : Nat) < 128 →
    (s.can c).offPend = false →
    ∃ t, exec (.canErrorFrame c 3 ti ri) s = .next t ∧ t.cnt (CAN.ERR_CRC c) = s.cnt (CAN.ERR_CRC c) + 1 ∧ t.tec c = s.tec c + (ti : Nat) ∧
      t.rec_ c = s.rec_ c + (ri : Nat) ∧ t.get (CAN.CH_STATUS_STATE c) = 0 ∧ t.can c = { s.can c with inMsg := false }) ∧
  (∀ (ini : Initiator) (c : Fin 16) (s : State), s.wf = true → s.mayWrite ini (CAN.RECOVER_CMD_GO c).addr = true →
    s.get (CAN.CH_STATUS_STATE c) = 2 →
    ∃ t, exec (.canRecoverCmd ini c) s = .next t ∧ t.bit (CAN.CH_STATUS_RECOVERING c) = true ∧ t.get (CAN.CH_STATUS_STATE c) = 2 ∧
      t.cans = s.cans) ∧
  (∀ (c : Fin 16) (s : State), s.wf = true → s.canStopped c = false → s.bit (CAN.CH_STATUS_RECOVERING c) = true →
    ∃ t, exec (.canRecoveryDone c) s = .next t ∧ t.tec c = 0 ∧ t.rec_ c = 0 ∧ t.get (CAN.CH_STATUS_STATE c) = 0 ∧
      t.bit (CAN.CH_STATUS_RECOVERING c) = false ∧ t.bit (CAN.CH_STATUS_FROZEN c) = s.isolated c ∧ t.bit (CAN.CH_EVENT_RECOVERED c) = true ∧
      t.cans = s.cans) ∧
  (∀ (c : Fin 16) (s : State), s.wf = true → s.pllLost 2 = false → (s.can c).inMsg = false →
    ∃ t, exec (.canGatingChange c) s = .next t ∧ t.bit (CAN.CH_STATUS_CLAIM_GATED c) = s.canWantGate c ∧
      t.get (CAN.CH_STATUS_MODE_ACT c) = (if s.canMode c ≠ 0 ∧ s.canWantGate c = true then 2 else s.canMode c) ∧ t.cans = s.cans)

/-- The transmit side of a CAN channel: the head of the lowest-numbered FIFO goes at the SOF (R208); lost arbitration unlatches it and it
stays (R208); a message that has been sent leaves its FIFO and lowers TEC (R208, R212); CANCEL and FLUSH take entries that are not being
sent, with their result (R211). -/
def Obligations.CanTransmission : Prop :=
  (∀ (c : Fin 16) (f : Fin 4) (m : CanMsg) (s : State), s.wf = true → s.canMay c = true → s.canMode c = 1 → ((s.can c).fifo f).head? = some m →
    (∀ g : Fin 4, g < f → (s.can c).fifo g = []) →
    ∃ t, exec (.canTxSof c) s = .next t ∧ t.can c = { s.can c with latched := some f, inMsg := true, loop := false, sof := s.nowQ } ∧
      t.bit (CAN.CH_STATUS_BUS_IDLE c) = false ∧
      t.wire = s.wire ++ [.can c (s.asSent c m)]) ∧
  (∀ (c : Fin 16) (f : Fin 4) (m : CanMsg) (s : State), s.wf = true → (s.can c).latched = some (f : Nat) → ((s.can c).fifo f).head? = some m →
    s.canStopped c = false → s.oneShot c f = false → (s.can c).cancel = false →
    ∃ t, exec (.canArbLost c) s = .next t ∧ t.can c = { s.can c with latched := none } ∧ t.cnt (CAN.ARB_LOST c) = s.cnt (CAN.ARB_LOST c) + 1 ∧
      t.regs = s.regs) ∧
  (∀ (c : Fin 16) (f : Fin 4) (m : CanMsg) (s : State), s.wf = true → (s.can c).latched = some (f : Nat) → ((s.can c).fifo f).head? = some m →
    s.canStopped c = false → (s.can c).loop = false → (s.can c).cancel = false → (s.can c).offPend = false → s.bit (CAN.CH_CTRL_TDC_EN c) = false →
    s.get (CAN.CH_STATUS_STATE c) = 0 → s.tec c < 128 → s.rec_ c < 128 → (∀ q : Fin 16, (s.can q).rx = []) → s.gwe.hand = none →
    ∃ t, exec (.canTxDone c) s = .next t ∧ t.can c = { s.can c with latched := none, inMsg := false, tx := dropHead (s.can c).tx f } ∧
      t.cnt (CAN.TX_MSG c) = s.cnt (CAN.TX_MSG c) + 1 ∧ t.tec c = s.tec c - 1 ∧ t.rec_ c = s.rec_ c ∧
      t.bit (CAN.CH_STATUS_BUS_IDLE c) = true) ∧
  (∀ (ini : Initiator) (c : Fin 16) (f : Fin 4) (x : Nat × CanMsg) (s : State), s.wf = true →
    s.mayWrite ini (CAN.CANCEL_CMD_OP c).addr = true → s.bit (CAN.CANCEL_STATUS_BUSY c) = false →
    (s.can c).tx.find? (fun x => x.1 == (f : Nat) && s.cancelNames c x.2) = some x → (s.can c).latched ≠ some (f : Nat) →
    ∃ t, exec (.canCancel ini c f) s = .next t ∧ t.can c = { s.can c with tx := (s.can c).tx.erase x, cancel := false } ∧
      t.cnt (CAN.CANCELLED_CNT c) = s.cnt (CAN.CANCELLED_CNT c) + 1 ∧ t.get (CAN.CANCEL_STATUS_RESULT c) = 1 ∧
      t.bit (CAN.CANCEL_STATUS_BUSY c) = false) ∧
  (∀ (ini : Initiator) (c : Fin 16) (f : Fin 4) (s : State), s.wf = true → s.mayWrite ini (CAN.CANCEL_CMD_OP c).addr = true →
    s.bit (CAN.CANCEL_STATUS_BUSY c) = false → (s.can c).tx.find? (fun x => x.1 == (f : Nat) && s.cancelNames c x.2) = none →
    ∃ t, exec (.canCancel ini c f) s = .next t ∧ t.can c = { s.can c with cancel := false } ∧ t.cnts = s.cnts ∧
      t.get (CAN.CANCEL_STATUS_RESULT c) = 4) ∧
  (∀ (ini : Initiator) (c : Fin 16) (f : Fin 4) (s : State), s.wf = true → s.mayWrite ini (CAN.CANCEL_CMD_OP c).addr = true →
    s.bit (CAN.CANCEL_STATUS_BUSY c) = false → (s.can c).fifo f ≠ [] → (s.can c).latched ≠ some (f : Nat) →
    ∃ t, exec (.canFlush ini c f) s = .next t ∧
      t.can c = { s.can c with tx := (s.can c).tx.filter (fun x => x.1 != (f : Nat)), cancel := false } ∧
      t.cnt (CAN.CANCELLED_CNT c) = s.cnt (CAN.CANCELLED_CNT c) + BitVec.ofNat 64 ((s.can c).fifo f).length ∧
      t.get (CAN.CANCEL_STATUS_RESULT c) = 1)

/-- The gateway engine: the message source offers the internal frame of the earliest checked head (R207); a packer's instant sends its
frame (R222); an entry of the share frees and the oldest request is made again (R226); its tables (R218, R396, R397) and its event
queue (R210). -/
def Obligations.GatewayEngine : Prop :=
  (∀ (c : Fin 16) (r : CanRx) (s : State), s.wf = true → s.flowing = true → s.frames = [] → s.gwe.hand = none → (s.can c).rx = [r] → r.check = 2 →
    (∀ q : Fin 16, q ≠ c → (s.can q).rx = []) →
    ∃ t, exec .internalFrameBuild s = .next t ∧ t.can c = { s.can c with seq := ((s.can c).seq + 1) % 256 } ∧
      t.frames.map (fun (f : Frame) => (f.fid, f.inPort, f.src, f.ts)) = [(s.nextFid, 15, 0, r.sof)] ∧
      t.frames.map (fun (f : Frame) => (f.origin, f.waiting)) = [(some ((c : Nat), 1), true)] ∧
      t.frames.map Frame.data = [(s.internalFrame c r).1] ∧ t.regs = s.regs) ∧
  (∀ (p : Fin 16) (s : State), s.wf = true → s.flowing = true → bitsOf (s.packW p 0) 31 31 = 1 → (s.pack p).msgs ≠ [] → (s.pack p).next ≤ s.nowQ →
    ∃ t, exec (.packerRelease p) s = .next t ∧ t.pack p = { s.pack p with msgs := [], seq := ((s.pack p).seq + 1) % 256 } ∧
      t.frames.length = s.frames.length + 1 ∧ t.cnt GWE.PACK_FRAME_CNT = s.cnt GWE.PACK_FRAME_CNT + 1 ∧ t.regs = s.regs) ∧
  (∀ s : State, s.gwe.waitQ = [] → exec .secRequestResubmit s = .next s) ∧
  (∀ (c e v : Nat) (s : State), s.wf = true → s.pllLost 0 = false → s.gwe.waitQ = [.inbound c e v] → s.laCount 0 < 128 →
    s.laCheck (s.gwRequest (.inbound c e v)) = 0 →
    s.gwe.hand = none → (∀ q : Fin 16, (s.can q).rx = []) →
    ∃ t, exec .secRequestResubmit s = .next t ∧ t.gwe.waitQ = [] ∧ t.la.reqs.length = s.la.reqs.length + 1 ∧
      t.la.reqs.getLast?.bind (·.job) = some (.inbound c e v) ∧ t.cans = s.cans) ∧
  (∀ (ini : Initiator) (cmd : Word) (ecc : EccState) (s : State), s.wf = true → s.mayWrite ini GWE.TBL_CMD = true → s.ownsTable 4 ini = true →
    bitsOf cmd 31 28 ≤ 3 → bitsOf cmd 9 0 < (gweSize (bitsOf cmd 31 28)).2 → ecc ≠ .uncorrectable →
    ∃ t, exec (.gweTblRead ini cmd ecc) s = .next t ∧ t.get GWE.TBL_STATUS_RESULT = 0 ∧ t.tabs = s.tabs ∧
      ∀ w, w < (gweSize (bitsOf cmd 31 28)).1 → t.rd (GWE.TBL_DATA w) = s.tw 10 (bitsOf cmd 31 28) 0 (bitsOf cmd 9 0) w) ∧
  (∀ (ini : Initiator) (cmd : Word) (s : State), s.wf = true → s.mayWrite ini GWE.TBL_CMD = true → s.ownsTable 4 ini = true →
    bitsOf cmd 31 28 = 0 → (∀ w : Fin 4, legalWord (s.rd (GWE.TBL_DATA w)) (gweMask 0 w false) = true) →
    bitsOf (s.rd (GWE.TBL_DATA 0)) 30 29 < 2 →
    ∃ t, exec (.gweTblWrite ini cmd) s = .next t ∧ t.get GWE.TBL_STATUS_RESULT = 0 ∧ t.gwe = s.gwe ∧
      (∀ w : Fin 4, t.routeW (bitsOf cmd 9 0) w = s.rd (GWE.TBL_DATA w)) ∧
      ∀ k, (¬ (tkey 10 0 0 (bitsOf cmd 9 0) 0 ≤ k ∧ k < tkey 10 0 0 (bitsOf cmd 9 0) 0 + 4)) → t.tab k = s.tab k) ∧
  (∀ (ini : Initiator) (s : State), s.mayRead ini GWE.EVQ_DATA = true →
    ∃ t, exec (.gweEvqRead ini) s = .next t ∧ t.gwe = { s.gwe with evq := s.gwe.evq.tail } ∧ t.regs = s.regs ∧
      t.wire = s.wire ++ [.bus ini (.data (s.gwe.evq.headD 0))])

/-- The key store: a write of KEY_CMD checks and starts its command, whose effect waits for its end (R232, R234); DERIVE stores the output
of the counter-mode KDF over label and context (R235), UNWRAP the unwrapped key, or nothing when its integrity check fails (R236); LOCK
or ERASE of slot 0 ends with BAD_SLOT (R231); a command is ignored while one runs and ends with ZEROIZED during the sweep (R241); the end
stores the slot, or refuses one that an association has come to use with IN_USE (R234), clears KEY_DATA and sets RESULT and DONE
(R233); the sweep ends (R241). -/
def Obligations.KeyCommands : Prop :=
  (∀ (ini : Initiator) (k : BitVec 10) (s : State), s.wf = true → s.mayWrite ini KEY.KEY_CMD = true → s.bit KEY.KEY_STATUS_BUSY = false →
    s.zeroizing = false → s.destCheck k.toNat false = 0 →
    ∃ t, exec (.keyWrite ini k) s = .next t ∧ t.bit KEY.KEY_STATUS_BUSY = true ∧ t.tabs = s.tabs ∧
      t.key.run = some { op := 1, slot := k.toNat, res := 0,
                         store := some (slotValue (s.rd KEY.KEY_ATTR_IN) (s.keyData 8) ++ [s.rd KEY.KEY_ATTR_IN]) }) ∧
  (∀ (ini : Initiator) (k : BitVec 10) (s : State), s.wf = true → s.mayWrite ini KEY.KEY_CMD = true → s.bit KEY.KEY_STATUS_BUSY = false →
    s.zeroizing = false → s.destCheck k.toNat false ≠ 0 →
    ∃ t, exec (.keyWrite ini k) s = .next t ∧ t.tabs = s.tabs ∧
      t.key.run = some { op := 1, slot := k.toNat, res := s.destCheck k.toNat false, store := none }) ∧
  (∀ (ini : Initiator) (k : BitVec 10) (s : State), s.wf = true → s.mayWrite ini KEY.KEY_CMD = true → s.bit KEY.KEY_STATUS_BUSY = false →
    s.zeroizing = false →
    ∃ t, exec (.keyDerive ini k) s = .next t ∧ t.bit KEY.KEY_STATUS_BUSY = true ∧ t.tabs = s.tabs ∧
      t.key.run = some { op := 2, slot := k.toNat, res := (s.keyEffect 2 k.toNat).1, store := (s.keyEffect 2 k.toNat).2 }) ∧
  (∀ (ini : Initiator) (k : BitVec 10) (a : Word) (s : State), s.wf = true → s.mayWrite ini KEY.KEY_CMD = true →
    s.bit KEY.KEY_STATUS_BUSY = false → s.zeroizing = false → a = s.rd KEY.KEY_ATTR_IN → s.get KEY.KDF_CFG_LABEL_LEN ≤ 16 →
    s.get KEY.KDF_CFG_CTX_LEN ≤ 32 → s.destCheck k.toNat false = 0 → s.srcCheck 0x40 = 0 →
    ∃ t, exec (.keyDerive ini k) s = .next t ∧
      t.key.run = some { op := 2, slot := k.toNat, res := 0, store := some (slotValue a (octetWords 8 (kdf (s.keyOctets (s.get KEY.KEY_SRC_SRC))
        ((wordOctets ((List.range 4).map fun w => s.rd (KEY.KDF_LABEL w))).take (s.get KEY.KDF_CFG_LABEL_LEN))
        ((wordOctets ((List.range 8).map fun w => s.rd (KEY.KDF_CTX w))).take (s.get KEY.KDF_CFG_CTX_LEN) ++
          (if s.bit KEY.KDF_CFG_UID then wordOctets ((List.range 4).map Config.uid) else []))
        (if bitsOf a 30 30 = 1 then 256 else 128))) ++ [a]) }) ∧
  (∀ (ini : Initiator) (k : BitVec 10) (s : State), s.wf = true → s.mayWrite ini KEY.KEY_CMD = true → s.bit KEY.KEY_STATUS_BUSY = false →
    s.zeroizing = false →
    ∃ t, exec (.keyUnwrap ini k) s = .next t ∧ t.bit KEY.KEY_STATUS_BUSY = true ∧ t.tabs = s.tabs ∧
      t.key.run = some { op := 3, slot := k.toNat, res := (s.keyEffect 3 k.toNat).1, store := (s.keyEffect 3 k.toNat).2 }) ∧
  (∀ (ini : Initiator) (k : BitVec 10) (a : Word) (s : State), s.wf = true → s.mayWrite ini KEY.KEY_CMD = true →
    s.bit KEY.KEY_STATUS_BUSY = false → s.zeroizing = false → a = s.rd KEY.KEY_ATTR_IN → s.destCheck k.toNat false = 0 → s.srcCheck 0x60 = 0 →
    ∃ t, exec (.keyUnwrap ini k) s = .next t ∧
      t.key.run = some (match kwUnwrap (s.keyOctets (s.get KEY.KEY_SRC_SRC))
          (wordOctets ((List.range (if bitsOf a 30 30 = 1 then 10 else 6)).map fun w => s.rd (KEY.KEY_DATA w))) with
        | some key => { op := 3, slot := k.toNat, res := 0, store := some (slotValue a (octetWords 8 key) ++ [a]) }
        | none => { op := 3, slot := k.toNat, res := 6, store := none })) ∧
  (∀ (ini : Initiator) (s : State), s.wf = true → s.mayWrite ini KEY.KEY_CMD = true → s.bit KEY.KEY_STATUS_BUSY = false →
    s.zeroizing = false →
    ∃ t, exec (.keyErase ini 0) s = .next t ∧ t.tabs = s.tabs ∧ t.key.run = some { op := 4, slot := 0, res := 1, store := none }) ∧
  (∀ (ini : Initiator) (k : BitVec 10) (s : State), s.wf = true → s.mayWrite ini KEY.KEY_CMD = true → s.bit KEY.KEY_STATUS_BUSY = false →
    s.zeroizing = false → k ≠ 0 →
    ∃ t, exec (.keyErase ini k) s = .next t ∧ t.bit KEY.KEY_STATUS_BUSY = true ∧ t.tabs = s.tabs ∧
      t.key.run = some (if s.refs k.toNat = 0 then { op := 4, slot := k.toNat, res := 0, store := some (List.replicate 9 0) }
        else { op := 4, slot := k.toNat, res := 3, store := none })) ∧
  (∀ (ini : Initiator) (k : BitVec 10) (s : State), s.wf = true → s.mayWrite ini KEY.KEY_CMD = true → s.bit KEY.KEY_STATUS_BUSY = false →
    s.zeroizing = false → bitsOf (s.attr k.toNat) 31 31 = 1 → k ≠ 0 →
    ∃ t, exec (.keyLock ini k) s = .next t ∧ t.bit KEY.KEY_STATUS_BUSY = true ∧ t.tabs = s.tabs ∧
      t.key.run = some { op := 5, slot := k.toNat, res := 0,
                         store := some ((List.range 8).map (s.slotW k.toNat) ++ [s.attr k.toNat ||| 0x20000000]) }) ∧
  (∀ (ini : Initiator) (s : State), s.wf = true → s.mayWrite ini KEY.KEY_CMD = true → s.bit KEY.KEY_STATUS_BUSY = false →
    s.zeroizing = false →
    ∃ t, exec (.keyLock ini 0) s = .next t ∧ t.tabs = s.tabs ∧ t.key.run = some { op := 5, slot := 0, res := 1, store := none }) ∧
  (∀ (ini : Initiator) (k : BitVec 10) (s : State), s.wf = true → s.mayWrite ini KEY.KEY_CMD = true → s.bit KEY.KEY_STATUS_BUSY = true →
    ∃ t, exec (.keyInfo ini k) s = .next t ∧ t.bit KEY.KEY_EVENT_CMD_IGNORED = true ∧ t.key = s.key ∧ t.tabs = s.tabs) ∧
  (∀ (ini : Initiator) (k : BitVec 10) (s : State), s.wf = true → s.mayWrite ini KEY.KEY_CMD = true → s.bit KEY.KEY_STATUS_BUSY = false →
    s.zeroizing = true →
    ∃ t, exec (.keyInfo ini k) s = .next t ∧ t.key.run = none ∧ t.get KEY.KEY_STATUS_RESULT = 7 ∧ t.bit KEY.KEY_EVENT_DONE = true ∧
      t.tabs = s.tabs) ∧
  (∀ (ini : Initiator) (k : BitVec 10) (s : State), s.wf = true → s.mayWrite ini KEY.KEY_CMD = true → s.bit KEY.KEY_STATUS_BUSY = false →
    s.zeroizing = false →
    ∃ t, exec (.keyInfo ini k) s = .next t ∧ t.key.run = some { op := 6, slot := k.toNat, res := 0, store := none } ∧
      t.bit KEY.KEY_STATUS_BUSY = true ∧ t.tabs = s.tabs) ∧
  (∀ (r : KeyRun) (ws : List Word) (s : State), s.wf = true → s.key.run = some r → r.store = some ws → ws.length = 9 → r.slot < 1024 →
    r.op = 1 → r.res = 0 → s.refs r.slot = 0 →
    ∃ t, exec .keyCmdDone s = .next t ∧ t.entry 12 0 0 r.slot 9 = ws ∧ (∀ w, w < 10 → t.rd (KEY.KEY_DATA w) = 0) ∧ t.key.run = none ∧
      t.bit KEY.KEY_STATUS_BUSY = false ∧ t.get KEY.KEY_STATUS_RESULT = 0 ∧ t.bit KEY.KEY_EVENT_DONE = true ∧ t.cnts = s.cnts) ∧
  (∀ (r : KeyRun) (ws : List Word) (s : State), s.wf = true → s.key.run = some r → r.store = some ws → ws.length = 9 → r.slot < 1024 →
    r.op = 2 ∨ r.op = 3 → r.res = 0 → s.refs r.slot = 0 →
    ∃ t, exec .keyCmdDone s = .next t ∧ t.entry 12 0 0 r.slot 9 = ws ∧ (∀ w, w < 10 → t.rd (KEY.KEY_DATA w) = 0) ∧ t.key.run = none ∧
      t.get KEY.KEY_STATUS_RESULT = 0 ∧ t.cnt KEY.DERIVE_CNT = s.cnt KEY.DERIVE_CNT + 1) ∧
  (∀ (r : KeyRun) (s : State), s.wf = true → s.key.run = some r → 1 ≤ r.op → r.op ≤ 4 → r.res = 0 → 0 < s.refs r.slot →
    ∃ t, exec .keyCmdDone s = .next t ∧ t.tabs = s.tabs ∧ (∀ w, w < 10 → t.rd (KEY.KEY_DATA w) = 0) ∧ t.key.run = none ∧
      t.bit KEY.KEY_STATUS_BUSY = false ∧ t.get KEY.KEY_STATUS_RESULT = 3 ∧ t.bit KEY.KEY_EVENT_DONE = true ∧ t.cnts = s.cnts) ∧
  (∀ (r : KeyRun) (s : State), s.wf = true → s.key.run = some r → r.store = none → r.op = 6 → r.res = 0 →
    ∃ t, exec .keyCmdDone s = .next t ∧ t.rd KEY.INFO_ATTR = s.attr r.slot ∧ t.rd KEY.INFO_REF = word (s.refs r.slot) ∧ t.tabs = s.tabs ∧
      t.get KEY.KEY_STATUS_RESULT = 0) ∧
  (∀ s : State, s.wf = true → s.zeroizing = true → s.copies = [] →
    ∃ t, exec .zeroizeDone s = .next t ∧ t.zeroizing = false ∧ t.cnt KEY.ZEROIZE_CNT = s.cnt KEY.ZEROIZE_CNT + 1 ∧
      t.bit KEY.KEY_EVENT_ZEROIZED = true ∧ t.tabs = s.tabs)

/-- Life cycle and OTP: LC_CMD takes the next state only, the step to RMA only when authorised, zeroizes every slot and programs (R240,
R241); ARB_ADVANCE and SPLIT_TOGGLE start their programming or name why not (R243); a bit that verifies takes effect, the debug enables
following the new state (R314; log entry 81) and the test root entering slot 0 at the step to RMA, one that does not fails (R240, R242,
R243); stage FUSE reads the cells and locks the clocks (R26, R237, R239). -/
def Obligations.LifeCycleAndOtp : Prop :=
  (∀ (ini : Initiator) (w : Word) (s : State), s.wf = true → s.mayWrite ini KEY.LC_CMD = true → s.bit KEY.OTP_STATUS_BUSY = false →
    bitsOf w 31 16 ≠ 0x4C43 → s.copies = [] →
    ∃ t, exec (.lcTransition ini w) s = .next t ∧ t.get KEY.OTP_STATUS_RESULT = 2 ∧ t.bit KEY.KEY_EVENT_OTP_DONE = true ∧ t.tabs = s.tabs ∧
      t.key.lc = s.key.lc) ∧
  (∀ (ini : Initiator) (w : Word) (s : State), s.wf = true → s.mayWrite ini KEY.LC_CMD = true → s.bit KEY.OTP_STATUS_BUSY = false →
    bitsOf w 31 16 = 0x4C43 → lcNext (s.get KEY.LC_STATUS_LC_STATE) = some (bitsOf w 2 0) → bitsOf w 2 0 ≠ 7 ∨ s.key.authSec = true →
    s.copies = [] → s.frames = [] →
    ∃ t, exec (.lcTransition ini w) s = .next t ∧ t.key.otp = some (.lc (BitVec.ofNat 3 (bitsOf w 2 0))) ∧ t.zeroizing = true ∧
      t.bit KEY.OTP_STATUS_BUSY = true ∧ (∀ k w, k < 1024 → w < 32 → t.slotW k w = 0) ∧
      t.get KEY.LC_STATUS_LC_STATE = s.get KEY.LC_STATUS_LC_STATE) ∧
  (∀ (ini : Initiator) (w : Word) (s : State), s.wf = true → s.mayWrite ini KEY.OTP_CMD = true → s.bit KEY.OTP_STATUS_BUSY = false →
    bitsOf w 31 16 = 0x4F54 → s.key.arb < bitsOf w 14 8 → bitsOf w 14 8 ≤ 64 →
    ∃ t, exec (.arbAdvance ini w) s = .next t ∧ t.key = { s.key with otp := some (.arb (bitsOf w 14 8)) } ∧
      t.bit KEY.OTP_STATUS_BUSY = true) ∧
  (∀ (ini : Initiator) (w : Word) (s : State), s.wf = true → s.mayWrite ini KEY.OTP_CMD = true → s.bit KEY.OTP_STATUS_BUSY = false →
    bitsOf w 31 16 = 0x4F54 → s.key.split < 3 →
    ∃ t, exec (.splitToggle ini w) s = .next t ∧ t.key = { s.key with otp := some .split } ∧ t.bit KEY.OTP_STATUS_BUSY = true) ∧
  (∀ (ini : Initiator) (w : Word) (s : State), s.wf = true → s.mayWrite ini KEY.OTP_CMD = true → s.bit KEY.OTP_STATUS_BUSY = false →
    bitsOf w 31 16 = 0x4F54 → 3 ≤ s.key.split →
    ∃ t, exec (.splitToggle ini w) s = .next t ∧ t.key = { s.key with otp := none } ∧ t.get KEY.OTP_STATUS_RESULT = 1) ∧
  (∀ (ini : Initiator) (w : Word) (s : State), s.wf = true → s.mayWrite ini KEY.LC_CMD = true → s.bit KEY.OTP_STATUS_BUSY = false →
    bitsOf w 31 16 = 0x4C43 → lcNext (s.get KEY.LC_STATUS_LC_STATE) ≠ some (bitsOf w 2 0) ∨ bitsOf w 2 0 = 7 ∧ s.key.authSec = false →
    s.copies = [] →
    ∃ t, exec (.lcTransition ini w) s = .next t ∧ t.get KEY.OTP_STATUS_RESULT = 4 ∧ t.tabs = s.tabs ∧ t.key.lc = s.key.lc) ∧
  (∀ s : State, s.wf = true → s.key.otp = some (.lc 7) → s.upd.run = none → s.upd.arbDue = false →
    ∃ t, exec (.otpProgramDone true) s = .next t ∧ t.key.otp = none ∧ t.key.lc = 7 ∧ t.key.arb = s.key.arb ∧ t.key.split = s.key.split ∧
      t.get KEY.LC_STATUS_LC_STATE = 7 ∧ t.testRoot = true ∧ t.keyOctets 0 = List.replicate 32 0xA5 ∧ t.get KEY.OTP_STATUS_RESULT = 0 ∧
      t.bit KEY.OTP_STATUS_BUSY = false ∧ t.bit CPU.CPU_STATUS_CTRL_DBG_EN = true ∧ t.bit CPU.CPU_STATUS_SEC_DBG_EN = true) ∧
  (∀ (x : BitVec 3) (s : State), s.wf = true → s.key.otp = some (.lc x) → x ≠ 7 → s.upd.run = none → s.upd.arbDue = false →
    ∃ t, exec (.otpProgramDone true) s = .next t ∧ t.key.otp = none ∧ t.key.lc = x ∧ t.key.arb = s.key.arb ∧
      t.key.split = s.key.split ∧ t.get KEY.LC_STATUS_LC_STATE = lcState x ∧ t.get KEY.OTP_STATUS_RESULT = 0 ∧
      t.bit KEY.OTP_STATUS_BUSY = false ∧ t.bit CPU.CPU_STATUS_CTRL_DBG_EN = t.dbgOpen false ∧
      t.bit CPU.CPU_STATUS_SEC_DBG_EN = t.dbgOpen true) ∧
  (∀ (n : Nat) (s : State), s.wf = true → s.key.otp = some (.arb n) → s.key.arb < 64 → s.upd.run = none → s.upd.arbDue = false →
    ∃ t, exec (.otpProgramDone true) s = .next t ∧ t.key.arb = s.key.arb + 1 ∧ t.get KEY.OTP_ARB_VALUE = s.key.arb + 1 ∧
      t.key.otp = (if n ≤ s.key.arb + 1 then none else some (.arb n))) ∧
  (∀ (r : OtpRun) (s : State), s.wf = true → s.key.otp = some r → s.upd.run = none → s.upd.arbDue = false →
    ∃ t, exec (.otpProgramDone false) s = .next t ∧ t.key = { s.key with otp := none } ∧ t.get KEY.OTP_STATUS_RESULT = 3 ∧
      t.bit KEY.KEY_EVENT_OTP_FAIL = true ∧ t.get KEY.LC_STATUS_LC_STATE = s.get KEY.LC_STATUS_LC_STATE) ∧
  (∀ s : State, s.wf = true → s.stage = 0 → s.wak.power = .active → s.key.arb < 128 →
    ∃ t, exec .fuseStageDone s = .next t ∧ t.stage = 1 ∧ t.get KEY.LC_STATUS_LC_STATE = lcState s.key.lc ∧ t.get KEY.OTP_ARB_VALUE = s.key.arb ∧
      t.bit SYS.SYS_STATUS_PLL0_LOCK = true ∧ t.bit SYS.SYS_STATUS_PLL1_LOCK = true ∧ t.bit SYS.SYS_STATUS_PLL2_LOCK = true ∧
      t.bit SYS.SYS_STATUS_REFCLK_OK = true ∧ t.mem = [])

/-- The cipher tables through indirect access: READ copies an entry, the SA counters read-clear, WRITE stores an SC or SA entry whose
reserved bits are zero, takes a reference on the slot of an SA that becomes VALID and answers BAD_KEY when that slot does not meet R250
(R249, R250, R396, R397). The ICV result of a held frame: IN_OK and NEXT_PN, or IN_NOT_VALID and the discard (R257, R258). -/
def Obligations.CipherTables : Prop :=
  (∀ (ini : Initiator) (cmd : Word) (ecc : EccState) (s : State), s.wf = true → s.mayWrite ini CPH.TBL_CMD = true → s.ownsTable 5 ini = true →
    bitsOf cmd 31 28 ≤ 1 → (bitsOf cmd 31 28 = 0 → bitsOf cmd 8 0 < 128) → ecc ≠ .uncorrectable →
    ∃ t, exec (.cphTblRead ini cmd ecc) s = .next t ∧ t.get CPH.TBL_STATUS_RESULT = 0 ∧ t.tabs = s.tabs ∧
      (∀ w, w < 4 → t.rd (CPH.TBL_DATA w) = s.tw 11 (bitsOf cmd 31 28) 0 (bitsOf cmd 8 0) w) ∧
      ∀ w, 4 ≤ w → w < 8 → t.rd (CPH.TBL_DATA w) = if bitsOf cmd 31 28 = 0 then 0 else s.tw 11 1 0 (bitsOf cmd 8 0) w) ∧
  (∀ (ini : Initiator) (cmd : Word) (ecc : EccState) (s : State), s.wf = true → s.mayWrite ini CPH.TBL_CMD = true → s.ownsTable 5 ini = true →
    bitsOf cmd 31 28 = 2 → ecc ≠ .uncorrectable →
    ∃ t, exec (.cphTblRead ini cmd ecc) s = .next t ∧ t.get CPH.TBL_STATUS_RESULT = 0 ∧
      (∀ w, w < 8 → t.rd (CPH.TBL_DATA w) = s.tw 11 2 0 (bitsOf cmd 8 0) w) ∧ (∀ w, w < 8 → t.tw 11 2 0 (bitsOf cmd 8 0) w = 0) ∧
      ∀ k, (¬ (tkey 11 2 0 (bitsOf cmd 8 0) 0 ≤ k ∧ k < tkey 11 2 0 (bitsOf cmd 8 0) 0 + 8)) → t.tab k = s.tab k) ∧
  (∀ (ini : Initiator) (cmd : Word) (s : State), s.wf = true → s.mayWrite ini CPH.TBL_CMD = true → s.ownsTable 5 ini = true →
    bitsOf cmd 31 28 ≤ 1 → (bitsOf cmd 31 28 = 0 → bitsOf cmd 8 0 < 128) →
    ∃ t, exec (.cphTblRead ini cmd .uncorrectable) s = .next t ∧ t.get CPH.TBL_STATUS_RESULT = 7 ∧
      t.bit CPH.CPH_EVENT_ECC_UNCORR = true ∧ t.tabs = s.tabs) ∧
  (∀ (ini : Initiator) (cmd : Word) (s : State), s.wf = true → s.mayWrite ini CPH.TBL_CMD = true → s.ownsTable 5 ini = true →
    bitsOf cmd 31 28 = 0 → bitsOf cmd 8 0 < 128 →
    (∀ w : Fin 4, legalWord (s.rd (CPH.TBL_DATA w)) (scMask (bitsOf cmd 8 0) w) = true) →
    ∃ t, exec (.cphTblWrite ini cmd) s = .next t ∧ t.get CPH.TBL_STATUS_RESULT = 0 ∧ t.cnts = s.cnts ∧
      (∀ w, w < 4 → t.tw 11 0 0 (bitsOf cmd 8 0) w = s.rd (CPH.TBL_DATA w)) ∧
      ∀ k, (¬ (tkey 11 0 0 (bitsOf cmd 8 0) 0 ≤ k ∧ k < tkey 11 0 0 (bitsOf cmd 8 0) 0 + 4)) → t.tab k = s.tab k) ∧
  (∀ (ini : Initiator) (cmd : Word) (idx slot : Nat) (s : State), s.wf = true → s.mayWrite ini CPH.TBL_CMD = true →
    s.ownsTable 5 ini = true → bitsOf cmd 31 28 = 1 → idx = bitsOf cmd 8 0 → slot = bitsOf (s.rd (CPH.TBL_DATA 0)) 9 0 →
    (∀ w : Fin 8, legalWord (s.rd (CPH.TBL_DATA w)) (saMask (txSa idx) (s.xpn (idx / 32)) w) = true) →
    bitsOf (s.saW idx 0) 31 31 = 0 → bitsOf (s.rd (CPH.TBL_DATA 0)) 31 31 = 1 → s.keyGrants slot 0 12 = true →
    bitsOf (s.attr slot) 30 30 = s.get (CPH.PORT_SEC_CFG_SUITE (idx / 32)) % 2 → s.refs slot < 4294967295 →
    ∃ t, exec (.cphTblWrite ini cmd) s = .next t ∧ t.get CPH.TBL_STATUS_RESULT = 0 ∧ t.refs slot = s.refs slot + 1 ∧
      t.saW idx 0 = s.rd (CPH.TBL_DATA 0) &&& 0xDFFFFFFF ∧ ∀ w, 1 ≤ w → w < 8 → t.saW idx w = s.rd (CPH.TBL_DATA w)) ∧
  (∀ (ini : Initiator) (cmd : Word) (idx slot : Nat) (s : State), s.wf = true → s.mayWrite ini CPH.TBL_CMD = true →
    s.ownsTable 5 ini = true → bitsOf cmd 31 28 = 1 → idx = bitsOf cmd 8 0 → slot = bitsOf (s.rd (CPH.TBL_DATA 0)) 9 0 →
    (∀ w : Fin 8, legalWord (s.rd (CPH.TBL_DATA w)) (saMask (txSa idx) (s.xpn (idx / 32)) w) = true) →
    bitsOf (s.saW idx 0) 31 31 = 0 → bitsOf (s.rd (CPH.TBL_DATA 0)) 31 31 = 1 → s.keyGrants slot 0 12 = false →
    ∃ t, exec (.cphTblWrite ini cmd) s = .next t ∧ t.get CPH.TBL_STATUS_RESULT = 11 ∧ t.tabs = s.tabs ∧
      t.cnt KEY.DENY_CNT = s.cnt KEY.DENY_CNT + 1 ∧ t.bit KEY.KEY_EVENT_DENIED = true) ∧
  (∀ (fid : Nat) (f : Frame) (x : SecRx) (s : State), s.wf = true → s.frame? fid = some f → f.fid = fid → f.sec = some x → f.icvWait = true →
    f.unverified = false → f.inPort < 14 → f.icvOk = true → x.sa < 512 → x.pn + 1 < 2 ^ 64 → s.stalled = false →
    s.copies.filter Copy.endsNow = [] →
    ∃ t, exec (.icvResult fid) s = .next t ∧ t.frame? fid = some { f with icvWait := false } ∧
      t.tcnt 11 2 x.sa 0 = (s.tcnt 11 2 x.sa 0 + 1) % 2 ^ 64 ∧ t.nextPn x.sa = max (s.nextPn x.sa) (x.pn + 1) ∧ t.copies = s.copies) ∧
  (∀ (fid : Nat) (f : Frame) (x : SecRx) (s : State), s.wf = true → s.frame? fid = some f → f.fid = fid → f.sec = some x → f.icvWait = true →
    f.unverified = false → f.handle = none → f.icvOk = false → x.sa < 512 → s.stalled = false →
    s.copies.filter Copy.endsNow = [] →
    (∀ c ∈ s.copies, c.fid ≠ fid) →
    ∃ t, exec (.icvResult fid) s = .next t ∧ t.frame? fid = none ∧ t.tcnt 11 2 x.sa 2 = (s.tcnt 11 2 x.sa 2 + 1) % 2 ^ 64 ∧
      t.nextPn x.sa = s.nextPn x.sa ∧ t.copies = s.copies)

/-- The look-aside engine: a submission beyond the share finds FULL and queues nothing (R263); one that fails a check posts its result
(R265); one that passes is queued with its key and counter value, and clears the interface (R264 to R266); one on an unverified buffer is
held (R259; LA_IMM0 follows LA_REQ7); the end posts the result (R241, R263, R267); LA_RES7 removes the head (R268), and the oldest result
that waited for room enters (log entry 30); LA_CTR_HI raises a counter only (R266). -/
def Obligations.LookAside : Prop :=
  (∀ (ini : Initiator) (s : State), s.wf = true → s.mayWrite ini CPH.LA_SUBMIT = true → 64 ≤ s.laCount 1 →
    ∃ t, exec (.laSubmit ini false) s = .next t ∧ t.get CPH.LA_SUB_STATUS_RESULT = 2 ∧ t.la = s.la ∧ t.tabs = s.tabs ∧ t.cnts = s.cnts) ∧
  (∀ (ini : Initiator) (r : LaReq) (s : State), s.wf = true → s.mayWrite ini CPH.LA_SUBMIT = true →
    r = { who := 1, words := s.window (CPH.LA_REQ 0) 8, key := [], imm := wordOctets (s.window (CPH.LA_REQ 8) 24) } →
    s.laCount 1 < 64 → s.laPosted 1 < 64 → r.src = 0 → s.laCheck r ≠ 0 →
    ∃ t, exec (.laSubmit ini false) s = .next t ∧ t.get CPH.LA_SUB_STATUS_RESULT = 3 ∧
      t.la = { s.la with resCtrl := s.la.resCtrl ++ [laResult r (s.laCheck r) []] } ∧
      t.cnt KEY.DENY_CNT = (if s.laCheck r = 1 then s.cnt KEY.DENY_CNT + 1 else s.cnt KEY.DENY_CNT) ∧ t.tabs = s.tabs) ∧
  (∀ (ini : Initiator) (r : LaReq) (s : State), s.wf = true → s.mayWrite ini CPH.SEC_LA_SUBMIT = true →
    r = { who := 2, words := s.window (CPH.SEC_LA_REQ 0) 8, key := [], imm := wordOctets (s.window (CPH.SEC_LA_REQ 8) 24) } →
    s.laCount 2 < 64 → r.src = 0 → s.laCheck r = 0 →
    ∃ t, exec (.laSubmit ini true) s = .next t ∧ t.get CPH.SEC_LA_SUB_STATUS_RESULT = 1 ∧ t.tabs = s.tabs ∧
      t.la = { s.la with reqs := s.la.reqs ++
        [{ r with key := s.keyOctets r.slot, ctr := if r.ctrEn then some (s.laCtr r.ctrNo) else none }] } ∧
      (r.ctrEn = true → t.laCtr r.ctrNo = s.laCtr r.ctrNo + 1) ∧
      ∀ k, k < 32 → t.rd (CPH.SEC_LA_REQ k) = 0) ∧
  (∀ (ini : Initiator) (r : LaReq) (fid : Nat) (s : State), s.wf = true → s.mayWrite ini CPH.LA_SUBMIT = true →
    r = { who := 1, words := s.window (CPH.LA_REQ 0) 8, key := [], imm := wordOctets (s.window (CPH.LA_REQ 8) 24) } →
    s.laCount 1 < 64 → s.laPosted 1 < 64 → s.laWaits r = some fid →
    ∃ t, exec (.laSubmit ini false) s = .next t ∧ t.get CPH.LA_SUB_STATUS_RESULT = 0 ∧
      t.la = { s.la with held := s.la.held ++ [{ r with fid := some fid }] } ∧ t.tabs = s.tabs ∧ t.bsn = s.bsn) ∧
  (∀ (idx : Nat) (ecc : EccState) (r : LaReq) (s : State), s.wf = true → s.la.reqs[idx]? = some r → r.who = 1 → s.laPosted 1 < 64 →
    r.src ≠ 1 → r.job = none → r.killed = true → s.pllLost 0 = false → s.gwe.hand = none → (∀ q : Fin 16, (s.can q).rx = []) →
    ∃ t, exec (.laComplete idx ecc) s = .next t ∧ t.mem = s.mem ∧
      t.la = { s.la with reqs := s.la.reqs.eraseIdx idx, resCtrl := s.la.resCtrl ++ [laResult r 1 []] }) ∧
  (∀ (idx : Nat) (ecc : EccState) (r : LaReq) (s : State), s.wf = true → s.la.reqs[idx]? = some r → r.who = 2 → s.laPosted 2 < 64 →
    s.laStarted idx r = true → r.src = 0 → r.job = none → r.killed = false → r.op = 1 → r.ctr = none → ecc ≠ .uncorrectable →
    s.pllLost 0 = false → s.gwe.hand = none → (∀ q : Fin 16, (s.can q).rx = []) →
    ∃ t, exec (.laComplete idx ecc) s = .next t ∧ t.mem = s.mem ∧ t.la = { s.la with
      reqs := s.la.reqs.eraseIdx idx,
      resSec := s.la.resSec ++ [laResult r 0 ((cmac r.key ((r.imm.take r.srcLen).take r.textLen)).take r.macLen)] }) ∧
  (∀ (ini : Initiator) (s : State), s.wf = true → s.mayRead ini (CPH.LA_RES 7) = true → (s.la.owed.find? fun x => x.1 == 1) = none →
    ∃ t, exec (.laResultRead ini false) s = .next t ∧ t.la = { s.la with resCtrl := s.la.resCtrl.tail } ∧ t.regs = s.regs ∧
      t.wire = s.wire ++ [.bus ini (.data ((s.la.resCtrl.headD []).getD 7 0))]) ∧
  (∀ (ini : Initiator) (x : Nat × List Word) (s : State), s.wf = true → s.mayRead ini (CPH.LA_RES 7) = true →
    (s.la.owed.find? fun x => x.1 == 1) = some x → s.la.resCtrl.length ≤ 64 → x.1 = 1 →
    ∃ t, exec (.laResultRead ini false) s = .next t ∧ t.regs = s.regs ∧
      t.la = { s.la with resCtrl := s.la.resCtrl.tail ++ [x.2], owed := s.la.owed.erase x }) ∧
  (∀ (ini : Initiator) (c : Fin 16) (w lo : Word) (s : State), s.wf = true → s.mayWrite ini (CPH.LA_CTR_HI c) = true →
    lo = assocD s.la.staged c 0 → s.laCtr c < w.toNat * 4294967296 + lo.toNat →
    ∃ t, exec (.laCtrWrite ini c w) s = .next t ∧ t.laCtr c = w.toNat * 4294967296 + lo.toNat ∧ t.la = s.la ∧ t.cnts = s.cnts) ∧
  (∀ (ini : Initiator) (c : Fin 16) (w lo : Word) (s : State), s.wf = true → s.mayWrite ini (CPH.LA_CTR_HI c) = true →
    lo = assocD s.la.staged c 0 → w.toNat * 4294967296 + lo.toNat ≤ s.laCtr c →
    ∃ t, exec (.laCtrWrite ini c w) s = .next t ∧ t.laCtr c = s.laCtr c ∧ t.bit CPH.CPH_EVENT_CTR_REFUSED = true)

/-- Claims and heartbeats: the claim line's word carries the claim (R277); a word with a bad CRC is counted; a good one delivers its
heartbeat and the claim (R277, R279); an isolated peer's word makes a standby take over (R274, R281); a heartbeat gives PEER_OFFSET and
TW_DELAY (R278, R288); a pair-cycle end starts cycle n and promotes (R276, R279, R283); the deadline judges (R280); stream 0 goes out twice
(R297), a network heartbeat through the MAC of NET_HB_PORT (R279); a frame with a bad FCS and a record of a reserved TYPE are counted (R298;
the operand is the model's choice, log entry 138). The clauses in which a takeover can happen are about a device without copies. A network
heartbeat queues at the MAC of NET_HB_PORT and is repeated 2 us after its start, and offsets are halved rounding down: the model's choices
(log entries 73, 75). -/
def Obligations.PairHeartbeats : Prop :=
  (∀ s : State, s.wf = true → s.pairEn = true → s.bit TWP.TWP_CTRL_LINE_EN = true → s.bit SYS.SYS_STATUS_REFCLK_OK = true →
    ∃ t, exec .claimWordSend s = .next t ∧ t = { s with wire := s.wire ++ [.claimWord s.lineWord] } ∧
      s.lineWord.toNat / 1099511627776 = 0xD5 ∧ s.lineWord.toNat / 16777216 % 65536 = s.get TWP.CLAIM_STATUS_OWN) ∧
  (∀ (w : BitVec 48) (s : State), s.wf = true → s.pairEn = true → s.bit TWP.TWP_CTRL_LINE_EN = true →
    w.toNat % 256 ≠ lineCrc (w.toNat / 256 % 4294967296) →
    ∃ t, exec (.claimWordReceived w) s = .next t ∧ t.cnt TWP.LINE_CRC_ERR_CNT = s.cnt TWP.LINE_CRC_ERR_CNT + 1 ∧ t.regs = s.regs ∧
      t.twp = s.twp) ∧
  (∀ (w : BitVec 48) (c k : Nat) (s : State), s.wf = true → s.pairEn = true → s.bit TWP.TWP_CTRL_LINE_EN = true →
    w.toNat / 1099511627776 = 0xD5 → w.toNat % 256 = lineCrc (w.toNat / 256 % 4294967296) → c = w.toNat / 16777216 % 65536 →
    claimRank c = 4 → claimRank s.ownClaim = 4 → (s.planOpen.any fun x => x != c) = false → s.twp.cycle = some k → w.toNat / 65536 % 256 = k % 256 →
    s.nowQ ≤ s.pairT k + s.graceUs * usQ →
    ∃ t, exec (.claimWordReceived w) s = .next t ∧ t.get TWP.CLAIM_STATUS_PEER = c ∧ t.bit TWP.PAIR_STATUS_LINE_UP = true ∧
      t.bit TWP.PAIR_STATUS_PEER_PRESENT = true ∧ t.get TWP.PAIR_STATUS_MISSED = 0 ∧ t.ownClaim = s.ownClaim ∧ 1 ∈ t.twp.paths) ∧
  (∀ (w : BitVec 48) (c : Nat) (s : State), s.wf = true → s.pairEn = true → s.bit TWP.TWP_CTRL_LINE_EN = true →
    w.toNat / 1099511627776 = 0xD5 → w.toNat % 256 = lineCrc (w.toNat / 256 % 4294967296) → c = w.toNat / 16777216 % 65536 →
    claimRank c = 0 → claimRank s.ownClaim = 4 → claimRank s.peerClaim ≠ 0 → s.copies = [] →
    ∃ t, exec (.claimWordReceived w) s = .next t ∧ t.get TWP.CLAIM_STATUS_PEER = c ∧
      t.ownClaim = mkClaim 8 (claimEpoch s.ownClaim + 1) s.pairId ∧ t.drives = true ∧ t.bit TWP.PAIR_STATUS_DRIVING = true ∧
      t.cnt TWP.TAKEOVER_CNT = s.cnt TWP.TAKEOVER_CNT + 1 ∧ t.bit TWP.TWP_EVENT_TAKEOVER = true ∧ t.twp.fence = some (s.nowQ, s.tim.ticks) ∧
      t.twp.swap = none) ∧
  (∀ (h : TwHead) (ws : List Word) (n : Nat) (u s : State), s.wf = true → s.copies = [] → s.twTake 0 h = some u → u.twp.cycle = some n →
    n < 4294967296 → ws.getD 0 0 = word n → s.nowQ ≤ u.pairT n + u.graceUs * usQ →
    ∃ t, exec (.heartbeatReceived h ws) s = .next t ∧ t.bit (pathUp (if h.net = true then 2 else 0)) = true ∧
      t.bit TWP.PAIR_STATUS_PEER_PRESENT = true ∧
      t.get TWP.PAIR_STATUS_MISSED = 0 ∧ t.twp.echo = some (ws.getD 4 0, word (s.nowQ % 4000000000)) ∧
      t.bit TWP.PAIR_STATUS_IMG_DIFF = (ws.getD 7 0 != s.rd (SYS.IMG_HASH 0)) ∧
      (¬(ws.getD 5 0 = 0 ∧ ws.getD 6 0 = 0) → t.rd TWP.PEER_OFFSET = wordS
        ((timeDiff (ws.getD 6 0) (ws.getD 5 0) + timeDiff (ws.getD 4 0) (word (s.nowQ % 4000000000))).fdiv 2) ∧ t.rd TWP.TW_DELAY = wordS
        ((timeDiff (ws.getD 6 0) (ws.getD 5 0) - timeDiff (ws.getD 4 0) (word (s.nowQ % 4000000000))).fdiv 2))) ∧
  (∀ s : State, s.wf = true → s.pairEn = true → s.twp.due = true → s.lastT + s.graceUs * usQ ≤ s.nowQ →
    [0, 1, 2].any s.pathOn = true → (∀ p : Fin 3, s.pathOn p = true → p.val ∈ s.twp.paths) →
    ∃ t, exec .heartbeatDeadline s = .next t ∧ t = { s with twp := { s.twp with due := false } }) ∧
  (∀ s : State, s.wf = true → s.pairEn = true → s.twp.due = true → s.lastT + s.graceUs * usQ ≤ s.nowQ →
    (∀ p : Fin 3, s.pathOn p = true → p.val ∉ s.twp.paths) → s.get TWP.PAIR_STATUS_MISSED = 0 →
    ∃ t, exec .heartbeatDeadline s = .next t ∧ t.twp = { s.twp with due := false } ∧ t.get TWP.PAIR_STATUS_MISSED = 1 ∧
      t.cnt TWP.HB_MISS_CNT = s.cnt TWP.HB_MISS_CNT + 1 ∧ t.bit TWP.TWP_EVENT_HB_MISS = true ∧
      t.get TWP.CLAIM_STATUS_PEER = s.get TWP.CLAIM_STATUS_PEER ∧ t.ownClaim = s.ownClaim) ∧
  (∀ s : State, s.wf = true → s.pairEn = true → s.twp.due = true → s.lastT + s.graceUs * usQ ≤ s.nowQ →
    (∀ p : Fin 3, s.pathOn p = true → p.val ∉ s.twp.paths) → 1 ≤ s.get TWP.PAIR_STATUS_MISSED →
    s.bit TWP.PAIR_STATUS_PEER_PRESENT = true ∨ s.peerClaim ≠ 0 → claimRank s.ownClaim = 4 → s.copies = [] →
    ∃ t, exec .heartbeatDeadline s = .next t ∧ t.bit TWP.PAIR_STATUS_PEER_PRESENT = false ∧ t.get TWP.CLAIM_STATUS_PEER = 0 ∧
      t.bit TWP.TWP_EVENT_PEER_LOST = true ∧ t.ownClaim = mkClaim 8 (claimEpoch s.ownClaim + 1) s.pairId ∧
      t.cnt TWP.TAKEOVER_CNT = s.cnt TWP.TAKEOVER_CNT + 1) ∧
  (∀ (n : Nat) (s : State), s.wf = true → s.released = true → s.pllLost 0 = false → s.pairEn = true → s.pairBase ≤ s.nowQ →
    n = (s.nowQ - s.pairBase) / (s.pairUs * usQ) → s.twp.cycle ≠ some n → claimRank s.ownClaim = 4 →
    s.bit TWP.PAIR_STATUS_PEER_PRESENT = false → s.twp.relAt + 2 * (s.pairUs * usQ) ≤ s.pairT n →
    s.pairT n < s.twp.relAt + 3 * (s.pairUs * usQ) →
    ∃ t, exec .pairCycleEnd s = .next t ∧ t.ownClaim = mkClaim 8 (claimEpoch s.ownClaim + 1) s.pairId ∧ t.twp.cycle = some n ∧
      t.twp.due = true ∧ t.twp.prev = s.twp.snap ∧ t.twp.recvd = [] ∧ t.tabs = s.tabs) ∧
  (∀ s : State, s.wf = true → s.pairEn = true →
    ∃ t, exec (.towpathBadFrame none) s = .next t ∧ t.cnt TWP.TW_CRC_ERR_CNT = s.cnt TWP.TW_CRC_ERR_CNT + 1 ∧ t.regs = s.regs ∧
      t.twp = s.twp) ∧
  (∀ (h : TwHead) (st : Fin 4) (ty : BitVec 8) (u s : State), s.wf = true → s.twTake st h = some u →
    ∃ t, exec (.towpathBadFrame (some (h, st, ty))) s = .next t ∧ t.cnt TWP.CTRL_GAP_CNT = u.cnt TWP.CTRL_GAP_CNT + 1 ∧ t.regs = u.regs ∧
      t.twp = u.twp) ∧
  (∀ (t0 : Nat) (f : List Word) (rest : List (Bool × Nat × List Word)) (s : State), s.wf = true →
    s.twp.resend = (false, t0, f) :: rest → t0 + 2 * usQ ≤ s.nowQ → s.twUp false = true →
    exec .ctrlFrameResend s =
      .next { s with twp := { s.twp with resend := rest }, wire := s.wire ++ [.towpath (twFrame f)] }) ∧
  (∀ (t0 : Nat) (p : Fin 14) (f : List Word) (rest : List (Bool × Nat × List Word)) (s : State), s.wf = true →
    s.twp.resend = (true, t0, f) :: rest → t0 + 2 * usQ ≤ s.nowQ → s.twUp true = true → s.get TWP.TWP_CTRL_NET_HB_PORT = (p : Nat) →
    s.bit (MAC.PORT_STATUS_LINK p) = true →
    ∃ t, exec .ctrlFrameResend s = .next t ∧ (t.mac p).hbQ = (s.mac p).hbQ ++ [(0, f)] ∧ t.twp.resend = rest ∧ t.wire = s.wire)

/-- The state copy and departure notes at a frame taken as new (u is the state with its SEQ and claim heard, R297): TIME is stored, an
object corrects the live state by what the active's moved, against this unit's capture of the same pair cycle (R283, R284), a DIGEST ends
the wait for whole objects that have come, and one of a later snapshot that agrees ends the resync (R285, R286), and one of an abandoned
snapshot is a mismatch (R287); objects and a DIGEST of the next cycle wait for this unit's own capture (log entry 146); a note releases the
first copy that it matches, waits without one, and is an orphan after 64 us (R290), a resync request marks sections (R286). -/
def Obligations.PairStateCopy : Prop :=
  (∀ (h : TwHead) (ws : List Word) (u s : State), s.wf = true → s.twTake 2 h = some u →
    ∃ t, exec (.timeRecordReceived h ws) s = .next t ∧ t.twp = u.twp ∧ t.tabs = u.tabs ∧ ∀ k, k < 10 → t.rd (TWP.PEER_TIM k) = ws.getD k 0) ∧
  (∀ (h : TwHead) (ws : List Word) (u s : State), s.wf = true → s.twTake 2 h (twFrames ws.length - 1) = some u → u.standby = false →
    exec (.stateObjectReceived h 2 ws) s = .next u) ∧
  (∀ (h : TwHead) (ws : List Word) (o c : Obj) (u s : State), s.wf = true → s.twTake 2 h (twFrames ws.length - 1) = some u → u.standby = true →
    o = Obj.mk 2 (bitsOf (ws.getD 0 0) 15 0) (ws.drop 1) → u.twp.resync.getLsbD 2 = false → u.snapAge h.cycle = some .own →
    findObj u.twp.snap 2 o.idx = some c →
    ∃ t, exec (.stateObjectReceived h 2 ws) s = .next t ∧ t.twp = { u.twp with recvd := u.twp.recvd ++ [o] } ∧
      t.strB tGen o.idx 0 15 0 =
        (u.strB tGen o.idx 0 15 0 + bitsOf (o.words.getD 0 0) 15 0 + 65536 - bitsOf (c.words.getD 0 0) 15 0) % 65536 ∧
      ∀ k, k ≠ tkey 5 tGen 0 o.idx 0 → t.tab k = u.tab k) ∧
  (∀ (h : TwHead) (ws : List Word) (o c : Obj) (u s : State), s.wf = true → s.twTake 2 h (twFrames ws.length - 1) = some u → u.standby = true →
    o = Obj.mk 2 (bitsOf (ws.getD 0 0) 15 0) (ws.drop 1) → u.twp.resync.getLsbD 2 = false → u.snapAge h.cycle = some .last →
    findObj u.twp.prev 2 o.idx = some c →
    ∃ t, exec (.stateObjectReceived h 2 ws) s = .next t ∧ t.twp = u.twp ∧
      t.strB tGen o.idx 0 15 0 =
        (u.strB tGen o.idx 0 15 0 + bitsOf (o.words.getD 0 0) 15 0 + 65536 - bitsOf (c.words.getD 0 0) 15 0) % 65536) ∧
  (∀ (h : TwHead) (sec : Fin 7) (ws : List Word) (u s : State), s.wf = true → s.twTake 2 h (twFrames ws.length - 1) = some u → u.standby = true →
    u.snapAge h.cycle = some .next →
    exec (.stateObjectReceived h sec ws) s = .next { u with twp := { u.twp with ahead := u.twp.ahead ++ [((sec : Nat), ws)] } }) ∧
  (∀ (h : TwHead) (ws : List Word) (u s : State), s.wf = true → s.twTake 2 h = some u → u.standby = true →
    u.snapAge (ws.getD 0 0) = some .next →
    exec (.digestReceived h ws) s = .next { u with twp := { u.twp with ahead := u.twp.ahead ++ [(7, ws)] } }) ∧
  (∀ (h : TwHead) (ws : List Word) (n : Nat) (u s : State), s.wf = true → s.twTake 2 h = some u → u.standby = true → u.twp.cycle = some n →
    (ws.getD 0 0).toNat = n % 4294967296 → u.twp.digest = false → u.bit TWP.PAIR_STATUS_HELD = false → u.twp.snapBad = false →
    u.digestDiff ws = 0 → u.twp.resync = 0 → u.twp.whole ≠ 0 →
    ∃ t, exec (.digestReceived h ws) s = .next t ∧ t.twp = { u.twp with digest := true, match_ := 0x7F, whole := 0 } ∧
      t.bit TWP.PAIR_STATUS_DIVERGED = false ∧ t.cnt TWP.RESYNC_CNT = u.cnt TWP.RESYNC_CNT + 1 ∧
      t.bit TWP.TWP_EVENT_RESYNC_DONE = true ∧ t.tabs = u.tabs) ∧
  (∀ (h : TwHead) (ws : List Word) (n : Nat) (u s : State), s.wf = true → s.twTake 2 h = some u → u.standby = true → u.twp.cycle = some n →
    (ws.getD 0 0).toNat = n % 4294967296 → u.twp.digest = false → u.bit TWP.PAIR_STATUS_HELD = false → u.twp.snapBad = false →
    u.digestDiff ws = 0 → u.twp.resync ≠ 0 →
    ∃ t, exec (.digestReceived h ws) s = .next t ∧ t.twp.digest = true ∧ t.twp.match_ = 0x7F ∧
      t.twp.resync = u.twp.resync &&& ~~~u.wholeCame ∧ t.twp.whole = u.wholeCame ∧ t.cnt TWP.RESYNC_CNT = u.cnt TWP.RESYNC_CNT ∧
      t.tabs = u.tabs) ∧
  (∀ (h : TwHead) (ws : List Word) (n : Nat) (u s : State), s.wf = true → s.twTake 2 h = some u → u.standby = true → u.twp.cycle = some n →
    (ws.getD 0 0).toNat = n % 4294967296 → u.twp.digest = false → u.bit TWP.PAIR_STATUS_HELD = false → u.twp.snapBad = true →
    ∃ t, exec (.digestReceived h ws) s = .next t ∧ t.twp.digest = true ∧ t.twp.match_ = 0 ∧
      t.twp.resync = (u.twp.resync &&& ~~~u.wholeCame) ||| 0x7F ∧
      t.bit TWP.TWP_EVENT_DIGEST_MISMATCH = true ∧ t.cnt TWP.DIGEST_MISMATCH_CNT = u.cnt TWP.DIGEST_MISMATCH_CNT + 1 ∧ t.tabs = u.tabs) ∧
  (∀ (h : TwHead) (mask : Word) (u s : State), s.wf = true → s.twTake 0 h = some u → u.isActive = true →
    exec (.resyncReqReceived h mask) s = .next { u with twp := { u.twp with full := u.twp.full ||| mask.setWidth 8 } }) ∧
  (∀ (h : TwHead) (w0 w1 : Word) (c : Copy) (f : Frame) (rest : List Copy) (u s : State), s.wf = true → s.twTake 1 h = some u →
    u.standby = true → bitsOf w0 19 19 = 0 → u.noteCopies (bitsOf w0 31 28) (bitsOf w0 27 24) (bitsOf w0 23 21) = c :: rest →
    u.frame? c.fid = some f → f.len = bitsOf w0 13 0 → frameId f = w1 → c.flying = [] →
    ∃ t, exec (.noteReceived h w0 w1) s = .next t ∧ t.cnt TWP.SHADOW_TX_CNT = u.cnt TWP.SHADOW_TX_CNT + 1 ∧
      t.cnt TWP.NOTE_CNT = u.cnt TWP.NOTE_CNT + 1 ∧ t.notes = u.notes ∧ ∀ x ∈ t.copies, x.cid ≠ c.cid) ∧
  (∀ (h : TwHead) (w0 w1 : Word) (u s : State), s.wf = true → s.twTake 1 h = some u → u.standby = true → bitsOf w0 19 19 = 0 →
    u.noteCopies (bitsOf w0 31 28) (bitsOf w0 27 24) (bitsOf w0 23 21) = [] → u.notes.length < 256 →
    exec (.noteReceived h w0 w1) s = .next { u with notes := u.notes ++ [Note.mk (bitsOf w0 31 28)
      (bitsOf w0 27 24) (bitsOf w0 23 21) (bitsOf w0 13 0) w1 u.nowQ] }) ∧
  (∀ s : State, s.wf = true →
    ∃ t, exec .noteWaitExpiry s = .next t ∧ t.notes = s.notes.filter (fun n => decide (s.nowQ < n.at_ + 64 * usQ)) ∧
      t.cnt TWP.NOTE_ORPHAN_CNT = s.cnt TWP.NOTE_ORPHAN_CNT + BitVec.ofNat 64 (s.notes.filter fun n => decide (n.at_ + 64 * usQ ≤ s.nowQ)).length ∧
      t.regs = s.regs ∧ t.twp = s.twp)

/-- Planned swaps: SWAP_ARM checks and sends PROPOSE (R292); the standby answers ACK, or NAK while it is not in sync (R293); ACK sends
COMMIT, COMMIT arms the standby, CANCEL and the missing ACK disarm, a refusal for a TC7 window being a yield of rank 2 (R293, R390); at T the planned claims act, and the end fence closes the ports
without END (R294). u is the state in which the record's frame has been taken (R297). -/
def Obligations.PlannedSwaps : Prop :=
  (∀ (ini : Initiator) (s : State), s.wf = true → s.mayWrite ini TWP.TWP_CMD = true → claimRank s.ownClaim ≠ 8 →
    ∃ t, exec (.swapArm ini) s = .next t ∧ t.get TWP.SWAP_STATUS_CAUSE = 1 ∧ t.bit TWP.TWP_EVENT_SWAP_REFUSED = true ∧ t.twp = s.twp) ∧
  (∀ (ini : Initiator) (e : Nat) (s : State), s.wf = true → s.mayWrite ini TWP.TWP_CMD = true → s.pairEn = true → claimRank s.ownClaim = 8 →
    s.nowQ + 2 * (s.guardUs * usQ) ≤ s.swapT → s.tc7Open s.swapT = false → s.bit TWP.PAIR_STATUS_PEER_PRESENT = true →
    s.twp.swap = none → s.twUp false = true → e = (claimEpoch s.ownClaim + 1) % 2048 →
    ∃ t, exec (.swapArm ini) s = .next t ∧ t.twp.swap = some { t := s.swapT, epoch := e, mine := true } ∧
      t.bit TWP.SWAP_STATUS_ARMED = true ∧ t.get TWP.SWAP_STATUS_EPOCH = e ∧ t.ownClaim = s.ownClaim ∧
      t.wire = s.wire ++ [.towpath (twFrame (s.twWords 0 3 (swapWords 1 0 e s.swapT))), .bus ini .done]) ∧
  (∀ (ini : Initiator) (w : Swap) (s : State), s.wf = true → s.mayWrite ini TWP.TWP_CMD = true → s.twp.swap = some w → w.mine = true →
    s.nowQ + s.guardUs * usQ < w.t →
    ∃ t, exec (.swapCancel ini) s = .next t ∧ t.twp.swap = none ∧ t.bit TWP.SWAP_STATUS_ARMED = false ∧ t.get TWP.SWAP_STATUS_CAUSE = 8 ∧
      t.bit TWP.TWP_EVENT_SWAP_REFUSED = true ∧ t.ownClaim = s.ownClaim) ∧
  (∀ (h : TwHead) (ws : List Word) (u s : State), s.wf = true → s.twTake 0 h = some u → claimRank u.ownClaim = 4 → u.synced = true →
    (u.rd TWP.PEER_OFFSET).toInt.natAbs ≤ u.get TWP.OFFSET_LIMIT_NS * 4 → u.tc7Open (wordsT (ws.drop 1)) = false → u.twUp false = true →
    ∃ t, exec (.propose h ws) s = .next t ∧ t.regs = u.regs ∧
      t.twp.swap = some { t := wordsT (ws.drop 1), epoch := bitsOf (ws.getD 0 0) 10 0, mine := false } ∧
      t.wire = u.wire ++ [.towpath (twFrame (u.twWords 0 3 (swapWords 2 0 (bitsOf (ws.getD 0 0) 10 0) (wordsT (ws.drop 1)))))]) ∧
  (∀ (h : TwHead) (ws : List Word) (u s : State), s.wf = true → s.twTake 0 h = some u → claimRank u.ownClaim = 4 → u.synced = false →
    u.twUp false = true →
    ∃ t, exec (.propose h ws) s = .next t ∧ t.regs = u.regs ∧ t.twp.swap = u.twp.swap ∧
      t.wire = u.wire ++ [.towpath (twFrame (u.twWords 0 3 (swapWords 3 4 (bitsOf (ws.getD 0 0) 10 0) (wordsT (ws.drop 1)))))]) ∧
  (∀ (h : TwHead) (ws : List Word) (w : Swap) (u s : State), s.wf = true → s.twTake 0 h = some u → u.swapNamed true ws = some w →
    w.commit = false → u.nowQ + u.guardUs * usQ ≤ w.t → u.twUp false = true →
    ∃ t, exec (.ack h ws) s = .next t ∧ t.twp.swap = some { w with commit := true } ∧ t.regs = u.regs ∧
      t.wire = u.wire ++ [.towpath (twFrame (u.twWords 0 3 (swapWords 4 0 w.epoch w.t)))]) ∧
  (∀ (h : TwHead) (ws : List Word) (w : Swap) (u s : State), s.wf = true → s.twTake 0 h = some u → u.swapNamed true ws = some w →
    exec (.nak h ws) s = .next { u with twp := { u.twp with swap := some { w with nak := bitsOf (ws.getD 0 0) 27 24 } } }) ∧
  (∀ (h : TwHead) (ws : List Word) (w : Swap) (u s : State), s.wf = true → s.twTake 0 h = some u → u.swapNamed false ws = some w →
    u.nowQ ≤ w.t →
    ∃ t, exec (.swapCommit h ws) s = .next t ∧ t.twp = { u.twp with swap := some { w with commit := true } } ∧
      t.bit TWP.SWAP_STATUS_ARMED = true ∧ t.get TWP.SWAP_STATUS_EPOCH = w.epoch % 2048 ∧ t.wire = u.wire) ∧
  (∀ (h : TwHead) (ws : List Word) (w : Swap) (u s : State), s.wf = true → s.twTake 0 h = some u → u.swapNamed false ws = some w →
    ∃ t, exec (.swapCancelReceived h ws) s = .next t ∧ t.twp = { u.twp with swap := none } ∧ t.bit TWP.SWAP_STATUS_ARMED = false) ∧
  (∀ (w : Swap) (s : State), s.wf = true → s.twp.swap = some w → w.mine = true → w.commit = false → w.t ≤ s.nowQ + s.guardUs * usQ →
    w.nak < 16 →
    ∃ t, exec .swapGuardDeadline s = .next t ∧ t.twp.swap = none ∧ t.bit TWP.SWAP_STATUS_ARMED = false ∧
      t.get TWP.SWAP_STATUS_CAUSE = (if w.nak = 0 then 6 else w.nak) ∧ t.bit TWP.TWP_EVENT_SWAP_REFUSED = true ∧
      t.cnt FLT.YIELD_CNT_RANK2 = s.cnt FLT.YIELD_CNT_RANK2 + (if w.nak = 3 then 1 else 0)) ∧
  (∀ (w : Swap) (s : State), s.wf = true → s.pairEn = true → s.twp.swap = some w → w.mine = true → w.commit = true → w.t ≤ s.nowQ →
    claimRank s.ownClaim = 8 → (∀ c ∈ s.copies, c.st ≠ .preempted) →
    ∃ t, exec .swapExecute s = .next t ∧ t.twp.swap = none ∧ t.bit TWP.SWAP_STATUS_ARMED = false ∧
      t.ownClaim = mkClaim 4 w.epoch s.pairId ∧ t.get TWP.CLAIM_STATUS_PEER = mkClaim 8 w.epoch (1 - s.pairId) ∧ t.drives = false ∧
      t.bit TWP.PAIR_STATUS_DRIVING = false) ∧
  (∀ (w : Swap) (s : State), s.wf = true → s.pairEn = true → s.twp.swap = some w → w.mine = false → w.commit = true → w.t ≤ s.nowQ →
    claimRank s.ownClaim = 4 →
    ∃ t, exec .swapExecute s = .next t ∧ t.twp.swap = none ∧ t.ownClaim = mkClaim 8 w.epoch s.pairId ∧
      t.get TWP.CLAIM_STATUS_PEER = mkClaim 4 w.epoch (1 - s.pairId) ∧ t.drives = true ∧ t.bit TWP.PAIR_STATUS_DRIVING = true ∧
      ((∀ c ∈ s.copies, c.st = .parked → c.lost = false) → t.frames = s.frames) ∧
      ∀ c ∈ t.copies, c.st = .parked → w.ends.getLsbD c.out = false) ∧
  (∀ (d : SwapDone) (p : Nat) (s : State), s.wf = true → s.twp.swapped = some d → d.active = true → d.t + 2 * usQ ≤ s.nowQ →
    s.pairedPort p = true → d.ends.getLsbD p = false →
    ∃ t, exec .swapEndFence s = .next t ∧ t.bit TWP.TWP_EVENT_SWAPPED = true ∧
      (t.twp.swapped.any fun x => x.ends.getLsbD p) = true ∧ ∀ c ∈ t.copies, c.st = .parked → c.out ≠ p)

/-- Commands of TWP_CMD (Tables 13.3, 13.10) and pair commits (R295): ISOLATE takes rank 0 with the epoch kept; REJOIN takes rank 4 and
asks for every section; RESYNC asks for them (R286); ANNOUNCE is answered READY by a standby that holds the same change, else NOT_READY;
READY sends GO, NOT_READY leaves the change unready, GO lets the standby fire at T, CANCEL and the missing READY cancel. -/
def Obligations.PairCommits : Prop :=
  (∀ (ini : Initiator) (s : State), s.wf = true → s.mayWrite ini TWP.TWP_CMD = true → s.pairEn = true → claimRank s.ownClaim ≠ 0 →
    ∃ t, exec (.isolate ini) s = .next t ∧ t.ownClaim = mkClaim 0 (claimEpoch s.ownClaim) s.pairId ∧
      t.bit TWP.TWP_EVENT_ISOLATED = true ∧ t.bit TWP.PAIR_STATUS_DRIVING = false ∧ t.twp = s.twp) ∧
  (∀ (ini : Initiator) (s : State), s.wf = true → s.mayWrite ini TWP.TWP_CMD = true → s.pairEn = true → claimRank s.ownClaim = 0 →
    s.bit FLT.FLT_STATUS_FATAL = false →
    ∃ t, exec (.rejoin ini) s = .next t ∧ t.ownClaim = mkClaim 4 (claimEpoch s.ownClaim) s.pairId ∧
      t.twp.resync = s.twp.resync ||| 0x7F ∧ t.slc = s.slc ∧ t.tabs = s.tabs) ∧
  (∀ (ini : Initiator) (s : State), s.wf = true → s.mayWrite ini TWP.TWP_CMD = true → s.standby = true → s.twUp false = true →
    ∃ t, exec (.resync ini) s = .next t ∧ t.twp.resync = s.twp.resync ||| 0x7F ∧ t.regs = s.regs ∧
      t.wire = s.wire ++ [.towpath (twFrame (s.twWords 0 5 [0x7F])), .bus ini .done]) ∧
  (∀ (h : TwHead) (ws : List Word) (x : Nat) (u s : State), s.wf = true → s.twTake 0 h = some u → u.standby = true → u.twUp false = true →
    x = wordsT (ws.drop 2) → u.slcLink = some x → u.slc.stage = some (bitsOf (ws.getD 0 0) 26 24) →
    u.pendingMask = bitsOf (ws.getD 0 0) 15 0 → u.rd TWP.PC_TAG = ws.getD 1 0 →
    ∃ t, exec (.announce h ws) s = .next t ∧ t.regs = u.regs ∧ t.slc = u.slc ∧
      t.wire = u.wire ++ [.towpath (twFrame (u.twWords 0 4 (u.pcWords 2 x)))]) ∧
  (∀ (h : TwHead) (ws : List Word) (x : Nat) (u s : State), s.wf = true → s.twTake 0 h = some u → u.standby = true → u.twUp false = true →
    x = wordsT (ws.drop 2) → u.slcLink ≠ some x → u.lkpLink ≠ some x →
    ∃ t, exec (.announce h ws) s = .next t ∧ t.regs = u.regs ∧ t.slc = u.slc ∧
      t.wire = u.wire ++ [.towpath (twFrame (u.twWords 0 4 (u.pcWords 3 x)))]) ∧
  (∀ (h : TwHead) (ws : List Word) (x : Nat) (u s : State), s.wf = true → s.twTake 0 h = some u → u.isActive = true → u.twUp false = true →
    x = wordsT (ws.drop 2) → u.slcLink = some x → u.nowQ + u.guardUs * usQ ≤ x →
    ∃ t, exec (.ready h ws) s = .next t ∧ t.twp.pc = { u.twp.pc with ready := x :: u.twp.pc.ready } ∧ t.regs = u.regs ∧
      t.wire = u.wire ++ [.towpath (twFrame (u.twWords 0 4 (u.pcWords 4 x)))]) ∧
  (∀ (h : TwHead) (ws : List Word) (u s : State), s.wf = true → s.twTake 0 h = some u → u.isActive = true →
    exec (.notReady h ws) s = .next (u.pcForget (wordsT (ws.drop 2)))) ∧
  (∀ (h : TwHead) (ws : List Word) (x : Nat) (u s : State), s.wf = true → s.twTake 0 h = some u → u.standby = true →
    x = wordsT (ws.drop 2) → u.lkpLink = some x → u.nowQ ≤ x →
    exec (.go h ws) s = .next { u with twp := { u.twp with pc := { u.twp.pc with go := x :: u.twp.pc.go } } }) ∧
  (∀ (h : TwHead) (ws : List Word) (x : Nat) (u s : State), s.wf = true → s.twTake 0 h = some u → u.standby = true →
    x = wordsT (ws.drop 2) → u.slcLink = some x → u.lkpLink = none →
    ∃ t, exec (.pcCancelReceived h ws) s = .next t ∧ t.slc = { u.slc with armed := none, jumped := none } ∧ t.lkp = u.lkp ∧
      t.twp = (u.pcForget x).twp ∧
      t.bit SLC.VER_STATUS_COMMIT_ARMED = false ∧ t.bit TWP.PAIR_STATUS_HELD = false) ∧
  (∀ (x : Nat) (s : State), s.wf = true → s.isActive = true → s.slcLink = some x → s.lkpLink = none → x ∉ s.twp.pc.ready →
    x ∉ s.twp.pc.go → x ≤ s.nowQ + s.guardUs * usQ →
    ∃ t, exec .pcGuardDeadline s = .next t ∧ t.slc = { s.slc with armed := none, jumped := none } ∧ t.twp.pc = (s.pcForget x).twp.pc ∧
      t.cnt TWP.PC_CANCEL_CNT = s.cnt TWP.PC_CANCEL_CNT + 1 ∧ t.bit TWP.TWP_EVENT_PC_CANCELLED = true)

/-- The core pairs: outputs of the two copies that differ stop the pair and are recorded, and it gives up when it may not restart (R306,
R307); outputs that agree act, a bus request as the access itself where the PMP lets it through (R301, R305; the matching, log entry 129,
and the other accesses of a core, log entry 131); once its requests are complete the pair is held in reset, in TIME_TICK (log entry 130),
and after 256 clocks of it, not before, it restarts with its registers zero, at RESTART_VEC, or where that is the boot ROM at FW_ENTRY once
its code RAM has the loader's hash, a reload being asked for otherwise (R307, R348; log entry 151); CORE_CMD resets a pair, whose cores
restart at once (R307, R309; log entry 81) and get no response to what they asked before (R306); an access of a core goes through its pair's
map, where a memory error is counted or ends as an access fault (R302, R304; the operands of that command, log entry 132); the timer
interrupt follows MTIME and MTIMECMP (R311, R312). -/
def Obligations.CorePairs : Prop :=
  (∀ (sec : Bool) (a : CoreItem) (b : Option CoreItem) (pc : Word) (s : State), s.wf = true → s.get (pairState sec) ≤ 1 →
    (sec = true ∨ s.split = false) → b ≠ some a → s.pllLost 1 = false → s.lsMarked sec 0 = false →
    s.bit (if sec then CPU.CPU_EVENT_SEC_LS else CPU.CPU_EVENT_CTRL_LS) = false →
    ∃ t, exec (.lockstepMismatch sec (some a) b pc) s = .next t ∧ t.get (pairState sec) = (if s.mayRestart sec = true then 2 else 4) ∧
      (s.mayRestart sec = false → t.bit (if sec then CPU.CPU_EVENT_SEC_GIVEUP else CPU.CPU_EVENT_CTRL_GIVEUP) = true) ∧
      t.cnt (if sec then CPU.SEC_LS_CNT else CPU.CTRL_LS_CNT) = s.cnt (if sec then CPU.SEC_LS_CNT else CPU.CTRL_LS_CNT) + 1 ∧
      t.bit (if sec then CPU.CPU_EVENT_SEC_LS else CPU.CPU_EVENT_CTRL_LS) = true ∧
      t.rd (if sec then CPU.LS_PC_SEC else CPU.LS_PC_CTRL) = pc ∧
      t.rd (if sec then CPU.LS_INFO_SEC else CPU.LS_INFO_CTRL) =
        word (itemKind a * 268435456 + (if itemKind a = 3 then 0 else itemIndex a * 65536)) ∧ t.get (pairState !sec) = s.get (pairState !sec)) ∧
  (∀ (sec : Bool) (n : Fin 32) (v pc : Word) (s : State), s.wf = true → s.get (pairState sec) = 0 → (sec = true ∨ s.split = false) →
    s.pllLost 1 = false →
    exec (.lockstepMismatch sec (some (.gpr n v)) (some (.gpr n v)) pc) s = .next (s.setGpr (if sec then 2 else 0) n v)) ∧
  (∀ (sec : Bool) (a d pc : Word) (be : BitVec 4) (write machine : Bool) (ini : Initiator) (s : State), s.wf = true → s.get (pairState sec) = 0 →
    (sec = true ∨ s.split = false) → s.pllLost 1 = false → ini = (if sec then .sec else .hart0) → s.mute ini = false → a.toNat % 4 = 0 →
    s.pmpAllows (if sec then 2 else 0) a.toNat write machine = true →
    exec (.lockstepMismatch sec (some (.bus a d be 4 write machine)) (some (.bus a d be 4 write machine)) pc) s =
      exec (.coreMemError ini a 4 (if write then some d else none) .ok) s) ∧
  (∀ (sec : Bool) (a d pc : Word) (be : BitVec 4) (size : Nat) (write machine : Bool) (ini : Initiator) (s : State), s.wf = true →
    s.get (pairState sec) = 0 → (sec = true ∨ s.split = false) → s.pllLost 1 = false → ini = (if sec then .sec else .hart0) → s.mute ini = false →
    s.pmpAllows (if sec then 2 else 0) a.toNat write machine = false →
    exec (.lockstepMismatch sec (some (.bus a d be size write machine)) (some (.bus a d be size write machine)) pc) s =
      .next { s with wire := s.wire ++ [.bus ini .fault] }) ∧
  (∀ s : State, s.stage ≠ 0 → s.wak.power = .active → s.pllLost 0 = false → s.get (pairState true) = 2 → s.pairWaits true = false →
    ∃ t, exec .timeTick s = .next t ∧ t.get (pairState true) = 3 ∧ t.cpu.rst1 = some (s.tim.ticks + 1)) ∧
  (∀ (sec : Bool) (t0 : Nat) (s : State), s.wf = true → s.get (pairState sec) = 3 → s.cpu.pcs.length = 3 →
    (if sec then s.cpu.rst1 else s.cpu.rst0) = some t0 → t0 + (if sec then 640 else 320) ≤ s.tim.ticks → s.pllLost 1 = false →
    ∃ t, exec (.pairRestart sec) s = .next t ∧ t.get (pairState sec) = 0 ∧ t.cnt CPU.RESTART_CNT = s.cnt CPU.RESTART_CNT + 1 ∧
      t.bit CPU.CPU_EVENT_RESTARTED = true ∧
      (∀ h, h < 3 → (pairHarts sec).contains h = true → t.cpu.halted.getLsbD h = false ∧
        t.cpu.pcs.getD h 0 = (if s.atRom sec = true ∧ s.codeGood sec = true then s.fwEntry sec else s.restartVec sec)) ∧
      (s.atRom sec = true → s.codeGood sec = false → s.stage = 6 → s.boot.reload = none → t.boot.reload = some sec) ∧
      ∀ h r, h < 3 ∧ (pairHarts sec).contains h = true ∧ r < 32 → t.gpr h r = 0) ∧
  (∀ (sec : Bool) (t0 : Nat) (s : State), (if sec then s.cpu.rst1 else s.cpu.rst0) = some t0 → s.tim.ticks < t0 + (if sec then 640 else 320) →
    exec (.pairRestart sec) s = .next s) ∧
  (∀ (ini : Initiator) (s : State), s.wf = true → s.mayWrite ini CPU.CORE_CMD = true → s.cpu.pcs.length = 3 → s.upd.run = none →
    ∃ t, exec (.resetCtrl ini 0xC0E5) s = .next t ∧ t.get CPU.CPU_STATUS_CTRL_STATE = 0 ∧ t.cpu.hist0 = [] ∧
      (let e := if s.atRom false = true ∧ s.codeGood false = true then s.fwEntry false else s.restartVec false;
       t.cpu.pcs = [e, e, s.cpu.pcs.getD 2 0]) ∧ t.cpu.reset_ = s.cpu.reset_ ||| 3 ∧
      (∀ h r, h < 2 ∧ r < 32 → t.gpr h r = 0) ∧ t.mem = s.mem ∧ (∀ r ∈ t.brg.hostReads, ofPair false r.ini = true → r.drop = true) ∧
      t.get CPU.CPU_STATUS_SEC_STATE = s.get CPU.CPU_STATUS_SEC_STATE) ∧
  (∀ (ini : Initiator) (c : BitVec 16) (s : State), s.wf = true → s.mayWrite ini CPU.CORE_CMD = true → c ≠ 0xC0E5 →
    ∃ t, exec (.resetCtrl ini c) s = .next t ∧ t = { s with wire := s.wire ++ [.bus ini .done] }) ∧
  (∀ (ini : Initiator) (s : State), s.wf = true → s.mayWrite ini CPU.CORE_CMD = true → s.cpu.pcs.length = 3 →
    ∃ t, exec (.resetSec ini 0xC0E5) s = .next t ∧ t.get CPU.CPU_STATUS_SEC_STATE = 0 ∧ t.cpu.hist1 = [] ∧
      t.cpu.pcs = s.cpu.pcs.set 2 (if s.atRom true = true ∧ s.codeGood true = true then s.fwEntry true else s.restartVec true) ∧
      t.cpu.reset_ = s.cpu.reset_ ||| 4 ∧ (∀ r, r < 32 → t.gpr 2 r = 0) ∧ t.mem = s.mem ∧
      t.get CPU.CPU_STATUS_CTRL_STATE = s.get CPU.CPU_STATUS_CTRL_STATE) ∧
  (∀ (ini : Initiator) (a : Word) (size m off : Nat) (ecc : EccState) (s : State), s.wf = true → s.mute ini = false →
    ini ∈ [.hart0, .hart1, .sec] → coreSize size = true → a.toNat % size = 0 → coreRegion (ini == .sec) a.toNat size = some (m, off) → m < 2 →
    ecc ≠ .uncorrectable →
    ∃ t, exec (.coreMemError ini a size none ecc) s = .next t ∧
      t.cnt CPU.MEM_ECC_CORR_CNT = s.cnt CPU.MEM_ECC_CORR_CNT + (if ecc = .corrected then 1 else 0) ∧
      t.regs = s.regs ∧ t.mem = s.mem ∧ t.wire = s.wire ++ [.bus ini (.data (word
        ((s.memBytes (if ini = .sec then 1 else 0) a.toNat size).reverse.foldl (fun n b => n * 256 + b.toNat) 0)))]) ∧
  (∀ (ini : Initiator) (a w : Word) (size m off : Nat) (s : State), s.wf = true → s.mute ini = false →
    ini ∈ [.hart0, .hart1, .sec] → coreSize size = true → a.toNat % size = 0 → coreRegion (ini == .sec) a.toNat size = some (m, off) → m < 2 →
    exec (.coreMemError ini a size (some w) .ok) s = .next { s with
      mem := (s.memStore (if ini = .sec then 1 else 0) a.toNat (bytesLE size w)).mem, wire := s.wire ++ [.bus ini .done] }) ∧
  (∀ (ini : Initiator) (a : Word) (size m off : Nat) (ecc : EccState) (s : State), s.wf = true → s.mute ini = false →
    ini ∈ [.hart0, .hart1, .sec] → coreSize size = true → a.toNat % size = 0 → coreRegion (ini == .sec) a.toNat size = some (m, off) →
    ecc = .uncorrectable ∧ m < 3 ∨ ecc = .corrected ∧ m = 2 → s.bit CPU.CPU_EVENT_MEM_ECC_UNCORR = false →
    ∃ t, exec (.coreMemError ini a size none ecc) s = .next t ∧ t.bit CPU.CPU_EVENT_MEM_ECC_UNCORR = true ∧
      t.cnt CPU.MEM_ECC_UNCORR_CNT = s.cnt CPU.MEM_ECC_UNCORR_CNT + 1 ∧
      t.rd CPU.MEM_ECC_INFO = word ((m + if ini = .sec then 3 else 0) * 268435456 + off / 4 * 4) ∧
      t.wire = s.wire ++ [.bus ini .fault] ∧ t.mem = s.mem) ∧
  (∀ (ini : Initiator) (a : Word) (size : Nat) (w : Option Word) (ecc : EccState) (s : State), s.mute ini = false →
    ini ∈ [.hart0, .hart1, .sec] → coreSize size = true → a.toNat % size = 0 → coreRegion (ini == .sec) a.toNat size = none →
    exec (.coreMemError ini a size w ecc) s = .next { s with wire := s.wire ++ [.bus ini .fault] }) ∧
  (∀ (h : Fin 3) (s : State), s.wf = true →
    ∃ t, exec (.mtimeMatch h) s = .next t ∧ t.cpu.mtip.getLsbD h = decide (s.cpu.cmp.getD h 0 ≤ s.cpu.mtime) ∧
      (∀ k, k < 3 → k ≠ h.val → t.cpu.mtip.getLsbD k = s.cpu.mtip.getLsbD k) ∧ t.regs = s.regs ∧ t.cpu.mtime = s.cpu.mtime) ∧
  (∀ (ini : Initiator) (h : Fin 3) (v : Word) (s : State), s.wf = true → s.mayWrite ini (CPU.MTIMECMP_HI h) = true → s.cpu.cmp.length = 3 →
    ∃ t, exec (.mtimecmpHiWrite ini h v) s = .next t ∧ t.rd (CPU.MTIMECMP_HI h) = v ∧
      t.cpu.cmp.getD h 0 = v.toNat * 4294967296 + (s.rd (CPU.MTIMECMP_LO h)).toNat ∧
      t.cpu.mtip.getLsbD h = decide (v.toNat * 4294967296 + (s.rd (CPU.MTIMECMP_LO h)).toNat ≤ s.cpu.mtime))

/-- Debug: a halt of a running hart whose pair is enabled, its resume, a step, abstract writes and the program buffer act on the hart
(R309, R313; the operands that say what the hart's program left are the model's, log entry 80, as is CTRL_STATE while any hart of the pair is
halted, log entry 81); a hart whose debug is not enabled is unavailable (R314); CHALLENGE, SUBMIT, the end of verification and DISABLE (R315;
the nonce's words are free values, log entry 3). -/
def Obligations.CoreDebug : Prop :=
  (∀ (h : Fin 3) (r : CoreRegs) (s : State), s.wf = true → s.dbgHart h = true → s.get (pairState (hartSec h)) ≤ 1 →
    s.cpu.halted.getLsbD h = false → s.lsMarked (hartSec h) 0 = false → s.cpu.pcs.length = 3 →
    ∃ t, exec (.debugHalt h r) s = .next t ∧ t.cpu.halted.getLsbD h = true ∧ t.get (pairState (hartSec h)) = 1 ∧
      t.cpu.pcs.getD h 0 = r.pc ∧ t.cpu.user.getLsbD h = r.user ∧ t.mem = s.mem) ∧
  (∀ (h : Fin 3) (r : CoreRegs) (s : State), s.wf = true → s.dbgHart h = false → exec (.debugHalt h r) s = .next s) ∧
  (∀ (h : Fin 3) (s : State), s.wf = true → s.isHalted h = true → (∀ k : Fin 3, hartSec k = hartSec h → k ≠ h → s.cpu.halted.getLsbD k = false) →
    ∃ t, exec (.debugResume h) s = .next t ∧ t.cpu.halted.getLsbD h = false ∧ t.get (pairState (hartSec h)) = 0 ∧ t.cpu.pcs = s.cpu.pcs ∧
      t.cpu.gprs = s.cpu.gprs) ∧
  (∀ (h : Fin 3) (r : CoreRegs) (s : State), s.wf = true → s.isHalted h = true → r.gprs = [] → r.csrs = [] →
    exec (.debugStep h r) s = .next ((s.setPc h r.pc).setUser h r.user)) ∧
  (∀ (h : Fin 3) (n : BitVec 12) (v : Word) (s : State), s.wf = true → s.isHalted h = true → 0 < n.toNat → n.toNat < 32 →
    Sparse.wf (fun _ => 0) s.cpu.gprs = true →
    ∃ t, exec (.debugAbstractWrite h false n v) s = .next t ∧ t.gpr h n.toNat = v ∧ t.cpu.pcs = s.cpu.pcs ∧ t.cpu.csrs = s.cpu.csrs ∧
      ∀ k, k < 32 → k ≠ n.toNat → t.gpr h k = s.gpr h k) ∧
  (∀ (h : Fin 3) (r : CoreRegs) (s : State), s.wf = true → s.isHalted h = true → r.gprs = [] → r.csrs = [] →
    exec (.debugProgbufExec h r) s = .next ((s.setPc h (s.cpu.pcs.getD h 0)).setUser h r.user)) ∧
  (∀ (ini : Initiator) (sc : BitVec 2) (s : State), s.wf = true → s.mayWrite ini CPU.DBG_AUTH_CMD = true →
    s.bit CPU.DBG_AUTH_STATUS_BUSY = false →
    ∃ t, exec (.dbgChallenge ini sc) s = .next t ∧ t.cpu = { s.cpu with nonce := true } ∧
      ∀ w, w < 4 → t.rd (CPU.DBG_NONCE w) = Config.freeWord (s.fresh + w)) ∧
  (∀ (ini : Initiator) (sc : BitVec 2) (s : State), s.wf = true → s.mayWrite ini CPU.DBG_AUTH_CMD = true →
    s.bit CPU.DBG_AUTH_STATUS_BUSY = false → (3 ≤ s.get CPU.DBG_AUTH_STATUS_FAILS ∨ s.cpu.nonce = false) →
    ∃ t, exec (.dbgSubmit ini sc) s = .next t ∧ t.get CPU.DBG_AUTH_STATUS_RESULT = (if 3 ≤ s.get CPU.DBG_AUTH_STATUS_FAILS then 5 else 3) ∧
      t.cpu = s.cpu ∧ t.bit CPU.DBG_AUTH_STATUS_BUSY = false ∧ ∀ w, w < 16 → t.rd (CPU.DBG_SIG w) = 0) ∧
  (∀ (ini : Initiator) (sc : BitVec 2) (s : State), s.wf = true → s.mayWrite ini CPU.DBG_AUTH_CMD = true →
    s.bit CPU.DBG_AUTH_STATUS_BUSY = false → s.get CPU.DBG_AUTH_STATUS_FAILS < 3 → s.cpu.nonce = true →
    s.bit SYS.SYS_STATUS_DBG_KEY_VALID = true →
    ∃ t, exec (.dbgSubmit ini sc) s = .next t ∧ t.bit CPU.DBG_AUTH_STATUS_BUSY = true ∧ (∀ w, w < 16 → t.rd (CPU.DBG_SIG w) = 0) ∧
      t.cpu = { s.cpu with nonce := false, verify := some (sc.toNat, wordOctets ((List.range 16).map fun w => s.rd (CPU.DBG_SIG w))) }) ∧
  (∀ (sc : Nat) (sig : Bytes) (ok : Bool) (s : State), s.wf = true → s.cpu.verify = some (sc, sig) → sc < 4 → s.copies = [] →
    ok = p256Ok (wordOctets ((List.range 16).map fun w => s.rd (SYS.DBG_KEY w))) (s.dbgMessage sc) sig →
    ∃ t, exec .dbgVerifyDone s = .next t ∧ t.bit CPU.DBG_AUTH_STATUS_BUSY = false ∧ t.cpu.verify = none ∧
      t.get CPU.DBG_AUTH_STATUS_RESULT = (if ok then 1 else 2) ∧
      t.get CPU.DBG_AUTH_STATUS_GRANTED = (if ok then sc else s.get CPU.DBG_AUTH_STATUS_GRANTED) ∧
      t.get CPU.DBG_AUTH_STATUS_FAILS =
        (if ok then s.get CPU.DBG_AUTH_STATUS_FAILS else min 3 (s.get CPU.DBG_AUTH_STATUS_FAILS + 1)) ∧
      t.cnt CPU.DBG_AUTH_FAIL_CNT = (if ok then s.cnt CPU.DBG_AUTH_FAIL_CNT else s.cnt CPU.DBG_AUTH_FAIL_CNT + 1)) ∧
  (∀ (ini : Initiator) (sc : BitVec 2) (s : State), s.wf = true → s.mayWrite ini CPU.DBG_AUTH_CMD = true →
    s.bit CPU.DBG_AUTH_STATUS_BUSY = false → s.get KEY.LC_STATUS_LC_STATE = 3 → sc.getLsbD 1 = true →
    ∃ t, exec (.dbgDisable ini sc) s = .next t ∧ t.bit CPU.CPU_STATUS_SEC_DBG_EN = false ∧ t.tabs = s.tabs ∧
      t.get CPU.DBG_AUTH_STATUS_GRANTED = (BitVec.ofNat 2 (s.get CPU.DBG_AUTH_STATUS_GRANTED) &&& ~~~sc).toNat)

/-- The DMA rings: TAIL, ENABLE and SIZE (R318, Table 15.7), the fetch of a transmit descriptor and the end of its frame (R318, R33),
coalescing and RING_EVENT (R321); and the PCIe endpoint going down, reset by PERST_N and coming up (R317, R407). The MSI-X table, D3hot
and the AER bits are the model's, log entries 86 and 133. -/
def Obligations.RingsAndEndpoint : Prop :=
  (∀ (ini : Initiator) (rx : Bool) (r : Fin 8) (w : Word) (s : State), s.wf = true → s.mayWrite ini (BRG.RING_TAIL (ringNo rx) r) = true →
    ∃ t, exec (.ringTailWrite ini rx r w) s = .next t ∧ t.ringTail rx r = bitsOf w 15 0 ∧ t.ringHead rx r = s.ringHead rx r ∧ t.brg = s.brg) ∧
  (∀ (ini : Initiator) (rx : Bool) (r : Fin 8) (w : Word) (s : State), s.wf = true → s.mayWrite ini (BRG.RING_CTRL (ringNo rx) r) = true →
    bitsOf w 0 0 = 1 → sizeOk (s.ringSize rx r) = true → s.bit (BRG.RING_STATUS_RUNNING (ringNo rx) r) = false →
    ∃ t, exec (.ringEnableWrite ini rx r w) s = .next t ∧ t.bit (BRG.RING_CTRL_ENABLE (ringNo rx) r) = true ∧
      t.bit (BRG.RING_STATUS_RUNNING (ringNo rx) r) = true ∧ t.bit (BRG.RING_STATUS_ERR_STOP (ringNo rx) r) = false ∧
      t.ringHead rx r = (s.ring rx r).tailOff % s.ringSize rx r ∧ t.ringTail rx r = s.ringTail rx r) ∧
  (∀ (ini : Initiator) (rx : Bool) (r : Fin 8) (w : Word) (s : State), s.wf = true → s.mayWrite ini (BRG.RING_CTRL (ringNo rx) r) = true →
    bitsOf w 0 0 = 1 → sizeOk (s.ringSize rx r) = false →
    ∃ t, exec (.ringEnableWrite ini rx r w) s = .next t ∧
      t.bit (BRG.RING_CTRL_ENABLE (ringNo rx) r) = s.bit (BRG.RING_CTRL_ENABLE (ringNo rx) r) ∧
      t.bit (BRG.RING_STATUS_RUNNING (ringNo rx) r) = s.bit (BRG.RING_STATUS_RUNNING (ringNo rx) r) ∧ t.brg = s.brg) ∧
  (∀ (ini : Initiator) (rx : Bool) (r : Fin 8) (w : Word) (s : State), s.wf = true → s.mayWrite ini (BRG.RING_CTRL (ringNo rx) r) = true →
    bitsOf w 0 0 = 0 → max 1 (bitsOf w 15 8) ≤ (s.ring rx r).unrep →
    ∃ t, exec (.ringEnableWrite ini rx r w) s = .next t ∧ t.bit (ringBit rx r) = true) ∧
  (∀ (ini : Initiator) (rx : Bool) (r : Fin 8) (w : Word) (s : State), s.wf = true → s.mayWrite ini (BRG.RING_CTRL (ringNo rx) r) = true →
    bitsOf w 0 0 = 0 → s.bit (BRG.RING_CTRL_ENABLE (ringNo rx) r) = true → (s.ring rx r).frame = none →
    ∃ t, exec (.ringEnableWrite ini rx r w) s = .next t ∧ t.bit (BRG.RING_CTRL_ENABLE (ringNo rx) r) = false ∧
      t.bit (BRG.RING_STATUS_RUNNING (ringNo rx) r) = false ∧ (t.ring rx r).tailOff = s.ringTail rx r) ∧
  (∀ (r : Fin 8) (d : BitVec 128) (n : Nat) (s : State), s.wf = true → s.bit (BRG.RING_CTRL_ENABLE 0 r) = true →
    s.bit (BRG.RING_STATUS_RUNNING 0 r) = true → s.bit BRG.BRG_STATUS_PCIE_LINK = true → s.ringHead false r ≠ s.ringTail false r →
    (s.ring false r).frame = none → n = bitsOf ((d >>> 64).setWidth 32) 13 0 → bitsOf ((d >>> 64).setWidth 32) 31 14 = 0 → 60 ≤ n → n ≤ 9724 →
    ∃ t, exec (.txRingFetch r (some d)) s = .next t ∧ (t.ring false r).frame = some s.nextFid ∧ (t.ring false r).bytes = n ∧
      (t.ring false r).addr = (d.setWidth 64).toNat ∧ t.frames.length = s.frames.length + 1 ∧ t.regs = s.regs ∧ t.cnts = s.cnts ∧
      t.wire = s.wire ++ [.dmaRead (s.ringDesc false r) 16]) ∧
  (∀ (r : Fin 8) (d : BitVec 128) (s : State), s.wf = true → s.bit (BRG.RING_CTRL_ENABLE 0 r) = true →
    s.bit (BRG.RING_STATUS_RUNNING 0 r) = true → s.bit BRG.BRG_STATUS_PCIE_LINK = true → s.ringHead false r ≠ s.ringTail false r →
    (s.ring false r).frame = none → bitsOf ((d >>> 64).setWidth 32) 31 14 = 0 → bitsOf ((d >>> 64).setWidth 32) 13 0 < 60 →
    s.ringHead false r + 1 < s.ringSize false r →
    ∃ t, exec (.txRingFetch r (some d)) s = .next t ∧ t.cnt BRG.TX_DESC_ERR_CNT = s.cnt BRG.TX_DESC_ERR_CNT + 1 ∧ t.frames = s.frames ∧
      t.wire = s.wire ++ [.dmaRead (s.ringDesc false r) 16, .ringTx r (s.ringDesc false r) (word (0x80000000 + 0x10000000))] ∧
      t.ringHead false r = s.ringHead false r + 1) ∧
  (∀ (r : Fin 8) (s : State), s.wf = true → s.bit (BRG.RING_CTRL_ENABLE 0 r) = true → s.bit (BRG.RING_STATUS_RUNNING 0 r) = true →
    s.bit BRG.BRG_STATUS_PCIE_LINK = true → s.ringHead false r ≠ s.ringTail false r → (s.ring false r).frame = none →
    ∃ t, exec (.txRingFetch r none) s = .next t ∧ t.bit (BRG.RING_STATUS_ERR_STOP 0 r) = true ∧
      t.bit (BRG.RING_STATUS_RUNNING 0 r) = false ∧ t.frames = s.frames ∧
      t.brg = { s.brg with pcie := { s.brg.pcie with
        aer := if bitsOf (Config.freeWord s.fresh) 0 0 = 1 then s.brg.pcie.aer ||| 0x1000 else s.brg.pcie.aer } }) ∧
  (∀ (r : Fin 8) (d : Bytes) (fid : Nat) (f : Frame) (s : State), s.wf = true → (s.ring false r).frame = some fid → s.frame? fid = some f →
    f.fid = fid → f.handle.isSome = true → s.secured 14 = false → f.secPend = false → f.secLen = 0 → d.length = (s.ring false r).bytes →
    ∃ t, exec (.txRingFrameDone r (some d)) s = .next t ∧ t.cnt BRG.TX_FRAMES_CNT = s.cnt BRG.TX_FRAMES_CNT + 1 ∧
      t.frame? fid = some { f with data := d, tail := true, ts := s.nowQ, secPend := false, raw := [], len := d.length + 4 } ∧
      t.wire = s.wire ++ [.dmaRead (s.ring false r).addr (s.ring false r).bytes, .ringTx r (s.ringDesc false r) (word 0x80000000)] ∧
      (t.ring false r).frame = none) ∧
  (∀ (rx : Bool) (r : Fin 8) (s : State), s.wf = true → s.get (BRG.RING_CTRL_COAL_US (ringNo rx) r) ≠ 0 → (s.ring rx r).unrep ≠ 0 →
    (s.ring rx r).oldest + s.get (BRG.RING_CTRL_COAL_US (ringNo rx) r) * usQ ≤ s.nowQ →
    ∃ t, exec (.ringCoalExpiry rx r) s = .next t ∧ t.bit (ringBit rx r) = true ∧ t.brg = s.brg ∧ t.wire = s.wire) ∧
  (∀ (ini : Initiator) (rx : Bool) (r : Fin 8) (w : Word) (s : State), s.wf = true → s.mayWrite ini BRG.RING_EVENT = true → s.fltNow = [] →
    w.getLsbD (ringKey rx r) = true → s.bit (ringBit rx r) = true →
    ∃ t, exec (.ringEventClear ini w) s = .next t ∧ t.bit (ringBit rx r) = false ∧ (t.ring rx r).unrep = 0 ∧
      t.ringHead rx r = s.ringHead rx r) ∧
  (∀ (why : PcieCause) (s : State), s.wf = true → (∀ k : Fin 16, (s.ring (decide (8 ≤ k.val)) (k % 8)).frame = none) →
    ∃ t, exec (.pcieDown why) s = .next t ∧
      t.bit BRG.BRG_STATUS_PCIE_LINK = (if why = .linkLost then false else s.bit BRG.BRG_STATUS_PCIE_LINK) ∧
      t.bit BRG.BRG_EVENT_PCIE_DOWN = true ∧ t.brg.hostReads = (if why = .linkLost then [] else s.brg.hostReads) ∧ t.frames = s.frames ∧
      (∀ r, r < 8 → t.bit (BRG.RING_CTRL_ENABLE 0 r) = false ∧
        t.bit (BRG.RING_STATUS_RUNNING 0 r) = false ∧ t.bit (BRG.RING_CTRL_ENABLE 1 r) = false ∧
        t.bit (BRG.RING_STATUS_RUNNING 1 r) = false) ∧
      t.msixMask = (if why = .d3hot then s.msixMask else 0xFFFFFFFF) ∧ t.brg.pcie.d3 = decide (why = .d3hot)) ∧
  (∀ s : State, s.wf = true →
    ∃ t, exec .perst s = .next t ∧ t.bit BRG.BRG_STATUS_PCIE_LINK = false ∧ t.bit BRG.BRG_EVENT_PCIE_DOWN = true ∧
      t.msixMask = 0xFFFFFFFF ∧ t.msixFn = false ∧ t.msixPba = 0) ∧
  (∀ (speed width : Fin 5) (s : State), s.wf = true → s.stage ≠ 0 →
    ∃ t, exec (.pcieLinkUp speed width) s = .next t ∧ t.bit BRG.BRG_STATUS_PCIE_LINK = true ∧
      t.brg = { s.brg with pcie := { s.brg.pcie with speed := speed, width := width, d3 := false } } ∧ t.wire = s.wire) ∧
  (∀ (speed width : Fin 5) (s : State), s.wf = true → s.stage = 0 → exec (.pcieLinkUp speed width) s = .next s)

/-- The windows: a host-window read leaves and its completion or failure ends it (R322 to R324), but for a core that was reset meanwhile,
which gets no response (R306); a write is posted (R323, R325); a peer-window read leaves as a request while one of 16 is free and times out
(R324, R327); a posted write that cannot leave or that fails is logged, and PERR_LOG3 removes the head (R325). The AER bits and what the
completion timeout shows there are the model's, log entries 86 and 133. -/
def Obligations.BridgeWindows : Prop :=
  (∀ (a : BitVec 25) (n size : Nat) (s : State), s.wf = true → s.mute .hart0 = false → n < 4 → a.toNat / 0x100000 = 0x14 + n →
    s.hostTakes n (a.toNat - 0x1400000) size = true →
    ∃ t, exec (.windowRead .hart0 a size) s = .next t ∧
      t.brg = { s.brg with hostReads := s.brg.hostReads ++ [HostRead.mk .hart0 (s.bit (BRG.HOST_WIN_CTRL_DATA_INV n)) size s.nowQ false] } ∧
      t.wire = s.wire ++ [.window (s.hostAddr n (a.toNat % 0x100000)) size none] ∧ t.regs = s.regs) ∧
  (∀ (ini : Initiator) (r : HostRead) (w : Word) (s : State), s.wf = true → s.brg.hostReads.find? (fun x => x.ini == ini) = some r →
    r.inv = false → r.size = 4 → r.drop = false → s.coreDown ini = false →
    exec (.windowReadResponse ini (some w)) s =
      .next { s with brg := { s.brg with hostReads := s.brg.hostReads.erase r }, wire := s.wire ++ [.bus ini (.data w)] }) ∧
  (∀ (ini : Initiator) (r : HostRead) (w : Word) (s : State), s.wf = true → s.brg.hostReads.find? (fun x => x.ini == ini) = some r →
    r.drop = true → exec (.windowReadResponse ini (some w)) s = .next { s with brg := { s.brg with hostReads := s.brg.hostReads.erase r } }) ∧
  (∀ (ini : Initiator) (r : HostRead) (s : State), s.wf = true → s.brg.hostReads.find? (fun x => x.ini == ini) = some r →
    r.drop = false → s.coreDown ini = false →
    ∃ t, exec (.windowReadResponse ini none) s = .next t ∧ t.brg.hostReads = s.brg.hostReads.erase r ∧
      t.cnt BRG.READ_ERR_CNT = s.cnt BRG.READ_ERR_CNT + 1 ∧ t.bit BRG.BRG_EVENT_READ_ERR = true ∧ t.wire = s.wire ++ [.bus ini .fault]) ∧
  (∀ (ini : Initiator) (r : HostRead) (s : State), s.wf = true → s.brg.hostReads.find? (fun x => x.ini == ini) = some r →
    r.at_ + s.brg.pcie.cto * usQ ≤ s.nowQ → r.drop = false → s.coreDown ini = false →
    ∃ t, exec (.hostWindowCompletionTimeout ini) s = .next t ∧
      t.brg = { s.brg with hostReads := s.brg.hostReads.erase r, pcie := { s.brg.pcie with aer := s.brg.pcie.aer ||| 0x4000 } } ∧
      t.cnt BRG.READ_ERR_CNT = s.cnt BRG.READ_ERR_CNT + 1 ∧ t.bit BRG.BRG_EVENT_READ_ERR = true ∧ t.wire = s.wire ++ [.bus ini .fault]) ∧
  (∀ (a : BitVec 25) (n size : Nat) (w : Word) (s : State), s.wf = true → s.mute .hart1 = false → n < 4 → a.toNat / 0x100000 = 0x14 + n →
    s.hostTakes n (a.toNat - 0x1400000) size = true → s.bit (BRG.HOST_WIN_CTRL_DATA_INV n) = false →
    exec (.windowWrite .hart1 a size w) s =
      .next { s with wire := s.wire ++ [.window (s.hostAddr n (a.toNat % 0x100000)) size (some (bytesLE size w)), .bus .hart1 .done] }) ∧
  (∀ (a : BitVec 25) (n : Nat) (s : State), s.wf = true → s.readMute .host = false → n < 8 → a.toNat / 0x100000 = 0x18 + n → a.toNat % 4 = 0 →
    s.bit (BRG.PEER_WIN_EN n) = true → s.twUp false = true → s.brg.queue = [] → (s.brg.sent.filter s.outstanding).length < 16 →
    ∃ t q, exec (.windowRead .host a 4) s = .next t ∧ q ∈ t.brg.sent ∧ q.kind = 1 ∧ q.ini = .host ∧ q.tag = s.brg.tag ∧
      q.addr = s.get (BRG.PEER_WIN_TARGET n) * 0x100000 + a.toNat % 0x100000 ∧ t.brg.queue = [] ∧
      t.brg.tag = (s.brg.tag + 1) % 256 ∧ t.regs = s.regs ∧
      t.wire = s.wire ++ [.towpath (twFrame (s.twWords 3 0x30 (bridgeWords 1 0 q.tag q.addr 0)))]) ∧
  (∀ (a : BitVec 25) (n : Nat) (w : Word) (s : State), s.wf = true → s.mute .host = false → n < 8 → a.toNat / 0x100000 = 0x18 + n →
    a.toNat % 4 = 0 → s.bit (BRG.PEER_WIN_EN n) = true → s.twUp false = false → s.brg.perr.length < 8 →
    ∃ t, exec (.windowWrite .host a 4 w) s = .next t ∧ t.cnt BRG.PERR_CNT = s.cnt BRG.PERR_CNT + 1 ∧ t.bit BRG.BRG_EVENT_PERR = true ∧
      t.brg.perr = s.brg.perr ++ [[word (a.toNat - 0x1800000), word (0xC0000000 + n * 0x8000000 + 0x500000),
        word (qnsOf s.nowQ * 1073741824 + nsOf s.nowQ), word (secOf s.nowQ)]] ∧
      bitsOf (t.rd BRG.PERR_STICKY) (4 + n) (4 + n) = 1 ∧ t.wire = s.wire ++ [.bus .host .done]) ∧
  (∀ (tag : BitVec 8) (q : OutReq) (s : State), s.wf = true →
    s.brg.sent.find? (fun q => q.tag == tag.toNat && q.kind != 2) = some q → q.kind = 1 → q.ini = .host → q.drop = false → q.at_ + s.peerTimeout ≤ s.nowQ →
    s.brg.queue = [] →
    ∃ t, exec (.peerReadTimeout tag) s = .next t ∧ t.brg = { s.brg with sent := s.brg.sent.filter fun q => q.tag != tag.toNat } ∧
      t.cnt BRG.READ_ERR_CNT = s.cnt BRG.READ_ERR_CNT + 1 ∧ t.bit BRG.BRG_EVENT_READ_ERR = true ∧ t.wire = s.wire ++ [.bus .host .abort]) ∧
  (∀ (off : BitVec 22) (ab : Bool) (s : State), s.wf = true → s.brg.perr.length < 8 →
    ∃ t, exec (.postedWriteFail .hart1 off ab) s = .next t ∧ t.cnt BRG.PERR_CNT = s.cnt BRG.PERR_CNT + 1 ∧
      t.brg.perr = s.brg.perr ++ [[word off.toNat, word (0x80000000 + off.toNat / 0x100000 * 0x8000000 + 0x2000000 + (if ab then 2 else 1) * 0x100000),
        word (qnsOf s.nowQ * 1073741824 + nsOf s.nowQ), word (secOf s.nowQ)]] ∧ t.bit BRG.BRG_EVENT_PERR = true ∧
      t.cnt BRG.PERR_LOST_CNT = s.cnt BRG.PERR_LOST_CNT) ∧
  (∀ (off : BitVec 22) (ab : Bool) (s : State), s.wf = true → s.brg.perr.length = 8 →
    ∃ t, exec (.postedWriteFail .hart0 off ab) s = .next t ∧ t.brg = s.brg ∧ t.cnt BRG.PERR_LOST_CNT = s.cnt BRG.PERR_LOST_CNT + 1 ∧
      t.bit BRG.BRG_EVENT_PERR_LOST = true ∧ t.bit BRG.BRG_EVENT_PERR = true) ∧
  (∀ (ini : Initiator) (s : State), s.wf = true → s.mayRead ini (BRG.PERR_LOG 3) = true →
    ∃ t, exec (.perrLogRead ini) s = .next t ∧ t.brg = { s.brg with perr := s.brg.perr.tail } ∧ t.regs = s.regs ∧
      t.wire = s.wire ++ [.bus ini (.data ((s.brg.perr.headD []).getD 3 0))])

/-- The peer bridge and locked sequences: inbound reads and writes act as bus accesses and are answered while fewer than 16 wait, and a read
waits behind a write that waits (R326, R327; a 17th request is not taken, log entry 152); LOCK_READ locks a
semaphore, an access to it waits, the closing request or LOCK_TIMEOUT releases it (R328, R329); PEER_LOCK_CMD starts a step, the answer
ends it (R328); a failed posted write is logged (R325); the twin link goes down and comes up (R327). u: the frame taken (R297). -/
def Obligations.PeerBridge : Prop :=
  (∀ (h : TwHead) (ws : List Word) (n : Fin 8) (u s : State), s.wf = true → s.inboundFull = false → s.twTake 3 h = some u →
    u.twUp false = true → bitsOf (ws.getD 1 0) 24 0 = BRG.BRG_SEM n → u.semLocked n = false → u.peerWriteWaits = false →
    ∃ t, exec (.bridgeReadReceived h ws) s = .next t ∧ t.regs = u.regs ∧ t.cnt BRG.PEER_IN_CNT = u.cnt BRG.PEER_IN_CNT + 1 ∧
      t.wire = u.wire ++ [.towpath (twFrame (u.twWords 3 0x30 (bridgeWords 8 0 (bitsOf (ws.getD 0 0) 23 16) (BRG.BRG_SEM n) (u.rd (BRG.BRG_SEM n)))))]) ∧
  (∀ (h : TwHead) (ws : List Word) (n : Fin 8) (u s : State), s.wf = true → s.inboundFull = false → s.twTake 3 h = some u →
    bitsOf (ws.getD 1 0) 24 0 = BRG.BRG_SEM n → u.semLocked n = true ∨ u.peerWriteWaits = true →
    ∃ t, exec (.bridgeReadReceived h ws) s = .next t ∧ t.regs = u.regs ∧ t.wire = u.wire ∧
      t.brg.waits = u.brg.waits ++ [{ ini := .peer, tag := some (bitsOf (ws.getD 0 0) 23 16), addr := BRG.BRG_SEM n, w := none }]) ∧
  (∀ (h : TwHead) (ws : List Word) (s : State), s.inboundFull = true →
    exec (.bridgeReadReceived h ws) s = .next s ∧ exec (.bridgeWriteReceived h ws) s = .next s) ∧
  (∀ (h : TwHead) (ws : List Word) (n : Fin 8) (u s : State), s.wf = true → s.inboundFull = false → s.twTake 3 h = some u →
    u.stage = stageRun → bitsOf (ws.getD 1 0) 24 0 = BRG.BRG_SEM n → u.semLocked n = false →
    ∃ t, exec (.bridgeWriteReceived h ws) s = .next t ∧ t.rd (BRG.BRG_SEM n) = ws.getD 2 0 ∧ t.wire = u.wire ∧ t.brg = u.brg ∧
      t.cnt BRG.PEER_IN_CNT = u.cnt BRG.PEER_IN_CNT + 1) ∧
  (∀ (h : TwHead) (ws : List Word) (n : Fin 8) (u s : State), s.wf = true → s.twTake 3 h = some u → u.twUp false = true →
    bitsOf (ws.getD 1 0) 24 0 = BRG.BRG_SEM n → u.bit BRG.BRG_STATUS_LOCK_OUT = false → u.brg.sent = [] →
    ∃ t, exec (.bridgeLockReadReceived h ws) s = .next t ∧ t.brg.lockIn = some (n.val, u.nowQ) ∧ t.bit BRG.BRG_STATUS_LOCK_IN = true ∧
      t.wire = u.wire ++ [.towpath (twFrame (u.twWords 3 0x30 (bridgeWords 8 0 (bitsOf (ws.getD 0 0) 23 16) (BRG.BRG_SEM n) (u.rd (BRG.BRG_SEM n)))))]) ∧
  (∀ (h : TwHead) (ws : List Word) (n : Fin 8) (u s : State), s.wf = true → s.twTake 3 h = some u → u.twUp false = true →
    bitsOf (ws.getD 1 0) 24 0 = BRG.BRG_SEM n → u.bit BRG.BRG_STATUS_LOCK_OUT = true →
    ∃ t, exec (.bridgeLockReadReceived h ws) s = .next t ∧ t.brg = u.brg ∧ t.regs = u.regs ∧
      t.wire = u.wire ++ [.towpath (twFrame (u.twWords 3 0x30 (bridgeWords 8 3 (bitsOf (ws.getD 0 0) 23 16) (BRG.BRG_SEM n) 0)))]) ∧
  (∀ (h : TwHead) (ws : List Word) (n : Fin 8) (u s : State), s.wf = true → s.twTake 3 h = some u → u.twUp false = true →
    bitsOf (ws.getD 1 0) 24 0 = BRG.BRG_SEM n → u.semLocked n = true → u.brg.waits = [] → u.stage = stageRun →
    ∃ t, exec (.bridgeWriteUnlockReceived h ws) s = .next t ∧ t.rd (BRG.BRG_SEM n) = ws.getD 2 0 ∧ t.brg.lockIn = none ∧
      t.bit BRG.BRG_STATUS_LOCK_IN = false ∧
      t.wire = u.wire ++ [.towpath (twFrame (u.twWords 3 0x30 (bridgeWords 8 0 (bitsOf (ws.getD 0 0) 23 16) (BRG.BRG_SEM n) 0)))]) ∧
  (∀ (h : TwHead) (ws : List Word) (n : Fin 8) (u s : State), s.wf = true → s.twTake 3 h = some u → u.twUp false = true →
    bitsOf (ws.getD 1 0) 24 0 = BRG.BRG_SEM n → u.semLocked n = true → u.brg.waits = [] →
    ∃ t, exec (.bridgeUnlockReceived h ws) s = .next t ∧ t.rd (BRG.BRG_SEM n) = u.rd (BRG.BRG_SEM n) ∧ t.brg.lockIn = none ∧
      t.bit BRG.BRG_STATUS_LOCK_IN = false) ∧
  (∀ (h : TwHead) (ws : List Word) (n : Fin 8) (u s : State), s.wf = true → s.twTake 3 h = some u → u.twUp false = true →
    bitsOf (ws.getD 1 0) 24 0 = BRG.BRG_SEM n → u.semLocked n = false →
    ∃ t, exec (.bridgeUnlockReceived h ws) s = .next t ∧ t.regs = u.regs ∧ t.brg = u.brg ∧
      t.wire = u.wire ++ [.towpath (twFrame (u.twWords 3 0x30 (bridgeWords 8 4 (bitsOf (ws.getD 0 0) 23 16) (BRG.BRG_SEM n) 0)))]) ∧
  (∀ (n t0 : Nat) (s : State), s.wf = true → s.brg.lockIn = some (n, t0) → t0 + s.lockTimeout ≤ s.nowQ → s.brg.waits = [] →
    ∃ t, exec .lockTimeoutExpiry s = .next t ∧ t.brg = { s.brg with lockIn := none, waits := [] } ∧ t.bit BRG.BRG_STATUS_LOCK_IN = false ∧
      t.cnt BRG.LOCK_TIMEOUT_CNT = s.cnt BRG.LOCK_TIMEOUT_CNT + 1 ∧ t.bit BRG.BRG_EVENT_LOCK_TIMEOUT = true) ∧
  (∀ (ini : Initiator) (s : State), s.wf = true → s.mayWrite ini BRG.PEER_LOCK_CMD = true → s.bit BRG.PEER_LOCK_STATUS_BUSY = false →
    s.bit BRG.BRG_STATUS_LOCK_OUT = false → s.twUp false = true → s.brg.queue = [] → (s.brg.sent.filter s.outstanding).length < 16 →
    ∃ t, exec (.lockRead ini) s = .next t ∧ t.bit BRG.PEER_LOCK_STATUS_BUSY = true ∧ t.brg.queue = [] ∧
      t.wire = s.wire ++ [.towpath (twFrame (s.twWords 3 0x30 (bridgeWords 3 0 s.brg.tag (BRG.BRG_SEM (s.get BRG.PEER_LOCK_ADDR_SEM)) 0))),
        .bus ini .done]) ∧
  (∀ (ini : Initiator) (s : State), s.wf = true → s.mayWrite ini BRG.PEER_LOCK_CMD = true → s.bit BRG.PEER_LOCK_STATUS_BUSY = true →
    ∃ t, exec (.lockRead ini) s = .next t ∧ t.bit BRG.BRG_EVENT_LOCK_IGNORED = true ∧ t.brg = s.brg) ∧
  (∀ (ini : Initiator) (s : State), s.wf = true → s.mayWrite ini BRG.PEER_LOCK_CMD = true → s.bit BRG.PEER_LOCK_STATUS_BUSY = false →
    s.twUp false = true → s.brg.queue = [] → (s.brg.sent.filter s.outstanding).length < 16 →
    ∃ t, exec (.writeUnlock ini) s = .next t ∧ t.bit BRG.PEER_LOCK_STATUS_BUSY = true ∧
      t.wire = s.wire ++ [.towpath (twFrame (s.twWords 3 0x30 (bridgeWords 4 0 s.brg.tag (BRG.BRG_SEM (s.get BRG.PEER_LOCK_ADDR_SEM)) (s.rd BRG.PEER_LOCK_DATA)))), .bus ini .done]) ∧
  (∀ (ini : Initiator) (s : State), s.wf = true → s.mayWrite ini BRG.PEER_LOCK_CMD = true → s.bit BRG.PEER_LOCK_STATUS_BUSY = false →
    s.twUp false = true → s.brg.queue = [] → (s.brg.sent.filter s.outstanding).length < 16 →
    ∃ t, exec (.unlock ini) s = .next t ∧ t.bit BRG.PEER_LOCK_STATUS_BUSY = true ∧
      t.wire = s.wire ++ [.towpath (twFrame (s.twWords 3 0x30 (bridgeWords 5 0 s.brg.tag (BRG.BRG_SEM (s.get BRG.PEER_LOCK_ADDR_SEM)) 0))), .bus ini .done]) ∧
  (∀ (h : TwHead) (ws : List Word) (q : OutReq) (u s : State), s.wf = true → s.twTake 3 h = some u →
    u.brg.sent.find? (fun q => q.tag == bitsOf (ws.getD 0 0) 23 16) = some q → q.kind = 3 → bitsOf (ws.getD 0 0) 27 24 = 0 → u.brg.queue = [] →
    ∃ t, exec (.bridgeResponseReceived h ws) s = .next t ∧ t.rd BRG.PEER_LOCK_DATA = ws.getD 2 0 ∧ t.bit BRG.PEER_LOCK_STATUS_BUSY = false ∧
      t.get BRG.PEER_LOCK_STATUS_RESULT = 1 ∧ t.bit BRG.BRG_STATUS_LOCK_OUT = true ∧
      t.brg = { u.brg with sent := u.brg.sent.filter fun x => x.tag != q.tag }) ∧
  (∀ (h : TwHead) (ws : List Word) (q : OutReq) (u s : State), s.wf = true → s.twTake 3 h = some u →
    u.brg.sent.find? (fun q => q.tag == bitsOf (ws.getD 0 0) 23 16 && q.kind == 2) = some q → bitsOf (ws.getD 0 0) 27 24 = 1 →
    u.brg.queue = [] → u.brg.perr.length < 8 →
    ∃ t, exec (.bridgePostedFailReceived h ws) s = .next t ∧ t.cnt BRG.PERR_CNT = u.cnt BRG.PERR_CNT + 1 ∧
      t.bit BRG.BRG_EVENT_PERR = true ∧ t.brg.perr.length = u.brg.perr.length + 1 ∧ ∀ x ∈ t.brg.sent, x.tag ≠ q.tag) ∧
  (∀ s : State, s.wf = true → s.bit BRG.BRG_STATUS_TW_LINK = true → s.bit TWP.PAIR_STATUS_TW_UP = true → s.brg.lockIn = none →
    ∃ t, exec .twinLinkDown s = .next t ∧ t.bit BRG.BRG_STATUS_TW_LINK = false ∧ t.brg.sent = [] ∧ t.brg.queue = [] ∧
      t.bit BRG.BRG_STATUS_LOCK_OUT = false ∧ t.bit TWP.PAIR_STATUS_TW_UP = false ∧ t.bit TWP.TWP_EVENT_PATH_DOWN = true ∧
      t.ownClaim = s.ownClaim) ∧
  (∀ s : State, s.wf = true →
    ∃ t, exec .twinLinkUp s = .next t ∧ t.bit BRG.BRG_STATUS_TW_LINK = true ∧ t.twp = s.twp ∧ t.brg = s.brg ∧ t.wire = s.wire)

/-- R27. The increment takes effect in the tick after the write of WT_INCR_NS, with the WT_INCR_FRAC value written before it: a write of
WT_INCR_FRAC only stores its word; a write of WT_INCR_NS puts the value of both, in 2^-32 ns, kept between 1.999 ns and 2.001 ns, into force
for the next tick, and a clamped one sets INCR_CLAMPED; that tick advances by it. -/
def Obligations.IncrementClamped : Prop :=
  (∀ (ini : Initiator) (w : Word) (s : State), s.wf = true → s.mayWrite ini TIM.WT_INCR_FRAC = true → s.steerBlocked = false →
    ∃ t, exec (.registerWrite ini (BitVec.ofNat 25 TIM.WT_INCR_FRAC) 4 w) s = .next t ∧ t.rd TIM.WT_INCR_FRAC = w ∧ t.tim = s.tim ∧
      ∀ b, b ≠ TIM.WT_INCR_FRAC → t.rd b = s.rd b) ∧
  (∀ (ini : Initiator) (v : Int) (w : Word) (s : State), s.wf = true → s.mayWrite ini TIM.WT_INCR_NS = true → s.steerBlocked = false →
    v = ((bitsOf w 3 0 * 4294967296 + (s.rd TIM.WT_INCR_FRAC).toNat : Nat) : Int) → 8585639625 ≤ v → v ≤ 8594229559 →
    ∃ t, exec (.wtIncrWrite ini w) s = .next t ∧ t.tim = { s.tim with incrPend := some v } ∧
      t.bit TIM.TIM_EVENT_INCR_CLAMPED = s.bit TIM.TIM_EVENT_INCR_CLAMPED) ∧
  (∀ (ini : Initiator) (v : Int) (w : Word) (s : State), s.wf = true → s.mayWrite ini TIM.WT_INCR_NS = true → s.steerBlocked = false →
    v = ((bitsOf w 3 0 * 4294967296 + (s.rd TIM.WT_INCR_FRAC).toNat : Nat) : Int) → v < 8585639625 →
    ∃ t, exec (.wtIncrWrite ini w) s = .next t ∧ t.tim = { s.tim with incrPend := some 8585639625 } ∧
      t.bit TIM.TIM_EVENT_INCR_CLAMPED = true) ∧
  (∀ (ini : Initiator) (v : Int) (w : Word) (s : State), s.wf = true → s.mayWrite ini TIM.WT_INCR_NS = true → s.steerBlocked = false →
    v = ((bitsOf w 3 0 * 4294967296 + (s.rd TIM.WT_INCR_FRAC).toNat : Nat) : Int) → 8594229559 < v →
    ∃ t, exec (.wtIncrWrite ini w) s = .next t ∧ t.tim = { s.tim with incrPend := some 8594229559 } ∧
      t.bit TIM.TIM_EVENT_INCR_CLAMPED = true) ∧
  (∀ (i : Int) (s : State), s.stage ≠ 0 → s.wak.power = .active → s.pllLost 0 = false → s.tim.align = none → s.tim.loadPend = none →
    s.tim.incrPend = some i →
    ∃ t, exec .timeTick s = .next t ∧ t.tim.incr = i ∧ t.tim.incrPend = none ∧
      t.tim.wt = (s.tim.wt + (i + max (-s.slewMax) (min s.slewMax s.tim.phase)).toNat) % wtWrap)

/-- From R55. An ARM or STOP that arrives while a pulse is active is kept and changes neither the pulse nor the pin; the pulse's trailing edge,
at its leading edge plus WIDTH and not before, lets it take effect. That a late ARM stops the running train, which edge an ARM begins with, and
that a leading edge which comes more than 4 ns late has its WIDTH from then on are the model's choice, log entry 122. -/
def Obligations.ArmStopDuringPulse : Prop :=
  (∀ (ini : Initiator) (p : Fin 16) (s : State), s.wf = true → s.mayWrite ini (TIO.PIN_CMD p) = true → s.pinMode p = pinOutput →
    s.pinLimits p = true → s.nowQ + 400 ≤ s.pinStart p ∨ s.get (TIO.COUNT_PULSES p) = 0 → (s.pin p).active = true →
    ∃ t, exec (.pinArm ini p) s = .next t ∧ t.regs = s.regs ∧ t.wire = s.wire ++ [.bus ini .done] ∧
      (let r : Train :=
          { start := s.pinStart p, period := s.get (TIO.PERIOD_QNS p), width := s.get (TIO.WIDTH_QNS p), count := s.get (TIO.COUNT_PULSES p),
            next := firstK (s.pinStart p) (s.get (TIO.PERIOD_QNS p)) (s.nowQ + 400), done := 0 };
       t.pin p = { s.pin p with defer := some (some
         (if s.pinStart p < s.nowQ + 400 then { r with next := max r.next (s.leadFrom p r s.nowQ) } else r)) }) ∧
      ∀ q, q ≠ (p : Nat) → t.pin q = s.pin q) ∧
  (∀ (ini : Initiator) (p : Fin 16) (s : State), s.wf = true → s.mayWrite ini (TIO.PIN_CMD p) = true → s.pinMode p = pinOutput →
    s.pinLimits p = true → s.pinStart p < s.nowQ + 400 → s.get (TIO.COUNT_PULSES p) ≠ 0 → (s.pin p).active = true →
    ∃ t, exec (.pinArm ini p) s = .next t ∧ t.pin p = { s.pin p with defer := some none } ∧ t.bit (TIO.PIN_EVENT_LATE p) = true ∧
      t.wire = s.wire ++ [.bus ini .done]) ∧
  (∀ (ini : Initiator) (p : Fin 16) (s : State), s.wf = true → s.mayWrite ini (TIO.PIN_CMD p) = true → (s.pin p).active = true →
    ∃ t, exec (.pinStop ini p) s = .next t ∧ t.pin p = { s.pin p with defer := some none } ∧ t.regs = s.regs ∧
      t.wire = s.wire ++ [.bus ini .done]) ∧
  (∀ (p : Fin 16) (r : Train) (s : State), s.wf = true → (s.pin p).train = some r → s.pinMode p = pinOutput → (s.pin p).active = false →
    s.gated = false → s.leadAt p r r.next ≤ s.nowQ →
    ∃ t, exec (.pulseLeadingEdge p) s = .next t ∧ (t.pin p).active = true ∧
      (t.pin p).trailAt = ((if s.leadAt p r r.next + 16 < s.nowQ then (s.nowQ : Int) else s.leadAt p r r.next) + r.width).toNat ∧
      t.regs = s.regs) ∧
  (∀ (p : Fin 16) (s : State), (s.pin p).active = true → exec (.pulseLeadingEdge p) s = .next s) ∧
  (∀ (p : Fin 16) (s : State), (s.pin p).active = true → s.nowQ < (s.pin p).trailAt → exec (.pulseTrailingEdge p) s = .next s) ∧
  (∀ (p : Fin 16) (r : Train) (s : State), s.wf = true → s.gated = false → (s.pin p).active = true → (s.pin p).trailAt ≤ s.nowQ →
    (s.pin p).defer = some (some r) →
    ∃ t, exec (.pulseTrailingEdge p) s = .next t ∧ (t.pin p).active = false ∧ (t.pin p).defer = none ∧
      (t.pin p).train = some { r with next := max r.next (s.leadFrom p r (s.pin p).trailAt) } ∧ t.regs = s.regs) ∧
  (∀ (p : Fin 16) (s : State), s.wf = true → s.gated = false → (s.pin p).active = true → (s.pin p).trailAt ≤ s.nowQ →
    (s.pin p).defer = some none →
    ∃ t, exec (.pulseTrailingEdge p) s = .next t ∧ (t.pin p).active = false ∧ (t.pin p).defer = none ∧ (t.pin p).train = none ∧
      t.regs = s.regs)

/-- R64. While EVT_EN is 0, the four CAP registers show the head of the FIFO, and the read of CAP_SEC_HI removes it; while EVT_EN is 1,
the FIFO feeds event frames, and the four registers read zero and remove nothing. The first three are read here by the debugger's system
bus. -/
def Obligations.CaptureRegisters : Prop :=
  (∀ (p : Fin 16) (e : Nat × Bool) (r : List (Nat × Bool)) (s : State), s.mute .jtag = false → s.bit (TIO.PIN_CFG_EVT_EN p) = false →
    (s.pin p).fifo = e :: r →
    exec (.debugSysbusAccess (BitVec.ofNat 32 (0x40000000 + TIO.CAP_INFO p)) 4 none) s =
        .next { s with wire := s.wire ++ [.bus .jtag (.data (if e.2 then 3 else 1))] } ∧
      exec (.debugSysbusAccess (BitVec.ofNat 32 (0x40000000 + TIO.CAP_NS p)) 4 none) s =
        .next { s with wire := s.wire ++ [.bus .jtag (.data (word (nsOf e.1 * 4 + qnsOf e.1)))] } ∧
      exec (.debugSysbusAccess (BitVec.ofNat 32 (0x40000000 + TIO.CAP_SEC_LO p)) 4 none) s =
        .next { s with wire := s.wire ++ [.bus .jtag (.data (word (secOf e.1)))] }) ∧
  (∀ (ini : Initiator) (p : Fin 16) (e : Nat × Bool) (r : List (Nat × Bool)) (s : State), s.wf = true →
    s.mayRead ini (TIO.CAP_SEC_HI p) = true → s.bit (TIO.PIN_CFG_EVT_EN p) = false → (s.pin p).fifo = e :: r →
    ∃ t, exec (.capSecHiRead ini p) s = .next t ∧ (t.pin p).fifo = r ∧ (∀ q, q ≠ (p : Nat) → t.pin q = s.pin q) ∧ t.regs = s.regs ∧
      t.wire = s.wire ++ [.bus ini (.data (word (secOf e.1 / 4294967296 % 65536)))]) ∧
  (∀ (p : Fin 16) (s : State), s.mute .jtag = false → s.bit (TIO.PIN_CFG_EVT_EN p) = true →
    exec (.debugSysbusAccess (BitVec.ofNat 32 (0x40000000 + TIO.CAP_INFO p)) 4 none) s =
        .next { s with wire := s.wire ++ [.bus .jtag (.data 0)] } ∧
      exec (.debugSysbusAccess (BitVec.ofNat 32 (0x40000000 + TIO.CAP_NS p)) 4 none) s =
        .next { s with wire := s.wire ++ [.bus .jtag (.data 0)] } ∧
      exec (.debugSysbusAccess (BitVec.ofNat 32 (0x40000000 + TIO.CAP_SEC_LO p)) 4 none) s =
        .next { s with wire := s.wire ++ [.bus .jtag (.data 0)] }) ∧
  (∀ (ini : Initiator) (p : Fin 16) (s : State), s.mayRead ini (TIO.CAP_SEC_HI p) = true → s.bit (TIO.PIN_CFG_EVT_EN p) = true →
    exec (.capSecHiRead ini p) s = .next { s with wire := s.wire ++ [.bus ini (.data 0)] }) ∧
  (∀ (p : Fin 16) (e : Nat × Bool) (s : State), s.wf = true → s.bit (TIO.PIN_CFG_EVT_EN p) = true → s.bit (TIO.PIN_CFG_PAIRED p) = false →
    ((s.pin p).fifo.drop (s.pin p).framed).head? = some e → e.1 + max 1 (s.get (TIO.EVT_CFG_EVT_HOLD p)) * usQ ≤ s.nowQ →
    ∃ t f, exec (.evtHoldExpiry p) s = .next t ∧ t.frames = s.frames ++ [f] ∧ f.inPort = 15 ∧ f.fid = s.nextFid ∧
      f.origin = some ((p : Nat), min (s.evtMax p) ((s.pin p).fifo.length - (s.pin p).framed)) ∧ (t.pin p).fifo = (s.pin p).fifo)

/-- R233. KEY_DATA0 to KEY_DATA9 take what the security pair writes and read as zero; the end of every command, whatever its result, clears
them: the completion of the command that runs, the immediate end of one that meets a zeroization sweep, and the end of one that a
zeroization cuts off. -/
def Obligations.KeyDataCleared : Prop :=
  (∀ (k : Fin 10) (w : Word) (s : State), s.wf = true → s.mayWrite .sec (KEY.KEY_DATA k) = true →
    ∃ t, exec (.registerWrite .sec (BitVec.ofNat 25 (KEY.KEY_DATA k)) 4 w) s = .next t ∧ t.rd (KEY.KEY_DATA k) = w ∧
      ∀ b, b ≠ KEY.KEY_DATA k → t.rd b = s.rd b) ∧
  (∀ (k : Fin 10) (s : State), s.busRead .sec (KEY.KEY_DATA k) = (.data 0, s)) ∧
  (∀ (r : KeyRun) (s : State), s.wf = true → s.key.run = some r →
    ∃ t, exec .keyCmdDone s = .next t ∧ t.key.run = none ∧
      t.get KEY.KEY_STATUS_RESULT = (if r.res = 0 ∧ 1 ≤ r.op ∧ r.op ≤ 4 ∧ 0 < s.refs r.slot then 3 else r.res % 16) ∧
      ∀ k, k < 10 → t.rd (KEY.KEY_DATA k) = 0) ∧
  (∀ (ini : Initiator) (k : BitVec 10) (c : Instr) (s : State), s.wf = true → s.mayWrite ini KEY.KEY_CMD = true →
    s.bit KEY.KEY_STATUS_BUSY = false → s.zeroizing = true →
    c ∈ [.keyWrite ini k, .keyDerive ini k, .keyUnwrap ini k, .keyErase ini k, .keyLock ini k, .keyInfo ini k] →
    ∃ t, exec c s = .next t ∧ t.get KEY.KEY_STATUS_RESULT = 7 ∧ ∀ k, k < 10 → t.rd (KEY.KEY_DATA k) = 0) ∧
  (∀ (ini : Initiator) (r : KeyRun) (w : Word) (s : State), s.wf = true → s.mayWrite ini KEY.LC_CMD = true →
    s.bit KEY.OTP_STATUS_BUSY = false → bitsOf w 31 16 = 0x4C43 → lcNext (s.get KEY.LC_STATUS_LC_STATE) = some (bitsOf w 2 0) →
    bitsOf w 2 0 ≠ 7 → s.copies = [] → s.frames = [] → s.key.run = some r →
    ∃ t, exec (.lcTransition ini w) s = .next t ∧ t.key.run = none ∧ t.get KEY.KEY_STATUS_RESULT = 7 ∧
      ∀ k, k < 10 → t.rd (KEY.KEY_DATA k) = 0)

/-- R244. Only the security pair reaches the KEY registers: it writes KEY_ATTR_IN, which reads back; to any other initiator every KEY register
reads zero, its writes and key commands change nothing but the latch of the access violation, source 25, and each such access records one. -/
def Obligations.KeysForSecurityPair : Prop :=
  (∀ (w : Word) (s : State), s.wf = true → s.mute .sec = false →
    ∃ t, exec (.registerWrite .sec (BitVec.ofNat 25 KEY.KEY_ATTR_IN) 4 w) s = .next t ∧ t.rd KEY.KEY_ATTR_IN = w ∧
      (t.busRead .sec KEY.KEY_ATTR_IN).1 = .data w ∧ ∀ b, b ≠ KEY.KEY_ATTR_IN → t.rd b = s.rd b) ∧
  (∀ (ini : Initiator) (a : BitVec 25) (w : Word) (s : State), s.wf = true → ini ≠ .sec → s.mute ini = false → a.toNat / 0x100000 = 12 →
    isMapped a.toNat = true → a.toNat % 4 = 0 →
    ∃ t, exec (.registerWrite ini a 4 w) s = .next t ∧ (t.rd FLT.FLT_DIRECT).getLsbD 25 = true ∧
      (∀ b, b ≠ FLT.FLT_DIRECT → t.rd b = s.rd b) ∧ t.key = s.key ∧ t.tabs = s.tabs ∧ t.cnts = s.cnts ∧
      t.wire = s.wire ++ [.bus ini .done]) ∧
  (∀ (ini : Initiator) (a : Nat) (s : State), s.wf = true → ini ≠ .sec → a / 0x100000 = 12 → isMapped a = true →
    ∃ t, s.busRead ini a = (.data 0, t) ∧ (t.rd FLT.FLT_DIRECT).getLsbD 25 = true ∧ (∀ b, b ≠ FLT.FLT_DIRECT → t.rd b = s.rd b) ∧
      t.key = s.key ∧ t.tabs = s.tabs ∧ t.cnts = s.cnts) ∧
  (∀ (a : Nat) (s : State), s.wf = true → s.mute .jtag = false → a / 0x100000 = 12 → isMapped a = true → a % 4 = 0 →
    ∃ t, exec (.debugSysbusAccess (BitVec.ofNat 32 (0x40000000 + a)) 4 none) s = .next t ∧ (t.rd FLT.FLT_DIRECT).getLsbD 25 = true ∧
      t.key = s.key ∧ t.cnts = s.cnts ∧ t.wire = s.wire ++ [.bus .jtag (.data 0)]) ∧
  (∀ (ini : Initiator) (k : BitVec 10) (w : Word) (c : Instr) (s : State), s.wf = true → ini ≠ .sec → s.mute ini = false →
    c ∈ [.keyWrite ini k, .keyDerive ini k, .keyUnwrap ini k, .keyErase ini k, .keyLock ini k, .keyInfo ini k, .lcTransition ini w,
      .arbAdvance ini w, .splitToggle ini w] →
    ∃ t, exec c s = .next t ∧ (t.rd FLT.FLT_DIRECT).getLsbD 25 = true ∧ (∀ b, b ≠ FLT.FLT_DIRECT → t.rd b = s.rd b) ∧
      t.key = s.key ∧ t.tabs = s.tabs ∧ t.wire = s.wire ++ [.bus ini .done])

/-- R312. MTIME increases by 1 every 500 ticks of the time base and wraps at 64 bits; no step, load or steering of working time moves it, its
divider or a comparison value; the comparison values are all ones at reset, with no timer interrupt pending. -/
def Obligations.MachineTimer : Prop :=
  (∀ s : State, s.stage ≠ 0 → s.wak.power = .active → s.pllLost 0 = false → (∀ sec, s.get (pairState sec) ≠ 2) → s.upd.run = none →
    s.cpu.sub < 499 →
    ∃ t, exec .timeTick s = .next t ∧ t.cpu = { s.cpu with sub := s.cpu.sub + 1 }) ∧
  (∀ s : State, s.stage ≠ 0 → s.wak.power = .active → s.pllLost 0 = false → (∀ sec, s.get (pairState sec) ≠ 2) → s.upd.run = none →
    s.cpu.sub = 499 →
    ∃ t, exec .timeTick s = .next t ∧ t.cpu = { s.cpu with sub := 0, mtime := (s.cpu.mtime + 1) % 2 ^ 64 }) ∧
  (∀ (ini : Initiator) (d : Fin 2) (w : Word) (c : Instr) (s : State),
    c ∈ [.wtSet ini, .wtStep ini, .wtIncrWrite ini w, .wtAdjWrite ini w, .domOffAdjWrite ini d w, .domRateAdjWrite ini d w,
      .domSetHiWrite ini d w, .alignmentComplete] →
    ∃ t, exec c s = .next t ∧ t.cpu = s.cpu) ∧
  (State.reset.cpu.mtime = 0 ∧ State.reset.cpu.mtip = 0 ∧ ∀ h, h < 3 → State.reset.cpu.cmp.getD h 0 = 2 ^ 64 - 1)

/-- From R336 and R347. A loaded image whose boot part has passed has its payload read in the background, where its length is not zero (log
entry 92); at the end of that read a match of PAYLOAD_HASH sets PAYLOAD_OK, and a mismatch sets PAYLOAD_FAIL alone: the image keeps
running. -/
def Obligations.PayloadCheck : Prop :=
  (∀ (r : ImgRec) (s : State), s.wf = true → s.stage = 3 → r = s.imgRec s.boot.src s.boot.off →
    s.recOk s.boot.src (s.bootLen s.boot.src) false r = true → r.typ = 15 →
    ∃ t, exec .recordApply s = .next t ∧ t.boot.payload = (s.payLen s.boot.src != 0) ∧ t.boot.src = s.boot.src ∧ t.stage = 4) ∧
  (∀ s : State, s.wf = true → s.stage = 4 → s.bootHashOk s.boot.src = true → s.consistent = true →
    ∃ t, exec .imageCheckDone s = .next t ∧ t.boot.payload = s.boot.payload ∧ t.boot.src = s.boot.src ∧ t.stage = stageCores) ∧
  (∀ s : State, s.wf = true → s.boot.payload = true → s.payHashOk s.boot.src = true →
    ∃ t, exec .payloadCheckDone s = .next t ∧ t.bit SYS.SYS_STATUS_PAYLOAD_OK = true ∧ t.bit SYS.SYS_EVENT_PAYLOAD_OK = true ∧
      t.boot = { s.boot with payload := false } ∧ t.stage = s.stage ∧ t.released = s.released ∧ t.mem = s.mem ∧ t.cpu = s.cpu) ∧
  (∀ s : State, s.wf = true → s.boot.payload = true → s.payHashOk s.boot.src = false →
    ∃ t, exec .payloadCheckDone s = .next t ∧ t.bit SYS.SYS_EVENT_PAYLOAD_FAIL = true ∧
      (∀ b, b ≠ SYS.SYS_EVENT → t.rd b = s.rd b) ∧ t.boot = { s.boot with payload := false } ∧ t.mem = s.mem ∧ t.cpu = s.cpu ∧
      t.tabs = s.tabs)

/-- R351. UPD_STATUS is kept per initiator: a command of one initiator, and the end of it, set that initiator's result and no other's; an OPEN
refused with BUSY is one; a read returns the reading initiator's own. -/
def Obligations.UpdateStatus : Prop :=
  (∀ (ini : Initiator) (n : Nat) (ses : BitVec 16) (mode : BitVec 2) (force : Bool) (c : Instr) (s : State), s.wf = true →
    s.mayWrite ini UPD.UPD_CMD = true → updNo ini = some n → c ∈ [.updOpen ini, .updClose ini ses, .updBegin ini ses, .updWriteBlock ini ses,
      .updVerify ini ses, .updActivate ini ses mode force, .updConfirm ini, .updRevert ini, .updRead ini] →
    ∃ t, exec c s = .next t ∧ ∀ m, m ≠ n → t.upd.results.getD m 0 = s.upd.results.getD m 0) ∧
  (∀ (ini : Initiator) (n : Nat) (s : State), s.wf = true → s.mayWrite ini UPD.UPD_CMD = true → updNo ini = some n → s.upd.run = none →
    s.upd.owner.isSome = true →
    ∃ t, exec (.updOpen ini) s = .next t ∧ t.upd = { s.upd with results := s.upd.results.set n 1 } ∧
      t.cnt UPD.BUSY_REFUSE_CNT = s.cnt UPD.BUSY_REFUSE_CNT + 1 ∧ ∀ j, j ≠ ini → t.updStatus j = s.updStatus j) ∧
  (∀ (n : Nat) (s : State), s.wf = true → s.upd.run = some (.erase n) →
    ∃ t, exec (.updEraseDone true) s = .next t ∧
      t.upd = { s.upd with run := none, results := s.upd.results.set n 0, erased := s.upd.blocks }) ∧
  (∀ (n i : Nat) (s : State), s.wf = true → s.upd.run = some (.block n i) →
    ∃ t, exec (.blockProgramDone true) s = .next t ∧ t.upd.run = none ∧ t.upd.results = s.upd.results.set n 0) ∧
  (∀ (r : UpdRun) (n : Nat) (s : State), s.wf = true → s.upd.run = some r → r.recording = some n →
    ∃ t, exec (.bankStateWriteDone false) s = .next t ∧ t.upd.run = none ∧ t.upd.results = s.upd.results.set n 12) ∧
  (∀ (ini : Initiator) (n : Nat) (s : State), updNo ini = some n →
    s.busRead ini UPD.UPD_STATUS = (.data (word ((if s.upd.run.isSome then 2147483648 else 0) + s.upd.results.getD n 0 * 16777216 +
      (if s.upd.owner = some n then s.upd.session else 0))), s))

/-- R354. The engine runs one command at a time: while one runs, a command of any initiator only sets that initiator's result to IGNORED.
CONFIRM, REVERT and READ need no session: with the engine idle, every initiator's CONFIRM and REVERT of a trial start their record write
and its READ inside the running image completes, whoever owns the session or none. -/
def Obligations.UpdateBusy : Prop :=
  (∀ (ini : Initiator) (n : Nat) (ses : BitVec 16) (mode : BitVec 2) (force : Bool) (c : Instr) (s : State),
    s.mayWrite ini UPD.UPD_CMD = true → updNo ini = some n → s.upd.run.isSome = true →
    c ∈ [.updOpen ini, .updClose ini ses, .updBegin ini ses, .updWriteBlock ini ses,
      .updVerify ini ses, .updActivate ini ses mode force, .updConfirm ini, .updRevert ini, .updRead ini] →
    exec c s = .next { s with upd := { s.upd with results := s.upd.results.set n 13 }, wire := s.wire ++ [.bus ini .done] }) ∧
  (∀ (ini : Initiator) (n : Nat) (s : State), s.wf = true → s.mayWrite ini UPD.UPD_CMD = true → updNo ini = some n → s.upd.run = none →
    s.running = 3 → s.stage = stageRun → s.runBank < 2 →
    ∃ t, exec (.updConfirm ini) s = .next t ∧ t.upd.run = some (.confirm n) ∧ t.upd.owner = s.upd.owner ∧ t.upd.results = s.upd.results ∧
      t.upd.next.named = s.boot.record.named ∧ t.upd.next.trial = false ∧ t.upd.next.state s.runBank = 4 ∧
      t.upd.next.state (1 - s.runBank) = 2 ∧ t.boot = s.boot ∧ t.regs = s.regs) ∧
  (∀ (ini : Initiator) (n : Nat) (s : State), s.wf = true → s.mayWrite ini UPD.UPD_CMD = true → updNo ini = some n → s.upd.run = none →
    s.running = 3 →
    ∃ t, exec (.updRevert ini) s = .next t ∧ t.upd.run = some (.revert n) ∧ t.upd.owner = s.upd.owner ∧ t.upd.results = s.upd.results ∧
      t.boot = s.boot ∧ t.regs = s.regs) ∧
  (∀ (ini : Initiator) (n : Nat) (s : State), s.wf = true → s.mayWrite ini UPD.UPD_CMD = true → updNo ini = some n → s.upd.run = none →
    s.boot.src ≠ .host → 4 ≤ s.get UPD.RD_LEN_BYTES → s.get UPD.RD_LEN_BYTES ≤ 4096 → s.get UPD.RD_LEN_BYTES % 4 = 0 →
    (s.rd UPD.RD_OFF).toNat % 4 = 0 →
    (s.rd UPD.RD_OFF).toNat + s.get UPD.RD_LEN_BYTES ≤ s.bootLen (.bank s.runBank) + s.payLen (.bank s.runBank) →
    ∃ t, exec (.updRead ini) s = .next t ∧ t.boot = s.boot ∧ t.upd = { s.upd with
        results := s.upd.results.set n 0, cmdAt := if s.upd.owner = some n then s.tim.ticks else s.upd.cmdAt } ∧
      (∀ k, k < s.get UPD.RD_LEN_BYTES / 4 → t.rd (UPD.UPD_RDATA k) = s.imgWord (.bank s.runBank) ((s.rd UPD.RD_OFF).toNat + 4 * k)) ∧
      ∀ b, (∀ k, k < s.get UPD.RD_LEN_BYTES / 4 → b ≠ UPD.UPD_RDATA k) → t.rd b = s.rd b)

/-- R365. REVERT of a bank in TRIAL starts the write of a record with NAMED the other bank, TRIAL 0 and the running bank REJECTED; any other
REVERT returns BAD_STATE. The write's end puts the record in force and sets REVERTED, and what runs goes on; a boot takes the bank that the
record in force names; software's WARM_RESET begins one. -/
def Obligations.RevertOfTrial : Prop :=
  (∀ (ini : Initiator) (n : Nat) (s : State), s.wf = true → s.mayWrite ini UPD.UPD_CMD = true → updNo ini = some n → s.upd.run = none →
    s.running = 3 → s.runBank < 2 →
    ∃ t, exec (.updRevert ini) s = .next t ∧ t.upd.run = some (.revert n) ∧ t.upd.next.named = 1 - s.runBank ∧ t.upd.next.trial = false ∧
      t.upd.next.state s.runBank = 5 ∧ t.upd.next.state (1 - s.runBank) = s.boot.record.state (1 - s.runBank) ∧
      t.upd.next.hash s.runBank = List.replicate 8 0 ∧ t.upd.next.hash (1 - s.runBank) = s.boot.record.hash (1 - s.runBank) ∧
      t.upd.next.seq = (s.boot.record.seq + 1) % 4294967296) ∧
  (∀ (ini : Initiator) (n : Nat) (s : State), s.wf = true → s.mayWrite ini UPD.UPD_CMD = true → updNo ini = some n → s.upd.run = none →
    s.running ≠ 3 →
    exec (.updRevert ini) s = .next { s with upd := { s.upd with results := s.upd.results.set n 3 }, wire := s.wire ++ [.bus ini .done] }) ∧
  (∀ (n : Nat) (s : State), s.wf = true → s.upd.run = some (.revert n) →
    ∃ t, exec (.bankStateWriteDone true) s = .next t ∧ t.boot.record = s.upd.next ∧ t.boot.copy = some s.otherCopy ∧
      t.upd = { s.upd with run := none, results := s.upd.results.set n 0 } ∧ t.bit UPD.UPD_EVENT_REVERTED = true ∧
      (∀ b, b ≠ UPD.UPD_EVENT → t.rd b = s.rd b) ∧ t.boot.src = s.boot.src ∧ t.mem = s.mem ∧ t.cpu = s.cpu ∧ t.tabs = s.tabs) ∧
  (∀ (density : Nat) (r : BankRec) (s : State), s.wf = true → s.stage = 1 → s.bootMode ≠ 2 → s.bootMode ≠ 3 → 0x1000000 ≤ density →
    density ≤ 0x10000000 → r = (recordOf (s.copyOf 0) (s.copyOf 1) (s.copyErased 0 && s.copyErased 1)).1 → r.trial = false →
    ∃ t, exec (.flashStageDone true density) s = .next t ∧ t.boot.src = .bank r.named ∧ t.boot.record = r ∧ t.stage = 2) ∧
  (∀ s : State, s.wf = true → s.mayWrite .hart0 SYS.SYS_CMD = true → s.upd.run = none → s.key.otp = none →
    ∃ t, exec (.warmReset .hart0 0x5953) s = .next t ∧ t.stage = 1 ∧ t.released = false ∧ t.boot.flash = s.boot.flash)

/-- R394. Every register pair whose low-word read latches a high word keeps its holding register per initiator: the counters, DOM_OFF, MTIME,
AO_TIME and LA_CTR. A low-word read latches for its own initiator alone, so another's high-word read returns what it returned before; the
counter is cleared by whichever low-word read comes first, and the next returns zero. -/
def Obligations.HoldingRegisters : Prop :=
  (∀ (i : Initiator) (a : BitVec 25) (v : DWord) (s : State), s.wf = true → (cntAt a.toNat).isSome = true → s.mayRead i a.toNat = true →
    v = (s.cntReady a.toNat).cnt a.toNat →
    ∃ t, exec (.counterLowRead i a) s = .next t ∧ t.cnt a.toNat = 0 ∧ (t.bump a.toNat).cnt a.toNat = 1 ∧
      t.held i a.toNat = word (v.toNat / 4294967296) ∧ t.wire = s.wire ++ [.bus i (.data (word v.toNat))] ∧
      (∀ j b, j ≠ i → t.held j b = s.held j b) ∧ ∀ b, b ≠ a.toNat → t.cnt b = s.cnt b ∧ t.held i b = s.held i b) ∧
  (∀ (i j : Initiator) (a : BitVec 25) (s : State), s.wf = true → (cntAt a.toNat).isSome = true → s.mayRead i a.toNat = true →
    s.mayRead j a.toNat = true →
    ∃ t u, exec (.counterLowRead i a) s = .next t ∧ exec (.counterLowRead j a) t = .next u ∧
      u.wire = t.wire ++ [.bus j (.data 0)] ∧ u.held j a.toNat = 0) ∧
  (∀ (i : Initiator) (a : BitVec 25) (v : Nat) (s : State), s.wf = true → s.pairValue a.toNat = some v → s.mayRead i a.toNat = true →
    ∃ t, exec (.holdingLowRead i a) s = .next t ∧ t = { s with hold := t.hold, wire := s.wire ++ [.bus i (.data (word v))] } ∧
      t.held i a.toNat = word (v / 4294967296) ∧ (∀ j b, j ≠ i → t.held j b = s.held j b) ∧
      ∀ b, b ≠ a.toNat → t.held i b = s.held i b) ∧
  (∀ (i : Initiator) (a : BitVec 25) (s : State), (cntAt a.toNat).isSome = true → s.mayRead i (a.toNat + 4) = true →
    s.busRead i (a.toNat + 4) = (.data (s.held i a.toNat), s)) ∧
  (∀ (i : Initiator) (d : Fin 2) (s : State), s.busRead i (TIM.DOM_OFF_HI d) = (.data (s.held i (TIM.DOM_OFF_LO d)), s) ∧
    s.busRead i CPU.MTIME_HI = (.data (s.held i CPU.MTIME_LO), s) ∧ s.busRead i WAK.AO_TIME_HI = (.data (s.held i WAK.AO_TIME_LO), s)) ∧
  (∀ (i : Initiator) (c : Fin 16) (s : State), s.mayRead i (CPH.LA_CTR_HI c) = true →
    s.busRead i (CPH.LA_CTR_HI c) = (.data (s.held i (CPH.LA_CTR_LO c)), s)) ∧
  (∀ (d : Fin 2) (c : Fin 16) (s : State), s.pairValue (TIM.DOM_OFF_LO d) = some (BitVec.ofInt 64 (s.dom d).off16).toNat ∧
    s.pairValue CPU.MTIME_LO = some s.cpu.mtime ∧ s.pairValue WAK.AO_TIME_LO = some s.wak.ao ∧
    s.pairValue (CPH.LA_CTR_LO c) = some (s.laCtr c))

/-- Start-up: stage FLASH goes to HALT or HOST_WAIT as BOOT_MODE says, and fails without a usable flash (R332, R333); an image that passes
stage AUTH is shown and goes to CONFIG, one that fails there ends in the other bank or in FAIL (R335, R338); records are applied one by one,
and END ends the stage (R339, R340); stage CHECK starts the cores, whose boot ROM jumps to FW_ENTRY (R342, R345; at once, log entry 151); a
host may LOAD in FAIL, the image being read at HOST_IMG (R343; what the read returned is the command's operand, log entry 154). -/
def Obligations.StartUpLoad : Prop :=
  (∀ (octal : Bool) (density : Nat) (s : State), s.wf = true → s.stage = 1 → s.bootMode = 3 →
    ∃ t, exec (.flashStageDone octal density) s = .next t ∧ t.stage = 9 ∧ t.get (pairState false) = 3 ∧ t.get (pairState true) = 3 ∧
      t.released = s.released) ∧
  (∀ (octal : Bool) (density : Nat) (s : State), s.wf = true → s.stage = 1 → s.bootMode = 2 →
    ∃ t, exec (.flashStageDone octal density) s = .next t ∧ t.stage = stageHostWait ∧ t.cpu = s.cpu) ∧
  (∀ (octal : Bool) (density : Nat) (s : State), s.wf = true → s.stage = 1 → s.bootMode ≠ 2 → s.bootMode ≠ 3 →
    octal = false ∨ density < 0x1000000 ∨ 0x10000000 < density →
    ∃ t, exec (.flashStageDone octal density) s = .next t ∧ t.stage = stageFail ∧ t.rd SYS.BOOT_ERR_A = 0x10000000 ∧
      t.rd SYS.BOOT_ERR_B = 0x10000000 ∧ t.bit SYS.SYS_EVENT_BOOT_FAIL = true ∧ t.bit FLT.FLT_STATUS_ALARM = true) ∧
  (∀ s : State, s.wf = true → s.stage = 2 →
    ∃ t, exec .imageAuthDone s = .next t ∧
      (s.badAuth s.boot.src = none →
        t.stage = 3 ∧ t.get SYS.SEC_VER_VER = s.imgSecVer s.boot.src ∧
        t.get SYS.RELEASE_WAIT_MS = bitsOf (s.imgWord s.boot.src 20) 31 16 ∧ t.rd SYS.IMG_ID = s.imgWord s.boot.src 24 ∧
        t.bit SYS.SYS_STATUS_FROM_HOST = (s.boot.src == .host) ∧ t.boot = s.boot ∧
        ∀ k, k < 8 → t.rd (SYS.IMG_HASH k) = (octetWords 8 (sha (s.imgBytes s.boot.src 0 256))).getD k 0) ∧
      ∀ c o, s.badAuth s.boot.src = some (c, o) →
        t.rd (bootErr s.boot.src) = word (c * 268435456 + o % 268435456) ∧ t.mem = []) ∧
  (∀ (c o : Nat) (s : State), s.wf = true → s.stage = 2 → s.boot.src = .host → s.badAuth .host = some (c, o) →
    ∃ t, exec .imageAuthDone s = .next t ∧ t.stage = stageFail ∧ t.rd SYS.BOOT_ERR_B = word (c * 268435456 + o % 268435456) ∧
      t.bit SYS.SYS_EVENT_BOOT_FAIL = true ∧ t.mem = []) ∧
  (∀ (b : Fin 2) (c o : Nat) (s : State), s.wf = true → s.stage = 2 → s.boot.src = .bank b → s.badAuth (.bank b) = some (c, o) →
    s.boot.trial = false → s.boot.second = false →
    ∃ t, exec .imageAuthDone s = .next t ∧ t.stage = 2 ∧ t.boot.src = .bank (1 - b.val) ∧ t.boot.second = true ∧ t.boot.off = 256 ∧
      t.rd (bootErr (.bank b)) = word (c * 268435456 + o % 268435456) ∧ t.rd (bootErr (.bank (1 - b.val))) = 0 ∧
      t.bit SYS.SYS_EVENT_FALLBACK = true) ∧
  (∀ (r : ImgRec) (s : State), s.wf = true → s.stage = 3 → r = s.imgRec s.boot.src s.boot.off →
    s.recOk s.boot.src (s.bootLen s.boot.src) false r = true → r.typ = 14 →
    ∃ t, exec .recordApply s = .next t ∧ t.boot.off = s.boot.off + 16 + r.len ∧ t.regs = s.regs ∧ t.mem = s.mem ∧ t.tabs = s.tabs) ∧
  (∀ (r : ImgRec) (s : State), s.wf = true → s.stage = 3 → r = s.imgRec s.boot.src s.boot.off →
    s.recOk s.boot.src (s.bootLen s.boot.src) false r = true → r.typ = 3 ∨ r.typ = 4 →
    ∃ t, exec .recordApply s = .next t ∧ t.boot.off = s.boot.off + 16 + r.len ∧ t.regs = s.regs ∧ t.tabs = s.tabs ∧
      t.mem = (s.memStore (bitsOf r.arg 31 31) ((if r.typ = 4 then 0x10000000 else 0) + bitsOf r.arg 19 0) (s.recBody s.boot.src r)).mem) ∧
  (∀ (r : ImgRec) (s : State), s.wf = true → s.stage = 3 → r = s.imgRec s.boot.src s.boot.off →
    s.recOk s.boot.src (s.bootLen s.boot.src) false r = true → r.typ = 15 →
    ∃ t, exec .recordApply s = .next t ∧ t.stage = 4 ∧ t.mem = s.mem ∧ t.tabs = s.tabs) ∧
  (∀ (r : ImgRec) (s : State), s.wf = true → s.stage = 3 → s.boot.src = .host → r = s.imgRec .host s.boot.off →
    s.recOk .host (s.bootLen .host) false r = false →
    ∃ t, exec .recordApply s = .next t ∧ t.stage = stageFail ∧ t.rd SYS.BOOT_ERR_B = word (7 * 268435456 + s.boot.off % 268435456) ∧ t.mem = []) ∧
  (∀ s : State, s.wf = true → s.stage = 4 → s.bootHashOk s.boot.src = true → s.consistent = true → s.cpu.pcs.length = 3 →
    ∃ t, exec .imageCheckDone s = .next t ∧ t.stage = stageCores ∧ t.released = s.released ∧ t.get (pairState false) = 0 ∧
      t.get (pairState true) = 0 ∧ t.mem = s.mem ∧
      (let e := fun sec => if s.atRom sec = true then s.fwEntry sec else s.restartVec sec;
       t.cpu.pcs = [e false, e false, e true])) ∧
  (∀ (d : Bytes) (s : State), s.wf = true → s.mayWrite .host SYS.SYS_CMD = true → s.stage = stageFail →
    ∃ t, exec (.sysLoad .host (some d)) s = .next t ∧ t.stage = 2 ∧ t.boot.src = .host ∧ t.boot.host = d ∧ t.boot.off = 256 ∧
      t.rd SYS.BOOT_ERR_B = 0 ∧
      .dmaRead ((s.rd SYS.HOST_IMG_HI).toNat * 4294967296 + (s.rd SYS.HOST_IMG_LO).toNat / 4096 * 4096) d.length ∈ t.wire) ∧
  (∀ s : State, s.wf = true → s.mayWrite .host SYS.SYS_CMD = true → s.stage = stageFail →
    ∃ t, exec (.sysLoad .host none) s = .next t ∧ t.stage = stageFail ∧ t.rd SYS.BOOT_ERR_B = 0xB0000000 ∧
      t.bit SYS.SYS_EVENT_BOOT_FAIL = true ∧ t.boot = s.boot) ∧
  (∀ (d : Option Bytes) (s : State), s.mayWrite .host SYS.SYS_CMD = true → s.stage = stageRun →
    exec (.sysLoad .host d) s = .next { s with wire := s.wire ++ [.bus .host .done] })

/-- Resets, release and code reloads: a cold reset samples the straps, takes the claim to rank 0 and epoch 0 and keeps the flash and the OTP
cells (R330, R331); WARM_RESET with its CONFIRM begins at stage FLASH and keeps the epoch (R330, R343); that the memories, tables and frames
are empty at once at a cold reset, and what a warm reset keeps, are the model's choices (log entries 8, 10, 94); RELEASE and RELEASE_WAIT
release the data path in one tick from stage CORES alone (R9, R345); a reload of a pair's code that passes restarts the pair at its
FW_ENTRY, one that fails holds it, and a reload that waited for it begins (R348; log entry 151). -/
def Obligations.ReleaseAndResets : Prop :=
  (∀ (id : Bool) (mode : BitVec 2) (s : State), s.wf = true → s.upd.run = none → s.key.otp = none →
    ∃ t, exec (.coldReset id mode) s = .next t ∧ t.stage = 0 ∧ t.released = false ∧ t.bit SYS.SYS_STRAP_PAIR_ID = id ∧
      t.get SYS.SYS_STRAP_BOOT_MODE = mode.toNat ∧ t.get TWP.CLAIM_STATUS_OWN = mkClaim 0 0 (if id then 1 else 0) ∧ t.frames = [] ∧
      t.copies = [] ∧ t.mem = [] ∧ t.tabs = [] ∧ t.boot.flash = s.boot.flash ∧ t.key.lc = s.key.lc ∧ t.key.arb = s.key.arb ∧
      t.key.split = s.key.split) ∧
  (∀ (ini : Initiator) (s : State), s.wf = true → s.mayWrite ini SYS.SYS_CMD = true → ini = .hart0 ∨ ini = .hart1 ∨ ini = .host →
    s.stage = stageRun → s.upd.run = none → s.key.otp = none → s.pairEn = true →
    ∃ t, exec (.warmReset ini 0x5953) s = .next t ∧ t.stage = 1 ∧ t.released = false ∧ t.frames = [] ∧ t.copies = [] ∧ t.mem = s.mem ∧
      t.boot.flash = s.boot.flash ∧ t.get TWP.CLAIM_STATUS_OWN = mkClaim 0 (claimEpoch s.ownClaim) s.pairId ∧
      t.get KEY.LC_STATUS_LC_STATE = s.get KEY.LC_STATUS_LC_STATE) ∧
  (∀ (ini : Initiator) (c : BitVec 16) (s : State), s.mayWrite ini SYS.SYS_CMD = true → s.stage = stageRun → c ≠ 0x5953 →
    exec (.warmReset ini c) s = .next { s with wire := s.wire ++ [.bus ini .done] }) ∧
  (∀ (ini : Initiator) (s : State), s.wf = true → s.mayWrite ini SYS.SYS_CMD = true → s.stage = stageCores →
    (s.bootMode = 1 ∧ ini = .host) ∨ (s.bootMode ≠ 1 ∧ (ini = .hart0 ∨ ini = .hart1)) →
    ∃ t, exec (.sysRelease ini) s = .next t ∧ t.stage = stageRun ∧ t.released = true ∧ t.bit SYS.SYS_EVENT_RELEASED = true ∧
      t.twp.relAt = s.nowQ ∧ (s.pairEn = true → t.ownClaim = mkClaim 4 (claimEpoch s.ownClaim) s.pairId)) ∧
  (∀ (ini : Initiator) (s : State), s.mayWrite ini SYS.SYS_CMD = true → ini = .hart0 ∨ ini = .hart1 → s.stage ≠ stageCores →
    exec (.sysRelease ini) s = .next { s with wire := s.wire ++ [.bus ini .done] }) ∧
  (∀ s : State, s.wf = true → s.stage = stageCores → s.bootMode ≠ 1 → s.get SYS.RELEASE_WAIT_MS ≠ 0 →
    s.boot.coresAt + s.get SYS.RELEASE_WAIT_MS * 500000 ≤ s.tim.ticks →
    ∃ t, exec .releaseWaitExpiry s = .next t ∧ t.stage = stageRun ∧ t.released = true ∧ t.bit SYS.SYS_EVENT_RELEASED = true ∧
      t.twp.relAt = s.nowQ) ∧
  (∀ (ini : Initiator) (s : State), s.mayWrite ini SYS.SYS_CMD = true → s.stage = stageRun → s.boot.reload = none →
    exec (.reloadCtrl ini) s =
        .next { s with boot := { s.boot with reload := some false }, wire := s.wire ++ [.bus ini .done] } ∧
      exec (.reloadSec ini) s =
        .next { s with boot := { s.boot with reload := some true }, wire := s.wire ++ [.bus ini .done] }) ∧
  (∀ (sec : Bool) (b : Fin 2) (image : Option Bytes) (rs : List ImgRec) (s : State), s.wf = true → s.boot.reload = some sec →
    s.boot.src = .bank b → rs = s.pairRecs (.bank b) (if sec then 1 else 0) false → s.recsOk (.bank b) rs = true →
    s.codeHash (.bank b) rs (if sec then 1 else 0) = (if sec then s.boot.hash1 else s.boot.hash0) → s.cpu.pcs.length = 3 →
    ∃ t, exec (.codeReloadDone image) s = .next t ∧ t.boot.reload = s.boot.reloadNext ∧ t.mem = (s.loadRams (.bank b) rs).mem ∧
      t.bit SYS.SYS_EVENT_CODE_RELOAD = true ∧ t.get (pairState sec) = s.get (pairState sec) ∧
      ∀ h, h < 3 → t.cpu.pcs.getD h 0 = if (pairHarts sec).contains h then s.fwEntry sec else s.cpu.pcs.getD h 0) ∧
  (∀ (sec : Bool) (s : State), s.wf = true → s.boot.reload = some sec → s.boot.src = .host →
    ∃ t, exec (.codeReloadDone none) s = .next t ∧ t.boot.reload = s.boot.reloadNext ∧ t.mem = s.mem ∧ t.cpu = s.cpu ∧ t.get (pairState sec) = 4 ∧
      t.bit SYS.SYS_EVENT_CODE_RELOAD_FAIL = true)

/-- Download of an image: OPEN grants the lock with a new SESSION, CLOSE and the timeout end it, a command without it changes nothing (R352,
R353); BEGIN marks the target INCOMPLETE and erases it (R355); WRITE_BLOCK programs a block whose CRC fits (R356), once after each erase: one
that no BEGIN has erased counts as written, log entry 153; VERIFY reads the whole bank and records its verdict (R357, R360). -/
def Obligations.UpdateDownload : Prop :=
  (∀ (ini : Initiator) (n : Nat) (s : State), s.mayWrite ini UPD.UPD_CMD = true → updNo ini = some n → s.upd.run = none → s.upd.owner = none →
    exec (.updOpen ini) s = .next { s with
      upd := { s.upd with owner := some n, results := s.upd.results.set n 0, cmdAt := s.tim.ticks,
                          session := if (s.upd.session + 1) % 65536 = 0 then 1 else (s.upd.session + 1) % 65536 },
      wire := s.wire ++ [.bus ini .done] }) ∧
  (∀ (ini : Initiator) (n : Nat) (ses : BitVec 16) (s : State), s.mayWrite ini UPD.UPD_CMD = true → updNo ini = some n → s.upd.run = none →
    s.upd.owner = some n → s.upd.session = ses.toNat →
    exec (.updClose ini ses) s =
      .next { s with upd := { s.upd with owner := none, results := s.upd.results.set n 0 },
                     wire := s.wire ++ [.bus ini .done] }) ∧
  (∀ (ini : Initiator) (n : Nat) (ses : BitVec 16) (mode : BitVec 2) (force : Bool) (c : Instr) (s : State),
    s.mayWrite ini UPD.UPD_CMD = true → updNo ini = some n → s.upd.run = none → s.upd.owner ≠ some n ∨ s.upd.session ≠ ses.toNat →
    c ∈ [.updClose ini ses, .updBegin ini ses, .updWriteBlock ini ses, .updVerify ini ses, .updActivate ini ses mode force] →
    exec c s = .next { s with upd := { s.upd with results := s.upd.results.set n 2 }, wire := s.wire ++ [.bus ini .done] }) ∧
  (∀ s : State, s.wf = true → s.upd.owner.isSome = true →
    s.upd.cmdAt + max 1 (s.get UPD.UPD_SESS_TIMEOUT_S) * 500000000 ≤ s.tim.ticks →
    ∃ t, exec .updSessionTimeout s = .next t ∧ t.upd = { s.upd with owner := none } ∧ t.bit UPD.UPD_EVENT_SESS_TIMEOUT = true ∧
      t.boot = s.boot) ∧
  (∀ (ini : Initiator) (n : Nat) (ses : BitVec 16) (s : State), s.wf = true → s.mayWrite ini UPD.UPD_CMD = true → updNo ini = some n →
    s.upd.run = none → s.upd.owner = some n → s.upd.session = ses.toNat → s.running ≠ 3 → s.runBank < 2 →
    0 < s.get UPD.IMG_BLOCKS_BLOCKS → s.get UPD.IMG_BLOCKS_BLOCKS ≤ s.boot.bankSize / 4096 →
    ∃ t, exec (.updBegin ini ses) s = .next t ∧ t.upd.run = some (.begin_ n) ∧ t.upd.next.state s.target = 1 ∧
      t.upd.next.hash s.target = List.replicate 8 0 ∧ t.upd.next.named = s.boot.record.named ∧ t.upd.map = s.upd.map ∧
      t.upd.blocks = s.get UPD.IMG_BLOCKS_BLOCKS ∧ t.regs = s.regs ∧ t.boot = s.boot ∧ t.upd.owner = some n ∧ t.upd.cmdAt = s.tim.ticks) ∧
  (∀ (ini : Initiator) (n : Nat) (ses : BitVec 16) (s : State), s.mayWrite ini UPD.UPD_CMD = true → updNo ini = some n →
    s.upd.run = none → s.upd.owner = some n → s.upd.session = ses.toNat → s.running = 3 →
    exec (.updBegin ini ses) s =
      .next { s with upd := { s.upd with results := s.upd.results.set n 11 }, wire := s.wire ++ [.bus ini .done] }) ∧
  (∀ (n : Nat) (s : State), s.wf = true → s.upd.run = some (.begin_ n) →
    ∃ t, exec (.bankStateWriteDone true) s = .next t ∧ t.boot.record = s.upd.next ∧
      t.upd = { s.upd with run := some (.erase n), map := [], erased := 0 } ∧ t.get UPD.BLK_DONE_COUNT = 0 ∧
      (∀ b, b ≠ UPD.BLK_DONE_COUNT.addr → t.rd b = s.rd b) ∧ t.mem = s.mem) ∧
  (∀ (n : Nat) (s : State), s.wf = true → s.upd.run = some (.erase n) →
    ∃ t, exec (.updEraseDone true) s = .next t ∧
      (∀ a, s.bankBase s.target ≤ a → a < s.bankBase s.target + 4096 * s.upd.blocks → t.flashByte a = 0xFF) ∧
      (∀ a, a < s.bankBase s.target ∨ s.bankBase s.target + 4096 * s.upd.blocks ≤ a → t.flashByte a = s.flashByte a) ∧ t.regs = s.regs ∧
      t.upd.erased = s.upd.blocks) ∧
  (∀ (ini : Initiator) (n i : Nat) (ses : BitVec 16) (s : State), s.wf = true → s.mayWrite ini UPD.UPD_CMD = true → updNo ini = some n →
    s.upd.run = none → s.upd.owner = some n → s.upd.session = ses.toNat → s.get UPD.BLK_INDEX_INDEX = i → 0 < i →
    i < s.get UPD.IMG_BLOCKS_BLOCKS → i < s.upd.erased → s.upd.map.contains i = false → imgCrc s.blockData = s.rd UPD.BLK_CRC →
    ∃ t, exec (.updWriteBlock ini ses) s = .next t ∧ t.upd = { s.upd with run := some (.block n i), data := s.blockData, cmdAt := s.tim.ticks } ∧
      (∀ k, k < 1024 → t.rd (UPD.UPD_DATA k) = 0) ∧ t.boot = s.boot) ∧
  (∀ (ini : Initiator) (n i : Nat) (ses : BitVec 16) (s : State), s.wf = true → s.mayWrite ini UPD.UPD_CMD = true → updNo ini = some n →
    s.upd.run = none → s.upd.owner = some n → s.upd.session = ses.toNat → s.get UPD.BLK_INDEX_INDEX = i →
    i < s.get UPD.IMG_BLOCKS_BLOCKS → i < s.upd.erased → s.upd.map.contains i = false → imgCrc s.blockData ≠ s.rd UPD.BLK_CRC →
    ∃ t, exec (.updWriteBlock ini ses) s = .next t ∧ t.upd = { s.upd with results := s.upd.results.set n 4, cmdAt := s.tim.ticks } ∧
      t.cnt UPD.BLK_CRC_CNT = s.cnt UPD.BLK_CRC_CNT + 1 ∧ t.boot = s.boot) ∧
  (∀ (ini : Initiator) (n i : Nat) (ses : BitVec 16) (s : State), s.wf = true → s.mayWrite ini UPD.UPD_CMD = true → updNo ini = some n →
    s.upd.run = none → s.upd.owner = some n → s.upd.session = ses.toNat → s.get UPD.BLK_INDEX_INDEX = i →
    i < s.get UPD.IMG_BLOCKS_BLOCKS → s.upd.erased ≤ i ∨ s.upd.map.contains i = true →
    ∃ t, exec (.updWriteBlock ini ses) s = .next t ∧ t.upd = { s.upd with results := s.upd.results.set n 5, cmdAt := s.tim.ticks } ∧
      t.boot = s.boot ∧ t.cnts = s.cnts) ∧
  (∀ (n i : Nat) (s : State), s.wf = true → s.upd.run = some (.block n i) → s.get UPD.BLK_DONE_COUNT < 32767 →
    ∃ t, exec (.blockProgramDone true) s = .next t ∧ t.upd.map = i :: s.upd.map ∧ t.upd.run = none ∧
      t.get UPD.BLK_DONE_COUNT = s.get UPD.BLK_DONE_COUNT + 1 ∧ t.cnt UPD.BLK_OK_CNT = s.cnt UPD.BLK_OK_CNT + 1 ∧
      (∀ k, k < s.upd.data.length → t.flashByte (s.bankBase s.target + 4096 * i + k) = s.upd.data.getD k 0) ∧
      ∀ a, a < s.bankBase s.target + 4096 * i ∨ s.bankBase s.target + 4096 * i + s.upd.data.length ≤ a → t.flashByte a = s.flashByte a) ∧
  (∀ (ini : Initiator) (n : Nat) (ses : BitVec 16) (s : State), s.mayWrite ini UPD.UPD_CMD = true → updNo ini = some n → s.upd.run = none →
    s.upd.owner = some n → s.upd.session = ses.toNat →
    exec (.updVerify ini ses) s = .next { s with
      upd := (if s.get UPD.BLK_DONE_COUNT = s.get UPD.IMG_BLOCKS_BLOCKS then { s.upd with run := some (.verify n), cmdAt := s.tim.ticks }
        else { s.upd with results := s.upd.results.set n 3 }), wire := s.wire ++ [.bus ini .done] }) ∧
  (∀ (n c o : Nat) (s : State), s.wf = true → s.upd.run = some (.verify n) → s.badImage (.bank s.target) = some (c, o) → s.runBank < 2 →
    ∃ t, exec .updVerifyDone s = .next t ∧ t.rd UPD.UPD_VERIFY_ERR = word (c * 268435456 + o % 268435456) ∧
      t.upd.run = some (.verified n (some (c, o))) ∧ t.upd.next.state s.target = 5 ∧
      t.upd.next.hash s.target = List.replicate 8 0 ∧ t.boot = s.boot) ∧
  (∀ (n : Nat) (s : State), s.wf = true → s.upd.run = some (.verify n) → s.runBank < 2 →
    ∃ t, exec .updVerifyDone s = .next t ∧ t.boot = s.boot ∧ t.mem = s.mem ∧ t.tabs = s.tabs ∧
      (s.badImage (.bank s.target) = none →
        t.rd UPD.UPD_VERIFY_ERR = 0 ∧ t.upd.run = some (.verified n none) ∧ t.upd.next.state s.target = 2)) ∧
  (∀ (n : Nat) (s : State), s.wf = true → s.upd.run = some (.verified n none) →
    ∃ t, exec (.bankStateWriteDone true) s = .next t ∧ t.boot.record = s.upd.next ∧ t.bit UPD.UPD_EVENT_VERIFIED = true ∧
      t.upd = { s.upd with run := none, results := s.upd.results.set n 0 })

/-- Activation and confirmation: ACTIVATE (updActivate) completes and ends the session: it names the target on trial, or the first check
that fails (R353, R361); its third clause says so from the checks of R361 themselves. After the record a REBOOT is a warm reset, and a LIVE
activation holds the control pair in reset; then LIVE_ACTIVATION_DONE (liveActivationDone) completes in every such state (its third clause):
it loads the control pair alone and restarts it at FW_ENTRY_CTRL, or puts the running bank's records back (R361, R362); a pair that has
given up stays so (R307, log entry 141). CONFIRM sets
CONFIRMED when both of its writes are done (R364). -/
def Obligations.UpdateActivation : Prop :=
  (∀ (ini : Initiator) (n : Nat) (ses : BitVec 16) (mode : BitVec 2) (force : Bool) (s : State), s.wf = true →
    s.mayWrite ini UPD.UPD_CMD = true → updNo ini = some n → s.upd.run = none → s.upd.owner = some n → s.upd.session = ses.toNat →
    s.activateRefusal mode.toNat force = none → s.runBank < 2 →
    ∃ t, exec (.updActivate ini ses mode force) s = .next t ∧ t.upd.run = some (.activate n (mode == 1)) ∧ t.upd.owner = none ∧
      t.upd.next.named = s.target ∧ t.upd.next.trial = true ∧ t.upd.next.tries = (if mode = 1 then 1 else 0) ∧
      t.upd.next.state s.target = 3 ∧ t.cnt UPD.ACTIVATE_CNT = s.cnt UPD.ACTIVATE_CNT + 1 ∧ t.boot = s.boot ∧ t.regs = s.regs) ∧
  (∀ (ini : Initiator) (n v : Nat) (ses : BitVec 16) (mode : BitVec 2) (force : Bool) (s : State), s.wf = true →
    s.mayWrite ini UPD.UPD_CMD = true → updNo ini = some n → s.upd.run = none → s.upd.owner = some n → s.upd.session = ses.toNat →
    s.activateRefusal mode.toNat force = some v →
    ∃ t, exec (.updActivate ini ses mode force) s = .next t ∧
      t.upd = { s.upd with owner := none, results := s.upd.results.set n v } ∧ t.boot = s.boot ∧ t.cnts = s.cnts ∧
      ∀ b, b ≠ UPD.UPD_VERIFY_ERR → t.rd b = s.rd b) ∧
  (∀ (ini : Initiator) (n : Nat) (ses : BitVec 16) (mode : BitVec 2) (force : Bool) (s : State), s.wf = true →
    s.mayWrite ini UPD.UPD_CMD = true → updNo ini = some n → s.upd.run = none → s.upd.owner = some n → s.upd.session = ses.toNat →
    s.runBank < 2 → mode = 1 ∨ mode = 2 → s.boot.record.state s.target = 2 → s.get KEY.OTP_ARB_VALUE ≤ s.imgSecVer (.bank s.target) →
    (s.pairEn = false ∨ claimRank s.ownClaim ≠ 8 ∨ s.bit TWP.PAIR_STATUS_PEER_PRESENT = false ∨ force = true) →
    (mode = 1 → s.cfgHash (.bank s.target) ((s.bootRecs (.bank s.target)).toOption.getD []) = s.boot.cfg) →
    ∃ t, exec (.updActivate ini ses mode force) s = .next t ∧ t.upd.run = some (.activate n (mode == 1)) ∧ t.upd.owner = none ∧
      t.upd.results = s.upd.results ∧ t.upd.next.named = s.target ∧ t.upd.next.trial = true ∧ t.upd.next.state s.target = 3 ∧
      t.wire = s.wire ++ [.bus ini .done]) ∧
  (∀ (n : Nat) (s : State), s.wf = true → s.upd.run = some (.activate n true) → s.pairWaits false = false →
    ∃ t, exec (.bankStateWriteDone true) s = .next t ∧ t.boot.record = s.upd.next ∧ t.upd.run = some (.live n) ∧
      t.get (pairState false) = (if s.get (pairState false) = 4 then 4 else 3) ∧ t.get (pairState true) = s.get (pairState true) ∧ t.stage = s.stage ∧ t.tabs = s.tabs) ∧
  (∀ (n : Nat) (s : State), s.wf = true → s.upd.run = some (.activate n false) → s.key.otp = none →
    ∃ t, exec (.bankStateWriteDone true) s = .next t ∧ t.boot.record = s.upd.next ∧ t.stage = 1 ∧ t.released = false ∧ t.frames = [] ∧
      t.mem = s.mem) ∧
  (∀ (n : Nat) (rs : List ImgRec) (s : State), s.wf = true → s.upd.run = some (.live n) → rs = s.pairRecs (.bank s.target) 0 true →
    s.get (pairState false) = 3 → s.recsOk (.bank s.target) rs = true → s.cpu.pcs.length = 3 →
    ∃ t, exec .liveActivationDone s = .next t ∧ t.boot.src = .bank s.target ∧ t.boot.hash0 = s.codeHash (.bank s.target) rs 0 ∧
      t.mem = (s.loadRams (.bank s.target) rs).mem ∧ t.bit UPD.UPD_EVENT_ACTIVATED = true ∧
      t.upd = { s.upd with run := none, results := s.upd.results.set n 0, map := [], erased := 0 } ∧ t.get (pairState false) = 0 ∧
      t.boot.code0 = codeRanges rs 0 ∧ t.cpu.pcs = [s.fwEntry false, s.fwEntry false, s.cpu.pcs.getD 2 0] ∧ t.get (pairState true) = s.get (pairState true) ∧
      t.released = s.released ∧ t.tabs = s.tabs) ∧
  (∀ (n : Nat) (rs : List ImgRec) (s : State), s.wf = true → s.upd.run = some (.live n) → rs = s.pairRecs (.bank s.target) 0 true →
    s.get (pairState false) = 3 → s.recsOk (.bank s.target) rs = false → s.runBank < 2 →
    ∃ t, exec .liveActivationDone s = .next t ∧ t.upd.run = some (.unlive n) ∧ t.upd.next.named = s.runBank ∧ t.upd.next.trial = false ∧
      t.upd.next.state s.target = 5 ∧ t.upd.next.hash s.target = List.replicate 8 0 ∧ t.mem = (s.loadRams s.boot.src (s.pairRecs s.boot.src 0 true)).mem ∧ t.boot = s.boot ∧
      t.get (pairState false) = 0) ∧
  (∀ (n : Nat) (s : State), s.wf = true → s.upd.run = some (.live n) → s.get (pairState false) = 3 →
    ∃ t, exec .liveActivationDone s = .next t ∧ t.get (pairState false) = 0 ∧ t.tabs = s.tabs ∧ t.wire = s.wire ∧
      t.upd.run = (if s.recsOk (.bank s.target) (s.pairRecs (.bank s.target) 0 true) = true then none else some (.unlive n)) ∧
      t.mem = (if s.recsOk (.bank s.target) (s.pairRecs (.bank s.target) 0 true) = true
        then (s.loadRams (.bank s.target) (s.pairRecs (.bank s.target) 0 true)).mem
        else (s.loadRams s.boot.src (s.pairRecs s.boot.src 0 true)).mem)) ∧
  (∀ (n : Nat) (s : State), s.wf = true → s.upd.run = some (.live n) → s.get (pairState false) = 4 →
    ∃ t, exec .liveActivationDone s = .next t ∧ t.get (pairState false) = 4 ∧ t.cpu = s.cpu ∧
      t.upd.run = (if s.recsOk (.bank s.target) (s.pairRecs (.bank s.target) 0 true) = true then none else some (.unlive n))) ∧
  (∀ (n : Nat) (s : State), s.wf = true → s.upd.run = some (.unlive n) →
    ∃ t, exec (.bankStateWriteDone true) s = .next t ∧ t.boot.record = s.upd.next ∧
      t.upd = { s.upd with run := none, results := s.upd.results.set n 12 } ∧ t.regs = s.regs) ∧
  (∀ (ini : Initiator) (n : Nat) (s : State), s.mayWrite ini UPD.UPD_CMD = true → updNo ini = some n → s.upd.run = none →
    s.running ≠ 3 ∨ s.stage ≠ stageRun →
    exec (.updConfirm ini) s =
      .next { s with upd := { s.upd with results := s.upd.results.set n 3 }, wire := s.wire ++ [.bus ini .done] }) ∧
  (∀ (n : Nat) (s : State), s.wf = true → s.upd.run = some (.confirm n) →
    (s.recordWritten s.upd.next).imgSecVer s.boot.src ≤ s.get KEY.OTP_ARB_VALUE →
    ∃ t, exec (.bankStateWriteDone true) s = .next t ∧ t.boot.record = s.upd.next ∧ t.bit UPD.UPD_EVENT_CONFIRMED = true ∧
      t.upd = { s.upd with run := none, results := s.upd.results.set n 0 } ∧ t.key = s.key) ∧
  (∀ (n v : Nat) (s : State), s.wf = true → s.upd.run = some (.confirm n) → v = (s.recordWritten s.upd.next).imgSecVer s.boot.src →
    s.get KEY.OTP_ARB_VALUE < v → s.key.otp = none →
    ∃ t, exec (.bankStateWriteDone true) s = .next t ∧ t.boot.record = s.upd.next ∧ t.upd = { s.upd with run := some (.arb n) } ∧
      t.key = { s.key with otp := some (.confirm v) } ∧
      t.bit UPD.UPD_EVENT_CONFIRMED = s.bit UPD.UPD_EVENT_CONFIRMED)

/-- Sleep sequences: SLEEP and GROUP_SLEEP start READY_SLEEP or name why not (R378); ABORT ends a sequence before its commit, and a group that
sleeps wakes by software (R377, R379); a quiet set goes through PREPARE to its commit, and PREP_TIME aborts or forces it (R379); a channel
dominant for too long is isolated until RELEASE_ISO (R375); group membership is exclusive (R377); KA_LOG3 removes the head (R381). -/
def Obligations.SleepSequences : Prop :=
  (∀ (ini : Initiator) (s : State), s.wf = true → s.mayWrite ini WAK.SLEEP_CMD = true → s.wak.power = .active → s.seqState none = 0 →
    s.sleepRefusal none = none →
    ∃ t, exec (.sleep ini 0x534C) s = .next t ∧ t.seqState none = 1 ∧ t.get WAK.SLEEP_STATUS_RESULT = 1 ∧
      (∀ b, b ≠ WAK.SLEEP_STATUS_STATE.addr → t.rd b = s.rd b) ∧ t.wire = s.wire ++ [.bus ini .done]) ∧
  (∀ (ini : Initiator) (c : Nat) (s : State), s.wf = true → s.mayWrite ini WAK.SLEEP_CMD = true → s.wak.power = .active →
    s.seqState none = 0 → s.sleepRefusal none = some c →
    ∃ t, exec (.sleep ini 0x534C) s = .next t ∧ t.seqState none = 0 ∧ t.get WAK.SLEEP_STATUS_RESULT = 3 ∧
      t.get WAK.SLEEP_STATUS_CAUSE = c) ∧
  (∀ (ini : Initiator) (c : BitVec 16) (g : Fin 8) (i : Instr) (s : State), s.mayWrite ini WAK.SLEEP_CMD = true → c ≠ 0x534C →
    i ∈ [.sleep ini c, .groupSleep ini c g, .groupWake ini c g, .abortDevice ini c, .abortGroup ini c g, .releaseIso ini c 3] →
    exec i s = .next { s with wire := s.wire ++ [.bus ini .done] }) ∧
  (∀ (ini : Initiator) (g : Fin 8) (s : State), s.wf = true → s.mayWrite ini WAK.SLEEP_CMD = true → s.wak.power = .active →
    s.seqState (some g) = 0 → s.sleepRefusal (some g) = none →
    ∃ t, exec (.groupSleep ini 0x534C g) s = .next t ∧ t.seqState (some g) = 1 ∧ t.seqState none = s.seqState none ∧
      t.get WAK.SLEEP_STATUS_RESULT = 1) ∧
  (∀ (ini : Initiator) (g : Fin 8) (s : State), s.wf = true → s.mayWrite ini WAK.SLEEP_CMD = true → s.wak.power = .active →
    s.seqState none = 0 → s.grpAsleep g = true →
    ∃ t, exec (.groupWake ini 0x534C g) s = .next t ∧ t.seqState (some g) = 0 ∧ t.get WAK.SLEEP_STATUS_RESULT = 1 ∧
      t.bit WAK.WAK_EVENT_GROUP_WOKE = true ∧ t.bit WAK.WAK_EVENT_WOKE = true ∧ t.cnt WAK.WAKE_CNT = s.cnt WAK.WAKE_CNT + 1) ∧
  (∀ (ini : Initiator) (s : State), s.wf = true → s.mayWrite ini WAK.SLEEP_CMD = true → s.wak.power = .active → s.seqState none = 1 →
    ∃ t, exec (.abortDevice ini 0x534C) s = .next t ∧ t.seqState none = 0 ∧ t.get WAK.SLEEP_STATUS_RESULT = 1 ∧
      t.get WAK.ABORT_INFO_CAUSE = 1 ∧ t.bit WAK.ABORT_INFO_DEVICE = true ∧ t.cnt WAK.ABORT_CNT = s.cnt WAK.ABORT_CNT + 1 ∧
      t.bit WAK.WAK_EVENT_SLEEP_ABORT = true ∧ t.wire = s.wire ++ [.bus ini .done]) ∧
  (∀ (ini : Initiator) (g : Fin 8) (s : State), s.wf = true → s.mayWrite ini WAK.SLEEP_CMD = true → s.wak.power = .active →
    s.seqState (some g) = 1 →
    ∃ t, exec (.abortGroup ini 0x534C g) s = .next t ∧ t.seqState (some g) = 0 ∧ t.get WAK.SLEEP_STATUS_RESULT = 1 ∧
      t.get WAK.ABORT_INFO_CAUSE = 1 ∧ t.get WAK.ABORT_INFO_GROUP = g ∧ t.bit WAK.ABORT_INFO_DEVICE = false ∧
      t.bit WAK.WAK_EVENT_SLEEP_ABORT = true) ∧
  (∀ (ini : Initiator) (g : Fin 8) (s : State), s.wf = true → s.mayWrite ini WAK.SLEEP_CMD = true → s.grpAsleep g = true →
    ∃ t, exec (.abortGroup ini 0x534C g) s = .next t ∧ t.get WAK.SLEEP_STATUS_RESULT = 2 ∧ t.grpAsleep g = true) ∧
  (∀ (ini : Initiator) (c : Fin 16) (s : State), s.wf = true → s.mayWrite ini WAK.SLEEP_CMD = true → s.isolated c = true →
    ∃ t, exec (.releaseIso ini 0x534C c) s = .next t ∧ t.isolated c = false ∧ (∀ k : Fin 16, k ≠ c → t.isolated k = s.isolated k) ∧
      t.get WAK.SLEEP_STATUS_RESULT = 1 ∧ t.bit (CAN.CH_STATUS_FROZEN c) = (s.get (CAN.CH_STATUS_STATE c) == 2)) ∧
  (∀ (c : Fin 16) (s : State), s.wf = true → s.isolated c = false →
    ∃ t, exec (.canStuckDominant c) s = .next t ∧ t.isolated c = true ∧ (∀ k : Fin 16, k ≠ c → t.isolated k = s.isolated k) ∧
      t.cnt WAK.STUCK_DOM_CNT = s.cnt WAK.STUCK_DOM_CNT + 1 ∧ t.bit WAK.WAK_EVENT_STUCK_DOM = true ∧
      t.bit (CAN.CH_STATUS_FROZEN c) = true ∧ t.get (CAN.CH_STATUS_MODE_ACT c) = 0) ∧
  (∀ (g : Option (Fin 8)) (s : State), s.wf = true → s.seqState g = 1 → s.seqRan g (max 10 (s.get WAK.WAK_CTRL_RS_TIME)) = true →
    ∃ t, exec (.readySleepExpiry g) s = .next t ∧ t.seqState g = 2 ∧
      t.wire = s.wire ++ ((s.setPorts g).filter fun p => !s.portAsleep p).map (fun p => .ethWake p false) ∧ t.wak = (s.seqTimer g).wak) ∧
  (∀ (g : Fin 8) (s : State), s.wf = true → s.seqState (some g) = 2 → s.setQuiet (some g) = true →
    ∃ t, exec (.sleepCommit (some g)) s = .next t ∧ t.grpAsleep g = true ∧ t.bit WAK.WAK_EVENT_GROUP_SLEPT = true ∧ t.wak = s.wak) ∧
  (∀ s : State, s.wf = true → s.seqState none = 2 → s.setQuiet none = true →
    ∃ t, exec (.sleepCommit none) s = .next t ∧ t.wak = { s.wak with power := .powerDown, wc := s.tim.wt, ac := s.wak.ao, late := false } ∧
      t.released = false ∧ t.cnt WAK.SLEEP_CNT = s.cnt WAK.SLEEP_CNT + 1 ∧ t.rd WAK.COMMIT_AO = word s.wak.ao ∧ t.seqState none = 0 ∧
      (s.pairEn = true → claimRank t.ownClaim = 0 ∧ claimEpoch t.ownClaim = claimEpoch s.ownClaim) ∧ ∀ c ∈ t.copies, c.st = .sending) ∧
  (∀ (g : Option (Fin 8)) (p : Nat) (s : State), s.wf = true → s.seqState g = 2 → (s.setPorts g).filter (fun p => s.wak.inh.getLsbD p) = [p] →
    s.bit WAK.WAK_CTRL_PREP_FORCE = false → s.wak.power = .active → s.wak.ka.length < 32 →
    s.seqRan g (max 1 (s.get WAK.PREP_CFG_PREP_TIME)) = true →
    ∃ t, exec (.prepTimeExpiry g) s = .next t ∧ t.seqState g = 0 ∧ t.get WAK.ABORT_INFO_CAUSE = 4 ∧ t.get WAK.ABORT_INFO_INDEX = p ∧
      t.wak = { s.wak with ka := s.wak.ka ++ [s.kaEntry 2 (16 + p) 0] } ∧ t.bit WAK.WAK_EVENT_SLEEP_ABORT = true) ∧
  (∀ s : State, s.wf = true → s.seqState none = 2 → s.bit WAK.WAK_CTRL_PREP_FORCE = true →
    s.seqRan none (max 1 (s.get WAK.PREP_CFG_PREP_TIME)) = true →
    ∃ t, exec (.prepTimeExpiry none) s = .next t ∧ t.wak.power = .powerDown ∧ t.released = false) ∧
  (∀ (ini : Initiator) (g : Fin 8) (w : Word) (s : State), s.wf = true → s.mayWrite ini (WAK.GRP_MEMBERS g) = true →
    s.get (WAK.GRP_STATUS_STATE g) = 0 → (∀ k : Fin 8, k ≠ g → s.grpMembers k &&& w &&& 0x3FFFFFFF = 0) →
    ∃ t, exec (.grpMembersWrite ini g w) s = .next t ∧ t.grpMembers g = w &&& 0x3FFFFFFF ∧
      ∀ b, b ≠ WAK.GRP_MEMBERS g → t.rd b = s.rd b) ∧
  (∀ (ini : Initiator) (g : Fin 8) (w : Word) (s : State), s.wf = true → s.mayWrite ini (WAK.GRP_MEMBERS g) = true →
    s.get (WAK.GRP_STATUS_STATE g) ≠ 0 →
    ∃ t, exec (.grpMembersWrite ini g w) s = .next t ∧ t.bit WAK.WAK_EVENT_GRP_BUSY = true ∧ t.grpMembers g = s.grpMembers g) ∧
  (∀ (ini : Initiator) (s : State), s.mayRead ini (WAK.KA_LOG 3) = true →
    exec (.kaLogRead ini) s =
      .next { s with wak := { s.wak with ka := s.wak.ka.tail }, wire := s.wire ++ [.bus ini (.data ((s.wak.ka.headD []).getD 3 0))] })

/-- Power-down and wakes: POWER_DOWN ends in SLEEP with what retention keeps, or in a warm wake when one was latched (R371, R380); in SLEEP
a dominant phase, a wake frame, a transceiver, a port and the timer each wake the device, recorded with their KIND, and too short a phase
does not (R373, R374, R376, R381); the clocks bring working time back in holdover, a change from a followed domain setting HOLDOVER_ENTER
(R372, R38); matching digests release the data path, others cold-start it (R382, R383). -/
def Obligations.WakeAndRetention : Prop :=
  (∀ (ao : Nat) (s : State), s.wf = true → s.wak.power = .powerDown → s.wak.late = false → s.upd.run = none → s.key.otp = none →
    ∃ t, exec (.powerDownDone ao) s = .next t ∧ t.wak.power = .sleep ∧ t.wak.digests = true ∧ t.wak.ao = s.wak.ao + ao ∧ t.tabs = s.tabs ∧
      t.mem = s.mem ∧ t.copies = [] ∧ t.frames = [] ∧ t.tim.wt = s.tim.wt ∧ .wakeOut false ∈ t.wire) ∧
  (∀ (ao : Nat) (s : State), s.wf = true → s.wak.power = .powerDown → s.wak.late = true → s.upd.run = none → s.key.otp = none →
    ∃ t, exec (.powerDownDone ao) s = .next t ∧ t.wak.power = .waking ∧ t.wak.late = false ∧ t.tabs = s.tabs ∧ t.mem = s.mem) ∧
  (∀ (c : Fin 16) (clocks ao : Nat) (s : State), s.wf = true → s.wak.power = .sleep → s.isolated c = false → s.groupOf c = none →
    s.wakeMethod c = 1 → s.wakeFilter c ≤ clocks → clocks < 8 * s.stuckUs c → s.bit WAK.WAKE_SRC_VALID = false →
    ∃ t, exec (.canWakeDom c clocks ao) s = .next t ∧ t.wak.power = .waking ∧ t.bit WAK.WAKE_SRC_VALID = true ∧
      t.get WAK.WAKE_SRC_KIND = 1 ∧ t.get WAK.WAKE_SRC_INDEX = c ∧ t.rd WAK.WAKE_AO = word (s.wak.ao + ao) ∧
      t.cnt WAK.WAKE_CNT = s.cnt WAK.WAKE_CNT + 1 ∧ t.bit WAK.WAK_EVENT_WOKE = true ∧ .wakeOut true ∈ t.wire) ∧
  (∀ (c : Fin 16) (clocks ao : Nat) (s : State), clocks < s.wakeFilter c →
    exec (.canWakeDom c clocks ao) s = .next (s.aoPass ao)) ∧
  (∀ (c : Fin 16) (m : CanMsg) (ao : Nat) (s : State), s.wf = true → s.wak.power = .sleep → s.isolated c = false → s.groupOf c = none →
    s.wakeMethod c = 2 → s.isWakeFrame c m = true → s.bit WAK.WAKE_SRC_VALID = false →
    ∃ t, exec (.canWakeFrame c m ao) s = .next t ∧ t.wak.power = .waking ∧ t.get WAK.WAKE_SRC_KIND = 2 ∧ t.get WAK.WAKE_SRC_INDEX = c ∧
      t.rd WAK.WAKE_ID = word ((if m.ide then 2147483648 else 0) + m.id.toNat) ∧ t.cnt WAK.WAKE_CNT = s.cnt WAK.WAKE_CNT + 1) ∧
  (∀ (c : Fin 16) (ao : Nat) (s : State), s.wf = true → s.wak.power = .sleep → s.isolated c = false → s.groupOf c = none →
    s.wakeMethod c = 3 → s.bit WAK.WAKE_SRC_VALID = false →
    ∃ t, exec (.canWakeTrx c ao) s = .next t ∧ t.wak.power = .waking ∧ t.get WAK.WAKE_SRC_KIND = 3 ∧ t.get WAK.WAKE_SRC_INDEX = c ∧
      t.cnt WAK.WAKE_CNT = s.cnt WAK.WAKE_CNT + 1) ∧
  (∀ (p : Fin 14) (ao : Nat) (s : State), s.wf = true → s.wak.power = .sleep → s.wak.inh.getLsbD p = false → s.groupOf (16 + p) = none →
    s.bit WAK.WAKE_SRC_VALID = false →
    ∃ t, exec (.ethInhRise p ao) s = .next t ∧ t.wak.power = .waking ∧ t.wak.inh.getLsbD p = true ∧ t.get WAK.WAKE_SRC_KIND = 4 ∧
      t.get WAK.WAKE_SRC_INDEX = p ∧ t.cnt WAK.WAKE_CNT = s.cnt WAK.WAKE_CNT + 1) ∧
  (∀ (p : Fin 14) (s : State),
    exec (.ethInhFall p) s = .next { s with wak := { s.wak with inh := s.wak.inh &&& ~~~(BitVec.ofNat 16 (2 ^ p.val)) } }) ∧
  (∀ (ao : Nat) (s : State), s.wf = true → s.wak.power = .sleep → s.get WAK.WAKE_TIMER_SECONDS ≠ 0 →
    s.wak.ac + s.get WAK.WAKE_TIMER_SECONDS * 32768 ≤ s.wak.ao + ao → s.bit WAK.WAKE_SRC_VALID = false →
    ∃ t, exec (.wakeTimerExpiry ao) s = .next t ∧ t.wak.power = .waking ∧ t.get WAK.WAKE_SRC_KIND = 5 ∧ t.bit WAK.WAKE_ALL_TIMER = true ∧
      t.cnt WAK.WAKE_CNT = s.cnt WAK.WAKE_CNT + 1) ∧
  (∀ (ao n : Nat) (s : State), s.wf = true → s.wak.power = .waking → s.wak.clocks = false → n = s.wak.ao + ao - s.wak.ac →
    ∃ t, exec (.wakeClockReady ao) s = .next t ∧ t.wak.clocks = true ∧ t.wak.power = .waking ∧ t.bit SYS.SYS_STATUS_PLL0_LOCK = true ∧
      t.bit SYS.SYS_STATUS_REFCLK_OK = true ∧ t.tim.wt = (s.wak.wc + n * 1000000000 * 131072) / 65536 * 65536 % wtWrap ∧
      t.tim.sel = .holdover ∧ t.bit TIM.TIM_STATUS_HOLDOVER = true ∧
      (s.tim.sel ≠ .holdover → t.bit TIM.TIM_EVENT_HOLDOVER_ENTER = true)) ∧
  (∀ s : State, s.wf = true → s.wak.power = .waking → s.wak.clocks = true →
    ∃ t, exec (.retentionCheckDone true) s = .next t ∧ t.wak.power = .active ∧ t.released = true ∧ t.stage = stageRun ∧
      t.wak.serdes = true ∧ t.get (pairState false) = 0 ∧ t.get (pairState true) = 0) ∧
  (∀ s : State, s.wf = true → s.wak.power = .waking → s.wak.clocks = true → s.upd.run = none → s.key.otp = none →
    ∃ t, exec (.retentionCheckDone false) s = .next t ∧ t.wak.power = .active ∧ t.stage = 0 ∧ t.released = false ∧
      t.bit WAK.WAK_EVENT_RET_FAIL = true ∧ t.cnt WAK.RET_FAIL_CNT = s.cnt WAK.RET_FAIL_CNT + 1 ∧ t.mem = [] ∧
      t.boot.flash = s.boot.flash) ∧
  (∀ s : State, exec .serdesReady s = .next { s with wak := { s.wak with serdes := false } })
end

