-- ==== Sys2Proof/Laws/Bits.lean ====
section
/-! SUPPORT. What a bit field of a word reads as after a write of that field or of another. -/

namespace Sys2Proof.Machine

/-- A word without bits [hi:lo], as the bits above and the bits below. -/
theorem word_split (n lo k : Nat) :
    n - n / 2 ^ lo % 2 ^ k * 2 ^ lo = 2 ^ (lo + k) * (n / 2 ^ (lo + k)) + n % 2 ^ lo := by
  have h1 := Nat.div_add_mod n (2 ^ lo)
  have h2 := Nat.div_add_mod (n / 2 ^ lo) (2 ^ k)
  rw [Nat.div_div_eq_div_mul, ← Nat.pow_add] at h2
  rw [← h2, Nat.mul_add, ← Nat.mul_assoc, ← Nat.pow_add, Nat.mul_comm (2 ^ lo) (n / 2 ^ lo % 2 ^ k)] at h1
  omega

/-- The bits of a word into which a field was put. -/
theorem getLsbD_putBits {w : Word} {hi lo v : Nat} (h : lo ≤ hi) (h32 : hi < 32) (i : Nat) :
    (putBits w hi lo v).getLsbD i = if lo ≤ i ∧ i ≤ hi then v.testBit (i - lo) else w.getLsbD i := by
  obtain ⟨k, rfl⟩ : ∃ k, hi = lo + k := ⟨hi - lo, by omega⟩
  have hk : lo + k + 1 - lo = k + 1 := by omega
  have e : putBits w (lo + k) lo v
      = BitVec.ofNat 32 (2 ^ (lo + (k + 1)) * (w.toNat / 2 ^ (lo + (k + 1))) + (2 ^ lo * (v % 2 ^ (k + 1)) + w.toNat % 2 ^ lo)) := by
    unfold putBits bitsOf
    rw [hk, word_split, Nat.mul_comm (v % _)]
    congr 1; omega
  have hr : w.toNat % 2 ^ lo < 2 ^ lo := Nat.mod_lt _ (Nat.two_pow_pos _)
  have hv : v % 2 ^ (k + 1) < 2 ^ (k + 1) := Nat.mod_lt _ (Nat.two_pow_pos _)
  have hb : 2 ^ lo * (v % 2 ^ (k + 1)) + w.toNat % 2 ^ lo < 2 ^ (lo + (k + 1)) := by
    have hm := Nat.mul_le_mul_left (2 ^ lo) hv
    rw [← Nat.pow_add, Nat.mul_succ] at hm
    exact Nat.lt_of_lt_of_le (Nat.add_lt_add_left hr _) hm
  rw [e, BitVec.getLsbD_ofNat, Nat.testBit_two_pow_mul_add _ hb, Nat.testBit_two_pow_mul_add _ hr]
  by_cases i32 : i < 32
  · rw [decide_eq_true i32, Bool.true_and]
    by_cases h1 : i < lo + (k + 1)
    · rw [if_pos h1]
      by_cases h2 : i < lo
      · rw [if_pos h2, if_neg (by omega), Nat.testBit_mod_two_pow, decide_eq_true h2, Bool.true_and]; rfl
      · rw [if_neg h2, if_pos (by omega), Nat.testBit_mod_two_pow, decide_eq_true (by omega), Bool.true_and]
    · rw [if_neg h1, if_neg (by omega), Nat.testBit_div_two_pow]
      have : i - (lo + (k + 1)) + (lo + (k + 1)) = i := by omega
      rw [this]; rfl
  · rw [decide_eq_false i32, Bool.false_and, if_neg (by omega), BitVec.getLsbD_of_ge _ _ (by omega)]

theorem testBit_bitsOf (w : Word) (hi lo j : Nat) : (bitsOf w hi lo).testBit j = (decide (j < hi + 1 - lo) && w.getLsbD (j + lo)) := by
  unfold bitsOf
  rw [Nat.testBit_mod_two_pow, Nat.testBit_div_two_pow]
  rfl

/-- A field reads as what was put into it. -/
theorem bitsOf_putBits {w : Word} {hi lo v : Nat} (h : lo ≤ hi) (h32 : hi < 32) (hv : v < 2 ^ (hi + 1 - lo)) :
    bitsOf (putBits w hi lo v) hi lo = v := by
  refine Nat.eq_of_testBit_eq fun j => ?_
  rw [testBit_bitsOf, getLsbD_putBits h h32]
  by_cases hj : j < hi + 1 - lo
  · rw [decide_eq_true hj, Bool.true_and, if_pos (by omega), Nat.add_sub_cancel]
  · rw [decide_eq_false hj, Bool.false_and, Nat.testBit_lt_two_pow (Nat.lt_of_lt_of_le hv (Nat.pow_le_pow_right (by omega) (by omega)))]

/-- A write of a field leaves the fields apart from it alone. -/
theorem bitsOf_putBits_of_apart {w : Word} {hi lo v hi' lo' : Nat} (h : lo ≤ hi) (h32 : hi < 32) (ha : hi' < lo ∨ hi < lo') :
    bitsOf (putBits w hi lo v) hi' lo' = bitsOf w hi' lo' := by
  refine Nat.eq_of_testBit_eq fun j => ?_
  rw [testBit_bitsOf, testBit_bitsOf, getLsbD_putBits h h32]
  by_cases hj : j < hi' + 1 - lo'
  · rw [if_neg (by omega)]
  · rw [decide_eq_false hj, Bool.false_and, Bool.false_and]

end Sys2Proof.Machine
end

