-- ==== Sys2Proof/Laws/Sparse.lean ====
section
/-! SUPPORT. What the operations on sparse lists keep (the canonical form) and what a read after a write gives. -/

namespace Sys2Proof.Machine

/-! ### Canonical lists -/

theorem Sparse.wfFrom_weaken {α : Type} [DecidableEq α] {d : Nat → α} {l : List (Nat × α)} {b c : Option Nat}
    (hb : ∀ x y, b = some x → c = some y → x ≤ y) (hn : c = none → b = none) (h : Sparse.wfFrom d c l = true) :
    Sparse.wfFrom d b l = true := by
  cases l with
  | nil => simp [Sparse.wfFrom]
  | cons p l =>
    obtain ⟨a, v⟩ := p
    simp only [Sparse.wfFrom, Bool.and_eq_true, decide_eq_true_eq] at h ⊢
    refine ⟨⟨?_, h.1.2⟩, h.2⟩
    cases b with
    | none => rfl
    | some x =>
      cases c with
      | none => exact absurd (hn rfl) (by simp)
      | some y =>
        have h1 : y < a := by simpa using h.1.1
        have h2 := hb x y rfl rfl
        simp only [decide_eq_true_eq]; omega

theorem Sparse.wfFrom_none {α : Type} [DecidableEq α] {d : Nat → α} {l : List (Nat × α)} {c : Option Nat}
    (h : Sparse.wfFrom d c l = true) : Sparse.wfFrom d none l = true :=
  Sparse.wfFrom_weaken (by simp) (by simp) h

theorem Sparse.wfFrom_insert {α : Type} [DecidableEq α] {d : Nat → α} {k : Nat} {v : α} (hv : v ≠ d k) :
    ∀ {l : List (Nat × α)} {b : Option Nat}, (∀ x, b = some x → x < k) → Sparse.wfFrom d b l = true →
      Sparse.wfFrom d b (Sparse.insert l k v) = true
  | [], b, hb, _ => by cases b <;> simp_all [Sparse.insert, Sparse.wfFrom]
  | (a, w) :: l, b, hb, h => by
    simp only [Sparse.wfFrom, Bool.and_eq_true, decide_eq_true_eq] at h
    unfold Sparse.insert
    split
    · have hlt : k < a := by assumption
      simp only [Sparse.wfFrom, Bool.and_eq_true, decide_eq_true_eq]
      exact ⟨⟨by cases b <;> simp_all, hv⟩, ⟨hlt, h.1.2⟩, h.2⟩
    · split
      · have e : a = k := by assumption
        subst e
        simp only [Sparse.wfFrom, Bool.and_eq_true, decide_eq_true_eq]
        exact ⟨⟨h.1.1, hv⟩, h.2⟩
      · simp only [Sparse.wfFrom, Bool.and_eq_true, decide_eq_true_eq]
        refine ⟨h.1, Sparse.wfFrom_insert hv ?_ h.2⟩
        intro x hx; cases hx; omega

theorem Sparse.wfFrom_erase {α : Type} [DecidableEq α] {d : Nat → α} {k : Nat} :
    ∀ {l : List (Nat × α)} {b : Option Nat}, Sparse.wfFrom d b l = true → Sparse.wfFrom d b (Sparse.erase l k) = true
  | [], _, h => h
  | (a, w) :: l, b, h => by
    unfold Sparse.erase
    split
    · exact h
    · simp only [Sparse.wfFrom, Bool.and_eq_true, decide_eq_true_eq] at h
      split
      · refine Sparse.wfFrom_weaken ?_ (by simp) h.2
        intro x y hx hy
        cases hy; subst hx
        have := h.1.1
        simp only [decide_eq_true_eq] at this; omega
      · simp only [Sparse.wfFrom, Bool.and_eq_true, decide_eq_true_eq]
        exact ⟨h.1, Sparse.wfFrom_erase h.2⟩

theorem Sparse.wfFrom_filterMap {α β : Type} [DecidableEq α] [DecidableEq β] {d : Nat → α} {e : Nat → β} {f : Nat × α → Option (Nat × β)}
    (hf : ∀ x y, f x = some y → y.1 = x.1 ∧ y.2 ≠ e y.1) :
    ∀ {l : List (Nat × α)} {b : Option Nat}, Sparse.wfFrom d b l = true → Sparse.wfFrom e b (l.filterMap f) = true
  | [], _, _ => by simp [Sparse.wfFrom]
  | (a, w) :: l, b, h => by
    simp only [Sparse.wfFrom, Bool.and_eq_true, decide_eq_true_eq] at h
    have ih := Sparse.wfFrom_filterMap hf h.2
    cases hx : f (a, w) with
    | none =>
      rw [List.filterMap_cons_none hx]
      refine Sparse.wfFrom_weaken ?_ (by simp) ih
      intro x y hx hy
      cases hy; subst hx
      have := h.1.1
      simp only [decide_eq_true_eq] at this; omega
    | some y =>
      rw [List.filterMap_cons_some hx]
      obtain ⟨k, v⟩ := y
      have := hf _ _ hx
      simp only at this
      obtain ⟨rfl, h2⟩ := this
      simp only [Sparse.wfFrom, Bool.and_eq_true, decide_eq_true_eq]
      exact ⟨⟨h.1.1, h2⟩, ih⟩

theorem Sparse.wf_set {α : Type} [DecidableEq α] {d : Nat → α} {l : List (Nat × α)} (k : Nat) (v : α) (h : Sparse.wf d l = true) :
    Sparse.wf d (Sparse.set d l k v) = true := by
  unfold Sparse.set
  split
  · exact Sparse.wfFrom_erase h
  · exact Sparse.wfFrom_insert (by assumption) (by simp) h

theorem Sparse.wf_erase {α : Type} [DecidableEq α] {d : Nat → α} {l : List (Nat × α)} (k : Nat) (h : Sparse.wf d l = true) :
    Sparse.wf d (Sparse.erase l k) = true := Sparse.wfFrom_erase h

theorem Sparse.wf_mem {α : Type} [DecidableEq α] {d : Nat → α} :
    ∀ {l : List (Nat × α)} {b : Option Nat}, Sparse.wfFrom d b l = true → ∀ x, x ∈ l → x.2 ≠ d x.1 ∧ ∀ y, b = some y → y < x.1
  | [], _, _, _, hx => by cases hx
  | (a, w) :: l, b, h, x, hx => by
    simp only [Sparse.wfFrom, Bool.and_eq_true, decide_eq_true_eq] at h
    cases hx with
    | head => exact ⟨h.1.2, fun y hy => by subst hy; simpa using h.1.1⟩
    | tail _ hm =>
      have ih := Sparse.wf_mem h.2 x hm
      refine ⟨ih.1, fun y hy => ?_⟩
      subst hy
      have h1 : y < a := by simpa using h.1.1
      have h2 := ih.2 a rfl
      omega

theorem Sparse.wfFrom_filter {α : Type} [DecidableEq α] {d : Nat → α} {l : List (Nat × α)} (p : Nat × α → Bool) {b : Option Nat}
    (h : Sparse.wfFrom d b l = true) : Sparse.wfFrom d b (l.filter p) = true := by
  induction l generalizing b with
  | nil => simpa using h
  | cons x l ih =>
    obtain ⟨a, w⟩ := x
    simp only [Sparse.wfFrom, Bool.and_eq_true, decide_eq_true_eq] at h
    simp only [List.filter_cons]
    split
    · simp only [Sparse.wfFrom, Bool.and_eq_true, decide_eq_true_eq]
      exact ⟨h.1, ih h.2⟩
    · refine Sparse.wfFrom_weaken ?_ (by simp) (ih h.2)
      intro x y hx hy
      cases hy; subst hx
      have := h.1.1
      simp only [decide_eq_true_eq] at this; omega

theorem Sparse.wf_filter {α : Type} [DecidableEq α] {d : Nat → α} {l : List (Nat × α)} (p : Nat × α → Bool) (h : Sparse.wf d l = true) :
    Sparse.wf d (l.filter p) = true := Sparse.wfFrom_filter p h

theorem Sparse.wfFrom_append {α : Type} [DecidableEq α] {d : Nat → α} (n : Nat) :
    ∀ {l m : List (Nat × α)} {b : Option Nat}, Sparse.wfFrom d b l = true → Sparse.wfFrom d none m = true → (∀ x, b = some x → x < n) →
      (∀ x ∈ l, x.1 < n) → (∀ x ∈ m, n ≤ x.1) → Sparse.wfFrom d b (l ++ m) = true
  | [], [], _, _, _, _, _, _ => by simp [Sparse.wfFrom]
  | [], (a, w) :: m, b, _, hm, hb, _, hn => by
    simp only [List.nil_append, Sparse.wfFrom, Bool.and_eq_true, decide_eq_true_eq] at hm ⊢
    refine ⟨⟨?_, hm.1.2⟩, hm.2⟩
    cases b with
    | none => rfl
    | some x => 
      have h1 := hb x rfl
      have h2 := hn (a, w) (List.mem_cons_self ..)
      simp only [decide_eq_true_eq]; omega
  | (a, w) :: l, m, b, hl, hm, _, hp, hn => by
    simp only [List.cons_append, Sparse.wfFrom, Bool.and_eq_true, decide_eq_true_eq] at hl ⊢
    refine ⟨hl.1, Sparse.wfFrom_append n hl.2 hm ?_ (fun x hx => hp x (List.mem_cons_of_mem _ hx)) hn⟩
    intro x hx; cases hx
    exact hp (a, w) (List.mem_cons_self ..)

/-! ### Reads after writes -/

theorem Sparse.get_insert {α : Type} {d : Nat → α} {k j : Nat} {v : α} {l : List (Nat × α)} :
    Sparse.get d (Sparse.insert l k v) j = if j = k then v else Sparse.get d l j := by
  induction l with
  | nil =>
    simp only [Sparse.insert, Sparse.get]
    repeat' split
    all_goals first | rfl | omega
  | cons p l ih =>
    obtain ⟨a, w⟩ := p
    unfold Sparse.insert
    split
    · simp only [Sparse.get]
      repeat' split
      all_goals first | rfl | omega
    · split
      · simp only [Sparse.get]
        repeat' split
        all_goals first | rfl | omega
      · simp only [Sparse.get, ih]
        repeat' split
        all_goals first | rfl | omega

theorem Sparse.get_below {α : Type} [DecidableEq α] {d : Nat → α} {l : List (Nat × α)} {b j : Nat} (h : Sparse.wfFrom d (some b) l = true)
    (hj : j ≤ b) : Sparse.get d l j = d j := by
  cases l with
  | nil => rfl
  | cons p l =>
    obtain ⟨a, w⟩ := p
    simp only [Sparse.wfFrom, Bool.and_eq_true, decide_eq_true_eq] at h
    have h1 := h.1.1
    simp only [Sparse.get]
    rw [if_neg (by omega), if_pos (by omega)]

theorem Sparse.get_erase {α : Type} [DecidableEq α] {d : Nat → α} {k j : Nat} {l : List (Nat × α)} {b : Option Nat}
    (h : Sparse.wfFrom d b l = true) : Sparse.get d (Sparse.erase l k) j = if j = k then d k else Sparse.get d l j := by
  induction l generalizing b with
  | nil =>
    simp only [Sparse.erase, Sparse.get]
    split <;> simp_all
  | cons p l ih =>
    obtain ⟨a, w⟩ := p
    simp only [Sparse.wfFrom, Bool.and_eq_true, decide_eq_true_eq] at h
    have g := ih h.2
    unfold Sparse.erase
    split
    · have hlt : k < a := by assumption
      by_cases e : j = k
      · subst e; rw [if_pos rfl]; simp only [Sparse.get]; rw [if_neg (by omega), if_pos hlt]
      · rw [if_neg e]
    · split
      · have e : a = k := by assumption
        subst e
        by_cases e : j = a
        · subst e; rw [if_pos rfl]; exact Sparse.get_below h.2 (Nat.le_refl _)
        · rw [if_neg e]
          simp only [Sparse.get]
          rw [if_neg (fun x => e x.symm)]
          split
          · exact Sparse.get_below h.2 (by omega)
          · rfl
      · simp only [Sparse.get, g]
        repeat' split
        all_goals first | rfl | omega | (subst_vars; rfl)

/-- A read of a canonical list after a write. -/
theorem Sparse.get_set {α : Type} [DecidableEq α] {d : Nat → α} {k j : Nat} {v : α} {l : List (Nat × α)} (h : Sparse.wf d l = true) :
    Sparse.get d (Sparse.set d l k v) j = if j = k then v else Sparse.get d l j := by
  unfold Sparse.set
  split
  · rename_i e
    rw [Sparse.get_erase h, e]
  · exact Sparse.get_insert

/-- A write leaves every other key alone, whether or not the list is canonical in front of it, when it stores no default. -/
theorem Sparse.get_set_of_ne {α : Type} [DecidableEq α] {d : Nat → α} {k j : Nat} {v : α} {l : List (Nat × α)} (hv : v ≠ d k) (hj : j ≠ k) :
    Sparse.get d (Sparse.set d l k v) j = Sparse.get d l j := by
  rw [Sparse.set, if_neg hv, Sparse.get_insert, if_neg hj]

end Sys2Proof.Machine
end

