-- ==== Sys2Proof/Laws/Keep.lean ====
section
/-! SUPPORT. What every operation of the machine keeps (`Keep m s t`): the canonical form of the lists of State, the bound of the fault
log, the queue of commands, and every part of State outside the set m, which the operation does not touch; and how the relation goes through the constructs that meanings are written with. The other
files Keep*.lean have one lemma per operation, which a proof about a command cites in place of unfolding it. -/

namespace Sys2Proof.Machine

theorem State.wf_iff (s : State) : s.wf = true ↔
    Sparse.wf resetWord s.regs = true ∧ Sparse.wf (fun _ => 0) s.cnts = true ∧ Sparse.wf (fun _ => 0) s.hold = true ∧
    Sparse.wf tabReset s.tabs = true ∧ Sparse.wf (fun _ => {}) s.pins = true ∧ Sparse.wf (fun _ => {}) s.macs = true ∧
    Sparse.wf (fun _ => {}) s.cans = true ∧ Sparse.wf (fun _ => 0) s.mem = true ∧ Sparse.wf (fun _ => 0xFF) s.boot.flash = true := by
  simp only [State.wf, Memory.wf, Bool.and_eq_true, and_assoc]

/-- The lists of a well-formed state, put together. -/
theorem State.wf_mk {s t : State} (h : s.wf = true)
    (h1 : Sparse.wf resetWord s.regs = true → Sparse.wf resetWord t.regs = true)
    (h2 : Sparse.wf (fun _ => 0) s.cnts = true → Sparse.wf (fun _ => 0) t.cnts = true)
    (h3 : Sparse.wf (fun _ => 0) s.hold = true → Sparse.wf (fun _ => 0) t.hold = true)
    (h4 : Sparse.wf tabReset s.tabs = true → Sparse.wf tabReset t.tabs = true)
    (h5 : Sparse.wf (fun _ => {}) s.pins = true → Sparse.wf (fun _ => {}) t.pins = true)
    (h6 : Sparse.wf (fun _ => {}) s.macs = true → Sparse.wf (fun _ => {}) t.macs = true)
    (h7 : Sparse.wf (fun _ => {}) s.cans = true → Sparse.wf (fun _ => {}) t.cans = true)
    (h8 : Sparse.wf (fun _ => 0) s.mem = true → Sparse.wf (fun _ => 0) t.mem = true)
    (h9 : Sparse.wf (fun _ => 0xFF) s.boot.flash = true → Sparse.wf (fun _ => 0xFF) t.boot.flash = true) : t.wf = true := by
  rw [State.wf_iff] at h ⊢
  obtain ⟨a1, a2, a3, a4, a5, a6, a7, a8, a9⟩ := h
  exact ⟨h1 a1, h2 a2, h3 a3, h4 a4, h5 a5, h6 a6, h7 a7, h8 a8, h9 a9⟩

/-- The parts of State by number. -/
def Part.no : Part → Nat
  | .regs => 0
  | .cnts => 1
  | .hold => 2
  | .tabs => 3
  | .tim => 4
  | .pins => 5
  | .marker => 6
  | .frames => 7
  | .copies => 8
  | .nextFid => 9
  | .nextCid => 10
  | .macs => 11
  | .slc => 12
  | .str => 13
  | .bsn => 14
  | .crs => 15
  | .lkp => 16
  | .fltLog => 17
  | .fltCond => 18
  | .fltNow => 19
  | .fltDue => 20
  | .msixMask => 21
  | .msixFn => 22
  | .msixPba => 23
  | .notes => 24
  | .cans => 25
  | .twp => 26
  | .key => 27
  | .cph => 28
  | .la => 29
  | .gwe => 30
  | .cpu => 31
  | .brg => 32
  | .boot => 33
  | .upd => 34
  | .wak => 35
  | .mem => 36
  | .fresh => 37
  | .wire => 38
  | .flash => 39

/-- Every part of the set `a` is in the set `m`; a set of parts is a number with a bit per part. -/
abbrev Incl (a m : Nat) : Prop := Nat.land a m = a

theorem Incl.bit {a m n : Nat} (h : Incl a m) (hn : m.testBit n = false) : a.testBit n = false := by
  have e : (a &&& m).testBit n = a.testBit n := congrArg (Nat.testBit · n) h
  rw [Nat.testBit_and, hn, Bool.and_false] at e
  exact e.symm

theorem Incl.trans {a b c : Nat} (h : Incl a b) (k : Incl b c) : Incl a c := by
  refine Nat.eq_of_testBit_eq fun i => ?_
  show (a &&& c).testBit i = a.testBit i
  rw [Nat.testBit_and]
  cases hc : c.testBit i with
  | true => rw [Bool.and_true]
  | false => rw [h.bit (k.bit hc), Bool.false_and]

/-- What every operation keeps, and the parts outside the set `m`, which it does not change. -/
structure Keep (m : Nat) (s t : State) : Prop where
  wf : s.wf = true → t.wf = true
  log : s.fltLog.length ≤ 32 → t.fltLog.length ≤ 32
  pending : t.pending = s.pending
  same : ∀ p : Part, m.testBit p.no = false → p.same s t

theorem Part.same_refl (p : Part) (s : State) : p.same s s := by cases p <;> rfl
theorem Part.same_trans (p : Part) {s t u : State} (h : p.same s t) (k : p.same t u) : p.same s u := by
  cases p <;> exact Eq.trans k h

theorem Keep.refl {m : Nat} (s : State) : Keep m s s := ⟨id, id, rfl, fun p _ => p.same_refl s⟩
theorem Keep.trans {m a : Nat} {s t u : State} (h : Keep m s t) (k : Keep a t u) (hm : Incl a m) : Keep m s u :=
  ⟨fun x => k.wf (h.wf x), fun x => k.log (h.log x), k.pending.trans h.pending,
    fun p hp => p.same_trans (h.same p hp) (k.same p (hm.bit hp))⟩
theorem Incl.refl (m : Nat) : Incl m m := Nat.eq_of_testBit_eq fun i => by
  show (m &&& m).testBit i = _
  rw [Nat.testBit_and, Bool.and_self]
theorem Keep.trans' {m : Nat} {s t u : State} (h : Keep m s t) (k : Keep m t u) : Keep m s u := h.trans k (Incl.refl m)
theorem Keep.mono {m a : Nat} {s t : State} (h : Keep a s t) (hm : Incl a m) : Keep m s t := (Keep.refl s).trans h hm

/-- Which parts a command leaves alone, in the terms of SameBut. -/
theorem Keep.sameBut {m : Nat} {s t : State} {ps : List Part} (h : Keep m s t)
    (hp : ∀ p : Part, p ∉ ps → m.testBit p.no = false) : SameBut ps s t := fun p n => h.same p (hp p n)

theorem keep_ite {m : Nat} {s a b : State} {c : Prop} [Decidable c] (h : Keep m s a) (k : Keep m s b) : Keep m s (if c then a else b) := by
  split <;> assumption
theorem keep_ite2 {m : Nat} {α : Type} {s : State} {a b : α × State} {c : Prop} [Decidable c] (h : Keep m s a.2) (k : Keep m s b.2) :
    Keep m s (if c then a else b).2 := by
  split <;> assumption
theorem keep_ite22 {m : Nat} {α β : Type} {s : State} {a b : α × β × State} {c : Prop} [Decidable c] (h : Keep m s a.2.2)
    (k : Keep m s b.2.2) : Keep m s (if c then a else b).2.2 := by
  split <;> assumption
theorem keep_pair {m : Nat} {α : Type} {s t : State} {a : α} (h : Keep m s t) : Keep m s (a, t).2 := h
theorem keep_snd {m : Nat} {α : Type} {s t : State} {a : α} {x : α × State} (e : x = (a, t)) (h : Keep m s x.2) : Keep m s t := by
  subst e; exact h
theorem keep_snd22 {m : Nat} {α β : Type} {s t : State} {a : α} {b : β} {x : α × β × State} (e : x = (a, b, t)) (h : Keep m s x.2.2) :
    Keep m s t := by
  subst e; exact h
theorem keep_foldl {m : Nat} {α : Type} {s t : State} {l : List α} {f : State → α → State} (h : Keep m s t)
    (k : ∀ s x, Keep m s (f s x)) : Keep m s (l.foldl f t) := by
  induction l generalizing t with
  | nil => exact h
  | cons x l ih => exact ih (h.trans' (k t x))
theorem keep_each {m : Nat} {α : Type} {s t : State} {l : List α} {f : State → α → State} (h : Keep m s t)
    (k : ∀ s x, Keep m s (f s x)) : Keep m s (t.each l f) := keep_foldl h k
theorem keep_foldl2 {m : Nat} {α β : Type} {s : State} {t : β × State} {l : List α} {f : β × State → α → β × State} (h : Keep m s t.2)
    (k : ∀ a x, Keep m a.2 (f a x).2) : Keep m s (l.foldl f t).2 := by
  induction l generalizing t with
  | nil => exact h
  | cons x l ih => exact ih (h.trans' (k t x))

/-- The same for an operation that may answer nothing. -/
def KeepO (m : Nat) (s : State) (o : Option State) : Prop := ∀ t, o = some t → Keep m s t
theorem keepO_none {m : Nat} (s : State) : KeepO m s none := fun _ h => nomatch h
theorem keepO_some {m : Nat} {s t : State} (h : Keep m s t) : KeepO m s (some t) := fun _ e => by cases e; exact h
theorem keepO_ite {m : Nat} {s : State} {a b : Option State} {c : Prop} [Decidable c] (h : KeepO m s a) (k : KeepO m s b) :
    KeepO m s (if c then a else b) := by
  split <;> assumption
theorem keepO_trans {m a : Nat} {s t : State} {o : Option State} (h : Keep m s t) (k : KeepO a t o) (hm : Incl a m) : KeepO m s o :=
  fun u e => h.trans (k u e) hm
theorem keepO_trans' {m : Nat} {s t : State} {o : Option State} (h : Keep m s t) (k : KeepO m t o) : KeepO m s o :=
  fun u e => h.trans' (k u e)
theorem keep_opt {m : Nat} {s t : State} {x : Option State} (e : x = some t) (h : KeepO m s x) : Keep m s t := h t e
theorem keep_getD {m : Nat} {s t : State} {x : Option State} (h : KeepO m s x) (k : Keep m s t) : Keep m s (x.getD t) := by
  cases x with
  | none => exact k
  | some u => exact h u rfl

theorem keep_mk_boot {m : Nat} {s t : State} {x_boot : Boot} (h : Keep m s t) (hb : x_boot.flash = t.boot.flash) (hm : Incl 0x200000000 m) :
    Keep m s { t with boot := x_boot } := by
  refine h.trans (a := 0x200000000) ⟨fun w => State.wf_mk w id id id id id id id id (fun a => by rw [hb]; exact a), id, rfl, fun p hp => ?_⟩ hm
  cases p <;> first | rfl | exact hb | exact absurd hp (by decide)

theorem keep_mk_brg {m : Nat} {s t : State} {x_brg : Brg} (h : Keep m s t) (hm : Incl 0x100000000 m) :
    Keep m s { t with brg := x_brg } := by
  refine h.trans (a := 0x100000000) ⟨fun w => State.wf_mk w id id id id id id id id id, id, rfl, fun p hp => ?_⟩ hm
  cases p <;> first | rfl | exact absurd hp (by decide)

theorem keep_mk_bsn {m : Nat} {s t : State} {x_bsn : Bsn} (h : Keep m s t) (hm : Incl 0x4000 m) :
    Keep m s { t with bsn := x_bsn } := by
  refine h.trans (a := 0x4000) ⟨fun w => State.wf_mk w id id id id id id id id id, id, rfl, fun p hp => ?_⟩ hm
  cases p <;> first | rfl | exact absurd hp (by decide)

theorem keep_mk_copies {m : Nat} {s t : State} {x_copies : List Copy} (h : Keep m s t) (hm : Incl 0x100 m) :
    Keep m s { t with copies := x_copies } := by
  refine h.trans (a := 0x100) ⟨fun w => State.wf_mk w id id id id id id id id id, id, rfl, fun p hp => ?_⟩ hm
  cases p <;> first | rfl | exact absurd hp (by decide)

theorem keep_mk_copies_nextCid {m : Nat} {s t : State} {x_copies : List Copy} {x_nextCid : Nat} (h : Keep m s t) (hm : Incl 0x500 m) :
    Keep m s { t with copies := x_copies, nextCid := x_nextCid } := by
  refine h.trans (a := 0x500) ⟨fun w => State.wf_mk w id id id id id id id id id, id, rfl, fun p hp => ?_⟩ hm
  cases p <;> first | rfl | exact absurd hp (by decide)

theorem keep_mk_copies_slc {m : Nat} {s t : State} {x_copies : List Copy} {x_slc : Slc} (h : Keep m s t) (hm : Incl 0x1100 m) :
    Keep m s { t with copies := x_copies, slc := x_slc } := by
  refine h.trans (a := 0x1100) ⟨fun w => State.wf_mk w id id id id id id id id id, id, rfl, fun p hp => ?_⟩ hm
  cases p <;> first | rfl | exact absurd hp (by decide)

theorem keep_mk_copies_twp {m : Nat} {s t : State} {x_copies : List Copy} {x_twp : Twp} (h : Keep m s t) (hm : Incl 0x4000100 m) :
    Keep m s { t with copies := x_copies, twp := x_twp } := by
  refine h.trans (a := 0x4000100) ⟨fun w => State.wf_mk w id id id id id id id id id, id, rfl, fun p hp => ?_⟩ hm
  cases p <;> first | rfl | exact absurd hp (by decide)

theorem keep_mk_cph {m : Nat} {s t : State} {x_cph : Cph} (h : Keep m s t) (hm : Incl 0x10000000 m) :
    Keep m s { t with cph := x_cph } := by
  refine h.trans (a := 0x10000000) ⟨fun w => State.wf_mk w id id id id id id id id id, id, rfl, fun p hp => ?_⟩ hm
  cases p <;> first | rfl | exact absurd hp (by decide)

theorem keep_mk_cpu {m : Nat} {s t : State} {x_cpu : Cpu} (h : Keep m s t) (hm : Incl 0x80000000 m) :
    Keep m s { t with cpu := x_cpu } := by
  refine h.trans (a := 0x80000000) ⟨fun w => State.wf_mk w id id id id id id id id id, id, rfl, fun p hp => ?_⟩ hm
  cases p <;> first | rfl | exact absurd hp (by decide)

theorem keep_mk_crs {m : Nat} {s t : State} {x_crs : Crs} (h : Keep m s t) (hm : Incl 0x8000 m) :
    Keep m s { t with crs := x_crs } := by
  refine h.trans (a := 0x8000) ⟨fun w => State.wf_mk w id id id id id id id id id, id, rfl, fun p hp => ?_⟩ hm
  cases p <;> first | rfl | exact absurd hp (by decide)

theorem keep_mk_crs_fltCond {m : Nat} {s t : State} {x_crs : Crs} {x_fltCond : Word} (h : Keep m s t) (hm : Incl 0x48000 m) :
    Keep m s { t with crs := x_crs, fltCond := x_fltCond } := by
  refine h.trans (a := 0x48000) ⟨fun w => State.wf_mk w id id id id id id id id id, id, rfl, fun p hp => ?_⟩ hm
  cases p <;> first | rfl | exact absurd hp (by decide)

theorem keep_mk_fltCond {m : Nat} {s t : State} {x_fltCond : Word} (h : Keep m s t) (hm : Incl 0x40000 m) :
    Keep m s { t with fltCond := x_fltCond } := by
  refine h.trans (a := 0x40000) ⟨fun w => State.wf_mk w id id id id id id id id id, id, rfl, fun p hp => ?_⟩ hm
  cases p <;> first | rfl | exact absurd hp (by decide)

theorem keep_mk_fltDue {m : Nat} {s t : State} {x_fltDue : List (Nat × Nat)} (h : Keep m s t) (hm : Incl 0x100000 m) :
    Keep m s { t with fltDue := x_fltDue } := by
  refine h.trans (a := 0x100000) ⟨fun w => State.wf_mk w id id id id id id id id id, id, rfl, fun p hp => ?_⟩ hm
  cases p <;> first | rfl | exact absurd hp (by decide)

theorem keep_mk_fltNow {m : Nat} {s t : State} {x_fltNow : List Nat} (h : Keep m s t) (hm : Incl 0x80000 m) :
    Keep m s { t with fltNow := x_fltNow } := by
  refine h.trans (a := 0x80000) ⟨fun w => State.wf_mk w id id id id id id id id id, id, rfl, fun p hp => ?_⟩ hm
  cases p <;> first | rfl | exact absurd hp (by decide)

theorem keep_mk_fltNow_fltDue {m : Nat} {s t : State} {x_fltNow : List Nat} {x_fltDue : List (Nat × Nat)} (h : Keep m s t) (hm : Incl 0x180000 m) :
    Keep m s { t with fltNow := x_fltNow, fltDue := x_fltDue } := by
  refine h.trans (a := 0x180000) ⟨fun w => State.wf_mk w id id id id id id id id id, id, rfl, fun p hp => ?_⟩ hm
  cases p <;> first | rfl | exact absurd hp (by decide)

theorem keep_mk_frames {m : Nat} {s t : State} {x_frames : List Frame} (h : Keep m s t) (hm : Incl 0x80 m) :
    Keep m s { t with frames := x_frames } := by
  refine h.trans (a := 0x80) ⟨fun w => State.wf_mk w id id id id id id id id id, id, rfl, fun p hp => ?_⟩ hm
  cases p <;> first | rfl | exact absurd hp (by decide)

theorem keep_mk_frames_copies {m : Nat} {s t : State} {x_frames : List Frame} {x_copies : List Copy} (h : Keep m s t) (hm : Incl 0x180 m) :
    Keep m s { t with frames := x_frames, copies := x_copies } := by
  refine h.trans (a := 0x180) ⟨fun w => State.wf_mk w id id id id id id id id id, id, rfl, fun p hp => ?_⟩ hm
  cases p <;> first | rfl | exact absurd hp (by decide)

theorem keep_mk_frames_nextFid {m : Nat} {s t : State} {x_frames : List Frame} {x_nextFid : Nat} (h : Keep m s t) (hm : Incl 0x280 m) :
    Keep m s { t with frames := x_frames, nextFid := x_nextFid } := by
  refine h.trans (a := 0x280) ⟨fun w => State.wf_mk w id id id id id id id id id, id, rfl, fun p hp => ?_⟩ hm
  cases p <;> first | rfl | exact absurd hp (by decide)

theorem keep_mk_fresh {m : Nat} {s t : State} {x_fresh : Nat} (h : Keep m s t) (hm : Incl 0x2000000000 m) :
    Keep m s { t with fresh := x_fresh } := by
  refine h.trans (a := 0x2000000000) ⟨fun w => State.wf_mk w id id id id id id id id id, id, rfl, fun p hp => ?_⟩ hm
  cases p <;> first | rfl | exact absurd hp (by decide)

theorem keep_mk_gwe {m : Nat} {s t : State} {x_gwe : Gwe} (h : Keep m s t) (hm : Incl 0x40000000 m) :
    Keep m s { t with gwe := x_gwe } := by
  refine h.trans (a := 0x40000000) ⟨fun w => State.wf_mk w id id id id id id id id id, id, rfl, fun p hp => ?_⟩ hm
  cases p <;> first | rfl | exact absurd hp (by decide)

theorem keep_mk_key {m : Nat} {s t : State} {x_key : KeyS} (h : Keep m s t) (hm : Incl 0x8000000 m) :
    Keep m s { t with key := x_key } := by
  refine h.trans (a := 0x8000000) ⟨fun w => State.wf_mk w id id id id id id id id id, id, rfl, fun p hp => ?_⟩ hm
  cases p <;> first | rfl | exact absurd hp (by decide)

theorem keep_mk_la {m : Nat} {s t : State} {x_la : La} (h : Keep m s t) (hm : Incl 0x20000000 m) :
    Keep m s { t with la := x_la } := by
  refine h.trans (a := 0x20000000) ⟨fun w => State.wf_mk w id id id id id id id id id, id, rfl, fun p hp => ?_⟩ hm
  cases p <;> first | rfl | exact absurd hp (by decide)

theorem keep_mk_lkp {m : Nat} {s t : State} {x_lkp : Lkp} (h : Keep m s t) (hm : Incl 0x10000 m) :
    Keep m s { t with lkp := x_lkp } := by
  refine h.trans (a := 0x10000) ⟨fun w => State.wf_mk w id id id id id id id id id, id, rfl, fun p hp => ?_⟩ hm
  cases p <;> first | rfl | exact absurd hp (by decide)

theorem keep_mk_marker {m : Nat} {s t : State} {x_marker : Marker} (h : Keep m s t) (hm : Incl 0x40 m) :
    Keep m s { t with marker := x_marker } := by
  refine h.trans (a := 0x40) ⟨fun w => State.wf_mk w id id id id id id id id id, id, rfl, fun p hp => ?_⟩ hm
  cases p <;> first | rfl | exact absurd hp (by decide)

theorem keep_mk_msixMask_msixFn {m : Nat} {s t : State} {x_msixMask : Word} {x_msixFn : Bool} (h : Keep m s t) (hm : Incl 0x600000 m) :
    Keep m s { t with msixMask := x_msixMask, msixFn := x_msixFn } := by
  refine h.trans (a := 0x600000) ⟨fun w => State.wf_mk w id id id id id id id id id, id, rfl, fun p hp => ?_⟩ hm
  cases p <;> first | rfl | exact absurd hp (by decide)

theorem keep_mk_msixMask_msixFn_msixPba {m : Nat} {s t : State} {x_msixMask : Word} {x_msixFn : Bool} {x_msixPba : Word} (h : Keep m s t) (hm : Incl 0xe00000 m) :
    Keep m s { t with msixMask := x_msixMask, msixFn := x_msixFn, msixPba := x_msixPba } := by
  refine h.trans (a := 0xe00000) ⟨fun w => State.wf_mk w id id id id id id id id id, id, rfl, fun p hp => ?_⟩ hm
  cases p <;> first | rfl | exact absurd hp (by decide)

theorem keep_mk_msixPba {m : Nat} {s t : State} {x_msixPba : Word} (h : Keep m s t) (hm : Incl 0x800000 m) :
    Keep m s { t with msixPba := x_msixPba } := by
  refine h.trans (a := 0x800000) ⟨fun w => State.wf_mk w id id id id id id id id id, id, rfl, fun p hp => ?_⟩ hm
  cases p <;> first | rfl | exact absurd hp (by decide)

theorem keep_mk_notes {m : Nat} {s t : State} {x_notes : List Note} (h : Keep m s t) (hm : Incl 0x1000000 m) :
    Keep m s { t with notes := x_notes } := by
  refine h.trans (a := 0x1000000) ⟨fun w => State.wf_mk w id id id id id id id id id, id, rfl, fun p hp => ?_⟩ hm
  cases p <;> first | rfl | exact absurd hp (by decide)

theorem keep_mk_notes_twp_brg {m : Nat} {s t : State} {x_notes : List Note} {x_twp : Twp} {x_brg : Brg} (h : Keep m s t) (hm : Incl 0x105000000 m) :
    Keep m s { t with notes := x_notes, twp := x_twp, brg := x_brg } := by
  refine h.trans (a := 0x105000000) ⟨fun w => State.wf_mk w id id id id id id id id id, id, rfl, fun p hp => ?_⟩ hm
  cases p <;> first | rfl | exact absurd hp (by decide)

theorem keep_mk_slc {m : Nat} {s t : State} {x_slc : Slc} (h : Keep m s t) (hm : Incl 0x1000 m) :
    Keep m s { t with slc := x_slc } := by
  refine h.trans (a := 0x1000) ⟨fun w => State.wf_mk w id id id id id id id id id, id, rfl, fun p hp => ?_⟩ hm
  cases p <;> first | rfl | exact absurd hp (by decide)

theorem keep_mk_str {m : Nat} {s t : State} {x_str : Str} (h : Keep m s t) (hm : Incl 0x2000 m) :
    Keep m s { t with str := x_str } := by
  refine h.trans (a := 0x2000) ⟨fun w => State.wf_mk w id id id id id id id id id, id, rfl, fun p hp => ?_⟩ hm
  cases p <;> first | rfl | exact absurd hp (by decide)

theorem keep_mk_tim {m : Nat} {s t : State} {x_tim : Tim} (h : Keep m s t) (hm : Incl 0x10 m) :
    Keep m s { t with tim := x_tim } := by
  refine h.trans (a := 0x10) ⟨fun w => State.wf_mk w id id id id id id id id id, id, rfl, fun p hp => ?_⟩ hm
  cases p <;> first | rfl | exact absurd hp (by decide)

theorem keep_mk_tim_wak {m : Nat} {s t : State} {x_tim : Tim} {x_wak : Wak} (h : Keep m s t) (hm : Incl 0x800000010 m) :
    Keep m s { t with tim := x_tim, wak := x_wak } := by
  refine h.trans (a := 0x800000010) ⟨fun w => State.wf_mk w id id id id id id id id id, id, rfl, fun p hp => ?_⟩ hm
  cases p <;> first | rfl | exact absurd hp (by decide)

theorem keep_mk_twp {m : Nat} {s t : State} {x_twp : Twp} (h : Keep m s t) (hm : Incl 0x4000000 m) :
    Keep m s { t with twp := x_twp } := by
  refine h.trans (a := 0x4000000) ⟨fun w => State.wf_mk w id id id id id id id id id, id, rfl, fun p hp => ?_⟩ hm
  cases p <;> first | rfl | exact absurd hp (by decide)

theorem keep_mk_twp_boot {m : Nat} {s t : State} {x_twp : Twp} {x_boot : Boot} (h : Keep m s t) (hb : x_boot.flash = t.boot.flash) (hm : Incl 0x204000000 m) :
    Keep m s { t with twp := x_twp, boot := x_boot } := by
  refine h.trans (a := 0x204000000) ⟨fun w => State.wf_mk w id id id id id id id id (fun a => by rw [hb]; exact a), id, rfl, fun p hp => ?_⟩ hm
  cases p <;> first | rfl | exact hb | exact absurd hp (by decide)

theorem keep_mk_upd {m : Nat} {s t : State} {x_upd : Upd} (h : Keep m s t) (hm : Incl 0x400000000 m) :
    Keep m s { t with upd := x_upd } := by
  refine h.trans (a := 0x400000000) ⟨fun w => State.wf_mk w id id id id id id id id id, id, rfl, fun p hp => ?_⟩ hm
  cases p <;> first | rfl | exact absurd hp (by decide)

theorem keep_mk_wak {m : Nat} {s t : State} {x_wak : Wak} (h : Keep m s t) (hm : Incl 0x800000000 m) :
    Keep m s { t with wak := x_wak } := by
  refine h.trans (a := 0x800000000) ⟨fun w => State.wf_mk w id id id id id id id id id, id, rfl, fun p hp => ?_⟩ hm
  cases p <;> first | rfl | exact absurd hp (by decide)

theorem keep_mk_wire {m : Nat} {s t : State} {x_wire : List Emit} (h : Keep m s t) (hm : Incl 0x4000000000 m) :
    Keep m s { t with wire := x_wire } := by
  refine h.trans (a := 0x4000000000) ⟨fun w => State.wf_mk w id id id id id id id id id, id, rfl, fun p hp => ?_⟩ hm
  cases p <;> first | rfl | exact absurd hp (by decide)

theorem keep_mk_crs_lkp {m : Nat} {s t : State} {x_crs : Crs} {x_lkp : Lkp} (h : Keep m s t) (hm : Incl 0x18000 m) :
    Keep m s { t with crs := x_crs, lkp := x_lkp } := by
  refine h.trans (a := 0x18000) ⟨fun w => State.wf_mk w id id id id id id id id id, id, rfl, fun p hp => ?_⟩ hm
  cases p <;> first | rfl | exact absurd hp (by decide)

theorem keep_mk_frames_str_crs_notes_twp_brg {m : Nat} {s t : State} {x_frames : List Frame} {x_str : Str} {x_crs : Crs} {x_notes : List Note} {x_twp : Twp} {x_brg : Brg} (h : Keep m s t) (hm : Incl 0x10500a080 m) :
    Keep m s { t with frames := x_frames, str := x_str, crs := x_crs, notes := x_notes, twp := x_twp, brg := x_brg } := by
  refine h.trans (a := 0x10500a080) ⟨fun w => State.wf_mk w id id id id id id id id id, id, rfl, fun p hp => ?_⟩ hm
  cases p <;> first | rfl | exact absurd hp (by decide)

theorem keep_mk_msixMask_msixFn_brg {m : Nat} {s t : State} {x_msixMask : Word} {x_msixFn : Bool} {x_brg : Brg} (h : Keep m s t) (hm : Incl 0x100600000 m) :
    Keep m s { t with msixMask := x_msixMask, msixFn := x_msixFn, brg := x_brg } := by
  refine h.trans (a := 0x100600000) ⟨fun w => State.wf_mk w id id id id id id id id id, id, rfl, fun p hp => ?_⟩ hm
  cases p <;> first | rfl | exact absurd hp (by decide)

theorem keep_mk_msixMask_msixFn_msixPba_brg {m : Nat} {s t : State} {x_msixMask : Word} {x_msixFn : Bool} {x_msixPba : Word} {x_brg : Brg} (h : Keep m s t) (hm : Incl 0x100e00000 m) :
    Keep m s { t with msixMask := x_msixMask, msixFn := x_msixFn, msixPba := x_msixPba, brg := x_brg } := by
  refine h.trans (a := 0x100e00000) ⟨fun w => State.wf_mk w id id id id id id id id id, id, rfl, fun p hp => ?_⟩ hm
  cases p <;> first | rfl | exact absurd hp (by decide)

theorem keep_mk_boot_upd {m : Nat} {s t : State} {x_boot : Boot} {x_upd : Upd} (h : Keep m s t) (hb : x_boot.flash = t.boot.flash) (hm : Incl 0x600000000 m) :
    Keep m s { t with boot := x_boot, upd := x_upd } := by
  refine h.trans (a := 0x600000000) ⟨fun w => State.wf_mk w id id id id id id id id (fun a => by rw [hb]; exact a), id, rfl, fun p hp => ?_⟩ hm
  cases p <;> first | rfl | exact hb | exact absurd hp (by decide)

theorem keep_mk_frames_slc_str_crs_notes_twp_brg {m : Nat} {s t : State} {x_frames : List Frame} {x_slc : Slc} {x_str : Str} {x_crs : Crs} {x_notes : List Note} {x_twp : Twp} {x_brg : Brg} (h : Keep m s t) (hm : Incl 0x10500b080 m) :
    Keep m s { t with frames := x_frames, slc := x_slc, str := x_str, crs := x_crs, notes := x_notes, twp := x_twp, brg := x_brg } := by
  refine h.trans (a := 0x10500b080) ⟨fun w => State.wf_mk w id id id id id id id id id, id, rfl, fun p hp => ?_⟩ hm
  cases p <;> first | rfl | exact absurd hp (by decide)

end Sys2Proof.Machine
end

