-- ==== Sys2Proof/Laws/KeepOps.lean ====
section
/-! SUPPORT. What the operations of Machine/Ops.lean keep. -/

set_option linter.unusedVariables false
set_option maxRecDepth 4000

namespace Sys2Proof.Machine

theorem State.wr_keep (s : State) (a : Nat) (w : Word) : Keep 0x1 s (s.wr a w) :=
  ⟨fun h => State.wf_mk h (fun h => Sparse.wf_set _ _ h) id id id id id id id id, id, rfl, fun p hp => by cases p <;> first | rfl | exact absurd hp (by decide)⟩

theorem State.set_keep (s : State) (f : Fld) (v : Nat) : Keep 0x1 s (State.set s f v) := by
  unfold State.set
  with_reducible (refine Keep.trans ?_ (State.wr_keep ..) rfl; exact Keep.refl _)

theorem State.setBit_keep (s : State) (f : Fld) (b : Bool) : Keep 0x1 s (State.setBit s f b) := by
  unfold State.setBit
  with_reducible (refine Keep.trans ?_ (State.set_keep ..) rfl; exact Keep.refl _)

theorem State.setCnt_keep (s : State) (a : Nat) (v : DWord) : Keep 0x2 s (s.setCnt a v) :=
  ⟨fun h => State.wf_mk h id (fun h => Sparse.wf_set _ _ h) id id id id id id id, id, rfl, fun p hp => by cases p <;> first | rfl | exact absurd hp (by decide)⟩

theorem State.bumpBy_keep (s : State) (a n : Nat) : Keep 0x2 s (State.bumpBy s a n) := by
  unfold State.bumpBy
  with_reducible (refine Keep.trans ?_ (State.setCnt_keep ..) rfl; exact Keep.refl _)

theorem State.bump_keep (s : State) (a : Nat) : Keep 0x2 s (State.bump s a) := by
  unfold State.bump
  with_reducible (refine Keep.trans ?_ (State.bumpBy_keep ..) rfl; exact Keep.refl _)

theorem State.setHeld_keep (s : State) (i : Initiator) (a : Nat) (w : Word) : Keep 0x4 s (s.setHeld i a w) :=
  ⟨fun h => State.wf_mk h id id (fun h => Sparse.wf_set _ _ h) id id id id id id, id, rfl, fun p hp => by cases p <;> first | rfl | exact absurd hp (by decide)⟩

theorem State.emit_keep (s : State) (e : Emit) : Keep 0x4000000000 s (State.emit s e) := by
  unfold State.emit
  with_reducible (refine keep_mk_wire ?_ rfl; exact Keep.refl _)

theorem State.draw_keep (s : State) : Keep 0x2000000000 s (State.draw s).2 := by
  unfold State.draw
  with_reducible (refine keep_pair ?_; refine keep_mk_fresh ?_ rfl; exact Keep.refl _)

theorem State.setTab_keep (s : State) (k : Nat) (v : Word) : Keep 0x8 s (s.setTab k v) :=
  ⟨fun h => State.wf_mk h id id id (fun h => Sparse.wf_set _ _ h) id id id id id, id, rfl, fun p hp => by cases p <;> first | rfl | exact absurd hp (by decide)⟩

theorem State.eraseTabs_keep (s : State) (k : Nat) : Keep 0x8 s { s with tabs := Sparse.erase s.tabs k } :=
  ⟨fun h => State.wf_mk h id id id (fun h => Sparse.wf_erase _ h) id id id id id, id, rfl, fun p hp => by cases p <;> first | rfl | exact absurd hp (by decide)⟩

theorem State.filterTabs_keep (s : State) (p : Nat × Word → Bool) : Keep 0x8 s { s with tabs := s.tabs.filter p } :=
  ⟨fun h => State.wf_mk h id id id (fun h => Sparse.wf_filter _ h) id id id id id, id, rfl, fun p hp => by cases p <;> first | rfl | exact absurd hp (by decide)⟩

theorem State.clearMem_keep (s : State) : Keep 0x1000000000 s { s with mem := [] } :=
  ⟨fun h => State.wf_mk h id id id id id id id (fun _ => rfl) id, id, rfl, fun p hp => by cases p <;> first | rfl | exact absurd hp (by decide)⟩

theorem State.setTw_keep (s : State) (blk tbl bank idx w : Nat) (v : Word) : Keep 0x8 s (s.setTw blk tbl bank idx w v) :=
  State.setTab_keep s (tkey blk tbl bank idx w) v

theorem State.setEntry_keep (s : State) (blk tbl bank idx : Nat) (z0 : Nat) (z1 : List Word) : Keep 0x8 s (State.setEntry s blk tbl bank idx z0 z1) := by
  induction z1 generalizing s z0 with
  | nil => exact Keep.refl _
  | cons x l ih => exact (State.setTw_keep ..).trans' (ih ..)

theorem State.tbump_keep (s : State) (blk tbl idx w n : Nat) : Keep 0x8 s (State.tbump s blk tbl idx w n) := by
  unfold State.tbump
  with_reducible
    dsimp only; refine Keep.trans ?_ (State.setTw_keep ..) rfl; refine Keep.trans ?_ (State.setTw_keep ..) rfl
    exact Keep.refl _

theorem State.setPin_keep (s : State) (p : Nat) (x : Pin) : Keep 0x20 s (s.setPin p x) :=
  ⟨fun h => State.wf_mk h id id id id (fun h => Sparse.wf_set _ _ h) id id id id, id, rfl, fun p hp => by cases p <;> first | rfl | exact absurd hp (by decide)⟩

theorem State.setMac_keep (s : State) (p : Nat) (x : Mac) : Keep 0x800 s (s.setMac p x) :=
  ⟨fun h => State.wf_mk h id id id id id (fun h => Sparse.wf_set _ _ h) id id id, id, rfl, fun p hp => by cases p <;> first | rfl | exact absurd hp (by decide)⟩

theorem State.setCan_keep (s : State) (c : Nat) (x : CanCh) : Keep 0x2000000 s (s.setCan c x) :=
  ⟨fun h => State.wf_mk h id id id id id id (fun h => Sparse.wf_set _ _ h) id id, id, rfl, fun p hp => by cases p <;> first | rfl | exact absurd hp (by decide)⟩

theorem State.putFrame_keep (s : State) (f : Frame) : Keep 0x80 s (State.putFrame s f) := by
  unfold State.putFrame
  with_reducible (refine keep_mk_frames ?_ rfl; exact Keep.refl _)

theorem State.dropFrame_keep (s : State) (fid : Nat) : Keep 0x80 s (State.dropFrame s fid) := by
  unfold State.dropFrame
  with_reducible (refine keep_mk_frames ?_ rfl; exact Keep.refl _)

theorem State.addFrame_keep (s : State) (f : Frame) : Keep 0x280 s (State.addFrame s f) := by
  unfold State.addFrame
  with_reducible (refine keep_mk_frames_nextFid ?_ rfl; exact Keep.refl _)

theorem State.putCopy_keep (s : State) (c : Copy) : Keep 0x100 s (State.putCopy s c) := by
  unfold State.putCopy
  with_reducible (refine keep_mk_copies ?_ rfl; exact Keep.refl _)

theorem State.dropCopy_keep (s : State) (cid : Nat) : Keep 0x100 s (State.dropCopy s cid) := by
  unfold State.dropCopy
  with_reducible (refine keep_mk_copies ?_ rfl; exact Keep.refl _)

theorem State.offerP15_keep (s : State) (src : Nat) (data : Bytes) (origin : Option (Nat × Nat)) (ts : Option Nat) : Keep 0x280 s (State.offerP15 s src data origin ts) := by
  unfold State.offerP15
  with_reducible (refine Keep.trans ?_ (State.addFrame_keep ..) rfl; exact Keep.refl _)

end Sys2Proof.Machine
end

