-- ==== Sys2Proof/Laws/KeepFlags.lean ====
section
/-! SUPPORT. What the operations of Machine/Flags.lean keep. -/

set_option linter.unusedVariables false
set_option maxRecDepth 4000

namespace Sys2Proof.Machine

theorem State.fltLevels_keep (s : State) : Keep 0x4000000001 s (State.fltLevels s) := by
  unfold State.fltLevels
  with_reducible
    dsimp only; refine keep_ite ?_ ?_; refine Keep.trans ?_ (State.setBit_keep ..) rfl
    refine Keep.trans ?_ (State.setBit_keep ..) rfl; exact Keep.refl _; refine Keep.trans ?_ (State.emit_keep ..) rfl
    refine Keep.trans ?_ (State.setBit_keep ..) rfl; refine Keep.trans ?_ (State.setBit_keep ..) rfl; exact Keep.refl _

theorem State.sendVector_keep (s : State) (v : Nat) : Keep 0x4000800000 s (State.sendVector s v) := by
  unfold State.sendVector
  with_reducible
    refine keep_ite ?_ ?_; refine keep_mk_msixPba ?_ rfl; exact Keep.refl _; refine keep_ite ?_ ?_
    refine Keep.trans ?_ (State.emit_keep ..) rfl; exact Keep.refl _; exact Keep.refl _

theorem keep_log {m : Nat} {s t : State} {e : List Word} {a : Nat} {f : Fld} (h : Keep m s t) (hm : Incl 0x20003 m) :
    Keep m s (if t.fltLog.length < 32 then { t with fltLog := t.fltLog ++ [e] } else (t.bump a).setBit f true) := by
  split
  · refine h.trans (a := 0x20000) ⟨fun w => State.wf_mk w id id id id id id id id id, fun _ => ?_, rfl, fun p hp => by cases p <;> first | rfl | exact absurd hp (by decide)⟩ (Incl.trans rfl hm)
    simp only [List.length_append, List.length_cons, List.length_nil]; omega
  · exact (h.trans (State.bump_keep ..) (Incl.trans rfl hm)).trans (State.setBit_keep ..) (Incl.trans rfl hm)

theorem State.logFault_keep (s : State) (src cls : Nat) : Keep 0x20003 s (s.logFault src cls) := by
  unfold State.logFault
  refine keep_log ?_ rfl
  with_reducible
    refine keep_ite ?_ ?_; exact Keep.refl _; refine Keep.trans ?_ (State.wr_keep ..) rfl
    refine Keep.trans ?_ (State.wr_keep ..) rfl; refine Keep.trans ?_ (State.set_keep ..) rfl
    refine Keep.trans ?_ (State.set_keep ..) rfl; refine Keep.trans ?_ (State.setBit_keep ..) rfl; exact Keep.refl _

theorem State.notePending_keep (s : State) (src : Nat) : Keep 0x4000820003 s (State.notePending s src) := by
  unfold State.notePending
  with_reducible
    refine keep_ite ?_ ?_; exact Keep.refl _; dsimp only; refine Keep.trans ?_ (State.fltLevels_keep ..) rfl
    refine keep_ite ?_ ?_; refine Keep.trans ?_ (State.sendVector_keep ..) rfl
    refine Keep.trans ?_ (State.bump_keep ..) rfl; refine Keep.trans ?_ (State.logFault_keep ..) rfl
    refine Keep.trans ?_ (State.wr_keep ..) rfl; exact Keep.refl _; refine Keep.trans ?_ (State.bump_keep ..) rfl
    refine Keep.trans ?_ (State.logFault_keep ..) rfl; refine Keep.trans ?_ (State.wr_keep ..) rfl; exact Keep.refl _

theorem State.assertSource_keep (s : State) (src : Nat) : Keep 0x100000 s (State.assertSource s src) := by
  unfold State.assertSource
  with_reducible (refine keep_ite ?_ ?_; exact Keep.refl _; refine keep_mk_fltDue ?_ rfl; exact Keep.refl _)

theorem State.stopPending_keep (s : State) (src : Nat) : Keep 0x4000000001 s (State.stopPending s src) := by
  unfold State.stopPending
  with_reducible
    refine keep_ite ?_ ?_; refine Keep.trans ?_ (State.fltLevels_keep ..) rfl; refine Keep.trans ?_ (State.wr_keep ..) rfl
    exact Keep.refl _; exact Keep.refl _

theorem State.refreshSource_keep (s : State) (src : Nat) : Keep 0x100000 s (State.refreshSource s src) := by
  unfold State.refreshSource
  with_reducible (refine keep_ite ?_ ?_; refine Keep.trans ?_ (State.assertSource_keep ..) rfl; exact Keep.refl _; exact Keep.refl _)

theorem State.markSet_keep (s : State) (a n : Nat) : Keep 0x80000 s (State.markSet s a n) := by
  unfold State.markSet
  with_reducible (refine keep_ite ?_ ?_; exact Keep.refl _; refine keep_mk_fltNow ?_ rfl; exact Keep.refl _)

theorem State.raise_keep (s : State) (f : Fld) : Keep 0x180001 s (State.raise s f) := by
  unfold State.raise
  with_reducible
    dsimp only; refine keep_ite ?_ ?_; refine Keep.trans ?_ (State.assertSource_keep ..) rfl
    refine Keep.trans ?_ (State.markSet_keep ..) rfl; refine Keep.trans ?_ (State.set_keep ..) rfl; exact Keep.refl _
    refine Keep.trans ?_ (State.markSet_keep ..) rfl; refine Keep.trans ?_ (State.set_keep ..) rfl; exact Keep.refl _

theorem State.direct_keep (s : State) (src : Nat) : Keep 0x180001 s (State.direct s src) := by
  unfold State.direct
  with_reducible
    refine Keep.trans ?_ (State.assertSource_keep ..) rfl; refine Keep.trans ?_ (State.markSet_keep ..) rfl
    refine Keep.trans ?_ (State.wr_keep ..) rfl; exact Keep.refl _

theorem State.gwEvent_keep (s : State) (cause ch fifo : Nat) (ide : Bool) (id : Nat) : Keep 0x40180001 s (State.gwEvent s cause ch fifo ide id) := by
  unfold State.gwEvent
  with_reducible
    refine keep_ite ?_ ?_; refine Keep.trans ?_ (State.raise_keep ..) rfl; exact Keep.refl _; dsimp only
    refine Keep.trans ?_ (State.raise_keep ..) rfl; refine keep_mk_gwe ?_ rfl; exact Keep.refl _

theorem State.oneShotFail_keep (s : State) (c f cause : Nat) (m : CanMsg) : Keep 0x40180003 s (State.oneShotFail s c f cause m) := by
  unfold State.oneShotFail
  with_reducible (refine Keep.trans ?_ (State.gwEvent_keep ..) rfl; refine Keep.trans ?_ (State.bump_keep ..) rfl; exact Keep.refl _)

theorem State.cancelEnd_keep (s : State) (c res : Nat) : Keep 0x2000001 s (State.cancelEnd s c res) := by
  unfold State.cancelEnd
  with_reducible
    dsimp only; refine Keep.trans ?_ (State.set_keep ..) rfl; refine Keep.trans ?_ (State.setBit_keep ..) rfl
    refine Keep.trans ?_ (State.setCan_keep ..) rfl; exact Keep.refl _

theorem State.attemptFails_keep (s : State) (c : Nat) : Keep 0x42180003 s (State.attemptFails s c) := by
  unfold State.attemptFails
  with_reducible
    dsimp only; split; exact Keep.refl _; split; refine Keep.trans ?_ (State.setCan_keep ..) rfl; exact Keep.refl _
    refine keep_ite ?_ ?_; refine keep_ite ?_ ?_; refine Keep.trans ?_ (State.cancelEnd_keep ..) rfl
    refine Keep.trans ?_ (State.oneShotFail_keep ..) rfl; refine Keep.trans ?_ (State.setCan_keep ..) rfl
    exact Keep.refl _; refine Keep.trans ?_ (State.oneShotFail_keep ..) rfl
    refine Keep.trans ?_ (State.setCan_keep ..) rfl; exact Keep.refl _; refine keep_ite ?_ ?_
    refine Keep.trans ?_ (State.cancelEnd_keep ..) rfl; refine Keep.trans ?_ (State.bump_keep ..) rfl
    refine Keep.trans ?_ (State.setCan_keep ..) rfl; exact Keep.refl _; refine Keep.trans ?_ (State.setCan_keep ..) rfl
    exact Keep.refl _

theorem State.delayMeasured_keep (s : State) (c : Nat) : Keep 0x2000000001 s (State.delayMeasured s c) := by
  unfold State.delayMeasured
  with_reducible
    dsimp only; refine keep_ite ?_ ?_; refine Keep.trans ?_ (State.set_keep ..) rfl
    refine Keep.trans ?_ (State.draw_keep ..) rfl; exact Keep.refl _; exact Keep.refl _

theorem State.canCut_keep (s : State) (c : Nat) : Keep 0x2042180003 s (State.canCut s c) := by
  unfold State.canCut
  with_reducible
    refine keep_ite ?_ ?_; exact Keep.refl _; dsimp only; refine keep_ite ?_ ?_
    refine Keep.trans ?_ (State.set_keep ..) rfl; refine Keep.trans ?_ (State.setCan_keep ..) rfl
    refine Keep.trans ?_ (State.attemptFails_keep ..) rfl; refine Keep.trans ?_ (State.delayMeasured_keep ..) rfl
    exact Keep.refl _; refine Keep.trans ?_ (State.setCan_keep ..) rfl
    refine Keep.trans ?_ (State.attemptFails_keep ..) rfl; refine Keep.trans ?_ (State.delayMeasured_keep ..) rfl
    exact Keep.refl _

theorem State.claimsChanged_keep (s : State) : Keep 0x2042180023 s (State.claimsChanged s) := by
  unfold State.claimsChanged
  with_reducible
    dsimp only; refine keep_ite ?_ ?_; refine keep_each ?_ ?_; refine keep_each ?_ ?_
    refine Keep.trans ?_ (State.setBit_keep ..) rfl; exact Keep.refl _; intro _; intro _; refine keep_ite ?_ ?_
    refine Keep.trans ?_ (State.setPin_keep ..) rfl; exact Keep.refl _; exact Keep.refl _; intro _; intro _
    refine keep_ite ?_ ?_; refine Keep.trans ?_ (State.set_keep ..) rfl; refine Keep.trans ?_ (State.setBit_keep ..) rfl
    refine Keep.trans ?_ (State.canCut_keep ..) rfl; exact Keep.refl _; exact Keep.refl _
    refine Keep.trans ?_ (State.setBit_keep ..) rfl; exact Keep.refl _

theorem State.setClaim_keep (s : State) (rank epoch : Nat) : Keep 0x2042180023 s (State.setClaim s rank epoch) := by
  unfold State.setClaim
  with_reducible (refine Keep.trans ?_ (State.claimsChanged_keep ..) rfl; refine Keep.trans ?_ (State.set_keep ..) rfl; exact Keep.refl _)

theorem State.isolateClaim_keep (s : State) : Keep 0x2042180023 s (State.isolateClaim s) := by
  unfold State.isolateClaim
  with_reducible
    refine keep_ite ?_ ?_; refine Keep.trans ?_ (State.raise_keep ..) rfl
    refine Keep.trans ?_ (State.setClaim_keep ..) rfl; exact Keep.refl _; exact Keep.refl _

theorem State.becomePending_keep (s : State) (src : Nat) : Keep 0x60429a0023 s (State.becomePending s src) := by
  unfold State.becomePending
  with_reducible
    dsimp only; refine keep_ite ?_ ?_; refine Keep.trans ?_ (State.isolateClaim_keep ..) rfl
    refine Keep.trans ?_ (State.notePending_keep ..) rfl; exact Keep.refl _
    refine Keep.trans ?_ (State.notePending_keep ..) rfl; exact Keep.refl _

theorem State.fltClock_keep (s : State) : Keep 0x180000 s (State.fltClock s) := by
  unfold State.fltClock
  with_reducible (refine keep_mk_fltNow_fltDue ?_ rfl; exact Keep.refl _)

theorem State.fltReady_keep (s : State) : Keep 0x60429a0023 s (State.fltReady s) := by
  unfold State.fltReady
  with_reducible
    dsimp only; refine keep_each ?_ ?_; refine keep_each ?_ ?_; refine keep_each ?_ ?_; refine keep_mk_fltDue ?_ rfl
    exact Keep.refl _; intro _; intro _; refine keep_ite ?_ ?_; refine Keep.trans ?_ (State.becomePending_keep ..) rfl
    exact Keep.refl _; exact Keep.refl _; intro _; intro _; refine keep_ite ?_ ?_
    refine Keep.trans ?_ (State.stopPending_keep ..) rfl; exact Keep.refl _; exact Keep.refl _; intro _; intro _
    refine keep_ite ?_ ?_; refine Keep.trans ?_ (State.direct_keep ..) rfl; exact Keep.refl _; exact Keep.refl _

theorem State.violation_keep (s : State) : Keep 0x180001 s (State.violation s) := by
  unfold State.violation
  with_reducible (refine Keep.trans ?_ (State.direct_keep ..) rfl; exact Keep.refl _)

theorem State.lockedWrite_keep (s : State) : Keep 0x180001 s (State.lockedWrite s) := by
  unfold State.lockedWrite
  with_reducible (refine Keep.trans ?_ (State.direct_keep ..) rfl; exact Keep.refl _)

theorem State.yieldRank_keep (s : State) (r : Nat) : Keep 0x180003 s (State.yieldRank s r) := by
  unfold State.yieldRank
  with_reducible (refine Keep.trans ?_ (State.direct_keep ..) rfl; refine Keep.trans ?_ (State.bump_keep ..) rfl; exact Keep.refl _)

end Sys2Proof.Machine
end

