-- ==== Sys2Proof/Laws/KeepOperands.lean ====
section
/-! SUPPORT. What the operations of Machine/Operands.lean keep. -/

set_option linter.unusedVariables false
set_option maxRecDepth 4000

namespace Sys2Proof.Machine

theorem State.reply_keep (s : State) (ini : Initiator) (drop : Bool) (r : BusEnd) : Keep 0x4000000000 s (State.reply s ini drop r) := by
  unfold State.reply
  with_reducible (refine keep_ite ?_ ?_; exact Keep.refl _; refine Keep.trans ?_ (State.emit_keep ..) rfl; exact Keep.refl _)

theorem State.writeEnd_keepF {m : Nat} {s0 s : State} {ini : Initiator} {a : Nat} {f : State → State} (h : Keep m s0 s) (hf : ∀ s, Keep m s (f s))
    (hm : Incl 0x180001 m) : Keep m s0 (State.writeEnd s ini a f).2 := by
  refine h.trans' ?_
  unfold State.writeEnd
  split
  · exact (State.violation_keep s).mono (Incl.trans rfl hm)
  · split
    · exact (State.violation_keep s).mono (Incl.trans rfl hm)
    · exact hf s

theorem State.writeAt_keepF {m : Nat} {s0 s : State} {ini : Initiator} {a : Nat} {f : State → State} (h : Keep m s0 s) (hf : ∀ s, Keep m s (f s))
    (hm : Incl 0x4000180001 m) : Keep m s0 (State.writeAt s ini a f) := by
  unfold State.writeAt
  split
  · exact h
  · exact (State.writeEnd_keepF h hf (Incl.trans rfl hm)).trans (State.emit_keep ..) (Incl.trans rfl hm)

theorem State.readEnd_keepF {m : Nat} {s0 s : State} {ini : Initiator} {a : Nat} {f : State → Word × State} (h : Keep m s0 s) (hf : ∀ s, Keep m s (f s).2)
    (hm : Incl 0x180001 m) : Keep m s0 (State.readEnd s ini a f).2 := by
  refine h.trans' ?_
  unfold State.readEnd
  split
  · exact (State.violation_keep s).mono (Incl.trans rfl hm)
  · split
    · exact (State.violation_keep s).mono (Incl.trans rfl hm)
    · exact hf s

theorem State.readAt_keepF {m : Nat} {s0 s : State} {ini : Initiator} {a : Nat} {f : State → Word × State} (h : Keep m s0 s) (hf : ∀ s, Keep m s (f s).2)
    (hm : Incl 0x4000180001 m) : Keep m s0 (State.readAt s ini a f) := by
  unfold State.readAt
  split
  · exact h
  · exact (State.readEnd_keepF h hf (Incl.trans rfl hm)).trans (State.emit_keep ..) (Incl.trans rfl hm)

theorem State.plainWrite_keep (s : State) (a : Nat) (w bar : Word) : Keep 0x180001 s (State.plainWrite s a w bar) := by
  unfold State.plainWrite
  with_reducible
    split; exact Keep.refl _; dsimp only; refine keep_ite ?_ ?_; refine Keep.trans ?_ (State.lockedWrite_keep ..) rfl
    refine Keep.trans ?_ (State.wr_keep ..) rfl; exact Keep.refl _; refine Keep.trans ?_ (State.wr_keep ..) rfl
    exact Keep.refl _

theorem State.afterEvent_keep (s : State) (a : Nat) : Keep 0x100000 s (State.afterEvent s a) := by
  unfold State.afterEvent
  with_reducible (refine Keep.trans ?_ (State.refreshSource_keep ..) rfl; exact Keep.refl _)

theorem State.tableAct_keepF {m : Nat} {s0 s : State} {ini : Initiator} {bit : Nat} {busy : Bool} {f : State → State} (h : Keep m s0 s) (hf : ∀ s, Keep m s (f s))
    (hm : Incl 0x180001 m) : Keep m s0 (s.tableAct ini bit busy f) := by
  unfold State.tableAct
  split
  · exact h.trans (State.violation_keep s) (Incl.trans rfl hm)
  · split
    · exact h
    · exact h.trans' (hf s)

theorem State.tableWrite_keepF {m : Nat} {s0 s : State} {ini : Initiator} {bit a : Nat} {busy : Bool} {f : State → State} (h : Keep m s0 s) (hf : ∀ s, Keep m s (f s))
    (hm : Incl 0x4000180001 m) : Keep m s0 (s.tableWrite ini bit a busy f) :=
  State.writeAt_keepF h (fun _ => State.tableAct_keepF (Keep.refl _) hf (Incl.trans rfl hm)) (Incl.trans rfl hm)

theorem State.fillWindow_keep (s : State) (base n : Nat) (ws : List Word) : Keep 0x1 s (State.fillWindow s base n ws) := by
  unfold State.fillWindow
  with_reducible
    refine keep_each ?_ ?_; exact Keep.refl _; intro _; intro _; refine Keep.trans ?_ (State.wr_keep ..) rfl
    exact Keep.refl _

end Sys2Proof.Machine
end

