-- ==== Sys2Proof/Laws/KeepBuf.lean ====
section
/-! SUPPORT. What the operations of Machine/Buf.lean keep. -/

set_option linter.unusedVariables false
set_option maxRecDepth 4000

namespace Sys2Proof.Machine

theorem State.putBuf_keep (s : State) (b : Buf) : Keep 0x4000 s (State.putBuf s b) := by
  unfold State.putBuf
  with_reducible (refine keep_mk_bsn ?_ rfl; exact Keep.refl _)

theorem State.versionRelease_keep (s : State) (f : Frame) : Keep 0x1 s (State.versionRelease s f) := by
  unfold State.versionRelease
  with_reducible (refine keep_ite ?_ ?_; refine Keep.trans ?_ (State.set_keep ..) rfl; exact Keep.refl _; exact Keep.refl _)

theorem State.endFrame_keep (s : State) (fid : Nat) : Keep 0x1181 s (State.endFrame s fid) := by
  unfold State.endFrame
  with_reducible
    split; exact Keep.refl _; dsimp only; refine keep_mk_copies_slc ?_ rfl
    refine Keep.trans ?_ (State.dropFrame_keep ..) rfl; refine Keep.trans ?_ (State.versionRelease_keep ..) rfl
    exact Keep.refl _

theorem State.freeBuf_keep (s : State) (b : Buf) : Keep 0x5181 s (State.freeBuf s b) := by
  unfold State.freeBuf
  with_reducible
    dsimp only; refine Keep.trans ?_ (State.endFrame_keep ..) rfl; refine keep_ite ?_ ?_
    refine Keep.trans ?_ (State.putBuf_keep ..) rfl; exact Keep.refl _; refine keep_mk_bsn ?_ rfl
    refine Keep.trans ?_ (State.putBuf_keep ..) rfl; exact Keep.refl _

theorem State.rejectRelease_keep (s : State) (agent slice handle : Nat) (stale : Bool) : Keep 0x180003 s (State.rejectRelease s agent slice handle stale) := by
  unfold State.rejectRelease
  with_reducible
    dsimp only; refine Keep.trans ?_ (State.raise_keep ..) rfl; refine keep_ite ?_ ?_
    refine Keep.trans ?_ (State.bump_keep ..) rfl; exact Keep.refl _; refine Keep.trans ?_ (State.set_keep ..) rfl
    refine Keep.trans ?_ (State.wr_keep ..) rfl; refine Keep.trans ?_ (State.bump_keep ..) rfl; exact Keep.refl _

theorem State.releaseBuf_keep (s : State) (agent slice handle : Nat) : Keep 0x185183 s (State.releaseBuf s agent slice handle).2 := by
  unfold State.releaseBuf
  with_reducible
    dsimp only; split; refine keep_pair ?_; refine Keep.trans ?_ (State.rejectRelease_keep ..) rfl; exact Keep.refl _
    refine keep_ite2 ?_ ?_; refine keep_pair ?_; refine Keep.trans ?_ (State.rejectRelease_keep ..) rfl; exact Keep.refl _
    refine keep_ite2 ?_ ?_; refine keep_pair ?_; refine Keep.trans ?_ (State.rejectRelease_keep ..) rfl; exact Keep.refl _
    refine keep_pair ?_; refine keep_ite ?_ ?_; refine Keep.trans ?_ (State.freeBuf_keep ..) rfl; exact Keep.refl _
    refine Keep.trans ?_ (State.putBuf_keep ..) rfl; exact Keep.refl _

theorem State.outRelease_keep (s : State) (fid p : Nat) : Keep 0x185183 s (State.outRelease s fid p) := by
  unfold State.outRelease
  with_reducible
    split; refine keep_ite ?_ ?_; refine Keep.trans ?_ (State.releaseBuf_keep ..) rfl; exact Keep.refl _
    exact Keep.refl _; exact Keep.refl _

theorem State.seqUsed_keep (s : State) (key : Nat) : Keep 0x4000000 s (State.seqUsed s key) := by
  unfold State.seqUsed
  with_reducible (refine keep_mk_twp ?_ rfl; exact Keep.refl _)

theorem State.twSend_keep (s : State) (key type : Nat) (ws : List Word) : Keep 0x4004000000 s (State.twSend s key type ws) := by
  unfold State.twSend
  with_reducible
    refine keep_ite ?_ ?_; exact Keep.refl _; refine keep_each ?_ ?_; exact Keep.refl _; intro _; intro _
    refine Keep.trans ?_ (State.seqUsed_keep ..) rfl; refine Keep.trans ?_ (State.emit_keep ..) rfl; exact Keep.refl _

theorem State.noteSend_keep (s : State) (c : Copy) (kind : Nat) : Keep 0x4004000000 s (State.noteSend s c kind) := by
  unfold State.noteSend
  with_reducible
    split; refine keep_ite ?_ ?_; refine Keep.trans ?_ (State.twSend_keep ..) rfl; exact Keep.refl _; exact Keep.refl _
    exact Keep.refl _

theorem State.copyEnds_keep (s : State) (c : Copy) : Keep 0x185183 s (State.copyEnds s c) := by
  unfold State.copyEnds
  with_reducible
    dsimp only; refine keep_ite ?_ ?_; refine Keep.trans ?_ (State.dropCopy_keep ..) rfl; exact Keep.refl _
    refine Keep.trans ?_ (State.outRelease_keep ..) rfl; refine Keep.trans ?_ (State.dropCopy_keep ..) rfl
    exact Keep.refl _

theorem State.copyQuiet_keep (s : State) (c : Copy) : Keep 0x185183 s (State.copyQuiet s c) := by
  unfold State.copyQuiet
  with_reducible
    refine keep_ite ?_ ?_; refine Keep.trans ?_ (State.copyEnds_keep ..) rfl; exact Keep.refl _
    refine Keep.trans ?_ (State.putCopy_keep ..) rfl; exact Keep.refl _

theorem State.copyLeaves_keep (s : State) (c : Copy) (kind : Nat) : Keep 0x4004185183 s (State.copyLeaves s c kind) := by
  unfold State.copyLeaves
  with_reducible (refine Keep.trans ?_ (State.copyQuiet_keep ..) rfl; refine Keep.trans ?_ (State.noteSend_keep ..) rfl; exact Keep.refl _)

theorem State.ageDrop_keep (s : State) (c : Copy) : Keep 0x4004185183 s (State.ageDrop s c) := by
  unfold State.ageDrop
  with_reducible
    refine Keep.trans ?_ (State.copyLeaves_keep ..) rfl; refine Keep.trans ?_ (State.raise_keep ..) rfl
    refine Keep.trans ?_ (State.bump_keep ..) rfl; exact Keep.refl _

theorem State.ageHeads_keep (s : State) (i o c z0 : Nat) : Keep 0x4004185183 s (State.ageHeads s i o c z0) := by
  induction z0 generalizing s i o c with
  | zero => exact Keep.refl _
  | succ n ih =>
    unfold State.ageHeads
    with_reducible
      split; refine keep_ite ?_ ?_; refine Keep.trans ?_ (ih ..) rfl; refine Keep.trans ?_ (State.ageDrop_keep ..) rfl
      exact Keep.refl _; exact Keep.refl _; exact Keep.refl _

theorem State.newHead_keep (s : State) (i o c : Nat) : Keep 0x4004185183 s (State.newHead s i o c) := by
  unfold State.newHead
  with_reducible (refine Keep.trans ?_ (State.ageHeads_keep ..) rfl; exact Keep.refl _)

theorem State.copyGone_keep (s : State) (c : Copy) : Keep 0x4004185183 s (State.copyGone s c) := by
  unfold State.copyGone
  with_reducible
    dsimp only; refine keep_ite ?_ ?_; refine Keep.trans ?_ (State.newHead_keep ..) rfl
    refine Keep.trans ?_ (State.copyLeaves_keep ..) rfl; exact Keep.refl _
    refine Keep.trans ?_ (State.copyLeaves_keep ..) rfl; exact Keep.refl _

theorem State.dropUnqueued_keep (s : State) (fid : Nat) : Keep 0x5181 s (State.dropUnqueued s fid) := by
  unfold State.dropUnqueued
  with_reducible
    split; exact Keep.refl _; split; split; refine Keep.trans ?_ (State.freeBuf_keep ..) rfl; exact Keep.refl _
    refine Keep.trans ?_ (State.endFrame_keep ..) rfl; exact Keep.refl _
    refine Keep.trans ?_ (State.endFrame_keep ..) rfl; exact Keep.refl _

theorem State.withdrawFree_keep (s : State) (slice pool idx : Nat) (b : Buf) : Keep 0x184001 s (State.withdrawFree s slice pool idx b) := by
  unfold State.withdrawFree
  with_reducible
    refine keep_ite ?_ ?_; exact Keep.refl _; dsimp only; refine keep_mk_bsn ?_ rfl; refine keep_ite ?_ ?_
    refine Keep.trans ?_ (State.putBuf_keep ..) rfl; refine Keep.trans ?_ (State.raise_keep ..) rfl; refine keep_ite ?_ ?_
    exact Keep.refl _; refine Keep.trans ?_ (State.wr_keep ..) rfl; exact Keep.refl _; refine keep_mk_bsn ?_ rfl
    refine Keep.trans ?_ (State.raise_keep ..) rfl; refine keep_ite ?_ ?_; exact Keep.refl _
    refine Keep.trans ?_ (State.wr_keep ..) rfl; exact Keep.refl _

theorem State.withdraw_keep (s : State) (fid : Nat) (ending : Option Nat) : Keep 0x4004185183 s (State.withdraw s fid ending) := by
  unfold State.withdraw
  with_reducible
    split; exact Keep.refl _; split; exact Keep.refl _; split; exact Keep.refl _; dsimp only; split; refine keep_ite ?_ ?_
    refine Keep.trans ?_ (State.freeBuf_keep ..) rfl; refine keep_each ?_ ?_
    refine Keep.trans ?_ (State.putBuf_keep ..) rfl; refine Keep.trans ?_ (State.raise_keep ..) rfl; refine keep_ite ?_ ?_
    exact Keep.refl _; refine Keep.trans ?_ (State.wr_keep ..) rfl; exact Keep.refl _; intro _; intro _
    refine keep_ite ?_ ?_; refine Keep.trans ?_ (State.putCopy_keep ..) rfl; exact Keep.refl _; refine keep_ite ?_ ?_
    exact Keep.refl _; refine Keep.trans ?_ (State.copyGone_keep ..) rfl; exact Keep.refl _; refine keep_each ?_ ?_
    refine Keep.trans ?_ (State.putBuf_keep ..) rfl; refine Keep.trans ?_ (State.raise_keep ..) rfl; refine keep_ite ?_ ?_
    exact Keep.refl _; refine Keep.trans ?_ (State.wr_keep ..) rfl; exact Keep.refl _; intro _; intro _
    refine keep_ite ?_ ?_; refine Keep.trans ?_ (State.putCopy_keep ..) rfl; exact Keep.refl _; refine keep_ite ?_ ?_
    exact Keep.refl _; refine Keep.trans ?_ (State.copyGone_keep ..) rfl; exact Keep.refl _; refine keep_each ?_ ?_
    refine Keep.trans ?_ (State.putBuf_keep ..) rfl; refine Keep.trans ?_ (State.raise_keep ..) rfl; refine keep_ite ?_ ?_
    exact Keep.refl _; refine Keep.trans ?_ (State.wr_keep ..) rfl; exact Keep.refl _; intro _; intro _
    refine keep_ite ?_ ?_; refine Keep.trans ?_ (State.putCopy_keep ..) rfl; exact Keep.refl _; refine keep_ite ?_ ?_
    exact Keep.refl _; refine Keep.trans ?_ (State.copyGone_keep ..) rfl; exact Keep.refl _

theorem State.noteRelease_keep (s : State) (c : Copy) (counter : Nat) : Keep 0x4004185183 s (State.noteRelease s c counter) := by
  unfold State.noteRelease
  with_reducible
    dsimp only; refine keep_ite ?_ ?_; refine Keep.trans ?_ (State.newHead_keep ..) rfl
    refine Keep.trans ?_ (State.bump_keep ..) rfl; refine Keep.trans ?_ (State.copyQuiet_keep ..) rfl; exact Keep.refl _
    refine Keep.trans ?_ (State.bump_keep ..) rfl; refine Keep.trans ?_ (State.copyQuiet_keep ..) rfl; exact Keep.refl _

theorem State.noteMatch_keep (s : State) (c : Copy) : Keep 0x4004185183 s (State.noteMatch s c) := by
  unfold State.noteMatch
  with_reducible
    dsimp only; refine Keep.trans ?_ (State.bump_keep ..) rfl; refine Keep.trans ?_ (State.noteRelease_keep ..) rfl
    refine keep_each ?_ ?_; exact Keep.refl _; intro _; intro _; refine Keep.trans ?_ (State.noteRelease_keep ..) rfl
    exact Keep.refl _

theorem State.matchWaiting_keep (s : State) (c : Copy) : Keep 0x4005185183 s (State.matchWaiting s c) := by
  unfold State.matchWaiting
  with_reducible
    split; exact Keep.refl _; refine keep_ite ?_ ?_; exact Keep.refl _; split
    refine Keep.trans ?_ (State.noteMatch_keep ..) rfl; refine keep_mk_notes ?_ rfl; exact Keep.refl _; exact Keep.refl _

theorem State.admitCopy_keep (s : State) (f : Frame) (t : Target) : Keep 0x180503 s (State.admitCopy s f t).2 := by
  unfold State.admitCopy
  with_reducible
    dsimp only; refine keep_ite2 ?_ ?_; refine keep_pair ?_; refine Keep.trans ?_ (State.bump_keep ..) rfl
    exact Keep.refl _; refine keep_ite2 ?_ ?_; refine keep_pair ?_; refine Keep.trans ?_ (State.raise_keep ..) rfl
    refine Keep.trans ?_ (State.bump_keep ..) rfl; exact Keep.refl _; refine keep_pair ?_
    refine keep_mk_copies_nextCid ?_ rfl; exact Keep.refl _

theorem State.admitAll_keep (s : State) (f : Frame) : Keep 0x180503 s (State.admitAll s f).2 := by
  unfold State.admitAll
  with_reducible
    refine keep_foldl2 ?_ ?_; refine keep_pair ?_; exact Keep.refl _; intro _; intro _; split; refine keep_pair ?_
    refine keep_snd (by assumption) ?_; refine Keep.trans ?_ (State.admitCopy_keep ..) rfl; exact Keep.refl _
    refine keep_pair ?_; refine keep_snd (by assumption) ?_; refine Keep.trans ?_ (State.admitCopy_keep ..) rfl
    exact Keep.refl _

theorem State.letIn_keep (s : State) (fid : Nat) : Keep 0x4005185583 s (State.letIn s fid) := by
  unfold State.letIn
  with_reducible
    split; exact Keep.refl _; split; exact Keep.refl _; split; exact Keep.refl _; split; dsimp only; refine keep_ite ?_ ?_
    refine Keep.trans ?_ (State.freeBuf_keep ..) rfl; refine Keep.trans ?_ (State.putFrame_keep ..) rfl
    refine keep_snd (by assumption) ?_; refine Keep.trans ?_ (State.admitAll_keep ..) rfl; exact Keep.refl _
    refine keep_each ?_ ?_; refine Keep.trans ?_ (State.putBuf_keep ..) rfl
    refine Keep.trans ?_ (State.putFrame_keep ..) rfl; refine keep_snd (by assumption) ?_
    refine Keep.trans ?_ (State.admitAll_keep ..) rfl; exact Keep.refl _; intro _; intro _; refine keep_ite ?_ ?_
    refine Keep.trans ?_ (State.newHead_keep ..) rfl; refine Keep.trans ?_ (State.matchWaiting_keep ..) rfl
    exact Keep.refl _; refine Keep.trans ?_ (State.matchWaiting_keep ..) rfl; exact Keep.refl _

theorem State.admitInternal_keep (s : State) (fid : Nat) : Keep 0x4005185583 s (State.admitInternal s fid) := by
  unfold State.admitInternal
  with_reducible
    split; refine keep_ite ?_ ?_; refine Keep.trans ?_ (State.letIn_keep ..) rfl; exact Keep.refl _; exact Keep.refl _
    exact Keep.refl _

theorem State.failFrame_keep (s : State) (fid : Nat) (why : Stomp) : Keep 0x4004185183 s (State.failFrame s fid why) := by
  unfold State.failFrame
  with_reducible
    dsimp only; split; refine keep_each ?_ ?_; exact Keep.refl _; intro _; intro _; refine keep_ite ?_ ?_
    refine Keep.trans ?_ (State.putCopy_keep ..) rfl; exact Keep.refl _; refine keep_ite ?_ ?_; exact Keep.refl _
    refine Keep.trans ?_ (State.copyGone_keep ..) rfl; exact Keep.refl _; refine keep_ite ?_ ?_; refine keep_ite ?_ ?_
    refine Keep.trans ?_ (State.releaseBuf_keep ..) rfl; refine keep_mk_slc ?_ rfl; refine keep_each ?_ ?_
    exact Keep.refl _; intro _; intro _; refine keep_ite ?_ ?_; refine Keep.trans ?_ (State.putCopy_keep ..) rfl
    exact Keep.refl _; refine keep_ite ?_ ?_; exact Keep.refl _; refine Keep.trans ?_ (State.copyGone_keep ..) rfl
    exact Keep.refl _; refine keep_mk_slc ?_ rfl; refine keep_each ?_ ?_; exact Keep.refl _; intro _; intro _
    refine keep_ite ?_ ?_; refine Keep.trans ?_ (State.putCopy_keep ..) rfl; exact Keep.refl _; refine keep_ite ?_ ?_
    exact Keep.refl _; refine Keep.trans ?_ (State.copyGone_keep ..) rfl; exact Keep.refl _; refine keep_each ?_ ?_
    exact Keep.refl _; intro _; intro _; refine keep_ite ?_ ?_; refine Keep.trans ?_ (State.putCopy_keep ..) rfl
    exact Keep.refl _; refine keep_ite ?_ ?_; exact Keep.refl _; refine Keep.trans ?_ (State.copyGone_keep ..) rfl
    exact Keep.refl _

end Sys2Proof.Machine
end

