-- ==== Sys2Proof/Laws/KeepSlots.lean ====
section
/-! SUPPORT. What the operations of Machine/Slots.lean keep. -/

set_option linter.unusedVariables false
set_option maxRecDepth 4000

namespace Sys2Proof.Machine

theorem State.keyDenied_keep (s : State) : Keep 0x180003 s (State.keyDenied s) := by
  unfold State.keyDenied
  with_reducible (refine Keep.trans ?_ (State.raise_keep ..) rfl; refine Keep.trans ?_ (State.bump_keep ..) rfl; exact Keep.refl _)

theorem State.refTake_keep (s : State) (slot : Nat) : Keep 0x8 s (State.refTake s slot) := by
  unfold State.refTake
  with_reducible (refine Keep.trans ?_ (State.setTw_keep ..) rfl; exact Keep.refl _)

theorem State.refDrop_keep (s : State) (slot : Nat) : Keep 0x8 s (State.refDrop s slot) := by
  unfold State.refDrop
  with_reducible (refine Keep.trans ?_ (State.setTw_keep ..) rfl; exact Keep.refl _)

end Sys2Proof.Machine
end

