-- ==== Sys2Proof/Laws/KeepSecy.lean ====
section
/-! SUPPORT. What the operations of Machine/Secy.lean keep. -/

set_option linter.unusedVariables false
set_option maxRecDepth 4000

namespace Sys2Proof.Machine

theorem State.setNextPn_keep (s : State) (sa pn : Nat) : Keep 0x8 s (State.setNextPn s sa pn) := by
  unfold State.setNextPn
  with_reducible (refine Keep.trans ?_ (State.setEntry_keep ..) rfl; exact Keep.refl _)

theorem State.saCount_keep (s : State) (sa w : Nat) : Keep 0x8 s (State.saCount s sa w) := by
  unfold State.saCount
  with_reducible (refine Keep.trans ?_ (State.tbump_keep ..) rfl; exact Keep.refl _)

theorem State.secMeet_keep (s : State) (f : Frame) : Keep 0xa s (State.secMeet s f).2 := by
  unfold State.secMeet
  with_reducible
    refine keep_ite2 ?_ ?_; refine keep_pair ?_; exact Keep.refl _; split; refine keep_pair ?_; exact Keep.refl _
    refine keep_pair ?_; refine Keep.trans ?_ (State.bump_keep ..) rfl; exact Keep.refl _; refine keep_pair ?_
    refine Keep.trans ?_ (State.bump_keep ..) rfl; exact Keep.refl _; refine keep_pair ?_
    refine Keep.trans ?_ (State.saCount_keep ..) rfl; exact Keep.refl _; dsimp only; exact Keep.refl _

theorem State.pnEvent_keep (s : State) (sa which : Nat) : Keep 0x10180001 s (State.pnEvent s sa which) := by
  unfold State.pnEvent
  with_reducible
    refine keep_ite ?_ ?_; exact Keep.refl _; dsimp only; refine Keep.trans ?_ (State.raise_keep ..) rfl
    refine keep_ite ?_ ?_; refine keep_mk_cph ?_ rfl; exact Keep.refl _; refine Keep.trans ?_ (State.set_keep ..) rfl
    refine keep_mk_cph ?_ rfl; exact Keep.refl _

theorem State.pnMoved_keep (s : State) (sa : Nat) : Keep 0x10180001 s (State.pnMoved s sa) := by
  unfold State.pnMoved
  with_reducible
    dsimp only; refine keep_ite ?_ ?_; refine Keep.trans ?_ (State.pnEvent_keep ..) rfl; refine keep_ite ?_ ?_
    refine Keep.trans ?_ (State.pnEvent_keep ..) rfl; exact Keep.refl _; exact Keep.refl _; refine keep_ite ?_ ?_
    refine Keep.trans ?_ (State.pnEvent_keep ..) rfl; exact Keep.refl _; exact Keep.refl _

theorem State.secOut_keep (s : State) (o : Nat) (d : Bytes) (len : Nat) : Keep 0x1018000b s (State.secOut s o d len).2 := by
  unfold State.secOut
  with_reducible
    refine keep_ite2 ?_ ?_; refine keep_pair ?_; exact Keep.refl _; dsimp only; refine keep_ite2 ?_ ?_
    refine keep_pair ?_; refine Keep.trans ?_ (State.bump_keep ..) rfl; exact Keep.refl _; refine keep_ite2 ?_ ?_
    refine keep_pair ?_; refine Keep.trans ?_ (State.bump_keep ..) rfl; exact Keep.refl _; refine keep_ite2 ?_ ?_
    refine keep_pair ?_; refine Keep.trans ?_ (State.bump_keep ..) rfl; exact Keep.refl _; refine keep_pair ?_
    refine Keep.trans ?_ (State.pnMoved_keep ..) rfl; refine Keep.trans ?_ (State.saCount_keep ..) rfl
    refine Keep.trans ?_ (State.setNextPn_keep ..) rfl; exact Keep.refl _

end Sys2Proof.Machine
end

