-- ==== Sys2Proof/Laws/KeepSlc.lean ====
section
/-! SUPPORT. What the operations of Machine/Slc.lean keep. -/

set_option linter.unusedVariables false
set_option maxRecDepth 4000

namespace Sys2Proof.Machine

theorem State.slowFollow_keep (s : State) (f : Frame) : Keep 0x1000 s (State.slowFollow s f) := by
  unfold State.slowFollow
  with_reducible (dsimp only; refine keep_mk_slc ?_ rfl; exact Keep.refl _)

theorem State.countDelivery_keep (s : State) (reason : Nat) : Keep 0x2 s (State.countDelivery s reason) := by
  unfold State.countDelivery
  with_reducible (refine Keep.trans ?_ (State.bump_keep ..) rfl; exact Keep.refl _)

theorem State.deliver_keep (s : State) (reason : Nat) (f : Frame) : Keep 0x181003 s (State.deliver s reason f).2 := by
  unfold State.deliver
  with_reducible
    refine keep_ite2 ?_ ?_; dsimp only; refine keep_ite ?_ ?_; refine Keep.trans ?_ (State.countDelivery_keep ..) rfl
    refine keep_mk_slc ?_ rfl; exact Keep.refl _; refine keep_mk_slc ?_ rfl; exact Keep.refl _; refine keep_pair ?_
    refine Keep.trans ?_ (State.yieldRank_keep ..) rfl; refine Keep.trans ?_ (State.raise_keep ..) rfl
    refine Keep.trans ?_ (State.bump_keep ..) rfl; exact Keep.refl _

theorem State.zoneDrop_keep (s : State) (z n : Nat) : Keep 0x180003 s (State.zoneDrop s z n) := by
  unfold State.zoneDrop
  with_reducible
    refine keep_ite ?_ ?_; exact Keep.refl _; refine Keep.trans ?_ (State.raise_keep ..) rfl
    refine Keep.trans ?_ (State.bumpBy_keep ..) rfl; exact Keep.refl _

theorem State.forwardSet_keep (s : State) (a10 : Word) (f : Frame) : Keep 0x2 s (State.forwardSet s a10 f).2 := by
  unfold State.forwardSet
  with_reducible
    dsimp only; split; refine keep_pair ?_; exact Keep.refl _; refine keep_pair ?_; exact Keep.refl _; split
    refine keep_pair ?_; exact Keep.refl _; refine keep_pair ?_; refine Keep.trans ?_ (State.bump_keep ..) rfl
    exact Keep.refl _

theorem State.countRule_keep (s : State) (en : Bool) (ctr : Nat) (f : Frame) : Keep 0x8 s (State.countRule s en ctr f).2 := by
  unfold State.countRule
  with_reducible
    refine keep_ite2 ?_ ?_; refine keep_pair ?_; exact Keep.refl _; dsimp only; refine keep_ite2 ?_ ?_
    refine keep_pair ?_; refine Keep.trans ?_ (State.tbump_keep ..) rfl; refine Keep.trans ?_ (State.tbump_keep ..) rfl
    exact Keep.refl _; refine keep_pair ?_; refine Keep.trans ?_ (State.tbump_keep ..) rfl; exact Keep.refl _

theorem State.applyAction_keep (s : State) (a10 a11 : Word) (f : Frame) : Keep 0x185183 s (State.applyAction s a10 a11 f) := by
  unfold State.applyAction
  with_reducible
    dsimp only; refine keep_ite ?_ ?_; refine Keep.trans ?_ (State.dropUnqueued_keep ..) rfl
    refine Keep.trans ?_ (State.putFrame_keep ..) rfl; refine keep_ite ?_ ?_
    refine Keep.trans ?_ (State.bump_keep ..) rfl; refine keep_ite2 ?_ ?_; refine keep_pair ?_
    refine Keep.trans ?_ (State.deliver_keep ..) rfl; refine Keep.trans ?_ (State.zoneDrop_keep ..) rfl
    refine Keep.trans ?_ (State.forwardSet_keep ..) rfl; exact Keep.refl _; refine keep_pair ?_
    refine Keep.trans ?_ (State.zoneDrop_keep ..) rfl; refine Keep.trans ?_ (State.forwardSet_keep ..) rfl
    exact Keep.refl _; refine keep_ite2 ?_ ?_; refine keep_pair ?_; refine Keep.trans ?_ (State.deliver_keep ..) rfl
    refine Keep.trans ?_ (State.zoneDrop_keep ..) rfl; refine Keep.trans ?_ (State.forwardSet_keep ..) rfl
    exact Keep.refl _; refine keep_pair ?_; refine Keep.trans ?_ (State.zoneDrop_keep ..) rfl
    refine Keep.trans ?_ (State.forwardSet_keep ..) rfl; exact Keep.refl _
    refine Keep.trans ?_ (State.putFrame_keep ..) rfl; refine keep_ite2 ?_ ?_; refine keep_pair ?_
    refine Keep.trans ?_ (State.deliver_keep ..) rfl; refine Keep.trans ?_ (State.zoneDrop_keep ..) rfl
    refine Keep.trans ?_ (State.forwardSet_keep ..) rfl; exact Keep.refl _; refine keep_pair ?_
    refine Keep.trans ?_ (State.zoneDrop_keep ..) rfl; refine Keep.trans ?_ (State.forwardSet_keep ..) rfl
    exact Keep.refl _

theorem State.missAction_keep (s : State) (f : Frame) : Keep 0x18518b s (State.missAction s f) := by
  unfold State.missAction
  with_reducible
    dsimp only; refine Keep.trans ?_ (State.applyAction_keep ..) rfl; refine Keep.trans ?_ (State.countRule_keep ..) rfl
    refine Keep.trans ?_ (State.bump_keep ..) rfl; exact Keep.refl _

theorem State.slowFrame_keep (s : State) (reason : Nat) (f : Frame) : Keep 0x185183 s (State.slowFrame s reason f) := by
  unfold State.slowFrame
  with_reducible
    dsimp only; refine keep_ite ?_ ?_; refine Keep.trans ?_ (State.putFrame_keep ..) rfl
    refine Keep.trans ?_ (State.deliver_keep ..) rfl; exact Keep.refl _
    refine Keep.trans ?_ (State.dropUnqueued_keep ..) rfl; refine Keep.trans ?_ (State.putFrame_keep ..) rfl
    refine Keep.trans ?_ (State.deliver_keep ..) rfl; exact Keep.refl _

theorem State.failAct_keep (s : State) (f : Frame) : Keep 0x18518b s (State.failAct s f) := by
  unfold State.failAct
  with_reducible
    split; refine Keep.trans ?_ (State.slowFrame_keep ..) rfl; exact Keep.refl _
    refine Keep.trans ?_ (State.missAction_keep ..) rfl; exact Keep.refl _
    refine Keep.trans ?_ (State.dropUnqueued_keep ..) rfl; refine Keep.trans ?_ (State.putFrame_keep ..) rfl
    exact Keep.refl _

theorem State.slcEcc_keep (s : State) (tbl idx : Nat) : Keep 0x180001 s (State.slcEcc s tbl idx) := by
  unfold State.slcEcc
  with_reducible
    dsimp only; refine Keep.trans ?_ (State.raise_keep ..) rfl; refine keep_ite ?_ ?_; exact Keep.refl _
    refine Keep.trans ?_ (State.wr_keep ..) rfl; exact Keep.refl _

theorem State.lookupRule_keep (s : State) (f : Frame) (prof : Nat) (bad : Option (Fin 4)) : Keep 0x18518b s (State.lookupRule s f prof bad) := by
  unfold State.lookupRule
  with_reducible
    dsimp only; refine keep_ite ?_ ?_; refine Keep.trans ?_ (State.missAction_keep ..) rfl; exact Keep.refl _; split
    refine Keep.trans ?_ (State.failAct_keep ..) rfl; refine Keep.trans ?_ (State.bump_keep ..) rfl
    refine Keep.trans ?_ (State.slcEcc_keep ..) rfl; exact Keep.refl _; split
    refine Keep.trans ?_ (State.missAction_keep ..) rfl; exact Keep.refl _
    refine Keep.trans ?_ (State.applyAction_keep ..) rfl; refine Keep.trans ?_ (State.countRule_keep ..) rfl
    refine Keep.trans ?_ (State.bump_keep ..) rfl; refine keep_ite ?_ ?_; exact Keep.refl _
    refine Keep.trans ?_ (State.raise_keep ..) rfl; refine Keep.trans ?_ (State.set_keep ..) rfl
    refine Keep.trans ?_ (State.bump_keep ..) rfl; exact Keep.refl _

theorem State.sluice_keep (s : State) (fid : Nat) (bad : Option (Fin 4)) : Keep 0x18518b s (State.sluice s fid bad) := by
  unfold State.sluice
  with_reducible
    split; exact Keep.refl _; refine keep_ite ?_ ?_; exact Keep.refl _; dsimp only; refine keep_ite ?_ ?_
    refine Keep.trans ?_ (State.dropUnqueued_keep ..) rfl; refine Keep.trans ?_ (State.raise_keep ..) rfl
    refine Keep.trans ?_ (State.bump_keep ..) rfl; exact Keep.refl _; split; exact Keep.refl _
    refine Keep.trans ?_ (State.failAct_keep ..) rfl; refine Keep.trans ?_ (State.raise_keep ..) rfl
    refine Keep.trans ?_ (State.wr_keep ..) rfl; refine Keep.trans ?_ (State.bump_keep ..) rfl
    refine Keep.trans ?_ (State.bump_keep ..) rfl; refine Keep.trans ?_ (State.set_keep ..) rfl; exact Keep.refl _
    refine keep_ite ?_ ?_; refine Keep.trans ?_ (State.slowFrame_keep ..) rfl
    refine Keep.trans ?_ (State.bump_keep ..) rfl; refine Keep.trans ?_ (State.set_keep ..) rfl; exact Keep.refl _
    refine keep_ite ?_ ?_; refine Keep.trans ?_ (State.slowFrame_keep ..) rfl
    refine Keep.trans ?_ (State.bump_keep ..) rfl; refine Keep.trans ?_ (State.set_keep ..) rfl; exact Keep.refl _
    refine keep_ite ?_ ?_; exact Keep.refl _; refine Keep.trans ?_ (State.lookupRule_keep ..) rfl
    refine Keep.trans ?_ (State.bump_keep ..) rfl; refine Keep.trans ?_ (State.set_keep ..) rfl; exact Keep.refl _

theorem State.verLevels_keep (s : State) : Keep 0x1 s (State.verLevels s) := by
  unfold State.verLevels
  with_reducible (refine Keep.trans ?_ (State.setBit_keep ..) rfl; refine Keep.trans ?_ (State.setBit_keep ..) rfl; exact Keep.refl _)

theorem State.verRefuse_keep (s : State) : Keep 0x180001 s (State.verRefuse s) := by
  unfold State.verRefuse
  with_reducible (refine Keep.trans ?_ (State.raise_keep ..) rfl; exact Keep.refl _)

theorem State.setLive_keep (s : State) (v : Nat) (b : Bool) : Keep 0x1 s (State.setLive s v b) := by
  unfold State.setLive
  with_reducible (dsimp only; refine Keep.trans ?_ (State.set_keep ..) rfl; exact Keep.refl _)

theorem State.copyBank_keep (s : State) (src dst : Nat) : Keep 0x8 s (State.copyBank s src dst) := by
  unfold State.copyBank
  with_reducible
    dsimp only; refine keep_each ?_ ?_; refine keep_each ?_ ?_; exact Keep.refl _; intro _; intro _
    refine Keep.trans ?_ (State.eraseTabs_keep ..) rfl; exact Keep.refl _; intro _; intro _
    refine Keep.trans ?_ (State.setTab_keep ..) rfl; exact Keep.refl _

theorem State.verOpen_keep (s : State) : Keep 0x181009 s (State.verOpen s) := by
  unfold State.verOpen
  with_reducible
    refine keep_ite ?_ ?_; refine Keep.trans ?_ (State.verRefuse_keep ..) rfl; exact Keep.refl _; dsimp only
    refine keep_ite ?_ ?_; refine Keep.trans ?_ (State.verRefuse_keep ..) rfl; exact Keep.refl _
    refine Keep.trans ?_ (State.verLevels_keep ..) rfl; refine keep_mk_slc ?_ rfl
    refine Keep.trans ?_ (State.copyBank_keep ..) rfl; refine Keep.trans ?_ (State.set_keep ..) rfl
    refine Keep.trans ?_ (State.setLive_keep ..) rfl; exact Keep.refl _

theorem State.verCommitNow_keep (s : State) : Keep 0x181001 s (State.verCommitNow s) := by
  unfold State.verCommitNow
  with_reducible
    refine keep_ite ?_ ?_; refine Keep.trans ?_ (State.verRefuse_keep ..) rfl; exact Keep.refl _
    refine keep_mk_slc ?_ rfl; exact Keep.refl _

theorem State.verDisarm_keep (s : State) : Keep 0x1001 s (State.verDisarm s) := by
  unfold State.verDisarm
  with_reducible (refine Keep.trans ?_ (State.verLevels_keep ..) rfl; refine keep_mk_slc ?_ rfl; exact Keep.refl _)

theorem State.commitJump_keep (s : State) (q : Nat) : Keep 0x1000 s (State.commitJump s q) := by
  unfold State.commitJump
  with_reducible (split; refine keep_ite ?_ ?_; refine keep_mk_slc ?_ rfl; exact Keep.refl _; exact Keep.refl _; exact Keep.refl _)

theorem State.verFire_keep (s : State) (start : Nat) : Keep 0x181001 s (State.verFire s start) := by
  unfold State.verFire
  with_reducible
    split; exact Keep.refl _; dsimp only; refine Keep.trans ?_ (State.raise_keep ..) rfl
    refine Keep.trans ?_ (State.verLevels_keep ..) rfl; refine Keep.trans ?_ (State.setBit_keep ..) rfl
    refine Keep.trans ?_ (State.set_keep ..) rfl; refine keep_mk_slc ?_ rfl; exact Keep.refl _

theorem State.verRetire_keep (s : State) (v : Nat) : Keep 0x181001 s (State.verRetire s v) := by
  unfold State.verRetire
  with_reducible
    split; exact Keep.refl _; refine keep_ite ?_ ?_; dsimp only; refine Keep.trans ?_ (State.verLevels_keep ..) rfl
    refine keep_mk_slc ?_ rfl; refine Keep.trans ?_ (State.raise_keep ..) rfl
    refine Keep.trans ?_ (State.setLive_keep ..) rfl; exact Keep.refl _; exact Keep.refl _

theorem State.sweepClear_keep (s : State) (v : Nat) : Keep 0x8 s (State.sweepClear s v) := by
  unfold State.sweepClear
  with_reducible
    refine keep_each ?_ ?_; exact Keep.refl _; intro _; intro _; dsimp only
    refine Keep.trans ?_ (State.setTw_keep ..) rfl; exact Keep.refl _

theorem State.sweepOpen_keep (s : State) (n : Nat) : Keep 0x8 s (State.sweepOpen s n) := by
  unfold State.sweepOpen
  with_reducible
    refine keep_each ?_ ?_; exact Keep.refl _; intro _; intro _; dsimp only
    refine Keep.trans ?_ (State.setTw_keep ..) rfl; exact Keep.refl _

theorem State.sweepDone_keep (s : State) : Keep 0x181009 s (State.sweepDone s) := by
  unfold State.sweepDone
  with_reducible
    dsimp only; split; refine Keep.trans ?_ (State.raise_keep ..) rfl; refine Keep.trans ?_ (State.verLevels_keep ..) rfl
    refine keep_mk_slc ?_ rfl; refine Keep.trans ?_ (State.sweepClear_keep ..) rfl; exact Keep.refl _
    refine Keep.trans ?_ (State.raise_keep ..) rfl; refine Keep.trans ?_ (State.verLevels_keep ..) rfl
    refine keep_mk_slc ?_ rfl; refine Keep.trans ?_ (State.sweepClear_keep ..) rfl; exact Keep.refl _; exact Keep.refl _

theorem State.slcResult_keep (s : State) (res idx : Nat) : Keep 0x1 s (State.slcResult s res idx) := by
  unfold State.slcResult
  with_reducible (refine Keep.trans ?_ (State.wr_keep ..) rfl; exact Keep.refl _)

theorem State.slcWrite_keep (s : State) (tbl idx : Nat) : Keep 0x9 s (State.slcWrite s tbl idx) := by
  unfold State.slcWrite
  with_reducible
    dsimp only; refine keep_ite ?_ ?_; refine Keep.trans ?_ (State.slcResult_keep ..) rfl; exact Keep.refl _
    refine keep_ite ?_ ?_; refine keep_ite ?_ ?_; refine Keep.trans ?_ (State.slcResult_keep ..) rfl; exact Keep.refl _
    refine keep_ite ?_ ?_; refine Keep.trans ?_ (State.slcResult_keep ..) rfl; exact Keep.refl _
    refine Keep.trans ?_ (State.slcResult_keep ..) rfl; refine Keep.trans ?_ (State.setEntry_keep ..) rfl
    exact Keep.refl _; refine keep_ite ?_ ?_; split; refine Keep.trans ?_ (State.slcResult_keep ..) rfl; exact Keep.refl _
    refine Keep.trans ?_ (State.slcResult_keep ..) rfl; refine Keep.trans ?_ (State.setEntry_keep ..) rfl
    exact Keep.refl _; refine Keep.trans ?_ (State.slcResult_keep ..) rfl
    refine Keep.trans ?_ (State.setEntry_keep ..) rfl; exact Keep.refl _

theorem State.slcRead_keep (s : State) (tbl bank idx : Nat) (ecc : EccState) : Keep 0x180009 s (State.slcRead s tbl bank idx ecc) := by
  unfold State.slcRead
  with_reducible
    refine keep_ite ?_ ?_; refine Keep.trans ?_ (State.slcResult_keep ..) rfl
    refine Keep.trans ?_ (State.slcEcc_keep ..) rfl; exact Keep.refl _; dsimp only
    refine Keep.trans ?_ (State.slcResult_keep ..) rfl; refine keep_ite ?_ ?_
    refine Keep.trans ?_ (State.setEntry_keep ..) rfl; refine Keep.trans ?_ (State.fillWindow_keep ..) rfl
    exact Keep.refl _; refine Keep.trans ?_ (State.fillWindow_keep ..) rfl; exact Keep.refl _

theorem State.slcHash_keep (s : State) (tbl : Nat) : Keep 0x1 s (State.slcHash s tbl) := by
  unfold State.slcHash
  with_reducible
    refine Keep.trans ?_ (State.slcResult_keep ..) rfl; refine keep_each ?_ ?_; exact Keep.refl _; intro _; intro _
    refine Keep.trans ?_ (State.wr_keep ..) rfl; exact Keep.refl _

theorem State.slcMove_keep (s : State) (tbl idx dest : Nat) : Keep 0x9 s (State.slcMove s tbl idx dest) := by
  unfold State.slcMove
  with_reducible
    dsimp only; refine keep_ite ?_ ?_; refine Keep.trans ?_ (State.slcResult_keep ..) rfl; exact Keep.refl _
    refine keep_ite ?_ ?_; refine Keep.trans ?_ (State.slcResult_keep ..) rfl; exact Keep.refl _
    refine Keep.trans ?_ (State.slcResult_keep ..) rfl; refine Keep.trans ?_ (State.setEntry_keep ..) rfl
    refine Keep.trans ?_ (State.setEntry_keep ..) rfl; exact Keep.refl _

theorem State.slcLookup_keep (s : State) (tbl v : Nat) : Keep 0x1 s (State.slcLookup s tbl v) := by
  unfold State.slcLookup
  with_reducible
    split; refine Keep.trans ?_ (State.slcResult_keep ..) rfl; exact Keep.refl _
    refine Keep.trans ?_ (State.slcResult_keep ..) rfl; exact Keep.refl _

theorem State.slcRun_keep (s : State) (cmd : Word) (ecc : EccState) : Keep 0x180009 s (State.slcRun s cmd ecc) := by
  unfold State.slcRun
  with_reducible
    dsimp only; refine keep_ite ?_ ?_; refine Keep.trans ?_ (State.slcResult_keep ..) rfl; exact Keep.refl _
    refine keep_ite ?_ ?_; refine Keep.trans ?_ (State.slcResult_keep ..) rfl; exact Keep.refl _; split
    refine Keep.trans ?_ (State.slcRead_keep ..) rfl; exact Keep.refl _; refine Keep.trans ?_ (State.slcWrite_keep ..) rfl
    exact Keep.refl _; refine Keep.trans ?_ (State.slcHash_keep ..) rfl; exact Keep.refl _
    refine Keep.trans ?_ (State.slcMove_keep ..) rfl; exact Keep.refl _
    refine Keep.trans ?_ (State.slcLookup_keep ..) rfl; exact Keep.refl _

theorem State.slcCmd_keep (s : State) (cmd : Word) (ecc : EccState) : Keep 0x181009 s (State.slcCmd s cmd ecc) := by
  unfold State.slcCmd
  with_reducible
    refine keep_ite ?_ ?_; refine Keep.trans ?_ (State.setBit_keep ..) rfl; refine keep_mk_slc ?_ rfl; exact Keep.refl _
    refine Keep.trans ?_ (State.slcRun_keep ..) rfl; exact Keep.refl _

theorem State.slcTable_keep (s : State) (ini : Initiator) (cmd : Word) (ecc : EccState) : Keep 0x4000181009 s (State.slcTable s ini cmd ecc) := by
  unfold State.slcTable
  with_reducible
    refine State.tableWrite_keepF ?_ ?_ rfl; exact Keep.refl _; intro _; refine Keep.trans ?_ (State.slcCmd_keep ..) rfl
    exact Keep.refl _

theorem State.openSweepDone_keep (s : State) : Keep 0x181009 s (State.openSweepDone s) := by
  unfold State.openSweepDone
  with_reducible
    split; dsimp only; refine keep_each ?_ ?_; refine Keep.trans ?_ (State.raise_keep ..) rfl
    refine Keep.trans ?_ (State.setBit_keep ..) rfl; refine Keep.trans ?_ (State.verLevels_keep ..) rfl
    refine keep_mk_slc ?_ rfl; refine Keep.trans ?_ (State.sweepOpen_keep ..) rfl; exact Keep.refl _; intro _; intro _
    refine Keep.trans ?_ (State.slcRun_keep ..) rfl; exact Keep.refl _; exact Keep.refl _

end Sys2Proof.Machine
end

