-- ==== Sys2Proof/Laws/KeepStr.lean ====
section
/-! SUPPORT. What the operations of Machine/Str.lean keep. -/

set_option linter.unusedVariables false
set_option maxRecDepth 4000

namespace Sys2Proof.Machine

theorem State.setStrW_keep (s : State) (tbl idx w : Nat) (v : Word) : Keep 0x8 s (State.setStrW s tbl idx w v) := by
  unfold State.setStrW
  with_reducible (refine Keep.trans ?_ (State.setTw_keep ..) rfl; exact Keep.refl _)

theorem State.ctxCount_keep (s : State) (c w : Nat) : Keep 0x8 s (State.ctxCount s c w) := by
  unfold State.ctxCount
  with_reducible (refine Keep.trans ?_ (State.tbump_keep ..) rfl; exact Keep.refl _)

theorem State.recCount_keep (s : State) (f w n : Nat) : Keep 0x8 s (State.recCount s f w n) := by
  unfold State.recCount
  with_reducible (refine Keep.trans ?_ (State.tbump_keep ..) rfl; exact Keep.refl _)

theorem State.strEvent_keep (s : State) (cause port idx : Nat) : Keep 0x182001 s (State.strEvent s cause port idx) := by
  unfold State.strEvent
  with_reducible
    refine keep_ite ?_ ?_; refine Keep.trans ?_ (State.raise_keep ..) rfl; refine keep_mk_str ?_ rfl; exact Keep.refl _
    refine Keep.trans ?_ (State.raise_keep ..) rfl; exact Keep.refl _

theorem State.ctxEvent_keep (s : State) (c cause port bit : Nat) : Keep 0x182001 s (State.ctxEvent s c cause port bit) := by
  unfold State.ctxEvent
  with_reducible (refine keep_ite ?_ ?_; refine Keep.trans ?_ (State.strEvent_keep ..) rfl; exact Keep.refl _; exact Keep.refl _)

theorem State.latch_keep (s : State) (c bit cause port : Nat) : Keep 0x182009 s (State.latch s c bit cause port) := by
  unfold State.latch
  with_reducible
    refine keep_ite ?_ ?_; exact Keep.refl _; refine Keep.trans ?_ (State.ctxEvent_keep ..) rfl
    refine Keep.trans ?_ (State.setStrW_keep ..) rfl; exact Keep.refl _

theorem State.strDrop_keep (s : State) (f : Frame) : Keep 0x5181 s (State.strDrop s f) := by
  unfold State.strDrop
  with_reducible (refine Keep.trans ?_ (State.dropUnqueued_keep ..) rfl; exact Keep.refl _)

theorem State.strEcc_keep (s : State) (tbl idx : Nat) : Keep 0x180001 s (State.strEcc s tbl idx) := by
  unfold State.strEcc
  with_reducible
    dsimp only; refine Keep.trans ?_ (State.raise_keep ..) rfl; refine keep_ite ?_ ?_; exact Keep.refl _
    refine Keep.trans ?_ (State.wr_keep ..) rfl; exact Keep.refl _

/-- The state that a stage leaves. -/
def StageEnd.state : StageEnd → State
  | .go _ s => s
  | .gone s => s
theorem keep_stage {m : Nat} {s t : State} {f : Frame} {x : StageEnd} (e : x = .go f t) (h : Keep m s x.state) : Keep m s t := by subst e; exact h
theorem keep_gone {m : Nat} {s t : State} {x : StageEnd} (e : x = .gone t) (h : Keep m s x.state) : Keep m s t := by subst e; exact h
theorem keep_goE {m : Nat} {s t : State} {f : Frame} (h : Keep m s t) : Keep m s (StageEnd.go f t).state := h
theorem keep_goneE {m : Nat} {s t : State} (h : Keep m s t) : Keep m s (StageEnd.gone t).state := h
theorem keep_iteE {m : Nat} {s : State} {a b : StageEnd} {c : Prop} [Decidable c] (h : Keep m s a.state) (k : Keep m s b.state) :
    Keep m s (if c then a else b).state := by
  split <;> assumption
theorem State.strRead?_keepF {m : Nat} {s0 s : State} {bad : Option (Fin 5)} {tbl idx : Nat} {f : Frame} {go : StageEnd} (h0 : Keep m s0 s)
    (h : Keep m s go.state) (hm : Incl 0x185183 m) : Keep m s0 (s.strRead? bad tbl idx f go).state := by
  refine h0.trans' ?_
  unfold State.strRead?
  split
  · exact (((State.strEcc_keep ..).mono (Incl.trans rfl hm)).trans (State.bump_keep ..) (Incl.trans rfl hm)).trans (State.strDrop_keep ..)
      (Incl.trans rfl hm)
  · exact h

theorem State.sizeFilter_keep (s : State) (c : Nat) (f : Frame) : Keep 0x18718b s (State.sizeFilter s c f).state := by
  unfold State.sizeFilter
  with_reducible
    dsimp only; refine keep_iteE ?_ ?_; refine keep_goneE ?_; refine Keep.trans ?_ (State.strDrop_keep ..) rfl
    refine Keep.trans ?_ (State.bump_keep ..) rfl; refine Keep.trans ?_ (State.ctxCount_keep ..) rfl; exact Keep.refl _
    refine keep_iteE ?_ ?_; refine keep_goneE ?_; refine Keep.trans ?_ (State.strDrop_keep ..) rfl
    refine Keep.trans ?_ (State.bump_keep ..) rfl; refine Keep.trans ?_ (State.ctxCount_keep ..) rfl
    refine keep_ite ?_ ?_; refine Keep.trans ?_ (State.latch_keep ..) rfl; exact Keep.refl _; exact Keep.refl _
    refine keep_goE ?_; exact Keep.refl _

theorem State.streamGate_keep (s : State) (c : Nat) (f : Frame) (bad : Option (Fin 5)) : Keep 0x18718b s (State.streamGate s c f bad).state := by
  unfold State.streamGate
  with_reducible
    dsimp only; refine keep_iteE ?_ ?_; refine keep_iteE ?_ ?_; refine keep_goneE ?_
    refine Keep.trans ?_ (State.strDrop_keep ..) rfl; refine Keep.trans ?_ (State.bump_keep ..) rfl
    refine Keep.trans ?_ (State.ctxCount_keep ..) rfl; exact Keep.refl _; refine keep_goE ?_; exact Keep.refl _
    refine State.strRead?_keepF ?_ ?_ rfl; exact Keep.refl _; refine keep_iteE ?_ ?_; refine keep_goneE ?_
    refine Keep.trans ?_ (State.strDrop_keep ..) rfl; refine Keep.trans ?_ (State.bump_keep ..) rfl
    refine Keep.trans ?_ (State.ctxCount_keep ..) rfl; exact Keep.refl _; refine keep_iteE ?_ ?_; refine keep_goneE ?_
    refine Keep.trans ?_ (State.strDrop_keep ..) rfl; refine Keep.trans ?_ (State.bump_keep ..) rfl
    refine Keep.trans ?_ (State.ctxCount_keep ..) rfl; exact Keep.refl _; split; refine keep_iteE ?_ ?_
    refine keep_goE ?_; exact Keep.refl _; refine keep_goE ?_; exact Keep.refl _; refine keep_goneE ?_
    refine Keep.trans ?_ (State.strDrop_keep ..) rfl; refine Keep.trans ?_ (State.bump_keep ..) rfl
    refine Keep.trans ?_ (State.ctxCount_keep ..) rfl; refine keep_ite ?_ ?_
    refine Keep.trans ?_ (State.latch_keep ..) rfl; exact Keep.refl _; exact Keep.refl _

theorem State.setTc_keep (s : State) (m v : Nat) : Keep 0x8 s (State.setTc s m v) := by
  unfold State.setTc
  with_reducible (refine Keep.trans ?_ (State.setStrW_keep ..) rfl; refine Keep.trans ?_ (State.setStrW_keep ..) rfl; exact Keep.refl _)

theorem State.setTe_keep (s : State) (m v : Nat) : Keep 0x8 s (State.setTe s m v) := by
  unfold State.setTe
  with_reducible (refine Keep.trans ?_ (State.setStrW_keep ..) rfl; refine Keep.trans ?_ (State.setStrW_keep ..) rfl; exact Keep.refl _)

theorem State.meterStage_keep (s : State) (c : Nat) (f : Frame) (bad : Option (Fin 5)) : Keep 0x18718b s (State.meterStage s c f bad).state := by
  unfold State.meterStage
  with_reducible
    refine keep_iteE ?_ ?_; refine keep_goE ?_; exact Keep.refl _; dsimp only; refine State.strRead?_keepF ?_ ?_ rfl
    exact Keep.refl _; refine keep_iteE ?_ ?_; refine keep_goneE ?_; refine Keep.trans ?_ (State.strDrop_keep ..) rfl
    refine Keep.trans ?_ (State.bump_keep ..) rfl; refine Keep.trans ?_ (State.ctxCount_keep ..) rfl; exact Keep.refl _
    refine keep_iteE ?_ ?_; refine keep_goE ?_; refine Keep.trans ?_ (State.setTc_keep ..) rfl; exact Keep.refl _
    refine keep_iteE ?_ ?_; refine keep_iteE ?_ ?_; refine keep_goneE ?_; refine Keep.trans ?_ (State.strDrop_keep ..) rfl
    refine Keep.trans ?_ (State.bump_keep ..) rfl; refine Keep.trans ?_ (State.ctxCount_keep ..) rfl
    refine Keep.trans ?_ (State.setTe_keep ..) rfl; exact Keep.refl _; refine keep_goE ?_
    refine Keep.trans ?_ (State.ctxCount_keep ..) rfl; refine Keep.trans ?_ (State.setTe_keep ..) rfl; exact Keep.refl _
    refine keep_goneE ?_; refine Keep.trans ?_ (State.strDrop_keep ..) rfl; refine Keep.trans ?_ (State.bump_keep ..) rfl
    refine Keep.trans ?_ (State.ctxCount_keep ..) rfl; refine keep_ite ?_ ?_
    refine Keep.trans ?_ (State.latch_keep ..) rfl; exact Keep.refl _; exact Keep.refl _

theorem State.setHistory_keep (s : State) (r h : Nat) : Keep 0x8 s (State.setHistory s r h) := by
  unfold State.setHistory
  with_reducible (refine Keep.trans ?_ (State.setStrW_keep ..) rfl; refine Keep.trans ?_ (State.setStrW_keep ..) rfl; exact Keep.refl _)

theorem State.setRecov_keep (s : State) (r seq : Nat) (any : Bool) (filled : Nat) : Keep 0x8 s (State.setRecov s r seq any filled) := by
  unfold State.setRecov
  with_reducible (refine Keep.trans ?_ (State.setStrW_keep ..) rfl; exact Keep.refl _)

theorem State.recReset_keep (s : State) (r : Nat) : Keep 0x8 s (State.recReset s r) := by
  unfold State.recReset
  with_reducible (refine Keep.trans ?_ (State.setHistory_keep ..) rfl; refine Keep.trans ?_ (State.setRecov_keep ..) rfl; exact Keep.refl _)

theorem State.recover_keep (s : State) (r seq port c : Nat) : Keep 0x182009 s (State.recover s r seq port c).2 := by
  unfold State.recover
  with_reducible
    dsimp only; refine keep_ite2 ?_ ?_; refine keep_pair ?_; refine Keep.trans ?_ (State.recCount_keep ..) rfl
    refine Keep.trans ?_ (State.setHistory_keep ..) rfl; refine Keep.trans ?_ (State.setRecov_keep ..) rfl
    exact Keep.refl _; refine keep_ite2 ?_ ?_; refine keep_ite2 ?_ ?_; refine keep_pair ?_
    refine Keep.trans ?_ (State.recCount_keep ..) rfl; exact Keep.refl _; refine keep_pair ?_
    refine Keep.trans ?_ (State.recCount_keep ..) rfl; refine keep_ite ?_ ?_
    refine Keep.trans ?_ (State.setRecov_keep ..) rfl; exact Keep.refl _
    refine Keep.trans ?_ (State.recCount_keep ..) rfl; refine Keep.trans ?_ (State.setRecov_keep ..) rfl
    exact Keep.refl _; refine keep_ite2 ?_ ?_; refine keep_pair ?_; refine keep_ite ?_ ?_
    refine Keep.trans ?_ (State.strEvent_keep ..) rfl; refine Keep.trans ?_ (State.recCount_keep ..) rfl
    exact Keep.refl _; refine Keep.trans ?_ (State.recCount_keep ..) rfl; exact Keep.refl _; refine keep_ite2 ?_ ?_
    refine keep_ite2 ?_ ?_; refine keep_pair ?_; refine Keep.trans ?_ (State.recCount_keep ..) rfl; exact Keep.refl _
    refine keep_pair ?_; refine Keep.trans ?_ (State.recCount_keep ..) rfl
    refine Keep.trans ?_ (State.recCount_keep ..) rfl; refine Keep.trans ?_ (State.setHistory_keep ..) rfl
    exact Keep.refl _; refine keep_pair ?_; refine Keep.trans ?_ (State.recCount_keep ..) rfl; refine keep_ite ?_ ?_
    refine Keep.trans ?_ (State.setRecov_keep ..) rfl; refine Keep.trans ?_ (State.setHistory_keep ..) rfl
    refine Keep.trans ?_ (State.recCount_keep ..) rfl; exact Keep.refl _
    refine Keep.trans ?_ (State.recCount_keep ..) rfl; refine Keep.trans ?_ (State.setRecov_keep ..) rfl
    refine Keep.trans ?_ (State.setHistory_keep ..) rfl; refine Keep.trans ?_ (State.recCount_keep ..) rfl
    exact Keep.refl _

theorem State.recPass_keep (s : State) (r : Nat) : Keep 0x2000 s (State.recPass s r) := by
  unfold State.recPass
  with_reducible (refine keep_mk_str ?_ rfl; exact Keep.refl _)

theorem State.recoveryStage_keep (s : State) (c : Nat) (f : Frame) (bad : Option (Fin 5)) : Keep 0x18718b s (State.recoveryStage s c f bad).state := by
  unfold State.recoveryStage
  with_reducible
    dsimp only; refine keep_iteE ?_ ?_; refine keep_goE ?_; exact Keep.refl _; refine State.strRead?_keepF ?_ ?_ rfl
    exact Keep.refl _; refine keep_iteE ?_ ?_; refine keep_goneE ?_; refine Keep.trans ?_ (State.strDrop_keep ..) rfl
    refine Keep.trans ?_ (State.bump_keep ..) rfl; refine Keep.trans ?_ (State.ctxCount_keep ..) rfl; exact Keep.refl _
    split; refine keep_iteE ?_ ?_; refine keep_goE ?_; refine Keep.trans ?_ (State.recPass_keep ..) rfl
    refine Keep.trans ?_ (State.recCount_keep ..) rfl; refine Keep.trans ?_ (State.recCount_keep ..) rfl
    exact Keep.refl _; refine keep_goneE ?_; refine Keep.trans ?_ (State.strDrop_keep ..) rfl
    refine Keep.trans ?_ (State.bump_keep ..) rfl; refine Keep.trans ?_ (State.ctxCount_keep ..) rfl
    refine Keep.trans ?_ (State.recCount_keep ..) rfl; exact Keep.refl _; split; refine keep_goneE ?_
    refine Keep.trans ?_ (State.strDrop_keep ..) rfl; refine Keep.trans ?_ (State.bump_keep ..) rfl
    refine Keep.trans ?_ (State.ctxCount_keep ..) rfl; refine keep_snd (by assumption) ?_
    refine Keep.trans ?_ (State.recover_keep ..) rfl; exact Keep.refl _; refine keep_goE ?_
    refine Keep.trans ?_ (State.recPass_keep ..) rfl; refine keep_snd (by assumption) ?_
    refine Keep.trans ?_ (State.recover_keep ..) rfl; exact Keep.refl _

theorem State.generateStage_keep (s : State) (c : Nat) (f : Frame) (bad : Option (Fin 5)) : Keep 0x18518b s (State.generateStage s c f bad).state := by
  unfold State.generateStage
  with_reducible
    dsimp only; refine keep_iteE ?_ ?_; refine keep_goE ?_; exact Keep.refl _; refine State.strRead?_keepF ?_ ?_ rfl
    exact Keep.refl _; refine keep_iteE ?_ ?_; refine keep_goE ?_; refine Keep.trans ?_ (State.ctxCount_keep ..) rfl
    exact Keep.refl _; refine keep_goE ?_; refine Keep.trans ?_ (State.setStrW_keep ..) rfl; exact Keep.refl _

theorem State.runStages_keep (s : State) (c : Nat) (f : Frame) (bad : Option (Fin 5)) : Keep 0x18718b s (State.runStages s c f bad) := by
  unfold State.runStages
  with_reducible
    dsimp only; split; refine keep_gone (by assumption) ?_; refine State.strRead?_keepF ?_ ?_ rfl
    refine Keep.trans ?_ (State.ctxCount_keep ..) rfl; refine Keep.trans ?_ (State.bump_keep ..) rfl; exact Keep.refl _
    refine keep_iteE ?_ ?_; refine keep_goneE ?_; refine Keep.trans ?_ (State.strDrop_keep ..) rfl
    refine Keep.trans ?_ (State.bump_keep ..) rfl; exact Keep.refl _; refine Keep.trans ?_ (State.sizeFilter_keep ..) rfl
    exact Keep.refl _; split; refine keep_gone (by assumption) ?_; refine Keep.trans ?_ (State.streamGate_keep ..) rfl
    refine keep_stage (by assumption) ?_; refine State.strRead?_keepF ?_ ?_ rfl
    refine Keep.trans ?_ (State.ctxCount_keep ..) rfl; refine Keep.trans ?_ (State.bump_keep ..) rfl; exact Keep.refl _
    refine keep_iteE ?_ ?_; refine keep_goneE ?_; refine Keep.trans ?_ (State.strDrop_keep ..) rfl
    refine Keep.trans ?_ (State.bump_keep ..) rfl; exact Keep.refl _; refine Keep.trans ?_ (State.sizeFilter_keep ..) rfl
    exact Keep.refl _; split; refine keep_gone (by assumption) ?_; refine Keep.trans ?_ (State.meterStage_keep ..) rfl
    refine keep_stage (by assumption) ?_; refine Keep.trans ?_ (State.streamGate_keep ..) rfl
    refine keep_stage (by assumption) ?_; refine State.strRead?_keepF ?_ ?_ rfl
    refine Keep.trans ?_ (State.ctxCount_keep ..) rfl; refine Keep.trans ?_ (State.bump_keep ..) rfl; exact Keep.refl _
    refine keep_iteE ?_ ?_; refine keep_goneE ?_; refine Keep.trans ?_ (State.strDrop_keep ..) rfl
    refine Keep.trans ?_ (State.bump_keep ..) rfl; exact Keep.refl _; refine Keep.trans ?_ (State.sizeFilter_keep ..) rfl
    exact Keep.refl _; split; refine keep_gone (by assumption) ?_; refine Keep.trans ?_ (State.recoveryStage_keep ..) rfl
    refine keep_stage (by assumption) ?_; refine Keep.trans ?_ (State.meterStage_keep ..) rfl
    refine keep_stage (by assumption) ?_; refine Keep.trans ?_ (State.streamGate_keep ..) rfl
    refine keep_stage (by assumption) ?_; refine State.strRead?_keepF ?_ ?_ rfl
    refine Keep.trans ?_ (State.ctxCount_keep ..) rfl; refine Keep.trans ?_ (State.bump_keep ..) rfl; exact Keep.refl _
    refine keep_iteE ?_ ?_; refine keep_goneE ?_; refine Keep.trans ?_ (State.strDrop_keep ..) rfl
    refine Keep.trans ?_ (State.bump_keep ..) rfl; exact Keep.refl _; refine Keep.trans ?_ (State.sizeFilter_keep ..) rfl
    exact Keep.refl _; split; refine keep_gone (by assumption) ?_; refine Keep.trans ?_ (State.generateStage_keep ..) rfl
    refine keep_stage (by assumption) ?_; refine Keep.trans ?_ (State.recoveryStage_keep ..) rfl
    refine keep_stage (by assumption) ?_; refine Keep.trans ?_ (State.meterStage_keep ..) rfl
    refine keep_stage (by assumption) ?_; refine Keep.trans ?_ (State.streamGate_keep ..) rfl
    refine keep_stage (by assumption) ?_; refine State.strRead?_keepF ?_ ?_ rfl
    refine Keep.trans ?_ (State.ctxCount_keep ..) rfl; refine Keep.trans ?_ (State.bump_keep ..) rfl; exact Keep.refl _
    refine keep_iteE ?_ ?_; refine keep_goneE ?_; refine Keep.trans ?_ (State.strDrop_keep ..) rfl
    refine Keep.trans ?_ (State.bump_keep ..) rfl; exact Keep.refl _; refine Keep.trans ?_ (State.sizeFilter_keep ..) rfl
    exact Keep.refl _; refine Keep.trans ?_ (State.ctxCount_keep ..) rfl; refine Keep.trans ?_ (State.bump_keep ..) rfl
    refine Keep.trans ?_ (State.slowFollow_keep ..) rfl; refine Keep.trans ?_ (State.putFrame_keep ..) rfl
    refine keep_stage (by assumption) ?_; refine Keep.trans ?_ (State.generateStage_keep ..) rfl
    refine keep_stage (by assumption) ?_; refine Keep.trans ?_ (State.recoveryStage_keep ..) rfl
    refine keep_stage (by assumption) ?_; refine Keep.trans ?_ (State.meterStage_keep ..) rfl
    refine keep_stage (by assumption) ?_; refine Keep.trans ?_ (State.streamGate_keep ..) rfl
    refine keep_stage (by assumption) ?_; refine State.strRead?_keepF ?_ ?_ rfl
    refine Keep.trans ?_ (State.ctxCount_keep ..) rfl; refine Keep.trans ?_ (State.bump_keep ..) rfl; exact Keep.refl _
    refine keep_iteE ?_ ?_; refine keep_goneE ?_; refine Keep.trans ?_ (State.strDrop_keep ..) rfl
    refine Keep.trans ?_ (State.bump_keep ..) rfl; exact Keep.refl _; refine Keep.trans ?_ (State.sizeFilter_keep ..) rfl
    exact Keep.refl _

theorem State.sluiceResolve_keep (s : State) (fid : Nat) (bad : Option (Fin 4)) : Keep 0x18518b s (State.sluiceResolve s fid bad) := by
  unfold State.sluiceResolve
  with_reducible (dsimp only; refine keep_ite ?_ ?_; exact Keep.refl _; refine Keep.trans ?_ (State.sluice_keep ..) rfl; exact Keep.refl _)

theorem State.streamStages_keep (s : State) (fid : Nat) (bad : Option (Fin 5)) : Keep 0x18718b s (State.streamStages s fid bad) := by
  unfold State.streamStages
  with_reducible
    split; exact Keep.refl _; split; refine keep_ite ?_ ?_; exact Keep.refl _; refine keep_ite ?_ ?_; dsimp only
    refine Keep.trans ?_ (State.runStages_keep ..) rfl; exact Keep.refl _; refine keep_ite ?_ ?_
    refine Keep.trans ?_ (State.runStages_keep ..) rfl; exact Keep.refl _; exact Keep.refl _; exact Keep.refl _

theorem State.refund_keep (s : State) (f : Frame) : Keep 0x8 s (State.refund s f) := by
  unfold State.refund
  with_reducible
    split; dsimp only; refine keep_ite ?_ ?_; refine Keep.trans ?_ (State.setTc_keep ..) rfl; exact Keep.refl _
    refine Keep.trans ?_ (State.setTe_keep ..) rfl; exact Keep.refl _; exact Keep.refl _

theorem State.undoRecovery_keep (s : State) (f : Frame) : Keep 0x8 s (State.undoRecovery s f) := by
  unfold State.undoRecovery
  with_reducible
    split; dsimp only; refine Keep.trans ?_ (State.recCount_keep ..) rfl; refine keep_ite ?_ ?_
    refine Keep.trans ?_ (State.setHistory_keep ..) rfl; exact Keep.refl _; exact Keep.refl _; exact Keep.refl _

theorem State.lateOversize_keep (s : State) (f : Frame) : Keep 0x18200b s (State.lateOversize s f) := by
  unfold State.lateOversize
  with_reducible
    split; dsimp only; refine keep_ite ?_ ?_; refine Keep.trans ?_ (State.latch_keep ..) rfl
    refine Keep.trans ?_ (State.bump_keep ..) rfl; refine Keep.trans ?_ (State.ctxCount_keep ..) rfl; exact Keep.refl _
    refine Keep.trans ?_ (State.bump_keep ..) rfl; refine Keep.trans ?_ (State.ctxCount_keep ..) rfl; exact Keep.refl _
    exact Keep.refl _

theorem State.refillOne_keep (s : State) (m : Nat) : Keep 0x8 s (State.refillOne s m) := by
  unfold State.refillOne
  with_reducible
    dsimp only; refine Keep.trans ?_ (State.setTe_keep ..) rfl; refine Keep.trans ?_ (State.setTc_keep ..) rfl
    exact Keep.refl _

theorem State.meterRefill_keep (s : State) : Keep 0x2008 s (State.meterRefill s) := by
  unfold State.meterRefill
  with_reducible
    refine keep_ite ?_ ?_; exact Keep.refl _; dsimp only; refine keep_each ?_ ?_; refine keep_mk_str ?_ rfl
    exact Keep.refl _; intro _; intro _; refine Keep.trans ?_ (State.refillOne_keep ..) rfl; exact Keep.refl _

theorem State.recoveryTimeout_keep (s : State) (r : Nat) : Keep 0x182009 s (State.recoveryTimeout s r) := by
  unfold State.recoveryTimeout
  with_reducible
    refine keep_ite ?_ ?_; dsimp only; refine keep_ite ?_ ?_; refine Keep.trans ?_ (State.strEvent_keep ..) rfl
    refine Keep.trans ?_ (State.recCount_keep ..) rfl; refine Keep.trans ?_ (State.recReset_keep ..) rfl
    exact Keep.refl _; refine Keep.trans ?_ (State.recCount_keep ..) rfl
    refine Keep.trans ?_ (State.recReset_keep ..) rfl; exact Keep.refl _; exact Keep.refl _

theorem State.strResult_keep (s : State) (res : Nat) : Keep 0x1 s (State.strResult s res) := by
  unfold State.strResult
  with_reducible (refine Keep.trans ?_ (State.wr_keep ..) rfl; exact Keep.refl _)

theorem State.strStore_keep (s : State) (tbl idx : Nat) (ws : List Word) : Keep 0x2008 s (State.strStore s tbl idx ws) := by
  unfold State.strStore
  with_reducible
    dsimp only; split; refine keep_ite ?_ ?_; refine Keep.trans ?_ (State.setStrW_keep ..) rfl
    refine Keep.trans ?_ (State.setEntry_keep ..) rfl; exact Keep.refl _
    refine Keep.trans ?_ (State.setEntry_keep ..) rfl; exact Keep.refl _; refine keep_ite ?_ ?_
    refine Keep.trans ?_ (State.setTe_keep ..) rfl; refine Keep.trans ?_ (State.setTc_keep ..) rfl
    refine Keep.trans ?_ (State.setEntry_keep ..) rfl; refine keep_mk_str ?_ rfl; exact Keep.refl _
    refine Keep.trans ?_ (State.setEntry_keep ..) rfl; refine keep_mk_str ?_ rfl; exact Keep.refl _; refine keep_ite ?_ ?_
    refine Keep.trans ?_ (State.recReset_keep ..) rfl; refine Keep.trans ?_ (State.setStrW_keep ..) rfl; exact Keep.refl _
    refine Keep.trans ?_ (State.setStrW_keep ..) rfl; exact Keep.refl _; refine Keep.trans ?_ (State.setEntry_keep ..) rfl
    exact Keep.refl _

theorem State.strWrite_keep (s : State) (tbl idx : Nat) : Keep 0x2009 s (State.strWrite s tbl idx) := by
  unfold State.strWrite
  with_reducible
    dsimp only; refine keep_ite ?_ ?_; refine Keep.trans ?_ (State.strResult_keep ..) rfl; exact Keep.refl _
    refine Keep.trans ?_ (State.strResult_keep ..) rfl; refine Keep.trans ?_ (State.strStore_keep ..) rfl
    exact Keep.refl _

theorem State.strRead_keep (s : State) (tbl idx : Nat) (ecc : EccState) : Keep 0x180009 s (State.strRead s tbl idx ecc) := by
  unfold State.strRead
  with_reducible
    refine keep_ite ?_ ?_; refine Keep.trans ?_ (State.strResult_keep ..) rfl
    refine Keep.trans ?_ (State.strEcc_keep ..) rfl; exact Keep.refl _; dsimp only
    refine Keep.trans ?_ (State.strResult_keep ..) rfl; refine keep_ite ?_ ?_
    refine Keep.trans ?_ (State.setEntry_keep ..) rfl; refine Keep.trans ?_ (State.fillWindow_keep ..) rfl
    exact Keep.refl _; refine Keep.trans ?_ (State.fillWindow_keep ..) rfl; exact Keep.refl _

theorem State.strRun_keep (s : State) (cmd : Word) (ecc : EccState) : Keep 0x182009 s (State.strRun s cmd ecc) := by
  unfold State.strRun
  with_reducible
    dsimp only; refine keep_ite ?_ ?_; refine Keep.trans ?_ (State.strResult_keep ..) rfl; exact Keep.refl _
    refine keep_ite ?_ ?_; refine Keep.trans ?_ (State.strResult_keep ..) rfl; exact Keep.refl _; split
    refine Keep.trans ?_ (State.strRead_keep ..) rfl; exact Keep.refl _; refine Keep.trans ?_ (State.strWrite_keep ..) rfl
    exact Keep.refl _; refine Keep.trans ?_ (State.strResult_keep ..) rfl
    refine Keep.trans ?_ (State.setStrW_keep ..) rfl; exact Keep.refl _
    refine Keep.trans ?_ (State.strResult_keep ..) rfl; refine keep_ite ?_ ?_
    refine Keep.trans ?_ (State.setTe_keep ..) rfl; refine Keep.trans ?_ (State.setTc_keep ..) rfl; exact Keep.refl _
    exact Keep.refl _; refine Keep.trans ?_ (State.strResult_keep ..) rfl; refine keep_ite ?_ ?_
    refine Keep.trans ?_ (State.recReset_keep ..) rfl; exact Keep.refl _; exact Keep.refl _

theorem State.strTable_keep (s : State) (ini : Initiator) (cmd : Word) (ecc : EccState) : Keep 0x4000182009 s (State.strTable s ini cmd ecc) := by
  unfold State.strTable
  with_reducible
    refine State.tableWrite_keepF ?_ ?_ rfl; exact Keep.refl _; intro _; refine Keep.trans ?_ (State.strRun_keep ..) rfl
    exact Keep.refl _

theorem State.evqPop_keep (s : State) : Keep 0x2000 s (State.evqPop s).2 := by
  unfold State.evqPop
  with_reducible (refine keep_pair ?_; refine keep_mk_str ?_ rfl; exact Keep.refl _)

end Sys2Proof.Machine
end

