-- ==== Sys2Proof/Laws/KeepTim.lean ====
section
/-! SUPPORT. What the operations of Machine/Tim.lean keep. -/

set_option linter.unusedVariables false
set_option maxRecDepth 4000

namespace Sys2Proof.Machine

theorem State.setDom_keep (s : State) (d : Nat) (t : Tracker) : Keep 0x10 s (State.setDom s d t) := by
  unfold State.setDom
  with_reducible (refine keep_mk_tim ?_ rfl; exact Keep.refl _)

theorem State.timLevels_keep (s : State) : Keep 0x1 s (State.timLevels s) := by
  unfold State.timLevels
  with_reducible
    dsimp only; refine Keep.trans ?_ (State.setBit_keep ..) rfl; refine Keep.trans ?_ (State.setBit_keep ..) rfl
    refine Keep.trans ?_ (State.setBit_keep ..) rfl; refine Keep.trans ?_ (State.setBit_keep ..) rfl
    refine Keep.trans ?_ (State.setBit_keep ..) rfl; refine Keep.trans ?_ (State.setBit_keep ..) rfl; exact Keep.refl _

theorem State.alignStart_keep (s : State) (d : Nat) : Keep 0x11 s (State.alignStart s d) := by
  unfold State.alignStart
  with_reducible (dsimp only; refine Keep.trans ?_ (State.setBit_keep ..) rfl; refine keep_mk_tim ?_ rfl; exact Keep.refl _)

theorem State.alignStop_keep (s : State) : Keep 0x11 s (State.alignStop s) := by
  unfold State.alignStop
  with_reducible (refine Keep.trans ?_ (State.setBit_keep ..) rfl; refine keep_mk_tim ?_ rfl; exact Keep.refl _)

theorem State.selChange_keep (s : State) (n : Sel) : Keep 0x180013 s (State.selChange s n) := by
  unfold State.selChange
  with_reducible
    dsimp only; refine keep_ite ?_ ?_; exact Keep.refl _; split; refine Keep.trans ?_ (State.raise_keep ..) rfl
    refine Keep.trans ?_ (State.alignStop_keep ..) rfl; refine Keep.trans ?_ (State.setBit_keep ..) rfl
    refine keep_mk_tim ?_ rfl; exact Keep.refl _; split; refine Keep.trans ?_ (State.raise_keep ..) rfl
    refine keep_ite ?_ ?_; refine Keep.trans ?_ (State.alignStart_keep ..) rfl
    refine Keep.trans ?_ (State.setBit_keep ..) rfl; refine Keep.trans ?_ (State.set_keep ..) rfl
    refine Keep.trans ?_ (State.setBit_keep ..) rfl; refine keep_mk_tim ?_ rfl; exact Keep.refl _
    refine Keep.trans ?_ (State.alignStop_keep ..) rfl; refine Keep.trans ?_ (State.setBit_keep ..) rfl
    refine Keep.trans ?_ (State.set_keep ..) rfl; refine Keep.trans ?_ (State.setBit_keep ..) rfl
    refine keep_mk_tim ?_ rfl; exact Keep.refl _; refine Keep.trans ?_ (State.bump_keep ..) rfl
    refine Keep.trans ?_ (State.raise_keep ..) rfl; refine keep_ite ?_ ?_
    refine Keep.trans ?_ (State.alignStart_keep ..) rfl; refine Keep.trans ?_ (State.setBit_keep ..) rfl
    refine Keep.trans ?_ (State.set_keep ..) rfl; refine Keep.trans ?_ (State.setBit_keep ..) rfl
    refine keep_mk_tim ?_ rfl; exact Keep.refl _; refine Keep.trans ?_ (State.alignStop_keep ..) rfl
    refine Keep.trans ?_ (State.setBit_keep ..) rfl; refine Keep.trans ?_ (State.set_keep ..) rfl
    refine Keep.trans ?_ (State.setBit_keep ..) rfl; refine keep_mk_tim ?_ rfl; exact Keep.refl _

theorem State.timSelect_keep (s : State) : Keep 0x180013 s (State.timSelect s) := by
  unfold State.timSelect
  with_reducible
    dsimp only; refine Keep.trans ?_ (State.selChange_keep ..) rfl; refine Keep.trans ?_ (State.timLevels_keep ..) rfl
    exact Keep.refl _

theorem State.uncertainCheck_keep (s : State) : Keep 0x180001 s (State.uncertainCheck s) := by
  unfold State.uncertainCheck
  with_reducible
    refine keep_ite ?_ ?_; refine Keep.trans ?_ (State.raise_keep ..) rfl; refine Keep.trans ?_ (State.setBit_keep ..) rfl
    exact Keep.refl _; exact Keep.refl _

theorem State.timMoved_keep (s : State) : Keep 0x11 s (State.timMoved s) := by
  unfold State.timMoved
  with_reducible
    dsimp only; split; refine Keep.trans ?_ (State.setBit_keep ..) rfl; refine keep_mk_tim ?_ rfl; exact Keep.refl _
    refine keep_mk_tim ?_ rfl; exact Keep.refl _

theorem State.holdCount_keep (s : State) : Keep 0x10 s (State.holdCount s) := by
  unfold State.holdCount
  with_reducible (refine keep_ite ?_ ?_; refine keep_mk_tim ?_ rfl; exact Keep.refl _; exact Keep.refl _)

theorem State.trackerTick_keep (s : State) (d : Nat) : Keep 0x10 s (State.trackerTick s d) := by
  unfold State.trackerTick
  with_reducible
    dsimp only; refine Keep.trans ?_ (State.setDom_keep ..) rfl; refine Keep.trans ?_ (State.setDom_keep ..) rfl
    exact Keep.refl _

theorem State.settled_keep (s : State) : Keep 0x1 s (State.settled s) := by
  unfold State.settled
  with_reducible
    split; refine keep_ite ?_ ?_; refine Keep.trans ?_ (State.setBit_keep ..) rfl; exact Keep.refl _; exact Keep.refl _
    exact Keep.refl _

theorem State.timTick_keep (s : State) : Keep 0x180013 s (State.timTick s) := by
  unfold State.timTick
  with_reducible
    refine Keep.trans ?_ (State.settled_keep ..) rfl; refine Keep.trans ?_ (State.timSelect_keep ..) rfl
    refine Keep.trans ?_ (State.trackerTick_keep ..) rfl; refine Keep.trans ?_ (State.trackerTick_keep ..) rfl
    refine Keep.trans ?_ (State.uncertainCheck_keep ..) rfl; refine Keep.trans ?_ (State.holdCount_keep ..) rfl
    refine Keep.trans ?_ (State.timMoved_keep ..) rfl; exact Keep.refl _

theorem State.alignmentComplete_keep (s : State) : Keep 0x11 s (State.alignmentComplete s) := by
  unfold State.alignmentComplete
  with_reducible
    split; refine keep_ite ?_ ?_; refine Keep.trans ?_ (State.setBit_keep ..) rfl
    refine Keep.trans ?_ (State.alignStop_keep ..) rfl; exact Keep.refl _; exact Keep.refl _; exact Keep.refl _

theorem State.trackerTimeout_keep (s : State) (d : Nat) : Keep 0x180013 s (State.trackerTimeout s d) := by
  unfold State.trackerTimeout
  with_reducible (refine keep_ite ?_ ?_; refine Keep.trans ?_ (State.timSelect_keep ..) rfl; exact Keep.refl _; exact Keep.refl _)

theorem State.revertExpiry_keep (s : State) : Keep 0x180013 s (State.revertExpiry s) := by
  unfold State.revertExpiry
  with_reducible (refine keep_ite ?_ ?_; refine Keep.trans ?_ (State.timSelect_keep ..) rfl; exact Keep.refl _; exact Keep.refl _)

theorem State.holdoverExpiry_keep (s : State) : Keep 0x180001 s (State.holdoverExpiry s) := by
  unfold State.holdoverExpiry
  with_reducible (refine keep_ite ?_ ?_; refine Keep.trans ?_ (State.uncertainCheck_keep ..) rfl; exact Keep.refl _; exact Keep.refl _)

theorem State.wtIncr_keep (s : State) (w : Word) : Keep 0x180011 s (State.wtIncr s w) := by
  unfold State.wtIncr
  with_reducible
    refine keep_ite ?_ ?_; refine Keep.trans ?_ (State.raise_keep ..) rfl; exact Keep.refl _; dsimp only
    refine keep_ite ?_ ?_; refine keep_mk_tim ?_ rfl; refine Keep.trans ?_ (State.plainWrite_keep ..) rfl
    exact Keep.refl _; refine Keep.trans ?_ (State.raise_keep ..) rfl; refine keep_mk_tim ?_ rfl
    refine Keep.trans ?_ (State.plainWrite_keep ..) rfl; exact Keep.refl _

theorem State.wtFrac_keep (s : State) (w : Word) : Keep 0x180001 s (State.wtFrac s w) := by
  unfold State.wtFrac
  with_reducible
    refine keep_ite ?_ ?_; refine Keep.trans ?_ (State.raise_keep ..) rfl; exact Keep.refl _
    refine Keep.trans ?_ (State.plainWrite_keep ..) rfl; exact Keep.refl _

theorem State.wtAdj_keep (s : State) (w : Word) : Keep 0x180011 s (State.wtAdj s w) := by
  unfold State.wtAdj
  with_reducible
    refine keep_ite ?_ ?_; refine Keep.trans ?_ (State.raise_keep ..) rfl; exact Keep.refl _; refine keep_mk_tim ?_ rfl
    exact Keep.refl _

theorem State.timStep_keep (s : State) : Keep 0x180013 s (State.timStep s) := by
  unfold State.timStep
  with_reducible
    dsimp only; refine Keep.trans ?_ (State.setBit_keep ..) rfl; refine Keep.trans ?_ (State.bump_keep ..) rfl
    refine Keep.trans ?_ (State.raise_keep ..) rfl; refine keep_mk_tim ?_ rfl; exact Keep.refl _

theorem State.wtSnap_keep (s : State) : Keep 0x1 s (State.wtSnap s) := by
  unfold State.wtSnap
  with_reducible
    dsimp only; refine Keep.trans ?_ (State.wr_keep ..) rfl; refine Keep.trans ?_ (State.wr_keep ..) rfl
    refine Keep.trans ?_ (State.wr_keep ..) rfl; refine Keep.trans ?_ (State.wr_keep ..) rfl
    refine Keep.trans ?_ (State.wr_keep ..) rfl; refine Keep.trans ?_ (State.wr_keep ..) rfl; exact Keep.refl _

theorem State.domOffAdj_keep (s : State) (d : Nat) (w : Word) : Keep 0x10 s (State.domOffAdj s d w) := by
  unfold State.domOffAdj
  with_reducible (refine Keep.trans ?_ (State.setDom_keep ..) rfl; exact Keep.refl _)

theorem State.domRateAdj_keep (s : State) (d : Nat) (w : Word) : Keep 0x10 s (State.domRateAdj s d w) := by
  unfold State.domRateAdj
  with_reducible (refine Keep.trans ?_ (State.setDom_keep ..) rfl; exact Keep.refl _)

theorem State.domSetHi_keep (s : State) (d : Nat) (w : Word) : Keep 0x10 s (State.domSetHi s d w) := by
  unfold State.domSetHi
  with_reducible (refine Keep.trans ?_ (State.setDom_keep ..) rfl; exact Keep.refl _)

theorem State.domCfgWrite_keep (s : State) (d : Nat) (w : Word) : Keep 0x180013 s (State.domCfgWrite s d w) := by
  unfold State.domCfgWrite
  with_reducible
    dsimp only; refine Keep.trans ?_ (State.timSelect_keep ..) rfl; refine keep_ite ?_ ?_
    refine Keep.trans ?_ (State.setBit_keep ..) rfl; refine Keep.trans ?_ (State.plainWrite_keep ..) rfl
    exact Keep.refl _; refine Keep.trans ?_ (State.plainWrite_keep ..) rfl; exact Keep.refl _

theorem State.recordDone_keep (s : State) (d : Nat) (two : Bool) (p : PendSync) (sec ns : Nat) (corr : Int) (csro : Option Word) : Keep 0x2000180013 s (State.recordDone s d two p sec ns corr csro) := by
  unfold State.recordDone
  with_reducible
    dsimp only; refine Keep.trans ?_ (State.timSelect_keep ..) rfl; refine Keep.trans ?_ (State.setBit_keep ..) rfl
    refine keep_ite ?_ ?_; refine Keep.trans ?_ (State.setDom_keep ..) rfl; refine keep_ite2 ?_ ?_; refine keep_pair ?_
    split; refine keep_pair ?_; exact Keep.refl _; refine Keep.trans ?_ (State.draw_keep ..) rfl; exact Keep.refl _
    refine Keep.trans ?_ (State.draw_keep ..) rfl; split; refine keep_pair ?_; exact Keep.refl _
    refine Keep.trans ?_ (State.draw_keep ..) rfl; exact Keep.refl _; refine Keep.trans ?_ (State.raise_keep ..) rfl
    refine Keep.trans ?_ (State.setDom_keep ..) rfl; refine keep_ite2 ?_ ?_; refine keep_pair ?_; split
    refine keep_pair ?_; exact Keep.refl _; refine Keep.trans ?_ (State.draw_keep ..) rfl; exact Keep.refl _
    refine Keep.trans ?_ (State.draw_keep ..) rfl; split; refine keep_pair ?_; exact Keep.refl _
    refine Keep.trans ?_ (State.draw_keep ..) rfl; exact Keep.refl _

theorem State.syncReceive_keep (s : State) (d port : Nat) (f : Bytes) (t2 : Nat) : Keep 0x2000180013 s (State.syncReceive s d port f t2) := by
  unfold State.syncReceive
  with_reducible
    split; exact Keep.refl _; dsimp only; refine keep_ite ?_ ?_; refine Keep.trans ?_ (State.setDom_keep ..) rfl
    exact Keep.refl _; refine Keep.trans ?_ (State.recordDone_keep ..) rfl; exact Keep.refl _

theorem State.followUpReceive_keep (s : State) (d port : Nat) (f : Bytes) : Keep 0x2000180013 s (State.followUpReceive s d port f) := by
  unfold State.followUpReceive
  with_reducible
    split; refine keep_ite ?_ ?_; refine Keep.trans ?_ (State.recordDone_keep ..) rfl; exact Keep.refl _
    exact Keep.refl _; exact Keep.refl _

theorem State.syncRecPop_keep (s : State) (d : Nat) : Keep 0x10 s (State.syncRecPop s d).2 := by
  unfold State.syncRecPop
  with_reducible (refine keep_pair ?_; refine Keep.trans ?_ (State.setDom_keep ..) rfl; exact Keep.refl _)

theorem State.lttRead_keep (s : State) (port r : Nat) : Keep 0x1 s (State.lttRead s port r).2 := by
  unfold State.lttRead
  with_reducible
    dsimp only; refine Keep.trans ?_ (State.wr_keep ..) rfl; refine Keep.trans ?_ (State.wr_keep ..) rfl
    refine Keep.trans ?_ (State.wr_keep ..) rfl; exact Keep.refl _

theorem State.lttWrite_keep (s : State) (port r seq ty dmn te : Nat) : Keep 0x11 s (State.lttWrite s port r seq ty dmn te) := by
  unfold State.lttWrite
  with_reducible (dsimp only; refine keep_mk_tim ?_ rfl; refine Keep.trans ?_ (State.wr_keep ..) rfl; exact Keep.refl _)

theorem State.oneStep_keep (s : State) (p inp : Nat) (f : Bytes) (h ti : Nat) (e : Egress) : Keep 0x13 s (State.oneStep s p inp f h ti e).2 := by
  unfold State.oneStep
  with_reducible
    dsimp only; refine keep_ite2 ?_ ?_; refine keep_pair ?_; refine Keep.trans ?_ (State.bump_keep ..) rfl
    exact Keep.refl _; refine keep_ite2 ?_ ?_; refine keep_ite2 ?_ ?_; refine keep_pair ?_
    refine Keep.trans ?_ (State.bump_keep ..) rfl; exact Keep.refl _; refine keep_pair ?_; exact Keep.refl _
    refine keep_ite2 ?_ ?_; refine keep_ite2 ?_ ?_; refine keep_pair ?_; refine Keep.trans ?_ (State.lttWrite_keep ..) rfl
    exact Keep.refl _; refine keep_ite2 ?_ ?_; refine keep_pair ?_; refine Keep.trans ?_ (State.bump_keep ..) rfl
    refine Keep.trans ?_ (State.lttWrite_keep ..) rfl; exact Keep.refl _; refine keep_pair ?_
    refine Keep.trans ?_ (State.bump_keep ..) rfl; refine Keep.trans ?_ (State.lttWrite_keep ..) rfl; exact Keep.refl _
    refine keep_ite2 ?_ ?_; refine keep_pair ?_; refine Keep.trans ?_ (State.lttWrite_keep ..) rfl; exact Keep.refl _
    refine keep_ite2 ?_ ?_; refine keep_ite2 ?_ ?_; refine keep_pair ?_; refine keep_mk_tim ?_ rfl
    refine Keep.trans ?_ (State.lttWrite_keep ..) rfl; exact Keep.refl _; refine keep_ite2 ?_ ?_; refine keep_pair ?_
    refine Keep.trans ?_ (State.bump_keep ..) rfl; refine Keep.trans ?_ (State.lttWrite_keep ..) rfl; exact Keep.refl _
    refine keep_pair ?_; refine Keep.trans ?_ (State.bump_keep ..) rfl; refine Keep.trans ?_ (State.lttWrite_keep ..) rfl
    exact Keep.refl _; refine keep_ite2 ?_ ?_; split; refine keep_ite2 ?_ ?_; refine keep_ite2 ?_ ?_; refine keep_pair ?_
    refine Keep.trans ?_ (State.bump_keep ..) rfl; exact Keep.refl _; refine keep_pair ?_
    refine Keep.trans ?_ (State.bump_keep ..) rfl; exact Keep.refl _; refine keep_pair ?_
    refine Keep.trans ?_ (State.bump_keep ..) rfl; exact Keep.refl _; refine keep_pair ?_
    refine Keep.trans ?_ (State.bump_keep ..) rfl; exact Keep.refl _; refine keep_pair ?_; exact Keep.refl _

end Sys2Proof.Machine
end

