-- ==== Sys2Proof/Laws/KeepTio.lean ====
section
/-! SUPPORT. What the operations of Machine/Tio.lean keep. -/

set_option linter.unusedVariables false
set_option maxRecDepth 4000

namespace Sys2Proof.Machine

theorem State.pinEnable_keep (s : State) (p : Nat) : Keep 0x4000000020 s (State.pinEnable s p) := by
  unfold State.pinEnable
  with_reducible
    dsimp only; refine keep_ite ?_ ?_; exact Keep.refl _; refine keep_ite ?_ ?_
    refine Keep.trans ?_ (State.emit_keep ..) rfl; refine Keep.trans ?_ (State.setPin_keep ..) rfl; exact Keep.refl _
    refine Keep.trans ?_ (State.setPin_keep ..) rfl; exact Keep.refl _

theorem State.pinTake_keep (s : State) (p : Nat) (t : Option Train) : Keep 0x20 s (State.pinTake s p t) := by
  unfold State.pinTake
  with_reducible (dsimp only; refine Keep.trans ?_ (State.setPin_keep ..) rfl; exact Keep.refl _)

theorem State.pinArm_keep (s : State) (p : Nat) : Keep 0x180021 s (State.pinArm s p) := by
  unfold State.pinArm
  with_reducible
    dsimp only; refine keep_ite ?_ ?_; exact Keep.refl _; refine keep_ite ?_ ?_
    refine Keep.trans ?_ (State.raise_keep ..) rfl; exact Keep.refl _; refine keep_ite ?_ ?_
    refine Keep.trans ?_ (State.raise_keep ..) rfl; refine Keep.trans ?_ (State.pinTake_keep ..) rfl; exact Keep.refl _
    refine Keep.trans ?_ (State.pinTake_keep ..) rfl; exact Keep.refl _

theorem State.pinStop_keep (s : State) (p : Nat) : Keep 0x20 s (State.pinStop s p) := by
  unfold State.pinStop
  with_reducible (refine Keep.trans ?_ (State.pinTake_keep ..) rfl; exact Keep.refl _)

theorem State.pulseLead_keep (s : State) (p : Nat) : Keep 0x4000000020 s (State.pulseLead s p) := by
  unfold State.pulseLead
  with_reducible
    dsimp only; split; refine keep_ite ?_ ?_; refine keep_ite ?_ ?_; refine Keep.trans ?_ (State.emit_keep ..) rfl
    refine Keep.trans ?_ (State.setPin_keep ..) rfl; exact Keep.refl _; refine Keep.trans ?_ (State.setPin_keep ..) rfl
    exact Keep.refl _; exact Keep.refl _; exact Keep.refl _

theorem State.pulseEnd_keep (s : State) (p : Nat) : Keep 0x4000000022 s (State.pulseEnd s p) := by
  unfold State.pulseEnd
  with_reducible
    dsimp only; refine Keep.trans ?_ (State.pinEnable_keep ..) rfl; refine Keep.trans ?_ (State.setPin_keep ..) rfl
    refine Keep.trans ?_ (State.bump_keep ..) rfl; refine keep_ite ?_ ?_; refine Keep.trans ?_ (State.emit_keep ..) rfl
    exact Keep.refl _; exact Keep.refl _

theorem State.pulseTrail_keep (s : State) (p : Nat) : Keep 0x4000000022 s (State.pulseTrail s p) := by
  unfold State.pulseTrail
  with_reducible (refine keep_ite ?_ ?_; refine Keep.trans ?_ (State.pulseEnd_keep ..) rfl; exact Keep.refl _; exact Keep.refl _)

theorem State.pairedEnable_keep (s : State) (p : Nat) : Keep 0x4000000020 s (State.pairedEnable s p) := by
  unfold State.pairedEnable
  with_reducible (refine keep_ite ?_ ?_; refine Keep.trans ?_ (State.pinEnable_keep ..) rfl; exact Keep.refl _; exact Keep.refl _)

theorem State.pinReposition_keep (s : State) (p : Nat) : Keep 0x4000180023 s (State.pinReposition s p) := by
  unfold State.pinReposition
  with_reducible
    dsimp only; refine keep_ite ?_ ?_; refine Keep.trans ?_ (State.raise_keep ..) rfl
    refine Keep.trans ?_ (State.setPin_keep ..) rfl; refine keep_ite ?_ ?_
    refine Keep.trans ?_ (State.pulseEnd_keep ..) rfl; refine Keep.trans ?_ (State.setPin_keep ..) rfl; exact Keep.refl _
    refine Keep.trans ?_ (State.setPin_keep ..) rfl; exact Keep.refl _; refine Keep.trans ?_ (State.setPin_keep ..) rfl
    refine keep_ite ?_ ?_; refine Keep.trans ?_ (State.pulseEnd_keep ..) rfl
    refine Keep.trans ?_ (State.setPin_keep ..) rfl; exact Keep.refl _; refine Keep.trans ?_ (State.setPin_keep ..) rfl
    exact Keep.refl _

theorem State.evtFrame_keep (s : State) (p : Nat) : Keep 0x2a2 s (State.evtFrame s p) := by
  unfold State.evtFrame
  with_reducible
    dsimp only; refine keep_ite ?_ ?_; refine Keep.trans ?_ (State.bump_keep ..) rfl
    refine Keep.trans ?_ (State.setPin_keep ..) rfl; exact Keep.refl _; refine Keep.trans ?_ (State.offerP15_keep ..) rfl
    refine Keep.trans ?_ (State.setPin_keep ..) rfl; exact Keep.refl _

theorem State.evtBuild_keep (s : State) (p need z0 : Nat) : Keep 0x2a2 s (State.evtBuild s p need z0) := by
  induction z0 generalizing s p need with
  | zero => exact Keep.refl _
  | succ n ih =>
    unfold State.evtBuild
    with_reducible
      refine keep_ite ?_ ?_; refine Keep.trans ?_ (ih ..) rfl; refine Keep.trans ?_ (State.evtFrame_keep ..) rfl
      exact Keep.refl _; exact Keep.refl _

theorem State.evtFull_keep (s : State) (p : Nat) : Keep 0x2a2 s (State.evtFull s p) := by
  unfold State.evtFull
  with_reducible (refine Keep.trans ?_ (State.evtBuild_keep ..) rfl; exact Keep.refl _)

theorem State.evtAccepted_keep (s : State) (p n : Nat) : Keep 0x20 s (State.evtAccepted s p n) := by
  unfold State.evtAccepted
  with_reducible (dsimp only; refine Keep.trans ?_ (State.setPin_keep ..) rfl; exact Keep.refl _)

theorem State.evtHold_keep (s : State) (p : Nat) : Keep 0x2a2 s (State.evtHold s p) := by
  unfold State.evtHold
  with_reducible
    split; refine keep_ite ?_ ?_; refine Keep.trans ?_ (State.evtFrame_keep ..) rfl; exact Keep.refl _; exact Keep.refl _
    exact Keep.refl _

theorem State.capture_keep (s : State) (p t : Nat) (act : Bool) : Keep 0x1802a3 s (State.capture s p t act) := by
  unfold State.capture
  with_reducible
    refine keep_ite ?_ ?_; refine Keep.trans ?_ (State.bump_keep ..) rfl; exact Keep.refl _; dsimp only
    refine keep_ite ?_ ?_; refine Keep.trans ?_ (State.evtFull_keep ..) rfl; refine Keep.trans ?_ (State.bump_keep ..) rfl
    refine Keep.trans ?_ (State.setPin_keep ..) rfl; exact Keep.refl _; refine Keep.trans ?_ (State.raise_keep ..) rfl
    refine Keep.trans ?_ (State.bump_keep ..) rfl; refine Keep.trans ?_ (State.setPin_keep ..) rfl; exact Keep.refl _

theorem State.edgeAccept_keep (s : State) (p : Nat) : Keep 0x1802a3 s (State.edgeAccept s p) := by
  unfold State.edgeAccept
  with_reducible
    dsimp only; split; refine keep_ite ?_ ?_; exact Keep.refl _; refine keep_ite ?_ ?_
    refine Keep.trans ?_ (State.capture_keep ..) rfl; refine Keep.trans ?_ (State.setPin_keep ..) rfl; exact Keep.refl _
    refine Keep.trans ?_ (State.setPin_keep ..) rfl; exact Keep.refl _; exact Keep.refl _

theorem State.inputEdge_keep (s : State) (p : Nat) (high : Bool) (phase : Nat) : Keep 0x1802a3 s (State.inputEdge s p high phase) := by
  unfold State.inputEdge
  with_reducible
    refine keep_ite ?_ ?_; exact Keep.refl _; dsimp only; refine keep_ite ?_ ?_
    refine Keep.trans ?_ (State.setPin_keep ..) rfl; refine Keep.trans ?_ (State.edgeAccept_keep ..) rfl
    exact Keep.refl _; refine Keep.trans ?_ (State.setPin_keep ..) rfl
    refine Keep.trans ?_ (State.edgeAccept_keep ..) rfl; exact Keep.refl _

theorem State.inputStuck_keep (s : State) (p : Nat) : Keep 0x1802a3 s (State.inputStuck s p) := by
  unfold State.inputStuck
  with_reducible
    dsimp only; refine keep_ite ?_ ?_; refine keep_ite ?_ ?_; refine Keep.trans ?_ (State.evtFrame_keep ..) rfl
    refine Keep.trans ?_ (State.evtBuild_keep ..) rfl; refine Keep.trans ?_ (State.raise_keep ..) rfl
    refine Keep.trans ?_ (State.setPin_keep ..) rfl; exact Keep.refl _; refine Keep.trans ?_ (State.raise_keep ..) rfl
    refine Keep.trans ?_ (State.setPin_keep ..) rfl; exact Keep.refl _; exact Keep.refl _

theorem State.baseline_keep (s : State) (p : Nat) : Keep 0x20 s (State.baseline s p) := by
  unfold State.baseline
  with_reducible (dsimp only; refine Keep.trans ?_ (State.setPin_keep ..) rfl; exact Keep.refl _)

theorem State.pinRelease_keep (s : State) (p : Nat) : Keep 0x20 s (State.pinRelease s p) := by
  unfold State.pinRelease
  with_reducible (refine keep_ite ?_ ?_; refine Keep.trans ?_ (State.baseline_keep ..) rfl; exact Keep.refl _; exact Keep.refl _)

theorem State.capPop_keep (s : State) (p : Nat) : Keep 0x20 s (State.capPop s p).2 := by
  unfold State.capPop
  with_reducible
    split; refine keep_pair ?_; refine Keep.trans ?_ (State.setPin_keep ..) rfl; exact Keep.refl _; refine keep_pair ?_
    exact Keep.refl _

theorem State.disown_keep (s : State) (p : Nat) : Keep 0x80 s (State.disown s p) := by
  unfold State.disown
  with_reducible (refine keep_mk_frames ?_ rfl; exact Keep.refl _)

theorem State.modeLeft_keep (s : State) (p : Nat) : Keep 0xa0 s (State.modeLeft s p) := by
  unfold State.modeLeft
  with_reducible
    refine Keep.trans ?_ (State.disown_keep ..) rfl; refine Keep.trans ?_ (State.setPin_keep ..) rfl
    refine Keep.trans ?_ (State.pinStop_keep ..) rfl; exact Keep.refl _

theorem State.inputMode_keep (s : State) (p : Nat) : Keep 0x20 s (State.inputMode s p) := by
  unfold State.inputMode
  with_reducible (refine Keep.trans ?_ (State.setPin_keep ..) rfl; refine Keep.trans ?_ (State.baseline_keep ..) rfl; exact Keep.refl _)

theorem State.modeTaken_keep (s : State) (p old : Nat) : Keep 0x40000002a2 s (State.modeTaken s p old) := by
  unfold State.modeTaken
  with_reducible
    dsimp only; refine Keep.trans ?_ (State.evtFull_keep ..) rfl; refine Keep.trans ?_ (State.pinEnable_keep ..) rfl
    refine keep_ite ?_ ?_; refine Keep.trans ?_ (State.inputMode_keep ..) rfl; exact Keep.refl _; exact Keep.refl _

theorem State.polTaken_keep (s : State) (p old : Nat) : Keep 0x4000000020 s (State.polTaken s p old) := by
  unfold State.polTaken
  with_reducible
    dsimp only; refine keep_ite ?_ ?_; refine Keep.trans ?_ (State.setPin_keep ..) rfl; refine keep_ite ?_ ?_
    refine Keep.trans ?_ (State.emit_keep ..) rfl; exact Keep.refl _; exact Keep.refl _; refine keep_ite ?_ ?_
    refine Keep.trans ?_ (State.emit_keep ..) rfl; exact Keep.refl _; exact Keep.refl _

theorem State.pinCfgWrite_keep (s : State) (p : Nat) (w : Word) : Keep 0x40001802a3 s (State.pinCfgWrite s p w) := by
  unfold State.pinCfgWrite
  with_reducible
    dsimp only; refine Keep.trans ?_ (State.modeTaken_keep ..) rfl; refine keep_ite ?_ ?_
    refine Keep.trans ?_ (State.plainWrite_keep ..) rfl; refine keep_ite ?_ ?_; exact Keep.refl _
    refine Keep.trans ?_ (State.modeLeft_keep ..) rfl; exact Keep.refl _
    refine Keep.trans ?_ (State.polTaken_keep ..) rfl; refine Keep.trans ?_ (State.plainWrite_keep ..) rfl
    refine keep_ite ?_ ?_; exact Keep.refl _; refine Keep.trans ?_ (State.modeLeft_keep ..) rfl; exact Keep.refl _

theorem State.mkCtrlWrite_keep (s : State) (w : Word) : Keep 0x180041 s (State.mkCtrlWrite s w) := by
  unfold State.mkCtrlWrite
  with_reducible
    dsimp only; refine keep_ite ?_ ?_; refine Keep.trans ?_ (State.plainWrite_keep ..) rfl; exact Keep.refl _
    refine keep_ite ?_ ?_; refine keep_mk_marker ?_ rfl; refine Keep.trans ?_ (State.plainWrite_keep ..) rfl
    exact Keep.refl _; refine keep_mk_marker ?_ rfl; refine Keep.trans ?_ (State.plainWrite_keep ..) rfl
    exact Keep.refl _

theorem State.markerInstant_keep (s : State) : Keep 0x2c3 s (State.markerInstant s) := by
  unfold State.markerInstant
  with_reducible
    refine keep_ite ?_ ?_; dsimp only; refine keep_ite ?_ ?_; refine Keep.trans ?_ (State.bump_keep ..) rfl
    refine Keep.trans ?_ (State.set_keep ..) rfl; refine keep_mk_marker ?_ rfl; exact Keep.refl _
    refine Keep.trans ?_ (State.bump_keep ..) rfl; refine Keep.trans ?_ (State.offerP15_keep ..) rfl
    refine Keep.trans ?_ (State.set_keep ..) rfl; refine keep_mk_marker ?_ rfl; exact Keep.refl _; exact Keep.refl _

theorem State.tioReposition_keep (s : State) : Keep 0x4000180063 s (State.tioReposition s) := by
  unfold State.tioReposition
  with_reducible
    dsimp only; refine keep_mk_marker ?_ rfl; refine keep_each ?_ ?_; exact Keep.refl _; intro _; intro _
    refine Keep.trans ?_ (State.pinReposition_keep ..) rfl; exact Keep.refl _

end Sys2Proof.Machine
end

