-- ==== Sys2Proof/Laws/KeepBsn.lean ====
section
/-! SUPPORT. What the operations of Machine/Bsn.lean keep. -/

set_option linter.unusedVariables false
set_option maxRecDepth 4000

namespace Sys2Proof.Machine

theorem State.popFree_keep (s : State) (i q : Nat) : Keep 0x4000 s (State.popFree s i q).2 := by
  unfold State.popFree
  with_reducible
    dsimp only; refine keep_ite2 ?_ ?_; refine keep_pair ?_; refine keep_mk_bsn ?_ rfl; exact Keep.refl _; split
    refine keep_pair ?_; refine keep_mk_bsn ?_ rfl; exact Keep.refl _; refine keep_pair ?_; exact Keep.refl _

theorem State.takeBuf_keep (s : State) (f : Frame) (q share : Nat) : Keep 0x4082 s (State.takeBuf s f q share) := by
  unfold State.takeBuf
  with_reducible
    split; dsimp only; refine keep_ite ?_ ?_; refine Keep.trans ?_ (State.bump_keep ..) rfl
    refine Keep.trans ?_ (State.putFrame_keep ..) rfl; refine keep_ite ?_ ?_
    refine Keep.trans ?_ (State.putBuf_keep ..) rfl; refine keep_snd (by assumption) ?_
    refine Keep.trans ?_ (State.popFree_keep ..) rfl; exact Keep.refl _; refine keep_mk_bsn ?_ rfl
    refine keep_snd (by assumption) ?_; refine Keep.trans ?_ (State.popFree_keep ..) rfl; exact Keep.refl _
    refine Keep.trans ?_ (State.bump_keep ..) rfl; refine Keep.trans ?_ (State.bump_keep ..) rfl
    refine Keep.trans ?_ (State.putFrame_keep ..) rfl; refine keep_ite ?_ ?_
    refine Keep.trans ?_ (State.putBuf_keep ..) rfl; refine keep_snd (by assumption) ?_
    refine Keep.trans ?_ (State.popFree_keep ..) rfl; exact Keep.refl _; refine keep_mk_bsn ?_ rfl
    refine keep_snd (by assumption) ?_; refine Keep.trans ?_ (State.popFree_keep ..) rfl; exact Keep.refl _

theorem State.pfcQueue_keep (s : State) (p : Nat) (mask xoff : BitVec 8) : Keep 0x800 s (State.pfcQueue s p mask xoff) := by
  unfold State.pfcQueue
  with_reducible (dsimp only; refine Keep.trans ?_ (State.setMac_keep ..) rfl; exact Keep.refl _)

theorem State.pfcChange_keep (s : State) (i : Nat) (mask xoff : BitVec 8) : Keep 0x801 s (State.pfcChange s i mask xoff) := by
  unfold State.pfcChange
  with_reducible
    dsimp only; refine keep_ite ?_ ?_; refine Keep.trans ?_ (State.set_keep ..) rfl; exact Keep.refl _
    refine Keep.trans ?_ (State.pfcQueue_keep ..) rfl; refine Keep.trans ?_ (State.set_keep ..) rfl; exact Keep.refl _

theorem State.xoffCheck_keep (s : State) (i c : Nat) : Keep 0x801 s (State.xoffCheck s i c) := by
  unfold State.xoffCheck
  with_reducible
    refine keep_ite ?_ ?_; dsimp only; refine Keep.trans ?_ (State.pfcChange_keep ..) rfl
    refine Keep.trans ?_ (State.set_keep ..) rfl; exact Keep.refl _; exact Keep.refl _

theorem State.pfcXon_keep (s : State) (i c : Nat) : Keep 0x801 s (State.pfcXon s i c) := by
  unfold State.pfcXon
  with_reducible
    refine keep_ite ?_ ?_; refine Keep.trans ?_ (State.pfcChange_keep ..) rfl
    refine Keep.trans ?_ (State.set_keep ..) rfl; exact Keep.refl _; exact Keep.refl _

theorem State.noBuffer_keep (s : State) (f : Frame) (rank : Nat) : Keep 0x181183 s (State.noBuffer s f rank) := by
  unfold State.noBuffer
  with_reducible
    dsimp only; refine Keep.trans ?_ (State.endFrame_keep ..) rfl; refine keep_ite ?_ ?_
    refine Keep.trans ?_ (State.yieldRank_keep ..) rfl; refine Keep.trans ?_ (State.raise_keep ..) rfl
    refine Keep.trans ?_ (State.bump_keep ..) rfl; exact Keep.refl _; refine Keep.trans ?_ (State.raise_keep ..) rfl
    refine Keep.trans ?_ (State.bump_keep ..) rfl; exact Keep.refl _

theorem State.sourceTaken_keep (s : State) (f : Frame) : Keep 0x20002a2 s (State.sourceTaken s f) := by
  unfold State.sourceTaken
  with_reducible
    refine keep_ite ?_ ?_; exact Keep.refl _; split; exact Keep.refl _; refine keep_ite ?_ ?_
    refine Keep.trans ?_ (State.evtFull_keep ..) rfl; refine Keep.trans ?_ (State.evtAccepted_keep ..) rfl
    exact Keep.refl _; refine Keep.trans ?_ (State.bump_keep ..) rfl; refine Keep.trans ?_ (State.setCan_keep ..) rfl
    exact Keep.refl _

theorem State.p15Sec_keep (s : State) (fid : Nat) : Keep 0x20013ab s (State.p15Sec s fid) := by
  unfold State.p15Sec
  with_reducible
    split; exact Keep.refl _; refine keep_ite ?_ ?_; split; refine Keep.trans ?_ (State.putFrame_keep ..) rfl
    refine keep_snd (by assumption) ?_; refine Keep.trans ?_ (State.secMeet_keep ..) rfl; exact Keep.refl _
    refine Keep.trans ?_ (State.endFrame_keep ..) rfl; refine Keep.trans ?_ (State.sourceTaken_keep ..) rfl
    refine keep_snd (by assumption) ?_; refine Keep.trans ?_ (State.secMeet_keep ..) rfl; exact Keep.refl _
    exact Keep.refl _

theorem State.failedMessage_keep (s : State) (f : Frame) : Keep 0x4005185583 s (State.failedMessage s f) := by
  unfold State.failedMessage
  with_reducible
    dsimp only; refine keep_ite ?_ ?_; refine Keep.trans ?_ (State.letIn_keep ..) rfl
    refine Keep.trans ?_ (State.deliver_keep ..) rfl; exact Keep.refl _
    refine Keep.trans ?_ (State.dropUnqueued_keep ..) rfl; refine Keep.trans ?_ (State.deliver_keep ..) rfl
    exact Keep.refl _

theorem State.place_keep (s : State) (f : Frame) (q share : Nat) : Keep 0x4007185fa3 s (State.place s f q share) := by
  unfold State.place
  with_reducible
    refine keep_ite ?_ ?_; dsimp only; refine keep_ite ?_ ?_; split
    refine Keep.trans ?_ (State.failedMessage_keep ..) rfl; refine Keep.trans ?_ (State.sourceTaken_keep ..) rfl
    refine Keep.trans ?_ (State.takeBuf_keep ..) rfl; exact Keep.refl _
    refine Keep.trans ?_ (State.sourceTaken_keep ..) rfl; refine Keep.trans ?_ (State.takeBuf_keep ..) rfl
    exact Keep.refl _; refine Keep.trans ?_ (State.sourceTaken_keep ..) rfl
    refine Keep.trans ?_ (State.takeBuf_keep ..) rfl; exact Keep.refl _; dsimp only; refine keep_ite ?_ ?_
    refine Keep.trans ?_ (State.endFrame_keep ..) rfl; refine Keep.trans ?_ (State.admitAll_keep ..) rfl
    exact Keep.refl _; refine Keep.trans ?_ (State.xoffCheck_keep ..) rfl; refine Keep.trans ?_ (State.letIn_keep ..) rfl
    refine Keep.trans ?_ (State.takeBuf_keep ..) rfl; exact Keep.refl _

theorem State.allocOne_keep (s : State) (fid : Nat) : Keep 0x4007185fa3 s (State.allocOne s fid).2 := by
  unfold State.allocOne
  with_reducible
    split; refine keep_pair ?_; exact Keep.refl _; dsimp only; split; refine keep_pair ?_
    refine Keep.trans ?_ (State.place_keep ..) rfl; exact Keep.refl _; refine keep_ite2 ?_ ?_; refine keep_pair ?_
    refine Keep.trans ?_ (State.putFrame_keep ..) rfl; exact Keep.refl _; refine keep_ite2 ?_ ?_; refine keep_pair ?_
    refine Keep.trans ?_ (State.xoffCheck_keep ..) rfl; refine Keep.trans ?_ (State.putFrame_keep ..) rfl
    exact Keep.refl _; refine keep_pair ?_; refine Keep.trans ?_ (State.noBuffer_keep ..) rfl; exact Keep.refl _

theorem State.serve_keep (s : State) (fs : List Frame) : Keep 0x4007185fa3 s (State.serve s fs).2 := by
  unfold State.serve
  with_reducible
    refine keep_foldl2 ?_ ?_; refine keep_pair ?_; exact Keep.refl _; intro _; intro _; dsimp only
    refine Keep.trans ?_ (State.allocOne_keep ..) rfl; exact Keep.refl _

theorem State.coreOffer_keep (s : State) (fids : List Nat) (sec : Bool) (d : Bytes) : Keep 0x280 s (State.coreOffer s fids sec d).2 := by
  unfold State.coreOffer
  with_reducible
    dsimp only; refine keep_ite2 ?_ ?_; refine keep_pair ?_; exact Keep.refl _; refine keep_pair ?_
    refine Keep.trans ?_ (State.offerP15_keep ..) rfl; exact Keep.refl _

theorem State.coreOffers_keep (s : State) (fids : List Nat) (core : List (Bool × Bytes)) : Keep 0x280 s (State.coreOffers s fids core).2 := by
  unfold State.coreOffers
  with_reducible
    refine keep_foldl2 ?_ ?_; refine keep_pair ?_; exact Keep.refl _; intro _; intro _
    refine Keep.trans ?_ (State.coreOffer_keep ..) rfl; exact Keep.refl _

theorem State.bufferAllocate_keep (s : State) (slice : Nat) (fids : List Nat) (core : List (Bool × Bytes)) : Keep 0x4007185fab s (State.bufferAllocate s slice fids core) := by
  unfold State.bufferAllocate
  with_reducible
    split; dsimp only; refine keep_ite ?_ ?_; refine keep_ite ?_ ?_; refine keep_each ?_ ?_
    refine keep_snd (by assumption) ?_; refine keep_ite2 ?_ ?_; refine Keep.trans ?_ (State.coreOffers_keep ..) rfl
    exact Keep.refl _; refine keep_pair ?_; exact Keep.refl _; intro _; intro _
    refine Keep.trans ?_ (State.p15Sec_keep ..) rfl; exact Keep.refl _; refine keep_snd (by assumption) ?_
    refine keep_ite2 ?_ ?_; refine Keep.trans ?_ (State.coreOffers_keep ..) rfl; exact Keep.refl _; refine keep_pair ?_
    exact Keep.refl _; refine keep_ite ?_ ?_; refine keep_each ?_ ?_; split
    refine Keep.trans ?_ (State.allocOne_keep ..) rfl; refine keep_ite ?_ ?_; refine keep_each ?_ ?_
    refine keep_snd (by assumption) ?_; refine keep_ite2 ?_ ?_; refine Keep.trans ?_ (State.coreOffers_keep ..) rfl
    exact Keep.refl _; refine keep_pair ?_; exact Keep.refl _; intro _; intro _
    refine Keep.trans ?_ (State.p15Sec_keep ..) rfl; exact Keep.refl _; refine keep_snd (by assumption) ?_
    refine keep_ite2 ?_ ?_; refine Keep.trans ?_ (State.coreOffers_keep ..) rfl; exact Keep.refl _; refine keep_pair ?_
    exact Keep.refl _; refine keep_ite ?_ ?_; refine keep_each ?_ ?_; refine keep_snd (by assumption) ?_
    refine keep_ite2 ?_ ?_; refine Keep.trans ?_ (State.coreOffers_keep ..) rfl; exact Keep.refl _; refine keep_pair ?_
    exact Keep.refl _; intro _; intro _; refine Keep.trans ?_ (State.p15Sec_keep ..) rfl; exact Keep.refl _
    refine keep_snd (by assumption) ?_; refine keep_ite2 ?_ ?_; refine Keep.trans ?_ (State.coreOffers_keep ..) rfl
    exact Keep.refl _; refine keep_pair ?_; exact Keep.refl _; intro _; intro _
    refine Keep.trans ?_ (State.xoffCheck_keep ..) rfl; exact Keep.refl _; split
    refine Keep.trans ?_ (State.set_keep ..) rfl; refine keep_snd (by assumption) ?_
    refine Keep.trans ?_ (State.serve_keep ..) rfl; refine keep_ite ?_ ?_; refine keep_each ?_ ?_
    refine keep_snd (by assumption) ?_; refine keep_ite2 ?_ ?_; refine Keep.trans ?_ (State.coreOffers_keep ..) rfl
    exact Keep.refl _; refine keep_pair ?_; exact Keep.refl _; intro _; intro _
    refine Keep.trans ?_ (State.p15Sec_keep ..) rfl; exact Keep.refl _; refine keep_snd (by assumption) ?_
    refine keep_ite2 ?_ ?_; refine Keep.trans ?_ (State.coreOffers_keep ..) rfl; exact Keep.refl _; refine keep_pair ?_
    exact Keep.refl _; refine keep_snd (by assumption) ?_; refine Keep.trans ?_ (State.serve_keep ..) rfl
    refine keep_ite ?_ ?_; refine keep_each ?_ ?_; refine keep_snd (by assumption) ?_; refine keep_ite2 ?_ ?_
    refine Keep.trans ?_ (State.coreOffers_keep ..) rfl; exact Keep.refl _; refine keep_pair ?_; exact Keep.refl _
    intro _; intro _; refine Keep.trans ?_ (State.p15Sec_keep ..) rfl; exact Keep.refl _
    refine keep_snd (by assumption) ?_; refine keep_ite2 ?_ ?_; refine Keep.trans ?_ (State.coreOffers_keep ..) rfl
    exact Keep.refl _; refine keep_pair ?_; exact Keep.refl _

theorem State.xoffAll_keep (s : State) (i : Nat) : Keep 0x801 s (State.xoffAll s i) := by
  unfold State.xoffAll
  with_reducible
    refine keep_each ?_ ?_; exact Keep.refl _; intro _; intro _; refine Keep.trans ?_ (State.xoffCheck_keep ..) rfl
    exact Keep.refl _

theorem State.losslessWait_keep (s : State) (p : Nat) : Keep 0x181183 s (State.losslessWait s p) := by
  unfold State.losslessWait
  with_reducible
    split; exact Keep.refl _; refine keep_ite ?_ ?_; exact Keep.refl _; dsimp only
    refine Keep.trans ?_ (State.noBuffer_keep ..) rfl; refine keep_ite ?_ ?_
    refine Keep.trans ?_ (State.yieldRank_keep ..) rfl; refine Keep.trans ?_ (State.raise_keep ..) rfl
    refine Keep.trans ?_ (State.bump_keep ..) rfl; exact Keep.refl _; exact Keep.refl _

theorem State.relCmd_keep (s : State) (w : Word) : Keep 0x185183 s (State.relCmd s w) := by
  unfold State.relCmd
  with_reducible
    dsimp only; refine keep_ite ?_ ?_; refine Keep.trans ?_ (State.set_keep ..) rfl; refine keep_mk_slc ?_ rfl
    refine Keep.trans ?_ (State.releaseBuf_keep ..) rfl; exact Keep.refl _; refine Keep.trans ?_ (State.set_keep ..) rfl
    refine Keep.trans ?_ (State.releaseBuf_keep ..) rfl; exact Keep.refl _

theorem State.bufSel_keep (s : State) (w : Word) : Keep 0x180001 s (State.bufSel s w) := by
  unfold State.bufSel
  with_reducible
    dsimp only; split; refine Keep.trans ?_ (State.wr_keep ..) rfl; refine Keep.trans ?_ (State.wr_keep ..) rfl
    refine Keep.trans ?_ (State.plainWrite_keep ..) rfl; exact Keep.refl _; refine Keep.trans ?_ (State.wr_keep ..) rfl
    refine Keep.trans ?_ (State.wr_keep ..) rfl; refine Keep.trans ?_ (State.plainWrite_keep ..) rfl; exact Keep.refl _

theorem State.voqSel_keep (s : State) (w : Word) : Keep 0x180001 s (State.voqSel s w) := by
  unfold State.voqSel
  with_reducible
    dsimp only; refine Keep.trans ?_ (State.fillWindow_keep ..) rfl; refine Keep.trans ?_ (State.wr_keep ..) rfl
    refine Keep.trans ?_ (State.wr_keep ..) rfl; refine Keep.trans ?_ (State.plainWrite_keep ..) rfl; exact Keep.refl _

end Sys2Proof.Machine
end

