-- ==== Sys2Proof/Laws/KeepLkp.lean ====
section
/-! SUPPORT. What the operations of Machine/Lkp.lean keep. -/

set_option linter.unusedVariables false
set_option maxRecDepth 4000

namespace Sys2Proof.Machine

theorem State.gateStatus_keep (s : State) (p : Nat) : Keep 0x1 s (State.gateStatus s p) := by
  unfold State.gateStatus
  with_reducible
    dsimp only; refine Keep.trans ?_ (State.setBit_keep ..) rfl; refine Keep.trans ?_ (State.set_keep ..) rfl
    refine Keep.trans ?_ (State.set_keep ..) rfl; exact Keep.refl _

theorem State.setHold_keep (s : State) (p : Nat) (b : Bool) : Keep 0x10001 s (State.setHold s p b) := by
  unfold State.setHold
  with_reducible (dsimp only; refine Keep.trans ?_ (State.setBit_keep ..) rfl; refine keep_mk_lkp ?_ rfl; exact Keep.refl _)

theorem State.assertHold_keep (s : State) (p : Nat) : Keep 0x10003 s (State.assertHold s p) := by
  unfold State.assertHold
  with_reducible
    refine keep_ite ?_ ?_; exact Keep.refl _; refine Keep.trans ?_ (State.bump_keep ..) rfl
    refine Keep.trans ?_ (State.setHold_keep ..) rfl; exact Keep.refl _

theorem State.holdAssert_keep (s : State) (p : Nat) : Keep 0x10003 s (State.holdAssert s p) := by
  unfold State.holdAssert
  with_reducible
    dsimp only; refine keep_ite ?_ ?_; refine Keep.trans ?_ (State.assertHold_keep ..) rfl; exact Keep.refl _
    exact Keep.refl _

theorem State.asideStatus_keep (s : State) (p : Nat) : Keep 0x1 s (State.asideStatus s p) := by
  unfold State.asideStatus
  with_reducible (refine Keep.trans ?_ (State.set_keep ..) rfl; exact Keep.refl _)

theorem State.rejoin_keep (s : State) (p mask : Nat) : Keep 0x101 s (State.rejoin s p mask) := by
  unfold State.rejoin
  with_reducible (refine Keep.trans ?_ (State.asideStatus_keep ..) rfl; refine keep_mk_copies ?_ rfl; exact Keep.refl _)

theorem State.gateEntryStart_keep (s : State) (p : Nat) (ecc : EccState) : Keep 0x190103 s (State.gateEntryStart s p ecc) := by
  unfold State.gateEntryStart
  with_reducible
    refine keep_ite ?_ ?_; exact Keep.refl _; dsimp only; refine Keep.trans ?_ (State.rejoin_keep ..) rfl
    refine Keep.trans ?_ (State.gateStatus_keep ..) rfl; refine keep_ite ?_ ?_
    refine Keep.trans ?_ (State.raise_keep ..) rfl; refine keep_ite ?_ ?_; refine keep_mk_lkp ?_ rfl; exact Keep.refl _
    refine Keep.trans ?_ (State.wr_keep ..) rfl; refine keep_mk_lkp ?_ rfl; exact Keep.refl _; refine keep_ite ?_ ?_
    refine keep_mk_lkp ?_ rfl; exact Keep.refl _; refine keep_ite ?_ ?_; refine Keep.trans ?_ (State.setHold_keep ..) rfl
    refine keep_mk_lkp ?_ rfl; exact Keep.refl _; refine keep_ite ?_ ?_
    refine Keep.trans ?_ (State.assertHold_keep ..) rfl; refine keep_mk_lkp ?_ rfl; exact Keep.refl _
    refine keep_mk_lkp ?_ rfl; exact Keep.refl _

theorem State.changeLevels_keep (s : State) : Keep 0x1 s (State.changeLevels s) := by
  unfold State.changeLevels
  with_reducible (refine Keep.trans ?_ (State.set_keep ..) rfl; refine Keep.trans ?_ (State.setBit_keep ..) rfl; exact Keep.refl _)

theorem State.changeDisarm_keep (s : State) : Keep 0x10001 s (State.changeDisarm s) := by
  unfold State.changeDisarm
  with_reducible (refine Keep.trans ?_ (State.changeLevels_keep ..) rfl; refine keep_mk_lkp ?_ rfl; exact Keep.refl _)

theorem State.monMax_keep (s : State) (o c w v : Nat) : Keep 0x8 s (State.monMax s o c w v) := by
  unfold State.monMax
  with_reducible (dsimp only; refine Keep.trans ?_ (State.setTw_keep ..) rfl; exact Keep.refl _)

theorem State.monBump_keep (s : State) (o c w : Nat) : Keep 0x8 s (State.monBump s o c w) := by
  unfold State.monBump
  with_reducible (dsimp only; refine Keep.trans ?_ (State.setTw_keep ..) rfl; exact Keep.refl _)

theorem State.monDelay_keep (s : State) (o c te ti : Nat) : Keep 0x8 s (State.monDelay s o c te ti) := by
  unfold State.monDelay
  with_reducible
    dsimp only; refine Keep.trans ?_ (State.monBump_keep ..) rfl; refine Keep.trans ?_ (State.setTw_keep ..) rfl
    refine Keep.trans ?_ (State.setTw_keep ..) rfl; refine Keep.trans ?_ (State.monMax_keep ..) rfl; exact Keep.refl _

theorem State.setShaper_keep (s : State) (x : Shaper) : Keep 0x10000 s (State.setShaper s x) := by
  unfold State.setShaper
  with_reducible (refine keep_mk_lkp ?_ rfl; exact Keep.refl _)

theorem State.shaperCharge_keep (s : State) (o c bytes : Nat) : Keep 0x10000 s (State.shaperCharge s o c bytes) := by
  unfold State.shaperCharge
  with_reducible
    dsimp only; refine keep_ite ?_ ?_; exact Keep.refl _; refine Keep.trans ?_ (State.setShaper_keep ..) rfl
    exact Keep.refl _

theorem State.shaperCharges_keep (s : State) : Keep 0x10000 s (State.shaperCharges s) := by
  unfold State.shaperCharges
  with_reducible
    dsimp only; refine keep_mk_lkp ?_ rfl; refine keep_each ?_ ?_; exact Keep.refl _; intro _; intro _
    refine Keep.trans ?_ (State.shaperCharge_keep ..) rfl; exact Keep.refl _

theorem State.shaperRefund_keep (s : State) (c : Copy) (bytes : Nat) : Keep 0x10000 s (State.shaperRefund s c bytes) := by
  unfold State.shaperRefund
  with_reducible
    refine keep_ite ?_ ?_; refine keep_mk_lkp ?_ rfl; exact Keep.refl _; dsimp only; refine keep_ite ?_ ?_
    exact Keep.refl _; refine Keep.trans ?_ (State.setShaper_keep ..) rfl; exact Keep.refl _

theorem State.refillShaper_keep (s : State) (o c : Nat) : Keep 0x10000 s (State.refillShaper s o c) := by
  unfold State.refillShaper
  with_reducible
    dsimp only; refine keep_ite ?_ ?_; exact Keep.refl _; refine Keep.trans ?_ (State.setShaper_keep ..) rfl
    exact Keep.refl _

theorem State.shaperRefillAll_keep (s : State) : Keep 0x10000 s (State.shaperRefillAll s) := by
  unfold State.shaperRefillAll
  with_reducible
    refine keep_ite ?_ ?_; exact Keep.refl _; dsimp only; refine keep_each ?_ ?_; refine keep_mk_lkp ?_ rfl
    exact Keep.refl _; intro _; intro _; refine keep_ite ?_ ?_; exact Keep.refl _; refine keep_each ?_ ?_
    exact Keep.refl _; intro _; intro _; refine Keep.trans ?_ (State.refillShaper_keep ..) rfl; exact Keep.refl _

theorem State.lkpResult_keep (s : State) (res : Nat) : Keep 0x1 s (State.lkpResult s res) := by
  unfold State.lkpResult
  with_reducible (refine Keep.trans ?_ (State.wr_keep ..) rfl; exact Keep.refl _)

theorem State.lkpRun_keep (s : State) (cmd : Word) (ecc : EccState) : Keep 0x180009 s (State.lkpRun s cmd ecc) := by
  unfold State.lkpRun
  with_reducible
    dsimp only; refine keep_ite ?_ ?_; refine Keep.trans ?_ (State.lkpResult_keep ..) rfl; exact Keep.refl _
    refine keep_ite ?_ ?_; refine Keep.trans ?_ (State.lkpResult_keep ..) rfl; exact Keep.refl _; refine keep_ite ?_ ?_
    refine keep_ite ?_ ?_; refine Keep.trans ?_ (State.lkpResult_keep ..) rfl; exact Keep.refl _; refine keep_ite ?_ ?_
    refine Keep.trans ?_ (State.lkpResult_keep ..) rfl; exact Keep.refl _
    refine Keep.trans ?_ (State.lkpResult_keep ..) rfl; refine Keep.trans ?_ (State.setEntry_keep ..) rfl
    exact Keep.refl _; refine keep_ite ?_ ?_; refine Keep.trans ?_ (State.lkpResult_keep ..) rfl; refine keep_ite ?_ ?_
    exact Keep.refl _; refine Keep.trans ?_ (State.raise_keep ..) rfl; refine keep_ite ?_ ?_; exact Keep.refl _
    refine Keep.trans ?_ (State.wr_keep ..) rfl; exact Keep.refl _; refine Keep.trans ?_ (State.lkpResult_keep ..) rfl
    refine keep_ite ?_ ?_; refine Keep.trans ?_ (State.setEntry_keep ..) rfl
    refine Keep.trans ?_ (State.fillWindow_keep ..) rfl; exact Keep.refl _
    refine Keep.trans ?_ (State.fillWindow_keep ..) rfl; exact Keep.refl _

theorem State.lkpTable_keep (s : State) (ini : Initiator) (cmd : Word) (ecc : EccState) : Keep 0x4000180009 s (State.lkpTable s ini cmd ecc) := by
  unfold State.lkpTable
  with_reducible
    refine State.tableWrite_keepF ?_ ?_ rfl; exact Keep.refl _; intro _; refine Keep.trans ?_ (State.lkpRun_keep ..) rfl
    exact Keep.refl _

theorem State.adminWrite_keep (s : State) (p a : Nat) (w : Word) : Keep 0x180001 s (State.adminWrite s p a w) := by
  unfold State.adminWrite
  with_reducible
    refine keep_ite ?_ ?_; refine Keep.trans ?_ (State.raise_keep ..) rfl; exact Keep.refl _
    refine Keep.trans ?_ (State.plainWrite_keep ..) rfl; exact Keep.refl _

end Sys2Proof.Machine
end

