-- ==== Sys2Proof/Laws/KeepCrs.lean ====
section
/-! SUPPORT. What the operations of Machine/Crs.lean keep. -/

set_option linter.unusedVariables false
set_option maxRecDepth 4000

namespace Sys2Proof.Machine

theorem State.setPtr_keep (s : State) (a accept : Bool) (n v : Nat) : Keep 0x8000 s (State.setPtr s a accept n v) := by
  unfold State.setPtr
  with_reducible (dsimp only; refine keep_mk_crs ?_ rfl; exact Keep.refl _)

theorem State.openPhase_keep (s : State) (rs : List Req) (a : Bool) (done : List (Nat × Nat)) : Keep 0x8000 s (State.openPhase s rs a done).2 := by
  unfold State.openPhase
  with_reducible
    dsimp only; refine keep_each ?_ ?_; exact Keep.refl _; intro _; intro _
    refine Keep.trans ?_ (State.setPtr_keep ..) rfl; refine Keep.trans ?_ (State.setPtr_keep ..) rfl; exact Keep.refl _

theorem State.commitCopy_keep (s : State) (c : Copy) : Keep 0x18000 s (State.commitCopy s c).2 := by
  unfold State.commitCopy
  with_reducible (dsimp only; refine keep_mk_crs_lkp ?_ rfl; exact Keep.refl _)

theorem State.ageScan_keep (s : State) : Keep 0x4004185183 s (State.ageScan s) := by
  unfold State.ageScan
  with_reducible
    refine keep_ite ?_ ?_; exact Keep.refl _; dsimp only; refine keep_each ?_ ?_; exact Keep.refl _; intro _; intro _
    refine keep_ite ?_ ?_; exact Keep.refl _; refine Keep.trans ?_ (State.ageDrop_keep ..) rfl; exact Keep.refl _

theorem State.grantCell_keep (s : State) (a : Bool) (r : Req) : Keep 0x400419d183 s (State.grantCell s a r) := by
  unfold State.grantCell
  with_reducible
    split; exact Keep.refl _; split; dsimp only; refine keep_ite ?_ ?_; refine Keep.trans ?_ (State.newHead_keep ..) rfl
    refine Keep.trans ?_ (State.bump_keep ..) rfl; refine Keep.trans ?_ (State.putCopy_keep ..) rfl
    refine keep_snd (by assumption) ?_; refine keep_ite2 ?_ ?_; refine Keep.trans ?_ (State.commitCopy_keep ..) rfl
    exact Keep.refl _; refine keep_pair ?_; exact Keep.refl _; refine Keep.trans ?_ (State.bump_keep ..) rfl
    refine Keep.trans ?_ (State.putCopy_keep ..) rfl; refine keep_snd (by assumption) ?_; refine keep_ite2 ?_ ?_
    refine Keep.trans ?_ (State.commitCopy_keep ..) rfl; exact Keep.refl _; refine keep_pair ?_; exact Keep.refl _

theorem State.missingInfo_keep (s : State) (c : Copy) (planeLoss : Bool) : Keep 0x180001 s (State.missingInfo s c planeLoss) := by
  unfold State.missingInfo
  with_reducible
    dsimp only; refine Keep.trans ?_ (State.raise_keep ..) rfl; refine keep_ite ?_ ?_; exact Keep.refl _
    refine Keep.trans ?_ (State.wr_keep ..) rfl; exact Keep.refl _

theorem State.declareLost_keep (s : State) (c : Copy) (planeLoss : Bool) : Keep 0x4004185183 s (State.declareLost s c planeLoss) := by
  unfold State.declareLost
  with_reducible
    refine keep_ite ?_ ?_; refine Keep.trans ?_ (State.putCopy_keep ..) rfl; exact Keep.refl _; dsimp only
    refine keep_ite ?_ ?_; refine Keep.trans ?_ (State.putCopy_keep ..) rfl
    refine Keep.trans ?_ (State.bumpBy_keep ..) rfl; refine Keep.trans ?_ (State.missingInfo_keep ..) rfl
    refine Keep.trans ?_ (State.bump_keep ..) rfl; refine Keep.trans ?_ (State.bump_keep ..) rfl; exact Keep.refl _
    refine keep_ite ?_ ?_; refine Keep.trans ?_ (State.putCopy_keep ..) rfl
    refine Keep.trans ?_ (State.bumpBy_keep ..) rfl; refine Keep.trans ?_ (State.missingInfo_keep ..) rfl
    refine Keep.trans ?_ (State.bump_keep ..) rfl; refine Keep.trans ?_ (State.bump_keep ..) rfl; exact Keep.refl _
    refine Keep.trans ?_ (State.copyLeaves_keep ..) rfl; refine Keep.trans ?_ (State.putCopy_keep ..) rfl
    refine Keep.trans ?_ (State.bumpBy_keep ..) rfl; refine Keep.trans ?_ (State.missingInfo_keep ..) rfl
    refine Keep.trans ?_ (State.bump_keep ..) rfl; refine Keep.trans ?_ (State.bump_keep ..) rfl; exact Keep.refl _

theorem State.drained_keep (s : State) (cid : Nat) : Keep 0x185183 s (State.drained s cid) := by
  unfold State.drained
  with_reducible
    split; refine keep_ite ?_ ?_; refine Keep.trans ?_ (State.copyEnds_keep ..) rfl; exact Keep.refl _; exact Keep.refl _
    exact Keep.refl _

theorem State.planeCells_keep (s : State) (a : Bool) : Keep 0x4004185183 s (State.planeCells s a) := by
  unfold State.planeCells
  with_reducible
    refine keep_each ?_ ?_; exact Keep.refl _; intro _; intro _; split; exact Keep.refl _; dsimp only
    refine keep_ite ?_ ?_; refine Keep.trans ?_ (State.putCopy_keep ..) rfl; exact Keep.refl _
    refine Keep.trans ?_ (State.drained_keep ..) rfl; refine Keep.trans ?_ (State.declareLost_keep ..) rfl
    refine Keep.trans ?_ (State.putCopy_keep ..) rfl; refine Keep.trans ?_ (State.bumpBy_keep ..) rfl; exact Keep.refl _

theorem State.planeLeaves_keep (s : State) (a : Bool) (cause : Nat) : Keep 0x40041c5183 s (State.planeLeaves s a cause) := by
  unfold State.planeLeaves
  with_reducible
    refine keep_ite ?_ ?_; exact Keep.refl _; dsimp only; refine keep_ite ?_ ?_
    refine Keep.trans ?_ (State.raise_keep ..) rfl; refine Keep.trans ?_ (State.planeCells_keep ..) rfl
    refine keep_ite ?_ ?_; refine Keep.trans ?_ (State.bump_keep ..) rfl; refine Keep.trans ?_ (State.set_keep ..) rfl
    refine Keep.trans ?_ (State.setBit_keep ..) rfl; exact Keep.refl _; refine Keep.trans ?_ (State.set_keep ..) rfl
    refine Keep.trans ?_ (State.setBit_keep ..) rfl; exact Keep.refl _; refine Keep.trans ?_ (State.direct_keep ..) rfl
    refine keep_mk_fltCond ?_ rfl; refine Keep.trans ?_ (State.raise_keep ..) rfl
    refine Keep.trans ?_ (State.raise_keep ..) rfl; refine Keep.trans ?_ (State.planeCells_keep ..) rfl
    refine keep_ite ?_ ?_; refine Keep.trans ?_ (State.bump_keep ..) rfl; refine Keep.trans ?_ (State.set_keep ..) rfl
    refine Keep.trans ?_ (State.setBit_keep ..) rfl; exact Keep.refl _; refine Keep.trans ?_ (State.set_keep ..) rfl
    refine Keep.trans ?_ (State.setBit_keep ..) rfl; exact Keep.refl _

theorem State.schedFault_keep (s : State) (a : Bool) (f : CrsFault) : Keep 0x40041cd183 s (State.schedFault s a f) := by
  unfold State.schedFault
  with_reducible
    refine keep_ite ?_ ?_; exact Keep.refl _; dsimp only; split; exact Keep.refl _
    refine Keep.trans ?_ (State.planeLeaves_keep ..) rfl; refine keep_ite ?_ ?_; exact Keep.refl _
    refine Keep.trans ?_ (State.wr_keep ..) rfl; refine keep_mk_crs ?_ rfl; exact Keep.refl _
    refine Keep.trans ?_ (State.planeLeaves_keep ..) rfl; refine keep_ite ?_ ?_; exact Keep.refl _
    refine Keep.trans ?_ (State.wr_keep ..) rfl; refine keep_mk_crs ?_ rfl; exact Keep.refl _

theorem State.outputStatus_keep (s : State) (o elig : Nat) : Keep 0x9 s (State.outputStatus s o elig) := by
  unfold State.outputStatus
  with_reducible
    dsimp only; refine keep_each ?_ ?_; refine Keep.trans ?_ (State.set_keep ..) rfl
    refine Keep.trans ?_ (State.set_keep ..) rfl; exact Keep.refl _; intro _; intro _
    refine Keep.trans ?_ (State.monMax_keep ..) rfl; exact Keep.refl _

theorem State.planeTime_keep (s : State) (hs : List Copy) (entries : List Nat) (a : Bool) : Keep 0x188003 s (State.planeTime s hs entries a).2 := by
  unfold State.planeTime
  with_reducible
    refine keep_ite2 ?_ ?_; refine keep_pair ?_; exact Keep.refl _; dsimp only
    refine Keep.trans ?_ (State.openPhase_keep ..) rfl; refine keep_ite ?_ ?_
    refine Keep.trans ?_ (State.bumpBy_keep ..) rfl; refine Keep.trans ?_ (State.bumpBy_keep ..) rfl
    refine Keep.trans ?_ (State.bumpBy_keep ..) rfl; exact Keep.refl _; refine Keep.trans ?_ (State.raise_keep ..) rfl
    refine Keep.trans ?_ (State.bumpBy_keep ..) rfl; refine Keep.trans ?_ (State.bumpBy_keep ..) rfl
    refine Keep.trans ?_ (State.bumpBy_keep ..) rfl; exact Keep.refl _

theorem State.cellRead_keep (s : State) (g : Req) (e : EccState) : Keep 0x180103 s (State.cellRead s g e) := by
  unfold State.cellRead
  with_reducible
    split; exact Keep.refl _; refine Keep.trans ?_ (State.bump_keep ..) rfl; exact Keep.refl _; dsimp only; split
    refine Keep.trans ?_ (State.putCopy_keep ..) rfl; refine Keep.trans ?_ (State.raise_keep ..) rfl
    refine Keep.trans ?_ (State.bump_keep ..) rfl; refine keep_ite ?_ ?_; exact Keep.refl _
    refine Keep.trans ?_ (State.wr_keep ..) rfl; exact Keep.refl _; refine Keep.trans ?_ (State.raise_keep ..) rfl
    refine Keep.trans ?_ (State.bump_keep ..) rfl; refine keep_ite ?_ ?_; exact Keep.refl _
    refine Keep.trans ?_ (State.wr_keep ..) rfl; exact Keep.refl _

theorem State.cellReads_keep (z0 : List (Fin 16 × EccState)) (z1 : List Req) (z2 : State) : Keep 0x180103 z2 (State.cellReads z0 z1 z2) := by
  induction z0 generalizing z1 z2 with
  | nil => exact Keep.refl _
  | cons x l ih =>
    unfold State.cellReads
    with_reducible
      split; refine Keep.trans ?_ (ih ..) rfl; exact Keep.refl _; refine Keep.trans ?_ (ih ..) rfl
      refine Keep.trans ?_ (State.cellRead_keep ..) rfl; exact Keep.refl _

theorem State.ownerError_keep (s : State) (record : Option (Fin 16 × BitVec 24)) : Keep 0x4004185183 s (State.ownerError s record) := by
  unfold State.ownerError
  with_reducible
    split; exact Keep.refl _; dsimp only; split; refine keep_ite ?_ ?_; refine Keep.trans ?_ (State.withdraw_keep ..) rfl
    exact Keep.refl _; refine Keep.trans ?_ (State.withdrawFree_keep ..) rfl; exact Keep.refl _; refine keep_ite ?_ ?_
    refine Keep.trans ?_ (State.withdrawFree_keep ..) rfl; exact Keep.refl _; exact Keep.refl _

theorem State.cellStarted_keep (s : State) : Keep 0x8000 s (State.cellStarted s) := by
  unfold State.cellStarted
  with_reducible (refine keep_mk_crs ?_ rfl; exact Keep.refl _)

theorem State.cellTime_keep (s : State) (fa fb : CrsFault) (reads : List (Fin 16 × EccState)) (record : Option (Fin 16 × BitVec 24)) : Keep 0x40041dd18b s (State.cellTime s fa fb reads record) := by
  unfold State.cellTime
  with_reducible
    refine keep_ite ?_ ?_; exact Keep.refl _; dsimp only; refine keep_ite ?_ ?_
    refine Keep.trans ?_ (State.cellStarted_keep ..) rfl; refine keep_mk_crs ?_ rfl; exact Keep.refl _
    refine Keep.trans ?_ (State.schedFault_keep ..) rfl; refine Keep.trans ?_ (State.schedFault_keep ..) rfl
    refine keep_each ?_ ?_; refine Keep.trans ?_ (State.cellStarted_keep ..) rfl
    refine Keep.trans ?_ (State.cellReads_keep ..) rfl; refine keep_each ?_ ?_; refine keep_each ?_ ?_
    refine keep_ite ?_ ?_; refine Keep.trans ?_ (State.planeTime_keep ..) rfl; refine keep_ite ?_ ?_
    refine Keep.trans ?_ (State.planeTime_keep ..) rfl; refine Keep.trans ?_ (State.ownerError_keep ..) rfl
    refine Keep.trans ?_ (State.shaperCharges_keep ..) rfl; refine keep_mk_crs ?_ rfl; exact Keep.refl _
    refine Keep.trans ?_ (State.ownerError_keep ..) rfl; refine Keep.trans ?_ (State.shaperCharges_keep ..) rfl
    refine keep_mk_crs ?_ rfl; exact Keep.refl _; refine keep_ite ?_ ?_
    refine Keep.trans ?_ (State.planeTime_keep ..) rfl; refine Keep.trans ?_ (State.ownerError_keep ..) rfl
    refine Keep.trans ?_ (State.shaperCharges_keep ..) rfl; refine keep_mk_crs ?_ rfl; exact Keep.refl _
    refine Keep.trans ?_ (State.ownerError_keep ..) rfl; refine Keep.trans ?_ (State.shaperCharges_keep ..) rfl
    refine keep_mk_crs ?_ rfl; exact Keep.refl _; intro _; intro _; refine Keep.trans ?_ (State.grantCell_keep ..) rfl
    exact Keep.refl _; intro _; intro _; refine Keep.trans ?_ (State.grantCell_keep ..) rfl; exact Keep.refl _; intro _
    intro _; refine Keep.trans ?_ (State.outputStatus_keep ..) rfl; exact Keep.refl _

theorem State.staleCell_keep (s : State) : Keep 0x180003 s (State.staleCell s) := by
  unfold State.staleCell
  with_reducible (refine Keep.trans ?_ (State.raise_keep ..) rfl; refine Keep.trans ?_ (State.bump_keep ..) rfl; exact Keep.refl _)

theorem State.cellPlace_keep (s : State) (c : Copy) (idx : Nat) (ecc : EccState) : Keep 0x4004185183 s (State.cellPlace s c idx ecc) := by
  unfold State.cellPlace
  with_reducible
    split; dsimp only; refine Keep.trans ?_ (State.drained_keep ..) rfl
    refine Keep.trans ?_ (State.declareLost_keep ..) rfl; refine Keep.trans ?_ (State.raise_keep ..) rfl
    refine Keep.trans ?_ (State.bump_keep ..) rfl; refine Keep.trans ?_ (State.putCopy_keep ..) rfl; exact Keep.refl _
    dsimp only; refine keep_ite ?_ ?_; refine Keep.trans ?_ (State.drained_keep ..) rfl
    refine Keep.trans ?_ (State.putCopy_keep ..) rfl; refine keep_ite ?_ ?_; refine Keep.trans ?_ (State.bump_keep ..) rfl
    exact Keep.refl _; exact Keep.refl _; refine Keep.trans ?_ (State.putCopy_keep ..) rfl; refine keep_ite ?_ ?_
    refine Keep.trans ?_ (State.bump_keep ..) rfl; exact Keep.refl _; exact Keep.refl _

theorem State.cellMeet_keep (s : State) (i o : Nat) (express : Bool) (seq idx : Nat) (ecc : EccState) : Keep 0x4004185183 s (State.cellMeet s i o express seq idx ecc) := by
  unfold State.cellMeet
  with_reducible
    split; refine Keep.trans ?_ (State.staleCell_keep ..) rfl; exact Keep.refl _; split
    refine Keep.trans ?_ (State.staleCell_keep ..) rfl; exact Keep.refl _; dsimp only; refine keep_ite ?_ ?_
    refine Keep.trans ?_ (State.drained_keep ..) rfl; refine Keep.trans ?_ (State.bump_keep ..) rfl
    refine Keep.trans ?_ (State.staleCell_keep ..) rfl; refine Keep.trans ?_ (State.putCopy_keep ..) rfl
    exact Keep.refl _; refine Keep.trans ?_ (State.cellPlace_keep ..) rfl; exact Keep.refl _

theorem State.cellArrival_keep (s : State) (i o : Nat) (express : Bool) (seq idx : Nat) (flips : BitVec 192) (ecc : EccState) : Keep 0x4004185183 s (State.cellArrival s i o express seq idx flips ecc) := by
  unfold State.cellArrival
  with_reducible
    refine keep_ite ?_ ?_; exact Keep.refl _; split; refine keep_ite ?_ ?_; exact Keep.refl _
    refine Keep.trans ?_ (State.staleCell_keep ..) rfl; exact Keep.refl _; dsimp only; refine keep_ite ?_ ?_
    refine Keep.trans ?_ (State.cellMeet_keep ..) rfl; exact Keep.refl _; refine keep_ite ?_ ?_
    refine Keep.trans ?_ (State.cellMeet_keep ..) rfl; exact Keep.refl _
    refine Keep.trans ?_ (State.cellMeet_keep ..) rfl; exact Keep.refl _

theorem State.cellMissing_keep (s : State) (i o : Nat) (express : Bool) (seq idx : Nat) : Keep 0x4004185183 s (State.cellMissing s i o express seq idx) := by
  unfold State.cellMissing
  with_reducible
    split; exact Keep.refl _; split; exact Keep.refl _; refine keep_ite ?_ ?_; exact Keep.refl _; dsimp only
    refine Keep.trans ?_ (State.drained_keep ..) rfl; refine Keep.trans ?_ (State.declareLost_keep ..) rfl
    refine Keep.trans ?_ (State.putCopy_keep ..) rfl; exact Keep.refl _

theorem State.planeRestore_keep (s : State) (a : Bool) : Keep 0x8000 s (State.planeRestore s a) := by
  unfold State.planeRestore
  with_reducible
    dsimp only; refine keep_ite ?_ ?_; exact Keep.refl _; refine keep_ite ?_ ?_; refine keep_mk_crs ?_ rfl
    exact Keep.refl _; refine keep_mk_crs ?_ rfl; exact Keep.refl _

theorem State.planeCarries_keep (s : State) (a : Bool) : Keep 0x100 s (State.planeCarries s a) := by
  unfold State.planeCarries
  with_reducible (refine keep_ite ?_ ?_; exact Keep.refl _; refine keep_mk_copies ?_ rfl; exact Keep.refl _)

theorem State.selfCheckDone_keep (s : State) (a pass : Bool) : Keep 0x1c8101 s (State.selfCheckDone s a pass) := by
  unfold State.selfCheckDone
  with_reducible
    refine keep_ite ?_ ?_; exact Keep.refl _; dsimp only; refine keep_ite ?_ ?_
    refine Keep.trans ?_ (State.raise_keep ..) rfl; refine keep_ite ?_ ?_; refine keep_mk_crs ?_ rfl; exact Keep.refl _
    refine keep_mk_crs ?_ rfl; exact Keep.refl _; refine Keep.trans ?_ (State.planeCarries_keep ..) rfl
    refine Keep.trans ?_ (State.setBit_keep ..) rfl; refine keep_mk_crs_fltCond ?_ rfl; refine keep_ite ?_ ?_
    refine keep_mk_crs ?_ rfl; exact Keep.refl _; refine keep_mk_crs ?_ rfl; exact Keep.refl _

theorem State.ptrSel_keep (s : State) (w : Word) : Keep 0x180001 s (State.ptrSel s w) := by
  unfold State.ptrSel
  with_reducible
    dsimp only; refine Keep.trans ?_ (State.wr_keep ..) rfl; refine Keep.trans ?_ (State.wr_keep ..) rfl
    refine Keep.trans ?_ (State.wr_keep ..) rfl; refine Keep.trans ?_ (State.wr_keep ..) rfl
    refine Keep.trans ?_ (State.plainWrite_keep ..) rfl; exact Keep.refl _

theorem State.tsSel_keep (s : State) (w : Word) : Keep 0x2000180001 s (State.tsSel s w) := by
  unfold State.tsSel
  with_reducible
    dsimp only; refine Keep.trans ?_ (State.wr_keep ..) rfl; refine Keep.trans ?_ (State.wr_keep ..) rfl; split
    refine keep_pair ?_; refine Keep.trans ?_ (State.plainWrite_keep ..) rfl; exact Keep.refl _; refine keep_pair ?_
    refine Keep.trans ?_ (State.draw_keep ..) rfl; refine Keep.trans ?_ (State.plainWrite_keep ..) rfl; exact Keep.refl _

theorem State.crsResult_keep (s : State) (res : Nat) : Keep 0x1 s (State.crsResult s res) := by
  unfold State.crsResult
  with_reducible (refine Keep.trans ?_ (State.wr_keep ..) rfl; exact Keep.refl _)

theorem State.crsRun_keep (s : State) (cmd : Word) (ecc : EccState) : Keep 0x9 s (State.crsRun s cmd ecc) := by
  unfold State.crsRun
  with_reducible
    dsimp only; refine keep_ite ?_ ?_; refine Keep.trans ?_ (State.crsResult_keep ..) rfl; exact Keep.refl _
    refine keep_ite ?_ ?_; refine keep_ite ?_ ?_; refine Keep.trans ?_ (State.crsResult_keep ..) rfl; exact Keep.refl _
    refine Keep.trans ?_ (State.crsResult_keep ..) rfl; refine Keep.trans ?_ (State.setEntry_keep ..) rfl
    exact Keep.refl _; refine keep_ite ?_ ?_; refine Keep.trans ?_ (State.crsResult_keep ..) rfl; exact Keep.refl _
    refine Keep.trans ?_ (State.crsResult_keep ..) rfl; refine Keep.trans ?_ (State.fillWindow_keep ..) rfl
    exact Keep.refl _

theorem State.crsTable_keep (s : State) (ini : Initiator) (cmd : Word) (ecc : EccState) : Keep 0x4000180009 s (State.crsTable s ini cmd ecc) := by
  unfold State.crsTable
  with_reducible
    refine State.tableWrite_keepF ?_ ?_ rfl; exact Keep.refl _; intro _; refine Keep.trans ?_ (State.crsRun_keep ..) rfl
    exact Keep.refl _

end Sys2Proof.Machine
end

