-- ==== Sys2Proof/Laws/KeepLinked.lean ====
section
/-! SUPPORT. What the operations of Machine/Linked.lean keep. -/

set_option linter.unusedVariables false
set_option maxRecDepth 4000

namespace Sys2Proof.Machine

theorem State.sendCtrl_keep (s : State) (type : Nat) (ws : List Word) : Keep 0x4004000000 s (State.sendCtrl s type ws) := by
  unfold State.sendCtrl
  with_reducible
    refine keep_ite ?_ ?_; exact Keep.refl _; dsimp only; refine keep_mk_twp ?_ rfl
    refine Keep.trans ?_ (State.twSend_keep ..) rfl; exact Keep.refl _

theorem State.pcForget_keep (s : State) (t : Nat) : Keep 0x4000000 s (State.pcForget s t) := by
  unfold State.pcForget
  with_reducible (refine keep_mk_twp ?_ rfl; exact Keep.refl _)

theorem State.announce_keep (s : State) (t : Nat) : Keep 0x4004000000 s (State.announce s t) := by
  unfold State.announce
  with_reducible
    refine keep_ite ?_ ?_; refine Keep.trans ?_ (State.sendCtrl_keep ..) rfl
    refine Keep.trans ?_ (State.pcForget_keep ..) rfl; exact Keep.refl _; exact Keep.refl _

theorem State.verCommitAt_keep (s : State) (link : Bool) : Keep 0x4004181001 s (State.verCommitAt s link) := by
  unfold State.verCommitAt
  with_reducible
    refine keep_ite ?_ ?_; refine Keep.trans ?_ (State.verRefuse_keep ..) rfl; exact Keep.refl _; refine keep_ite ?_ ?_
    refine Keep.trans ?_ (State.raise_keep ..) rfl; exact Keep.refl _; dsimp only; refine keep_ite ?_ ?_
    refine Keep.trans ?_ (State.announce_keep ..) rfl; refine Keep.trans ?_ (State.verLevels_keep ..) rfl
    refine keep_mk_slc ?_ rfl; exact Keep.refl _; refine Keep.trans ?_ (State.verLevels_keep ..) rfl
    refine keep_mk_slc ?_ rfl; exact Keep.refl _

theorem State.changeArm_keep (s : State) (mask : Nat) (link : Bool) : Keep 0x4004190001 s (State.changeArm s mask link) := by
  unfold State.changeArm
  with_reducible
    dsimp only; split; refine Keep.trans ?_ (State.raise_keep ..) rfl; refine Keep.trans ?_ (State.set_keep ..) rfl
    refine Keep.trans ?_ (State.set_keep ..) rfl; exact Keep.refl _; refine keep_ite ?_ ?_
    refine Keep.trans ?_ (State.announce_keep ..) rfl; refine Keep.trans ?_ (State.changeLevels_keep ..) rfl
    refine keep_mk_lkp ?_ rfl; exact Keep.refl _; refine Keep.trans ?_ (State.changeLevels_keep ..) rfl
    refine keep_mk_lkp ?_ rfl; exact Keep.refl _

theorem State.changeCancel_keep (s : State) : Keep 0x190001 s (State.changeCancel s) := by
  unfold State.changeCancel
  with_reducible
    refine keep_ite ?_ ?_; refine Keep.trans ?_ (State.raise_keep ..) rfl
    refine Keep.trans ?_ (State.changeDisarm_keep ..) rfl; exact Keep.refl _; exact Keep.refl _

theorem State.linkCancel_keep (s : State) (t : Nat) : Keep 0x4191001 s (State.linkCancel s t) := by
  unfold State.linkCancel
  with_reducible
    dsimp only; refine Keep.trans ?_ (State.setBit_keep ..) rfl; refine Keep.trans ?_ (State.pcForget_keep ..) rfl
    refine keep_ite ?_ ?_; refine Keep.trans ?_ (State.changeCancel_keep ..) rfl; refine keep_ite ?_ ?_
    refine Keep.trans ?_ (State.verDisarm_keep ..) rfl; exact Keep.refl _; exact Keep.refl _; refine keep_ite ?_ ?_
    refine Keep.trans ?_ (State.verDisarm_keep ..) rfl; exact Keep.refl _; exact Keep.refl _

theorem State.commitCancel_keep (s : State) : Keep 0x4191001 s (State.commitCancel s) := by
  unfold State.commitCancel
  with_reducible
    split; exact Keep.refl _; refine keep_ite ?_ ?_; refine Keep.trans ?_ (State.linkCancel_keep ..) rfl
    exact Keep.refl _; refine Keep.trans ?_ (State.verDisarm_keep ..) rfl; exact Keep.refl _

theorem State.verCancel_keep (s : State) : Keep 0x4191001 s (State.verCancel s) := by
  unfold State.verCancel
  with_reducible
    refine keep_ite ?_ ?_; refine Keep.trans ?_ (State.verRefuse_keep ..) rfl; exact Keep.refl _
    refine Keep.trans ?_ (State.commitCancel_keep ..) rfl; exact Keep.refl _

theorem State.verAbandon_keep (s : State) : Keep 0x4191001 s (State.verAbandon s) := by
  unfold State.verAbandon
  with_reducible
    split; refine Keep.trans ?_ (State.verRefuse_keep ..) rfl; exact Keep.refl _; refine keep_ite ?_ ?_
    refine Keep.trans ?_ (State.verRefuse_keep ..) rfl; exact Keep.refl _; dsimp only
    refine Keep.trans ?_ (State.verLevels_keep ..) rfl; refine keep_mk_slc ?_ rfl
    refine Keep.trans ?_ (State.setBit_keep ..) rfl; refine Keep.trans ?_ (State.setLive_keep ..) rfl
    refine Keep.trans ?_ (State.commitCancel_keep ..) rfl; exact Keep.refl _

theorem State.gateCancel_keep (s : State) : Keep 0x4191001 s (State.gateCancel s) := by
  unfold State.gateCancel
  with_reducible
    split; exact Keep.refl _; refine keep_ite ?_ ?_; refine Keep.trans ?_ (State.linkCancel_keep ..) rfl
    exact Keep.refl _; refine Keep.trans ?_ (State.changeCancel_keep ..) rfl; exact Keep.refl _

theorem State.takeReservations_keep (s : State) (p : Nat) : Keep 0x8 s (State.takeReservations s p) := by
  unfold State.takeReservations
  with_reducible
    dsimp only; refine keep_each ?_ ?_; refine keep_each ?_ ?_; exact Keep.refl _; intro _; intro _
    refine Keep.trans ?_ (State.setEntry_keep ..) rfl; exact Keep.refl _; intro _; intro _
    refine Keep.trans ?_ (State.setEntry_keep ..) rfl; exact Keep.refl _

theorem State.operTake_keep (s : State) (p : Nat) : Keep 0x9 s (State.operTake s p) := by
  unfold State.operTake
  with_reducible
    dsimp only; refine Keep.trans ?_ (State.takeReservations_keep ..) rfl; refine keep_each ?_ ?_; refine keep_each ?_ ?_
    refine keep_each ?_ ?_; exact Keep.refl _; intro _; intro _; refine Keep.trans ?_ (State.eraseTabs_keep ..) rfl
    exact Keep.refl _; intro _; intro _; refine Keep.trans ?_ (State.setTab_keep ..) rfl; exact Keep.refl _; intro _
    intro _; refine Keep.trans ?_ (State.wr_keep ..) rfl; exact Keep.refl _

theorem State.meetList_keep (s : State) (p : Nat) : Keep 0x10103 s (State.meetList s p) := by
  unfold State.meetList
  with_reducible
    dsimp only; refine Keep.trans ?_ (State.rejoin_keep ..) rfl; refine Keep.trans ?_ (State.gateStatus_keep ..) rfl
    refine keep_ite ?_ ?_; refine Keep.trans ?_ (State.assertHold_keep ..) rfl; refine keep_mk_lkp ?_ rfl
    exact Keep.refl _; refine Keep.trans ?_ (State.setHold_keep ..) rfl; refine keep_mk_lkp ?_ rfl; exact Keep.refl _

theorem State.changeFire_keep (s : State) : Keep 0x19010b s (State.changeFire s) := by
  unfold State.changeFire
  with_reducible
    split; exact Keep.refl _; dsimp only; refine Keep.trans ?_ (State.raise_keep ..) rfl; refine keep_each ?_ ?_
    refine Keep.trans ?_ (State.changeDisarm_keep ..) rfl; exact Keep.refl _; intro _; intro _
    refine Keep.trans ?_ (State.meetList_keep ..) rfl; refine Keep.trans ?_ (State.operTake_keep ..) rfl
    exact Keep.refl _

theorem State.linkFire_keep (s : State) (t : Nat) : Keep 0x419110b s (State.linkFire s t) := by
  unfold State.linkFire
  with_reducible
    dsimp only; refine Keep.trans ?_ (State.setBit_keep ..) rfl; refine Keep.trans ?_ (State.pcForget_keep ..) rfl
    refine keep_ite ?_ ?_; refine Keep.trans ?_ (State.changeFire_keep ..) rfl; refine keep_ite ?_ ?_
    refine Keep.trans ?_ (State.verFire_keep ..) rfl; exact Keep.refl _; exact Keep.refl _; refine keep_ite ?_ ?_
    refine Keep.trans ?_ (State.verFire_keep ..) rfl; exact Keep.refl _; exact Keep.refl _

theorem State.linkDue_keep (s : State) (t : Nat) : Keep 0x419110b s (State.linkDue s t) := by
  unfold State.linkDue
  with_reducible
    refine keep_ite ?_ ?_; refine Keep.trans ?_ (State.linkFire_keep ..) rfl; exact Keep.refl _; refine keep_ite ?_ ?_
    refine Keep.trans ?_ (State.linkFire_keep ..) rfl; exact Keep.refl _; refine keep_ite ?_ ?_; exact Keep.refl _
    refine Keep.trans ?_ (State.setBit_keep ..) rfl; exact Keep.refl _

theorem State.commitFire_keep (s : State) : Keep 0x419110b s (State.commitFire s) := by
  unfold State.commitFire
  with_reducible
    split; exact Keep.refl _; refine keep_ite ?_ ?_; refine Keep.trans ?_ (State.linkDue_keep ..) rfl; exact Keep.refl _
    refine Keep.trans ?_ (State.verFire_keep ..) rfl; exact Keep.refl _

theorem State.gateChangeFire_keep (s : State) : Keep 0x419110b s (State.gateChangeFire s) := by
  unfold State.gateChangeFire
  with_reducible
    split; exact Keep.refl _; refine keep_ite ?_ ?_; exact Keep.refl _; refine keep_ite ?_ ?_
    refine Keep.trans ?_ (State.linkDue_keep ..) rfl; exact Keep.refl _
    refine Keep.trans ?_ (State.changeFire_keep ..) rfl; exact Keep.refl _

end Sys2Proof.Machine
end

