-- ==== Sys2Proof/Laws/KeepKey.lean ====
section
/-! SUPPORT. What the operations of Machine/Key.lean keep. -/

set_option linter.unusedVariables false
set_option maxRecDepth 4000

namespace Sys2Proof.Machine

theorem State.keyEnd_keep (s : State) (res : Nat) : Keep 0x8180001 s (State.keyEnd s res) := by
  unfold State.keyEnd
  with_reducible
    dsimp only; refine Keep.trans ?_ (State.raise_keep ..) rfl; refine Keep.trans ?_ (State.set_keep ..) rfl
    refine Keep.trans ?_ (State.setBit_keep ..) rfl; refine keep_mk_key ?_ rfl; refine keep_each ?_ ?_; exact Keep.refl _
    intro _; intro _; refine Keep.trans ?_ (State.wr_keep ..) rfl; exact Keep.refl _

theorem State.keyCmd_keep (s : State) (op slot : Nat) : Keep 0x8180001 s (State.keyCmd s op slot) := by
  unfold State.keyCmd
  with_reducible
    refine keep_ite ?_ ?_; refine Keep.trans ?_ (State.raise_keep ..) rfl; exact Keep.refl _; dsimp only
    refine keep_ite ?_ ?_; refine Keep.trans ?_ (State.keyEnd_keep ..) rfl; refine Keep.trans ?_ (State.set_keep ..) rfl
    exact Keep.refl _; refine Keep.trans ?_ (State.setBit_keep ..) rfl; refine keep_mk_key ?_ rfl
    refine Keep.trans ?_ (State.set_keep ..) rfl; exact Keep.refl _

theorem State.keyCmdDone_keep (s : State) : Keep 0x818000b s (State.keyCmdDone s) := by
  unfold State.keyCmdDone
  with_reducible
    split; exact Keep.refl _; refine keep_ite ?_ ?_; refine Keep.trans ?_ (State.keyEnd_keep ..) rfl; exact Keep.refl _
    dsimp only; refine Keep.trans ?_ (State.keyEnd_keep ..) rfl; refine keep_ite ?_ ?_
    refine Keep.trans ?_ (State.wr_keep ..) rfl; refine Keep.trans ?_ (State.wr_keep ..) rfl; refine keep_ite ?_ ?_
    refine Keep.trans ?_ (State.bump_keep ..) rfl; split; refine Keep.trans ?_ (State.setEntry_keep ..) rfl
    exact Keep.refl _; exact Keep.refl _; split; refine Keep.trans ?_ (State.setEntry_keep ..) rfl; exact Keep.refl _
    exact Keep.refl _; refine keep_ite ?_ ?_; refine Keep.trans ?_ (State.bump_keep ..) rfl; split
    refine Keep.trans ?_ (State.setEntry_keep ..) rfl; exact Keep.refl _; exact Keep.refl _; split
    refine Keep.trans ?_ (State.setEntry_keep ..) rfl; exact Keep.refl _; exact Keep.refl _

theorem State.keyWriteCmd_keep (s : State) (ini : Initiator) (op : Nat) (slot : BitVec 10) : Keep 0x4008180001 s (State.keyWriteCmd s ini op slot) := by
  unfold State.keyWriteCmd
  with_reducible
    refine State.writeAt_keepF ?_ ?_ rfl; exact Keep.refl _; intro _; refine Keep.trans ?_ (State.keyCmd_keep ..) rfl
    exact Keep.refl _

theorem State.keysLost_keep (s : State) : Keep 0x180189 s (State.keysLost s) := by
  unfold State.keysLost
  with_reducible
    dsimp only; refine Keep.trans ?_ (State.raise_keep ..) rfl; refine keep_mk_frames_copies ?_ rfl
    refine keep_each ?_ ?_; exact Keep.refl _; intro _; intro _; refine Keep.trans ?_ (State.setTw_keep ..) rfl
    exact Keep.refl _

theorem State.slotsCleared_keep (s : State) : Keep 0x8 s (State.slotsCleared s) := by
  unfold State.slotsCleared
  with_reducible (refine Keep.trans ?_ (State.filterTabs_keep ..) rfl; exact Keep.refl _)

theorem State.zeroize_keep (s : State) : Keep 0x28180189 s (State.zeroize s) := by
  unfold State.zeroize
  with_reducible
    dsimp only; refine Keep.trans ?_ (State.keysLost_keep ..) rfl; refine Keep.trans ?_ (State.setBit_keep ..) rfl
    refine keep_ite ?_ ?_; refine Keep.trans ?_ (State.keyEnd_keep ..) rfl; refine keep_mk_la ?_ rfl
    refine Keep.trans ?_ (State.slotsCleared_keep ..) rfl; exact Keep.refl _; refine keep_mk_la ?_ rfl
    refine Keep.trans ?_ (State.slotsCleared_keep ..) rfl; exact Keep.refl _

theorem State.zeroizeDone_keep (s : State) : Keep 0x180003 s (State.zeroizeDone s) := by
  unfold State.zeroizeDone
  with_reducible
    refine keep_ite ?_ ?_; refine Keep.trans ?_ (State.raise_keep ..) rfl; refine Keep.trans ?_ (State.bump_keep ..) rfl
    refine Keep.trans ?_ (State.setBit_keep ..) rfl; exact Keep.refl _; exact Keep.refl _

theorem State.rootSubst_keep (s : State) : Keep 0x28180189 s (State.rootSubst s) := by
  unfold State.rootSubst
  with_reducible
    refine Keep.trans ?_ (State.raise_keep ..) rfl; refine Keep.trans ?_ (State.zeroize_keep ..) rfl
    refine Keep.trans ?_ (State.setBit_keep ..) rfl; exact Keep.refl _

theorem State.dbgLevels_keep (s : State) : Keep 0x28180189 s (State.dbgLevels s) := by
  unfold State.dbgLevels
  with_reducible
    dsimp only; refine keep_ite ?_ ?_; refine Keep.trans ?_ (State.rootSubst_keep ..) rfl; refine keep_ite ?_ ?_
    refine Keep.trans ?_ (State.raise_keep ..) rfl; refine Keep.trans ?_ (State.setBit_keep ..) rfl
    refine Keep.trans ?_ (State.setBit_keep ..) rfl; exact Keep.refl _; refine Keep.trans ?_ (State.setBit_keep ..) rfl
    refine Keep.trans ?_ (State.setBit_keep ..) rfl; exact Keep.refl _; refine keep_ite ?_ ?_
    refine Keep.trans ?_ (State.raise_keep ..) rfl; refine Keep.trans ?_ (State.setBit_keep ..) rfl
    refine Keep.trans ?_ (State.setBit_keep ..) rfl; exact Keep.refl _; refine Keep.trans ?_ (State.setBit_keep ..) rfl
    refine Keep.trans ?_ (State.setBit_keep ..) rfl; exact Keep.refl _

theorem State.cellsRead_keep (s : State) : Keep 0x1 s (State.cellsRead s) := by
  unfold State.cellsRead
  with_reducible
    dsimp only; refine Keep.trans ?_ (State.setBit_keep ..) rfl; refine Keep.trans ?_ (State.setBit_keep ..) rfl
    refine Keep.trans ?_ (State.setBit_keep ..) rfl; refine Keep.trans ?_ (State.setBit_keep ..) rfl
    refine Keep.trans ?_ (State.set_keep ..) rfl; refine Keep.trans ?_ (State.set_keep ..) rfl
    refine Keep.trans ?_ (State.set_keep ..) rfl; refine Keep.trans ?_ (State.set_keep ..) rfl; exact Keep.refl _

theorem State.otpEnd_keep (s : State) (res : Nat) : Keep 0x8180001 s (State.otpEnd s res) := by
  unfold State.otpEnd
  with_reducible
    refine Keep.trans ?_ (State.raise_keep ..) rfl; refine Keep.trans ?_ (State.set_keep ..) rfl
    refine Keep.trans ?_ (State.setBit_keep ..) rfl; refine keep_mk_key ?_ rfl; exact Keep.refl _

theorem State.otpStart_keep (s : State) (r : OtpRun) : Keep 0x8000001 s (State.otpStart s r) := by
  unfold State.otpStart
  with_reducible (refine Keep.trans ?_ (State.setBit_keep ..) rfl; refine keep_mk_key ?_ rfl; exact Keep.refl _)

theorem State.lcCmd_keep (s : State) (w : Word) : Keep 0x28180189 s (State.lcCmd s w) := by
  unfold State.lcCmd
  with_reducible
    refine keep_ite ?_ ?_; exact Keep.refl _; refine keep_ite ?_ ?_; refine Keep.trans ?_ (State.otpEnd_keep ..) rfl
    exact Keep.refl _; dsimp only; refine keep_ite ?_ ?_; refine Keep.trans ?_ (State.otpEnd_keep ..) rfl
    exact Keep.refl _; refine Keep.trans ?_ (State.otpStart_keep ..) rfl; refine Keep.trans ?_ (State.zeroize_keep ..) rfl
    exact Keep.refl _

theorem State.arbAdvance_keep (s : State) (w : Word) : Keep 0x8180001 s (State.arbAdvance s w) := by
  unfold State.arbAdvance
  with_reducible
    dsimp only; refine keep_ite ?_ ?_; exact Keep.refl _; refine keep_ite ?_ ?_
    refine Keep.trans ?_ (State.otpEnd_keep ..) rfl; exact Keep.refl _; refine keep_ite ?_ ?_
    refine Keep.trans ?_ (State.otpEnd_keep ..) rfl; exact Keep.refl _; refine keep_ite ?_ ?_
    refine Keep.trans ?_ (State.otpEnd_keep ..) rfl; exact Keep.refl _; refine Keep.trans ?_ (State.otpStart_keep ..) rfl
    exact Keep.refl _

theorem State.splitToggle_keep (s : State) (w : Word) : Keep 0x8180001 s (State.splitToggle s w) := by
  unfold State.splitToggle
  with_reducible
    refine keep_ite ?_ ?_; exact Keep.refl _; refine keep_ite ?_ ?_; refine Keep.trans ?_ (State.otpEnd_keep ..) rfl
    exact Keep.refl _; refine keep_ite ?_ ?_; refine Keep.trans ?_ (State.otpEnd_keep ..) rfl; exact Keep.refl _
    refine Keep.trans ?_ (State.otpStart_keep ..) rfl; exact Keep.refl _

theorem State.arbBit_keep (s : State) (target : Nat) : Keep 0x8180001 s (State.arbBit s target) := by
  unfold State.arbBit
  with_reducible
    dsimp only; refine keep_ite ?_ ?_; refine Keep.trans ?_ (State.otpEnd_keep ..) rfl
    refine Keep.trans ?_ (State.set_keep ..) rfl; refine keep_mk_key ?_ rfl; exact Keep.refl _
    refine Keep.trans ?_ (State.set_keep ..) rfl; refine keep_mk_key ?_ rfl; exact Keep.refl _

theorem State.lcTaken_keep (s : State) : Keep 0x28180189 s (State.lcTaken s) := by
  unfold State.lcTaken
  with_reducible
    dsimp only; refine Keep.trans ?_ (State.dbgLevels_keep ..) rfl; refine keep_ite ?_ ?_
    refine Keep.trans ?_ (State.setBit_keep ..) rfl; refine Keep.trans ?_ (State.set_keep ..) rfl; exact Keep.refl _
    refine Keep.trans ?_ (State.set_keep ..) rfl; exact Keep.refl _

theorem State.lcBit_keep (s : State) (t : BitVec 3) : Keep 0x28180189 s (State.lcBit s t) := by
  unfold State.lcBit
  with_reducible
    refine Keep.trans ?_ (State.otpEnd_keep ..) rfl; refine Keep.trans ?_ (State.lcTaken_keep ..) rfl
    refine keep_mk_key ?_ rfl; exact Keep.refl _

theorem State.otpBitDone_keep (s : State) (ok : Bool) : Keep 0x28180189 s (State.otpBitDone s ok) := by
  unfold State.otpBitDone
  with_reducible
    split; exact Keep.refl _; refine keep_ite ?_ ?_; refine Keep.trans ?_ (State.otpEnd_keep ..) rfl
    refine Keep.trans ?_ (State.raise_keep ..) rfl; exact Keep.refl _; split
    refine Keep.trans ?_ (State.lcBit_keep ..) rfl; exact Keep.refl _; refine Keep.trans ?_ (State.arbBit_keep ..) rfl
    exact Keep.refl _; refine Keep.trans ?_ (State.arbBit_keep ..) rfl; exact Keep.refl _
    refine Keep.trans ?_ (State.otpEnd_keep ..) rfl; refine Keep.trans ?_ (State.set_keep ..) rfl
    refine keep_mk_key ?_ rfl; exact Keep.refl _

end Sys2Proof.Machine
end

