-- ==== Sys2Proof/Laws/KeepCph.lean ====
section
/-! SUPPORT. What the operations of Machine/Cph.lean keep. -/

set_option linter.unusedVariables false
set_option maxRecDepth 4000

namespace Sys2Proof.Machine

theorem State.cphResult_keep (s : State) (res : Nat) : Keep 0x1 s (State.cphResult s res) := by
  unfold State.cphResult
  with_reducible (refine Keep.trans ?_ (State.set_keep ..) rfl; refine Keep.trans ?_ (State.setBit_keep ..) rfl; exact Keep.refl _)

theorem State.saSlotOk_keep (s : State) (port slot : Nat) : Keep 0x180003 s (State.saSlotOk s port slot).2 := by
  unfold State.saSlotOk
  with_reducible
    refine keep_ite2 ?_ ?_; refine keep_pair ?_; refine Keep.trans ?_ (State.keyDenied_keep ..) rfl; exact Keep.refl _
    refine keep_pair ?_; exact Keep.refl _

theorem State.saWrite_keep (s : State) (idx : Nat) (ws : List Word) : Keep 0x1018000b s (State.saWrite s idx ws) := by
  unfold State.saWrite
  with_reducible
    dsimp only; refine keep_ite ?_ ?_; refine Keep.trans ?_ (State.cphResult_keep ..) rfl; exact Keep.refl _
    refine keep_ite ?_ ?_; refine Keep.trans ?_ (State.cphResult_keep ..) rfl; exact Keep.refl _; refine keep_ite ?_ ?_
    refine Keep.trans ?_ (State.cphResult_keep ..) rfl; exact Keep.refl _; refine keep_ite ?_ ?_
    refine Keep.trans ?_ (State.cphResult_keep ..) rfl; refine keep_ite2 ?_ ?_
    refine Keep.trans ?_ (State.saSlotOk_keep ..) rfl; exact Keep.refl _; refine keep_pair ?_; exact Keep.refl _
    refine Keep.trans ?_ (State.cphResult_keep ..) rfl; refine keep_ite ?_ ?_
    refine Keep.trans ?_ (State.pnMoved_keep ..) rfl; refine Keep.trans ?_ (State.setEntry_keep ..) rfl
    refine keep_mk_cph ?_ rfl; refine keep_ite ?_ ?_; refine Keep.trans ?_ (State.refTake_keep ..) rfl
    refine keep_ite2 ?_ ?_; refine Keep.trans ?_ (State.saSlotOk_keep ..) rfl; exact Keep.refl _; refine keep_pair ?_
    exact Keep.refl _; refine keep_ite ?_ ?_; refine Keep.trans ?_ (State.refDrop_keep ..) rfl; refine keep_ite2 ?_ ?_
    refine Keep.trans ?_ (State.saSlotOk_keep ..) rfl; exact Keep.refl _; refine keep_pair ?_; exact Keep.refl _
    refine keep_ite2 ?_ ?_; refine Keep.trans ?_ (State.saSlotOk_keep ..) rfl; exact Keep.refl _; refine keep_pair ?_
    exact Keep.refl _; refine Keep.trans ?_ (State.setEntry_keep ..) rfl; refine keep_mk_cph ?_ rfl; refine keep_ite ?_ ?_
    refine Keep.trans ?_ (State.refTake_keep ..) rfl; refine keep_ite2 ?_ ?_
    refine Keep.trans ?_ (State.saSlotOk_keep ..) rfl; exact Keep.refl _; refine keep_pair ?_; exact Keep.refl _
    refine keep_ite ?_ ?_; refine Keep.trans ?_ (State.refDrop_keep ..) rfl; refine keep_ite2 ?_ ?_
    refine Keep.trans ?_ (State.saSlotOk_keep ..) rfl; exact Keep.refl _; refine keep_pair ?_; exact Keep.refl _
    refine keep_ite2 ?_ ?_; refine Keep.trans ?_ (State.saSlotOk_keep ..) rfl; exact Keep.refl _; refine keep_pair ?_
    exact Keep.refl _

theorem State.cphRun_keep (s : State) (cmd : Word) (ecc : EccState) : Keep 0x1018000b s (State.cphRun s cmd ecc) := by
  unfold State.cphRun
  with_reducible
    dsimp only; refine keep_ite ?_ ?_; refine Keep.trans ?_ (State.cphResult_keep ..) rfl; exact Keep.refl _
    refine keep_ite ?_ ?_; refine Keep.trans ?_ (State.cphResult_keep ..) rfl; exact Keep.refl _; refine keep_ite ?_ ?_
    refine keep_ite ?_ ?_; refine Keep.trans ?_ (State.saWrite_keep ..) rfl; exact Keep.refl _; refine keep_ite ?_ ?_
    refine Keep.trans ?_ (State.cphResult_keep ..) rfl; exact Keep.refl _
    refine Keep.trans ?_ (State.cphResult_keep ..) rfl; refine Keep.trans ?_ (State.setEntry_keep ..) rfl
    exact Keep.refl _; refine keep_ite ?_ ?_; refine Keep.trans ?_ (State.cphResult_keep ..) rfl
    refine Keep.trans ?_ (State.raise_keep ..) rfl; refine keep_ite ?_ ?_; exact Keep.refl _
    refine Keep.trans ?_ (State.wr_keep ..) rfl; exact Keep.refl _; refine Keep.trans ?_ (State.cphResult_keep ..) rfl
    refine keep_ite ?_ ?_; refine Keep.trans ?_ (State.setEntry_keep ..) rfl
    refine Keep.trans ?_ (State.fillWindow_keep ..) rfl; exact Keep.refl _
    refine Keep.trans ?_ (State.fillWindow_keep ..) rfl; exact Keep.refl _

theorem State.cphTable_keep (s : State) (ini : Initiator) (cmd : Word) (ecc : EccState) : Keep 0x401018000b s (State.cphTable s ini cmd ecc) := by
  unfold State.cphTable
  with_reducible
    refine State.tableWrite_keepF ?_ ?_ rfl; exact Keep.refl _; intro _; refine Keep.trans ?_ (State.cphRun_keep ..) rfl
    exact Keep.refl _

theorem State.secCfgWrite_keep (s : State) (p : Nat) (w : Word) : Keep 0x180001 s (State.secCfgWrite s p w) := by
  unfold State.secCfgWrite
  with_reducible
    dsimp only; refine keep_ite ?_ ?_; refine Keep.trans ?_ (State.raise_keep ..) rfl; exact Keep.refl _
    refine Keep.trans ?_ (State.plainWrite_keep ..) rfl; exact Keep.refl _

theorem State.pnSkip_keep (s : State) : Keep 0x10180009 s (State.pnSkip s) := by
  unfold State.pnSkip
  with_reducible
    dsimp only; refine keep_each ?_ ?_; exact Keep.refl _; intro _; intro _
    refine Keep.trans ?_ (State.pnMoved_keep ..) rfl; refine Keep.trans ?_ (State.setNextPn_keep ..) rfl
    exact Keep.refl _

theorem State.setMem_keep (s : State) (pair addr : Nat) (b : Byte) : Keep 0x1000000000 s (s.setMem pair addr b) :=
  ⟨fun h => State.wf_mk h id id id id id id id (fun h => Sparse.wf_set _ _ h) id, id, rfl, fun p hp => by cases p <;> first | rfl | exact absurd hp (by decide)⟩

theorem State.memStore_keep (s : State) (pair addr : Nat) (z0 : Bytes) : Keep 0x1000000000 s (State.memStore s pair addr z0) := by
  induction z0 generalizing s pair addr with
  | nil => exact Keep.refl _
  | cons x l ih =>
    unfold State.memStore
    with_reducible (refine Keep.trans ?_ (ih ..) rfl; refine Keep.trans ?_ (State.setMem_keep ..) rfl; exact Keep.refl _)

theorem State.bufBytes_keep (s : State) (f : Frame) (off n : Nat) : Keep 0x2000000000 s (State.bufBytes s f off n).2 := by
  unfold State.bufBytes
  with_reducible
    refine keep_foldl2 ?_ ?_; refine keep_pair ?_; exact Keep.refl _; intro _; intro _; split; refine keep_pair ?_
    exact Keep.refl _; dsimp only; refine Keep.trans ?_ (State.draw_keep ..) rfl; exact Keep.refl _

theorem State.setLaCtr_keep (s : State) (c v : Nat) : Keep 0x1 s (State.setLaCtr s c v) := by
  unfold State.setLaCtr
  with_reducible (refine Keep.trans ?_ (State.wr_keep ..) rfl; refine Keep.trans ?_ (State.wr_keep ..) rfl; exact Keep.refl _)

theorem State.laEnter_keep (s : State) (who : Nat) (e : List Word) : Keep 0x20000000 s (State.laEnter s who e) := by
  unfold State.laEnter
  with_reducible
    refine keep_ite ?_ ?_; refine keep_mk_la ?_ rfl; exact Keep.refl _; refine keep_ite ?_ ?_; refine keep_mk_la ?_ rfl
    exact Keep.refl _; refine keep_mk_la ?_ rfl; exact Keep.refl _

theorem State.laPost_keep (s : State) (r : LaReq) (res : Nat) (mac : Bytes) : Keep 0x20000000 s (State.laPost s r res mac) := by
  unfold State.laPost
  with_reducible (refine Keep.trans ?_ (State.laEnter_keep ..) rfl; exact Keep.refl _)

theorem State.laSettle_keep (s : State) (who : Nat) : Keep 0x20000000 s (State.laSettle s who) := by
  unfold State.laSettle
  with_reducible (split; exact Keep.refl _; refine Keep.trans ?_ (State.laEnter_keep ..) rfl; refine keep_mk_la ?_ rfl; exact Keep.refl _)

theorem State.laAccept_keep (s : State) (r : LaReq) : Keep 0x20004001 s (State.laAccept s r) := by
  unfold State.laAccept
  with_reducible
    dsimp only; refine keep_mk_la ?_ rfl; split; refine keep_pair ?_; refine Keep.trans ?_ (State.putBuf_keep ..) rfl
    refine keep_ite2 ?_ ?_; refine keep_pair ?_; refine Keep.trans ?_ (State.setLaCtr_keep ..) rfl; exact Keep.refl _
    refine keep_pair ?_; exact Keep.refl _; refine keep_pair ?_; refine keep_ite2 ?_ ?_; refine keep_pair ?_
    refine Keep.trans ?_ (State.setLaCtr_keep ..) rfl; exact Keep.refl _; refine keep_pair ?_; exact Keep.refl _

theorem State.laTake_keep (s : State) (r : LaReq) : Keep 0x20184003 s (State.laTake s r).2 := by
  unfold State.laTake
  with_reducible
    dsimp only; refine keep_ite2 ?_ ?_; refine keep_pair ?_; refine Keep.trans ?_ (State.laAccept_keep ..) rfl
    exact Keep.refl _; refine keep_pair ?_; refine Keep.trans ?_ (State.laPost_keep ..) rfl; refine keep_ite ?_ ?_
    refine Keep.trans ?_ (State.keyDenied_keep ..) rfl; exact Keep.refl _; exact Keep.refl _

theorem State.laSubmit_keep (s : State) (sec : Bool) : Keep 0x20184003 s (State.laSubmit s sec) := by
  unfold State.laSubmit
  with_reducible
    dsimp only; refine keep_ite ?_ ?_; refine Keep.trans ?_ (State.set_keep ..) rfl; exact Keep.refl _; split
    refine Keep.trans ?_ (State.set_keep ..) rfl; refine keep_mk_la ?_ rfl; refine keep_each ?_ ?_; exact Keep.refl _
    intro _; intro _; refine Keep.trans ?_ (State.wr_keep ..) rfl; exact Keep.refl _
    refine Keep.trans ?_ (State.set_keep ..) rfl; refine Keep.trans ?_ (State.laTake_keep ..) rfl; refine keep_each ?_ ?_
    exact Keep.refl _; intro _; intro _; refine Keep.trans ?_ (State.wr_keep ..) rfl; exact Keep.refl _

theorem State.laHeldGo_keep (s : State) (fid : Nat) (pass : Bool) : Keep 0x20184003 s (State.laHeldGo s fid pass) := by
  unfold State.laHeldGo
  with_reducible
    dsimp only; refine keep_ite ?_ ?_; refine keep_mk_la ?_ rfl; exact Keep.refl _; refine keep_each ?_ ?_
    refine keep_mk_la ?_ rfl; exact Keep.refl _; intro _; intro _; refine Keep.trans ?_ (State.set_keep ..) rfl
    refine Keep.trans ?_ (State.laTake_keep ..) rfl; exact Keep.refl _

theorem State.laSource_keep (s : State) (r : LaReq) : Keep 0x2000000000 s (State.laSource s r).2 := by
  unfold State.laSource
  with_reducible
    split; refine keep_pair ?_; exact Keep.refl _; split; refine Keep.trans ?_ (State.bufBytes_keep ..) rfl
    exact Keep.refl _; refine keep_pair ?_; exact Keep.refl _; refine keep_pair ?_; exact Keep.refl _

theorem State.laDest_keep (s : State) (r : LaReq) (d : Bytes) : Keep 0x1000000080 s (State.laDest s r d) := by
  unfold State.laDest
  with_reducible
    split; split; refine Keep.trans ?_ (State.putFrame_keep ..) rfl; exact Keep.refl _; exact Keep.refl _
    refine Keep.trans ?_ (State.memStore_keep ..) rfl; exact Keep.refl _; exact Keep.refl _

theorem State.laCorr_keep (s : State) (r : LaReq) : Keep 0x2 s (State.laCorr s r) := by
  unfold State.laCorr
  with_reducible
    split; refine Keep.trans ?_ (State.bump_keep ..) rfl; exact Keep.refl _; refine Keep.trans ?_ (State.bump_keep ..) rfl
    exact Keep.refl _; exact Keep.refl _

theorem State.laEcc_keep (s : State) (r : LaReq) : Keep 0x180003 s (State.laEcc s r) := by
  unfold State.laEcc
  with_reducible
    split; dsimp only; refine Keep.trans ?_ (State.raise_keep ..) rfl; refine Keep.trans ?_ (State.bump_keep ..) rfl
    refine keep_ite ?_ ?_; exact Keep.refl _; refine Keep.trans ?_ (State.wr_keep ..) rfl; exact Keep.refl _; dsimp only
    refine Keep.trans ?_ (State.raise_keep ..) rfl; refine Keep.trans ?_ (State.bump_keep ..) rfl; refine keep_ite ?_ ?_
    exact Keep.refl _; refine Keep.trans ?_ (State.wr_keep ..) rfl; exact Keep.refl _; exact Keep.refl _

theorem State.laCompute_keep (s : State) (r : LaReq) : Keep 0x3000000080 s (State.laCompute s r).2.2 := by
  unfold State.laCompute
  with_reducible
    dsimp only; split; refine keep_pair ?_; refine Keep.trans ?_ (State.laSource_keep ..) rfl; exact Keep.refl _
    refine keep_pair ?_; refine Keep.trans ?_ (State.laSource_keep ..) rfl; exact Keep.refl _; refine keep_ite22 ?_ ?_
    refine keep_pair ?_; refine Keep.trans ?_ (State.laDest_keep ..) rfl
    refine Keep.trans ?_ (State.laSource_keep ..) rfl; exact Keep.refl _; refine keep_ite22 ?_ ?_; refine keep_pair ?_
    refine Keep.trans ?_ (State.laDest_keep ..) rfl; refine Keep.trans ?_ (State.laSource_keep ..) rfl; exact Keep.refl _
    refine keep_pair ?_; refine Keep.trans ?_ (State.laDest_keep ..) rfl
    refine Keep.trans ?_ (State.laSource_keep ..) rfl; exact Keep.refl _

theorem State.laFinish_keep (s : State) (idx : Nat) (r : LaReq) (ecc : EccState) : Keep 0x3020185183 s (State.laFinish s idx r ecc).2.2 := by
  unfold State.laFinish
  with_reducible
    dsimp only; refine keep_ite ?_ ?_; refine Keep.trans ?_ (State.releaseBuf_keep ..) rfl; refine keep_ite22 ?_ ?_
    refine keep_pair ?_; refine keep_mk_la ?_ rfl; exact Keep.refl _; refine keep_ite22 ?_ ?_; refine keep_pair ?_
    refine Keep.trans ?_ (State.laEcc_keep ..) rfl; refine keep_mk_la ?_ rfl; exact Keep.refl _
    refine Keep.trans ?_ (State.laCompute_keep ..) rfl; refine keep_ite ?_ ?_
    refine Keep.trans ?_ (State.laCorr_keep ..) rfl; refine keep_mk_la ?_ rfl; exact Keep.refl _; refine keep_mk_la ?_ rfl
    exact Keep.refl _; refine keep_ite22 ?_ ?_; refine keep_pair ?_; refine keep_mk_la ?_ rfl; exact Keep.refl _
    refine keep_ite22 ?_ ?_; refine keep_pair ?_; refine Keep.trans ?_ (State.laEcc_keep ..) rfl; refine keep_mk_la ?_ rfl
    exact Keep.refl _; refine Keep.trans ?_ (State.laCompute_keep ..) rfl; refine keep_ite ?_ ?_
    refine Keep.trans ?_ (State.laCorr_keep ..) rfl; refine keep_mk_la ?_ rfl; exact Keep.refl _; refine keep_mk_la ?_ rfl
    exact Keep.refl _

theorem State.laResultPop_keep (s : State) (sec : Bool) : Keep 0x20000000 s (State.laResultPop s sec).2 := by
  unfold State.laResultPop
  with_reducible
    refine keep_ite2 ?_ ?_; refine keep_pair ?_; refine Keep.trans ?_ (State.laSettle_keep ..) rfl
    refine keep_mk_la ?_ rfl; exact Keep.refl _; refine keep_pair ?_; refine Keep.trans ?_ (State.laSettle_keep ..) rfl
    refine keep_mk_la ?_ rfl; exact Keep.refl _

theorem State.laCtrHi_keep (s : State) (c : Nat) (hi : Word) : Keep 0x180001 s (State.laCtrHi s c hi) := by
  unfold State.laCtrHi
  with_reducible
    dsimp only; refine keep_ite ?_ ?_; refine Keep.trans ?_ (State.setLaCtr_keep ..) rfl; exact Keep.refl _
    refine Keep.trans ?_ (State.raise_keep ..) rfl; exact Keep.refl _

theorem State.laCtrLo_keep (s : State) (c : Nat) (lo : Word) : Keep 0x20000000 s (State.laCtrLo s c lo) := by
  unfold State.laCtrLo
  with_reducible (refine keep_mk_la ?_ rfl; exact Keep.refl _)

theorem State.countDeliveries_keep (s : State) (fid : Nat) : Keep 0x2 s (State.countDeliveries s fid) := by
  unfold State.countDeliveries
  with_reducible
    refine keep_each ?_ ?_; exact Keep.refl _; intro _; intro _; refine Keep.trans ?_ (State.countDelivery_keep ..) rfl
    exact Keep.refl _

theorem State.icvPassed_keep (s : State) (f : Frame) (x : SecRx) : Keep 0x402518558b s (State.icvPassed s f x) := by
  unfold State.icvPassed
  with_reducible
    dsimp only; refine Keep.trans ?_ (State.admitInternal_keep ..) rfl; refine keep_ite ?_ ?_
    refine Keep.trans ?_ (State.laHeldGo_keep ..) rfl; refine Keep.trans ?_ (State.bump_keep ..) rfl
    refine Keep.trans ?_ (State.countDeliveries_keep ..) rfl; refine Keep.trans ?_ (State.putFrame_keep ..) rfl
    refine Keep.trans ?_ (State.setNextPn_keep ..) rfl; refine Keep.trans ?_ (State.saCount_keep ..) rfl
    exact Keep.refl _; refine Keep.trans ?_ (State.countDeliveries_keep ..) rfl
    refine Keep.trans ?_ (State.putFrame_keep ..) rfl; refine Keep.trans ?_ (State.setNextPn_keep ..) rfl
    refine Keep.trans ?_ (State.saCount_keep ..) rfl; exact Keep.refl _

theorem State.icvFailed_keep (s : State) (f : Frame) (x : SecRx) : Keep 0x402418718b s (State.icvFailed s f x) := by
  unfold State.icvFailed
  with_reducible
    dsimp only; refine keep_ite ?_ ?_; refine Keep.trans ?_ (State.dropUnqueued_keep ..) rfl
    refine Keep.trans ?_ (State.saCount_keep ..) rfl; exact Keep.refl _; refine keep_ite ?_ ?_
    refine Keep.trans ?_ (State.failFrame_keep ..) rfl; refine Keep.trans ?_ (State.laHeldGo_keep ..) rfl
    refine Keep.trans ?_ (State.putFrame_keep ..) rfl; refine Keep.trans ?_ (State.raise_keep ..) rfl
    refine Keep.trans ?_ (State.undoRecovery_keep ..) rfl; split; refine Keep.trans ?_ (State.ctxEvent_keep ..) rfl
    refine Keep.trans ?_ (State.bump_keep ..) rfl; refine Keep.trans ?_ (State.saCount_keep ..) rfl; exact Keep.refl _
    refine Keep.trans ?_ (State.bump_keep ..) rfl; refine Keep.trans ?_ (State.saCount_keep ..) rfl; exact Keep.refl _
    refine Keep.trans ?_ (State.endFrame_keep ..) rfl; refine Keep.trans ?_ (State.laHeldGo_keep ..) rfl
    refine Keep.trans ?_ (State.putFrame_keep ..) rfl; refine Keep.trans ?_ (State.raise_keep ..) rfl
    refine Keep.trans ?_ (State.undoRecovery_keep ..) rfl; split; refine Keep.trans ?_ (State.ctxEvent_keep ..) rfl
    refine Keep.trans ?_ (State.bump_keep ..) rfl; refine Keep.trans ?_ (State.saCount_keep ..) rfl; exact Keep.refl _
    refine Keep.trans ?_ (State.bump_keep ..) rfl; refine Keep.trans ?_ (State.saCount_keep ..) rfl; exact Keep.refl _

theorem State.icvResult_keep (s : State) (fid : Nat) : Keep 0x402518758b s (State.icvResult s fid) := by
  unfold State.icvResult
  with_reducible
    refine keep_ite ?_ ?_; exact Keep.refl _; split; exact Keep.refl _; split; exact Keep.refl _; refine keep_ite ?_ ?_
    exact Keep.refl _; refine keep_ite ?_ ?_; refine Keep.trans ?_ (State.icvPassed_keep ..) rfl; exact Keep.refl _
    refine Keep.trans ?_ (State.icvFailed_keep ..) rfl; exact Keep.refl _

end Sys2Proof.Machine
end

