-- ==== Sys2Proof/Laws/KeepCan.lean ====
section
/-! SUPPORT. What the operations of Machine/Can.lean keep. -/

set_option linter.unusedVariables false
set_option maxRecDepth 4000

namespace Sys2Proof.Machine

theorem State.canAct_keep (s : State) (c : Nat) : Keep 0x1 s (State.canAct s c) := by
  unfold State.canAct
  with_reducible (dsimp only; refine Keep.trans ?_ (State.set_keep ..) rfl; exact Keep.refl _)

theorem State.canOff_keep (s : State) (c : Nat) : Keep 0x2000001 s (State.canOff s c) := by
  unfold State.canOff
  with_reducible (refine Keep.trans ?_ (State.set_keep ..) rfl; refine Keep.trans ?_ (State.setCan_keep ..) rfl; exact Keep.refl _)

theorem State.canCtrl_keep (s : State) (c : Nat) (w : Word) (rx : Bool) : Keep 0x2180001 s (State.canCtrl s c w rx) := by
  unfold State.canCtrl
  with_reducible
    dsimp only; refine keep_ite ?_ ?_; refine keep_ite ?_ ?_; refine Keep.trans ?_ (State.canAct_keep ..) rfl
    refine Keep.trans ?_ (State.setBit_keep ..) rfl; refine Keep.trans ?_ (State.setCan_keep ..) rfl
    refine keep_ite ?_ ?_; refine Keep.trans ?_ (State.raise_keep ..) rfl
    refine Keep.trans ?_ (State.plainWrite_keep ..) rfl; exact Keep.refl _
    refine Keep.trans ?_ (State.plainWrite_keep ..) rfl; exact Keep.refl _; refine Keep.trans ?_ (State.raise_keep ..) rfl
    refine Keep.trans ?_ (State.set_keep ..) rfl; refine keep_ite ?_ ?_; refine Keep.trans ?_ (State.raise_keep ..) rfl
    refine Keep.trans ?_ (State.plainWrite_keep ..) rfl; exact Keep.refl _
    refine Keep.trans ?_ (State.plainWrite_keep ..) rfl; exact Keep.refl _; refine keep_ite ?_ ?_; refine keep_ite ?_ ?_
    refine Keep.trans ?_ (State.setCan_keep ..) rfl; refine Keep.trans ?_ (State.setCan_keep ..) rfl
    refine keep_ite ?_ ?_; refine Keep.trans ?_ (State.raise_keep ..) rfl
    refine Keep.trans ?_ (State.plainWrite_keep ..) rfl; exact Keep.refl _
    refine Keep.trans ?_ (State.plainWrite_keep ..) rfl; exact Keep.refl _
    refine Keep.trans ?_ (State.canOff_keep ..) rfl; refine Keep.trans ?_ (State.setCan_keep ..) rfl
    refine keep_ite ?_ ?_; refine Keep.trans ?_ (State.raise_keep ..) rfl
    refine Keep.trans ?_ (State.plainWrite_keep ..) rfl; exact Keep.refl _
    refine Keep.trans ?_ (State.plainWrite_keep ..) rfl; exact Keep.refl _
    refine Keep.trans ?_ (State.canAct_keep ..) rfl; refine keep_ite ?_ ?_; refine Keep.trans ?_ (State.raise_keep ..) rfl
    refine Keep.trans ?_ (State.plainWrite_keep ..) rfl; exact Keep.refl _
    refine Keep.trans ?_ (State.plainWrite_keep ..) rfl; exact Keep.refl _

theorem State.canIntegrated_keep (s : State) (c : Nat) : Keep 0x2000001 s (State.canIntegrated s c) := by
  unfold State.canIntegrated
  with_reducible
    refine keep_ite ?_ ?_; refine Keep.trans ?_ (State.setBit_keep ..) rfl
    refine Keep.trans ?_ (State.setCan_keep ..) rfl; exact Keep.refl _; exact Keep.refl _

theorem State.msgEnds_keep (s : State) (c : Nat) : Keep 0x2000001 s (State.msgEnds s c) := by
  unfold State.msgEnds
  with_reducible
    dsimp only; refine keep_ite ?_ ?_; refine Keep.trans ?_ (State.canOff_keep ..) rfl
    refine Keep.trans ?_ (State.setBit_keep ..) rfl; refine Keep.trans ?_ (State.setCan_keep ..) rfl; exact Keep.refl _
    refine Keep.trans ?_ (State.setBit_keep ..) rfl; refine Keep.trans ?_ (State.setCan_keep ..) rfl; exact Keep.refl _

theorem State.canTxSof_keep (s : State) (c : Nat) : Keep 0x4002000001 s (State.canTxSof s c) := by
  unfold State.canTxSof
  with_reducible
    dsimp only; refine keep_ite ?_ ?_; exact Keep.refl _; split; exact Keep.refl _; split; refine keep_ite ?_ ?_
    refine Keep.trans ?_ (State.setBit_keep ..) rfl; refine Keep.trans ?_ (State.setCan_keep ..) rfl; exact Keep.refl _
    refine Keep.trans ?_ (State.emit_keep ..) rfl; refine Keep.trans ?_ (State.setBit_keep ..) rfl
    refine Keep.trans ?_ (State.setCan_keep ..) rfl; exact Keep.refl _; refine Keep.trans ?_ (State.setBit_keep ..) rfl
    refine Keep.trans ?_ (State.setCan_keep ..) rfl; exact Keep.refl _

theorem State.canArbLost_keep (s : State) (c : Nat) : Keep 0x42180003 s (State.canArbLost s c) := by
  unfold State.canArbLost
  with_reducible
    refine keep_ite ?_ ?_; exact Keep.refl _; refine Keep.trans ?_ (State.attemptFails_keep ..) rfl
    refine Keep.trans ?_ (State.bump_keep ..) rfl; exact Keep.refl _

theorem State.busOff_keep (s : State) (c : Nat) : Keep 0x42180003 s (State.busOff s c) := by
  unfold State.busOff
  with_reducible
    dsimp only; refine keep_ite ?_ ?_; refine Keep.trans ?_ (State.setBit_keep ..) rfl
    refine Keep.trans ?_ (State.raise_keep ..) rfl; refine keep_each ?_ ?_
    refine Keep.trans ?_ (State.setCan_keep ..) rfl; refine Keep.trans ?_ (State.bump_keep ..) rfl
    refine Keep.trans ?_ (State.setBit_keep ..) rfl; refine Keep.trans ?_ (State.set_keep ..) rfl; exact Keep.refl _
    intro _; intro _; refine Keep.trans ?_ (State.oneShotFail_keep ..) rfl; exact Keep.refl _
    refine Keep.trans ?_ (State.raise_keep ..) rfl; refine keep_each ?_ ?_
    refine Keep.trans ?_ (State.setCan_keep ..) rfl; refine Keep.trans ?_ (State.bump_keep ..) rfl
    refine Keep.trans ?_ (State.setBit_keep ..) rfl; refine Keep.trans ?_ (State.set_keep ..) rfl; exact Keep.refl _
    intro _; intro _; refine Keep.trans ?_ (State.oneShotFail_keep ..) rfl; exact Keep.refl _

theorem State.canCounts_keep (s : State) (c tec rec_ : Nat) : Keep 0x42180003 s (State.canCounts s c tec rec_) := by
  unfold State.canCounts
  with_reducible
    dsimp only; refine keep_ite ?_ ?_; refine Keep.trans ?_ (State.set_keep ..) rfl
    refine Keep.trans ?_ (State.set_keep ..) rfl; exact Keep.refl _; refine keep_ite ?_ ?_
    refine Keep.trans ?_ (State.busOff_keep ..) rfl; refine Keep.trans ?_ (State.set_keep ..) rfl
    refine Keep.trans ?_ (State.set_keep ..) rfl; exact Keep.refl _; refine keep_ite ?_ ?_; refine keep_ite ?_ ?_
    refine Keep.trans ?_ (State.raise_keep ..) rfl; refine Keep.trans ?_ (State.set_keep ..) rfl
    refine Keep.trans ?_ (State.set_keep ..) rfl; refine Keep.trans ?_ (State.set_keep ..) rfl; exact Keep.refl _
    refine Keep.trans ?_ (State.set_keep ..) rfl; refine Keep.trans ?_ (State.set_keep ..) rfl; exact Keep.refl _
    refine Keep.trans ?_ (State.set_keep ..) rfl; refine Keep.trans ?_ (State.set_keep ..) rfl
    refine Keep.trans ?_ (State.set_keep ..) rfl; exact Keep.refl _

theorem State.recGood_keep (s : State) (c : Nat) : Keep 0x2042180003 s (State.recGood s c) := by
  unfold State.recGood
  with_reducible
    dsimp only; refine keep_ite ?_ ?_; exact Keep.refl _; refine keep_ite ?_ ?_
    refine Keep.trans ?_ (State.canCounts_keep ..) rfl; exact Keep.refl _
    refine Keep.trans ?_ (State.canCounts_keep ..) rfl; refine Keep.trans ?_ (State.draw_keep ..) rfl; exact Keep.refl _

theorem State.canTxDone_keep (s : State) (c : Nat) : Keep 0x2042180003 s (State.canTxDone s c) := by
  unfold State.canTxDone
  with_reducible
    dsimp only; split; exact Keep.refl _; refine Keep.trans ?_ (State.msgEnds_keep ..) rfl; split; refine keep_ite ?_ ?_
    refine Keep.trans ?_ (State.raise_keep ..) rfl; refine Keep.trans ?_ (State.bump_keep ..) rfl
    refine Keep.trans ?_ (State.canCounts_keep ..) rfl; refine keep_ite ?_ ?_
    refine Keep.trans ?_ (State.cancelEnd_keep ..) rfl; refine Keep.trans ?_ (State.bump_keep ..) rfl
    refine Keep.trans ?_ (State.setCan_keep ..) rfl; refine Keep.trans ?_ (State.delayMeasured_keep ..) rfl
    exact Keep.refl _; refine Keep.trans ?_ (State.bump_keep ..) rfl; refine Keep.trans ?_ (State.setCan_keep ..) rfl
    refine Keep.trans ?_ (State.delayMeasured_keep ..) rfl; exact Keep.refl _
    refine Keep.trans ?_ (State.bump_keep ..) rfl; refine Keep.trans ?_ (State.setCan_keep ..) rfl
    refine Keep.trans ?_ (State.canCounts_keep ..) rfl; refine keep_ite ?_ ?_
    refine Keep.trans ?_ (State.cancelEnd_keep ..) rfl; refine Keep.trans ?_ (State.bump_keep ..) rfl
    refine Keep.trans ?_ (State.setCan_keep ..) rfl; refine Keep.trans ?_ (State.delayMeasured_keep ..) rfl
    exact Keep.refl _; refine Keep.trans ?_ (State.bump_keep ..) rfl; refine Keep.trans ?_ (State.setCan_keep ..) rfl
    refine Keep.trans ?_ (State.delayMeasured_keep ..) rfl; exact Keep.refl _
    refine Keep.trans ?_ (State.canCounts_keep ..) rfl; refine keep_ite ?_ ?_
    refine Keep.trans ?_ (State.cancelEnd_keep ..) rfl; refine Keep.trans ?_ (State.bump_keep ..) rfl
    refine Keep.trans ?_ (State.setCan_keep ..) rfl; refine Keep.trans ?_ (State.delayMeasured_keep ..) rfl
    exact Keep.refl _; refine Keep.trans ?_ (State.bump_keep ..) rfl; refine Keep.trans ?_ (State.setCan_keep ..) rfl
    refine Keep.trans ?_ (State.delayMeasured_keep ..) rfl; exact Keep.refl _

theorem State.canError_keep (s : State) (c kind tecInc recInc : Nat) : Keep 0x2042180003 s (State.canError s c kind tecInc recInc) := by
  unfold State.canError
  with_reducible
    refine keep_ite ?_ ?_; exact Keep.refl _; dsimp only; refine Keep.trans ?_ (State.msgEnds_keep ..) rfl
    refine keep_ite ?_ ?_; refine Keep.trans ?_ (State.canCounts_keep ..) rfl
    refine Keep.trans ?_ (State.attemptFails_keep ..) rfl; refine Keep.trans ?_ (State.bump_keep ..) rfl
    refine Keep.trans ?_ (State.delayMeasured_keep ..) rfl; exact Keep.refl _
    refine Keep.trans ?_ (State.attemptFails_keep ..) rfl; refine Keep.trans ?_ (State.bump_keep ..) rfl
    refine Keep.trans ?_ (State.delayMeasured_keep ..) rfl; exact Keep.refl _

theorem State.canException_keep (s : State) (c : Nat) : Keep 0x2042180003 s (State.canException s c) := by
  unfold State.canException
  with_reducible
    refine keep_ite ?_ ?_; exact Keep.refl _; refine keep_ite ?_ ?_; dsimp only; refine keep_ite ?_ ?_
    refine Keep.trans ?_ (State.canOff_keep ..) rfl; refine Keep.trans ?_ (State.raise_keep ..) rfl
    refine Keep.trans ?_ (State.setCan_keep ..) rfl; exact Keep.refl _; refine Keep.trans ?_ (State.raise_keep ..) rfl
    refine Keep.trans ?_ (State.setCan_keep ..) rfl; exact Keep.refl _; refine Keep.trans ?_ (State.canError_keep ..) rfl
    exact Keep.refl _

theorem State.canRecover_keep (s : State) (c : Nat) : Keep 0x1 s (State.canRecover s c) := by
  unfold State.canRecover
  with_reducible (refine keep_ite ?_ ?_; refine Keep.trans ?_ (State.setBit_keep ..) rfl; exact Keep.refl _; exact Keep.refl _)

theorem State.canRecovered_keep (s : State) (c : Nat) : Keep 0x180001 s (State.canRecovered s c) := by
  unfold State.canRecovered
  with_reducible
    refine keep_ite ?_ ?_; exact Keep.refl _; dsimp only; refine Keep.trans ?_ (State.raise_keep ..) rfl
    refine Keep.trans ?_ (State.set_keep ..) rfl; refine Keep.trans ?_ (State.set_keep ..) rfl
    refine Keep.trans ?_ (State.set_keep ..) rfl; refine Keep.trans ?_ (State.setBit_keep ..) rfl
    refine Keep.trans ?_ (State.setBit_keep ..) rfl; exact Keep.refl _

theorem State.canCancel_keep (s : State) (c f : Nat) : Keep 0x2000003 s (State.canCancel s c f) := by
  unfold State.canCancel
  with_reducible
    dsimp only; refine keep_ite ?_ ?_; exact Keep.refl _; split; refine Keep.trans ?_ (State.cancelEnd_keep ..) rfl
    exact Keep.refl _; refine keep_ite ?_ ?_; refine Keep.trans ?_ (State.setBit_keep ..) rfl
    refine Keep.trans ?_ (State.setCan_keep ..) rfl; exact Keep.refl _; refine Keep.trans ?_ (State.cancelEnd_keep ..) rfl
    refine Keep.trans ?_ (State.bump_keep ..) rfl; refine Keep.trans ?_ (State.setCan_keep ..) rfl; exact Keep.refl _

theorem State.canFlush_keep (s : State) (c f : Nat) : Keep 0x2000003 s (State.canFlush s c f) := by
  unfold State.canFlush
  with_reducible
    dsimp only; refine keep_ite ?_ ?_; exact Keep.refl _; split; refine Keep.trans ?_ (State.cancelEnd_keep ..) rfl
    exact Keep.refl _; refine keep_ite ?_ ?_; refine Keep.trans ?_ (State.setBit_keep ..) rfl
    refine Keep.trans ?_ (State.bumpBy_keep ..) rfl; refine Keep.trans ?_ (State.setCan_keep ..) rfl; exact Keep.refl _
    refine Keep.trans ?_ (State.cancelEnd_keep ..) rfl; refine Keep.trans ?_ (State.bumpBy_keep ..) rfl
    refine Keep.trans ?_ (State.setCan_keep ..) rfl; exact Keep.refl _

theorem State.canGating_keep (s : State) (c : Nat) : Keep 0x1 s (State.canGating s c) := by
  unfold State.canGating
  with_reducible
    refine keep_ite ?_ ?_; exact Keep.refl _; refine Keep.trans ?_ (State.canAct_keep ..) rfl
    refine Keep.trans ?_ (State.setBit_keep ..) rfl; exact Keep.refl _

theorem State.canReceive_keep (s : State) (c : Nat) (m : CanMsg) (sof : Nat) : Keep 0x2042180003 s (State.canReceive s c m sof) := by
  unfold State.canReceive
  with_reducible
    refine keep_ite ?_ ?_; exact Keep.refl _; dsimp only; refine keep_ite ?_ ?_
    refine Keep.trans ?_ (State.setCan_keep ..) rfl; split; refine Keep.trans ?_ (State.bump_keep ..) rfl
    refine Keep.trans ?_ (State.setCan_keep ..) rfl; refine Keep.trans ?_ (State.recGood_keep ..) rfl; exact Keep.refl _
    refine keep_ite ?_ ?_; refine Keep.trans ?_ (State.raise_keep ..) rfl; refine Keep.trans ?_ (State.bump_keep ..) rfl
    refine Keep.trans ?_ (State.recGood_keep ..) rfl; exact Keep.refl _; refine Keep.trans ?_ (State.bump_keep ..) rfl
    refine Keep.trans ?_ (State.setCan_keep ..) rfl; refine Keep.trans ?_ (State.recGood_keep ..) rfl; exact Keep.refl _
    refine Keep.trans ?_ (State.msgEnds_keep ..) rfl; split; refine Keep.trans ?_ (State.bump_keep ..) rfl
    refine Keep.trans ?_ (State.setCan_keep ..) rfl; refine Keep.trans ?_ (State.recGood_keep ..) rfl; exact Keep.refl _
    refine keep_ite ?_ ?_; refine Keep.trans ?_ (State.raise_keep ..) rfl; refine Keep.trans ?_ (State.bump_keep ..) rfl
    refine Keep.trans ?_ (State.recGood_keep ..) rfl; exact Keep.refl _; refine Keep.trans ?_ (State.bump_keep ..) rfl
    refine Keep.trans ?_ (State.setCan_keep ..) rfl; refine Keep.trans ?_ (State.recGood_keep ..) rfl; exact Keep.refl _

end Sys2Proof.Machine
end

