-- ==== Sys2Proof/Laws/KeepCpu.lean ====
section
/-! SUPPORT. What the operations of Machine/Cpu.lean keep. -/

set_option linter.unusedVariables false
set_option maxRecDepth 4000

namespace Sys2Proof.Machine

theorem State.setGpr_keep (s : State) (h r : Nat) (v : Word) : Keep 0x80000000 s (State.setGpr s h r v) := by
  unfold State.setGpr
  with_reducible (refine keep_ite ?_ ?_; exact Keep.refl _; refine keep_mk_cpu ?_ rfl; exact Keep.refl _)

theorem State.setPc_keep (s : State) (h : Nat) (v : Word) : Keep 0x80000000 s (State.setPc s h v) := by
  unfold State.setPc
  with_reducible (refine keep_mk_cpu ?_ rfl; exact Keep.refl _)

theorem State.setUser_keep (s : State) (h : Nat) (u : Bool) : Keep 0x80000000 s (State.setUser s h u) := by
  unfold State.setUser
  with_reducible (refine keep_mk_cpu ?_ rfl; exact Keep.refl _)

theorem State.setCsr_keep (s : State) (h c : Nat) (v : Word) : Keep 0x80000000 s (State.setCsr s h c v) := by
  unfold State.setCsr
  with_reducible
    dsimp only; refine keep_ite ?_ ?_; exact Keep.refl _; refine keep_ite ?_ ?_
    refine Keep.trans ?_ (State.setPc_keep ..) rfl; exact Keep.refl _; refine keep_ite ?_ ?_; refine keep_mk_cpu ?_ rfl
    refine keep_ite ?_ ?_; refine Keep.trans ?_ (State.setUser_keep ..) rfl; exact Keep.refl _; refine keep_ite ?_ ?_
    refine Keep.trans ?_ (State.setUser_keep ..) rfl; exact Keep.refl _; exact Keep.refl _; refine keep_ite ?_ ?_
    refine keep_mk_cpu ?_ rfl; exact Keep.refl _; refine keep_ite ?_ ?_; refine keep_mk_cpu ?_ rfl; exact Keep.refl _
    refine keep_ite ?_ ?_; exact Keep.refl _; refine keep_mk_cpu ?_ rfl; exact Keep.refl _

theorem State.unhalt_keep (s : State) (h : Nat) : Keep 0x80000000 s (State.unhalt s h) := by
  unfold State.unhalt
  with_reducible (refine keep_mk_cpu ?_ rfl; exact Keep.refl _)

theorem State.setRst_keep (s : State) (sec : Bool) (t : Option Nat) : Keep 0x80000000 s (State.setRst s sec t) := by
  unfold State.setRst
  with_reducible (refine keep_mk_cpu ?_ rfl; exact Keep.refl _)

theorem State.toEntry_keep (s : State) (sec : Bool) : Keep 0x80000000 s (State.toEntry s sec) := by
  unfold State.toEntry
  with_reducible
    refine keep_each ?_ ?_; exact Keep.refl _; intro _; intro _; refine Keep.trans ?_ (State.setPc_keep ..) rfl
    exact Keep.refl _

theorem State.reloadStart_keep (s : State) (sec : Bool) : Keep 0x200000000 s (State.reloadStart s sec) := by
  unfold State.reloadStart
  with_reducible (refine keep_mk_boot ?_ rfl rfl; exact Keep.refl _)

theorem State.romRun_keep (s : State) (sec : Bool) : Keep 0x280000000 s (State.romRun s sec) := by
  unfold State.romRun
  with_reducible
    refine keep_ite ?_ ?_; exact Keep.refl _; refine keep_ite ?_ ?_; refine Keep.trans ?_ (State.toEntry_keep ..) rfl
    exact Keep.refl _; refine keep_ite ?_ ?_; exact Keep.refl _; split
    refine Keep.trans ?_ (State.reloadStart_keep ..) rfl; exact Keep.refl _; refine keep_ite ?_ ?_; exact Keep.refl _
    refine keep_mk_boot ?_ rfl rfl; exact Keep.refl _

theorem State.startPair_keep (s : State) (sec : Bool) (entry : Word) : Keep 0x80000001 s (State.startPair s sec entry) := by
  unfold State.startPair
  with_reducible
    dsimp only; refine Keep.trans ?_ (State.set_keep ..) rfl; refine Keep.trans ?_ (State.setRst_keep ..) rfl
    refine keep_each ?_ ?_; refine keep_mk_cpu ?_ rfl; exact Keep.refl _; intro _; intro _
    refine Keep.trans ?_ (State.unhalt_keep ..) rfl; refine Keep.trans ?_ (State.setUser_keep ..) rfl
    refine Keep.trans ?_ (State.setPc_keep ..) rfl; exact Keep.refl _

theorem State.sessionLost_keep (s : State) (who : List Nat) : Keep 0x400000000 s (State.sessionLost s who) := by
  unfold State.sessionLost
  with_reducible (split; refine keep_ite ?_ ?_; refine keep_mk_upd ?_ rfl; exact Keep.refl _; exact Keep.refl _; exact Keep.refl _)

theorem State.setHist_keep (s : State) (sec : Bool) (l : List Nat) : Keep 0x80000000 s (State.setHist s sec l) := by
  unfold State.setHist
  with_reducible (refine keep_mk_cpu ?_ rfl; exact Keep.refl _)

theorem State.lsMark_keep (s : State) (sec : Bool) (what : Nat) : Keep 0x80000 s (State.lsMark s sec what) := by
  unfold State.lsMark
  with_reducible (refine Keep.trans ?_ (State.markSet_keep ..) rfl; exact Keep.refl _)

theorem State.setUndo_keep (s : State) (sec : Bool) (u : LsUndo) : Keep 0x80000000 s (State.setUndo s sec u) := by
  unfold State.setUndo
  with_reducible (refine keep_mk_cpu ?_ rfl; exact Keep.refl _)

theorem State.mismatch_keep (s : State) (sec : Bool) (kind index : Nat) (pc : Word) : Keep 0x480180003 s (State.mismatch s sec kind index pc) := by
  unfold State.mismatch
  with_reducible
    refine keep_ite ?_ ?_; exact Keep.refl _; dsimp only; refine keep_ite ?_ ?_
    refine Keep.trans ?_ (State.set_keep ..) rfl; refine Keep.trans ?_ (State.raise_keep ..) rfl
    refine Keep.trans ?_ (State.bump_keep ..) rfl; refine keep_ite ?_ ?_; refine keep_each ?_ ?_; refine keep_ite ?_ ?_
    refine Keep.trans ?_ (State.lsMark_keep ..) rfl; refine Keep.trans ?_ (State.setUndo_keep ..) rfl; exact Keep.refl _
    refine Keep.trans ?_ (State.wr_keep ..) rfl; refine Keep.trans ?_ (State.wr_keep ..) rfl
    refine Keep.trans ?_ (State.lsMark_keep ..) rfl; refine Keep.trans ?_ (State.setUndo_keep ..) rfl; exact Keep.refl _
    intro _; intro _; refine Keep.trans ?_ (State.unhalt_keep ..) rfl; exact Keep.refl _
    refine Keep.trans ?_ (State.sessionLost_keep ..) rfl; refine keep_each ?_ ?_; refine keep_ite ?_ ?_
    refine Keep.trans ?_ (State.lsMark_keep ..) rfl; refine Keep.trans ?_ (State.setUndo_keep ..) rfl; exact Keep.refl _
    refine Keep.trans ?_ (State.wr_keep ..) rfl; refine Keep.trans ?_ (State.wr_keep ..) rfl
    refine Keep.trans ?_ (State.lsMark_keep ..) rfl; refine Keep.trans ?_ (State.setUndo_keep ..) rfl; exact Keep.refl _
    intro _; intro _; refine Keep.trans ?_ (State.unhalt_keep ..) rfl; exact Keep.refl _
    refine Keep.trans ?_ (State.raise_keep ..) rfl; refine Keep.trans ?_ (State.set_keep ..) rfl
    refine Keep.trans ?_ (State.raise_keep ..) rfl; refine Keep.trans ?_ (State.bump_keep ..) rfl; refine keep_ite ?_ ?_
    refine keep_each ?_ ?_; refine keep_ite ?_ ?_; refine Keep.trans ?_ (State.lsMark_keep ..) rfl
    refine Keep.trans ?_ (State.setUndo_keep ..) rfl; exact Keep.refl _; refine Keep.trans ?_ (State.wr_keep ..) rfl
    refine Keep.trans ?_ (State.wr_keep ..) rfl; refine Keep.trans ?_ (State.lsMark_keep ..) rfl
    refine Keep.trans ?_ (State.setUndo_keep ..) rfl; exact Keep.refl _; intro _; intro _
    refine Keep.trans ?_ (State.unhalt_keep ..) rfl; exact Keep.refl _
    refine Keep.trans ?_ (State.sessionLost_keep ..) rfl; refine keep_each ?_ ?_; refine keep_ite ?_ ?_
    refine Keep.trans ?_ (State.lsMark_keep ..) rfl; refine Keep.trans ?_ (State.setUndo_keep ..) rfl; exact Keep.refl _
    refine Keep.trans ?_ (State.wr_keep ..) rfl; refine Keep.trans ?_ (State.wr_keep ..) rfl
    refine Keep.trans ?_ (State.lsMark_keep ..) rfl; refine Keep.trans ?_ (State.setUndo_keep ..) rfl; exact Keep.refl _
    intro _; intro _; refine Keep.trans ?_ (State.unhalt_keep ..) rfl; exact Keep.refl _

theorem State.pairHold_keep (s : State) (sec : Bool) : Keep 0x80000001 s (State.pairHold s sec) := by
  unfold State.pairHold
  with_reducible
    refine keep_ite ?_ ?_; refine Keep.trans ?_ (State.set_keep ..) rfl; refine Keep.trans ?_ (State.setRst_keep ..) rfl
    exact Keep.refl _; exact Keep.refl _

theorem State.liveHold_keep (s : State) : Keep 0x80000001 s (State.liveHold s) := by
  unfold State.liveHold
  with_reducible
    split; refine keep_ite ?_ ?_; exact Keep.refl _; refine Keep.trans ?_ (State.set_keep ..) rfl
    refine Keep.trans ?_ (State.setRst_keep ..) rfl; refine keep_each ?_ ?_; exact Keep.refl _; intro _; intro _
    refine Keep.trans ?_ (State.unhalt_keep ..) rfl; exact Keep.refl _; exact Keep.refl _

theorem State.pairRestart_keep (s : State) (sec : Bool) : Keep 0x280180003 s (State.pairRestart s sec) := by
  unfold State.pairRestart
  with_reducible
    split; exact Keep.refl _; refine keep_ite ?_ ?_; exact Keep.refl _; refine Keep.trans ?_ (State.raise_keep ..) rfl
    refine Keep.trans ?_ (State.bump_keep ..) rfl; refine Keep.trans ?_ (State.romRun_keep ..) rfl
    refine Keep.trans ?_ (State.startPair_keep ..) rfl; refine Keep.trans ?_ (State.setHist_keep ..) rfl
    exact Keep.refl _

theorem State.undoMismatch_keep (s : State) (sec : Bool) : Keep 0x3 s (State.undoMismatch s sec) := by
  unfold State.undoMismatch
  with_reducible
    refine keep_ite ?_ ?_; exact Keep.refl _; dsimp only; refine Keep.trans ?_ (State.setCnt_keep ..) rfl
    refine Keep.trans ?_ (State.setBit_keep ..) rfl; refine Keep.trans ?_ (State.setBit_keep ..) rfl
    refine Keep.trans ?_ (State.wr_keep ..) rfl; refine Keep.trans ?_ (State.wr_keep ..) rfl; exact Keep.refl _

theorem State.dropAnswers_keep (s : State) (sec : Bool) : Keep 0x100000000 s (State.dropAnswers s sec) := by
  unfold State.dropAnswers
  with_reducible (dsimp only; refine keep_mk_brg ?_ rfl; exact Keep.refl _)

theorem State.coreReset_keep (s : State) (sec : Bool) (confirm : Nat) : Keep 0x780080003 s (State.coreReset s sec confirm) := by
  unfold State.coreReset
  with_reducible
    refine keep_ite ?_ ?_; exact Keep.refl _; dsimp only; refine keep_ite ?_ ?_
    refine Keep.trans ?_ (State.romRun_keep ..) rfl; refine keep_mk_cpu ?_ rfl; refine keep_ite ?_ ?_
    refine Keep.trans ?_ (State.startPair_keep ..) rfl; refine Keep.trans ?_ (State.dropAnswers_keep ..) rfl
    refine Keep.trans ?_ (State.setHist_keep ..) rfl; refine Keep.trans ?_ (State.lsMark_keep ..) rfl
    refine Keep.trans ?_ (State.undoMismatch_keep ..) rfl; exact Keep.refl _
    refine Keep.trans ?_ (State.sessionLost_keep ..) rfl; refine Keep.trans ?_ (State.startPair_keep ..) rfl
    refine Keep.trans ?_ (State.dropAnswers_keep ..) rfl; refine Keep.trans ?_ (State.setHist_keep ..) rfl
    refine Keep.trans ?_ (State.lsMark_keep ..) rfl; refine Keep.trans ?_ (State.undoMismatch_keep ..) rfl
    exact Keep.refl _; refine Keep.trans ?_ (State.liveHold_keep ..) rfl; refine Keep.trans ?_ (State.romRun_keep ..) rfl
    refine keep_mk_cpu ?_ rfl; refine keep_ite ?_ ?_; refine Keep.trans ?_ (State.startPair_keep ..) rfl
    refine Keep.trans ?_ (State.dropAnswers_keep ..) rfl; refine Keep.trans ?_ (State.setHist_keep ..) rfl
    refine Keep.trans ?_ (State.lsMark_keep ..) rfl; refine Keep.trans ?_ (State.undoMismatch_keep ..) rfl
    exact Keep.refl _; refine Keep.trans ?_ (State.sessionLost_keep ..) rfl
    refine Keep.trans ?_ (State.startPair_keep ..) rfl; refine Keep.trans ?_ (State.dropAnswers_keep ..) rfl
    refine Keep.trans ?_ (State.setHist_keep ..) rfl; refine Keep.trans ?_ (State.lsMark_keep ..) rfl
    refine Keep.trans ?_ (State.undoMismatch_keep ..) rfl; exact Keep.refl _

theorem State.memCorrected_keep (s : State) : Keep 0x2 s (State.memCorrected s) := by
  unfold State.memCorrected
  with_reducible (refine Keep.trans ?_ (State.bump_keep ..) rfl; exact Keep.refl _)

theorem State.memFailed_keep (s : State) (mem off : Nat) : Keep 0x180003 s (State.memFailed s mem off) := by
  unfold State.memFailed
  with_reducible
    dsimp only; refine Keep.trans ?_ (State.raise_keep ..) rfl; refine Keep.trans ?_ (State.bump_keep ..) rfl
    refine keep_ite ?_ ?_; exact Keep.refl _; refine Keep.trans ?_ (State.wr_keep ..) rfl; exact Keep.refl _

theorem State.mtimeTick_keep (s : State) : Keep 0x80000000 s (State.mtimeTick s) := by
  unfold State.mtimeTick
  with_reducible (refine keep_ite ?_ ?_; refine keep_mk_cpu ?_ rfl; exact Keep.refl _; refine keep_mk_cpu ?_ rfl; exact Keep.refl _)

theorem State.mtimeLevel_keep (s : State) (h : Nat) : Keep 0x80000000 s (State.mtimeLevel s h) := by
  unfold State.mtimeLevel
  with_reducible (dsimp only; refine keep_mk_cpu ?_ rfl; exact Keep.refl _)

theorem State.mtimecmpHi_keep (s : State) (h : Nat) (v : Word) : Keep 0x80000001 s (State.mtimecmpHi s h v) := by
  unfold State.mtimecmpHi
  with_reducible
    dsimp only; refine Keep.trans ?_ (State.mtimeLevel_keep ..) rfl; refine keep_mk_cpu ?_ rfl
    refine Keep.trans ?_ (State.wr_keep ..) rfl; exact Keep.refl _

theorem State.takeRegs_keep (s : State) (h : Nat) (r : CoreRegs) : Keep 0x80000000 s (State.takeRegs s h r) := by
  unfold State.takeRegs
  with_reducible
    dsimp only; refine Keep.trans ?_ (State.setUser_keep ..) rfl; refine Keep.trans ?_ (State.setPc_keep ..) rfl
    refine keep_each ?_ ?_; refine keep_each ?_ ?_; exact Keep.refl _; intro _; intro _
    refine Keep.trans ?_ (State.setGpr_keep ..) rfl; exact Keep.refl _; intro _; intro _
    refine Keep.trans ?_ (State.setCsr_keep ..) rfl; exact Keep.refl _

theorem State.dbgHalt_keep (s : State) (h : Nat) (r : CoreRegs) : Keep 0x80000001 s (State.dbgHalt s h r) := by
  unfold State.dbgHalt
  with_reducible
    refine keep_ite ?_ ?_; exact Keep.refl _; dsimp only; refine Keep.trans ?_ (State.set_keep ..) rfl
    refine Keep.trans ?_ (State.takeRegs_keep ..) rfl; refine keep_mk_cpu ?_ rfl; exact Keep.refl _

theorem State.dbgResume_keep (s : State) (h : Nat) : Keep 0x80000001 s (State.dbgResume s h) := by
  unfold State.dbgResume
  with_reducible
    refine keep_ite ?_ ?_; exact Keep.refl _; dsimp only; refine keep_ite ?_ ?_
    refine Keep.trans ?_ (State.unhalt_keep ..) rfl; exact Keep.refl _; refine Keep.trans ?_ (State.set_keep ..) rfl
    refine Keep.trans ?_ (State.unhalt_keep ..) rfl; exact Keep.refl _

theorem State.dbgStep_keep (s : State) (h : Nat) (r : CoreRegs) : Keep 0x80000000 s (State.dbgStep s h r) := by
  unfold State.dbgStep
  with_reducible (refine keep_ite ?_ ?_; refine Keep.trans ?_ (State.takeRegs_keep ..) rfl; exact Keep.refl _; exact Keep.refl _)

theorem State.dbgAbstract_keep (s : State) (h : Nat) (csr : Bool) (n : Nat) (v : Word) : Keep 0x80000000 s (State.dbgAbstract s h csr n v) := by
  unfold State.dbgAbstract
  with_reducible
    refine keep_ite ?_ ?_; exact Keep.refl _; refine keep_ite ?_ ?_; refine Keep.trans ?_ (State.setCsr_keep ..) rfl
    exact Keep.refl _; refine keep_ite ?_ ?_; refine Keep.trans ?_ (State.setGpr_keep ..) rfl; exact Keep.refl _
    exact Keep.refl _

theorem State.dbgProgbuf_keep (s : State) (h : Nat) (r : CoreRegs) : Keep 0x80000000 s (State.dbgProgbuf s h r) := by
  unfold State.dbgProgbuf
  with_reducible (refine keep_ite ?_ ?_; refine Keep.trans ?_ (State.takeRegs_keep ..) rfl; exact Keep.refl _; exact Keep.refl _)

theorem State.challenge_keep (s : State) : Keep 0x2080000001 s (State.challenge s) := by
  unfold State.challenge
  with_reducible
    dsimp only; refine keep_mk_cpu ?_ rfl; refine keep_each ?_ ?_; exact Keep.refl _; intro _; intro _
    refine Keep.trans ?_ (State.wr_keep ..) rfl; refine Keep.trans ?_ (State.draw_keep ..) rfl; exact Keep.refl _

theorem State.dbgAct_keepF {m : Nat} {s0 s : State} {f : State → State} (h : Keep m s0 s) (hf : ∀ s, Keep m s (f s)) (hm : Incl 0x0 m) :
    Keep m s0 (s.dbgAct f) := by
  unfold State.dbgAct
  split
  · exact h
  · exact h.trans' (hf s)

theorem State.dbgCmd_keepF {m : Nat} {s0 s : State} {ini : Initiator} {f : State → State} (h : Keep m s0 s) (hf : ∀ s, Keep m s (f s))
    (hm : Incl 0x4000180001 m) : Keep m s0 (s.dbgCmd ini f) :=
  State.writeAt_keepF h (fun _ => State.dbgAct_keepF (Keep.refl _) hf (Incl.trans rfl hm)) (Incl.trans rfl hm)

theorem State.dbgSubmit_keep (s : State) (scope : Nat) : Keep 0x80000001 s (State.dbgSubmit s scope) := by
  unfold State.dbgSubmit
  with_reducible
    dsimp only; refine keep_ite ?_ ?_; refine Keep.trans ?_ (State.set_keep ..) rfl; refine keep_each ?_ ?_
    exact Keep.refl _; intro _; intro _; refine Keep.trans ?_ (State.wr_keep ..) rfl; exact Keep.refl _
    refine keep_ite ?_ ?_; refine Keep.trans ?_ (State.set_keep ..) rfl; refine keep_each ?_ ?_; exact Keep.refl _
    intro _; intro _; refine Keep.trans ?_ (State.wr_keep ..) rfl; exact Keep.refl _; refine keep_ite ?_ ?_
    refine Keep.trans ?_ (State.set_keep ..) rfl; refine keep_mk_cpu ?_ rfl; refine keep_each ?_ ?_; exact Keep.refl _
    intro _; intro _; refine Keep.trans ?_ (State.wr_keep ..) rfl; exact Keep.refl _
    refine Keep.trans ?_ (State.setBit_keep ..) rfl; refine keep_mk_cpu ?_ rfl; refine keep_each ?_ ?_; exact Keep.refl _
    intro _; intro _; refine Keep.trans ?_ (State.wr_keep ..) rfl; exact Keep.refl _

theorem State.dbgVerified_keep (s : State) : Keep 0xa818018b s (State.dbgVerified s) := by
  unfold State.dbgVerified
  with_reducible
    split; exact Keep.refl _; dsimp only; refine keep_ite ?_ ?_; refine Keep.trans ?_ (State.dbgLevels_keep ..) rfl
    refine keep_ite ?_ ?_; refine keep_mk_key ?_ rfl; refine Keep.trans ?_ (State.set_keep ..) rfl
    refine Keep.trans ?_ (State.set_keep ..) rfl; refine Keep.trans ?_ (State.setBit_keep ..) rfl
    refine keep_mk_cpu ?_ rfl; exact Keep.refl _; refine Keep.trans ?_ (State.set_keep ..) rfl
    refine Keep.trans ?_ (State.set_keep ..) rfl; refine Keep.trans ?_ (State.setBit_keep ..) rfl
    refine keep_mk_cpu ?_ rfl; exact Keep.refl _; refine Keep.trans ?_ (State.raise_keep ..) rfl
    refine Keep.trans ?_ (State.bump_keep ..) rfl; refine Keep.trans ?_ (State.set_keep ..) rfl
    refine Keep.trans ?_ (State.set_keep ..) rfl; refine Keep.trans ?_ (State.setBit_keep ..) rfl
    refine keep_mk_cpu ?_ rfl; exact Keep.refl _

theorem State.dbgDisable_keep (s : State) (scope : BitVec 2) : Keep 0x28180189 s (State.dbgDisable s scope) := by
  unfold State.dbgDisable
  with_reducible (refine Keep.trans ?_ (State.dbgLevels_keep ..) rfl; refine Keep.trans ?_ (State.set_keep ..) rfl; exact Keep.refl _)

end Sys2Proof.Machine
end

