-- ==== Sys2Proof/Laws/KeepWake.lean ====
section
/-! SUPPORT. What the operations of Machine/Wake.lean keep. -/

set_option linter.unusedVariables false
set_option maxRecDepth 4000

namespace Sys2Proof.Machine

theorem State.setSeq_keep (s : State) (t : Target_) (v : Nat) : Keep 0x1 s (State.setSeq s t v) := by
  unfold State.setSeq
  with_reducible
    split; refine Keep.trans ?_ (State.set_keep ..) rfl; exact Keep.refl _; refine Keep.trans ?_ (State.set_keep ..) rfl
    exact Keep.refl _

theorem State.seqTimer_keep (s : State) (t : Target_) : Keep 0x800000000 s (State.seqTimer s t) := by
  unfold State.seqTimer
  with_reducible (refine keep_mk_wak ?_ rfl; exact Keep.refl _)

theorem State.rsRestart_keep (s : State) (c : Nat) : Keep 0x800000000 s (State.rsRestart s c) := by
  unfold State.rsRestart
  with_reducible
    refine keep_each ?_ ?_; exact Keep.refl _; intro _; intro _; refine keep_ite ?_ ?_
    refine Keep.trans ?_ (State.seqTimer_keep ..) rfl; exact Keep.refl _; exact Keep.refl _

theorem State.ethWakes_keep (s : State) (ps : List Nat) (high : Bool) : Keep 0x4000000000 s (State.ethWakes s ps high) := by
  unfold State.ethWakes
  with_reducible
    refine keep_each ?_ ?_; exact Keep.refl _; intro _; intro _; refine Keep.trans ?_ (State.emit_keep ..) rfl
    exact Keep.refl _

theorem State.wakRaise_keep (s : State) (f : Fld) : Keep 0x180001 s (State.wakRaise s f) := by
  unfold State.wakRaise
  with_reducible
    refine keep_ite ?_ ?_; refine Keep.trans ?_ (State.raise_keep ..) rfl; exact Keep.refl _
    refine Keep.trans ?_ (State.set_keep ..) rfl; exact Keep.refl _

theorem State.edgePassed_keep (s : State) : Keep 0x800000000 s (State.edgePassed s) := by
  unfold State.edgePassed
  with_reducible (refine keep_mk_wak ?_ rfl; exact Keep.refl _)

theorem State.aoPass_keep (s : State) (n : Nat) : Keep 0x800000000 s (State.aoPass s n) := by
  unfold State.aoPass
  with_reducible
    refine keep_ite ?_ ?_; exact Keep.refl _; refine Keep.trans ?_ (State.edgePassed_keep ..) rfl
    refine keep_mk_wak ?_ rfl; exact Keep.refl _

theorem State.aoTick_keep (s : State) : Keep 0x800000000 s (State.aoTick s) := by
  unfold State.aoTick
  with_reducible
    dsimp only; refine keep_ite ?_ ?_; refine keep_mk_wak ?_ rfl; exact Keep.refl _; refine keep_mk_wak ?_ rfl
    exact Keep.refl _

theorem State.seqAbort_keep (s : State) (t : Target_) (cause : Nat) (m : Option Nat) : Keep 0x4000180003 s (State.seqAbort s t cause m) := by
  unfold State.seqAbort
  with_reducible
    dsimp only; refine Keep.trans ?_ (State.wakRaise_keep ..) rfl; refine Keep.trans ?_ (State.bump_keep ..) rfl
    refine Keep.trans ?_ (State.setBit_keep ..) rfl; refine Keep.trans ?_ (State.setBit_keep ..) rfl
    refine Keep.trans ?_ (State.set_keep ..) rfl; refine Keep.trans ?_ (State.set_keep ..) rfl
    refine Keep.trans ?_ (State.set_keep ..) rfl; refine keep_ite ?_ ?_; refine Keep.trans ?_ (State.ethWakes_keep ..) rfl
    refine Keep.trans ?_ (State.setSeq_keep ..) rfl; exact Keep.refl _; refine Keep.trans ?_ (State.setSeq_keep ..) rfl
    exact Keep.refl _

theorem State.prepAborts_keep (s : State) (m cause : Nat) : Keep 0x4000180003 s (State.prepAborts s m cause) := by
  unfold State.prepAborts
  with_reducible
    refine keep_each ?_ ?_; exact Keep.refl _; intro _; intro _; refine keep_ite ?_ ?_
    refine Keep.trans ?_ (State.seqAbort_keep ..) rfl; exact Keep.refl _; exact Keep.refl _

theorem State.kaAdd_keep (s : State) (e : List Word) : Keep 0x800180003 s (State.kaAdd s e) := by
  unfold State.kaAdd
  with_reducible
    refine keep_ite ?_ ?_; refine Keep.trans ?_ (State.wakRaise_keep ..) rfl
    refine Keep.trans ?_ (State.bump_keep ..) rfl; exact Keep.refl _; refine keep_mk_wak ?_ rfl; exact Keep.refl _

theorem State.kaNote_keep (s : State) (c : Nat) (m : CanMsg) : Keep 0x800180003 s (State.kaNote s c m) := by
  unfold State.kaNote
  with_reducible
    dsimp only; refine keep_ite ?_ ?_; refine keep_mk_wak ?_ rfl; exact Keep.refl _
    refine Keep.trans ?_ (State.kaAdd_keep ..) rfl; exact Keep.refl _

theorem State.canSeq_keep (s : State) (c : Nat) (m : CanMsg) : Keep 0x4800180003 s (State.canSeq s c m) := by
  unfold State.canSeq
  with_reducible
    dsimp only; refine keep_ite ?_ ?_; exact Keep.refl _; refine keep_ite ?_ ?_
    refine Keep.trans ?_ (State.prepAborts_keep ..) rfl; refine Keep.trans ?_ (State.rsRestart_keep ..) rfl
    refine Keep.trans ?_ (State.kaNote_keep ..) rfl; exact Keep.refl _; refine keep_ite ?_ ?_
    refine Keep.trans ?_ (State.prepAborts_keep ..) rfl; exact Keep.refl _; exact Keep.refl _

theorem State.canHeard_keep (s : State) (c : Nat) (m : CanMsg) (sof : Nat) : Keep 0x4800180003 s (State.canHeard s c m sof) := by
  unfold State.canHeard
  with_reducible (refine keep_ite ?_ ?_; exact Keep.refl _; refine Keep.trans ?_ (State.canSeq_keep ..) rfl; exact Keep.refl _)

theorem State.canRestart_keep (s : State) (c : Nat) : Keep 0x2000001 s (State.canRestart s c) := by
  unfold State.canRestart
  with_reducible
    refine keep_ite ?_ ?_; exact Keep.refl _; refine Keep.trans ?_ (State.canAct_keep ..) rfl
    refine Keep.trans ?_ (State.setCan_keep ..) rfl; exact Keep.refl _

theorem State.groupWakes_keep (s : State) (g : Fin 8) (m : Option Nat) : Keep 0x4802180003 s (State.groupWakes s g m) := by
  unfold State.groupWakes
  with_reducible
    refine keep_ite ?_ ?_; dsimp only; refine keep_each ?_ ?_; refine Keep.trans ?_ (State.ethWakes_keep ..) rfl
    refine keep_mk_wak ?_ rfl; refine Keep.trans ?_ (State.wakRaise_keep ..) rfl
    refine Keep.trans ?_ (State.setSeq_keep ..) rfl; exact Keep.refl _; intro _; intro _
    refine Keep.trans ?_ (State.canRestart_keep ..) rfl; exact Keep.refl _; refine keep_ite ?_ ?_
    refine Keep.trans ?_ (State.seqAbort_keep ..) rfl; exact Keep.refl _; exact Keep.refl _

theorem State.groupsWake_keep (s : State) (g m : Option Nat) : Keep 0x4802180003 s (State.groupsWake s g m) := by
  unfold State.groupsWake
  with_reducible
    split; exact Keep.refl _; dsimp only; refine keep_ite ?_ ?_; refine Keep.trans ?_ (State.seqAbort_keep ..) rfl
    refine keep_each ?_ ?_; exact Keep.refl _; intro _; intro _; refine Keep.trans ?_ (State.groupWakes_keep ..) rfl
    exact Keep.refl _; refine keep_each ?_ ?_; exact Keep.refl _; intro _; intro _
    refine Keep.trans ?_ (State.groupWakes_keep ..) rfl; exact Keep.refl _

theorem State.wakeRecord_keep (s : State) (kind : Nat) (m : Option Nat) (gb : Nat × Bool) (id : Option (Bool × Nat)) : Keep 0x800000001 s (State.wakeRecord s kind m gb id) := by
  unfold State.wakeRecord
  with_reducible
    refine keep_ite ?_ ?_; exact Keep.refl _; dsimp only; refine Keep.trans ?_ (State.wr_keep ..) rfl; split
    refine Keep.trans ?_ (State.wr_keep ..) rfl; refine Keep.trans ?_ (State.setBit_keep ..) rfl
    refine Keep.trans ?_ (State.setBit_keep ..) rfl; refine Keep.trans ?_ (State.setBit_keep ..) rfl
    refine Keep.trans ?_ (State.set_keep ..) rfl; refine Keep.trans ?_ (State.set_keep ..) rfl
    refine Keep.trans ?_ (State.set_keep ..) rfl; refine Keep.trans ?_ (State.setBit_keep ..) rfl
    refine Keep.trans ?_ (State.wr_keep ..) rfl; refine Keep.trans ?_ (State.wr_keep ..) rfl; refine keep_mk_wak ?_ rfl
    exact Keep.refl _; refine Keep.trans ?_ (State.setBit_keep ..) rfl; refine Keep.trans ?_ (State.setBit_keep ..) rfl
    refine Keep.trans ?_ (State.setBit_keep ..) rfl; refine Keep.trans ?_ (State.set_keep ..) rfl
    refine Keep.trans ?_ (State.set_keep ..) rfl; refine Keep.trans ?_ (State.set_keep ..) rfl
    refine Keep.trans ?_ (State.setBit_keep ..) rfl; refine Keep.trans ?_ (State.wr_keep ..) rfl
    refine Keep.trans ?_ (State.wr_keep ..) rfl; refine keep_mk_wak ?_ rfl; exact Keep.refl _

theorem State.wakeAll_keep (s : State) (kind : Nat) (m : Option Nat) : Keep 0x1 s (State.wakeAll s kind m) := by
  unfold State.wakeAll
  with_reducible
    split; refine Keep.trans ?_ (State.wr_keep ..) rfl; exact Keep.refl _; refine keep_ite ?_ ?_
    refine Keep.trans ?_ (State.setBit_keep ..) rfl; exact Keep.refl _; exact Keep.refl _

theorem State.deviceWake_keep (s : State) : Keep 0x4800180003 s (State.deviceWake s) := by
  unfold State.deviceWake
  with_reducible
    split; exact Keep.refl _; exact Keep.refl _; refine Keep.trans ?_ (State.wakRaise_keep ..) rfl
    refine Keep.trans ?_ (State.bump_keep ..) rfl; refine keep_mk_wak ?_ rfl; exact Keep.refl _
    refine Keep.trans ?_ (State.emit_keep ..) rfl; refine keep_mk_wak ?_ rfl; exact Keep.refl _

theorem State.wakeAccept_keep (s : State) (kind : Nat) (m g : Option Nat) (id : Option (Bool × Nat)) : Keep 0x4802180003 s (State.wakeAccept s kind m g id) := by
  unfold State.wakeAccept
  with_reducible
    dsimp only; refine keep_ite ?_ ?_; refine Keep.trans ?_ (State.ethWakes_keep ..) rfl
    refine Keep.trans ?_ (State.deviceWake_keep ..) rfl; refine Keep.trans ?_ (State.wakRaise_keep ..) rfl
    refine Keep.trans ?_ (State.groupsWake_keep ..) rfl; refine Keep.trans ?_ (State.bump_keep ..) rfl
    refine Keep.trans ?_ (State.wakeAll_keep ..) rfl; refine Keep.trans ?_ (State.wakeRecord_keep ..) rfl
    exact Keep.refl _; refine Keep.trans ?_ (State.deviceWake_keep ..) rfl
    refine Keep.trans ?_ (State.wakRaise_keep ..) rfl; refine Keep.trans ?_ (State.groupsWake_keep ..) rfl
    refine Keep.trans ?_ (State.bump_keep ..) rfl; refine Keep.trans ?_ (State.wakeAll_keep ..) rfl
    refine Keep.trans ?_ (State.wakeRecord_keep ..) rfl; exact Keep.refl _

theorem State.memberWake_keep (s : State) (kind m : Nat) (id : Option (Bool × Nat)) : Keep 0x4802180003 s (State.memberWake s kind m id) := by
  unfold State.memberWake
  with_reducible (refine Keep.trans ?_ (State.wakeAccept_keep ..) rfl; exact Keep.refl _)

theorem State.txWake_keep (s : State) (c : Nat) : Keep 0x4802180003 s (State.txWake s c) := by
  unfold State.txWake
  with_reducible (refine keep_ite ?_ ?_; refine Keep.trans ?_ (State.memberWake_keep ..) rfl; exact Keep.refl _; exact Keep.refl _)

theorem State.canDom_keep (s : State) (c clocks : Nat) : Keep 0x4802180003 s (State.canDom s c clocks) := by
  unfold State.canDom
  with_reducible (refine keep_ite ?_ ?_; refine Keep.trans ?_ (State.memberWake_keep ..) rfl; exact Keep.refl _; exact Keep.refl _)

theorem State.canFrame_keep (s : State) (c : Nat) (m : CanMsg) : Keep 0x4802180003 s (State.canFrame s c m) := by
  unfold State.canFrame
  with_reducible (refine keep_ite ?_ ?_; refine Keep.trans ?_ (State.memberWake_keep ..) rfl; exact Keep.refl _; exact Keep.refl _)

theorem State.canTrx_keep (s : State) (c : Nat) : Keep 0x4802180003 s (State.canTrx s c) := by
  unfold State.canTrx
  with_reducible
    refine keep_ite ?_ ?_; exact Keep.refl _; refine keep_ite ?_ ?_; refine Keep.trans ?_ (State.memberWake_keep ..) rfl
    exact Keep.refl _; refine Keep.trans ?_ (State.prepAborts_keep ..) rfl; exact Keep.refl _

theorem State.inhRise_keep (s : State) (p : Nat) : Keep 0x4802180003 s (State.inhRise s p) := by
  unfold State.inhRise
  with_reducible
    dsimp only; refine keep_ite ?_ ?_; refine keep_mk_wak ?_ rfl; exact Keep.refl _; refine keep_ite ?_ ?_
    refine Keep.trans ?_ (State.memberWake_keep ..) rfl; refine keep_mk_wak ?_ rfl; exact Keep.refl _
    refine Keep.trans ?_ (State.prepAborts_keep ..) rfl; refine keep_mk_wak ?_ rfl; exact Keep.refl _

theorem State.inhFall_keep (s : State) (p : Nat) : Keep 0x800000000 s (State.inhFall s p) := by
  unfold State.inhFall
  with_reducible (refine keep_mk_wak ?_ rfl; exact Keep.refl _)

theorem State.timerWake_keep (s : State) : Keep 0x4802180003 s (State.timerWake s) := by
  unfold State.timerWake
  with_reducible
    dsimp only; refine keep_ite ?_ ?_; refine Keep.trans ?_ (State.wakeAccept_keep ..) rfl; exact Keep.refl _
    exact Keep.refl _

end Sys2Proof.Machine
end

