-- ==== Sys2Proof/Laws/KeepGwe.lean ====
section
/-! SUPPORT. What the operations of Machine/Gwe.lean keep. -/

set_option linter.unusedVariables false
set_option maxRecDepth 4000

namespace Sys2Proof.Machine

theorem State.setFreshness_keep (s : State) (k v : Nat) : Keep 0x8 s (State.setFreshness s k v) := by
  unfold State.setFreshness
  with_reducible (refine Keep.trans ?_ (State.setEntry_keep ..) rfl; exact Keep.refl _)

theorem State.internalFrame_keep (s : State) (c : Nat) (r : CanRx) : Keep 0x2000000 s (State.internalFrame s c r).2 := by
  unfold State.internalFrame
  with_reducible (dsimp only; refine Keep.trans ?_ (State.setCan_keep ..) rfl; exact Keep.refl _)

theorem State.secFail_keep (s : State) (e c cause : Nat) (m : CanMsg) : Keep 0x40180003 s (State.secFail s e c cause m) := by
  unfold State.secFail
  with_reducible
    dsimp only; refine Keep.trans ?_ (State.gwEvent_keep ..) rfl; refine Keep.trans ?_ (State.raise_keep ..) rfl
    refine keep_ite ?_ ?_; refine Keep.trans ?_ (State.bump_keep ..) rfl; exact Keep.refl _
    refine Keep.trans ?_ (State.wr_keep ..) rfl; refine Keep.trans ?_ (State.bump_keep ..) rfl; exact Keep.refl _

theorem State.inboundFail_keep (s : State) (c e cause : Nat) : Keep 0x42180283 s (State.inboundFail s c e cause) := by
  unfold State.inboundFail
  with_reducible
    split; exact Keep.refl _; dsimp only; refine keep_ite ?_ ?_; refine Keep.trans ?_ (State.secFail_keep ..) rfl
    refine Keep.trans ?_ (State.setCan_keep ..) rfl; exact Keep.refl _; refine keep_mk_frames ?_ rfl
    refine Keep.trans ?_ (State.offerP15_keep ..) rfl; refine Keep.trans ?_ (State.internalFrame_keep ..) rfl
    refine Keep.trans ?_ (State.secFail_keep ..) rfl; refine Keep.trans ?_ (State.setCan_keep ..) rfl; exact Keep.refl _

theorem State.gwSubmit_keep (s : State) (j : GwJob) : Keep 0x20184003 s (State.gwSubmit s j).2 := by
  unfold State.gwSubmit
  with_reducible
    dsimp only; split; refine keep_pair ?_; refine Keep.trans ?_ (State.laAccept_keep ..) rfl; exact Keep.refl _
    refine keep_pair ?_; refine Keep.trans ?_ (State.keyDenied_keep ..) rfl; exact Keep.refl _; refine keep_pair ?_
    exact Keep.refl _

theorem State.gwMake_keep (s : State) (j : GwJob) : Keep 0x60184003 s (State.gwMake s j).2 := by
  unfold State.gwMake
  with_reducible
    refine keep_ite2 ?_ ?_; refine keep_pair ?_; dsimp only; refine keep_mk_gwe ?_ rfl
    refine Keep.trans ?_ (State.bump_keep ..) rfl; exact Keep.refl _; refine Keep.trans ?_ (State.gwSubmit_keep ..) rfl
    exact Keep.refl _

theorem State.markHead_keep (s : State) (c k : Nat) : Keep 0x2000000 s (State.markHead s c k) := by
  unfold State.markHead
  with_reducible (split; exact Keep.refl _; refine Keep.trans ?_ (State.setCan_keep ..) rfl; exact Keep.refl _)

theorem State.beginCheck_keep (s : State) (c e : Nat) : Keep 0x62184283 s (State.beginCheck s c e) := by
  unfold State.beginCheck
  with_reducible
    split; exact Keep.refl _; refine keep_ite ?_ ?_; refine Keep.trans ?_ (State.inboundFail_keep ..) rfl
    exact Keep.refl _; split; refine Keep.trans ?_ (State.inboundFail_keep ..) rfl; exact Keep.refl _; dsimp only
    refine keep_ite ?_ ?_; refine Keep.trans ?_ (State.inboundFail_keep ..) rfl
    refine Keep.trans ?_ (State.gwMake_keep ..) rfl; exact Keep.refl _; refine Keep.trans ?_ (State.markHead_keep ..) rfl
    refine Keep.trans ?_ (State.gwMake_keep ..) rfl; exact Keep.refl _

theorem State.freeHeads_keep (s : State) : Keep 0x2000000 s (State.freeHeads s) := by
  unfold State.freeHeads
  with_reducible
    refine keep_each ?_ ?_; exact Keep.refl _; intro _; intro _; split; refine keep_ite ?_ ?_
    refine Keep.trans ?_ (State.markHead_keep ..) rfl; exact Keep.refl _; exact Keep.refl _; exact Keep.refl _

theorem State.checks_keep (s : State) (z0 : Nat) : Keep 0x62184283 s (State.checks s z0) := by
  induction z0 generalizing s with
  | zero => exact Keep.refl _
  | succ n ih =>
    unfold State.checks
    with_reducible
      split; refine Keep.trans ?_ (ih ..) rfl; refine Keep.trans ?_ (State.beginCheck_keep ..) rfl; exact Keep.refl _
      exact Keep.refl _

theorem State.gwService_keep (s : State) : Keep 0x62184283 s (State.gwService s) := by
  unfold State.gwService
  with_reducible (refine Keep.trans ?_ (State.freeHeads_keep ..) rfl; refine Keep.trans ?_ (State.checks_keep ..) rfl; exact Keep.refl _)

theorem State.setPack_keep (s : State) (p : Nat) (x : Pack) : Keep 0x40000000 s (State.setPack s p x) := by
  unfold State.setPack
  with_reducible (refine keep_mk_gwe ?_ rfl; exact Keep.refl _)

theorem State.packSend_keep (s : State) (p : Nat) : Keep 0x40000282 s (State.packSend s p) := by
  unfold State.packSend
  with_reducible
    dsimp only; refine Keep.trans ?_ (State.bump_keep ..) rfl; refine Keep.trans ?_ (State.offerP15_keep ..) rfl
    refine Keep.trans ?_ (State.setPack_keep ..) rfl; exact Keep.refl _

theorem State.packOvf_keep (s : State) (p : Nat) (m : CanMsg) : Keep 0x40180003 s (State.packOvf s p m) := by
  unfold State.packOvf
  with_reducible
    refine Keep.trans ?_ (State.gwEvent_keep ..) rfl; refine Keep.trans ?_ (State.raise_keep ..) rfl
    refine Keep.trans ?_ (State.bump_keep ..) rfl; exact Keep.refl _

theorem State.packPut_keep (s : State) (p : Nat) (g : GwMsg) : Keep 0x40180283 s (State.packPut s p g) := by
  unfold State.packPut
  with_reducible
    dsimp only; refine keep_ite ?_ ?_; refine Keep.trans ?_ (State.packOvf_keep ..) rfl; exact Keep.refl _
    refine keep_ite ?_ ?_; refine Keep.trans ?_ (State.packOvf_keep ..) rfl; exact Keep.refl _
    refine Keep.trans ?_ (State.bump_keep ..) rfl; refine Keep.trans ?_ (State.setPack_keep ..) rfl; refine keep_ite ?_ ?_
    refine Keep.trans ?_ (State.bump_keep ..) rfl; refine Keep.trans ?_ (State.packSend_keep ..) rfl; exact Keep.refl _
    exact Keep.refl _

theorem State.packRelease_keep (s : State) (p : Nat) : Keep 0x40000282 s (State.packRelease s p) := by
  unfold State.packRelease
  with_reducible (refine keep_ite ?_ ?_; refine Keep.trans ?_ (State.packSend_keep ..) rfl; exact Keep.refl _; exact Keep.refl _)

theorem State.packReposition_keep (s : State) : Keep 0x40000000 s (State.packReposition s) := by
  unfold State.packReposition
  with_reducible
    refine keep_each ?_ ?_; exact Keep.refl _; intro _; intro _; refine keep_ite ?_ ?_; exact Keep.refl _
    refine Keep.trans ?_ (State.setPack_keep ..) rfl; exact Keep.refl _

theorem State.fifoPut_keep (s : State) (c f : Nat) (m : CanMsg) : Keep 0x4802180003 s (State.fifoPut s c f m) := by
  unfold State.fifoPut
  with_reducible
    dsimp only; refine keep_ite ?_ ?_; refine Keep.trans ?_ (State.bump_keep ..) rfl
    refine Keep.trans ?_ (State.txWake_keep ..) rfl; exact Keep.refl _; refine keep_ite ?_ ?_
    refine Keep.trans ?_ (State.raise_keep ..) rfl; refine Keep.trans ?_ (State.bump_keep ..) rfl
    refine Keep.trans ?_ (State.txWake_keep ..) rfl; exact Keep.refl _; refine Keep.trans ?_ (State.setCan_keep ..) rfl
    refine Keep.trans ?_ (State.txWake_keep ..) rfl; exact Keep.refl _

theorem State.gwPlace_keep (s : State) (g : GwMsg) (z0 : GwTarget) : Keep 0x4842180283 s (State.gwPlace s g z0) := by
  unfold State.gwPlace
  with_reducible
    split; refine Keep.trans ?_ (State.fifoPut_keep ..) rfl; exact Keep.refl _
    refine Keep.trans ?_ (State.packPut_keep ..) rfl; exact Keep.refl _

theorem State.gwSend_keep (s : State) (w2 : Word) (g : GwMsg) (t : GwTarget) : Keep 0x486218428b s (State.gwSend s w2 g t).2 := by
  unfold State.gwSend
  with_reducible
    refine keep_ite2 ?_ ?_; refine keep_pair ?_; refine Keep.trans ?_ (State.gwPlace_keep ..) rfl; exact Keep.refl _
    dsimp only; refine keep_ite2 ?_ ?_; refine keep_pair ?_; refine Keep.trans ?_ (State.secFail_keep ..) rfl
    exact Keep.refl _; refine keep_ite2 ?_ ?_; refine keep_pair ?_; refine Keep.trans ?_ (State.bump_keep ..) rfl
    exact Keep.refl _; refine keep_ite2 ?_ ?_; refine keep_pair ?_; refine Keep.trans ?_ (State.secFail_keep ..) rfl
    exact Keep.refl _; refine keep_ite2 ?_ ?_; refine keep_pair ?_; refine Keep.trans ?_ (State.secFail_keep ..) rfl
    refine Keep.trans ?_ (State.gwMake_keep ..) rfl; refine Keep.trans ?_ (State.setFreshness_keep ..) rfl
    exact Keep.refl _; refine keep_pair ?_; refine Keep.trans ?_ (State.gwMake_keep ..) rfl
    refine Keep.trans ?_ (State.setFreshness_keep ..) rfl; exact Keep.refl _

theorem State.gwStep_keep (s : State) (h : GwHand) (g : GwMsg) (t : Nat) : Keep 0x486218428b s (State.gwStep s h g t).2 := by
  unfold State.gwStep
  with_reducible
    dsimp only; refine keep_ite2 ?_ ?_; refine Keep.trans ?_ (State.gwSend_keep ..) rfl; exact Keep.refl _
    refine keep_ite2 ?_ ?_; refine keep_pair ?_; refine Keep.trans ?_ (State.raise_keep ..) rfl
    refine Keep.trans ?_ (State.bump_keep ..) rfl; refine keep_ite ?_ ?_; refine Keep.trans ?_ (State.bump_keep ..) rfl
    exact Keep.refl _; exact Keep.refl _; refine keep_ite2 ?_ ?_; refine keep_pair ?_
    refine Keep.trans ?_ (State.bump_keep ..) rfl; refine keep_ite ?_ ?_; refine Keep.trans ?_ (State.bump_keep ..) rfl
    exact Keep.refl _; exact Keep.refl _; refine Keep.trans ?_ (State.gwSend_keep ..) rfl; refine keep_ite ?_ ?_
    refine Keep.trans ?_ (State.bump_keep ..) rfl; exact Keep.refl _; exact Keep.refl _

theorem State.gwRun_keep (s : State) (z0 : Nat) : Keep 0x486218428b s (State.gwRun s z0) := by
  induction z0 generalizing s with
  | zero => exact Keep.refl _
  | succ n ih =>
    unfold State.gwRun
    with_reducible
      split; exact Keep.refl _; split; exact Keep.refl _; refine keep_ite ?_ ?_; exact Keep.refl _; dsimp only
      refine keep_ite ?_ ?_; refine Keep.trans ?_ (ih ..) rfl; refine Keep.trans ?_ (State.gwStep_keep ..) rfl
      refine keep_mk_gwe ?_ rfl; exact Keep.refl _; refine Keep.trans ?_ (State.gwStep_keep ..) rfl
      refine keep_mk_gwe ?_ rfl; exact Keep.refl _

theorem State.gwResume_keep (s : State) : Keep 0x486218428b s (State.gwResume s) := by
  unfold State.gwResume
  with_reducible (refine keep_ite ?_ ?_; exact Keep.refl _; refine Keep.trans ?_ (State.gwRun_keep ..) rfl; exact Keep.refl _)

theorem State.gwGo_keep (s : State) : Keep 0x486218428b s (State.gwGo s) := by
  unfold State.gwGo
  with_reducible
    refine keep_ite ?_ ?_; exact Keep.refl _; refine Keep.trans ?_ (State.gwService_keep ..) rfl
    refine Keep.trans ?_ (State.gwResume_keep ..) rfl; refine Keep.trans ?_ (State.gwService_keep ..) rfl
    exact Keep.refl _

theorem State.internalBuild_keep (s : State) : Keep 0x486218428b s (State.internalBuild s) := by
  unfold State.internalBuild
  with_reducible
    dsimp only; refine keep_ite ?_ ?_; refine Keep.trans ?_ (State.gwGo_keep ..) rfl; exact Keep.refl _; split
    refine Keep.trans ?_ (State.gwGo_keep ..) rfl; exact Keep.refl _; split; refine Keep.trans ?_ (State.gwGo_keep ..) rfl
    exact Keep.refl _; refine Keep.trans ?_ (State.offerP15_keep ..) rfl
    refine Keep.trans ?_ (State.internalFrame_keep ..) rfl; refine Keep.trans ?_ (State.gwGo_keep ..) rfl
    exact Keep.refl _

theorem State.gwCopy_keep (s : State) (f : Frame) (d : Bytes) : Keep 0x486218428b s (State.gwCopy s f d) := by
  unfold State.gwCopy
  with_reducible
    dsimp only; refine keep_ite ?_ ?_; refine keep_mk_gwe ?_ rfl; refine Keep.trans ?_ (State.bump_keep ..) rfl
    exact Keep.refl _; refine Keep.trans ?_ (State.gwRun_keep ..) rfl; refine keep_mk_gwe ?_ rfl; refine keep_ite ?_ ?_
    refine Keep.trans ?_ (State.bumpBy_keep ..) rfl; refine Keep.trans ?_ (State.bumpBy_keep ..) rfl
    refine Keep.trans ?_ (State.bumpBy_keep ..) rfl; exact Keep.refl _; refine Keep.trans ?_ (State.raise_keep ..) rfl
    refine Keep.trans ?_ (State.bumpBy_keep ..) rfl; refine Keep.trans ?_ (State.bumpBy_keep ..) rfl
    refine Keep.trans ?_ (State.bumpBy_keep ..) rfl; exact Keep.refl _

theorem State.gwLeave_keep (s : State) : Keep 0x40000000 s (State.gwLeave s) := by
  unfold State.gwLeave
  with_reducible (refine keep_mk_gwe ?_ rfl; exact Keep.refl _)

theorem State.inboundResult_keep (s : State) (c e v res : Nat) : Keep 0x4218028b s (State.inboundResult s c e v res) := by
  unfold State.inboundResult
  with_reducible
    split; exact Keep.refl _; refine keep_ite ?_ ?_; exact Keep.refl _; refine keep_ite ?_ ?_
    refine Keep.trans ?_ (State.markHead_keep ..) rfl; refine Keep.trans ?_ (State.bump_keep ..) rfl
    refine Keep.trans ?_ (State.setFreshness_keep ..) rfl; exact Keep.refl _
    refine Keep.trans ?_ (State.inboundFail_keep ..) rfl; exact Keep.refl _

theorem State.outboundResult_keep (s : State) (e v : Nat) (g : GwMsg) (t : GwTarget) (res : Nat) (mac : Bytes) : Keep 0x4842180283 s (State.outboundResult s e v g t res mac) := by
  unfold State.outboundResult
  with_reducible
    refine keep_ite ?_ ?_; refine Keep.trans ?_ (State.secFail_keep ..) rfl; exact Keep.refl _; dsimp only
    refine Keep.trans ?_ (State.gwPlace_keep ..) rfl; refine Keep.trans ?_ (State.bump_keep ..) rfl; exact Keep.refl _

theorem State.laComplete_keep (s : State) (idx : Nat) (ecc : EccState) : Keep 0x786218538b s (State.laComplete s idx ecc) := by
  unfold State.laComplete
  with_reducible
    split; exact Keep.refl _; refine keep_ite ?_ ?_; exact Keep.refl _; dsimp only
    refine Keep.trans ?_ (State.gwGo_keep ..) rfl; split; refine Keep.trans ?_ (State.laPost_keep ..) rfl
    refine Keep.trans ?_ (State.laFinish_keep ..) rfl; exact Keep.refl _
    refine Keep.trans ?_ (State.inboundResult_keep ..) rfl; refine Keep.trans ?_ (State.laFinish_keep ..) rfl
    exact Keep.refl _; refine Keep.trans ?_ (State.outboundResult_keep ..) rfl
    refine Keep.trans ?_ (State.laFinish_keep ..) rfl; exact Keep.refl _

theorem State.secResubmit_keep (s : State) : Keep 0x486218428b s (State.secResubmit s) := by
  unfold State.secResubmit
  with_reducible
    split; exact Keep.refl _; refine keep_ite ?_ ?_; exact Keep.refl _; dsimp only
    refine Keep.trans ?_ (State.gwGo_keep ..) rfl; refine keep_ite ?_ ?_
    refine Keep.trans ?_ (State.gwSubmit_keep ..) rfl; refine keep_mk_gwe ?_ rfl; exact Keep.refl _; split
    refine Keep.trans ?_ (State.inboundFail_keep ..) rfl; refine Keep.trans ?_ (State.gwSubmit_keep ..) rfl
    refine keep_mk_gwe ?_ rfl; exact Keep.refl _; refine Keep.trans ?_ (State.secFail_keep ..) rfl
    refine Keep.trans ?_ (State.gwSubmit_keep ..) rfl; refine keep_mk_gwe ?_ rfl; exact Keep.refl _

theorem State.freshSkip_keep (s : State) : Keep 0x8 s (State.freshSkip s) := by
  unfold State.freshSkip
  with_reducible
    dsimp only; refine keep_each ?_ ?_; exact Keep.refl _; intro _; intro _
    refine Keep.trans ?_ (State.setFreshness_keep ..) rfl; exact Keep.refl _

theorem State.gweResult_keep (s : State) (res : Nat) : Keep 0x1 s (State.gweResult s res) := by
  unfold State.gweResult
  with_reducible (refine Keep.trans ?_ (State.set_keep ..) rfl; refine Keep.trans ?_ (State.setBit_keep ..) rfl; exact Keep.refl _)

theorem State.packRewrite_keep (s : State) (p : Nat) (ws : List Word) : Keep 0x40000002 s (State.packRewrite s p ws) := by
  unfold State.packRewrite
  with_reducible
    dsimp only; refine keep_ite ?_ ?_; exact Keep.refl _; refine Keep.trans ?_ (State.setPack_keep ..) rfl
    refine Keep.trans ?_ (State.bumpBy_keep ..) rfl; exact Keep.refl _

theorem State.gweRun_keep (s : State) (cmd : Word) (ecc : EccState) : Keep 0x4018000b s (State.gweRun s cmd ecc) := by
  unfold State.gweRun
  with_reducible
    dsimp only; refine keep_ite ?_ ?_; refine Keep.trans ?_ (State.gweResult_keep ..) rfl; exact Keep.refl _
    refine keep_ite ?_ ?_; refine Keep.trans ?_ (State.gweResult_keep ..) rfl; exact Keep.refl _; refine keep_ite ?_ ?_
    refine keep_ite ?_ ?_; refine Keep.trans ?_ (State.gweResult_keep ..) rfl; exact Keep.refl _
    refine Keep.trans ?_ (State.gweResult_keep ..) rfl; refine Keep.trans ?_ (State.setEntry_keep ..) rfl
    refine keep_ite ?_ ?_; refine Keep.trans ?_ (State.packRewrite_keep ..) rfl; exact Keep.refl _; exact Keep.refl _
    refine keep_ite ?_ ?_; refine Keep.trans ?_ (State.gweResult_keep ..) rfl
    refine Keep.trans ?_ (State.raise_keep ..) rfl; exact Keep.refl _; refine Keep.trans ?_ (State.gweResult_keep ..) rfl
    refine Keep.trans ?_ (State.fillWindow_keep ..) rfl; exact Keep.refl _

theorem State.gweTable_keep (s : State) (ini : Initiator) (cmd : Word) (ecc : EccState) : Keep 0x404018000b s (State.gweTable s ini cmd ecc) := by
  unfold State.gweTable
  with_reducible
    refine State.tableWrite_keepF ?_ ?_ rfl; exact Keep.refl _; intro _; refine Keep.trans ?_ (State.gweRun_keep ..) rfl
    exact Keep.refl _

theorem State.gwPop_keep (s : State) : Keep 0x40000000 s (State.gwPop s).2 := by
  unfold State.gwPop
  with_reducible (refine keep_pair ?_; refine keep_mk_gwe ?_ rfl; exact Keep.refl _)

end Sys2Proof.Machine
end

