-- ==== Sys2Proof/Laws/KeepTwp.lean ====
section
/-! SUPPORT. What the operations of Machine/Twp.lean keep. -/

set_option linter.unusedVariables false
set_option maxRecDepth 4000

namespace Sys2Proof.Machine

theorem State.requestResync_keep (s : State) (mask : BitVec 8) : Keep 0x4004000000 s (State.requestResync s mask) := by
  unfold State.requestResync
  with_reducible (refine Keep.trans ?_ (State.sendCtrl_keep ..) rfl; refine keep_mk_twp ?_ rfl; exact Keep.refl _)

theorem State.noteGap_keep (s : State) : Keep 0x4180001 s (State.noteGap s) := by
  unfold State.noteGap
  with_reducible (refine Keep.trans ?_ (State.raise_keep ..) rfl; refine keep_mk_twp ?_ rfl; exact Keep.refl _)

theorem State.unpark_keep (s : State) (on : Nat → Bool) : Keep 0x4004185183 s (State.unpark s on) := by
  unfold State.unpark
  with_reducible
    refine keep_each ?_ ?_; exact Keep.refl _; intro _; intro _; refine keep_ite ?_ ?_
    refine Keep.trans ?_ (State.copyLeaves_keep ..) rfl; exact Keep.refl _
    refine Keep.trans ?_ (State.putCopy_keep ..) rfl; exact Keep.refl _

theorem State.fenceFlush_keep (s : State) (mask t : Nat) : Keep 0x4004185183 s (State.fenceFlush s mask t) := by
  unfold State.fenceFlush
  with_reducible
    dsimp only; refine Keep.trans ?_ (State.unpark_keep ..) rfl; refine keep_each ?_ ?_; exact Keep.refl _; intro _
    intro _; refine Keep.trans ?_ (State.bump_keep ..) rfl; refine Keep.trans ?_ (State.copyGone_keep ..) rfl
    exact Keep.refl _

theorem State.takeover_keep (s : State) : Keep 0x60561951ab s (State.takeover s) := by
  unfold State.takeover
  with_reducible
    dsimp only; split; refine keep_ite ?_ ?_; split; refine keep_ite ?_ ?_
    refine Keep.trans ?_ (State.freshSkip_keep ..) rfl; refine Keep.trans ?_ (State.pnSkip_keep ..) rfl
    refine Keep.trans ?_ (State.fenceFlush_keep ..) rfl; refine Keep.trans ?_ (State.setBit_keep ..) rfl
    refine keep_mk_twp ?_ rfl; refine Keep.trans ?_ (State.raise_keep ..) rfl
    refine Keep.trans ?_ (State.bump_keep ..) rfl; refine Keep.trans ?_ (State.wr_keep ..) rfl
    refine Keep.trans ?_ (State.wr_keep ..) rfl; refine Keep.trans ?_ (State.setClaim_keep ..) rfl; exact Keep.refl _
    refine Keep.trans ?_ (State.linkCancel_keep ..) rfl; refine Keep.trans ?_ (State.freshSkip_keep ..) rfl
    refine Keep.trans ?_ (State.pnSkip_keep ..) rfl; refine Keep.trans ?_ (State.fenceFlush_keep ..) rfl
    refine Keep.trans ?_ (State.setBit_keep ..) rfl; refine keep_mk_twp ?_ rfl
    refine Keep.trans ?_ (State.raise_keep ..) rfl; refine Keep.trans ?_ (State.bump_keep ..) rfl
    refine Keep.trans ?_ (State.wr_keep ..) rfl; refine Keep.trans ?_ (State.wr_keep ..) rfl
    refine Keep.trans ?_ (State.setClaim_keep ..) rfl; exact Keep.refl _
    refine Keep.trans ?_ (State.freshSkip_keep ..) rfl; refine Keep.trans ?_ (State.pnSkip_keep ..) rfl
    refine Keep.trans ?_ (State.fenceFlush_keep ..) rfl; refine Keep.trans ?_ (State.setBit_keep ..) rfl
    refine keep_mk_twp ?_ rfl; refine Keep.trans ?_ (State.raise_keep ..) rfl
    refine Keep.trans ?_ (State.bump_keep ..) rfl; refine Keep.trans ?_ (State.wr_keep ..) rfl
    refine Keep.trans ?_ (State.wr_keep ..) rfl; refine Keep.trans ?_ (State.setClaim_keep ..) rfl; exact Keep.refl _
    refine Keep.trans ?_ (State.linkCancel_keep ..) rfl; split; refine keep_ite ?_ ?_
    refine Keep.trans ?_ (State.freshSkip_keep ..) rfl; refine Keep.trans ?_ (State.pnSkip_keep ..) rfl
    refine Keep.trans ?_ (State.fenceFlush_keep ..) rfl; refine Keep.trans ?_ (State.setBit_keep ..) rfl
    refine keep_mk_twp ?_ rfl; refine Keep.trans ?_ (State.raise_keep ..) rfl
    refine Keep.trans ?_ (State.bump_keep ..) rfl; refine Keep.trans ?_ (State.wr_keep ..) rfl
    refine Keep.trans ?_ (State.wr_keep ..) rfl; refine Keep.trans ?_ (State.setClaim_keep ..) rfl; exact Keep.refl _
    refine Keep.trans ?_ (State.linkCancel_keep ..) rfl; refine Keep.trans ?_ (State.freshSkip_keep ..) rfl
    refine Keep.trans ?_ (State.pnSkip_keep ..) rfl; refine Keep.trans ?_ (State.fenceFlush_keep ..) rfl
    refine Keep.trans ?_ (State.setBit_keep ..) rfl; refine keep_mk_twp ?_ rfl
    refine Keep.trans ?_ (State.raise_keep ..) rfl; refine Keep.trans ?_ (State.bump_keep ..) rfl
    refine Keep.trans ?_ (State.wr_keep ..) rfl; refine Keep.trans ?_ (State.wr_keep ..) rfl
    refine Keep.trans ?_ (State.setClaim_keep ..) rfl; exact Keep.refl _
    refine Keep.trans ?_ (State.freshSkip_keep ..) rfl; refine Keep.trans ?_ (State.pnSkip_keep ..) rfl
    refine Keep.trans ?_ (State.fenceFlush_keep ..) rfl; refine Keep.trans ?_ (State.setBit_keep ..) rfl
    refine keep_mk_twp ?_ rfl; refine Keep.trans ?_ (State.raise_keep ..) rfl
    refine Keep.trans ?_ (State.bump_keep ..) rfl; refine Keep.trans ?_ (State.wr_keep ..) rfl
    refine Keep.trans ?_ (State.wr_keep ..) rfl; refine Keep.trans ?_ (State.setClaim_keep ..) rfl; exact Keep.refl _
    split; refine keep_ite ?_ ?_; refine Keep.trans ?_ (State.freshSkip_keep ..) rfl
    refine Keep.trans ?_ (State.pnSkip_keep ..) rfl; refine Keep.trans ?_ (State.fenceFlush_keep ..) rfl
    refine Keep.trans ?_ (State.setBit_keep ..) rfl; refine keep_mk_twp ?_ rfl
    refine Keep.trans ?_ (State.raise_keep ..) rfl; refine Keep.trans ?_ (State.bump_keep ..) rfl
    refine Keep.trans ?_ (State.wr_keep ..) rfl; refine Keep.trans ?_ (State.wr_keep ..) rfl
    refine Keep.trans ?_ (State.setClaim_keep ..) rfl; exact Keep.refl _
    refine Keep.trans ?_ (State.linkCancel_keep ..) rfl; refine Keep.trans ?_ (State.freshSkip_keep ..) rfl
    refine Keep.trans ?_ (State.pnSkip_keep ..) rfl; refine Keep.trans ?_ (State.fenceFlush_keep ..) rfl
    refine Keep.trans ?_ (State.setBit_keep ..) rfl; refine keep_mk_twp ?_ rfl
    refine Keep.trans ?_ (State.raise_keep ..) rfl; refine Keep.trans ?_ (State.bump_keep ..) rfl
    refine Keep.trans ?_ (State.wr_keep ..) rfl; refine Keep.trans ?_ (State.wr_keep ..) rfl
    refine Keep.trans ?_ (State.setClaim_keep ..) rfl; exact Keep.refl _
    refine Keep.trans ?_ (State.freshSkip_keep ..) rfl; refine Keep.trans ?_ (State.pnSkip_keep ..) rfl
    refine Keep.trans ?_ (State.fenceFlush_keep ..) rfl; refine Keep.trans ?_ (State.setBit_keep ..) rfl
    refine keep_mk_twp ?_ rfl; refine Keep.trans ?_ (State.raise_keep ..) rfl
    refine Keep.trans ?_ (State.bump_keep ..) rfl; refine Keep.trans ?_ (State.wr_keep ..) rfl
    refine Keep.trans ?_ (State.wr_keep ..) rfl; refine Keep.trans ?_ (State.setClaim_keep ..) rfl; exact Keep.refl _

theorem State.setPeer_keep (s : State) (c : Nat) : Keep 0x2042180023 s (State.setPeer s c) := by
  unfold State.setPeer
  with_reducible (refine Keep.trans ?_ (State.claimsChanged_keep ..) rfl; refine Keep.trans ?_ (State.set_keep ..) rfl; exact Keep.refl _)

theorem State.swapConfirm_keep (s : State) (c : Nat) : Keep 0x4180003 s (State.swapConfirm s c) := by
  unfold State.swapConfirm
  with_reducible
    split; refine keep_ite ?_ ?_; refine Keep.trans ?_ (State.raise_keep ..) rfl
    refine Keep.trans ?_ (State.bump_keep ..) rfl; refine keep_mk_twp ?_ rfl; exact Keep.refl _; exact Keep.refl _
    exact Keep.refl _

theorem State.planFailed_keep (s : State) : Keep 0x4004185183 s (State.planFailed s) := by
  unfold State.planFailed
  with_reducible
    split; refine keep_ite ?_ ?_; exact Keep.refl _; refine Keep.trans ?_ (State.unpark_keep ..) rfl
    refine keep_mk_twp ?_ rfl; exact Keep.refl _; exact Keep.refl _

theorem State.hearClaim_keep (s : State) (c : Nat) : Keep 0x60561951ab s (State.hearClaim s c) := by
  unfold State.hearClaim
  with_reducible
    dsimp only; refine keep_ite ?_ ?_; exact Keep.refl _; refine keep_ite ?_ ?_; refine keep_ite ?_ ?_
    refine Keep.trans ?_ (State.requestResync_keep ..) rfl; refine Keep.trans ?_ (State.setClaim_keep ..) rfl
    refine Keep.trans ?_ (State.raise_keep ..) rfl; refine Keep.trans ?_ (State.planFailed_keep ..) rfl
    refine Keep.trans ?_ (State.swapConfirm_keep ..) rfl; refine Keep.trans ?_ (State.setPeer_keep ..) rfl
    exact Keep.refl _; refine Keep.trans ?_ (State.raise_keep ..) rfl; refine Keep.trans ?_ (State.planFailed_keep ..) rfl
    refine Keep.trans ?_ (State.swapConfirm_keep ..) rfl; refine Keep.trans ?_ (State.setPeer_keep ..) rfl
    exact Keep.refl _; refine keep_ite ?_ ?_; refine keep_ite ?_ ?_; refine Keep.trans ?_ (State.setClaim_keep ..) rfl
    refine Keep.trans ?_ (State.planFailed_keep ..) rfl; refine Keep.trans ?_ (State.swapConfirm_keep ..) rfl
    refine Keep.trans ?_ (State.setPeer_keep ..) rfl; exact Keep.refl _
    refine Keep.trans ?_ (State.requestResync_keep ..) rfl; refine keep_mk_twp ?_ rfl
    refine Keep.trans ?_ (State.setClaim_keep ..) rfl; refine Keep.trans ?_ (State.planFailed_keep ..) rfl
    refine Keep.trans ?_ (State.swapConfirm_keep ..) rfl; refine Keep.trans ?_ (State.setPeer_keep ..) rfl
    exact Keep.refl _; refine keep_ite ?_ ?_; refine Keep.trans ?_ (State.takeover_keep ..) rfl
    refine Keep.trans ?_ (State.planFailed_keep ..) rfl; refine Keep.trans ?_ (State.swapConfirm_keep ..) rfl
    refine Keep.trans ?_ (State.setPeer_keep ..) rfl; exact Keep.refl _
    refine Keep.trans ?_ (State.planFailed_keep ..) rfl; refine Keep.trans ?_ (State.swapConfirm_keep ..) rfl
    refine Keep.trans ?_ (State.setPeer_keep ..) rfl; exact Keep.refl _

theorem State.delivers_keep (s : State) (p n m : Nat) : Keep 0x4000001 s (State.delivers s p n m) := by
  unfold State.delivers
  with_reducible
    dsimp only; split; exact Keep.refl _; refine keep_ite ?_ ?_; refine Keep.trans ?_ (State.set_keep ..) rfl
    refine Keep.trans ?_ (State.setBit_keep ..) rfl; refine Keep.trans ?_ (State.setBit_keep ..) rfl
    refine keep_mk_twp ?_ rfl; exact Keep.refl _; refine keep_ite ?_ ?_; refine Keep.trans ?_ (State.set_keep ..) rfl
    refine Keep.trans ?_ (State.setBit_keep ..) rfl; refine Keep.trans ?_ (State.setBit_keep ..) rfl
    refine keep_mk_twp ?_ rfl; exact Keep.refl _; exact Keep.refl _

theorem State.seqTaken_keep (s : State) (key : Nat) (seq : Word) (extra : Nat) : Keep 0x4000000 s (State.seqTaken s key seq extra) := by
  unfold State.seqTaken
  with_reducible (dsimp only; refine keep_mk_twp ?_ rfl; exact Keep.refl _)

theorem State.gapsLost_keep (s : State) : Keep 0x4000002 s (State.gapsLost s) := by
  unfold State.gapsLost
  with_reducible (dsimp only; refine Keep.trans ?_ (State.bumpBy_keep ..) rfl; refine keep_mk_twp ?_ rfl; exact Keep.refl _)

theorem State.snapMiss_keep (s : State) (cycle : Word) : Keep 0x4000000 s (State.snapMiss s cycle) := by
  unfold State.snapMiss
  with_reducible (split; refine keep_mk_twp ?_ rfl; exact Keep.refl _; refine keep_mk_twp ?_ rfl; exact Keep.refl _; exact Keep.refl _)

theorem State.twTake_keep (s : State) (stream : Nat) (h : TwHead) (extra : Nat) : KeepO 0x60561951ab s (State.twTake s stream h extra) := by
  unfold State.twTake
  with_reducible
    dsimp only; refine keepO_ite ?_ ?_; exact keepO_none _; split; exact keepO_none _; refine keepO_some ?_
    refine Keep.trans ?_ (State.hearClaim_keep ..) rfl; refine keep_ite ?_ ?_
    refine Keep.trans ?_ (State.seqTaken_keep ..) rfl; refine Keep.trans ?_ (State.gapsLost_keep ..) rfl
    exact Keep.refl _; split; refine keep_mk_twp ?_ rfl; refine Keep.trans ?_ (State.seqTaken_keep ..) rfl
    refine Keep.trans ?_ (State.gapsLost_keep ..) rfl; exact Keep.refl _; refine keep_ite ?_ ?_
    refine Keep.trans ?_ (State.noteGap_keep ..) rfl; refine Keep.trans ?_ (State.seqTaken_keep ..) rfl
    refine Keep.trans ?_ (State.gapsLost_keep ..) rfl; exact Keep.refl _
    refine Keep.trans ?_ (State.seqTaken_keep ..) rfl; refine Keep.trans ?_ (State.gapsLost_keep ..) rfl
    exact Keep.refl _; refine Keep.trans ?_ (State.snapMiss_keep ..) rfl
    refine Keep.trans ?_ (State.seqTaken_keep ..) rfl; refine Keep.trans ?_ (State.gapsLost_keep ..) rfl
    exact Keep.refl _; refine Keep.trans ?_ (State.seqTaken_keep ..) rfl
    refine Keep.trans ?_ (State.gapsLost_keep ..) rfl; exact Keep.refl _

theorem State.twGet_keepF {m : Nat} {s0 s : State} {stream extra : Nat} {x : TwHead} {f : State → State} (h : Keep m s0 s) (hf : ∀ s, Keep m s (f s))
    (hm : Incl 0x60561951ab m) : Keep m s0 (s.twGet stream x f extra) := by
  unfold State.twGet
  split
  · exact (keep_opt (by assumption) (keepO_trans h (State.twTake_keep _ _ _ _) (Incl.trans rfl hm))).trans' (hf _)
  · exact h

theorem State.badFrame_keep (s : State) : Keep 0x2 s (State.badFrame s) := by
  unfold State.badFrame
  with_reducible (refine keep_ite ?_ ?_; refine Keep.trans ?_ (State.bump_keep ..) rfl; exact Keep.refl _; exact Keep.refl _)

theorem State.oddRecord_keep (s : State) (stream : Nat) (h : TwHead) : Keep 0x60561951ab s (State.oddRecord s stream h) := by
  unfold State.oddRecord
  with_reducible
    refine State.twGet_keepF ?_ ?_ rfl; exact Keep.refl _; intro _; refine Keep.trans ?_ (State.bump_keep ..) rfl
    exact Keep.refl _

theorem State.hbPut_keep (s : State) (x : Nat × List Word) : Keep 0x800 s (State.hbPut s x) := by
  unfold State.hbPut
  with_reducible (dsimp only; refine keep_ite ?_ ?_; refine Keep.trans ?_ (State.setMac_keep ..) rfl; exact Keep.refl _; exact Keep.refl _)

theorem State.ctrlResend_keep (s : State) : Keep 0x4004000800 s (State.ctrlResend s) := by
  unfold State.ctrlResend
  with_reducible
    split; exact Keep.refl _; refine keep_ite ?_ ?_; exact Keep.refl _; dsimp only; refine keep_ite ?_ ?_
    refine Keep.trans ?_ (State.hbPut_keep ..) rfl; refine keep_mk_twp ?_ rfl; exact Keep.refl _; refine keep_ite ?_ ?_
    refine Keep.trans ?_ (State.emit_keep ..) rfl; refine keep_mk_twp ?_ rfl; exact Keep.refl _; refine keep_mk_twp ?_ rfl
    exact Keep.refl _

theorem State.claimSend_keep (s : State) : Keep 0x4000000000 s (State.claimSend s) := by
  unfold State.claimSend
  with_reducible (refine keep_ite ?_ ?_; refine Keep.trans ?_ (State.emit_keep ..) rfl; exact Keep.refl _; exact Keep.refl _)

theorem State.claimReceive_keep (s : State) (w : BitVec 48) : Keep 0x60561951ab s (State.claimReceive s w) := by
  unfold State.claimReceive
  with_reducible
    dsimp only; refine keep_ite ?_ ?_; exact Keep.refl _; refine keep_ite ?_ ?_
    refine Keep.trans ?_ (State.bump_keep ..) rfl; exact Keep.refl _; refine keep_ite ?_ ?_
    refine Keep.trans ?_ (State.hearClaim_keep ..) rfl; refine Keep.trans ?_ (State.delivers_keep ..) rfl
    exact Keep.refl _; exact Keep.refl _

theorem State.peerTimes_keep (s : State) (t1 t2 t3 : Word) : Keep 0x180001 s (State.peerTimes s t1 t2 t3) := by
  unfold State.peerTimes
  with_reducible
    refine keep_ite ?_ ?_; exact Keep.refl _; dsimp only; refine keep_ite ?_ ?_
    refine Keep.trans ?_ (State.raise_keep ..) rfl; refine Keep.trans ?_ (State.wr_keep ..) rfl
    refine Keep.trans ?_ (State.wr_keep ..) rfl; exact Keep.refl _; refine Keep.trans ?_ (State.wr_keep ..) rfl
    refine Keep.trans ?_ (State.wr_keep ..) rfl; exact Keep.refl _

theorem State.peerCheck_keep (s : State) (ws : List Word) : Keep 0x2042180023 s (State.peerCheck s ws) := by
  unfold State.peerCheck
  with_reducible
    dsimp only; refine keep_ite ?_ ?_; refine Keep.trans ?_ (State.isolateClaim_keep ..) rfl
    refine Keep.trans ?_ (State.raise_keep ..) rfl; refine keep_ite ?_ ?_; refine Keep.trans ?_ (State.setBit_keep ..) rfl
    exact Keep.refl _; refine keep_ite ?_ ?_; refine Keep.trans ?_ (State.isolateClaim_keep ..) rfl
    refine Keep.trans ?_ (State.raise_keep ..) rfl; refine Keep.trans ?_ (State.setBit_keep ..) rfl; exact Keep.refl _
    refine Keep.trans ?_ (State.raise_keep ..) rfl; refine Keep.trans ?_ (State.setBit_keep ..) rfl; exact Keep.refl _
    refine keep_ite ?_ ?_; refine Keep.trans ?_ (State.setBit_keep ..) rfl; exact Keep.refl _; refine keep_ite ?_ ?_
    refine Keep.trans ?_ (State.isolateClaim_keep ..) rfl; refine Keep.trans ?_ (State.raise_keep ..) rfl
    refine Keep.trans ?_ (State.setBit_keep ..) rfl; exact Keep.refl _; refine Keep.trans ?_ (State.raise_keep ..) rfl
    refine Keep.trans ?_ (State.setBit_keep ..) rfl; exact Keep.refl _

theorem State.heartbeatReceive_keep (s : State) (h : TwHead) (ws : List Word) : Keep 0x60561951ab s (State.heartbeatReceive s h ws) := by
  unfold State.heartbeatReceive
  with_reducible
    refine State.twGet_keepF ?_ ?_ rfl; exact Keep.refl _; intro _; dsimp only
    refine Keep.trans ?_ (State.peerCheck_keep ..) rfl; refine keep_mk_twp ?_ rfl
    refine Keep.trans ?_ (State.peerTimes_keep ..) rfl; refine Keep.trans ?_ (State.hearClaim_keep ..) rfl
    refine Keep.trans ?_ (State.delivers_keep ..) rfl; exact Keep.refl _

theorem State.peerLost_keep (s : State) : Keep 0x60561951ab s (State.peerLost s) := by
  unfold State.peerLost
  with_reducible
    dsimp only; refine keep_ite ?_ ?_; refine Keep.trans ?_ (State.takeover_keep ..) rfl
    refine Keep.trans ?_ (State.raise_keep ..) rfl; refine keep_mk_twp ?_ rfl
    refine Keep.trans ?_ (State.setPeer_keep ..) rfl; refine Keep.trans ?_ (State.setBit_keep ..) rfl; exact Keep.refl _
    refine Keep.trans ?_ (State.raise_keep ..) rfl; refine keep_mk_twp ?_ rfl
    refine Keep.trans ?_ (State.setPeer_keep ..) rfl; refine Keep.trans ?_ (State.setBit_keep ..) rfl; exact Keep.refl _

theorem State.hbDeadline_keep (s : State) : Keep 0x60561951ab s (State.hbDeadline s) := by
  unfold State.hbDeadline
  with_reducible
    refine keep_ite ?_ ?_; exact Keep.refl _; dsimp only; refine keep_ite ?_ ?_; refine keep_each ?_ ?_
    refine keep_mk_twp ?_ rfl; exact Keep.refl _; intro _; intro _; refine Keep.trans ?_ (State.raise_keep ..) rfl
    refine Keep.trans ?_ (State.setBit_keep ..) rfl; exact Keep.refl _; refine keep_ite ?_ ?_
    refine Keep.trans ?_ (State.peerLost_keep ..) rfl; refine Keep.trans ?_ (State.raise_keep ..) rfl
    refine Keep.trans ?_ (State.bump_keep ..) rfl; refine Keep.trans ?_ (State.set_keep ..) rfl; refine keep_each ?_ ?_
    refine keep_mk_twp ?_ rfl; exact Keep.refl _; intro _; intro _; refine Keep.trans ?_ (State.raise_keep ..) rfl
    refine Keep.trans ?_ (State.setBit_keep ..) rfl; exact Keep.refl _; refine Keep.trans ?_ (State.raise_keep ..) rfl
    refine Keep.trans ?_ (State.bump_keep ..) rfl; refine Keep.trans ?_ (State.set_keep ..) rfl; refine keep_each ?_ ?_
    refine keep_mk_twp ?_ rfl; exact Keep.refl _; intro _; intro _; refine Keep.trans ?_ (State.raise_keep ..) rfl
    refine Keep.trans ?_ (State.setBit_keep ..) rfl; exact Keep.refl _

theorem State.promote_keep (s : State) (t : Nat) : Keep 0x2042180023 s (State.promote s t) := by
  unfold State.promote
  with_reducible
    dsimp only; refine keep_ite ?_ ?_; exact Keep.refl _; refine keep_ite ?_ ?_
    refine Keep.trans ?_ (State.setClaim_keep ..) rfl; exact Keep.refl _; refine keep_ite ?_ ?_
    refine Keep.trans ?_ (State.setClaim_keep ..) rfl; exact Keep.refl _; exact Keep.refl _

theorem State.sendSnapshot_keep (s : State) (n : Nat) : Keep 0x4004000000 s (State.sendSnapshot s n) := by
  unfold State.sendSnapshot
  with_reducible
    dsimp only; refine keep_mk_twp ?_ rfl; refine keep_each ?_ ?_; exact Keep.refl _; intro _; intro _
    refine Keep.trans ?_ (State.twSend_keep ..) rfl; exact Keep.refl _

theorem State.digestFail_keep (s : State) (n : Nat) (bad : BitVec 8) : Keep 0x4004180003 s (State.digestFail s n bad) := by
  unfold State.digestFail
  with_reducible
    refine keep_ite ?_ ?_; exact Keep.refl _; dsimp only; refine Keep.trans ?_ (State.requestResync_keep ..) rfl
    refine keep_ite ?_ ?_; refine Keep.trans ?_ (State.raise_keep ..) rfl; refine Keep.trans ?_ (State.setBit_keep ..) rfl
    refine keep_mk_twp ?_ rfl; refine Keep.trans ?_ (State.raise_keep ..) rfl
    refine Keep.trans ?_ (State.bump_keep ..) rfl; refine keep_ite ?_ ?_; exact Keep.refl _
    refine Keep.trans ?_ (State.wr_keep ..) rfl; exact Keep.refl _; refine keep_mk_twp ?_ rfl
    refine Keep.trans ?_ (State.raise_keep ..) rfl; refine Keep.trans ?_ (State.bump_keep ..) rfl; refine keep_ite ?_ ?_
    exact Keep.refl _; refine Keep.trans ?_ (State.wr_keep ..) rfl; exact Keep.refl _

theorem State.mergeRecovery_keep (s : State) (i : Nat) (ws : List Word) : Keep 0x8 s (State.mergeRecovery s i ws) := by
  unfold State.mergeRecovery
  with_reducible
    dsimp only; refine keep_ite ?_ ?_; refine Keep.trans ?_ (State.setEntry_keep ..) rfl; exact Keep.refl _
    refine keep_ite ?_ ?_; exact Keep.refl _; refine Keep.trans ?_ (State.setHistory_keep ..) rfl
    refine Keep.trans ?_ (State.setRecov_keep ..) rfl; exact Keep.refl _

theorem State.mergeMeter_keep (s : State) (m : Nat) (a c : List Word) : Keep 0x8 s (State.mergeMeter s m a c) := by
  unfold State.mergeMeter
  with_reducible
    dsimp only; refine Keep.trans ?_ (State.setTe_keep ..) rfl; refine Keep.trans ?_ (State.setTc_keep ..) rfl
    exact Keep.refl _

theorem State.replaceFifo_keep (s : State) (at_ idx : Nat) (ws : List Word) : Keep 0x2000000 s (State.replaceFifo s at_ idx ws) := by
  unfold State.replaceFifo
  with_reducible (dsimp only; refine Keep.trans ?_ (State.setCan_keep ..) rfl; exact Keep.refl _)

theorem State.mergeObj_keep (s : State) (at_ : Nat) (o c : Obj) (whole : Bool) : Keep 0x12180009 s (State.mergeObj s at_ o c whole) := by
  unfold State.mergeObj
  with_reducible
    split; refine keep_ite ?_ ?_; refine Keep.trans ?_ (State.setEntry_keep ..) rfl; exact Keep.refl _
    refine Keep.trans ?_ (State.mergeRecovery_keep ..) rfl; exact Keep.refl _; refine keep_ite ?_ ?_
    refine Keep.trans ?_ (State.setEntry_keep ..) rfl; exact Keep.refl _
    refine Keep.trans ?_ (State.mergeMeter_keep ..) rfl; exact Keep.refl _; dsimp only
    refine Keep.trans ?_ (State.setStrW_keep ..) rfl; exact Keep.refl _
    refine Keep.trans ?_ (State.replaceFifo_keep ..) rfl; exact Keep.refl _
    refine Keep.trans ?_ (State.setFreshness_keep ..) rfl; exact Keep.refl _
    refine Keep.trans ?_ (State.pnMoved_keep ..) rfl; refine Keep.trans ?_ (State.setNextPn_keep ..) rfl
    exact Keep.refl _; exact Keep.refl _

theorem State.objTake_keep (s : State) (last : Bool) (sec : Nat) (ws : List Word) : Keep 0x16191009 s (State.objTake s last sec ws) := by
  unfold State.objTake
  with_reducible
    dsimp only; refine keep_ite ?_ ?_; refine keep_ite ?_ ?_; refine keep_ite ?_ ?_; exact Keep.refl _
    refine keep_mk_twp ?_ rfl; exact Keep.refl _; split; refine Keep.trans ?_ (State.linkCancel_keep ..) rfl; split
    refine Keep.trans ?_ (State.linkCancel_keep ..) rfl; refine keep_ite ?_ ?_; exact Keep.refl _
    refine keep_mk_twp ?_ rfl; exact Keep.refl _; refine keep_ite ?_ ?_; exact Keep.refl _; refine keep_mk_twp ?_ rfl
    exact Keep.refl _; split; refine Keep.trans ?_ (State.linkCancel_keep ..) rfl; refine keep_ite ?_ ?_
    exact Keep.refl _; refine keep_mk_twp ?_ rfl; exact Keep.refl _; refine keep_ite ?_ ?_; exact Keep.refl _
    refine keep_mk_twp ?_ rfl; exact Keep.refl _; split; refine keep_ite ?_ ?_; exact Keep.refl _
    refine keep_mk_twp ?_ rfl; exact Keep.refl _; refine keep_ite ?_ ?_; refine Keep.trans ?_ (State.mergeObj_keep ..) rfl
    refine keep_ite ?_ ?_; exact Keep.refl _; refine keep_mk_twp ?_ rfl; exact Keep.refl _; refine keep_ite ?_ ?_
    refine keep_mk_twp ?_ rfl; refine Keep.trans ?_ (State.mergeObj_keep ..) rfl; refine keep_ite ?_ ?_; exact Keep.refl _
    refine keep_mk_twp ?_ rfl; exact Keep.refl _; refine keep_mk_twp ?_ rfl
    refine Keep.trans ?_ (State.mergeObj_keep ..) rfl; refine keep_ite ?_ ?_; exact Keep.refl _; refine keep_mk_twp ?_ rfl
    exact Keep.refl _

theorem State.aheadPut_keep (s : State) (sec : Nat) (ws : List Word) : Keep 0x4000000 s (State.aheadPut s sec ws) := by
  unfold State.aheadPut
  with_reducible (refine keep_mk_twp ?_ rfl; exact Keep.refl _)

theorem State.objReceive_keep (s : State) (h : TwHead) (sec : Nat) (ws : List Word) : Keep 0x60561951ab s (State.objReceive s h sec ws) := by
  unfold State.objReceive
  with_reducible
    refine State.twGet_keepF ?_ ?_ rfl; exact Keep.refl _; intro _; refine keep_ite ?_ ?_; exact Keep.refl _; split
    refine Keep.trans ?_ (State.objTake_keep ..) rfl; exact Keep.refl _; refine Keep.trans ?_ (State.objTake_keep ..) rfl
    exact Keep.refl _; refine Keep.trans ?_ (State.aheadPut_keep ..) rfl; exact Keep.refl _; exact Keep.refl _

theorem State.timeReceive_keep (s : State) (h : TwHead) (ws : List Word) : Keep 0x60561951ab s (State.timeReceive s h ws) := by
  unfold State.timeReceive
  with_reducible
    refine State.twGet_keepF ?_ ?_ rfl; exact Keep.refl _; intro _; refine keep_each ?_ ?_; exact Keep.refl _; intro _
    intro _; refine Keep.trans ?_ (State.wr_keep ..) rfl; exact Keep.refl _

theorem State.heldDecide_keep (s : State) (d3 : Word) : Keep 0x419110b s (State.heldDecide s d3) := by
  unfold State.heldDecide
  with_reducible
    split; exact Keep.refl _; refine keep_ite ?_ ?_; exact Keep.refl _; dsimp only; refine keep_ite ?_ ?_
    refine keep_mk_twp ?_ rfl; refine Keep.trans ?_ (State.linkFire_keep ..) rfl; exact Keep.refl _
    refine Keep.trans ?_ (State.linkCancel_keep ..) rfl; exact Keep.refl _

theorem State.digestTake_keep (s : State) (ws : List Word) : Keep 0x400419110b s (State.digestTake s ws) := by
  unfold State.digestTake
  with_reducible
    refine keep_ite ?_ ?_; exact Keep.refl _; dsimp only; refine Keep.trans ?_ (State.digestFail_keep ..) rfl
    refine keep_ite ?_ ?_; refine Keep.trans ?_ (State.raise_keep ..) rfl; refine Keep.trans ?_ (State.bump_keep ..) rfl
    refine keep_ite ?_ ?_; refine keep_mk_twp ?_ rfl; refine Keep.trans ?_ (State.heldDecide_keep ..) rfl
    exact Keep.refl _; refine Keep.trans ?_ (State.setBit_keep ..) rfl; refine keep_mk_twp ?_ rfl
    refine Keep.trans ?_ (State.heldDecide_keep ..) rfl; exact Keep.refl _; refine keep_ite ?_ ?_
    refine keep_mk_twp ?_ rfl; refine Keep.trans ?_ (State.heldDecide_keep ..) rfl; exact Keep.refl _
    refine Keep.trans ?_ (State.setBit_keep ..) rfl; refine keep_mk_twp ?_ rfl
    refine Keep.trans ?_ (State.heldDecide_keep ..) rfl; exact Keep.refl _

theorem State.digestReceive_keep (s : State) (h : TwHead) (ws : List Word) : Keep 0x60561951ab s (State.digestReceive s h ws) := by
  unfold State.digestReceive
  with_reducible
    refine State.twGet_keepF ?_ ?_ rfl; exact Keep.refl _; intro _; refine keep_ite ?_ ?_; exact Keep.refl _; split
    refine Keep.trans ?_ (State.digestTake_keep ..) rfl; exact Keep.refl _
    refine Keep.trans ?_ (State.aheadPut_keep ..) rfl; exact Keep.refl _; exact Keep.refl _

theorem State.pairCycle_keep (s : State) (n : Nat) : Keep 0x605619192b s (State.pairCycle s n) := by
  unfold State.pairCycle
  with_reducible
    refine keep_ite ?_ ?_; exact Keep.refl _; dsimp only; refine keep_ite ?_ ?_
    refine Keep.trans ?_ (State.sendSnapshot_keep ..) rfl; refine keep_each ?_ ?_; refine keep_mk_twp ?_ rfl
    refine Keep.trans ?_ (State.hbPut_keep ..) rfl; refine Keep.trans ?_ (State.sendCtrl_keep ..) rfl
    refine keep_mk_twp ?_ rfl; refine Keep.trans ?_ (State.promote_keep ..) rfl; refine keep_ite ?_ ?_
    refine Keep.trans ?_ (State.raise_keep ..) rfl; refine keep_mk_twp ?_ rfl; split; refine keep_ite ?_ ?_
    refine Keep.trans ?_ (State.digestFail_keep ..) rfl; exact Keep.refl _; exact Keep.refl _; exact Keep.refl _; split
    refine keep_ite ?_ ?_; refine Keep.trans ?_ (State.digestFail_keep ..) rfl; exact Keep.refl _; exact Keep.refl _
    exact Keep.refl _; intro _; intro _; refine keep_ite ?_ ?_; exact Keep.refl _
    refine Keep.trans ?_ (State.setCan_keep ..) rfl; exact Keep.refl _; refine keep_each ?_ ?_; refine keep_each ?_ ?_
    refine keep_mk_twp ?_ rfl; refine Keep.trans ?_ (State.hbPut_keep ..) rfl
    refine Keep.trans ?_ (State.sendCtrl_keep ..) rfl; refine keep_mk_twp ?_ rfl
    refine Keep.trans ?_ (State.promote_keep ..) rfl; refine keep_ite ?_ ?_
    refine Keep.trans ?_ (State.raise_keep ..) rfl; refine keep_mk_twp ?_ rfl; split; refine keep_ite ?_ ?_
    refine Keep.trans ?_ (State.digestFail_keep ..) rfl; exact Keep.refl _; exact Keep.refl _; exact Keep.refl _; split
    refine keep_ite ?_ ?_; refine Keep.trans ?_ (State.digestFail_keep ..) rfl; exact Keep.refl _; exact Keep.refl _
    exact Keep.refl _; intro _; intro _; refine keep_ite ?_ ?_; exact Keep.refl _
    refine Keep.trans ?_ (State.setCan_keep ..) rfl; exact Keep.refl _; intro _; intro _; refine keep_ite ?_ ?_
    refine Keep.trans ?_ (State.digestTake_keep ..) rfl; exact Keep.refl _
    refine Keep.trans ?_ (State.objTake_keep ..) rfl; exact Keep.refl _

theorem State.pairEnd_keep (s : State) : Keep 0x605619192b s (State.pairEnd s) := by
  unfold State.pairEnd
  with_reducible (refine keep_ite ?_ ?_; exact Keep.refl _; refine Keep.trans ?_ (State.pairCycle_keep ..) rfl; exact Keep.refl _)

theorem State.resyncReceive_keep (s : State) (h : TwHead) (mask : Word) : Keep 0x60561951ab s (State.resyncReceive s h mask) := by
  unfold State.resyncReceive
  with_reducible
    refine State.twGet_keepF ?_ ?_ rfl; exact Keep.refl _; intro _; refine keep_ite ?_ ?_; refine keep_mk_twp ?_ rfl
    exact Keep.refl _; exact Keep.refl _

theorem State.endTaken_keep (s : State) (p : Nat) : Keep 0x4004185183 s (State.endTaken s p) := by
  unfold State.endTaken
  with_reducible
    split; refine keep_ite ?_ ?_; refine Keep.trans ?_ (State.unpark_keep ..) rfl; refine keep_mk_twp ?_ rfl
    exact Keep.refl _; exact Keep.refl _; refine keep_mk_twp ?_ rfl; exact Keep.refl _; exact Keep.refl _

theorem State.noteTake_keep (s : State) (w0 w1 : Word) : Keep 0x4005185183 s (State.noteTake s w0 w1) := by
  unfold State.noteTake
  with_reducible
    dsimp only; refine keep_ite ?_ ?_; refine Keep.trans ?_ (State.endTaken_keep ..) rfl; exact Keep.refl _; split
    refine Keep.trans ?_ (State.noteMatch_keep ..) rfl; exact Keep.refl _; refine keep_ite ?_ ?_
    refine Keep.trans ?_ (State.noteGap_keep ..) rfl; exact Keep.refl _; refine keep_mk_notes ?_ rfl; exact Keep.refl _

theorem State.noteReceive_keep (s : State) (h : TwHead) (w0 w1 : Word) : Keep 0x60571951ab s (State.noteReceive s h w0 w1) := by
  unfold State.noteReceive
  with_reducible
    refine State.twGet_keepF ?_ ?_ rfl; exact Keep.refl _; intro _; refine keep_ite ?_ ?_
    refine Keep.trans ?_ (State.noteTake_keep ..) rfl; exact Keep.refl _; exact Keep.refl _

theorem State.noteExpire_keep (s : State) : Keep 0x1000002 s (State.noteExpire s) := by
  unfold State.noteExpire
  with_reducible (dsimp only; refine Keep.trans ?_ (State.bumpBy_keep ..) rfl; refine keep_mk_notes ?_ rfl; exact Keep.refl _)

theorem State.swapRefuse_keep (s : State) (cause : Nat) : Keep 0x180001 s (State.swapRefuse s cause) := by
  unfold State.swapRefuse
  with_reducible (refine Keep.trans ?_ (State.raise_keep ..) rfl; refine Keep.trans ?_ (State.set_keep ..) rfl; exact Keep.refl _)

theorem State.swapArm_keep (s : State) : Keep 0x4004180003 s (State.swapArm s) := by
  unfold State.swapArm
  with_reducible
    dsimp only; refine keep_ite ?_ ?_; refine Keep.trans ?_ (State.swapRefuse_keep ..) rfl; exact Keep.refl _
    refine keep_ite ?_ ?_; refine Keep.trans ?_ (State.swapRefuse_keep ..) rfl; exact Keep.refl _; refine keep_ite ?_ ?_
    refine Keep.trans ?_ (State.yieldRank_keep ..) rfl; refine Keep.trans ?_ (State.swapRefuse_keep ..) rfl
    exact Keep.refl _; refine keep_ite ?_ ?_; refine Keep.trans ?_ (State.swapRefuse_keep ..) rfl; exact Keep.refl _
    refine keep_ite ?_ ?_; refine Keep.trans ?_ (State.swapRefuse_keep ..) rfl; exact Keep.refl _
    refine Keep.trans ?_ (State.sendCtrl_keep ..) rfl; refine Keep.trans ?_ (State.set_keep ..) rfl
    refine Keep.trans ?_ (State.setBit_keep ..) rfl; refine keep_mk_twp ?_ rfl; exact Keep.refl _

theorem State.swapDisarm_keep (s : State) (w : Swap) (cause : Nat) : Keep 0x4004180001 s (State.swapDisarm s w cause) := by
  unfold State.swapDisarm
  with_reducible
    dsimp only; refine Keep.trans ?_ (State.swapRefuse_keep ..) rfl; refine Keep.trans ?_ (State.sendCtrl_keep ..) rfl
    refine Keep.trans ?_ (State.setBit_keep ..) rfl; refine keep_mk_twp ?_ rfl; exact Keep.refl _

theorem State.swapCancel_keep (s : State) : Keep 0x4004180001 s (State.swapCancel s) := by
  unfold State.swapCancel
  with_reducible
    split; refine keep_ite ?_ ?_; refine Keep.trans ?_ (State.swapDisarm_keep ..) rfl; exact Keep.refl _
    exact Keep.refl _; exact Keep.refl _

theorem State.propose_keep (s : State) (h : TwHead) (ws : List Word) : Keep 0x60561951ab s (State.propose s h ws) := by
  unfold State.propose
  with_reducible
    refine State.twGet_keepF ?_ ?_ rfl; exact Keep.refl _; intro _; dsimp only; refine keep_ite ?_ ?_
    refine Keep.trans ?_ (State.sendCtrl_keep ..) rfl; exact Keep.refl _; refine keep_ite ?_ ?_
    refine Keep.trans ?_ (State.sendCtrl_keep ..) rfl; exact Keep.refl _; refine keep_ite ?_ ?_
    refine Keep.trans ?_ (State.sendCtrl_keep ..) rfl; exact Keep.refl _
    refine Keep.trans ?_ (State.sendCtrl_keep ..) rfl; refine keep_mk_twp ?_ rfl; exact Keep.refl _

theorem State.swapAck_keep (s : State) (h : TwHead) (ws : List Word) : Keep 0x60561951ab s (State.swapAck s h ws) := by
  unfold State.swapAck
  with_reducible
    refine State.twGet_keepF ?_ ?_ rfl; exact Keep.refl _; intro _; split; refine keep_ite ?_ ?_; exact Keep.refl _
    refine Keep.trans ?_ (State.sendCtrl_keep ..) rfl; refine keep_mk_twp ?_ rfl; exact Keep.refl _; exact Keep.refl _

theorem State.swapNak_keep (s : State) (h : TwHead) (ws : List Word) : Keep 0x60561951ab s (State.swapNak s h ws) := by
  unfold State.swapNak
  with_reducible
    refine State.twGet_keepF ?_ ?_ rfl; exact Keep.refl _; intro _; split; refine keep_mk_twp ?_ rfl; exact Keep.refl _
    exact Keep.refl _

theorem State.swapCommitted_keep (s : State) (h : TwHead) (ws : List Word) : Keep 0x60561951ab s (State.swapCommitted s h ws) := by
  unfold State.swapCommitted
  with_reducible
    refine State.twGet_keepF ?_ ?_ rfl; exact Keep.refl _; intro _; split; refine keep_ite ?_ ?_; exact Keep.refl _
    refine Keep.trans ?_ (State.set_keep ..) rfl; refine Keep.trans ?_ (State.setBit_keep ..) rfl
    refine keep_mk_twp ?_ rfl; exact Keep.refl _; exact Keep.refl _

theorem State.swapCancelled_keep (s : State) (h : TwHead) (ws : List Word) : Keep 0x60561951ab s (State.swapCancelled s h ws) := by
  unfold State.swapCancelled
  with_reducible
    refine State.twGet_keepF ?_ ?_ rfl; exact Keep.refl _; intro _; split; refine Keep.trans ?_ (State.setBit_keep ..) rfl
    refine keep_mk_twp ?_ rfl; exact Keep.refl _; exact Keep.refl _

theorem State.swapDeadline_keep (s : State) : Keep 0x4004180003 s (State.swapDeadline s) := by
  unfold State.swapDeadline
  with_reducible
    split; refine keep_ite ?_ ?_; exact Keep.refl _; dsimp only; refine keep_ite ?_ ?_
    refine Keep.trans ?_ (State.yieldRank_keep ..) rfl; refine Keep.trans ?_ (State.swapDisarm_keep ..) rfl
    exact Keep.refl _; refine Keep.trans ?_ (State.swapDisarm_keep ..) rfl; exact Keep.refl _; exact Keep.refl _

theorem State.sendEnd_keep (s : State) (p : Nat) : Keep 0x4004000000 s (State.sendEnd s p) := by
  unfold State.sendEnd
  with_reducible
    split; refine keep_ite ?_ ?_; exact Keep.refl _; dsimp only; refine keep_mk_twp ?_ rfl
    refine Keep.trans ?_ (State.twSend_keep ..) rfl; exact Keep.refl _; exact Keep.refl _

theorem State.handOver_keep (s : State) : Keep 0x4004185983 s (State.handOver s) := by
  unfold State.handOver
  with_reducible
    dsimp only; refine keep_each ?_ ?_; refine keep_each ?_ ?_; exact Keep.refl _; intro _; intro _
    refine Keep.trans ?_ (State.copyLeaves_keep ..) rfl; refine Keep.trans ?_ (State.setMac_keep ..) rfl
    exact Keep.refl _; intro _; intro _; refine Keep.trans ?_ (State.sendEnd_keep ..) rfl; exact Keep.refl _

theorem State.swapExecute_keep (s : State) : Keep 0x60461859a3 s (State.swapExecute s) := by
  unfold State.swapExecute
  with_reducible
    split; exact Keep.refl _; refine keep_ite ?_ ?_; exact Keep.refl _; dsimp only; refine keep_ite ?_ ?_
    refine Keep.trans ?_ (State.setBit_keep ..) rfl; refine keep_mk_twp ?_ rfl; exact Keep.refl _; refine keep_ite ?_ ?_
    refine Keep.trans ?_ (State.handOver_keep ..) rfl; refine Keep.trans ?_ (State.setPeer_keep ..) rfl
    refine Keep.trans ?_ (State.setClaim_keep ..) rfl; refine keep_mk_twp ?_ rfl
    refine Keep.trans ?_ (State.setBit_keep ..) rfl; refine keep_mk_twp ?_ rfl; exact Keep.refl _
    refine Keep.trans ?_ (State.unpark_keep ..) rfl; refine Keep.trans ?_ (State.setPeer_keep ..) rfl
    refine Keep.trans ?_ (State.setClaim_keep ..) rfl; refine keep_mk_twp ?_ rfl
    refine Keep.trans ?_ (State.setBit_keep ..) rfl; refine keep_mk_twp ?_ rfl; exact Keep.refl _

theorem State.swapFence_keep (s : State) : Keep 0x4004185183 s (State.swapFence s) := by
  unfold State.swapFence
  with_reducible
    split; exact Keep.refl _; dsimp only; refine keep_ite ?_ ?_; exact Keep.refl _
    refine Keep.trans ?_ (State.raise_keep ..) rfl; refine Keep.trans ?_ (State.fenceFlush_keep ..) rfl
    refine keep_mk_twp ?_ rfl; exact Keep.refl _

theorem State.rejoinPair_keep (s : State) : Keep 0x6046180023 s (State.rejoinPair s) := by
  unfold State.rejoinPair
  with_reducible
    refine keep_ite ?_ ?_; exact Keep.refl _; refine Keep.trans ?_ (State.requestResync_keep ..) rfl
    refine Keep.trans ?_ (State.setClaim_keep ..) rfl; exact Keep.refl _

theorem State.resyncAll_keep (s : State) : Keep 0x4004000000 s (State.resyncAll s) := by
  unfold State.resyncAll
  with_reducible (refine keep_ite ?_ ?_; refine Keep.trans ?_ (State.requestResync_keep ..) rfl; exact Keep.refl _; exact Keep.refl _)

theorem State.pcAnnounced_keep (s : State) (h : TwHead) (ws : List Word) : Keep 0x60561951ab s (State.pcAnnounced s h ws) := by
  unfold State.pcAnnounced
  with_reducible
    refine State.twGet_keepF ?_ ?_ rfl; exact Keep.refl _; intro _; dsimp only; refine keep_ite ?_ ?_
    refine Keep.trans ?_ (State.sendCtrl_keep ..) rfl; exact Keep.refl _; exact Keep.refl _

theorem State.pcReady_keep (s : State) (h : TwHead) (ws : List Word) : Keep 0x60561951ab s (State.pcReady s h ws) := by
  unfold State.pcReady
  with_reducible
    refine State.twGet_keepF ?_ ?_ rfl; exact Keep.refl _; intro _; dsimp only; refine keep_ite ?_ ?_; exact Keep.refl _
    refine Keep.trans ?_ (State.sendCtrl_keep ..) rfl; refine keep_mk_twp ?_ rfl; exact Keep.refl _

theorem State.pcNotReady_keep (s : State) (h : TwHead) (ws : List Word) : Keep 0x60561951ab s (State.pcNotReady s h ws) := by
  unfold State.pcNotReady
  with_reducible
    refine State.twGet_keepF ?_ ?_ rfl; exact Keep.refl _; intro _; refine keep_ite ?_ ?_
    refine Keep.trans ?_ (State.pcForget_keep ..) rfl; exact Keep.refl _; exact Keep.refl _

theorem State.pcGo_keep (s : State) (h : TwHead) (ws : List Word) : Keep 0x60561951ab s (State.pcGo s h ws) := by
  unfold State.pcGo
  with_reducible
    refine State.twGet_keepF ?_ ?_ rfl; exact Keep.refl _; intro _; dsimp only; refine keep_ite ?_ ?_; exact Keep.refl _
    refine keep_mk_twp ?_ rfl; exact Keep.refl _

theorem State.pcCancelled_keep (s : State) (h : TwHead) (ws : List Word) : Keep 0x60561951ab s (State.pcCancelled s h ws) := by
  unfold State.pcCancelled
  with_reducible
    refine State.twGet_keepF ?_ ?_ rfl; exact Keep.refl _; intro _; refine keep_ite ?_ ?_
    refine Keep.trans ?_ (State.linkCancel_keep ..) rfl; exact Keep.refl _; exact Keep.refl _

theorem State.pcDeadline_keep (s : State) : Keep 0x4004191003 s (State.pcDeadline s) := by
  unfold State.pcDeadline
  with_reducible
    split; exact Keep.refl _; refine keep_ite ?_ ?_; exact Keep.refl _; dsimp only
    refine Keep.trans ?_ (State.raise_keep ..) rfl; refine Keep.trans ?_ (State.bump_keep ..) rfl
    refine Keep.trans ?_ (State.sendCtrl_keep ..) rfl; split; refine Keep.trans ?_ (State.linkCancel_keep ..) rfl; split
    refine Keep.trans ?_ (State.linkCancel_keep ..) rfl; exact Keep.refl _; exact Keep.refl _; split
    refine Keep.trans ?_ (State.linkCancel_keep ..) rfl; exact Keep.refl _; exact Keep.refl _

end Sys2Proof.Machine
end

