-- ==== Sys2Proof/Laws/KeepBrg.lean ====
section
/-! SUPPORT. What the operations of Machine/Brg.lean keep. -/

set_option linter.unusedVariables false
set_option maxRecDepth 4000

namespace Sys2Proof.Machine

theorem State.setRing_keep (s : State) (rx : Bool) (r : Nat) (x : Ring) : Keep 0x100000000 s (State.setRing s rx r x) := by
  unfold State.setRing
  with_reducible (refine keep_mk_brg ?_ rfl; exact Keep.refl _)

theorem State.ringAdvance_keep (s : State) (rx : Bool) (r : Nat) : Keep 0x1 s (State.ringAdvance s rx r) := by
  unfold State.ringAdvance
  with_reducible (refine Keep.trans ?_ (State.set_keep ..) rfl; exact Keep.refl _)

theorem State.ringMark_keep (s : State) (what k : Nat) : Keep 0x80000 s (State.ringMark s what k) := by
  unfold State.ringMark
  with_reducible (refine Keep.trans ?_ (State.markSet_keep ..) rfl; exact Keep.refl _)

theorem State.ringReport_keep (s : State) (rx : Bool) (r : Nat) : Keep 0x100180001 s (State.ringReport s rx r) := by
  unfold State.ringReport
  with_reducible
    dsimp only; refine keep_ite ?_ ?_; refine Keep.trans ?_ (State.raise_keep ..) rfl
    refine Keep.trans ?_ (State.ringMark_keep ..) rfl; refine Keep.trans ?_ (State.setRing_keep ..) rfl; exact Keep.refl _
    refine Keep.trans ?_ (State.ringMark_keep ..) rfl; refine Keep.trans ?_ (State.setRing_keep ..) rfl; exact Keep.refl _

theorem State.ringStops_keep (s : State) (rx : Bool) (r : Nat) : Keep 0x1 s (State.ringStops s rx r) := by
  unfold State.ringStops
  with_reducible (refine keep_ite ?_ ?_; exact Keep.refl _; refine Keep.trans ?_ (State.setBit_keep ..) rfl; exact Keep.refl _)

theorem State.ringLevel_keep (s : State) (rx : Bool) (r : Nat) : Keep 0x180001 s (State.ringLevel s rx r) := by
  unfold State.ringLevel
  with_reducible (refine keep_ite ?_ ?_; refine Keep.trans ?_ (State.raise_keep ..) rfl; exact Keep.refl _; exact Keep.refl _)

theorem State.txBack_keep (s : State) (r status : Nat) : Keep 0x4100180003 s (State.txBack s r status) := by
  unfold State.txBack
  with_reducible
    dsimp only; refine Keep.trans ?_ (State.ringStops_keep ..) rfl; refine Keep.trans ?_ (State.ringReport_keep ..) rfl
    refine Keep.trans ?_ (State.ringAdvance_keep ..) rfl; refine Keep.trans ?_ (State.setRing_keep ..) rfl
    refine keep_ite ?_ ?_; refine Keep.trans ?_ (State.emit_keep ..) rfl; exact Keep.refl _
    refine Keep.trans ?_ (State.bump_keep ..) rfl; refine Keep.trans ?_ (State.emit_keep ..) rfl; exact Keep.refl _

theorem State.aerSet_keep (s : State) (m : Word) : Keep 0x100000000 s (State.aerSet s m) := by
  unfold State.aerSet
  with_reducible (refine keep_mk_brg ?_ rfl; exact Keep.refl _)

theorem State.hostReadBad_keep (s : State) : Keep 0x2100000000 s (State.hostReadBad s) := by
  unfold State.hostReadBad
  with_reducible
    dsimp only; refine keep_ite ?_ ?_; refine Keep.trans ?_ (State.aerSet_keep ..) rfl
    refine Keep.trans ?_ (State.draw_keep ..) rfl; exact Keep.refl _; refine Keep.trans ?_ (State.draw_keep ..) rfl
    exact Keep.refl _

theorem State.busOut_keep (s : State) (ini : Initiator) (r : BusEnd) : Keep 0x4100000000 s (State.busOut s ini r) := by
  unfold State.busOut
  with_reducible
    refine Keep.trans ?_ (State.emit_keep ..) rfl; refine keep_ite ?_ ?_; refine Keep.trans ?_ (State.aerSet_keep ..) rfl
    exact Keep.refl _; exact Keep.refl _

theorem State.tailWrite_keep (s : State) (rx : Bool) (r : Nat) (w : Word) : Keep 0x180001 s (State.tailWrite s rx r w) := by
  unfold State.tailWrite
  with_reducible (refine Keep.trans ?_ (State.plainWrite_keep ..) rfl; exact Keep.refl _)

theorem State.ringCtrl_keep (s : State) (rx : Bool) (r : Nat) (w : Word) : Keep 0x100180001 s (State.ringCtrl s rx r w) := by
  unfold State.ringCtrl
  with_reducible
    dsimp only; refine keep_ite ?_ ?_; refine keep_ite ?_ ?_; refine Keep.trans ?_ (State.setBit_keep ..) rfl
    refine Keep.trans ?_ (State.ringLevel_keep ..) rfl; refine Keep.trans ?_ (State.plainWrite_keep ..) rfl
    exact Keep.refl _; refine keep_ite ?_ ?_; refine Keep.trans ?_ (State.ringLevel_keep ..) rfl
    refine Keep.trans ?_ (State.plainWrite_keep ..) rfl; exact Keep.refl _; refine Keep.trans ?_ (State.set_keep ..) rfl
    refine Keep.trans ?_ (State.setBit_keep ..) rfl; refine Keep.trans ?_ (State.setBit_keep ..) rfl
    refine Keep.trans ?_ (State.ringLevel_keep ..) rfl; refine Keep.trans ?_ (State.plainWrite_keep ..) rfl
    exact Keep.refl _; refine keep_ite ?_ ?_; refine keep_ite ?_ ?_; refine Keep.trans ?_ (State.setRing_keep ..) rfl
    refine Keep.trans ?_ (State.ringLevel_keep ..) rfl; refine Keep.trans ?_ (State.plainWrite_keep ..) rfl
    exact Keep.refl _; refine Keep.trans ?_ (State.ringLevel_keep ..) rfl
    refine Keep.trans ?_ (State.plainWrite_keep ..) rfl; exact Keep.refl _
    refine Keep.trans ?_ (State.setBit_keep ..) rfl; refine keep_ite ?_ ?_
    refine Keep.trans ?_ (State.setRing_keep ..) rfl; refine Keep.trans ?_ (State.ringLevel_keep ..) rfl
    refine Keep.trans ?_ (State.plainWrite_keep ..) rfl; exact Keep.refl _
    refine Keep.trans ?_ (State.ringLevel_keep ..) rfl; refine Keep.trans ?_ (State.plainWrite_keep ..) rfl
    exact Keep.refl _

theorem State.txFetch_keep (s : State) (r : Nat) (desc : Option (BitVec 128)) : Keep 0x6100180283 s (State.txFetch s r desc) := by
  unfold State.txFetch
  with_reducible
    refine keep_ite ?_ ?_; exact Keep.refl _; dsimp only; split; refine Keep.trans ?_ (State.setBit_keep ..) rfl
    refine Keep.trans ?_ (State.setBit_keep ..) rfl; refine Keep.trans ?_ (State.hostReadBad_keep ..) rfl
    refine Keep.trans ?_ (State.emit_keep ..) rfl; exact Keep.refl _; refine keep_ite ?_ ?_
    refine Keep.trans ?_ (State.txBack_keep ..) rfl; refine Keep.trans ?_ (State.emit_keep ..) rfl; exact Keep.refl _
    refine keep_ite ?_ ?_; refine Keep.trans ?_ (State.txBack_keep ..) rfl; refine Keep.trans ?_ (State.emit_keep ..) rfl
    exact Keep.refl _; refine Keep.trans ?_ (State.addFrame_keep ..) rfl; refine Keep.trans ?_ (State.setRing_keep ..) rfl
    refine Keep.trans ?_ (State.emit_keep ..) rfl; exact Keep.refl _

theorem State.txFrameDone_keep (s : State) (r : Nat) (data : Option Bytes) : Keep 0x610018518b s (State.txFrameDone s r data) := by
  unfold State.txFrameDone
  with_reducible
    split; exact Keep.refl _; split; refine Keep.trans ?_ (State.txBack_keep ..) rfl; exact Keep.refl _
    refine keep_ite ?_ ?_; exact Keep.refl _; dsimp only; split; refine Keep.trans ?_ (State.txBack_keep ..) rfl
    refine Keep.trans ?_ (State.dropUnqueued_keep ..) rfl; refine Keep.trans ?_ (State.hostReadBad_keep ..) rfl
    refine Keep.trans ?_ (State.emit_keep ..) rfl; exact Keep.refl _; split
    refine Keep.trans ?_ (State.txBack_keep ..) rfl; refine Keep.trans ?_ (State.bump_keep ..) rfl
    refine Keep.trans ?_ (State.putFrame_keep ..) rfl; refine keep_snd (by assumption) ?_
    refine Keep.trans ?_ (State.secMeet_keep ..) rfl; refine Keep.trans ?_ (State.emit_keep ..) rfl; exact Keep.refl _
    refine Keep.trans ?_ (State.txBack_keep ..) rfl; refine Keep.trans ?_ (State.dropUnqueued_keep ..) rfl
    refine keep_snd (by assumption) ?_; refine Keep.trans ?_ (State.secMeet_keep ..) rfl
    refine Keep.trans ?_ (State.emit_keep ..) rfl; exact Keep.refl _

theorem State.coalExpiry_keep (s : State) (rx : Bool) (r : Nat) : Keep 0x180001 s (State.coalExpiry s rx r) := by
  unfold State.coalExpiry
  with_reducible (dsimp only; refine keep_ite ?_ ?_; exact Keep.refl _; refine Keep.trans ?_ (State.raise_keep ..) rfl; exact Keep.refl _)

theorem State.ringClear_keep (s : State) (w : Word) : Keep 0x100180001 s (State.ringClear s w) := by
  unfold State.ringClear
  with_reducible
    dsimp only; refine Keep.trans ?_ (State.afterEvent_keep ..) rfl; refine keep_each ?_ ?_; refine keep_each ?_ ?_
    refine keep_mk_brg ?_ rfl; refine Keep.trans ?_ (State.plainWrite_keep ..) rfl; exact Keep.refl _; intro _; intro _
    refine Keep.trans ?_ (State.ringMark_keep ..) rfl; exact Keep.refl _; intro _; intro _
    refine Keep.trans ?_ (State.raise_keep ..) rfl; exact Keep.refl _

theorem State.rxBegin_keep (s : State) (r fid : Nat) (desc : BitVec 128) : Keep 0x4100000000 s (State.rxBegin s r fid desc) := by
  unfold State.rxBegin
  with_reducible (refine Keep.trans ?_ (State.setRing_keep ..) rfl; refine Keep.trans ?_ (State.emit_keep ..) rfl; exact Keep.refl _)

theorem State.rxBack_keep (s : State) (r : Nat) (f : Frame) (data : Bytes) (poisoned : Bool) : Keep 0x4100180003 s (State.rxBack s r f data poisoned) := by
  unfold State.rxBack
  with_reducible
    refine keep_ite ?_ ?_; exact Keep.refl _; dsimp only; refine Keep.trans ?_ (State.ringStops_keep ..) rfl
    refine Keep.trans ?_ (State.ringReport_keep ..) rfl; refine Keep.trans ?_ (State.ringAdvance_keep ..) rfl
    refine keep_ite ?_ ?_; refine Keep.trans ?_ (State.bump_keep ..) rfl; refine Keep.trans ?_ (State.setRing_keep ..) rfl
    refine Keep.trans ?_ (State.bump_keep ..) rfl; refine Keep.trans ?_ (State.emit_keep ..) rfl; exact Keep.refl _
    refine Keep.trans ?_ (State.setRing_keep ..) rfl; refine Keep.trans ?_ (State.bump_keep ..) rfl
    refine Keep.trans ?_ (State.emit_keep ..) rfl; exact Keep.refl _

theorem State.ringsOff_keep (s : State) : Keep 0x100005181 s (State.ringsOff s) := by
  unfold State.ringsOff
  with_reducible
    refine keep_each ?_ ?_; exact Keep.refl _; intro _; intro _; dsimp only
    refine Keep.trans ?_ (State.setBit_keep ..) rfl; refine Keep.trans ?_ (State.setBit_keep ..) rfl
    refine keep_ite ?_ ?_; refine Keep.trans ?_ (State.setRing_keep ..) rfl; split; refine keep_ite ?_ ?_
    exact Keep.refl _; refine Keep.trans ?_ (State.dropUnqueued_keep ..) rfl; exact Keep.refl _; exact Keep.refl _; split
    refine keep_ite ?_ ?_; exact Keep.refl _; refine Keep.trans ?_ (State.dropUnqueued_keep ..) rfl; exact Keep.refl _
    exact Keep.refl _

theorem State.readErr_keep (s : State) (ini : Initiator) (drop : Bool) (e : BusEnd) : Keep 0x4000180003 s (State.readErr s ini drop e) := by
  unfold State.readErr
  with_reducible
    refine Keep.trans ?_ (State.reply_keep ..) rfl; refine Keep.trans ?_ (State.raise_keep ..) rfl
    refine Keep.trans ?_ (State.bump_keep ..) rfl; exact Keep.refl _

theorem State.pcieReset_keep (s : State) : Keep 0x100e00000 s (State.pcieReset s) := by
  unfold State.pcieReset
  with_reducible (refine keep_mk_msixMask_msixFn_msixPba_brg ?_ rfl; exact Keep.refl _)

theorem State.pcieDown_keep (s : State) (why : PcieCause) : Keep 0x4500f85183 s (State.pcieDown s why) := by
  unfold State.pcieDown
  with_reducible
    dsimp only; split; refine keep_mk_brg ?_ rfl; refine Keep.trans ?_ (State.raise_keep ..) rfl
    refine Keep.trans ?_ (State.sessionLost_keep ..) rfl; refine Keep.trans ?_ (State.ringsOff_keep ..) rfl
    exact Keep.refl _; refine Keep.trans ?_ (State.pcieReset_keep ..) rfl; refine Keep.trans ?_ (State.raise_keep ..) rfl
    refine Keep.trans ?_ (State.sessionLost_keep ..) rfl; refine Keep.trans ?_ (State.ringsOff_keep ..) rfl
    exact Keep.refl _; refine Keep.trans ?_ (State.pcieReset_keep ..) rfl; refine Keep.trans ?_ (State.raise_keep ..) rfl
    refine Keep.trans ?_ (State.sessionLost_keep ..) rfl; refine Keep.trans ?_ (State.ringsOff_keep ..) rfl
    exact Keep.refl _; refine keep_each ?_ ?_; refine Keep.trans ?_ (State.setBit_keep ..) rfl; refine keep_mk_brg ?_ rfl
    refine Keep.trans ?_ (State.pcieReset_keep ..) rfl; refine Keep.trans ?_ (State.raise_keep ..) rfl
    refine Keep.trans ?_ (State.sessionLost_keep ..) rfl; refine Keep.trans ?_ (State.ringsOff_keep ..) rfl
    exact Keep.refl _; intro _; intro _; refine Keep.trans ?_ (State.readErr_keep ..) rfl; exact Keep.refl _

theorem State.perst_keep (s : State) : Keep 0x4500f85183 s (State.perst s) := by
  unfold State.perst
  with_reducible (refine Keep.trans ?_ (State.pcieDown_keep ..) rfl; exact Keep.refl _)

theorem State.pcieUp_keep (s : State) (speed width : Nat) : Keep 0x100000001 s (State.pcieUp s speed width) := by
  unfold State.pcieUp
  with_reducible
    refine keep_ite ?_ ?_; exact Keep.refl _; refine Keep.trans ?_ (State.setBit_keep ..) rfl; refine keep_mk_brg ?_ rfl
    exact Keep.refl _

theorem State.pcieSet_keep (s : State) (z0 : Option PcieCfg) : Keep 0x100000000 s (State.pcieSet s z0) := by
  unfold State.pcieSet
  with_reducible (split; exact Keep.refl _; refine keep_mk_brg ?_ rfl; exact Keep.refl _)

theorem State.msixUnmask_keep (s : State) (mask : Word) (fn : Bool) (table : List (Fin 32 × BitVec 64 × Word)) (cfg : Option PcieCfg) : Keep 0x4100e00000 s (State.msixUnmask s mask fn table cfg) := by
  unfold State.msixUnmask
  with_reducible
    dsimp only; refine keep_ite ?_ ?_; refine keep_mk_msixMask_msixFn_brg ?_ rfl
    refine Keep.trans ?_ (State.pcieSet_keep ..) rfl; exact Keep.refl _; refine keep_each ?_ ?_
    refine keep_mk_msixMask_msixFn_brg ?_ rfl; refine Keep.trans ?_ (State.pcieSet_keep ..) rfl; exact Keep.refl _
    intro _; intro _; refine keep_ite ?_ ?_; refine Keep.trans ?_ (State.emit_keep ..) rfl; refine keep_mk_msixPba ?_ rfl
    exact Keep.refl _; refine keep_mk_msixPba ?_ rfl; exact Keep.refl _

theorem State.postedFail_keep (s : State) (peer : Bool) (off : Nat) (ini : Initiator) (cause : Nat) : Keep 0x100180003 s (State.postedFail s peer off ini cause) := by
  unfold State.postedFail
  with_reducible
    dsimp only; refine Keep.trans ?_ (State.raise_keep ..) rfl; refine keep_ite ?_ ?_; refine keep_mk_brg ?_ rfl
    refine Keep.trans ?_ (State.bump_keep ..) rfl; refine Keep.trans ?_ (State.markSet_keep ..) rfl
    refine Keep.trans ?_ (State.wr_keep ..) rfl; exact Keep.refl _; refine Keep.trans ?_ (State.raise_keep ..) rfl
    refine Keep.trans ?_ (State.bump_keep ..) rfl; refine Keep.trans ?_ (State.bump_keep ..) rfl
    refine Keep.trans ?_ (State.markSet_keep ..) rfl; refine Keep.trans ?_ (State.wr_keep ..) rfl; exact Keep.refl _

theorem State.hostPostedFail_keep (s : State) (ini : Initiator) (off : Nat) (aborted : Bool) : Keep 0x100180003 s (State.hostPostedFail s ini off aborted) := by
  unfold State.hostPostedFail
  with_reducible (refine Keep.trans ?_ (State.postedFail_keep ..) rfl; exact Keep.refl _)

theorem State.perrPop_keep (s : State) : Keep 0x100000000 s (State.perrPop s).2 := by
  unfold State.perrPop
  with_reducible (refine keep_pair ?_; refine keep_mk_brg ?_ rfl; exact Keep.refl _)

theorem State.sendOut_keep (s : State) (q : OutReq) : Keep 0x4104000000 s (State.sendOut s q) := by
  unfold State.sendOut
  with_reducible (dsimp only; refine keep_mk_brg ?_ rfl; refine Keep.trans ?_ (State.twSend_keep ..) rfl; exact Keep.refl _)

theorem State.pump_keep (s : State) (z0 : Nat) : Keep 0x4104000000 s (State.pump s z0) := by
  induction z0 generalizing s with
  | zero => exact Keep.refl _
  | succ n ih =>
    unfold State.pump
    with_reducible
      split; exact Keep.refl _; refine keep_ite ?_ ?_; exact Keep.refl _; dsimp only; refine Keep.trans ?_ (ih ..) rfl
      refine keep_ite ?_ ?_; refine Keep.trans ?_ (State.reply_keep ..) rfl
      refine Keep.trans ?_ (State.sendOut_keep ..) rfl; refine keep_mk_brg ?_ rfl; exact Keep.refl _
      refine Keep.trans ?_ (State.sendOut_keep ..) rfl; refine keep_mk_brg ?_ rfl; exact Keep.refl _

theorem State.pumpTick_keep (s : State) : Keep 0x4104000000 s (State.pumpTick s) := by
  unfold State.pumpTick
  with_reducible (refine keep_ite ?_ ?_; exact Keep.refl _; refine Keep.trans ?_ (State.pump_keep ..) rfl; exact Keep.refl _)

theorem State.request_keep (s : State) (q : OutReq) : Keep 0x4104000000 s (State.request s q) := by
  unfold State.request
  with_reducible (dsimp only; refine Keep.trans ?_ (State.pump_keep ..) rfl; refine keep_mk_brg ?_ rfl; exact Keep.refl _)

theorem State.windowRefuse_keep (s : State) (ini : Initiator) : Keep 0x4100180001 s (State.windowRefuse s ini) := by
  unfold State.windowRefuse
  with_reducible
    refine keep_ite ?_ ?_; refine Keep.trans ?_ (State.emit_keep ..) rfl
    refine Keep.trans ?_ (State.violation_keep ..) rfl; exact Keep.refl _; refine Keep.trans ?_ (State.busOut_keep ..) rfl
    exact Keep.refl _

theorem State.windowRead_keep (s : State) (ini : Initiator) (a size : Nat) : Keep 0x4104180003 s (State.windowRead s ini a size) := by
  unfold State.windowRead
  with_reducible
    refine keep_ite ?_ ?_; exact Keep.refl _; refine keep_ite ?_ ?_; dsimp only; refine keep_ite ?_ ?_
    refine Keep.trans ?_ (State.windowRefuse_keep ..) rfl; exact Keep.refl _
    refine Keep.trans ?_ (State.emit_keep ..) rfl; refine keep_mk_brg ?_ rfl; exact Keep.refl _; dsimp only
    refine keep_ite ?_ ?_; refine Keep.trans ?_ (State.windowRefuse_keep ..) rfl; exact Keep.refl _; refine keep_ite ?_ ?_
    refine Keep.trans ?_ (State.readErr_keep ..) rfl; exact Keep.refl _; refine Keep.trans ?_ (State.request_keep ..) rfl
    exact Keep.refl _

theorem State.windowWrite_keep (s : State) (ini : Initiator) (a size : Nat) (w : Word) : Keep 0x4104180003 s (State.windowWrite s ini a size w) := by
  unfold State.windowWrite
  with_reducible
    refine keep_ite ?_ ?_; exact Keep.refl _; refine keep_ite ?_ ?_; dsimp only; refine keep_ite ?_ ?_
    refine Keep.trans ?_ (State.windowRefuse_keep ..) rfl; exact Keep.refl _
    refine Keep.trans ?_ (State.emit_keep ..) rfl; refine Keep.trans ?_ (State.emit_keep ..) rfl; exact Keep.refl _
    dsimp only; refine keep_ite ?_ ?_; refine Keep.trans ?_ (State.windowRefuse_keep ..) rfl; exact Keep.refl _
    refine keep_ite ?_ ?_; refine Keep.trans ?_ (State.postedFail_keep ..) rfl
    refine Keep.trans ?_ (State.emit_keep ..) rfl; exact Keep.refl _; refine Keep.trans ?_ (State.request_keep ..) rfl
    exact Keep.refl _

theorem State.hostReadEnd_keep (s : State) (r : HostRead) (data : Option Word) : Keep 0x4100180003 s (State.hostReadEnd s r data) := by
  unfold State.hostReadEnd
  with_reducible
    dsimp only; split; refine Keep.trans ?_ (State.readErr_keep ..) rfl; refine keep_mk_brg ?_ rfl; exact Keep.refl _
    refine Keep.trans ?_ (State.reply_keep ..) rfl; refine keep_mk_brg ?_ rfl; exact Keep.refl _

theorem State.hostResponse_keep (s : State) (ini : Initiator) (data : Option Word) : Keep 0x6100180003 s (State.hostResponse s ini data) := by
  unfold State.hostResponse
  with_reducible
    split; exact Keep.refl _; refine keep_ite ?_ ?_; refine Keep.trans ?_ (State.hostReadEnd_keep ..) rfl
    refine Keep.trans ?_ (State.hostReadBad_keep ..) rfl; exact Keep.refl _
    refine Keep.trans ?_ (State.hostReadEnd_keep ..) rfl; exact Keep.refl _

theorem State.hostTimeout_keep (s : State) (ini : Initiator) : Keep 0x4100180003 s (State.hostTimeout s ini) := by
  unfold State.hostTimeout
  with_reducible
    split; exact Keep.refl _; refine keep_ite ?_ ?_; exact Keep.refl _
    refine Keep.trans ?_ (State.hostReadEnd_keep ..) rfl; refine Keep.trans ?_ (State.aerSet_keep ..) rfl
    exact Keep.refl _

theorem State.lockEnd_keep (s : State) (res : Nat) (held : Bool) : Keep 0x1 s (State.lockEnd s res held) := by
  unfold State.lockEnd
  with_reducible
    refine Keep.trans ?_ (State.setBit_keep ..) rfl; refine Keep.trans ?_ (State.set_keep ..) rfl
    refine Keep.trans ?_ (State.setBit_keep ..) rfl; exact Keep.refl _

theorem State.lockCmd_keep (s : State) (ini : Initiator) (kind : Nat) : Keep 0x4104180001 s (State.lockCmd s ini kind) := by
  unfold State.lockCmd
  with_reducible
    refine keep_ite ?_ ?_; refine Keep.trans ?_ (State.raise_keep ..) rfl; exact Keep.refl _; refine keep_ite ?_ ?_
    refine Keep.trans ?_ (State.lockEnd_keep ..) rfl; exact Keep.refl _; refine Keep.trans ?_ (State.request_keep ..) rfl
    refine Keep.trans ?_ (State.setBit_keep ..) rfl; exact Keep.refl _

theorem State.dropSent_keep (s : State) (tag : Nat) : Keep 0x100000000 s (State.dropSent s tag) := by
  unfold State.dropSent
  with_reducible (refine keep_mk_brg ?_ rfl; exact Keep.refl _)

theorem State.answered_keep (s : State) (q : OutReq) (status : Nat) (data : Word) : Keep 0x4100180003 s (State.answered s q status data) := by
  unfold State.answered
  with_reducible
    dsimp only; split; refine keep_ite ?_ ?_; refine Keep.trans ?_ (State.reply_keep ..) rfl; refine keep_mk_brg ?_ rfl
    refine Keep.trans ?_ (State.dropSent_keep ..) rfl; exact Keep.refl _; refine Keep.trans ?_ (State.readErr_keep ..) rfl
    refine keep_mk_brg ?_ rfl; refine Keep.trans ?_ (State.dropSent_keep ..) rfl; exact Keep.refl _
    refine Keep.trans ?_ (State.dropSent_keep ..) rfl; exact Keep.refl _; refine keep_ite ?_ ?_
    refine Keep.trans ?_ (State.lockEnd_keep ..) rfl; refine Keep.trans ?_ (State.wr_keep ..) rfl; refine keep_ite ?_ ?_
    refine Keep.trans ?_ (State.bump_keep ..) rfl; refine Keep.trans ?_ (State.dropSent_keep ..) rfl; exact Keep.refl _
    refine Keep.trans ?_ (State.dropSent_keep ..) rfl; exact Keep.refl _; refine Keep.trans ?_ (State.lockEnd_keep ..) rfl
    refine keep_ite ?_ ?_; refine Keep.trans ?_ (State.bump_keep ..) rfl
    refine Keep.trans ?_ (State.dropSent_keep ..) rfl; exact Keep.refl _
    refine Keep.trans ?_ (State.dropSent_keep ..) rfl; exact Keep.refl _; refine Keep.trans ?_ (State.lockEnd_keep ..) rfl
    refine Keep.trans ?_ (State.dropSent_keep ..) rfl; exact Keep.refl _

theorem State.bridgeResponse_keep (s : State) (h : TwHead) (ws : List Word) : Keep 0x61561951ab s (State.bridgeResponse s h ws) := by
  unfold State.bridgeResponse
  with_reducible
    refine State.twGet_keepF ?_ ?_ rfl; exact Keep.refl _; intro _; dsimp only; split; exact Keep.refl _
    refine Keep.trans ?_ (State.pump_keep ..) rfl; refine Keep.trans ?_ (State.answered_keep ..) rfl; exact Keep.refl _

theorem State.bridgePostedFail_keep (s : State) (h : TwHead) (ws : List Word) : Keep 0x61561951ab s (State.bridgePostedFail s h ws) := by
  unfold State.bridgePostedFail
  with_reducible
    refine State.twGet_keepF ?_ ?_ rfl; exact Keep.refl _; intro _; dsimp only; split; exact Keep.refl _
    refine Keep.trans ?_ (State.pump_keep ..) rfl; refine Keep.trans ?_ (State.postedFail_keep ..) rfl
    refine Keep.trans ?_ (State.dropSent_keep ..) rfl; exact Keep.refl _

theorem State.reqLost_keep (s : State) (q : OutReq) (res : Nat) : Keep 0x4100180003 s (State.reqLost s q res) := by
  unfold State.reqLost
  with_reducible
    dsimp only; split; refine Keep.trans ?_ (State.readErr_keep ..) rfl; refine Keep.trans ?_ (State.dropSent_keep ..) rfl
    exact Keep.refl _; refine Keep.trans ?_ (State.postedFail_keep ..) rfl
    refine Keep.trans ?_ (State.dropSent_keep ..) rfl; exact Keep.refl _; refine Keep.trans ?_ (State.lockEnd_keep ..) rfl
    refine Keep.trans ?_ (State.dropSent_keep ..) rfl; exact Keep.refl _

theorem State.peerTimedOut_keep (s : State) (tag : Nat) : Keep 0x4104180003 s (State.peerTimedOut s tag) := by
  unfold State.peerTimedOut
  with_reducible
    split; exact Keep.refl _; refine keep_ite ?_ ?_; exact Keep.refl _; dsimp only
    refine Keep.trans ?_ (State.pump_keep ..) rfl; refine Keep.trans ?_ (State.reqLost_keep ..) rfl; exact Keep.refl _

theorem State.semServe_keep (s : State) (x : SemWait) : Keep 0x4004180001 s (State.semServe s x) := by
  unfold State.semServe
  with_reducible
    refine keep_ite ?_ ?_; exact Keep.refl _; dsimp only; split; refine Keep.trans ?_ (State.twSend_keep ..) rfl; split
    refine State.writeEnd_keepF ?_ ?_ rfl; exact Keep.refl _; intro _; refine Keep.trans ?_ (State.wr_keep ..) rfl
    exact Keep.refl _; exact Keep.refl _; split; refine State.writeEnd_keepF ?_ ?_ rfl; exact Keep.refl _; intro _
    refine Keep.trans ?_ (State.wr_keep ..) rfl; exact Keep.refl _; exact Keep.refl _
    refine Keep.trans ?_ (State.reply_keep ..) rfl; split; refine State.writeEnd_keepF ?_ ?_ rfl; exact Keep.refl _
    intro _; refine Keep.trans ?_ (State.wr_keep ..) rfl; exact Keep.refl _; exact Keep.refl _
    refine Keep.trans ?_ (State.reply_keep ..) rfl; split; refine State.writeEnd_keepF ?_ ?_ rfl; exact Keep.refl _
    intro _; refine Keep.trans ?_ (State.wr_keep ..) rfl; exact Keep.refl _; exact Keep.refl _

theorem State.lockRelease_keepF {m : Nat} {s0 s : State} {f : State → SemWait → State} (h : Keep m s0 s) (hf : ∀ s x, Keep m s (f s x))
    (hm : Incl 0x100000001 m) : Keep m s0 (s.lockRelease f) := by
  unfold State.lockRelease
  refine keep_each (h.trans ?_ hm) hf
  refine Keep.trans ?_ (State.setBit_keep ..) rfl
  exact keep_mk_brg (Keep.refl _) rfl

theorem State.bridgeAnswer_keep (s : State) (w : Word) (status addr : Nat) (data : Word) : Keep 0x4004000000 s (State.bridgeAnswer s w status addr data) := by
  unfold State.bridgeAnswer
  with_reducible (refine Keep.trans ?_ (State.twSend_keep ..) rfl; exact Keep.refl _)

theorem State.bridgeLock_keep (s : State) (h : TwHead) (ws : List Word) : Keep 0x61561951ab s (State.bridgeLock s h ws) := by
  unfold State.bridgeLock
  with_reducible
    refine State.twGet_keepF ?_ ?_ rfl; exact Keep.refl _; intro _; dsimp only; split
    refine Keep.trans ?_ (State.bridgeAnswer_keep ..) rfl; refine Keep.trans ?_ (State.bump_keep ..) rfl
    exact Keep.refl _; refine keep_ite ?_ ?_; refine Keep.trans ?_ (State.bridgeAnswer_keep ..) rfl
    refine Keep.trans ?_ (State.bump_keep ..) rfl; exact Keep.refl _
    refine Keep.trans ?_ (State.bridgeAnswer_keep ..) rfl; refine Keep.trans ?_ (State.setBit_keep ..) rfl
    refine keep_mk_brg ?_ rfl; refine Keep.trans ?_ (State.bump_keep ..) rfl; exact Keep.refl _

theorem State.twinDown_keep (s : State) : Keep 0x4504180003 s (State.twinDown s) := by
  unfold State.twinDown
  with_reducible
    refine keep_ite ?_ ?_; exact Keep.refl _; dsimp only; refine keep_ite ?_ ?_; refine State.lockRelease_keepF ?_ ?_ rfl
    refine keep_ite ?_ ?_; refine Keep.trans ?_ (State.raise_keep ..) rfl; refine Keep.trans ?_ (State.setBit_keep ..) rfl
    refine Keep.trans ?_ (State.setBit_keep ..) rfl; refine keep_each ?_ ?_; refine keep_each ?_ ?_
    refine keep_mk_brg ?_ rfl; refine Keep.trans ?_ (State.sessionLost_keep ..) rfl
    refine Keep.trans ?_ (State.setBit_keep ..) rfl; exact Keep.refl _; intro _; intro _
    refine Keep.trans ?_ (State.reply_keep ..) rfl; exact Keep.refl _; intro _; intro _
    refine Keep.trans ?_ (State.reqLost_keep ..) rfl; exact Keep.refl _; refine Keep.trans ?_ (State.setBit_keep ..) rfl
    refine keep_each ?_ ?_; refine keep_each ?_ ?_; refine keep_mk_brg ?_ rfl
    refine Keep.trans ?_ (State.sessionLost_keep ..) rfl; refine Keep.trans ?_ (State.setBit_keep ..) rfl
    exact Keep.refl _; intro _; intro _; refine Keep.trans ?_ (State.reply_keep ..) rfl; exact Keep.refl _; intro _
    intro _; refine Keep.trans ?_ (State.reqLost_keep ..) rfl; exact Keep.refl _; intro _; intro _; refine keep_ite ?_ ?_
    exact Keep.refl _; refine Keep.trans ?_ (State.semServe_keep ..) rfl; exact Keep.refl _; refine keep_ite ?_ ?_
    refine Keep.trans ?_ (State.raise_keep ..) rfl; refine Keep.trans ?_ (State.setBit_keep ..) rfl
    refine Keep.trans ?_ (State.setBit_keep ..) rfl; refine keep_each ?_ ?_; refine keep_each ?_ ?_
    refine keep_mk_brg ?_ rfl; refine Keep.trans ?_ (State.sessionLost_keep ..) rfl
    refine Keep.trans ?_ (State.setBit_keep ..) rfl; exact Keep.refl _; intro _; intro _
    refine Keep.trans ?_ (State.reply_keep ..) rfl; exact Keep.refl _; intro _; intro _
    refine Keep.trans ?_ (State.reqLost_keep ..) rfl; exact Keep.refl _; refine Keep.trans ?_ (State.setBit_keep ..) rfl
    refine keep_each ?_ ?_; refine keep_each ?_ ?_; refine keep_mk_brg ?_ rfl
    refine Keep.trans ?_ (State.sessionLost_keep ..) rfl; refine Keep.trans ?_ (State.setBit_keep ..) rfl
    exact Keep.refl _; intro _; intro _; refine Keep.trans ?_ (State.reply_keep ..) rfl; exact Keep.refl _; intro _
    intro _; refine Keep.trans ?_ (State.reqLost_keep ..) rfl; exact Keep.refl _

theorem State.twinUp_keep (s : State) : Keep 0x1 s (State.twinUp s) := by
  unfold State.twinUp
  with_reducible (refine Keep.trans ?_ (State.setBit_keep ..) rfl; exact Keep.refl _)

end Sys2Proof.Machine
end

