-- ==== Sys2Proof/Laws/KeepMacRx.lean ====
section
/-! SUPPORT. What the operations of Machine/MacRx.lean keep. -/

set_option linter.unusedVariables false
set_option maxRecDepth 4000

namespace Sys2Proof.Machine

theorem State.speedLevels_keep (s : State) (p : Nat) : Keep 0x1 s (State.speedLevels s p) := by
  unfold State.speedLevels
  with_reducible (refine Keep.trans ?_ (State.set_keep ..) rfl; refine Keep.trans ?_ (State.setBit_keep ..) rfl; exact Keep.refl _)

theorem State.holdCheck_keep (s : State) (p : Nat) : Keep 0x800 s (State.holdCheck s p) := by
  unfold State.holdCheck
  with_reducible (dsimp only; refine Keep.trans ?_ (State.setMac_keep ..) rfl; exact Keep.refl _)

theorem State.badMode_keep (s : State) (p : Nat) : Keep 0x180001 s (State.badMode s p) := by
  unfold State.badMode
  with_reducible (dsimp only; refine keep_ite ?_ ?_; refine Keep.trans ?_ (State.raise_keep ..) rfl; exact Keep.refl _; exact Keep.refl _)

theorem State.pmtLevels_keep (s : State) (p : Nat) : Keep 0x10001 s (State.pmtLevels s p) := by
  unfold State.pmtLevels
  with_reducible
    dsimp only; refine keep_ite ?_ ?_; refine Keep.trans ?_ (State.setBit_keep ..) rfl; exact Keep.refl _
    refine Keep.trans ?_ (State.setHold_keep ..) rfl; refine Keep.trans ?_ (State.setBit_keep ..) rfl; exact Keep.refl _

theorem State.verifyRestart_keep (s : State) (p : Nat) : Keep 0x10801 s (State.verifyRestart s p) := by
  unfold State.verifyRestart
  with_reducible
    dsimp only; refine Keep.trans ?_ (State.pmtLevels_keep ..) rfl; refine Keep.trans ?_ (State.set_keep ..) rfl
    refine Keep.trans ?_ (State.setMac_keep ..) rfl; exact Keep.refl _

theorem State.pmtCfg_keep (s : State) (p : Nat) (old : Word) : Keep 0x10801 s (State.pmtCfg s p old) := by
  unfold State.pmtCfg
  with_reducible
    dsimp only; refine keep_ite ?_ ?_; refine Keep.trans ?_ (State.pmtLevels_keep ..) rfl; exact Keep.refl _
    refine Keep.trans ?_ (State.verifyRestart_keep ..) rfl; exact Keep.refl _

theorem State.verifyTimer_keep (s : State) (p : Nat) : Keep 0x4000180801 s (State.verifyTimer s p) := by
  unfold State.verifyTimer
  with_reducible
    refine keep_ite ?_ ?_; exact Keep.refl _; refine keep_ite ?_ ?_; refine Keep.trans ?_ (State.raise_keep ..) rfl
    refine Keep.trans ?_ (State.set_keep ..) rfl; exact Keep.refl _; refine Keep.trans ?_ (State.emit_keep ..) rfl
    refine Keep.trans ?_ (State.setMac_keep ..) rfl; exact Keep.refl _

theorem State.verifyTake_keep (s : State) (p : Nat) : Keep 0x4000000000 s (State.verifyTake s p) := by
  unfold State.verifyTake
  with_reducible (refine keep_ite ?_ ?_; refine Keep.trans ?_ (State.emit_keep ..) rfl; exact Keep.refl _; exact Keep.refl _)

theorem State.respondTake_keep (s : State) (p : Nat) : Keep 0x10001 s (State.respondTake s p) := by
  unfold State.respondTake
  with_reducible
    refine keep_ite ?_ ?_; refine Keep.trans ?_ (State.pmtLevels_keep ..) rfl
    refine Keep.trans ?_ (State.set_keep ..) rfl; exact Keep.refl _; exact Keep.refl _

theorem State.ctRaise_keep (s : State) (p : Nat) : Keep 0x180001 s (State.ctRaise s p) := by
  unfold State.ctRaise
  with_reducible
    refine keep_ite ?_ ?_; exact Keep.refl _; dsimp only; refine keep_ite ?_ ?_; exact Keep.refl _
    refine Keep.trans ?_ (State.raise_keep ..) rfl; refine Keep.trans ?_ (State.set_keep ..) rfl; exact Keep.refl _

theorem State.engineAct_keep (s : State) (c : Copy) (f : Frame) (d : Bytes) (e : Egress) : Keep 0x13 s (State.engineAct s c f d e).2 := by
  unfold State.engineAct
  with_reducible (split; refine Keep.trans ?_ (State.oneStep_keep ..) rfl; exact Keep.refl _; refine keep_pair ?_; exact Keep.refl _)

theorem State.engineLate_keep (s : State) (c : Copy) (f : Frame) (t : Tx) : Keep 0x13 s (State.engineLate s c f t).2 := by
  unfold State.engineLate
  with_reducible
    split; dsimp only; refine Keep.trans ?_ (State.engineAct_keep ..) rfl; exact Keep.refl _; refine keep_pair ?_
    exact Keep.refl _

theorem State.stompEnd_keep (s : State) (c : Copy) (n : Option Nat) (dry : Bool) : Keep 0x4144185993 s (State.stompEnd s c n dry) := by
  unfold State.stompEnd
  with_reducible
    dsimp only; split; refine Keep.trans ?_ (State.sendEnd_keep ..) rfl; refine keep_ite ?_ ?_
    refine Keep.trans ?_ (State.putCopy_keep ..) rfl; refine Keep.trans ?_ (State.noteSend_keep ..) rfl
    refine Keep.trans ?_ (State.setMac_keep ..) rfl; refine keep_ite ?_ ?_
    refine Keep.trans ?_ (State.ctRaise_keep ..) rfl; refine Keep.trans ?_ (State.raise_keep ..) rfl
    refine keep_ite ?_ ?_; refine Keep.trans ?_ (State.bump_keep ..) rfl; refine Keep.trans ?_ (State.emit_keep ..) rfl
    refine keep_ite ?_ ?_; refine Keep.trans ?_ (State.bump_keep ..) rfl
    refine Keep.trans ?_ (State.engineLate_keep ..) rfl; exact Keep.refl _
    refine Keep.trans ?_ (State.engineLate_keep ..) rfl; exact Keep.refl _; refine keep_ite ?_ ?_
    refine Keep.trans ?_ (State.rxBack_keep ..) rfl; refine keep_ite ?_ ?_; refine Keep.trans ?_ (State.bump_keep ..) rfl
    refine Keep.trans ?_ (State.engineLate_keep ..) rfl; exact Keep.refl _
    refine Keep.trans ?_ (State.engineLate_keep ..) rfl; exact Keep.refl _; refine keep_ite ?_ ?_
    refine Keep.trans ?_ (State.gwLeave_keep ..) rfl; refine keep_ite ?_ ?_; refine Keep.trans ?_ (State.bump_keep ..) rfl
    refine Keep.trans ?_ (State.engineLate_keep ..) rfl; exact Keep.refl _
    refine Keep.trans ?_ (State.engineLate_keep ..) rfl; exact Keep.refl _; refine keep_ite ?_ ?_
    refine Keep.trans ?_ (State.bump_keep ..) rfl; refine Keep.trans ?_ (State.engineLate_keep ..) rfl; exact Keep.refl _
    refine Keep.trans ?_ (State.engineLate_keep ..) rfl; exact Keep.refl _; refine keep_ite ?_ ?_
    refine Keep.trans ?_ (State.bump_keep ..) rfl; refine Keep.trans ?_ (State.emit_keep ..) rfl; refine keep_ite ?_ ?_
    refine Keep.trans ?_ (State.bump_keep ..) rfl; refine Keep.trans ?_ (State.engineLate_keep ..) rfl; exact Keep.refl _
    refine Keep.trans ?_ (State.engineLate_keep ..) rfl; exact Keep.refl _; refine keep_ite ?_ ?_
    refine Keep.trans ?_ (State.rxBack_keep ..) rfl; refine keep_ite ?_ ?_; refine Keep.trans ?_ (State.bump_keep ..) rfl
    refine Keep.trans ?_ (State.engineLate_keep ..) rfl; exact Keep.refl _
    refine Keep.trans ?_ (State.engineLate_keep ..) rfl; exact Keep.refl _; refine keep_ite ?_ ?_
    refine Keep.trans ?_ (State.gwLeave_keep ..) rfl; refine keep_ite ?_ ?_; refine Keep.trans ?_ (State.bump_keep ..) rfl
    refine Keep.trans ?_ (State.engineLate_keep ..) rfl; exact Keep.refl _
    refine Keep.trans ?_ (State.engineLate_keep ..) rfl; exact Keep.refl _; refine keep_ite ?_ ?_
    refine Keep.trans ?_ (State.bump_keep ..) rfl; refine Keep.trans ?_ (State.engineLate_keep ..) rfl; exact Keep.refl _
    refine Keep.trans ?_ (State.engineLate_keep ..) rfl; exact Keep.refl _
    refine Keep.trans ?_ (State.copyQuiet_keep ..) rfl; refine Keep.trans ?_ (State.noteSend_keep ..) rfl
    refine Keep.trans ?_ (State.setMac_keep ..) rfl; refine keep_ite ?_ ?_
    refine Keep.trans ?_ (State.ctRaise_keep ..) rfl; refine Keep.trans ?_ (State.raise_keep ..) rfl
    refine keep_ite ?_ ?_; refine Keep.trans ?_ (State.bump_keep ..) rfl; refine Keep.trans ?_ (State.emit_keep ..) rfl
    refine keep_ite ?_ ?_; refine Keep.trans ?_ (State.bump_keep ..) rfl
    refine Keep.trans ?_ (State.engineLate_keep ..) rfl; exact Keep.refl _
    refine Keep.trans ?_ (State.engineLate_keep ..) rfl; exact Keep.refl _; refine keep_ite ?_ ?_
    refine Keep.trans ?_ (State.rxBack_keep ..) rfl; refine keep_ite ?_ ?_; refine Keep.trans ?_ (State.bump_keep ..) rfl
    refine Keep.trans ?_ (State.engineLate_keep ..) rfl; exact Keep.refl _
    refine Keep.trans ?_ (State.engineLate_keep ..) rfl; exact Keep.refl _; refine keep_ite ?_ ?_
    refine Keep.trans ?_ (State.gwLeave_keep ..) rfl; refine keep_ite ?_ ?_; refine Keep.trans ?_ (State.bump_keep ..) rfl
    refine Keep.trans ?_ (State.engineLate_keep ..) rfl; exact Keep.refl _
    refine Keep.trans ?_ (State.engineLate_keep ..) rfl; exact Keep.refl _; refine keep_ite ?_ ?_
    refine Keep.trans ?_ (State.bump_keep ..) rfl; refine Keep.trans ?_ (State.engineLate_keep ..) rfl; exact Keep.refl _
    refine Keep.trans ?_ (State.engineLate_keep ..) rfl; exact Keep.refl _; refine keep_ite ?_ ?_
    refine Keep.trans ?_ (State.bump_keep ..) rfl; refine Keep.trans ?_ (State.emit_keep ..) rfl; refine keep_ite ?_ ?_
    refine Keep.trans ?_ (State.bump_keep ..) rfl; refine Keep.trans ?_ (State.engineLate_keep ..) rfl; exact Keep.refl _
    refine Keep.trans ?_ (State.engineLate_keep ..) rfl; exact Keep.refl _; refine keep_ite ?_ ?_
    refine Keep.trans ?_ (State.rxBack_keep ..) rfl; refine keep_ite ?_ ?_; refine Keep.trans ?_ (State.bump_keep ..) rfl
    refine Keep.trans ?_ (State.engineLate_keep ..) rfl; exact Keep.refl _
    refine Keep.trans ?_ (State.engineLate_keep ..) rfl; exact Keep.refl _; refine keep_ite ?_ ?_
    refine Keep.trans ?_ (State.gwLeave_keep ..) rfl; refine keep_ite ?_ ?_; refine Keep.trans ?_ (State.bump_keep ..) rfl
    refine Keep.trans ?_ (State.engineLate_keep ..) rfl; exact Keep.refl _
    refine Keep.trans ?_ (State.engineLate_keep ..) rfl; exact Keep.refl _; refine keep_ite ?_ ?_
    refine Keep.trans ?_ (State.bump_keep ..) rfl; refine Keep.trans ?_ (State.engineLate_keep ..) rfl; exact Keep.refl _
    refine Keep.trans ?_ (State.engineLate_keep ..) rfl; exact Keep.refl _; exact Keep.refl _

theorem State.endStomped_keep (s : State) : Keep 0x4144185993 s (State.endStomped s) := by
  unfold State.endStomped
  with_reducible
    refine keep_each ?_ ?_; exact Keep.refl _; intro _; intro _; refine Keep.trans ?_ (State.stompEnd_keep ..) rfl
    exact Keep.refl _

theorem State.rxFault_keep (s : State) (fid : Nat) : Keep 0x402418518b s (State.rxFault s fid) := by
  unfold State.rxFault
  with_reducible
    split; exact Keep.refl _; dsimp only; refine keep_ite ?_ ?_; refine Keep.trans ?_ (State.dropUnqueued_keep ..) rfl
    refine Keep.trans ?_ (State.undoRecovery_keep ..) rfl; exact Keep.refl _; refine keep_each ?_ ?_
    refine Keep.trans ?_ (State.laHeldGo_keep ..) rfl; refine Keep.trans ?_ (State.failFrame_keep ..) rfl
    refine Keep.trans ?_ (State.undoRecovery_keep ..) rfl; exact Keep.refl _; intro _; intro _
    refine Keep.trans ?_ (State.drained_keep ..) rfl; refine Keep.trans ?_ (State.putCopy_keep ..) rfl; exact Keep.refl _

theorem State.countFull_keep (s : State) (p : Nat) : Keep 0x180003 s (State.countFull s p) := by
  unfold State.countFull
  with_reducible (refine Keep.trans ?_ (State.raise_keep ..) rfl; refine Keep.trans ?_ (State.bump_keep ..) rfl; exact Keep.refl _)

theorem State.arrivalCheck_keep (s : State) (p fid : Nat) : Keep 0x185183 s (State.arrivalCheck s p fid).2 := by
  unfold State.arrivalCheck
  with_reducible
    refine keep_ite2 ?_ ?_; refine keep_pair ?_; refine Keep.trans ?_ (State.dropUnqueued_keep ..) rfl
    refine Keep.trans ?_ (State.countFull_keep ..) rfl; exact Keep.refl _; refine keep_pair ?_; exact Keep.refl _

theorem State.rxPass_keep (s : State) (p ts : Nat) (d : Bytes) : Keep 0x18538b s (State.rxPass s p ts d).2 := by
  unfold State.rxPass
  with_reducible
    dsimp only; split; refine keep_pair ?_; refine Keep.trans ?_ (State.addFrame_keep ..) rfl; exact Keep.refl _; split
    refine keep_pair ?_; refine Keep.trans ?_ (State.dropUnqueued_keep ..) rfl; refine keep_snd (by assumption) ?_
    refine Keep.trans ?_ (State.secMeet_keep ..) rfl; refine Keep.trans ?_ (State.addFrame_keep ..) rfl; exact Keep.refl _
    refine keep_pair ?_; refine Keep.trans ?_ (State.arrivalCheck_keep ..) rfl
    refine Keep.trans ?_ (State.putFrame_keep ..) rfl; refine keep_snd (by assumption) ?_
    refine Keep.trans ?_ (State.secMeet_keep ..) rfl; refine Keep.trans ?_ (State.addFrame_keep ..) rfl; exact Keep.refl _

theorem State.rxFail_keep (s : State) (r : Rx) (cnt : Nat) : Keep 0x402418518b s (State.rxFail s r cnt) := by
  unfold State.rxFail
  with_reducible
    split; refine Keep.trans ?_ (State.rxFault_keep ..) rfl; refine Keep.trans ?_ (State.bump_keep ..) rfl
    exact Keep.refl _; refine Keep.trans ?_ (State.bump_keep ..) rfl; exact Keep.refl _

theorem State.rxCut_keep (s : State) (p : Nat) (r : Rx) (old : Nat) : Keep 0x402418518b s (State.rxCut s p r old).2 := by
  unfold State.rxCut
  with_reducible
    refine keep_ite2 ?_ ?_; refine keep_pair ?_; exact Keep.refl _; dsimp only
    refine Keep.trans ?_ (State.rxFail_keep ..) rfl; refine keep_ite ?_ ?_
    refine Keep.trans ?_ (State.countFull_keep ..) rfl; exact Keep.refl _; exact Keep.refl _

theorem State.rxRoute_keep (s : State) (p : Nat) (r : Rx) : Keep 0x18538b s (State.rxRoute s p r).2 := by
  unfold State.rxRoute
  with_reducible
    split; refine keep_pair ?_; exact Keep.refl _; refine keep_ite2 ?_ ?_; refine keep_pair ?_; exact Keep.refl _
    dsimp only; refine Keep.trans ?_ (State.rxPass_keep ..) rfl; exact Keep.refl _

theorem State.rxOpen_keep (s : State) (p ts : Nat) (d : Bytes) : Keep 0x402418538b s (State.rxOpen s p ts d).2 := by
  unfold State.rxOpen
  with_reducible
    dsimp only; refine keep_ite2 ?_ ?_; refine Keep.trans ?_ (State.rxCut_keep ..) rfl; exact Keep.refl _
    refine Keep.trans ?_ (State.rxRoute_keep ..) rfl; exact Keep.refl _

theorem State.rxMore_keep (s : State) (p : Nat) (r : Rx) (more : Bytes) : Keep 0x402418738b s (State.rxMore s p r more).2 := by
  unfold State.rxMore
  with_reducible
    dsimp only; split; refine Keep.trans ?_ (State.rxRoute_keep ..) rfl; refine Keep.trans ?_ (State.rxCut_keep ..) rfl
    exact Keep.refl _; split; refine keep_pair ?_; refine Keep.trans ?_ (State.rxCut_keep ..) rfl; exact Keep.refl _
    split; refine keep_pair ?_; refine Keep.trans ?_ (State.dropUnqueued_keep ..) rfl; refine keep_snd (by assumption) ?_
    refine Keep.trans ?_ (State.secMeet_keep ..) rfl; refine Keep.trans ?_ (State.rxCut_keep ..) rfl; exact Keep.refl _
    refine keep_ite2 ?_ ?_; refine keep_pair ?_; refine Keep.trans ?_ (State.rxFail_keep ..) rfl
    refine Keep.trans ?_ (State.lateOversize_keep ..) rfl; refine Keep.trans ?_ (State.putFrame_keep ..) rfl
    refine keep_ite ?_ ?_; refine Keep.trans ?_ (State.countFull_keep ..) rfl; refine keep_snd (by assumption) ?_
    refine Keep.trans ?_ (State.secMeet_keep ..) rfl; refine Keep.trans ?_ (State.rxCut_keep ..) rfl; exact Keep.refl _
    refine keep_snd (by assumption) ?_; refine Keep.trans ?_ (State.secMeet_keep ..) rfl
    refine Keep.trans ?_ (State.rxCut_keep ..) rfl; exact Keep.refl _; refine keep_pair ?_
    refine Keep.trans ?_ (State.arrivalCheck_keep ..) rfl; refine Keep.trans ?_ (State.putFrame_keep ..) rfl
    refine keep_snd (by assumption) ?_; refine Keep.trans ?_ (State.secMeet_keep ..) rfl
    refine Keep.trans ?_ (State.rxCut_keep ..) rfl; exact Keep.refl _

theorem State.tailCopy_keep (s : State) (c : Copy) (old new : Nat) : Keep 0x10900 s (State.tailCopy s c old new) := by
  unfold State.tailCopy
  with_reducible
    refine keep_ite ?_ ?_; exact Keep.refl _; dsimp only; refine Keep.trans ?_ (State.setMac_keep ..) rfl
    refine Keep.trans ?_ (State.putCopy_keep ..) rfl; refine Keep.trans ?_ (State.shaperRefund_keep ..) rfl
    exact Keep.refl _

theorem State.rxTail_keep (s : State) (fid : Nat) (rest : Bytes) : Keep 0x19598b s (State.rxTail s fid rest) := by
  unfold State.rxTail
  with_reducible
    split; exact Keep.refl _; dsimp only; split; refine Keep.trans ?_ (State.dropUnqueued_keep ..) rfl
    refine keep_snd (by assumption) ?_; refine Keep.trans ?_ (State.secMeet_keep ..) rfl; exact Keep.refl _
    refine Keep.trans ?_ (State.arrivalCheck_keep ..) rfl; refine Keep.trans ?_ (State.slowFollow_keep ..) rfl
    refine Keep.trans ?_ (State.putFrame_keep ..) rfl; split; refine Keep.trans ?_ (State.tbump_keep ..) rfl
    refine keep_ite ?_ ?_; refine keep_each ?_ ?_; refine keep_ite ?_ ?_; refine Keep.trans ?_ (State.refund_keep ..) rfl
    refine keep_snd (by assumption) ?_; refine Keep.trans ?_ (State.secMeet_keep ..) rfl; exact Keep.refl _
    refine keep_snd (by assumption) ?_; refine Keep.trans ?_ (State.secMeet_keep ..) rfl; exact Keep.refl _; intro _
    intro _; refine Keep.trans ?_ (State.tailCopy_keep ..) rfl; exact Keep.refl _; refine keep_ite ?_ ?_
    refine Keep.trans ?_ (State.refund_keep ..) rfl; refine keep_snd (by assumption) ?_
    refine Keep.trans ?_ (State.secMeet_keep ..) rfl; exact Keep.refl _; refine keep_snd (by assumption) ?_
    refine Keep.trans ?_ (State.secMeet_keep ..) rfl; exact Keep.refl _; refine keep_ite ?_ ?_; refine keep_each ?_ ?_
    refine keep_ite ?_ ?_; refine Keep.trans ?_ (State.refund_keep ..) rfl; refine keep_snd (by assumption) ?_
    refine Keep.trans ?_ (State.secMeet_keep ..) rfl; exact Keep.refl _; refine keep_snd (by assumption) ?_
    refine Keep.trans ?_ (State.secMeet_keep ..) rfl; exact Keep.refl _; intro _; intro _
    refine Keep.trans ?_ (State.tailCopy_keep ..) rfl; exact Keep.refl _; refine keep_ite ?_ ?_
    refine Keep.trans ?_ (State.refund_keep ..) rfl; refine keep_snd (by assumption) ?_
    refine Keep.trans ?_ (State.secMeet_keep ..) rfl; exact Keep.refl _; refine keep_snd (by assumption) ?_
    refine Keep.trans ?_ (State.secMeet_keep ..) rfl; exact Keep.refl _

theorem State.rxCount_keep (s : State) (p total : Nat) : Keep 0x2 s (State.rxCount s p total) := by
  unfold State.rxCount
  with_reducible (refine Keep.trans ?_ (State.bumpBy_keep ..) rfl; refine Keep.trans ?_ (State.bump_keep ..) rfl; exact Keep.refl _)

theorem State.rxHeld_keep (s : State) (p : Nat) (r : Rx) (d : Bytes) : Keep 0x195b8b s (State.rxHeld s p r d) := by
  unfold State.rxHeld
  with_reducible
    refine keep_ite ?_ ?_; dsimp only; split; refine Keep.trans ?_ (State.rxTail_keep ..) rfl
    refine Keep.trans ?_ (State.rxPass_keep ..) rfl; exact Keep.refl _; refine Keep.trans ?_ (State.rxPass_keep ..) rfl
    exact Keep.refl _; refine keep_ite ?_ ?_; refine Keep.trans ?_ (State.bump_keep ..) rfl; exact Keep.refl _
    exact Keep.refl _

theorem State.rxBadTail_keep (s : State) (p fid : Nat) (rest : Bytes) : Keep 0x402418518b s (State.rxBadTail s p fid rest) := by
  unfold State.rxBadTail
  with_reducible
    refine keep_ite ?_ ?_; refine Keep.trans ?_ (State.dropUnqueued_keep ..) rfl
    refine Keep.trans ?_ (State.countFull_keep ..) rfl; exact Keep.refl _
    refine Keep.trans ?_ (State.rxFault_keep ..) rfl; exact Keep.refl _

theorem State.rxClose_keep (s : State) (p : Nat) (r : Rx) (rest : Bytes) (fcsOk pcsOk : Bool) : Keep 0x4024197b8b s (State.rxClose s p r rest fcsOk pcsOk) := by
  unfold State.rxClose
  with_reducible
    dsimp only; refine keep_ite ?_ ?_; exact Keep.refl _; split; refine Keep.trans ?_ (State.rxFault_keep ..) rfl
    refine Keep.trans ?_ (State.lateOversize_keep ..) rfl; refine Keep.trans ?_ (State.bump_keep ..) rfl
    refine keep_ite ?_ ?_; refine Keep.trans ?_ (State.countFull_keep ..) rfl; exact Keep.refl _; exact Keep.refl _; split
    split; refine Keep.trans ?_ (State.rxBadTail_keep ..) rfl; refine Keep.trans ?_ (State.bump_keep ..) rfl
    exact Keep.refl _; refine keep_ite ?_ ?_; refine Keep.trans ?_ (State.countFull_keep ..) rfl
    refine Keep.trans ?_ (State.bump_keep ..) rfl; exact Keep.refl _; refine Keep.trans ?_ (State.bump_keep ..) rfl
    exact Keep.refl _; refine Keep.trans ?_ (State.bump_keep ..) rfl; exact Keep.refl _; split
    refine Keep.trans ?_ (State.rxCount_keep ..) rfl; refine Keep.trans ?_ (State.rxTail_keep ..) rfl; exact Keep.refl _
    refine Keep.trans ?_ (State.rxHeld_keep ..) rfl; refine Keep.trans ?_ (State.rxCount_keep ..) rfl; exact Keep.refl _
    refine Keep.trans ?_ (State.rxCount_keep ..) rfl; exact Keep.refl _

theorem State.rxRefused_keep (s : State) (p : Nat) : KeepO 0x2 s (State.rxRefused s p) := by
  unfold State.rxRefused
  with_reducible
    refine keepO_ite ?_ ?_; refine keepO_some ?_; exact Keep.refl _; refine keepO_ite ?_ ?_; refine keepO_some ?_
    refine Keep.trans ?_ (State.bump_keep ..) rfl; exact Keep.refl _; exact keepO_none _

theorem State.rxCutOff_keep (s : State) (p : Nat) (r : Rx) : Keep 0x402418518b s (State.rxCutOff s p r) := by
  unfold State.rxCutOff
  with_reducible (refine keep_ite ?_ ?_; exact Keep.refl _; refine Keep.trans ?_ (State.rxFail_keep ..) rfl; exact Keep.refl _)

theorem State.frameStart_keep (s : State) (p phase : Nat) (head : Bytes) : Keep 0x4164185b9b s (State.frameStart s p phase head) := by
  unfold State.frameStart
  with_reducible
    split; refine keep_opt (by assumption) ?_; refine keepO_trans ?_ (State.rxRefused_keep ..) rfl; exact Keep.refl _
    dsimp only; refine Keep.trans ?_ (State.setMac_keep ..) rfl; refine Keep.trans ?_ (State.rxOpen_keep ..) rfl; split
    refine Keep.trans ?_ (State.endStomped_keep ..) rfl; refine Keep.trans ?_ (State.rxCutOff_keep ..) rfl
    refine Keep.trans ?_ (State.setMac_keep ..) rfl; exact Keep.refl _; exact Keep.refl _

theorem State.frameEnd_keep (s : State) (p : Nat) (rest : Bytes) (fcsOk pcsOk : Bool) : Keep 0x4164197b9b s (State.frameEnd s p rest fcsOk pcsOk) := by
  unfold State.frameEnd
  with_reducible
    refine keep_ite ?_ ?_; exact Keep.refl _; split; exact Keep.refl _
    refine Keep.trans ?_ (State.endStomped_keep ..) rfl; refine Keep.trans ?_ (State.rxClose_keep ..) rfl
    refine Keep.trans ?_ (State.setMac_keep ..) rfl; exact Keep.refl _

theorem State.assyFail_keep (s : State) (p : Nat) (pcsOk : Bool) : Keep 0x402418598b s (State.assyFail s p pcsOk) := by
  unfold State.assyFail
  with_reducible
    dsimp only; split; refine Keep.trans ?_ (State.bump_keep ..) rfl; refine Keep.trans ?_ (State.setMac_keep ..) rfl
    exact Keep.refl _; refine keep_ite ?_ ?_; refine Keep.trans ?_ (State.setMac_keep ..) rfl; exact Keep.refl _; split
    refine Keep.trans ?_ (State.rxFault_keep ..) rfl; refine Keep.trans ?_ (State.bump_keep ..) rfl
    refine Keep.trans ?_ (State.setMac_keep ..) rfl; exact Keep.refl _; refine Keep.trans ?_ (State.bump_keep ..) rfl
    refine Keep.trans ?_ (State.setMac_keep ..) rfl; exact Keep.refl _

theorem State.fragment_keep (s : State) (p phase : Nat) (d : Bytes) (count : Nat) (initial final crcOk pcsOk : Bool) : Keep 0x4024197b8b s (State.fragment s p phase d count initial final crcOk pcsOk) := by
  unfold State.fragment
  with_reducible
    split; refine keep_ite ?_ ?_; refine keep_opt (by assumption) ?_; refine keepO_trans ?_ (State.rxRefused_keep ..) rfl
    exact Keep.refl _; exact Keep.refl _; dsimp only; refine keep_ite ?_ ?_; refine keep_ite ?_ ?_
    refine Keep.trans ?_ (State.rxClose_keep ..) rfl; refine Keep.trans ?_ (State.rxOpen_keep ..) rfl
    refine Keep.trans ?_ (State.setMac_keep ..) rfl; refine keep_ite ?_ ?_
    refine Keep.trans ?_ (State.assyFail_keep ..) rfl; refine keep_ite ?_ ?_; exact Keep.refl _
    refine Keep.trans ?_ (State.bump_keep ..) rfl; exact Keep.refl _; refine keep_ite ?_ ?_; exact Keep.refl _
    refine Keep.trans ?_ (State.bump_keep ..) rfl; exact Keep.refl _; refine keep_ite ?_ ?_
    refine Keep.trans ?_ (State.setMac_keep ..) rfl; refine Keep.trans ?_ (State.rxOpen_keep ..) rfl
    refine Keep.trans ?_ (State.setMac_keep ..) rfl; refine keep_ite ?_ ?_
    refine Keep.trans ?_ (State.assyFail_keep ..) rfl; refine keep_ite ?_ ?_; exact Keep.refl _
    refine Keep.trans ?_ (State.bump_keep ..) rfl; exact Keep.refl _; refine keep_ite ?_ ?_; exact Keep.refl _
    refine Keep.trans ?_ (State.bump_keep ..) rfl; exact Keep.refl _; refine Keep.trans ?_ (State.assyFail_keep ..) rfl
    refine Keep.trans ?_ (State.setMac_keep ..) rfl; refine Keep.trans ?_ (State.rxOpen_keep ..) rfl
    refine Keep.trans ?_ (State.setMac_keep ..) rfl; refine keep_ite ?_ ?_
    refine Keep.trans ?_ (State.assyFail_keep ..) rfl; refine keep_ite ?_ ?_; exact Keep.refl _
    refine Keep.trans ?_ (State.bump_keep ..) rfl; exact Keep.refl _; refine keep_ite ?_ ?_; exact Keep.refl _
    refine Keep.trans ?_ (State.bump_keep ..) rfl; exact Keep.refl _; split; refine keep_ite ?_ ?_; refine keep_ite ?_ ?_
    exact Keep.refl _; refine Keep.trans ?_ (State.bump_keep ..) rfl; exact Keep.refl _
    refine Keep.trans ?_ (State.assyFail_keep ..) rfl; refine keep_ite ?_ ?_; exact Keep.refl _
    refine Keep.trans ?_ (State.bump_keep ..) rfl; exact Keep.refl _; refine keep_ite ?_ ?_
    refine Keep.trans ?_ (State.assyFail_keep ..) rfl; refine keep_ite ?_ ?_; exact Keep.refl _
    refine Keep.trans ?_ (State.bump_keep ..) rfl; exact Keep.refl _; refine keep_ite ?_ ?_
    refine Keep.trans ?_ (State.rxClose_keep ..) rfl; refine Keep.trans ?_ (State.setMac_keep ..) rfl
    refine keep_ite ?_ ?_; exact Keep.refl _; refine Keep.trans ?_ (State.bump_keep ..) rfl; exact Keep.refl _
    refine Keep.trans ?_ (State.setMac_keep ..) rfl; refine Keep.trans ?_ (State.rxMore_keep ..) rfl
    refine keep_ite ?_ ?_; exact Keep.refl _; refine Keep.trans ?_ (State.bump_keep ..) rfl; exact Keep.refl _

theorem State.lpiFold_keep (s : State) (p : Nat) (tx : Bool) : Keep 0x802 s (State.lpiFold s p tx) := by
  unfold State.lpiFold
  with_reducible
    dsimp only; refine keep_ite ?_ ?_; exact Keep.refl _; refine Keep.trans ?_ (State.setMac_keep ..) rfl
    refine Keep.trans ?_ (State.bumpBy_keep ..) rfl; exact Keep.refl _

theorem State.lpiRx_keep (s : State) (p : Nat) (idle : Bool) : Keep 0x803 s (State.lpiRx s p idle) := by
  unfold State.lpiRx
  with_reducible
    refine keep_ite ?_ ?_; refine keep_ite ?_ ?_; exact Keep.refl _; refine Keep.trans ?_ (State.setBit_keep ..) rfl
    refine Keep.trans ?_ (State.setMac_keep ..) rfl; exact Keep.refl _; refine Keep.trans ?_ (State.setBit_keep ..) rfl
    refine Keep.trans ?_ (State.setMac_keep ..) rfl; refine Keep.trans ?_ (State.lpiFold_keep ..) rfl; exact Keep.refl _

theorem State.lpiTxEnd_keep (s : State) (p : Nat) : Keep 0x803 s (State.lpiTxEnd s p) := by
  unfold State.lpiTxEnd
  with_reducible
    dsimp only; refine Keep.trans ?_ (State.setBit_keep ..) rfl; refine Keep.trans ?_ (State.setMac_keep ..) rfl
    refine Keep.trans ?_ (State.lpiFold_keep ..) rfl; exact Keep.refl _

theorem State.txAbort_keep (s : State) (p : Nat) (t : Tx) : Keep 0x4004185183 s (State.txAbort s p t) := by
  unfold State.txAbort
  with_reducible
    refine keep_ite ?_ ?_; exact Keep.refl _; dsimp only; split; refine Keep.trans ?_ (State.bump_keep ..) rfl
    exact Keep.refl _; split; refine Keep.trans ?_ (State.bump_keep ..) rfl; exact Keep.refl _; refine keep_ite ?_ ?_
    refine Keep.trans ?_ (State.dropCopy_keep ..) rfl; refine Keep.trans ?_ (State.outRelease_keep ..) rfl
    refine Keep.trans ?_ (State.noteSend_keep ..) rfl; refine Keep.trans ?_ (State.bump_keep ..) rfl; exact Keep.refl _
    refine Keep.trans ?_ (State.putCopy_keep ..) rfl; refine Keep.trans ?_ (State.outRelease_keep ..) rfl
    refine Keep.trans ?_ (State.noteSend_keep ..) rfl; refine Keep.trans ?_ (State.bump_keep ..) rfl; exact Keep.refl _

theorem State.linkCuts_keep (s : State) (p : Nat) : Keep 0x402418598b s (State.linkCuts s p) := by
  unfold State.linkCuts
  with_reducible
    dsimp only; split; refine Keep.trans ?_ (State.txAbort_keep ..) rfl; split
    refine Keep.trans ?_ (State.txAbort_keep ..) rfl; split; refine Keep.trans ?_ (State.rxCutOff_keep ..) rfl; split
    refine Keep.trans ?_ (State.rxCutOff_keep ..) rfl; refine Keep.trans ?_ (State.setMac_keep ..) rfl; exact Keep.refl _
    refine Keep.trans ?_ (State.setMac_keep ..) rfl; exact Keep.refl _; split
    refine Keep.trans ?_ (State.rxCutOff_keep ..) rfl; refine Keep.trans ?_ (State.setMac_keep ..) rfl; exact Keep.refl _
    refine Keep.trans ?_ (State.setMac_keep ..) rfl; exact Keep.refl _; split
    refine Keep.trans ?_ (State.rxCutOff_keep ..) rfl; split; refine Keep.trans ?_ (State.rxCutOff_keep ..) rfl
    refine Keep.trans ?_ (State.setMac_keep ..) rfl; exact Keep.refl _; refine Keep.trans ?_ (State.setMac_keep ..) rfl
    exact Keep.refl _; split; refine Keep.trans ?_ (State.rxCutOff_keep ..) rfl
    refine Keep.trans ?_ (State.setMac_keep ..) rfl; exact Keep.refl _; refine Keep.trans ?_ (State.setMac_keep ..) rfl
    exact Keep.refl _; split; refine Keep.trans ?_ (State.txAbort_keep ..) rfl; split
    refine Keep.trans ?_ (State.rxCutOff_keep ..) rfl; split; refine Keep.trans ?_ (State.rxCutOff_keep ..) rfl
    refine Keep.trans ?_ (State.setMac_keep ..) rfl; exact Keep.refl _; refine Keep.trans ?_ (State.setMac_keep ..) rfl
    exact Keep.refl _; split; refine Keep.trans ?_ (State.rxCutOff_keep ..) rfl
    refine Keep.trans ?_ (State.setMac_keep ..) rfl; exact Keep.refl _; refine Keep.trans ?_ (State.setMac_keep ..) rfl
    exact Keep.refl _; split; refine Keep.trans ?_ (State.rxCutOff_keep ..) rfl; split
    refine Keep.trans ?_ (State.rxCutOff_keep ..) rfl; refine Keep.trans ?_ (State.setMac_keep ..) rfl; exact Keep.refl _
    refine Keep.trans ?_ (State.setMac_keep ..) rfl; exact Keep.refl _; split
    refine Keep.trans ?_ (State.rxCutOff_keep ..) rfl; refine Keep.trans ?_ (State.setMac_keep ..) rfl; exact Keep.refl _
    refine Keep.trans ?_ (State.setMac_keep ..) rfl; exact Keep.refl _

theorem State.linkFlush_keep (s : State) (p : Nat) : Keep 0x4004185183 s (State.linkFlush s p) := by
  unfold State.linkFlush
  with_reducible
    refine keep_ite ?_ ?_; exact Keep.refl _; refine keep_each ?_ ?_; exact Keep.refl _; intro _; intro _; split
    refine Keep.trans ?_ (State.bump_keep ..) rfl; refine Keep.trans ?_ (State.copyGone_keep ..) rfl; exact Keep.refl _
    exact Keep.refl _

theorem State.linkLost_keep (s : State) (p : Nat) : Keep 0x416419599b s (State.linkLost s p) := by
  unfold State.linkLost
  with_reducible
    dsimp only; refine keep_ite ?_ ?_; refine Keep.trans ?_ (State.speedLevels_keep ..) rfl
    refine Keep.trans ?_ (State.setMac_keep ..) rfl; refine Keep.trans ?_ (State.setBit_keep ..) rfl
    refine Keep.trans ?_ (State.setBit_keep ..) rfl; refine Keep.trans ?_ (State.setBit_keep ..) rfl; exact Keep.refl _
    refine Keep.trans ?_ (State.sendEnd_keep ..) rfl; refine Keep.trans ?_ (State.raise_keep ..) rfl
    refine Keep.trans ?_ (State.bump_keep ..) rfl; refine Keep.trans ?_ (State.verifyRestart_keep ..) rfl
    refine Keep.trans ?_ (State.lpiTxEnd_keep ..) rfl; refine Keep.trans ?_ (State.lpiRx_keep ..) rfl
    refine Keep.trans ?_ (State.endStomped_keep ..) rfl; refine Keep.trans ?_ (State.linkFlush_keep ..) rfl
    refine Keep.trans ?_ (State.linkCuts_keep ..) rfl; refine Keep.trans ?_ (State.speedLevels_keep ..) rfl
    refine Keep.trans ?_ (State.setMac_keep ..) rfl; refine Keep.trans ?_ (State.setBit_keep ..) rfl
    refine Keep.trans ?_ (State.setBit_keep ..) rfl; refine Keep.trans ?_ (State.setBit_keep ..) rfl; exact Keep.refl _

theorem State.pcsGained_keep (s : State) (p : Nat) : Keep 0x801 s (State.pcsGained s p) := by
  unfold State.pcsGained
  with_reducible
    refine keep_ite ?_ ?_; exact Keep.refl _; refine Keep.trans ?_ (State.holdCheck_keep ..) rfl
    refine Keep.trans ?_ (State.setBit_keep ..) rfl; refine Keep.trans ?_ (State.setBit_keep ..) rfl; exact Keep.refl _

theorem State.linkGained_keep (s : State) (p : Nat) : Keep 0x2000180801 s (State.linkGained s p) := by
  unfold State.linkGained
  with_reducible
    refine keep_ite ?_ ?_; exact Keep.refl _; dsimp only; refine Keep.trans ?_ (State.raise_keep ..) rfl
    refine keep_mk_fresh ?_ rfl; refine Keep.trans ?_ (State.wr_keep ..) rfl; refine Keep.trans ?_ (State.wr_keep ..) rfl
    refine Keep.trans ?_ (State.setBit_keep ..) rfl; refine Keep.trans ?_ (State.setMac_keep ..) rfl; exact Keep.refl _

theorem State.pcsCfg_keep (s : State) (p : Nat) (w : Word) : Keep 0x416419599b s (State.pcsCfg s p w) := by
  unfold State.pcsCfg
  with_reducible
    dsimp only; refine keep_ite ?_ ?_; refine Keep.trans ?_ (State.plainWrite_keep ..) rfl; exact Keep.refl _
    refine Keep.trans ?_ (State.badMode_keep ..) rfl; refine Keep.trans ?_ (State.speedLevels_keep ..) rfl
    refine Keep.trans ?_ (State.linkLost_keep ..) rfl; refine Keep.trans ?_ (State.plainWrite_keep ..) rfl
    exact Keep.refl _

theorem State.anTake_keep (s : State) (p speed : Nat) (half : Bool) : Keep 0x416419599b s (State.anTake s p speed half) := by
  unfold State.anTake
  with_reducible
    refine keep_ite ?_ ?_; exact Keep.refl _; dsimp only; refine keep_ite ?_ ?_; exact Keep.refl _
    refine Keep.trans ?_ (State.holdCheck_keep ..) rfl; refine keep_ite ?_ ?_; refine keep_ite ?_ ?_
    refine Keep.trans ?_ (State.raise_keep ..) rfl; refine Keep.trans ?_ (State.speedLevels_keep ..) rfl
    refine Keep.trans ?_ (State.setMac_keep ..) rfl; refine keep_ite ?_ ?_
    refine Keep.trans ?_ (State.setBit_keep ..) rfl; refine Keep.trans ?_ (State.linkLost_keep ..) rfl; exact Keep.refl _
    exact Keep.refl _; refine Keep.trans ?_ (State.speedLevels_keep ..) rfl
    refine Keep.trans ?_ (State.setMac_keep ..) rfl; refine keep_ite ?_ ?_
    refine Keep.trans ?_ (State.setBit_keep ..) rfl; refine Keep.trans ?_ (State.linkLost_keep ..) rfl; exact Keep.refl _
    exact Keep.refl _; refine Keep.trans ?_ (State.raise_keep ..) rfl; refine keep_ite ?_ ?_
    refine Keep.trans ?_ (State.raise_keep ..) rfl; refine Keep.trans ?_ (State.speedLevels_keep ..) rfl
    refine Keep.trans ?_ (State.setMac_keep ..) rfl; refine keep_ite ?_ ?_
    refine Keep.trans ?_ (State.setBit_keep ..) rfl; refine Keep.trans ?_ (State.linkLost_keep ..) rfl; exact Keep.refl _
    exact Keep.refl _; refine Keep.trans ?_ (State.speedLevels_keep ..) rfl
    refine Keep.trans ?_ (State.setMac_keep ..) rfl; refine keep_ite ?_ ?_
    refine Keep.trans ?_ (State.setBit_keep ..) rfl; refine Keep.trans ?_ (State.linkLost_keep ..) rfl; exact Keep.refl _
    exact Keep.refl _

theorem State.fecWord_keep (s : State) (p : Nat) (bad : Bool) : Keep 0x180803 s (State.fecWord s p bad) := by
  unfold State.fecWord
  with_reducible
    refine keep_ite ?_ ?_; exact Keep.refl _; refine keep_ite ?_ ?_; refine Keep.trans ?_ (State.bump_keep ..) rfl
    exact Keep.refl _; dsimp only; refine Keep.trans ?_ (State.raise_keep ..) rfl
    refine Keep.trans ?_ (State.bump_keep ..) rfl; refine Keep.trans ?_ (State.setMac_keep ..) rfl; exact Keep.refl _

theorem State.pauseClass_keep (s : State) (p c time : Nat) : Keep 0x801 s (State.pauseClass s p c time) := by
  unfold State.pauseClass
  with_reducible
    dsimp only; refine keep_ite ?_ ?_; refine Keep.trans ?_ (State.setMac_keep ..) rfl
    refine Keep.trans ?_ (State.set_keep ..) rfl; exact Keep.refl _; refine keep_ite ?_ ?_
    refine Keep.trans ?_ (State.setMac_keep ..) rfl; exact Keep.refl _; refine Keep.trans ?_ (State.setMac_keep ..) rfl
    refine Keep.trans ?_ (State.set_keep ..) rfl; exact Keep.refl _

theorem State.pauseTake_keep (s : State) (p : Nat) (mask : BitVec 8) (times : List (BitVec 16)) : Keep 0x801 s (State.pauseTake s p mask times) := by
  unfold State.pauseTake
  with_reducible
    refine keep_each ?_ ?_; exact Keep.refl _; intro _; intro _; refine Keep.trans ?_ (State.pauseClass_keep ..) rfl
    exact Keep.refl _

theorem State.pfcTake_keep (s : State) (p : Nat) (enable : BitVec 8) (times : List (BitVec 16)) : Keep 0x803 s (State.pfcTake s p enable times) := by
  unfold State.pfcTake
  with_reducible
    refine keep_ite ?_ ?_; exact Keep.refl _; dsimp only; refine Keep.trans ?_ (State.pauseTake_keep ..) rfl
    refine keep_ite ?_ ?_; refine Keep.trans ?_ (State.bump_keep ..) rfl; exact Keep.refl _
    refine Keep.trans ?_ (State.bump_keep ..) rfl; refine Keep.trans ?_ (State.bump_keep ..) rfl; exact Keep.refl _

theorem State.pauseFrame_keep (s : State) (p : Nat) (time : BitVec 16) : Keep 0x803 s (State.pauseFrame s p time) := by
  unfold State.pauseFrame
  with_reducible
    refine keep_ite ?_ ?_; exact Keep.refl _; dsimp only; refine keep_ite ?_ ?_
    refine Keep.trans ?_ (State.pauseTake_keep ..) rfl; refine Keep.trans ?_ (State.bump_keep ..) rfl; exact Keep.refl _
    refine Keep.trans ?_ (State.bump_keep ..) rfl; exact Keep.refl _

theorem State.pauseOver_keep (s : State) (p c : Nat) : Keep 0x801 s (State.pauseOver s p c) := by
  unfold State.pauseOver
  with_reducible (refine keep_ite ?_ ?_; exact Keep.refl _; refine Keep.trans ?_ (State.pauseClass_keep ..) rfl; exact Keep.refl _)

theorem State.ctThresh_keep (s : State) (p : Nat) (w : Word) : Keep 0x180001 s (State.ctThresh s p w) := by
  unfold State.ctThresh
  with_reducible
    dsimp only; refine Keep.trans ?_ (State.set_keep ..) rfl; refine Keep.trans ?_ (State.plainWrite_keep ..) rfl
    exact Keep.refl _

end Sys2Proof.Machine
end

