-- ==== Sys2Proof/Laws/KeepMacTx.lean ====
section
/-! SUPPORT. What the operations of Machine/MacTx.lean keep. -/

set_option linter.unusedVariables false
set_option maxRecDepth 4000

namespace Sys2Proof.Machine

theorem State.pfcRefresh_keep (s : State) (p c : Nat) : Keep 0x800 s (State.pfcRefresh s p c) := by
  unfold State.pfcRefresh
  with_reducible
    dsimp only; refine keep_ite ?_ ?_; exact Keep.refl _; refine Keep.trans ?_ (State.pfcQueue_keep ..) rfl
    exact Keep.refl _

theorem State.hbSend_keep (s : State) (p : Nat) : Keep 0x4000800 s (State.hbSend s p) := by
  unfold State.hbSend
  with_reducible
    split; exact Keep.refl _; refine keep_ite ?_ ?_; exact Keep.refl _; dsimp only; refine keep_ite ?_ ?_
    refine Keep.trans ?_ (State.seqUsed_keep ..) rfl; refine keep_mk_twp ?_ rfl
    refine Keep.trans ?_ (State.setMac_keep ..) rfl; exact Keep.refl _; refine Keep.trans ?_ (State.setMac_keep ..) rfl
    exact Keep.refl _

theorem State.pfcSend_keep (s : State) (p : Nat) : Keep 0x4000800 s (State.pfcSend s p) := by
  unfold State.pfcSend
  with_reducible
    split; refine Keep.trans ?_ (State.hbSend_keep ..) rfl; exact Keep.refl _; refine keep_ite ?_ ?_; exact Keep.refl _
    dsimp only; refine Keep.trans ?_ (State.setMac_keep ..) rfl; exact Keep.refl _

theorem State.setAside_keep (s : State) (c : Copy) : Keep 0x180103 s (State.setAside s c) := by
  unfold State.setAside
  with_reducible
    refine Keep.trans ?_ (State.raise_keep ..) rfl; refine Keep.trans ?_ (State.bump_keep ..) rfl
    refine Keep.trans ?_ (State.asideStatus_keep ..) rfl; refine Keep.trans ?_ (State.putCopy_keep ..) rfl
    exact Keep.refl _

theorem State.engine_keep (s : State) (c : Copy) (f : Frame) (d : Bytes) (start : Nat) : Keep 0x13 s (State.engine s c f d start).2.2 := by
  unfold State.engine
  with_reducible
    split; refine keep_ite22 ?_ ?_; refine keep_pair ?_; exact Keep.refl _; dsimp only; refine keep_ite22 ?_ ?_
    refine keep_pair ?_; exact Keep.refl _; refine keep_pair ?_; refine Keep.trans ?_ (State.engineAct_keep ..) rfl
    exact Keep.refl _; refine keep_pair ?_; exact Keep.refl _

theorem State.shadowSend_keep (s : State) (c : Copy) (f : Frame) (close : Option Nat) : Keep 0x401418598b s (State.shadowSend s c f close) := by
  unfold State.shadowSend
  with_reducible
    dsimp only; split; refine Keep.trans ?_ (State.copyGone_keep ..) rfl; refine Keep.trans ?_ (State.secOut_keep ..) rfl
    exact Keep.refl _; refine Keep.trans ?_ (State.putCopy_keep ..) rfl; refine Keep.trans ?_ (State.setMac_keep ..) rfl
    refine Keep.trans ?_ (State.secOut_keep ..) rfl; exact Keep.refl _

theorem State.txBegin_keep (s : State) (c : Copy) (f : Frame) (desc : BitVec 128) : Keep 0x411418599b s (State.txBegin s c f desc) := by
  unfold State.txBegin
  with_reducible
    dsimp only; refine keep_ite ?_ ?_; refine Keep.trans ?_ (State.shadowSend_keep ..) rfl; exact Keep.refl _; split
    refine Keep.trans ?_ (State.putCopy_keep ..) rfl; refine Keep.trans ?_ (State.setMac_keep ..) rfl; exact Keep.refl _
    split; refine Keep.trans ?_ (State.copyGone_keep ..) rfl; refine Keep.trans ?_ (State.secOut_keep ..) rfl
    refine Keep.trans ?_ (State.engine_keep ..) rfl; exact Keep.refl _; refine keep_ite ?_ ?_
    refine Keep.trans ?_ (State.rxBegin_keep ..) rfl; refine Keep.trans ?_ (State.putCopy_keep ..) rfl
    refine Keep.trans ?_ (State.setMac_keep ..) rfl; refine Keep.trans ?_ (State.secOut_keep ..) rfl
    refine Keep.trans ?_ (State.engine_keep ..) rfl; exact Keep.refl _; refine Keep.trans ?_ (State.putCopy_keep ..) rfl
    refine Keep.trans ?_ (State.setMac_keep ..) rfl; refine Keep.trans ?_ (State.secOut_keep ..) rfl
    refine Keep.trans ?_ (State.engine_keep ..) rfl; exact Keep.refl _

theorem State.gwTake_keep (s : State) (p : Nat) : Keep 0x486218428b s (State.gwTake s p) := by
  unfold State.gwTake
  with_reducible
    split; split; split; refine keep_ite ?_ ?_; refine Keep.trans ?_ (State.gwCopy_keep ..) rfl; exact Keep.refl _
    exact Keep.refl _; exact Keep.refl _; exact Keep.refl _; exact Keep.refl _

theorem State.shadowDrop_keep (s : State) (p : Nat) : Keep 0x800 s (State.shadowDrop s p) := by
  unfold State.shadowDrop
  with_reducible (refine keep_ite ?_ ?_; refine Keep.trans ?_ (State.setMac_keep ..) rfl; exact Keep.refl _; exact Keep.refl _)

theorem State.shadowResume_keep (s : State) (p : Nat) : Keep 0x180903 s (State.shadowResume s p) := by
  unfold State.shadowResume
  with_reducible
    split; exact Keep.refl _; split; exact Keep.refl _; dsimp only; refine keep_ite ?_ ?_; exact Keep.refl _
    refine keep_ite ?_ ?_; split; refine Keep.trans ?_ (State.setAside_keep ..) rfl; exact Keep.refl _; exact Keep.refl _
    refine Keep.trans ?_ (State.setMac_keep ..) rfl; exact Keep.refl _

theorem State.select_keep (s : State) (p : Nat) (desc : BitVec 128) (z0 : Nat) : Keep 0x411418599b s (State.select s p desc z0) := by
  induction z0 generalizing s p desc with
  | zero => exact Keep.refl _
  | succ n ih =>
    unfold State.select
    with_reducible
      split; refine Keep.trans ?_ (State.shadowResume_keep ..) rfl; exact Keep.refl _; split; exact Keep.refl _
      refine keep_ite ?_ ?_; refine Keep.trans ?_ (ih ..) rfl; refine Keep.trans ?_ (State.setAside_keep ..) rfl
      exact Keep.refl _; refine keep_ite ?_ ?_; refine Keep.trans ?_ (ih ..) rfl
      refine Keep.trans ?_ (State.copyGone_keep ..) rfl; refine Keep.trans ?_ (State.bump_keep ..) rfl; exact Keep.refl _
      refine Keep.trans ?_ (State.txBegin_keep ..) rfl; exact Keep.refl _

theorem State.fenceSelect_keep (s : State) (p : Nat) : Keep 0x4004185183 s (State.fenceSelect s p) := by
  unfold State.fenceSelect
  with_reducible
    split; refine keep_ite ?_ ?_; refine keep_each ?_ ?_; exact Keep.refl _; intro _; intro _
    refine Keep.trans ?_ (State.bump_keep ..) rfl; refine Keep.trans ?_ (State.copyGone_keep ..) rfl; exact Keep.refl _
    exact Keep.refl _; exact Keep.refl _

theorem State.txStart_keep (s : State) (p : Nat) (desc : BitVec 128) : Keep 0x4976185b9b s (State.txStart s p desc) := by
  unfold State.txStart
  with_reducible
    refine keep_ite ?_ ?_; exact Keep.refl _; dsimp only; refine Keep.trans ?_ (State.gwTake_keep ..) rfl
    refine Keep.trans ?_ (State.select_keep ..) rfl; refine Keep.trans ?_ (State.fenceSelect_keep ..) rfl
    refine Keep.trans ?_ (State.shadowDrop_keep ..) rfl; exact Keep.refl _

theorem State.pfcEnd_keep (s : State) (p : Nat) (t : Tx) : Keep 0x4000000802 s (State.pfcEnd s p t) := by
  unfold State.pfcEnd
  with_reducible
    refine keep_ite ?_ ?_; exact Keep.refl _; dsimp only; refine keep_ite ?_ ?_
    refine Keep.trans ?_ (State.bump_keep ..) rfl; refine Keep.trans ?_ (State.emit_keep ..) rfl
    refine Keep.trans ?_ (State.setMac_keep ..) rfl; exact Keep.refl _; refine Keep.trans ?_ (State.bumpBy_keep ..) rfl
    refine Keep.trans ?_ (State.bump_keep ..) rfl; refine Keep.trans ?_ (State.emit_keep ..) rfl
    refine Keep.trans ?_ (State.setMac_keep ..) rfl; exact Keep.refl _

theorem State.recordRead_keep (s : State) (c : Copy) (e : EccState) : Keep 0x4004185183 s (State.recordRead s c e) := by
  unfold State.recordRead
  with_reducible
    split; exact Keep.refl _; refine Keep.trans ?_ (State.bump_keep ..) rfl; exact Keep.refl _
    refine Keep.trans ?_ (State.withdraw_keep ..) rfl; exact Keep.refl _

theorem State.txDone_keep (s : State) (c : Copy) (f : Frame) (t : Tx) (span : Nat) (e : EccState) : Keep 0x400418598b s (State.txDone s c f t span e) := by
  unfold State.txDone
  with_reducible
    dsimp only; refine Keep.trans ?_ (State.sendEnd_keep ..) rfl; refine Keep.trans ?_ (State.copyLeaves_keep ..) rfl
    refine Keep.trans ?_ (State.recordRead_keep ..) rfl; refine Keep.trans ?_ (State.setMac_keep ..) rfl; split
    refine keep_ite ?_ ?_; refine Keep.trans ?_ (State.bump_keep ..) rfl
    refine Keep.trans ?_ (State.monDelay_keep ..) rfl; refine Keep.trans ?_ (State.bump_keep ..) rfl; exact Keep.refl _
    refine Keep.trans ?_ (State.monDelay_keep ..) rfl; refine Keep.trans ?_ (State.bump_keep ..) rfl; exact Keep.refl _
    refine Keep.trans ?_ (State.monDelay_keep ..) rfl; refine Keep.trans ?_ (State.bump_keep ..) rfl; exact Keep.refl _

theorem State.shadowEnd_keep (s : State) (p : Nat) (t : Tx) : Keep 0x802 s (State.shadowEnd s p t) := by
  unfold State.shadowEnd
  with_reducible
    refine keep_ite ?_ ?_; exact Keep.refl _; dsimp only; refine Keep.trans ?_ (State.setMac_keep ..) rfl
    refine keep_ite ?_ ?_; refine Keep.trans ?_ (State.bump_keep ..) rfl; exact Keep.refl _; exact Keep.refl _

theorem State.copyEnd_keep (s : State) (p : Nat) (t : Tx) (c : Copy) (f : Frame) (e : EccState) : Keep 0x4966185b9b s (State.copyEnd s p t c f e) := by
  unfold State.copyEnd
  with_reducible
    dsimp only; refine keep_ite ?_ ?_; exact Keep.refl _; refine keep_ite ?_ ?_
    refine Keep.trans ?_ (State.txDone_keep ..) rfl; refine Keep.trans ?_ (State.bumpBy_keep ..) rfl
    refine Keep.trans ?_ (State.bump_keep ..) rfl; refine Keep.trans ?_ (State.emit_keep ..) rfl
    refine Keep.trans ?_ (State.engineLate_keep ..) rfl; exact Keep.refl _; refine keep_ite ?_ ?_
    refine Keep.trans ?_ (State.txDone_keep ..) rfl; refine Keep.trans ?_ (State.rxBack_keep ..) rfl
    refine Keep.trans ?_ (State.engineLate_keep ..) rfl; exact Keep.refl _; refine keep_ite ?_ ?_
    refine Keep.trans ?_ (State.txDone_keep ..) rfl; refine Keep.trans ?_ (State.gwLeave_keep ..) rfl
    refine keep_ite ?_ ?_; refine Keep.trans ?_ (State.gwCopy_keep ..) rfl
    refine Keep.trans ?_ (State.engineLate_keep ..) rfl; exact Keep.refl _
    refine Keep.trans ?_ (State.engineLate_keep ..) rfl; exact Keep.refl _; refine keep_ite ?_ ?_
    refine Keep.trans ?_ (State.gwCopy_keep ..) rfl; refine Keep.trans ?_ (State.engineLate_keep ..) rfl
    exact Keep.refl _; refine Keep.trans ?_ (State.engineLate_keep ..) rfl; exact Keep.refl _

theorem State.txEnd_keep (s : State) (p : Nat) (e : EccState) : Keep 0x4966185b9b s (State.txEnd s p e) := by
  unfold State.txEnd
  with_reducible
    refine keep_ite ?_ ?_; exact Keep.refl _; split; exact Keep.refl _; refine keep_ite ?_ ?_
    refine Keep.trans ?_ (State.shadowEnd_keep ..) rfl; exact Keep.refl _; split
    refine Keep.trans ?_ (State.pfcEnd_keep ..) rfl; exact Keep.refl _; split; exact Keep.refl _; split; exact Keep.refl _
    refine Keep.trans ?_ (State.copyEnd_keep ..) rfl; exact Keep.refl _

theorem State.underrun_keep (s : State) (p : Nat) : Keep 0x4144185993 s (State.underrun s p) := by
  unfold State.underrun
  with_reducible
    split; exact Keep.refl _; split; exact Keep.refl _; split; exact Keep.refl _; refine keep_ite ?_ ?_; exact Keep.refl _
    refine Keep.trans ?_ (State.stompEnd_keep ..) rfl; exact Keep.refl _

theorem State.fragEnd_keep (s : State) (p : Nat) (t : Tx) (n : Nat) (why : Option Bool) : Keep 0x802 s (State.fragEnd s p t n why) := by
  unfold State.fragEnd
  with_reducible
    dsimp only; refine Keep.trans ?_ (State.setMac_keep ..) rfl; split; refine Keep.trans ?_ (State.bump_keep ..) rfl
    exact Keep.refl _; refine Keep.trans ?_ (State.bump_keep ..) rfl; exact Keep.refl _; exact Keep.refl _

theorem State.preempt_keep (s : State) (p : Nat) : Keep 0x4000000902 s (State.preempt s p) := by
  unfold State.preempt
  with_reducible
    split; exact Keep.refl _; dsimp only; refine keep_ite ?_ ?_; exact Keep.refl _; split; split; refine keep_ite ?_ ?_
    refine Keep.trans ?_ (State.fragEnd_keep ..) rfl; exact Keep.refl _; exact Keep.refl _; exact Keep.refl _; split
    exact Keep.refl _; split; refine keep_ite ?_ ?_; exact Keep.refl _; refine Keep.trans ?_ (State.putCopy_keep ..) rfl
    refine Keep.trans ?_ (State.fragEnd_keep ..) rfl; refine Keep.trans ?_ (State.emit_keep ..) rfl
    refine Keep.trans ?_ (State.bump_keep ..) rfl; exact Keep.refl _; exact Keep.refl _

theorem State.eligTick_keep (s : State) (p : Nat) : Keep 0x800 s (State.eligTick s p) := by
  unfold State.eligTick
  with_reducible (refine keep_ite ?_ ?_; refine Keep.trans ?_ (State.setMac_keep ..) rfl; exact Keep.refl _; exact Keep.refl _)

theorem State.lpiEnter_keep (s : State) (p : Nat) : Keep 0x803 s (State.lpiEnter s p) := by
  unfold State.lpiEnter
  with_reducible
    dsimp only; refine keep_ite ?_ ?_; exact Keep.refl _; refine Keep.trans ?_ (State.bump_keep ..) rfl
    refine Keep.trans ?_ (State.setBit_keep ..) rfl; refine Keep.trans ?_ (State.setMac_keep ..) rfl; exact Keep.refl _

theorem State.lpiExit_keep (s : State) (p : Nat) : Keep 0x803 s (State.lpiExit s p) := by
  unfold State.lpiExit
  with_reducible
    refine keep_ite ?_ ?_; exact Keep.refl _; dsimp only; refine Keep.trans ?_ (State.setMac_keep ..) rfl
    refine Keep.trans ?_ (State.lpiTxEnd_keep ..) rfl; exact Keep.refl _

end Sys2Proof.Machine
end

