-- ==== Sys2Proof/Laws/KeepRegStore.lean ====
section
/-! SUPPORT. What the operations of Machine/RegStore.lean keep. -/

set_option linter.unusedVariables false
set_option maxRecDepth 4000

namespace Sys2Proof.Machine

theorem State.grpWrite_keep (s : State) (g : Nat) (w : Word) : Keep 0x180001 s (State.grpWrite s g w) := by
  unfold State.grpWrite
  with_reducible
    refine keep_ite ?_ ?_; refine Keep.trans ?_ (State.raise_keep ..) rfl; exact Keep.refl _; refine keep_ite ?_ ?_
    refine Keep.trans ?_ (State.raise_keep ..) rfl; exact Keep.refl _; refine Keep.trans ?_ (State.plainWrite_keep ..) rfl
    exact Keep.refl _

theorem State.newVectors_keep (s : State) (had : List Nat) : Keep 0x4000800000 s (State.newVectors s had) := by
  unfold State.newVectors
  with_reducible
    refine keep_each ?_ ?_; exact Keep.refl _; intro _; intro _; refine keep_ite ?_ ?_
    refine Keep.trans ?_ (State.sendVector_keep ..) rfl; exact Keep.refl _; exact Keep.refl _

theorem State.srcCfgWrite_keep (s : State) (ini : Initiator) (loader : Bool) (src : Nat) (w : Word) : Keep 0x6042980023 s (State.srcCfgWrite s ini loader src w) := by
  unfold State.srcCfgWrite
  with_reducible
    refine keep_ite ?_ ?_; refine Keep.trans ?_ (State.violation_keep ..) rfl; exact Keep.refl _; dsimp only
    refine keep_ite ?_ ?_; refine Keep.trans ?_ (State.isolateClaim_keep ..) rfl
    refine Keep.trans ?_ (State.fltLevels_keep ..) rfl; refine Keep.trans ?_ (State.newVectors_keep ..) rfl
    refine Keep.trans ?_ (State.plainWrite_keep ..) rfl; exact Keep.refl _
    refine Keep.trans ?_ (State.fltLevels_keep ..) rfl; refine Keep.trans ?_ (State.newVectors_keep ..) rfl
    refine Keep.trans ?_ (State.plainWrite_keep ..) rfl; exact Keep.refl _

theorem State.timStore_keep (s : State) (a : Nat) (w : Word) : Keep 0x180013 s (State.timStore s a w) := by
  unfold State.timStore
  with_reducible
    refine keep_ite ?_ ?_; refine Keep.trans ?_ (State.timSelect_keep ..) rfl
    refine Keep.trans ?_ (State.plainWrite_keep ..) rfl; exact Keep.refl _; refine keep_ite ?_ ?_
    refine Keep.trans ?_ (State.wtFrac_keep ..) rfl; exact Keep.refl _; refine keep_ite ?_ ?_
    refine Keep.trans ?_ (State.wtIncr_keep ..) rfl; exact Keep.refl _; refine keep_ite ?_ ?_
    refine Keep.trans ?_ (State.domCfgWrite_keep ..) rfl; exact Keep.refl _; refine keep_ite ?_ ?_
    refine Keep.trans ?_ (State.domCfgWrite_keep ..) rfl; exact Keep.refl _
    refine Keep.trans ?_ (State.plainWrite_keep ..) rfl; exact Keep.refl _

theorem State.tioStore_keep (s : State) (a : Nat) (w : Word) : Keep 0x40001802e3 s (State.tioStore s a w) := by
  unfold State.tioStore
  with_reducible
    dsimp only; refine keep_ite ?_ ?_; refine Keep.trans ?_ (State.mkCtrlWrite_keep ..) rfl; exact Keep.refl _
    refine keep_ite ?_ ?_; refine Keep.trans ?_ (State.pinCfgWrite_keep ..) rfl; exact Keep.refl _; refine keep_ite ?_ ?_
    refine Keep.trans ?_ (State.evtFull_keep ..) rfl; refine Keep.trans ?_ (State.plainWrite_keep ..) rfl
    exact Keep.refl _; refine Keep.trans ?_ (State.plainWrite_keep ..) rfl; exact Keep.refl _

theorem State.macStore_keep (s : State) (a : Nat) (w : Word) : Keep 0x416419599b s (State.macStore s a w) := by
  unfold State.macStore
  with_reducible
    dsimp only; refine keep_ite ?_ ?_; refine Keep.trans ?_ (State.pcsCfg_keep ..) rfl; exact Keep.refl _
    refine keep_ite ?_ ?_; refine Keep.trans ?_ (State.ctThresh_keep ..) rfl; exact Keep.refl _; refine keep_ite ?_ ?_
    refine Keep.trans ?_ (State.xoffAll_keep ..) rfl; refine Keep.trans ?_ (State.plainWrite_keep ..) rfl
    exact Keep.refl _; refine keep_ite ?_ ?_; refine Keep.trans ?_ (State.pmtCfg_keep ..) rfl
    refine Keep.trans ?_ (State.plainWrite_keep ..) rfl; exact Keep.refl _
    refine Keep.trans ?_ (State.plainWrite_keep ..) rfl; exact Keep.refl _

theorem State.lkpStore_keep (s : State) (a : Nat) (w : Word) : Keep 0x180001 s (State.lkpStore s a w) := by
  unfold State.lkpStore
  with_reducible
    dsimp only; refine keep_ite ?_ ?_; refine Keep.trans ?_ (State.adminWrite_keep ..) rfl; exact Keep.refl _
    refine Keep.trans ?_ (State.plainWrite_keep ..) rfl; exact Keep.refl _

theorem State.canStore_keep (s : State) (a : Nat) (w : Word) : Keep 0x2180001 s (State.canStore s a w) := by
  unfold State.canStore
  with_reducible
    dsimp only; refine keep_ite ?_ ?_; refine Keep.trans ?_ (State.canCtrl_keep ..) rfl; exact Keep.refl _
    refine keep_ite ?_ ?_; refine keep_ite ?_ ?_; refine Keep.trans ?_ (State.raise_keep ..) rfl; exact Keep.refl _
    refine Keep.trans ?_ (State.plainWrite_keep ..) rfl; exact Keep.refl _
    refine Keep.trans ?_ (State.plainWrite_keep ..) rfl; exact Keep.refl _

theorem State.cphStore_keep (s : State) (a : Nat) (w : Word) : Keep 0x20180001 s (State.cphStore s a w) := by
  unfold State.cphStore
  with_reducible
    dsimp only; refine keep_ite ?_ ?_; refine Keep.trans ?_ (State.secCfgWrite_keep ..) rfl; exact Keep.refl _
    refine keep_ite ?_ ?_; refine Keep.trans ?_ (State.laCtrLo_keep ..) rfl; exact Keep.refl _; refine keep_ite ?_ ?_
    refine Keep.trans ?_ (State.laCtrHi_keep ..) rfl; exact Keep.refl _
    refine Keep.trans ?_ (State.plainWrite_keep ..) rfl; exact Keep.refl _

theorem State.cpuStore_keep (s : State) (ini : Initiator) (loader : Bool) (a : Nat) (w : Word) : Keep 0x80180001 s (State.cpuStore s ini loader a w) := by
  unfold State.cpuStore
  with_reducible
    dsimp only; refine keep_ite ?_ ?_; refine keep_ite ?_ ?_; refine Keep.trans ?_ (State.plainWrite_keep ..) rfl
    exact Keep.refl _; refine Keep.trans ?_ (State.violation_keep ..) rfl
    refine Keep.trans ?_ (State.plainWrite_keep ..) rfl; exact Keep.refl _; refine keep_ite ?_ ?_
    refine Keep.trans ?_ (State.plainWrite_keep ..) rfl; exact Keep.refl _; refine keep_ite ?_ ?_
    refine Keep.trans ?_ (State.mtimecmpHi_keep ..) rfl; exact Keep.refl _
    refine Keep.trans ?_ (State.plainWrite_keep ..) rfl; exact Keep.refl _

theorem State.brgStore_keep (s : State) (a : Nat) (w : Word) : Keep 0x100180001 s (State.brgStore s a w) := by
  unfold State.brgStore
  with_reducible
    dsimp only; refine keep_ite ?_ ?_; refine Keep.trans ?_ (State.tailWrite_keep ..) rfl; exact Keep.refl _
    refine keep_ite ?_ ?_; refine Keep.trans ?_ (State.ringCtrl_keep ..) rfl; exact Keep.refl _
    refine Keep.trans ?_ (State.plainWrite_keep ..) rfl; exact Keep.refl _

theorem State.restStore_keep (s : State) (ini : Initiator) (loader : Bool) (a : Nat) (w : Word) : Keep 0x6042980823 s (State.restStore s ini loader a w) := by
  unfold State.restStore
  with_reducible
    refine keep_ite ?_ ?_; refine Keep.trans ?_ (State.plainWrite_keep ..) rfl; exact Keep.refl _; refine keep_ite ?_ ?_
    refine Keep.trans ?_ (State.plainWrite_keep ..) rfl; exact Keep.refl _; refine keep_ite ?_ ?_
    refine Keep.trans ?_ (State.xoffAll_keep ..) rfl; refine Keep.trans ?_ (State.plainWrite_keep ..) rfl
    exact Keep.refl _; refine keep_ite ?_ ?_; refine Keep.trans ?_ (State.bufSel_keep ..) rfl; exact Keep.refl _
    refine keep_ite ?_ ?_; refine Keep.trans ?_ (State.voqSel_keep ..) rfl; exact Keep.refl _; refine keep_ite ?_ ?_
    refine Keep.trans ?_ (State.ptrSel_keep ..) rfl; exact Keep.refl _; refine keep_ite ?_ ?_
    refine Keep.trans ?_ (State.tsSel_keep ..) rfl; exact Keep.refl _; refine keep_ite ?_ ?_
    refine Keep.trans ?_ (State.grpWrite_keep ..) rfl; exact Keep.refl _; refine keep_ite ?_ ?_
    refine Keep.trans ?_ (State.srcCfgWrite_keep ..) rfl; exact Keep.refl _
    refine Keep.trans ?_ (State.plainWrite_keep ..) rfl; exact Keep.refl _

theorem State.eventStore_keep (s : State) (a : Nat) (w : Word) : Keep 0x188001 s (State.eventStore s a w) := by
  unfold State.eventStore
  with_reducible
    dsimp only; refine Keep.trans ?_ (State.afterEvent_keep ..) rfl; refine keep_ite ?_ ?_; refine keep_mk_crs ?_ rfl
    refine keep_ite ?_ ?_; refine Keep.trans ?_ (State.wr_keep ..) rfl; refine Keep.trans ?_ (State.wr_keep ..) rfl
    refine Keep.trans ?_ (State.wr_keep ..) rfl; refine Keep.trans ?_ (State.wr_keep ..) rfl
    refine Keep.trans ?_ (State.plainWrite_keep ..) rfl; exact Keep.refl _
    refine Keep.trans ?_ (State.plainWrite_keep ..) rfl; exact Keep.refl _; refine keep_ite ?_ ?_
    refine Keep.trans ?_ (State.wr_keep ..) rfl; refine Keep.trans ?_ (State.wr_keep ..) rfl
    refine Keep.trans ?_ (State.wr_keep ..) rfl; refine Keep.trans ?_ (State.wr_keep ..) rfl
    refine Keep.trans ?_ (State.plainWrite_keep ..) rfl; exact Keep.refl _
    refine Keep.trans ?_ (State.plainWrite_keep ..) rfl; exact Keep.refl _

theorem State.regStore_keep (s : State) (ini : Initiator) (loader : Bool) (a : Nat) (w : Word) : Keep 0x61e699dbfb s (State.regStore s ini loader a w) := by
  unfold State.regStore
  with_reducible
    split; refine keep_ite ?_ ?_; refine keep_ite ?_ ?_; refine Keep.trans ?_ (State.ringClear_keep ..) rfl
    exact Keep.refl _; refine Keep.trans ?_ (State.eventStore_keep ..) rfl; exact Keep.refl _
    refine Keep.trans ?_ (State.afterEvent_keep ..) rfl; refine Keep.trans ?_ (State.plainWrite_keep ..) rfl
    exact Keep.refl _; split; refine Keep.trans ?_ (State.timStore_keep ..) rfl; exact Keep.refl _
    refine Keep.trans ?_ (State.tioStore_keep ..) rfl; exact Keep.refl _
    refine Keep.trans ?_ (State.macStore_keep ..) rfl; exact Keep.refl _
    refine Keep.trans ?_ (State.lkpStore_keep ..) rfl; exact Keep.refl _
    refine Keep.trans ?_ (State.canStore_keep ..) rfl; exact Keep.refl _
    refine Keep.trans ?_ (State.cphStore_keep ..) rfl; exact Keep.refl _
    refine Keep.trans ?_ (State.cpuStore_keep ..) rfl; exact Keep.refl _
    refine Keep.trans ?_ (State.brgStore_keep ..) rfl; exact Keep.refl _
    refine Keep.trans ?_ (State.restStore_keep ..) rfl; exact Keep.refl _

end Sys2Proof.Machine
end

