-- ==== Sys2Proof/Laws/KeepImage.lean ====
section
/-! SUPPORT. What the operations of Machine/Image.lean keep. -/

set_option linter.unusedVariables false
set_option maxRecDepth 4000

namespace Sys2Proof.Machine

theorem State.setFlash_keep (s : State) (a : Nat) (b : Byte) : Keep 0x8200000000 s (s.setFlash a b) :=
  ⟨fun w => State.wf_mk w id id id id id id id id (fun h => Sparse.wf_set _ _ h), id, rfl, fun p hp => by cases p <;> first | rfl | exact absurd hp (by decide)⟩

theorem State.flashStore_keep (s : State) (a : Nat) (z0 : Bytes) : Keep 0x8200000000 s (State.flashStore s a z0) := by
  induction z0 generalizing s a with
  | nil => exact Keep.refl _
  | cons x l ih =>
    unfold State.flashStore
    with_reducible (refine Keep.trans ?_ (ih ..) rfl; refine Keep.trans ?_ (State.setFlash_keep ..) rfl; exact Keep.refl _)

theorem State.flashErase_keep (s : State) (a n : Nat) : Keep 0x8200000000 s (s.flashErase a n) :=
  ⟨fun w => State.wf_mk w id id id id id id id id (fun h => Sparse.wf_filter _ h), id, rfl, fun p hp => by cases p <;> first | rfl | exact absurd hp (by decide)⟩

theorem State.flashOpen_keep (s : State) (a n : Nat) : Keep 0xa200000000 s (State.flashOpen s a n) := by
  unfold State.flashOpen
  with_reducible
    refine keep_each ?_ ?_; exact Keep.refl _; intro _; intro _; dsimp only
    refine Keep.trans ?_ (State.setFlash_keep ..) rfl; refine Keep.trans ?_ (State.draw_keep ..) rfl; exact Keep.refl _

theorem State.takeRecord_keep (s : State) : Keep 0x200000000 s (State.takeRecord s) := by
  unfold State.takeRecord
  with_reducible (dsimp only; refine keep_mk_boot ?_ rfl rfl; exact Keep.refl _)

theorem State.recordWritten_keep (s : State) (r : BankRec) : Keep 0x8200000000 s (State.recordWritten s r) := by
  unfold State.recordWritten
  with_reducible
    dsimp only; refine keep_mk_boot ?_ rfl rfl; refine Keep.trans ?_ (State.flashStore_keep ..) rfl
    refine Keep.trans ?_ (State.flashErase_keep ..) rfl; exact Keep.refl _

theorem State.copyCut_keep (s : State) : Keep 0xa200000000 s (State.copyCut s) := by
  unfold State.copyCut
  with_reducible
    dsimp only; refine keep_ite ?_ ?_; refine Keep.trans ?_ (State.flashErase_keep ..) rfl
    refine Keep.trans ?_ (State.flashOpen_keep ..) rfl; exact Keep.refl _
    refine Keep.trans ?_ (State.flashOpen_keep ..) rfl; exact Keep.refl _

theorem State.loaderRecord_keep (s : State) (r : BankRec) : Keep 0x8200000000 s (State.loaderRecord s r) := by
  unfold State.loaderRecord
  with_reducible (refine Keep.trans ?_ (State.recordWritten_keep ..) rfl; exact Keep.refl _)

end Sys2Proof.Machine
end

