-- ==== Sys2Proof/Laws/State.lean ====
section
/-! SUPPORT. One lemma per field of State and named update, true by rfl, so that no proof unfolds a record update; and what the reads of
registers, counters, table words and fields give after the writes. -/

namespace Sys2Proof.Machine

/-! ### wr -/

@[simp] theorem State.wr_cnts (s : State) (a : Nat) (w : Word) : (s.wr a w).cnts = s.cnts := (rfl)
@[simp] theorem State.wr_hold (s : State) (a : Nat) (w : Word) : (s.wr a w).hold = s.hold := (rfl)
@[simp] theorem State.wr_tabs (s : State) (a : Nat) (w : Word) : (s.wr a w).tabs = s.tabs := (rfl)
@[simp] theorem State.wr_tim (s : State) (a : Nat) (w : Word) : (s.wr a w).tim = s.tim := (rfl)
@[simp] theorem State.wr_pins (s : State) (a : Nat) (w : Word) : (s.wr a w).pins = s.pins := (rfl)
@[simp] theorem State.wr_marker (s : State) (a : Nat) (w : Word) : (s.wr a w).marker = s.marker := (rfl)
@[simp] theorem State.wr_frames (s : State) (a : Nat) (w : Word) : (s.wr a w).frames = s.frames := (rfl)
@[simp] theorem State.wr_copies (s : State) (a : Nat) (w : Word) : (s.wr a w).copies = s.copies := (rfl)
@[simp] theorem State.wr_nextFid (s : State) (a : Nat) (w : Word) : (s.wr a w).nextFid = s.nextFid := (rfl)
@[simp] theorem State.wr_nextCid (s : State) (a : Nat) (w : Word) : (s.wr a w).nextCid = s.nextCid := (rfl)
@[simp] theorem State.wr_macs (s : State) (a : Nat) (w : Word) : (s.wr a w).macs = s.macs := (rfl)
@[simp] theorem State.wr_slc (s : State) (a : Nat) (w : Word) : (s.wr a w).slc = s.slc := (rfl)
@[simp] theorem State.wr_str (s : State) (a : Nat) (w : Word) : (s.wr a w).str = s.str := (rfl)
@[simp] theorem State.wr_bsn (s : State) (a : Nat) (w : Word) : (s.wr a w).bsn = s.bsn := (rfl)
@[simp] theorem State.wr_crs (s : State) (a : Nat) (w : Word) : (s.wr a w).crs = s.crs := (rfl)
@[simp] theorem State.wr_lkp (s : State) (a : Nat) (w : Word) : (s.wr a w).lkp = s.lkp := (rfl)
@[simp] theorem State.wr_fltLog (s : State) (a : Nat) (w : Word) : (s.wr a w).fltLog = s.fltLog := (rfl)
@[simp] theorem State.wr_fltCond (s : State) (a : Nat) (w : Word) : (s.wr a w).fltCond = s.fltCond := (rfl)
@[simp] theorem State.wr_fltNow (s : State) (a : Nat) (w : Word) : (s.wr a w).fltNow = s.fltNow := (rfl)
@[simp] theorem State.wr_fltDue (s : State) (a : Nat) (w : Word) : (s.wr a w).fltDue = s.fltDue := (rfl)
@[simp] theorem State.wr_msixMask (s : State) (a : Nat) (w : Word) : (s.wr a w).msixMask = s.msixMask := (rfl)
@[simp] theorem State.wr_msixFn (s : State) (a : Nat) (w : Word) : (s.wr a w).msixFn = s.msixFn := (rfl)
@[simp] theorem State.wr_msixPba (s : State) (a : Nat) (w : Word) : (s.wr a w).msixPba = s.msixPba := (rfl)
@[simp] theorem State.wr_notes (s : State) (a : Nat) (w : Word) : (s.wr a w).notes = s.notes := (rfl)
@[simp] theorem State.wr_cans (s : State) (a : Nat) (w : Word) : (s.wr a w).cans = s.cans := (rfl)
@[simp] theorem State.wr_twp (s : State) (a : Nat) (w : Word) : (s.wr a w).twp = s.twp := (rfl)
@[simp] theorem State.wr_key (s : State) (a : Nat) (w : Word) : (s.wr a w).key = s.key := (rfl)
@[simp] theorem State.wr_cph (s : State) (a : Nat) (w : Word) : (s.wr a w).cph = s.cph := (rfl)
@[simp] theorem State.wr_la (s : State) (a : Nat) (w : Word) : (s.wr a w).la = s.la := (rfl)
@[simp] theorem State.wr_gwe (s : State) (a : Nat) (w : Word) : (s.wr a w).gwe = s.gwe := (rfl)
@[simp] theorem State.wr_cpu (s : State) (a : Nat) (w : Word) : (s.wr a w).cpu = s.cpu := (rfl)
@[simp] theorem State.wr_brg (s : State) (a : Nat) (w : Word) : (s.wr a w).brg = s.brg := (rfl)
@[simp] theorem State.wr_boot (s : State) (a : Nat) (w : Word) : (s.wr a w).boot = s.boot := (rfl)
@[simp] theorem State.wr_upd (s : State) (a : Nat) (w : Word) : (s.wr a w).upd = s.upd := (rfl)
@[simp] theorem State.wr_wak (s : State) (a : Nat) (w : Word) : (s.wr a w).wak = s.wak := (rfl)
@[simp] theorem State.wr_mem (s : State) (a : Nat) (w : Word) : (s.wr a w).mem = s.mem := (rfl)
@[simp] theorem State.wr_fresh (s : State) (a : Nat) (w : Word) : (s.wr a w).fresh = s.fresh := (rfl)
@[simp] theorem State.wr_wire (s : State) (a : Nat) (w : Word) : (s.wr a w).wire = s.wire := (rfl)
@[simp] theorem State.wr_pending (s : State) (a : Nat) (w : Word) : (s.wr a w).pending = s.pending := (rfl)
@[simp] theorem State.wr_wf {s : State} (h : s.wf = true) (a : Nat) (w : Word) : (s.wr a w).wf = true := (State.wr_keep ..).wf h

/-! ### set -/

@[simp] theorem State.set_cnts (s : State) (f : Fld) (v : Nat) : (s.set f v).cnts = s.cnts := (rfl)
@[simp] theorem State.set_hold (s : State) (f : Fld) (v : Nat) : (s.set f v).hold = s.hold := (rfl)
@[simp] theorem State.set_tabs (s : State) (f : Fld) (v : Nat) : (s.set f v).tabs = s.tabs := (rfl)
@[simp] theorem State.set_tim (s : State) (f : Fld) (v : Nat) : (s.set f v).tim = s.tim := (rfl)
@[simp] theorem State.set_pins (s : State) (f : Fld) (v : Nat) : (s.set f v).pins = s.pins := (rfl)
@[simp] theorem State.set_marker (s : State) (f : Fld) (v : Nat) : (s.set f v).marker = s.marker := (rfl)
@[simp] theorem State.set_frames (s : State) (f : Fld) (v : Nat) : (s.set f v).frames = s.frames := (rfl)
@[simp] theorem State.set_copies (s : State) (f : Fld) (v : Nat) : (s.set f v).copies = s.copies := (rfl)
@[simp] theorem State.set_nextFid (s : State) (f : Fld) (v : Nat) : (s.set f v).nextFid = s.nextFid := (rfl)
@[simp] theorem State.set_nextCid (s : State) (f : Fld) (v : Nat) : (s.set f v).nextCid = s.nextCid := (rfl)
@[simp] theorem State.set_macs (s : State) (f : Fld) (v : Nat) : (s.set f v).macs = s.macs := (rfl)
@[simp] theorem State.set_slc (s : State) (f : Fld) (v : Nat) : (s.set f v).slc = s.slc := (rfl)
@[simp] theorem State.set_str (s : State) (f : Fld) (v : Nat) : (s.set f v).str = s.str := (rfl)
@[simp] theorem State.set_bsn (s : State) (f : Fld) (v : Nat) : (s.set f v).bsn = s.bsn := (rfl)
@[simp] theorem State.set_crs (s : State) (f : Fld) (v : Nat) : (s.set f v).crs = s.crs := (rfl)
@[simp] theorem State.set_lkp (s : State) (f : Fld) (v : Nat) : (s.set f v).lkp = s.lkp := (rfl)
@[simp] theorem State.set_fltLog (s : State) (f : Fld) (v : Nat) : (s.set f v).fltLog = s.fltLog := (rfl)
@[simp] theorem State.set_fltCond (s : State) (f : Fld) (v : Nat) : (s.set f v).fltCond = s.fltCond := (rfl)
@[simp] theorem State.set_fltNow (s : State) (f : Fld) (v : Nat) : (s.set f v).fltNow = s.fltNow := (rfl)
@[simp] theorem State.set_fltDue (s : State) (f : Fld) (v : Nat) : (s.set f v).fltDue = s.fltDue := (rfl)
@[simp] theorem State.set_msixMask (s : State) (f : Fld) (v : Nat) : (s.set f v).msixMask = s.msixMask := (rfl)
@[simp] theorem State.set_msixFn (s : State) (f : Fld) (v : Nat) : (s.set f v).msixFn = s.msixFn := (rfl)
@[simp] theorem State.set_msixPba (s : State) (f : Fld) (v : Nat) : (s.set f v).msixPba = s.msixPba := (rfl)
@[simp] theorem State.set_notes (s : State) (f : Fld) (v : Nat) : (s.set f v).notes = s.notes := (rfl)
@[simp] theorem State.set_cans (s : State) (f : Fld) (v : Nat) : (s.set f v).cans = s.cans := (rfl)
@[simp] theorem State.set_twp (s : State) (f : Fld) (v : Nat) : (s.set f v).twp = s.twp := (rfl)
@[simp] theorem State.set_key (s : State) (f : Fld) (v : Nat) : (s.set f v).key = s.key := (rfl)
@[simp] theorem State.set_cph (s : State) (f : Fld) (v : Nat) : (s.set f v).cph = s.cph := (rfl)
@[simp] theorem State.set_la (s : State) (f : Fld) (v : Nat) : (s.set f v).la = s.la := (rfl)
@[simp] theorem State.set_gwe (s : State) (f : Fld) (v : Nat) : (s.set f v).gwe = s.gwe := (rfl)
@[simp] theorem State.set_cpu (s : State) (f : Fld) (v : Nat) : (s.set f v).cpu = s.cpu := (rfl)
@[simp] theorem State.set_brg (s : State) (f : Fld) (v : Nat) : (s.set f v).brg = s.brg := (rfl)
@[simp] theorem State.set_boot (s : State) (f : Fld) (v : Nat) : (s.set f v).boot = s.boot := (rfl)
@[simp] theorem State.set_upd (s : State) (f : Fld) (v : Nat) : (s.set f v).upd = s.upd := (rfl)
@[simp] theorem State.set_wak (s : State) (f : Fld) (v : Nat) : (s.set f v).wak = s.wak := (rfl)
@[simp] theorem State.set_mem (s : State) (f : Fld) (v : Nat) : (s.set f v).mem = s.mem := (rfl)
@[simp] theorem State.set_fresh (s : State) (f : Fld) (v : Nat) : (s.set f v).fresh = s.fresh := (rfl)
@[simp] theorem State.set_wire (s : State) (f : Fld) (v : Nat) : (s.set f v).wire = s.wire := (rfl)
@[simp] theorem State.set_pending (s : State) (f : Fld) (v : Nat) : (s.set f v).pending = s.pending := (rfl)
@[simp] theorem State.set_wf {s : State} (h : s.wf = true) (f : Fld) (v : Nat) : (s.set f v).wf = true := (State.set_keep ..).wf h

/-! ### setBit -/

@[simp] theorem State.setBit_cnts (s : State) (f : Fld) (b : Bool) : (s.setBit f b).cnts = s.cnts := (rfl)
@[simp] theorem State.setBit_hold (s : State) (f : Fld) (b : Bool) : (s.setBit f b).hold = s.hold := (rfl)
@[simp] theorem State.setBit_tabs (s : State) (f : Fld) (b : Bool) : (s.setBit f b).tabs = s.tabs := (rfl)
@[simp] theorem State.setBit_tim (s : State) (f : Fld) (b : Bool) : (s.setBit f b).tim = s.tim := (rfl)
@[simp] theorem State.setBit_pins (s : State) (f : Fld) (b : Bool) : (s.setBit f b).pins = s.pins := (rfl)
@[simp] theorem State.setBit_marker (s : State) (f : Fld) (b : Bool) : (s.setBit f b).marker = s.marker := (rfl)
@[simp] theorem State.setBit_frames (s : State) (f : Fld) (b : Bool) : (s.setBit f b).frames = s.frames := (rfl)
@[simp] theorem State.setBit_copies (s : State) (f : Fld) (b : Bool) : (s.setBit f b).copies = s.copies := (rfl)
@[simp] theorem State.setBit_nextFid (s : State) (f : Fld) (b : Bool) : (s.setBit f b).nextFid = s.nextFid := (rfl)
@[simp] theorem State.setBit_nextCid (s : State) (f : Fld) (b : Bool) : (s.setBit f b).nextCid = s.nextCid := (rfl)
@[simp] theorem State.setBit_macs (s : State) (f : Fld) (b : Bool) : (s.setBit f b).macs = s.macs := (rfl)
@[simp] theorem State.setBit_slc (s : State) (f : Fld) (b : Bool) : (s.setBit f b).slc = s.slc := (rfl)
@[simp] theorem State.setBit_str (s : State) (f : Fld) (b : Bool) : (s.setBit f b).str = s.str := (rfl)
@[simp] theorem State.setBit_bsn (s : State) (f : Fld) (b : Bool) : (s.setBit f b).bsn = s.bsn := (rfl)
@[simp] theorem State.setBit_crs (s : State) (f : Fld) (b : Bool) : (s.setBit f b).crs = s.crs := (rfl)
@[simp] theorem State.setBit_lkp (s : State) (f : Fld) (b : Bool) : (s.setBit f b).lkp = s.lkp := (rfl)
@[simp] theorem State.setBit_fltLog (s : State) (f : Fld) (b : Bool) : (s.setBit f b).fltLog = s.fltLog := (rfl)
@[simp] theorem State.setBit_fltCond (s : State) (f : Fld) (b : Bool) : (s.setBit f b).fltCond = s.fltCond := (rfl)
@[simp] theorem State.setBit_fltNow (s : State) (f : Fld) (b : Bool) : (s.setBit f b).fltNow = s.fltNow := (rfl)
@[simp] theorem State.setBit_fltDue (s : State) (f : Fld) (b : Bool) : (s.setBit f b).fltDue = s.fltDue := (rfl)
@[simp] theorem State.setBit_msixMask (s : State) (f : Fld) (b : Bool) : (s.setBit f b).msixMask = s.msixMask := (rfl)
@[simp] theorem State.setBit_msixFn (s : State) (f : Fld) (b : Bool) : (s.setBit f b).msixFn = s.msixFn := (rfl)
@[simp] theorem State.setBit_msixPba (s : State) (f : Fld) (b : Bool) : (s.setBit f b).msixPba = s.msixPba := (rfl)
@[simp] theorem State.setBit_notes (s : State) (f : Fld) (b : Bool) : (s.setBit f b).notes = s.notes := (rfl)
@[simp] theorem State.setBit_cans (s : State) (f : Fld) (b : Bool) : (s.setBit f b).cans = s.cans := (rfl)
@[simp] theorem State.setBit_twp (s : State) (f : Fld) (b : Bool) : (s.setBit f b).twp = s.twp := (rfl)
@[simp] theorem State.setBit_key (s : State) (f : Fld) (b : Bool) : (s.setBit f b).key = s.key := (rfl)
@[simp] theorem State.setBit_cph (s : State) (f : Fld) (b : Bool) : (s.setBit f b).cph = s.cph := (rfl)
@[simp] theorem State.setBit_la (s : State) (f : Fld) (b : Bool) : (s.setBit f b).la = s.la := (rfl)
@[simp] theorem State.setBit_gwe (s : State) (f : Fld) (b : Bool) : (s.setBit f b).gwe = s.gwe := (rfl)
@[simp] theorem State.setBit_cpu (s : State) (f : Fld) (b : Bool) : (s.setBit f b).cpu = s.cpu := (rfl)
@[simp] theorem State.setBit_brg (s : State) (f : Fld) (b : Bool) : (s.setBit f b).brg = s.brg := (rfl)
@[simp] theorem State.setBit_boot (s : State) (f : Fld) (b : Bool) : (s.setBit f b).boot = s.boot := (rfl)
@[simp] theorem State.setBit_upd (s : State) (f : Fld) (b : Bool) : (s.setBit f b).upd = s.upd := (rfl)
@[simp] theorem State.setBit_wak (s : State) (f : Fld) (b : Bool) : (s.setBit f b).wak = s.wak := (rfl)
@[simp] theorem State.setBit_mem (s : State) (f : Fld) (b : Bool) : (s.setBit f b).mem = s.mem := (rfl)
@[simp] theorem State.setBit_fresh (s : State) (f : Fld) (b : Bool) : (s.setBit f b).fresh = s.fresh := (rfl)
@[simp] theorem State.setBit_wire (s : State) (f : Fld) (b : Bool) : (s.setBit f b).wire = s.wire := (rfl)
@[simp] theorem State.setBit_pending (s : State) (f : Fld) (b : Bool) : (s.setBit f b).pending = s.pending := (rfl)
@[simp] theorem State.setBit_wf {s : State} (h : s.wf = true) (f : Fld) (b : Bool) : (s.setBit f b).wf = true := (State.setBit_keep ..).wf h

/-! ### setCnt -/

@[simp] theorem State.setCnt_regs (s : State) (a : Nat) (v : DWord) : (s.setCnt a v).regs = s.regs := (rfl)
@[simp] theorem State.setCnt_hold (s : State) (a : Nat) (v : DWord) : (s.setCnt a v).hold = s.hold := (rfl)
@[simp] theorem State.setCnt_tabs (s : State) (a : Nat) (v : DWord) : (s.setCnt a v).tabs = s.tabs := (rfl)
@[simp] theorem State.setCnt_tim (s : State) (a : Nat) (v : DWord) : (s.setCnt a v).tim = s.tim := (rfl)
@[simp] theorem State.setCnt_pins (s : State) (a : Nat) (v : DWord) : (s.setCnt a v).pins = s.pins := (rfl)
@[simp] theorem State.setCnt_marker (s : State) (a : Nat) (v : DWord) : (s.setCnt a v).marker = s.marker := (rfl)
@[simp] theorem State.setCnt_frames (s : State) (a : Nat) (v : DWord) : (s.setCnt a v).frames = s.frames := (rfl)
@[simp] theorem State.setCnt_copies (s : State) (a : Nat) (v : DWord) : (s.setCnt a v).copies = s.copies := (rfl)
@[simp] theorem State.setCnt_nextFid (s : State) (a : Nat) (v : DWord) : (s.setCnt a v).nextFid = s.nextFid := (rfl)
@[simp] theorem State.setCnt_nextCid (s : State) (a : Nat) (v : DWord) : (s.setCnt a v).nextCid = s.nextCid := (rfl)
@[simp] theorem State.setCnt_macs (s : State) (a : Nat) (v : DWord) : (s.setCnt a v).macs = s.macs := (rfl)
@[simp] theorem State.setCnt_slc (s : State) (a : Nat) (v : DWord) : (s.setCnt a v).slc = s.slc := (rfl)
@[simp] theorem State.setCnt_str (s : State) (a : Nat) (v : DWord) : (s.setCnt a v).str = s.str := (rfl)
@[simp] theorem State.setCnt_bsn (s : State) (a : Nat) (v : DWord) : (s.setCnt a v).bsn = s.bsn := (rfl)
@[simp] theorem State.setCnt_crs (s : State) (a : Nat) (v : DWord) : (s.setCnt a v).crs = s.crs := (rfl)
@[simp] theorem State.setCnt_lkp (s : State) (a : Nat) (v : DWord) : (s.setCnt a v).lkp = s.lkp := (rfl)
@[simp] theorem State.setCnt_fltLog (s : State) (a : Nat) (v : DWord) : (s.setCnt a v).fltLog = s.fltLog := (rfl)
@[simp] theorem State.setCnt_fltCond (s : State) (a : Nat) (v : DWord) : (s.setCnt a v).fltCond = s.fltCond := (rfl)
@[simp] theorem State.setCnt_fltNow (s : State) (a : Nat) (v : DWord) : (s.setCnt a v).fltNow = s.fltNow := (rfl)
@[simp] theorem State.setCnt_fltDue (s : State) (a : Nat) (v : DWord) : (s.setCnt a v).fltDue = s.fltDue := (rfl)
@[simp] theorem State.setCnt_msixMask (s : State) (a : Nat) (v : DWord) : (s.setCnt a v).msixMask = s.msixMask := (rfl)
@[simp] theorem State.setCnt_msixFn (s : State) (a : Nat) (v : DWord) : (s.setCnt a v).msixFn = s.msixFn := (rfl)
@[simp] theorem State.setCnt_msixPba (s : State) (a : Nat) (v : DWord) : (s.setCnt a v).msixPba = s.msixPba := (rfl)
@[simp] theorem State.setCnt_notes (s : State) (a : Nat) (v : DWord) : (s.setCnt a v).notes = s.notes := (rfl)
@[simp] theorem State.setCnt_cans (s : State) (a : Nat) (v : DWord) : (s.setCnt a v).cans = s.cans := (rfl)
@[simp] theorem State.setCnt_twp (s : State) (a : Nat) (v : DWord) : (s.setCnt a v).twp = s.twp := (rfl)
@[simp] theorem State.setCnt_key (s : State) (a : Nat) (v : DWord) : (s.setCnt a v).key = s.key := (rfl)
@[simp] theorem State.setCnt_cph (s : State) (a : Nat) (v : DWord) : (s.setCnt a v).cph = s.cph := (rfl)
@[simp] theorem State.setCnt_la (s : State) (a : Nat) (v : DWord) : (s.setCnt a v).la = s.la := (rfl)
@[simp] theorem State.setCnt_gwe (s : State) (a : Nat) (v : DWord) : (s.setCnt a v).gwe = s.gwe := (rfl)
@[simp] theorem State.setCnt_cpu (s : State) (a : Nat) (v : DWord) : (s.setCnt a v).cpu = s.cpu := (rfl)
@[simp] theorem State.setCnt_brg (s : State) (a : Nat) (v : DWord) : (s.setCnt a v).brg = s.brg := (rfl)
@[simp] theorem State.setCnt_boot (s : State) (a : Nat) (v : DWord) : (s.setCnt a v).boot = s.boot := (rfl)
@[simp] theorem State.setCnt_upd (s : State) (a : Nat) (v : DWord) : (s.setCnt a v).upd = s.upd := (rfl)
@[simp] theorem State.setCnt_wak (s : State) (a : Nat) (v : DWord) : (s.setCnt a v).wak = s.wak := (rfl)
@[simp] theorem State.setCnt_mem (s : State) (a : Nat) (v : DWord) : (s.setCnt a v).mem = s.mem := (rfl)
@[simp] theorem State.setCnt_fresh (s : State) (a : Nat) (v : DWord) : (s.setCnt a v).fresh = s.fresh := (rfl)
@[simp] theorem State.setCnt_wire (s : State) (a : Nat) (v : DWord) : (s.setCnt a v).wire = s.wire := (rfl)
@[simp] theorem State.setCnt_pending (s : State) (a : Nat) (v : DWord) : (s.setCnt a v).pending = s.pending := (rfl)
@[simp] theorem State.setCnt_wf {s : State} (h : s.wf = true) (a : Nat) (v : DWord) : (s.setCnt a v).wf = true := (State.setCnt_keep ..).wf h

/-! ### bumpBy -/

@[simp] theorem State.bumpBy_regs (s : State) (a n : Nat) : (s.bumpBy a n).regs = s.regs := (rfl)
@[simp] theorem State.bumpBy_hold (s : State) (a n : Nat) : (s.bumpBy a n).hold = s.hold := (rfl)
@[simp] theorem State.bumpBy_tabs (s : State) (a n : Nat) : (s.bumpBy a n).tabs = s.tabs := (rfl)
@[simp] theorem State.bumpBy_tim (s : State) (a n : Nat) : (s.bumpBy a n).tim = s.tim := (rfl)
@[simp] theorem State.bumpBy_pins (s : State) (a n : Nat) : (s.bumpBy a n).pins = s.pins := (rfl)
@[simp] theorem State.bumpBy_marker (s : State) (a n : Nat) : (s.bumpBy a n).marker = s.marker := (rfl)
@[simp] theorem State.bumpBy_frames (s : State) (a n : Nat) : (s.bumpBy a n).frames = s.frames := (rfl)
@[simp] theorem State.bumpBy_copies (s : State) (a n : Nat) : (s.bumpBy a n).copies = s.copies := (rfl)
@[simp] theorem State.bumpBy_nextFid (s : State) (a n : Nat) : (s.bumpBy a n).nextFid = s.nextFid := (rfl)
@[simp] theorem State.bumpBy_nextCid (s : State) (a n : Nat) : (s.bumpBy a n).nextCid = s.nextCid := (rfl)
@[simp] theorem State.bumpBy_macs (s : State) (a n : Nat) : (s.bumpBy a n).macs = s.macs := (rfl)
@[simp] theorem State.bumpBy_slc (s : State) (a n : Nat) : (s.bumpBy a n).slc = s.slc := (rfl)
@[simp] theorem State.bumpBy_str (s : State) (a n : Nat) : (s.bumpBy a n).str = s.str := (rfl)
@[simp] theorem State.bumpBy_bsn (s : State) (a n : Nat) : (s.bumpBy a n).bsn = s.bsn := (rfl)
@[simp] theorem State.bumpBy_crs (s : State) (a n : Nat) : (s.bumpBy a n).crs = s.crs := (rfl)
@[simp] theorem State.bumpBy_lkp (s : State) (a n : Nat) : (s.bumpBy a n).lkp = s.lkp := (rfl)
@[simp] theorem State.bumpBy_fltLog (s : State) (a n : Nat) : (s.bumpBy a n).fltLog = s.fltLog := (rfl)
@[simp] theorem State.bumpBy_fltCond (s : State) (a n : Nat) : (s.bumpBy a n).fltCond = s.fltCond := (rfl)
@[simp] theorem State.bumpBy_fltNow (s : State) (a n : Nat) : (s.bumpBy a n).fltNow = s.fltNow := (rfl)
@[simp] theorem State.bumpBy_fltDue (s : State) (a n : Nat) : (s.bumpBy a n).fltDue = s.fltDue := (rfl)
@[simp] theorem State.bumpBy_msixMask (s : State) (a n : Nat) : (s.bumpBy a n).msixMask = s.msixMask := (rfl)
@[simp] theorem State.bumpBy_msixFn (s : State) (a n : Nat) : (s.bumpBy a n).msixFn = s.msixFn := (rfl)
@[simp] theorem State.bumpBy_msixPba (s : State) (a n : Nat) : (s.bumpBy a n).msixPba = s.msixPba := (rfl)
@[simp] theorem State.bumpBy_notes (s : State) (a n : Nat) : (s.bumpBy a n).notes = s.notes := (rfl)
@[simp] theorem State.bumpBy_cans (s : State) (a n : Nat) : (s.bumpBy a n).cans = s.cans := (rfl)
@[simp] theorem State.bumpBy_twp (s : State) (a n : Nat) : (s.bumpBy a n).twp = s.twp := (rfl)
@[simp] theorem State.bumpBy_key (s : State) (a n : Nat) : (s.bumpBy a n).key = s.key := (rfl)
@[simp] theorem State.bumpBy_cph (s : State) (a n : Nat) : (s.bumpBy a n).cph = s.cph := (rfl)
@[simp] theorem State.bumpBy_la (s : State) (a n : Nat) : (s.bumpBy a n).la = s.la := (rfl)
@[simp] theorem State.bumpBy_gwe (s : State) (a n : Nat) : (s.bumpBy a n).gwe = s.gwe := (rfl)
@[simp] theorem State.bumpBy_cpu (s : State) (a n : Nat) : (s.bumpBy a n).cpu = s.cpu := (rfl)
@[simp] theorem State.bumpBy_brg (s : State) (a n : Nat) : (s.bumpBy a n).brg = s.brg := (rfl)
@[simp] theorem State.bumpBy_boot (s : State) (a n : Nat) : (s.bumpBy a n).boot = s.boot := (rfl)
@[simp] theorem State.bumpBy_upd (s : State) (a n : Nat) : (s.bumpBy a n).upd = s.upd := (rfl)
@[simp] theorem State.bumpBy_wak (s : State) (a n : Nat) : (s.bumpBy a n).wak = s.wak := (rfl)
@[simp] theorem State.bumpBy_mem (s : State) (a n : Nat) : (s.bumpBy a n).mem = s.mem := (rfl)
@[simp] theorem State.bumpBy_fresh (s : State) (a n : Nat) : (s.bumpBy a n).fresh = s.fresh := (rfl)
@[simp] theorem State.bumpBy_wire (s : State) (a n : Nat) : (s.bumpBy a n).wire = s.wire := (rfl)
@[simp] theorem State.bumpBy_pending (s : State) (a n : Nat) : (s.bumpBy a n).pending = s.pending := (rfl)
@[simp] theorem State.bumpBy_wf {s : State} (h : s.wf = true) (a n : Nat) : (s.bumpBy a n).wf = true := (State.bumpBy_keep ..).wf h

/-! ### bump -/

@[simp] theorem State.bump_regs (s : State) (a : Nat) : (s.bump a).regs = s.regs := (rfl)
@[simp] theorem State.bump_hold (s : State) (a : Nat) : (s.bump a).hold = s.hold := (rfl)
@[simp] theorem State.bump_tabs (s : State) (a : Nat) : (s.bump a).tabs = s.tabs := (rfl)
@[simp] theorem State.bump_tim (s : State) (a : Nat) : (s.bump a).tim = s.tim := (rfl)
@[simp] theorem State.bump_pins (s : State) (a : Nat) : (s.bump a).pins = s.pins := (rfl)
@[simp] theorem State.bump_marker (s : State) (a : Nat) : (s.bump a).marker = s.marker := (rfl)
@[simp] theorem State.bump_frames (s : State) (a : Nat) : (s.bump a).frames = s.frames := (rfl)
@[simp] theorem State.bump_copies (s : State) (a : Nat) : (s.bump a).copies = s.copies := (rfl)
@[simp] theorem State.bump_nextFid (s : State) (a : Nat) : (s.bump a).nextFid = s.nextFid := (rfl)
@[simp] theorem State.bump_nextCid (s : State) (a : Nat) : (s.bump a).nextCid = s.nextCid := (rfl)
@[simp] theorem State.bump_macs (s : State) (a : Nat) : (s.bump a).macs = s.macs := (rfl)
@[simp] theorem State.bump_slc (s : State) (a : Nat) : (s.bump a).slc = s.slc := (rfl)
@[simp] theorem State.bump_str (s : State) (a : Nat) : (s.bump a).str = s.str := (rfl)
@[simp] theorem State.bump_bsn (s : State) (a : Nat) : (s.bump a).bsn = s.bsn := (rfl)
@[simp] theorem State.bump_crs (s : State) (a : Nat) : (s.bump a).crs = s.crs := (rfl)
@[simp] theorem State.bump_lkp (s : State) (a : Nat) : (s.bump a).lkp = s.lkp := (rfl)
@[simp] theorem State.bump_fltLog (s : State) (a : Nat) : (s.bump a).fltLog = s.fltLog := (rfl)
@[simp] theorem State.bump_fltCond (s : State) (a : Nat) : (s.bump a).fltCond = s.fltCond := (rfl)
@[simp] theorem State.bump_fltNow (s : State) (a : Nat) : (s.bump a).fltNow = s.fltNow := (rfl)
@[simp] theorem State.bump_fltDue (s : State) (a : Nat) : (s.bump a).fltDue = s.fltDue := (rfl)
@[simp] theorem State.bump_msixMask (s : State) (a : Nat) : (s.bump a).msixMask = s.msixMask := (rfl)
@[simp] theorem State.bump_msixFn (s : State) (a : Nat) : (s.bump a).msixFn = s.msixFn := (rfl)
@[simp] theorem State.bump_msixPba (s : State) (a : Nat) : (s.bump a).msixPba = s.msixPba := (rfl)
@[simp] theorem State.bump_notes (s : State) (a : Nat) : (s.bump a).notes = s.notes := (rfl)
@[simp] theorem State.bump_cans (s : State) (a : Nat) : (s.bump a).cans = s.cans := (rfl)
@[simp] theorem State.bump_twp (s : State) (a : Nat) : (s.bump a).twp = s.twp := (rfl)
@[simp] theorem State.bump_key (s : State) (a : Nat) : (s.bump a).key = s.key := (rfl)
@[simp] theorem State.bump_cph (s : State) (a : Nat) : (s.bump a).cph = s.cph := (rfl)
@[simp] theorem State.bump_la (s : State) (a : Nat) : (s.bump a).la = s.la := (rfl)
@[simp] theorem State.bump_gwe (s : State) (a : Nat) : (s.bump a).gwe = s.gwe := (rfl)
@[simp] theorem State.bump_cpu (s : State) (a : Nat) : (s.bump a).cpu = s.cpu := (rfl)
@[simp] theorem State.bump_brg (s : State) (a : Nat) : (s.bump a).brg = s.brg := (rfl)
@[simp] theorem State.bump_boot (s : State) (a : Nat) : (s.bump a).boot = s.boot := (rfl)
@[simp] theorem State.bump_upd (s : State) (a : Nat) : (s.bump a).upd = s.upd := (rfl)
@[simp] theorem State.bump_wak (s : State) (a : Nat) : (s.bump a).wak = s.wak := (rfl)
@[simp] theorem State.bump_mem (s : State) (a : Nat) : (s.bump a).mem = s.mem := (rfl)
@[simp] theorem State.bump_fresh (s : State) (a : Nat) : (s.bump a).fresh = s.fresh := (rfl)
@[simp] theorem State.bump_wire (s : State) (a : Nat) : (s.bump a).wire = s.wire := (rfl)
@[simp] theorem State.bump_pending (s : State) (a : Nat) : (s.bump a).pending = s.pending := (rfl)
@[simp] theorem State.bump_wf {s : State} (h : s.wf = true) (a : Nat) : (s.bump a).wf = true := (State.bump_keep ..).wf h

/-! ### setHeld -/

@[simp] theorem State.setHeld_regs (s : State) (i : Initiator) (a : Nat) (w : Word) : (s.setHeld i a w).regs = s.regs := (rfl)
@[simp] theorem State.setHeld_cnts (s : State) (i : Initiator) (a : Nat) (w : Word) : (s.setHeld i a w).cnts = s.cnts := (rfl)
@[simp] theorem State.setHeld_tabs (s : State) (i : Initiator) (a : Nat) (w : Word) : (s.setHeld i a w).tabs = s.tabs := (rfl)
@[simp] theorem State.setHeld_tim (s : State) (i : Initiator) (a : Nat) (w : Word) : (s.setHeld i a w).tim = s.tim := (rfl)
@[simp] theorem State.setHeld_pins (s : State) (i : Initiator) (a : Nat) (w : Word) : (s.setHeld i a w).pins = s.pins := (rfl)
@[simp] theorem State.setHeld_marker (s : State) (i : Initiator) (a : Nat) (w : Word) : (s.setHeld i a w).marker = s.marker := (rfl)
@[simp] theorem State.setHeld_frames (s : State) (i : Initiator) (a : Nat) (w : Word) : (s.setHeld i a w).frames = s.frames := (rfl)
@[simp] theorem State.setHeld_copies (s : State) (i : Initiator) (a : Nat) (w : Word) : (s.setHeld i a w).copies = s.copies := (rfl)
@[simp] theorem State.setHeld_nextFid (s : State) (i : Initiator) (a : Nat) (w : Word) : (s.setHeld i a w).nextFid = s.nextFid := (rfl)
@[simp] theorem State.setHeld_nextCid (s : State) (i : Initiator) (a : Nat) (w : Word) : (s.setHeld i a w).nextCid = s.nextCid := (rfl)
@[simp] theorem State.setHeld_macs (s : State) (i : Initiator) (a : Nat) (w : Word) : (s.setHeld i a w).macs = s.macs := (rfl)
@[simp] theorem State.setHeld_slc (s : State) (i : Initiator) (a : Nat) (w : Word) : (s.setHeld i a w).slc = s.slc := (rfl)
@[simp] theorem State.setHeld_str (s : State) (i : Initiator) (a : Nat) (w : Word) : (s.setHeld i a w).str = s.str := (rfl)
@[simp] theorem State.setHeld_bsn (s : State) (i : Initiator) (a : Nat) (w : Word) : (s.setHeld i a w).bsn = s.bsn := (rfl)
@[simp] theorem State.setHeld_crs (s : State) (i : Initiator) (a : Nat) (w : Word) : (s.setHeld i a w).crs = s.crs := (rfl)
@[simp] theorem State.setHeld_lkp (s : State) (i : Initiator) (a : Nat) (w : Word) : (s.setHeld i a w).lkp = s.lkp := (rfl)
@[simp] theorem State.setHeld_fltLog (s : State) (i : Initiator) (a : Nat) (w : Word) : (s.setHeld i a w).fltLog = s.fltLog := (rfl)
@[simp] theorem State.setHeld_fltCond (s : State) (i : Initiator) (a : Nat) (w : Word) : (s.setHeld i a w).fltCond = s.fltCond := (rfl)
@[simp] theorem State.setHeld_fltNow (s : State) (i : Initiator) (a : Nat) (w : Word) : (s.setHeld i a w).fltNow = s.fltNow := (rfl)
@[simp] theorem State.setHeld_fltDue (s : State) (i : Initiator) (a : Nat) (w : Word) : (s.setHeld i a w).fltDue = s.fltDue := (rfl)
@[simp] theorem State.setHeld_msixMask (s : State) (i : Initiator) (a : Nat) (w : Word) : (s.setHeld i a w).msixMask = s.msixMask := (rfl)
@[simp] theorem State.setHeld_msixFn (s : State) (i : Initiator) (a : Nat) (w : Word) : (s.setHeld i a w).msixFn = s.msixFn := (rfl)
@[simp] theorem State.setHeld_msixPba (s : State) (i : Initiator) (a : Nat) (w : Word) : (s.setHeld i a w).msixPba = s.msixPba := (rfl)
@[simp] theorem State.setHeld_notes (s : State) (i : Initiator) (a : Nat) (w : Word) : (s.setHeld i a w).notes = s.notes := (rfl)
@[simp] theorem State.setHeld_cans (s : State) (i : Initiator) (a : Nat) (w : Word) : (s.setHeld i a w).cans = s.cans := (rfl)
@[simp] theorem State.setHeld_twp (s : State) (i : Initiator) (a : Nat) (w : Word) : (s.setHeld i a w).twp = s.twp := (rfl)
@[simp] theorem State.setHeld_key (s : State) (i : Initiator) (a : Nat) (w : Word) : (s.setHeld i a w).key = s.key := (rfl)
@[simp] theorem State.setHeld_cph (s : State) (i : Initiator) (a : Nat) (w : Word) : (s.setHeld i a w).cph = s.cph := (rfl)
@[simp] theorem State.setHeld_la (s : State) (i : Initiator) (a : Nat) (w : Word) : (s.setHeld i a w).la = s.la := (rfl)
@[simp] theorem State.setHeld_gwe (s : State) (i : Initiator) (a : Nat) (w : Word) : (s.setHeld i a w).gwe = s.gwe := (rfl)
@[simp] theorem State.setHeld_cpu (s : State) (i : Initiator) (a : Nat) (w : Word) : (s.setHeld i a w).cpu = s.cpu := (rfl)
@[simp] theorem State.setHeld_brg (s : State) (i : Initiator) (a : Nat) (w : Word) : (s.setHeld i a w).brg = s.brg := (rfl)
@[simp] theorem State.setHeld_boot (s : State) (i : Initiator) (a : Nat) (w : Word) : (s.setHeld i a w).boot = s.boot := (rfl)
@[simp] theorem State.setHeld_upd (s : State) (i : Initiator) (a : Nat) (w : Word) : (s.setHeld i a w).upd = s.upd := (rfl)
@[simp] theorem State.setHeld_wak (s : State) (i : Initiator) (a : Nat) (w : Word) : (s.setHeld i a w).wak = s.wak := (rfl)
@[simp] theorem State.setHeld_mem (s : State) (i : Initiator) (a : Nat) (w : Word) : (s.setHeld i a w).mem = s.mem := (rfl)
@[simp] theorem State.setHeld_fresh (s : State) (i : Initiator) (a : Nat) (w : Word) : (s.setHeld i a w).fresh = s.fresh := (rfl)
@[simp] theorem State.setHeld_wire (s : State) (i : Initiator) (a : Nat) (w : Word) : (s.setHeld i a w).wire = s.wire := (rfl)
@[simp] theorem State.setHeld_pending (s : State) (i : Initiator) (a : Nat) (w : Word) : (s.setHeld i a w).pending = s.pending := (rfl)
@[simp] theorem State.setHeld_wf {s : State} (h : s.wf = true) (i : Initiator) (a : Nat) (w : Word) : (s.setHeld i a w).wf = true := (State.setHeld_keep ..).wf h

/-! ### setTab -/

@[simp] theorem State.setTab_regs (s : State) (k : Nat) (v : Word) : (s.setTab k v).regs = s.regs := (rfl)
@[simp] theorem State.setTab_cnts (s : State) (k : Nat) (v : Word) : (s.setTab k v).cnts = s.cnts := (rfl)
@[simp] theorem State.setTab_hold (s : State) (k : Nat) (v : Word) : (s.setTab k v).hold = s.hold := (rfl)
@[simp] theorem State.setTab_tim (s : State) (k : Nat) (v : Word) : (s.setTab k v).tim = s.tim := (rfl)
@[simp] theorem State.setTab_pins (s : State) (k : Nat) (v : Word) : (s.setTab k v).pins = s.pins := (rfl)
@[simp] theorem State.setTab_marker (s : State) (k : Nat) (v : Word) : (s.setTab k v).marker = s.marker := (rfl)
@[simp] theorem State.setTab_frames (s : State) (k : Nat) (v : Word) : (s.setTab k v).frames = s.frames := (rfl)
@[simp] theorem State.setTab_copies (s : State) (k : Nat) (v : Word) : (s.setTab k v).copies = s.copies := (rfl)
@[simp] theorem State.setTab_nextFid (s : State) (k : Nat) (v : Word) : (s.setTab k v).nextFid = s.nextFid := (rfl)
@[simp] theorem State.setTab_nextCid (s : State) (k : Nat) (v : Word) : (s.setTab k v).nextCid = s.nextCid := (rfl)
@[simp] theorem State.setTab_macs (s : State) (k : Nat) (v : Word) : (s.setTab k v).macs = s.macs := (rfl)
@[simp] theorem State.setTab_slc (s : State) (k : Nat) (v : Word) : (s.setTab k v).slc = s.slc := (rfl)
@[simp] theorem State.setTab_str (s : State) (k : Nat) (v : Word) : (s.setTab k v).str = s.str := (rfl)
@[simp] theorem State.setTab_bsn (s : State) (k : Nat) (v : Word) : (s.setTab k v).bsn = s.bsn := (rfl)
@[simp] theorem State.setTab_crs (s : State) (k : Nat) (v : Word) : (s.setTab k v).crs = s.crs := (rfl)
@[simp] theorem State.setTab_lkp (s : State) (k : Nat) (v : Word) : (s.setTab k v).lkp = s.lkp := (rfl)
@[simp] theorem State.setTab_fltLog (s : State) (k : Nat) (v : Word) : (s.setTab k v).fltLog = s.fltLog := (rfl)
@[simp] theorem State.setTab_fltCond (s : State) (k : Nat) (v : Word) : (s.setTab k v).fltCond = s.fltCond := (rfl)
@[simp] theorem State.setTab_fltNow (s : State) (k : Nat) (v : Word) : (s.setTab k v).fltNow = s.fltNow := (rfl)
@[simp] theorem State.setTab_fltDue (s : State) (k : Nat) (v : Word) : (s.setTab k v).fltDue = s.fltDue := (rfl)
@[simp] theorem State.setTab_msixMask (s : State) (k : Nat) (v : Word) : (s.setTab k v).msixMask = s.msixMask := (rfl)
@[simp] theorem State.setTab_msixFn (s : State) (k : Nat) (v : Word) : (s.setTab k v).msixFn = s.msixFn := (rfl)
@[simp] theorem State.setTab_msixPba (s : State) (k : Nat) (v : Word) : (s.setTab k v).msixPba = s.msixPba := (rfl)
@[simp] theorem State.setTab_notes (s : State) (k : Nat) (v : Word) : (s.setTab k v).notes = s.notes := (rfl)
@[simp] theorem State.setTab_cans (s : State) (k : Nat) (v : Word) : (s.setTab k v).cans = s.cans := (rfl)
@[simp] theorem State.setTab_twp (s : State) (k : Nat) (v : Word) : (s.setTab k v).twp = s.twp := (rfl)
@[simp] theorem State.setTab_key (s : State) (k : Nat) (v : Word) : (s.setTab k v).key = s.key := (rfl)
@[simp] theorem State.setTab_cph (s : State) (k : Nat) (v : Word) : (s.setTab k v).cph = s.cph := (rfl)
@[simp] theorem State.setTab_la (s : State) (k : Nat) (v : Word) : (s.setTab k v).la = s.la := (rfl)
@[simp] theorem State.setTab_gwe (s : State) (k : Nat) (v : Word) : (s.setTab k v).gwe = s.gwe := (rfl)
@[simp] theorem State.setTab_cpu (s : State) (k : Nat) (v : Word) : (s.setTab k v).cpu = s.cpu := (rfl)
@[simp] theorem State.setTab_brg (s : State) (k : Nat) (v : Word) : (s.setTab k v).brg = s.brg := (rfl)
@[simp] theorem State.setTab_boot (s : State) (k : Nat) (v : Word) : (s.setTab k v).boot = s.boot := (rfl)
@[simp] theorem State.setTab_upd (s : State) (k : Nat) (v : Word) : (s.setTab k v).upd = s.upd := (rfl)
@[simp] theorem State.setTab_wak (s : State) (k : Nat) (v : Word) : (s.setTab k v).wak = s.wak := (rfl)
@[simp] theorem State.setTab_mem (s : State) (k : Nat) (v : Word) : (s.setTab k v).mem = s.mem := (rfl)
@[simp] theorem State.setTab_fresh (s : State) (k : Nat) (v : Word) : (s.setTab k v).fresh = s.fresh := (rfl)
@[simp] theorem State.setTab_wire (s : State) (k : Nat) (v : Word) : (s.setTab k v).wire = s.wire := (rfl)
@[simp] theorem State.setTab_pending (s : State) (k : Nat) (v : Word) : (s.setTab k v).pending = s.pending := (rfl)
@[simp] theorem State.setTab_wf {s : State} (h : s.wf = true) (k : Nat) (v : Word) : (s.setTab k v).wf = true := (State.setTab_keep ..).wf h

/-! ### setTw -/

@[simp] theorem State.setTw_regs (s : State) (blk tbl bank idx w : Nat) (v : Word) : (s.setTw blk tbl bank idx w v).regs = s.regs := State.setTab_regs ..
@[simp] theorem State.setTw_cnts (s : State) (blk tbl bank idx w : Nat) (v : Word) : (s.setTw blk tbl bank idx w v).cnts = s.cnts := State.setTab_cnts ..
@[simp] theorem State.setTw_hold (s : State) (blk tbl bank idx w : Nat) (v : Word) : (s.setTw blk tbl bank idx w v).hold = s.hold := State.setTab_hold ..
@[simp] theorem State.setTw_tim (s : State) (blk tbl bank idx w : Nat) (v : Word) : (s.setTw blk tbl bank idx w v).tim = s.tim := State.setTab_tim ..
@[simp] theorem State.setTw_pins (s : State) (blk tbl bank idx w : Nat) (v : Word) : (s.setTw blk tbl bank idx w v).pins = s.pins := State.setTab_pins ..
@[simp] theorem State.setTw_marker (s : State) (blk tbl bank idx w : Nat) (v : Word) : (s.setTw blk tbl bank idx w v).marker = s.marker := State.setTab_marker ..
@[simp] theorem State.setTw_frames (s : State) (blk tbl bank idx w : Nat) (v : Word) : (s.setTw blk tbl bank idx w v).frames = s.frames := State.setTab_frames ..
@[simp] theorem State.setTw_copies (s : State) (blk tbl bank idx w : Nat) (v : Word) : (s.setTw blk tbl bank idx w v).copies = s.copies := State.setTab_copies ..
@[simp] theorem State.setTw_nextFid (s : State) (blk tbl bank idx w : Nat) (v : Word) : (s.setTw blk tbl bank idx w v).nextFid = s.nextFid := State.setTab_nextFid ..
@[simp] theorem State.setTw_nextCid (s : State) (blk tbl bank idx w : Nat) (v : Word) : (s.setTw blk tbl bank idx w v).nextCid = s.nextCid := State.setTab_nextCid ..
@[simp] theorem State.setTw_macs (s : State) (blk tbl bank idx w : Nat) (v : Word) : (s.setTw blk tbl bank idx w v).macs = s.macs := State.setTab_macs ..
@[simp] theorem State.setTw_slc (s : State) (blk tbl bank idx w : Nat) (v : Word) : (s.setTw blk tbl bank idx w v).slc = s.slc := State.setTab_slc ..
@[simp] theorem State.setTw_str (s : State) (blk tbl bank idx w : Nat) (v : Word) : (s.setTw blk tbl bank idx w v).str = s.str := State.setTab_str ..
@[simp] theorem State.setTw_bsn (s : State) (blk tbl bank idx w : Nat) (v : Word) : (s.setTw blk tbl bank idx w v).bsn = s.bsn := State.setTab_bsn ..
@[simp] theorem State.setTw_crs (s : State) (blk tbl bank idx w : Nat) (v : Word) : (s.setTw blk tbl bank idx w v).crs = s.crs := State.setTab_crs ..
@[simp] theorem State.setTw_lkp (s : State) (blk tbl bank idx w : Nat) (v : Word) : (s.setTw blk tbl bank idx w v).lkp = s.lkp := State.setTab_lkp ..
@[simp] theorem State.setTw_fltLog (s : State) (blk tbl bank idx w : Nat) (v : Word) : (s.setTw blk tbl bank idx w v).fltLog = s.fltLog := State.setTab_fltLog ..
@[simp] theorem State.setTw_fltCond (s : State) (blk tbl bank idx w : Nat) (v : Word) : (s.setTw blk tbl bank idx w v).fltCond = s.fltCond := State.setTab_fltCond ..
@[simp] theorem State.setTw_fltNow (s : State) (blk tbl bank idx w : Nat) (v : Word) : (s.setTw blk tbl bank idx w v).fltNow = s.fltNow := State.setTab_fltNow ..
@[simp] theorem State.setTw_fltDue (s : State) (blk tbl bank idx w : Nat) (v : Word) : (s.setTw blk tbl bank idx w v).fltDue = s.fltDue := State.setTab_fltDue ..
@[simp] theorem State.setTw_msixMask (s : State) (blk tbl bank idx w : Nat) (v : Word) : (s.setTw blk tbl bank idx w v).msixMask = s.msixMask := State.setTab_msixMask ..
@[simp] theorem State.setTw_msixFn (s : State) (blk tbl bank idx w : Nat) (v : Word) : (s.setTw blk tbl bank idx w v).msixFn = s.msixFn := State.setTab_msixFn ..
@[simp] theorem State.setTw_msixPba (s : State) (blk tbl bank idx w : Nat) (v : Word) : (s.setTw blk tbl bank idx w v).msixPba = s.msixPba := State.setTab_msixPba ..
@[simp] theorem State.setTw_notes (s : State) (blk tbl bank idx w : Nat) (v : Word) : (s.setTw blk tbl bank idx w v).notes = s.notes := State.setTab_notes ..
@[simp] theorem State.setTw_cans (s : State) (blk tbl bank idx w : Nat) (v : Word) : (s.setTw blk tbl bank idx w v).cans = s.cans := State.setTab_cans ..
@[simp] theorem State.setTw_twp (s : State) (blk tbl bank idx w : Nat) (v : Word) : (s.setTw blk tbl bank idx w v).twp = s.twp := State.setTab_twp ..
@[simp] theorem State.setTw_key (s : State) (blk tbl bank idx w : Nat) (v : Word) : (s.setTw blk tbl bank idx w v).key = s.key := State.setTab_key ..
@[simp] theorem State.setTw_cph (s : State) (blk tbl bank idx w : Nat) (v : Word) : (s.setTw blk tbl bank idx w v).cph = s.cph := State.setTab_cph ..
@[simp] theorem State.setTw_la (s : State) (blk tbl bank idx w : Nat) (v : Word) : (s.setTw blk tbl bank idx w v).la = s.la := State.setTab_la ..
@[simp] theorem State.setTw_gwe (s : State) (blk tbl bank idx w : Nat) (v : Word) : (s.setTw blk tbl bank idx w v).gwe = s.gwe := State.setTab_gwe ..
@[simp] theorem State.setTw_cpu (s : State) (blk tbl bank idx w : Nat) (v : Word) : (s.setTw blk tbl bank idx w v).cpu = s.cpu := State.setTab_cpu ..
@[simp] theorem State.setTw_brg (s : State) (blk tbl bank idx w : Nat) (v : Word) : (s.setTw blk tbl bank idx w v).brg = s.brg := State.setTab_brg ..
@[simp] theorem State.setTw_boot (s : State) (blk tbl bank idx w : Nat) (v : Word) : (s.setTw blk tbl bank idx w v).boot = s.boot := State.setTab_boot ..
@[simp] theorem State.setTw_upd (s : State) (blk tbl bank idx w : Nat) (v : Word) : (s.setTw blk tbl bank idx w v).upd = s.upd := State.setTab_upd ..
@[simp] theorem State.setTw_wak (s : State) (blk tbl bank idx w : Nat) (v : Word) : (s.setTw blk tbl bank idx w v).wak = s.wak := State.setTab_wak ..
@[simp] theorem State.setTw_mem (s : State) (blk tbl bank idx w : Nat) (v : Word) : (s.setTw blk tbl bank idx w v).mem = s.mem := State.setTab_mem ..
@[simp] theorem State.setTw_fresh (s : State) (blk tbl bank idx w : Nat) (v : Word) : (s.setTw blk tbl bank idx w v).fresh = s.fresh := State.setTab_fresh ..
@[simp] theorem State.setTw_wire (s : State) (blk tbl bank idx w : Nat) (v : Word) : (s.setTw blk tbl bank idx w v).wire = s.wire := State.setTab_wire ..
@[simp] theorem State.setTw_pending (s : State) (blk tbl bank idx w : Nat) (v : Word) : (s.setTw blk tbl bank idx w v).pending = s.pending := State.setTab_pending ..
@[simp] theorem State.setTw_wf {s : State} (h : s.wf = true) (blk tbl bank idx w : Nat) (v : Word) : (s.setTw blk tbl bank idx w v).wf = true := (State.setTw_keep ..).wf h

/-! ### setPin -/

@[simp] theorem State.setPin_regs (s : State) (p : Nat) (x : Pin) : (s.setPin p x).regs = s.regs := (rfl)
@[simp] theorem State.setPin_cnts (s : State) (p : Nat) (x : Pin) : (s.setPin p x).cnts = s.cnts := (rfl)
@[simp] theorem State.setPin_hold (s : State) (p : Nat) (x : Pin) : (s.setPin p x).hold = s.hold := (rfl)
@[simp] theorem State.setPin_tabs (s : State) (p : Nat) (x : Pin) : (s.setPin p x).tabs = s.tabs := (rfl)
@[simp] theorem State.setPin_tim (s : State) (p : Nat) (x : Pin) : (s.setPin p x).tim = s.tim := (rfl)
@[simp] theorem State.setPin_marker (s : State) (p : Nat) (x : Pin) : (s.setPin p x).marker = s.marker := (rfl)
@[simp] theorem State.setPin_frames (s : State) (p : Nat) (x : Pin) : (s.setPin p x).frames = s.frames := (rfl)
@[simp] theorem State.setPin_copies (s : State) (p : Nat) (x : Pin) : (s.setPin p x).copies = s.copies := (rfl)
@[simp] theorem State.setPin_nextFid (s : State) (p : Nat) (x : Pin) : (s.setPin p x).nextFid = s.nextFid := (rfl)
@[simp] theorem State.setPin_nextCid (s : State) (p : Nat) (x : Pin) : (s.setPin p x).nextCid = s.nextCid := (rfl)
@[simp] theorem State.setPin_macs (s : State) (p : Nat) (x : Pin) : (s.setPin p x).macs = s.macs := (rfl)
@[simp] theorem State.setPin_slc (s : State) (p : Nat) (x : Pin) : (s.setPin p x).slc = s.slc := (rfl)
@[simp] theorem State.setPin_str (s : State) (p : Nat) (x : Pin) : (s.setPin p x).str = s.str := (rfl)
@[simp] theorem State.setPin_bsn (s : State) (p : Nat) (x : Pin) : (s.setPin p x).bsn = s.bsn := (rfl)
@[simp] theorem State.setPin_crs (s : State) (p : Nat) (x : Pin) : (s.setPin p x).crs = s.crs := (rfl)
@[simp] theorem State.setPin_lkp (s : State) (p : Nat) (x : Pin) : (s.setPin p x).lkp = s.lkp := (rfl)
@[simp] theorem State.setPin_fltLog (s : State) (p : Nat) (x : Pin) : (s.setPin p x).fltLog = s.fltLog := (rfl)
@[simp] theorem State.setPin_fltCond (s : State) (p : Nat) (x : Pin) : (s.setPin p x).fltCond = s.fltCond := (rfl)
@[simp] theorem State.setPin_fltNow (s : State) (p : Nat) (x : Pin) : (s.setPin p x).fltNow = s.fltNow := (rfl)
@[simp] theorem State.setPin_fltDue (s : State) (p : Nat) (x : Pin) : (s.setPin p x).fltDue = s.fltDue := (rfl)
@[simp] theorem State.setPin_msixMask (s : State) (p : Nat) (x : Pin) : (s.setPin p x).msixMask = s.msixMask := (rfl)
@[simp] theorem State.setPin_msixFn (s : State) (p : Nat) (x : Pin) : (s.setPin p x).msixFn = s.msixFn := (rfl)
@[simp] theorem State.setPin_msixPba (s : State) (p : Nat) (x : Pin) : (s.setPin p x).msixPba = s.msixPba := (rfl)
@[simp] theorem State.setPin_notes (s : State) (p : Nat) (x : Pin) : (s.setPin p x).notes = s.notes := (rfl)
@[simp] theorem State.setPin_cans (s : State) (p : Nat) (x : Pin) : (s.setPin p x).cans = s.cans := (rfl)
@[simp] theorem State.setPin_twp (s : State) (p : Nat) (x : Pin) : (s.setPin p x).twp = s.twp := (rfl)
@[simp] theorem State.setPin_key (s : State) (p : Nat) (x : Pin) : (s.setPin p x).key = s.key := (rfl)
@[simp] theorem State.setPin_cph (s : State) (p : Nat) (x : Pin) : (s.setPin p x).cph = s.cph := (rfl)
@[simp] theorem State.setPin_la (s : State) (p : Nat) (x : Pin) : (s.setPin p x).la = s.la := (rfl)
@[simp] theorem State.setPin_gwe (s : State) (p : Nat) (x : Pin) : (s.setPin p x).gwe = s.gwe := (rfl)
@[simp] theorem State.setPin_cpu (s : State) (p : Nat) (x : Pin) : (s.setPin p x).cpu = s.cpu := (rfl)
@[simp] theorem State.setPin_brg (s : State) (p : Nat) (x : Pin) : (s.setPin p x).brg = s.brg := (rfl)
@[simp] theorem State.setPin_boot (s : State) (p : Nat) (x : Pin) : (s.setPin p x).boot = s.boot := (rfl)
@[simp] theorem State.setPin_upd (s : State) (p : Nat) (x : Pin) : (s.setPin p x).upd = s.upd := (rfl)
@[simp] theorem State.setPin_wak (s : State) (p : Nat) (x : Pin) : (s.setPin p x).wak = s.wak := (rfl)
@[simp] theorem State.setPin_mem (s : State) (p : Nat) (x : Pin) : (s.setPin p x).mem = s.mem := (rfl)
@[simp] theorem State.setPin_fresh (s : State) (p : Nat) (x : Pin) : (s.setPin p x).fresh = s.fresh := (rfl)
@[simp] theorem State.setPin_wire (s : State) (p : Nat) (x : Pin) : (s.setPin p x).wire = s.wire := (rfl)
@[simp] theorem State.setPin_pending (s : State) (p : Nat) (x : Pin) : (s.setPin p x).pending = s.pending := (rfl)
@[simp] theorem State.setPin_wf {s : State} (h : s.wf = true) (p : Nat) (x : Pin) : (s.setPin p x).wf = true := (State.setPin_keep ..).wf h

/-! ### setMac -/

@[simp] theorem State.setMac_regs (s : State) (p : Nat) (x : Mac) : (s.setMac p x).regs = s.regs := (rfl)
@[simp] theorem State.setMac_cnts (s : State) (p : Nat) (x : Mac) : (s.setMac p x).cnts = s.cnts := (rfl)
@[simp] theorem State.setMac_hold (s : State) (p : Nat) (x : Mac) : (s.setMac p x).hold = s.hold := (rfl)
@[simp] theorem State.setMac_tabs (s : State) (p : Nat) (x : Mac) : (s.setMac p x).tabs = s.tabs := (rfl)
@[simp] theorem State.setMac_tim (s : State) (p : Nat) (x : Mac) : (s.setMac p x).tim = s.tim := (rfl)
@[simp] theorem State.setMac_pins (s : State) (p : Nat) (x : Mac) : (s.setMac p x).pins = s.pins := (rfl)
@[simp] theorem State.setMac_marker (s : State) (p : Nat) (x : Mac) : (s.setMac p x).marker = s.marker := (rfl)
@[simp] theorem State.setMac_frames (s : State) (p : Nat) (x : Mac) : (s.setMac p x).frames = s.frames := (rfl)
@[simp] theorem State.setMac_copies (s : State) (p : Nat) (x : Mac) : (s.setMac p x).copies = s.copies := (rfl)
@[simp] theorem State.setMac_nextFid (s : State) (p : Nat) (x : Mac) : (s.setMac p x).nextFid = s.nextFid := (rfl)
@[simp] theorem State.setMac_nextCid (s : State) (p : Nat) (x : Mac) : (s.setMac p x).nextCid = s.nextCid := (rfl)
@[simp] theorem State.setMac_slc (s : State) (p : Nat) (x : Mac) : (s.setMac p x).slc = s.slc := (rfl)
@[simp] theorem State.setMac_str (s : State) (p : Nat) (x : Mac) : (s.setMac p x).str = s.str := (rfl)
@[simp] theorem State.setMac_bsn (s : State) (p : Nat) (x : Mac) : (s.setMac p x).bsn = s.bsn := (rfl)
@[simp] theorem State.setMac_crs (s : State) (p : Nat) (x : Mac) : (s.setMac p x).crs = s.crs := (rfl)
@[simp] theorem State.setMac_lkp (s : State) (p : Nat) (x : Mac) : (s.setMac p x).lkp = s.lkp := (rfl)
@[simp] theorem State.setMac_fltLog (s : State) (p : Nat) (x : Mac) : (s.setMac p x).fltLog = s.fltLog := (rfl)
@[simp] theorem State.setMac_fltCond (s : State) (p : Nat) (x : Mac) : (s.setMac p x).fltCond = s.fltCond := (rfl)
@[simp] theorem State.setMac_fltNow (s : State) (p : Nat) (x : Mac) : (s.setMac p x).fltNow = s.fltNow := (rfl)
@[simp] theorem State.setMac_fltDue (s : State) (p : Nat) (x : Mac) : (s.setMac p x).fltDue = s.fltDue := (rfl)
@[simp] theorem State.setMac_msixMask (s : State) (p : Nat) (x : Mac) : (s.setMac p x).msixMask = s.msixMask := (rfl)
@[simp] theorem State.setMac_msixFn (s : State) (p : Nat) (x : Mac) : (s.setMac p x).msixFn = s.msixFn := (rfl)
@[simp] theorem State.setMac_msixPba (s : State) (p : Nat) (x : Mac) : (s.setMac p x).msixPba = s.msixPba := (rfl)
@[simp] theorem State.setMac_notes (s : State) (p : Nat) (x : Mac) : (s.setMac p x).notes = s.notes := (rfl)
@[simp] theorem State.setMac_cans (s : State) (p : Nat) (x : Mac) : (s.setMac p x).cans = s.cans := (rfl)
@[simp] theorem State.setMac_twp (s : State) (p : Nat) (x : Mac) : (s.setMac p x).twp = s.twp := (rfl)
@[simp] theorem State.setMac_key (s : State) (p : Nat) (x : Mac) : (s.setMac p x).key = s.key := (rfl)
@[simp] theorem State.setMac_cph (s : State) (p : Nat) (x : Mac) : (s.setMac p x).cph = s.cph := (rfl)
@[simp] theorem State.setMac_la (s : State) (p : Nat) (x : Mac) : (s.setMac p x).la = s.la := (rfl)
@[simp] theorem State.setMac_gwe (s : State) (p : Nat) (x : Mac) : (s.setMac p x).gwe = s.gwe := (rfl)
@[simp] theorem State.setMac_cpu (s : State) (p : Nat) (x : Mac) : (s.setMac p x).cpu = s.cpu := (rfl)
@[simp] theorem State.setMac_brg (s : State) (p : Nat) (x : Mac) : (s.setMac p x).brg = s.brg := (rfl)
@[simp] theorem State.setMac_boot (s : State) (p : Nat) (x : Mac) : (s.setMac p x).boot = s.boot := (rfl)
@[simp] theorem State.setMac_upd (s : State) (p : Nat) (x : Mac) : (s.setMac p x).upd = s.upd := (rfl)
@[simp] theorem State.setMac_wak (s : State) (p : Nat) (x : Mac) : (s.setMac p x).wak = s.wak := (rfl)
@[simp] theorem State.setMac_mem (s : State) (p : Nat) (x : Mac) : (s.setMac p x).mem = s.mem := (rfl)
@[simp] theorem State.setMac_fresh (s : State) (p : Nat) (x : Mac) : (s.setMac p x).fresh = s.fresh := (rfl)
@[simp] theorem State.setMac_wire (s : State) (p : Nat) (x : Mac) : (s.setMac p x).wire = s.wire := (rfl)
@[simp] theorem State.setMac_pending (s : State) (p : Nat) (x : Mac) : (s.setMac p x).pending = s.pending := (rfl)
@[simp] theorem State.setMac_wf {s : State} (h : s.wf = true) (p : Nat) (x : Mac) : (s.setMac p x).wf = true := (State.setMac_keep ..).wf h

/-! ### setCan -/

@[simp] theorem State.setCan_regs (s : State) (c : Nat) (x : CanCh) : (s.setCan c x).regs = s.regs := (rfl)
@[simp] theorem State.setCan_cnts (s : State) (c : Nat) (x : CanCh) : (s.setCan c x).cnts = s.cnts := (rfl)
@[simp] theorem State.setCan_hold (s : State) (c : Nat) (x : CanCh) : (s.setCan c x).hold = s.hold := (rfl)
@[simp] theorem State.setCan_tabs (s : State) (c : Nat) (x : CanCh) : (s.setCan c x).tabs = s.tabs := (rfl)
@[simp] theorem State.setCan_tim (s : State) (c : Nat) (x : CanCh) : (s.setCan c x).tim = s.tim := (rfl)
@[simp] theorem State.setCan_pins (s : State) (c : Nat) (x : CanCh) : (s.setCan c x).pins = s.pins := (rfl)
@[simp] theorem State.setCan_marker (s : State) (c : Nat) (x : CanCh) : (s.setCan c x).marker = s.marker := (rfl)
@[simp] theorem State.setCan_frames (s : State) (c : Nat) (x : CanCh) : (s.setCan c x).frames = s.frames := (rfl)
@[simp] theorem State.setCan_copies (s : State) (c : Nat) (x : CanCh) : (s.setCan c x).copies = s.copies := (rfl)
@[simp] theorem State.setCan_nextFid (s : State) (c : Nat) (x : CanCh) : (s.setCan c x).nextFid = s.nextFid := (rfl)
@[simp] theorem State.setCan_nextCid (s : State) (c : Nat) (x : CanCh) : (s.setCan c x).nextCid = s.nextCid := (rfl)
@[simp] theorem State.setCan_macs (s : State) (c : Nat) (x : CanCh) : (s.setCan c x).macs = s.macs := (rfl)
@[simp] theorem State.setCan_slc (s : State) (c : Nat) (x : CanCh) : (s.setCan c x).slc = s.slc := (rfl)
@[simp] theorem State.setCan_str (s : State) (c : Nat) (x : CanCh) : (s.setCan c x).str = s.str := (rfl)
@[simp] theorem State.setCan_bsn (s : State) (c : Nat) (x : CanCh) : (s.setCan c x).bsn = s.bsn := (rfl)
@[simp] theorem State.setCan_crs (s : State) (c : Nat) (x : CanCh) : (s.setCan c x).crs = s.crs := (rfl)
@[simp] theorem State.setCan_lkp (s : State) (c : Nat) (x : CanCh) : (s.setCan c x).lkp = s.lkp := (rfl)
@[simp] theorem State.setCan_fltLog (s : State) (c : Nat) (x : CanCh) : (s.setCan c x).fltLog = s.fltLog := (rfl)
@[simp] theorem State.setCan_fltCond (s : State) (c : Nat) (x : CanCh) : (s.setCan c x).fltCond = s.fltCond := (rfl)
@[simp] theorem State.setCan_fltNow (s : State) (c : Nat) (x : CanCh) : (s.setCan c x).fltNow = s.fltNow := (rfl)
@[simp] theorem State.setCan_fltDue (s : State) (c : Nat) (x : CanCh) : (s.setCan c x).fltDue = s.fltDue := (rfl)
@[simp] theorem State.setCan_msixMask (s : State) (c : Nat) (x : CanCh) : (s.setCan c x).msixMask = s.msixMask := (rfl)
@[simp] theorem State.setCan_msixFn (s : State) (c : Nat) (x : CanCh) : (s.setCan c x).msixFn = s.msixFn := (rfl)
@[simp] theorem State.setCan_msixPba (s : State) (c : Nat) (x : CanCh) : (s.setCan c x).msixPba = s.msixPba := (rfl)
@[simp] theorem State.setCan_notes (s : State) (c : Nat) (x : CanCh) : (s.setCan c x).notes = s.notes := (rfl)
@[simp] theorem State.setCan_twp (s : State) (c : Nat) (x : CanCh) : (s.setCan c x).twp = s.twp := (rfl)
@[simp] theorem State.setCan_key (s : State) (c : Nat) (x : CanCh) : (s.setCan c x).key = s.key := (rfl)
@[simp] theorem State.setCan_cph (s : State) (c : Nat) (x : CanCh) : (s.setCan c x).cph = s.cph := (rfl)
@[simp] theorem State.setCan_la (s : State) (c : Nat) (x : CanCh) : (s.setCan c x).la = s.la := (rfl)
@[simp] theorem State.setCan_gwe (s : State) (c : Nat) (x : CanCh) : (s.setCan c x).gwe = s.gwe := (rfl)
@[simp] theorem State.setCan_cpu (s : State) (c : Nat) (x : CanCh) : (s.setCan c x).cpu = s.cpu := (rfl)
@[simp] theorem State.setCan_brg (s : State) (c : Nat) (x : CanCh) : (s.setCan c x).brg = s.brg := (rfl)
@[simp] theorem State.setCan_boot (s : State) (c : Nat) (x : CanCh) : (s.setCan c x).boot = s.boot := (rfl)
@[simp] theorem State.setCan_upd (s : State) (c : Nat) (x : CanCh) : (s.setCan c x).upd = s.upd := (rfl)
@[simp] theorem State.setCan_wak (s : State) (c : Nat) (x : CanCh) : (s.setCan c x).wak = s.wak := (rfl)
@[simp] theorem State.setCan_mem (s : State) (c : Nat) (x : CanCh) : (s.setCan c x).mem = s.mem := (rfl)
@[simp] theorem State.setCan_fresh (s : State) (c : Nat) (x : CanCh) : (s.setCan c x).fresh = s.fresh := (rfl)
@[simp] theorem State.setCan_wire (s : State) (c : Nat) (x : CanCh) : (s.setCan c x).wire = s.wire := (rfl)
@[simp] theorem State.setCan_pending (s : State) (c : Nat) (x : CanCh) : (s.setCan c x).pending = s.pending := (rfl)
@[simp] theorem State.setCan_wf {s : State} (h : s.wf = true) (c : Nat) (x : CanCh) : (s.setCan c x).wf = true := (State.setCan_keep ..).wf h

/-! ### emit -/

@[simp] theorem State.emit_regs (s : State) (e : Emit) : (s.emit e).regs = s.regs := (rfl)
@[simp] theorem State.emit_cnts (s : State) (e : Emit) : (s.emit e).cnts = s.cnts := (rfl)
@[simp] theorem State.emit_hold (s : State) (e : Emit) : (s.emit e).hold = s.hold := (rfl)
@[simp] theorem State.emit_tabs (s : State) (e : Emit) : (s.emit e).tabs = s.tabs := (rfl)
@[simp] theorem State.emit_tim (s : State) (e : Emit) : (s.emit e).tim = s.tim := (rfl)
@[simp] theorem State.emit_pins (s : State) (e : Emit) : (s.emit e).pins = s.pins := (rfl)
@[simp] theorem State.emit_marker (s : State) (e : Emit) : (s.emit e).marker = s.marker := (rfl)
@[simp] theorem State.emit_frames (s : State) (e : Emit) : (s.emit e).frames = s.frames := (rfl)
@[simp] theorem State.emit_copies (s : State) (e : Emit) : (s.emit e).copies = s.copies := (rfl)
@[simp] theorem State.emit_nextFid (s : State) (e : Emit) : (s.emit e).nextFid = s.nextFid := (rfl)
@[simp] theorem State.emit_nextCid (s : State) (e : Emit) : (s.emit e).nextCid = s.nextCid := (rfl)
@[simp] theorem State.emit_macs (s : State) (e : Emit) : (s.emit e).macs = s.macs := (rfl)
@[simp] theorem State.emit_slc (s : State) (e : Emit) : (s.emit e).slc = s.slc := (rfl)
@[simp] theorem State.emit_str (s : State) (e : Emit) : (s.emit e).str = s.str := (rfl)
@[simp] theorem State.emit_bsn (s : State) (e : Emit) : (s.emit e).bsn = s.bsn := (rfl)
@[simp] theorem State.emit_crs (s : State) (e : Emit) : (s.emit e).crs = s.crs := (rfl)
@[simp] theorem State.emit_lkp (s : State) (e : Emit) : (s.emit e).lkp = s.lkp := (rfl)
@[simp] theorem State.emit_fltLog (s : State) (e : Emit) : (s.emit e).fltLog = s.fltLog := (rfl)
@[simp] theorem State.emit_fltCond (s : State) (e : Emit) : (s.emit e).fltCond = s.fltCond := (rfl)
@[simp] theorem State.emit_fltNow (s : State) (e : Emit) : (s.emit e).fltNow = s.fltNow := (rfl)
@[simp] theorem State.emit_fltDue (s : State) (e : Emit) : (s.emit e).fltDue = s.fltDue := (rfl)
@[simp] theorem State.emit_msixMask (s : State) (e : Emit) : (s.emit e).msixMask = s.msixMask := (rfl)
@[simp] theorem State.emit_msixFn (s : State) (e : Emit) : (s.emit e).msixFn = s.msixFn := (rfl)
@[simp] theorem State.emit_msixPba (s : State) (e : Emit) : (s.emit e).msixPba = s.msixPba := (rfl)
@[simp] theorem State.emit_notes (s : State) (e : Emit) : (s.emit e).notes = s.notes := (rfl)
@[simp] theorem State.emit_cans (s : State) (e : Emit) : (s.emit e).cans = s.cans := (rfl)
@[simp] theorem State.emit_twp (s : State) (e : Emit) : (s.emit e).twp = s.twp := (rfl)
@[simp] theorem State.emit_key (s : State) (e : Emit) : (s.emit e).key = s.key := (rfl)
@[simp] theorem State.emit_cph (s : State) (e : Emit) : (s.emit e).cph = s.cph := (rfl)
@[simp] theorem State.emit_la (s : State) (e : Emit) : (s.emit e).la = s.la := (rfl)
@[simp] theorem State.emit_gwe (s : State) (e : Emit) : (s.emit e).gwe = s.gwe := (rfl)
@[simp] theorem State.emit_cpu (s : State) (e : Emit) : (s.emit e).cpu = s.cpu := (rfl)
@[simp] theorem State.emit_brg (s : State) (e : Emit) : (s.emit e).brg = s.brg := (rfl)
@[simp] theorem State.emit_boot (s : State) (e : Emit) : (s.emit e).boot = s.boot := (rfl)
@[simp] theorem State.emit_upd (s : State) (e : Emit) : (s.emit e).upd = s.upd := (rfl)
@[simp] theorem State.emit_wak (s : State) (e : Emit) : (s.emit e).wak = s.wak := (rfl)
@[simp] theorem State.emit_mem (s : State) (e : Emit) : (s.emit e).mem = s.mem := (rfl)
@[simp] theorem State.emit_fresh (s : State) (e : Emit) : (s.emit e).fresh = s.fresh := (rfl)
@[simp] theorem State.emit_pending (s : State) (e : Emit) : (s.emit e).pending = s.pending := (rfl)
@[simp] theorem State.emit_wf {s : State} (h : s.wf = true) (e : Emit) : (s.emit e).wf = true := (State.emit_keep ..).wf h

/-! ### putFrame -/

@[simp] theorem State.putFrame_regs (s : State) (f : Frame) : (s.putFrame f).regs = s.regs := (rfl)
@[simp] theorem State.putFrame_cnts (s : State) (f : Frame) : (s.putFrame f).cnts = s.cnts := (rfl)
@[simp] theorem State.putFrame_hold (s : State) (f : Frame) : (s.putFrame f).hold = s.hold := (rfl)
@[simp] theorem State.putFrame_tabs (s : State) (f : Frame) : (s.putFrame f).tabs = s.tabs := (rfl)
@[simp] theorem State.putFrame_tim (s : State) (f : Frame) : (s.putFrame f).tim = s.tim := (rfl)
@[simp] theorem State.putFrame_pins (s : State) (f : Frame) : (s.putFrame f).pins = s.pins := (rfl)
@[simp] theorem State.putFrame_marker (s : State) (f : Frame) : (s.putFrame f).marker = s.marker := (rfl)
@[simp] theorem State.putFrame_copies (s : State) (f : Frame) : (s.putFrame f).copies = s.copies := (rfl)
@[simp] theorem State.putFrame_nextFid (s : State) (f : Frame) : (s.putFrame f).nextFid = s.nextFid := (rfl)
@[simp] theorem State.putFrame_nextCid (s : State) (f : Frame) : (s.putFrame f).nextCid = s.nextCid := (rfl)
@[simp] theorem State.putFrame_macs (s : State) (f : Frame) : (s.putFrame f).macs = s.macs := (rfl)
@[simp] theorem State.putFrame_slc (s : State) (f : Frame) : (s.putFrame f).slc = s.slc := (rfl)
@[simp] theorem State.putFrame_str (s : State) (f : Frame) : (s.putFrame f).str = s.str := (rfl)
@[simp] theorem State.putFrame_bsn (s : State) (f : Frame) : (s.putFrame f).bsn = s.bsn := (rfl)
@[simp] theorem State.putFrame_crs (s : State) (f : Frame) : (s.putFrame f).crs = s.crs := (rfl)
@[simp] theorem State.putFrame_lkp (s : State) (f : Frame) : (s.putFrame f).lkp = s.lkp := (rfl)
@[simp] theorem State.putFrame_fltLog (s : State) (f : Frame) : (s.putFrame f).fltLog = s.fltLog := (rfl)
@[simp] theorem State.putFrame_fltCond (s : State) (f : Frame) : (s.putFrame f).fltCond = s.fltCond := (rfl)
@[simp] theorem State.putFrame_fltNow (s : State) (f : Frame) : (s.putFrame f).fltNow = s.fltNow := (rfl)
@[simp] theorem State.putFrame_fltDue (s : State) (f : Frame) : (s.putFrame f).fltDue = s.fltDue := (rfl)
@[simp] theorem State.putFrame_msixMask (s : State) (f : Frame) : (s.putFrame f).msixMask = s.msixMask := (rfl)
@[simp] theorem State.putFrame_msixFn (s : State) (f : Frame) : (s.putFrame f).msixFn = s.msixFn := (rfl)
@[simp] theorem State.putFrame_msixPba (s : State) (f : Frame) : (s.putFrame f).msixPba = s.msixPba := (rfl)
@[simp] theorem State.putFrame_notes (s : State) (f : Frame) : (s.putFrame f).notes = s.notes := (rfl)
@[simp] theorem State.putFrame_cans (s : State) (f : Frame) : (s.putFrame f).cans = s.cans := (rfl)
@[simp] theorem State.putFrame_twp (s : State) (f : Frame) : (s.putFrame f).twp = s.twp := (rfl)
@[simp] theorem State.putFrame_key (s : State) (f : Frame) : (s.putFrame f).key = s.key := (rfl)
@[simp] theorem State.putFrame_cph (s : State) (f : Frame) : (s.putFrame f).cph = s.cph := (rfl)
@[simp] theorem State.putFrame_la (s : State) (f : Frame) : (s.putFrame f).la = s.la := (rfl)
@[simp] theorem State.putFrame_gwe (s : State) (f : Frame) : (s.putFrame f).gwe = s.gwe := (rfl)
@[simp] theorem State.putFrame_cpu (s : State) (f : Frame) : (s.putFrame f).cpu = s.cpu := (rfl)
@[simp] theorem State.putFrame_brg (s : State) (f : Frame) : (s.putFrame f).brg = s.brg := (rfl)
@[simp] theorem State.putFrame_boot (s : State) (f : Frame) : (s.putFrame f).boot = s.boot := (rfl)
@[simp] theorem State.putFrame_upd (s : State) (f : Frame) : (s.putFrame f).upd = s.upd := (rfl)
@[simp] theorem State.putFrame_wak (s : State) (f : Frame) : (s.putFrame f).wak = s.wak := (rfl)
@[simp] theorem State.putFrame_mem (s : State) (f : Frame) : (s.putFrame f).mem = s.mem := (rfl)
@[simp] theorem State.putFrame_fresh (s : State) (f : Frame) : (s.putFrame f).fresh = s.fresh := (rfl)
@[simp] theorem State.putFrame_wire (s : State) (f : Frame) : (s.putFrame f).wire = s.wire := (rfl)
@[simp] theorem State.putFrame_pending (s : State) (f : Frame) : (s.putFrame f).pending = s.pending := (rfl)
@[simp] theorem State.putFrame_wf {s : State} (h : s.wf = true) (f : Frame) : (s.putFrame f).wf = true := (State.putFrame_keep ..).wf h

/-! ### dropFrame -/

@[simp] theorem State.dropFrame_regs (s : State) (n : Nat) : (s.dropFrame n).regs = s.regs := (rfl)
@[simp] theorem State.dropFrame_cnts (s : State) (n : Nat) : (s.dropFrame n).cnts = s.cnts := (rfl)
@[simp] theorem State.dropFrame_hold (s : State) (n : Nat) : (s.dropFrame n).hold = s.hold := (rfl)
@[simp] theorem State.dropFrame_tabs (s : State) (n : Nat) : (s.dropFrame n).tabs = s.tabs := (rfl)
@[simp] theorem State.dropFrame_tim (s : State) (n : Nat) : (s.dropFrame n).tim = s.tim := (rfl)
@[simp] theorem State.dropFrame_pins (s : State) (n : Nat) : (s.dropFrame n).pins = s.pins := (rfl)
@[simp] theorem State.dropFrame_marker (s : State) (n : Nat) : (s.dropFrame n).marker = s.marker := (rfl)
@[simp] theorem State.dropFrame_copies (s : State) (n : Nat) : (s.dropFrame n).copies = s.copies := (rfl)
@[simp] theorem State.dropFrame_nextFid (s : State) (n : Nat) : (s.dropFrame n).nextFid = s.nextFid := (rfl)
@[simp] theorem State.dropFrame_nextCid (s : State) (n : Nat) : (s.dropFrame n).nextCid = s.nextCid := (rfl)
@[simp] theorem State.dropFrame_macs (s : State) (n : Nat) : (s.dropFrame n).macs = s.macs := (rfl)
@[simp] theorem State.dropFrame_slc (s : State) (n : Nat) : (s.dropFrame n).slc = s.slc := (rfl)
@[simp] theorem State.dropFrame_str (s : State) (n : Nat) : (s.dropFrame n).str = s.str := (rfl)
@[simp] theorem State.dropFrame_bsn (s : State) (n : Nat) : (s.dropFrame n).bsn = s.bsn := (rfl)
@[simp] theorem State.dropFrame_crs (s : State) (n : Nat) : (s.dropFrame n).crs = s.crs := (rfl)
@[simp] theorem State.dropFrame_lkp (s : State) (n : Nat) : (s.dropFrame n).lkp = s.lkp := (rfl)
@[simp] theorem State.dropFrame_fltLog (s : State) (n : Nat) : (s.dropFrame n).fltLog = s.fltLog := (rfl)
@[simp] theorem State.dropFrame_fltCond (s : State) (n : Nat) : (s.dropFrame n).fltCond = s.fltCond := (rfl)
@[simp] theorem State.dropFrame_fltNow (s : State) (n : Nat) : (s.dropFrame n).fltNow = s.fltNow := (rfl)
@[simp] theorem State.dropFrame_fltDue (s : State) (n : Nat) : (s.dropFrame n).fltDue = s.fltDue := (rfl)
@[simp] theorem State.dropFrame_msixMask (s : State) (n : Nat) : (s.dropFrame n).msixMask = s.msixMask := (rfl)
@[simp] theorem State.dropFrame_msixFn (s : State) (n : Nat) : (s.dropFrame n).msixFn = s.msixFn := (rfl)
@[simp] theorem State.dropFrame_msixPba (s : State) (n : Nat) : (s.dropFrame n).msixPba = s.msixPba := (rfl)
@[simp] theorem State.dropFrame_notes (s : State) (n : Nat) : (s.dropFrame n).notes = s.notes := (rfl)
@[simp] theorem State.dropFrame_cans (s : State) (n : Nat) : (s.dropFrame n).cans = s.cans := (rfl)
@[simp] theorem State.dropFrame_twp (s : State) (n : Nat) : (s.dropFrame n).twp = s.twp := (rfl)
@[simp] theorem State.dropFrame_key (s : State) (n : Nat) : (s.dropFrame n).key = s.key := (rfl)
@[simp] theorem State.dropFrame_cph (s : State) (n : Nat) : (s.dropFrame n).cph = s.cph := (rfl)
@[simp] theorem State.dropFrame_la (s : State) (n : Nat) : (s.dropFrame n).la = s.la := (rfl)
@[simp] theorem State.dropFrame_gwe (s : State) (n : Nat) : (s.dropFrame n).gwe = s.gwe := (rfl)
@[simp] theorem State.dropFrame_cpu (s : State) (n : Nat) : (s.dropFrame n).cpu = s.cpu := (rfl)
@[simp] theorem State.dropFrame_brg (s : State) (n : Nat) : (s.dropFrame n).brg = s.brg := (rfl)
@[simp] theorem State.dropFrame_boot (s : State) (n : Nat) : (s.dropFrame n).boot = s.boot := (rfl)
@[simp] theorem State.dropFrame_upd (s : State) (n : Nat) : (s.dropFrame n).upd = s.upd := (rfl)
@[simp] theorem State.dropFrame_wak (s : State) (n : Nat) : (s.dropFrame n).wak = s.wak := (rfl)
@[simp] theorem State.dropFrame_mem (s : State) (n : Nat) : (s.dropFrame n).mem = s.mem := (rfl)
@[simp] theorem State.dropFrame_fresh (s : State) (n : Nat) : (s.dropFrame n).fresh = s.fresh := (rfl)
@[simp] theorem State.dropFrame_wire (s : State) (n : Nat) : (s.dropFrame n).wire = s.wire := (rfl)
@[simp] theorem State.dropFrame_pending (s : State) (n : Nat) : (s.dropFrame n).pending = s.pending := (rfl)
@[simp] theorem State.dropFrame_wf {s : State} (h : s.wf = true) (n : Nat) : (s.dropFrame n).wf = true := (State.dropFrame_keep ..).wf h

/-! ### addFrame -/

@[simp] theorem State.addFrame_regs (s : State) (f : Frame) : (s.addFrame f).regs = s.regs := (rfl)
@[simp] theorem State.addFrame_cnts (s : State) (f : Frame) : (s.addFrame f).cnts = s.cnts := (rfl)
@[simp] theorem State.addFrame_hold (s : State) (f : Frame) : (s.addFrame f).hold = s.hold := (rfl)
@[simp] theorem State.addFrame_tabs (s : State) (f : Frame) : (s.addFrame f).tabs = s.tabs := (rfl)
@[simp] theorem State.addFrame_tim (s : State) (f : Frame) : (s.addFrame f).tim = s.tim := (rfl)
@[simp] theorem State.addFrame_pins (s : State) (f : Frame) : (s.addFrame f).pins = s.pins := (rfl)
@[simp] theorem State.addFrame_marker (s : State) (f : Frame) : (s.addFrame f).marker = s.marker := (rfl)
@[simp] theorem State.addFrame_copies (s : State) (f : Frame) : (s.addFrame f).copies = s.copies := (rfl)
@[simp] theorem State.addFrame_nextCid (s : State) (f : Frame) : (s.addFrame f).nextCid = s.nextCid := (rfl)
@[simp] theorem State.addFrame_macs (s : State) (f : Frame) : (s.addFrame f).macs = s.macs := (rfl)
@[simp] theorem State.addFrame_slc (s : State) (f : Frame) : (s.addFrame f).slc = s.slc := (rfl)
@[simp] theorem State.addFrame_str (s : State) (f : Frame) : (s.addFrame f).str = s.str := (rfl)
@[simp] theorem State.addFrame_bsn (s : State) (f : Frame) : (s.addFrame f).bsn = s.bsn := (rfl)
@[simp] theorem State.addFrame_crs (s : State) (f : Frame) : (s.addFrame f).crs = s.crs := (rfl)
@[simp] theorem State.addFrame_lkp (s : State) (f : Frame) : (s.addFrame f).lkp = s.lkp := (rfl)
@[simp] theorem State.addFrame_fltLog (s : State) (f : Frame) : (s.addFrame f).fltLog = s.fltLog := (rfl)
@[simp] theorem State.addFrame_fltCond (s : State) (f : Frame) : (s.addFrame f).fltCond = s.fltCond := (rfl)
@[simp] theorem State.addFrame_fltNow (s : State) (f : Frame) : (s.addFrame f).fltNow = s.fltNow := (rfl)
@[simp] theorem State.addFrame_fltDue (s : State) (f : Frame) : (s.addFrame f).fltDue = s.fltDue := (rfl)
@[simp] theorem State.addFrame_msixMask (s : State) (f : Frame) : (s.addFrame f).msixMask = s.msixMask := (rfl)
@[simp] theorem State.addFrame_msixFn (s : State) (f : Frame) : (s.addFrame f).msixFn = s.msixFn := (rfl)
@[simp] theorem State.addFrame_msixPba (s : State) (f : Frame) : (s.addFrame f).msixPba = s.msixPba := (rfl)
@[simp] theorem State.addFrame_notes (s : State) (f : Frame) : (s.addFrame f).notes = s.notes := (rfl)
@[simp] theorem State.addFrame_cans (s : State) (f : Frame) : (s.addFrame f).cans = s.cans := (rfl)
@[simp] theorem State.addFrame_twp (s : State) (f : Frame) : (s.addFrame f).twp = s.twp := (rfl)
@[simp] theorem State.addFrame_key (s : State) (f : Frame) : (s.addFrame f).key = s.key := (rfl)
@[simp] theorem State.addFrame_cph (s : State) (f : Frame) : (s.addFrame f).cph = s.cph := (rfl)
@[simp] theorem State.addFrame_la (s : State) (f : Frame) : (s.addFrame f).la = s.la := (rfl)
@[simp] theorem State.addFrame_gwe (s : State) (f : Frame) : (s.addFrame f).gwe = s.gwe := (rfl)
@[simp] theorem State.addFrame_cpu (s : State) (f : Frame) : (s.addFrame f).cpu = s.cpu := (rfl)
@[simp] theorem State.addFrame_brg (s : State) (f : Frame) : (s.addFrame f).brg = s.brg := (rfl)
@[simp] theorem State.addFrame_boot (s : State) (f : Frame) : (s.addFrame f).boot = s.boot := (rfl)
@[simp] theorem State.addFrame_upd (s : State) (f : Frame) : (s.addFrame f).upd = s.upd := (rfl)
@[simp] theorem State.addFrame_wak (s : State) (f : Frame) : (s.addFrame f).wak = s.wak := (rfl)
@[simp] theorem State.addFrame_mem (s : State) (f : Frame) : (s.addFrame f).mem = s.mem := (rfl)
@[simp] theorem State.addFrame_fresh (s : State) (f : Frame) : (s.addFrame f).fresh = s.fresh := (rfl)
@[simp] theorem State.addFrame_wire (s : State) (f : Frame) : (s.addFrame f).wire = s.wire := (rfl)
@[simp] theorem State.addFrame_pending (s : State) (f : Frame) : (s.addFrame f).pending = s.pending := (rfl)
@[simp] theorem State.addFrame_wf {s : State} (h : s.wf = true) (f : Frame) : (s.addFrame f).wf = true := (State.addFrame_keep ..).wf h

/-! ### putCopy -/

@[simp] theorem State.putCopy_regs (s : State) (c : Copy) : (s.putCopy c).regs = s.regs := (rfl)
@[simp] theorem State.putCopy_cnts (s : State) (c : Copy) : (s.putCopy c).cnts = s.cnts := (rfl)
@[simp] theorem State.putCopy_hold (s : State) (c : Copy) : (s.putCopy c).hold = s.hold := (rfl)
@[simp] theorem State.putCopy_tabs (s : State) (c : Copy) : (s.putCopy c).tabs = s.tabs := (rfl)
@[simp] theorem State.putCopy_tim (s : State) (c : Copy) : (s.putCopy c).tim = s.tim := (rfl)
@[simp] theorem State.putCopy_pins (s : State) (c : Copy) : (s.putCopy c).pins = s.pins := (rfl)
@[simp] theorem State.putCopy_marker (s : State) (c : Copy) : (s.putCopy c).marker = s.marker := (rfl)
@[simp] theorem State.putCopy_frames (s : State) (c : Copy) : (s.putCopy c).frames = s.frames := (rfl)
@[simp] theorem State.putCopy_nextFid (s : State) (c : Copy) : (s.putCopy c).nextFid = s.nextFid := (rfl)
@[simp] theorem State.putCopy_nextCid (s : State) (c : Copy) : (s.putCopy c).nextCid = s.nextCid := (rfl)
@[simp] theorem State.putCopy_macs (s : State) (c : Copy) : (s.putCopy c).macs = s.macs := (rfl)
@[simp] theorem State.putCopy_slc (s : State) (c : Copy) : (s.putCopy c).slc = s.slc := (rfl)
@[simp] theorem State.putCopy_str (s : State) (c : Copy) : (s.putCopy c).str = s.str := (rfl)
@[simp] theorem State.putCopy_bsn (s : State) (c : Copy) : (s.putCopy c).bsn = s.bsn := (rfl)
@[simp] theorem State.putCopy_crs (s : State) (c : Copy) : (s.putCopy c).crs = s.crs := (rfl)
@[simp] theorem State.putCopy_lkp (s : State) (c : Copy) : (s.putCopy c).lkp = s.lkp := (rfl)
@[simp] theorem State.putCopy_fltLog (s : State) (c : Copy) : (s.putCopy c).fltLog = s.fltLog := (rfl)
@[simp] theorem State.putCopy_fltCond (s : State) (c : Copy) : (s.putCopy c).fltCond = s.fltCond := (rfl)
@[simp] theorem State.putCopy_fltNow (s : State) (c : Copy) : (s.putCopy c).fltNow = s.fltNow := (rfl)
@[simp] theorem State.putCopy_fltDue (s : State) (c : Copy) : (s.putCopy c).fltDue = s.fltDue := (rfl)
@[simp] theorem State.putCopy_msixMask (s : State) (c : Copy) : (s.putCopy c).msixMask = s.msixMask := (rfl)
@[simp] theorem State.putCopy_msixFn (s : State) (c : Copy) : (s.putCopy c).msixFn = s.msixFn := (rfl)
@[simp] theorem State.putCopy_msixPba (s : State) (c : Copy) : (s.putCopy c).msixPba = s.msixPba := (rfl)
@[simp] theorem State.putCopy_notes (s : State) (c : Copy) : (s.putCopy c).notes = s.notes := (rfl)
@[simp] theorem State.putCopy_cans (s : State) (c : Copy) : (s.putCopy c).cans = s.cans := (rfl)
@[simp] theorem State.putCopy_twp (s : State) (c : Copy) : (s.putCopy c).twp = s.twp := (rfl)
@[simp] theorem State.putCopy_key (s : State) (c : Copy) : (s.putCopy c).key = s.key := (rfl)
@[simp] theorem State.putCopy_cph (s : State) (c : Copy) : (s.putCopy c).cph = s.cph := (rfl)
@[simp] theorem State.putCopy_la (s : State) (c : Copy) : (s.putCopy c).la = s.la := (rfl)
@[simp] theorem State.putCopy_gwe (s : State) (c : Copy) : (s.putCopy c).gwe = s.gwe := (rfl)
@[simp] theorem State.putCopy_cpu (s : State) (c : Copy) : (s.putCopy c).cpu = s.cpu := (rfl)
@[simp] theorem State.putCopy_brg (s : State) (c : Copy) : (s.putCopy c).brg = s.brg := (rfl)
@[simp] theorem State.putCopy_boot (s : State) (c : Copy) : (s.putCopy c).boot = s.boot := (rfl)
@[simp] theorem State.putCopy_upd (s : State) (c : Copy) : (s.putCopy c).upd = s.upd := (rfl)
@[simp] theorem State.putCopy_wak (s : State) (c : Copy) : (s.putCopy c).wak = s.wak := (rfl)
@[simp] theorem State.putCopy_mem (s : State) (c : Copy) : (s.putCopy c).mem = s.mem := (rfl)
@[simp] theorem State.putCopy_fresh (s : State) (c : Copy) : (s.putCopy c).fresh = s.fresh := (rfl)
@[simp] theorem State.putCopy_wire (s : State) (c : Copy) : (s.putCopy c).wire = s.wire := (rfl)
@[simp] theorem State.putCopy_pending (s : State) (c : Copy) : (s.putCopy c).pending = s.pending := (rfl)
@[simp] theorem State.putCopy_wf {s : State} (h : s.wf = true) (c : Copy) : (s.putCopy c).wf = true := (State.putCopy_keep ..).wf h

/-! ### dropCopy -/

@[simp] theorem State.dropCopy_regs (s : State) (n : Nat) : (s.dropCopy n).regs = s.regs := (rfl)
@[simp] theorem State.dropCopy_cnts (s : State) (n : Nat) : (s.dropCopy n).cnts = s.cnts := (rfl)
@[simp] theorem State.dropCopy_hold (s : State) (n : Nat) : (s.dropCopy n).hold = s.hold := (rfl)
@[simp] theorem State.dropCopy_tabs (s : State) (n : Nat) : (s.dropCopy n).tabs = s.tabs := (rfl)
@[simp] theorem State.dropCopy_tim (s : State) (n : Nat) : (s.dropCopy n).tim = s.tim := (rfl)
@[simp] theorem State.dropCopy_pins (s : State) (n : Nat) : (s.dropCopy n).pins = s.pins := (rfl)
@[simp] theorem State.dropCopy_marker (s : State) (n : Nat) : (s.dropCopy n).marker = s.marker := (rfl)
@[simp] theorem State.dropCopy_frames (s : State) (n : Nat) : (s.dropCopy n).frames = s.frames := (rfl)
@[simp] theorem State.dropCopy_nextFid (s : State) (n : Nat) : (s.dropCopy n).nextFid = s.nextFid := (rfl)
@[simp] theorem State.dropCopy_nextCid (s : State) (n : Nat) : (s.dropCopy n).nextCid = s.nextCid := (rfl)
@[simp] theorem State.dropCopy_macs (s : State) (n : Nat) : (s.dropCopy n).macs = s.macs := (rfl)
@[simp] theorem State.dropCopy_slc (s : State) (n : Nat) : (s.dropCopy n).slc = s.slc := (rfl)
@[simp] theorem State.dropCopy_str (s : State) (n : Nat) : (s.dropCopy n).str = s.str := (rfl)
@[simp] theorem State.dropCopy_bsn (s : State) (n : Nat) : (s.dropCopy n).bsn = s.bsn := (rfl)
@[simp] theorem State.dropCopy_crs (s : State) (n : Nat) : (s.dropCopy n).crs = s.crs := (rfl)
@[simp] theorem State.dropCopy_lkp (s : State) (n : Nat) : (s.dropCopy n).lkp = s.lkp := (rfl)
@[simp] theorem State.dropCopy_fltLog (s : State) (n : Nat) : (s.dropCopy n).fltLog = s.fltLog := (rfl)
@[simp] theorem State.dropCopy_fltCond (s : State) (n : Nat) : (s.dropCopy n).fltCond = s.fltCond := (rfl)
@[simp] theorem State.dropCopy_fltNow (s : State) (n : Nat) : (s.dropCopy n).fltNow = s.fltNow := (rfl)
@[simp] theorem State.dropCopy_fltDue (s : State) (n : Nat) : (s.dropCopy n).fltDue = s.fltDue := (rfl)
@[simp] theorem State.dropCopy_msixMask (s : State) (n : Nat) : (s.dropCopy n).msixMask = s.msixMask := (rfl)
@[simp] theorem State.dropCopy_msixFn (s : State) (n : Nat) : (s.dropCopy n).msixFn = s.msixFn := (rfl)
@[simp] theorem State.dropCopy_msixPba (s : State) (n : Nat) : (s.dropCopy n).msixPba = s.msixPba := (rfl)
@[simp] theorem State.dropCopy_notes (s : State) (n : Nat) : (s.dropCopy n).notes = s.notes := (rfl)
@[simp] theorem State.dropCopy_cans (s : State) (n : Nat) : (s.dropCopy n).cans = s.cans := (rfl)
@[simp] theorem State.dropCopy_twp (s : State) (n : Nat) : (s.dropCopy n).twp = s.twp := (rfl)
@[simp] theorem State.dropCopy_key (s : State) (n : Nat) : (s.dropCopy n).key = s.key := (rfl)
@[simp] theorem State.dropCopy_cph (s : State) (n : Nat) : (s.dropCopy n).cph = s.cph := (rfl)
@[simp] theorem State.dropCopy_la (s : State) (n : Nat) : (s.dropCopy n).la = s.la := (rfl)
@[simp] theorem State.dropCopy_gwe (s : State) (n : Nat) : (s.dropCopy n).gwe = s.gwe := (rfl)
@[simp] theorem State.dropCopy_cpu (s : State) (n : Nat) : (s.dropCopy n).cpu = s.cpu := (rfl)
@[simp] theorem State.dropCopy_brg (s : State) (n : Nat) : (s.dropCopy n).brg = s.brg := (rfl)
@[simp] theorem State.dropCopy_boot (s : State) (n : Nat) : (s.dropCopy n).boot = s.boot := (rfl)
@[simp] theorem State.dropCopy_upd (s : State) (n : Nat) : (s.dropCopy n).upd = s.upd := (rfl)
@[simp] theorem State.dropCopy_wak (s : State) (n : Nat) : (s.dropCopy n).wak = s.wak := (rfl)
@[simp] theorem State.dropCopy_mem (s : State) (n : Nat) : (s.dropCopy n).mem = s.mem := (rfl)
@[simp] theorem State.dropCopy_fresh (s : State) (n : Nat) : (s.dropCopy n).fresh = s.fresh := (rfl)
@[simp] theorem State.dropCopy_wire (s : State) (n : Nat) : (s.dropCopy n).wire = s.wire := (rfl)
@[simp] theorem State.dropCopy_pending (s : State) (n : Nat) : (s.dropCopy n).pending = s.pending := (rfl)
@[simp] theorem State.dropCopy_wf {s : State} (h : s.wf = true) (n : Nat) : (s.dropCopy n).wf = true := (State.dropCopy_keep ..).wf h

/-! ### setMem -/

@[simp] theorem State.setMem_regs (s : State) (pair a : Nat) (b : Byte) : (s.setMem pair a b).regs = s.regs := (rfl)
@[simp] theorem State.setMem_cnts (s : State) (pair a : Nat) (b : Byte) : (s.setMem pair a b).cnts = s.cnts := (rfl)
@[simp] theorem State.setMem_hold (s : State) (pair a : Nat) (b : Byte) : (s.setMem pair a b).hold = s.hold := (rfl)
@[simp] theorem State.setMem_tabs (s : State) (pair a : Nat) (b : Byte) : (s.setMem pair a b).tabs = s.tabs := (rfl)
@[simp] theorem State.setMem_tim (s : State) (pair a : Nat) (b : Byte) : (s.setMem pair a b).tim = s.tim := (rfl)
@[simp] theorem State.setMem_pins (s : State) (pair a : Nat) (b : Byte) : (s.setMem pair a b).pins = s.pins := (rfl)
@[simp] theorem State.setMem_marker (s : State) (pair a : Nat) (b : Byte) : (s.setMem pair a b).marker = s.marker := (rfl)
@[simp] theorem State.setMem_frames (s : State) (pair a : Nat) (b : Byte) : (s.setMem pair a b).frames = s.frames := (rfl)
@[simp] theorem State.setMem_copies (s : State) (pair a : Nat) (b : Byte) : (s.setMem pair a b).copies = s.copies := (rfl)
@[simp] theorem State.setMem_nextFid (s : State) (pair a : Nat) (b : Byte) : (s.setMem pair a b).nextFid = s.nextFid := (rfl)
@[simp] theorem State.setMem_nextCid (s : State) (pair a : Nat) (b : Byte) : (s.setMem pair a b).nextCid = s.nextCid := (rfl)
@[simp] theorem State.setMem_macs (s : State) (pair a : Nat) (b : Byte) : (s.setMem pair a b).macs = s.macs := (rfl)
@[simp] theorem State.setMem_slc (s : State) (pair a : Nat) (b : Byte) : (s.setMem pair a b).slc = s.slc := (rfl)
@[simp] theorem State.setMem_str (s : State) (pair a : Nat) (b : Byte) : (s.setMem pair a b).str = s.str := (rfl)
@[simp] theorem State.setMem_bsn (s : State) (pair a : Nat) (b : Byte) : (s.setMem pair a b).bsn = s.bsn := (rfl)
@[simp] theorem State.setMem_crs (s : State) (pair a : Nat) (b : Byte) : (s.setMem pair a b).crs = s.crs := (rfl)
@[simp] theorem State.setMem_lkp (s : State) (pair a : Nat) (b : Byte) : (s.setMem pair a b).lkp = s.lkp := (rfl)
@[simp] theorem State.setMem_fltLog (s : State) (pair a : Nat) (b : Byte) : (s.setMem pair a b).fltLog = s.fltLog := (rfl)
@[simp] theorem State.setMem_fltCond (s : State) (pair a : Nat) (b : Byte) : (s.setMem pair a b).fltCond = s.fltCond := (rfl)
@[simp] theorem State.setMem_fltNow (s : State) (pair a : Nat) (b : Byte) : (s.setMem pair a b).fltNow = s.fltNow := (rfl)
@[simp] theorem State.setMem_fltDue (s : State) (pair a : Nat) (b : Byte) : (s.setMem pair a b).fltDue = s.fltDue := (rfl)
@[simp] theorem State.setMem_msixMask (s : State) (pair a : Nat) (b : Byte) : (s.setMem pair a b).msixMask = s.msixMask := (rfl)
@[simp] theorem State.setMem_msixFn (s : State) (pair a : Nat) (b : Byte) : (s.setMem pair a b).msixFn = s.msixFn := (rfl)
@[simp] theorem State.setMem_msixPba (s : State) (pair a : Nat) (b : Byte) : (s.setMem pair a b).msixPba = s.msixPba := (rfl)
@[simp] theorem State.setMem_notes (s : State) (pair a : Nat) (b : Byte) : (s.setMem pair a b).notes = s.notes := (rfl)
@[simp] theorem State.setMem_cans (s : State) (pair a : Nat) (b : Byte) : (s.setMem pair a b).cans = s.cans := (rfl)
@[simp] theorem State.setMem_twp (s : State) (pair a : Nat) (b : Byte) : (s.setMem pair a b).twp = s.twp := (rfl)
@[simp] theorem State.setMem_key (s : State) (pair a : Nat) (b : Byte) : (s.setMem pair a b).key = s.key := (rfl)
@[simp] theorem State.setMem_cph (s : State) (pair a : Nat) (b : Byte) : (s.setMem pair a b).cph = s.cph := (rfl)
@[simp] theorem State.setMem_la (s : State) (pair a : Nat) (b : Byte) : (s.setMem pair a b).la = s.la := (rfl)
@[simp] theorem State.setMem_gwe (s : State) (pair a : Nat) (b : Byte) : (s.setMem pair a b).gwe = s.gwe := (rfl)
@[simp] theorem State.setMem_cpu (s : State) (pair a : Nat) (b : Byte) : (s.setMem pair a b).cpu = s.cpu := (rfl)
@[simp] theorem State.setMem_brg (s : State) (pair a : Nat) (b : Byte) : (s.setMem pair a b).brg = s.brg := (rfl)
@[simp] theorem State.setMem_boot (s : State) (pair a : Nat) (b : Byte) : (s.setMem pair a b).boot = s.boot := (rfl)
@[simp] theorem State.setMem_upd (s : State) (pair a : Nat) (b : Byte) : (s.setMem pair a b).upd = s.upd := (rfl)
@[simp] theorem State.setMem_wak (s : State) (pair a : Nat) (b : Byte) : (s.setMem pair a b).wak = s.wak := (rfl)
@[simp] theorem State.setMem_fresh (s : State) (pair a : Nat) (b : Byte) : (s.setMem pair a b).fresh = s.fresh := (rfl)
@[simp] theorem State.setMem_wire (s : State) (pair a : Nat) (b : Byte) : (s.setMem pair a b).wire = s.wire := (rfl)
@[simp] theorem State.setMem_pending (s : State) (pair a : Nat) (b : Byte) : (s.setMem pair a b).pending = s.pending := (rfl)
@[simp] theorem State.setMem_wf {s : State} (h : s.wf = true) (pair a : Nat) (b : Byte) : (s.setMem pair a b).wf = true := (State.setMem_keep ..).wf h

/-! ### setFlash -/

@[simp] theorem State.setFlash_regs (s : State) (a : Nat) (b : Byte) : (s.setFlash a b).regs = s.regs := (rfl)
@[simp] theorem State.setFlash_cnts (s : State) (a : Nat) (b : Byte) : (s.setFlash a b).cnts = s.cnts := (rfl)
@[simp] theorem State.setFlash_hold (s : State) (a : Nat) (b : Byte) : (s.setFlash a b).hold = s.hold := (rfl)
@[simp] theorem State.setFlash_tabs (s : State) (a : Nat) (b : Byte) : (s.setFlash a b).tabs = s.tabs := (rfl)
@[simp] theorem State.setFlash_tim (s : State) (a : Nat) (b : Byte) : (s.setFlash a b).tim = s.tim := (rfl)
@[simp] theorem State.setFlash_pins (s : State) (a : Nat) (b : Byte) : (s.setFlash a b).pins = s.pins := (rfl)
@[simp] theorem State.setFlash_marker (s : State) (a : Nat) (b : Byte) : (s.setFlash a b).marker = s.marker := (rfl)
@[simp] theorem State.setFlash_frames (s : State) (a : Nat) (b : Byte) : (s.setFlash a b).frames = s.frames := (rfl)
@[simp] theorem State.setFlash_copies (s : State) (a : Nat) (b : Byte) : (s.setFlash a b).copies = s.copies := (rfl)
@[simp] theorem State.setFlash_nextFid (s : State) (a : Nat) (b : Byte) : (s.setFlash a b).nextFid = s.nextFid := (rfl)
@[simp] theorem State.setFlash_nextCid (s : State) (a : Nat) (b : Byte) : (s.setFlash a b).nextCid = s.nextCid := (rfl)
@[simp] theorem State.setFlash_macs (s : State) (a : Nat) (b : Byte) : (s.setFlash a b).macs = s.macs := (rfl)
@[simp] theorem State.setFlash_slc (s : State) (a : Nat) (b : Byte) : (s.setFlash a b).slc = s.slc := (rfl)
@[simp] theorem State.setFlash_str (s : State) (a : Nat) (b : Byte) : (s.setFlash a b).str = s.str := (rfl)
@[simp] theorem State.setFlash_bsn (s : State) (a : Nat) (b : Byte) : (s.setFlash a b).bsn = s.bsn := (rfl)
@[simp] theorem State.setFlash_crs (s : State) (a : Nat) (b : Byte) : (s.setFlash a b).crs = s.crs := (rfl)
@[simp] theorem State.setFlash_lkp (s : State) (a : Nat) (b : Byte) : (s.setFlash a b).lkp = s.lkp := (rfl)
@[simp] theorem State.setFlash_fltLog (s : State) (a : Nat) (b : Byte) : (s.setFlash a b).fltLog = s.fltLog := (rfl)
@[simp] theorem State.setFlash_fltCond (s : State) (a : Nat) (b : Byte) : (s.setFlash a b).fltCond = s.fltCond := (rfl)
@[simp] theorem State.setFlash_fltNow (s : State) (a : Nat) (b : Byte) : (s.setFlash a b).fltNow = s.fltNow := (rfl)
@[simp] theorem State.setFlash_fltDue (s : State) (a : Nat) (b : Byte) : (s.setFlash a b).fltDue = s.fltDue := (rfl)
@[simp] theorem State.setFlash_msixMask (s : State) (a : Nat) (b : Byte) : (s.setFlash a b).msixMask = s.msixMask := (rfl)
@[simp] theorem State.setFlash_msixFn (s : State) (a : Nat) (b : Byte) : (s.setFlash a b).msixFn = s.msixFn := (rfl)
@[simp] theorem State.setFlash_msixPba (s : State) (a : Nat) (b : Byte) : (s.setFlash a b).msixPba = s.msixPba := (rfl)
@[simp] theorem State.setFlash_notes (s : State) (a : Nat) (b : Byte) : (s.setFlash a b).notes = s.notes := (rfl)
@[simp] theorem State.setFlash_cans (s : State) (a : Nat) (b : Byte) : (s.setFlash a b).cans = s.cans := (rfl)
@[simp] theorem State.setFlash_twp (s : State) (a : Nat) (b : Byte) : (s.setFlash a b).twp = s.twp := (rfl)
@[simp] theorem State.setFlash_key (s : State) (a : Nat) (b : Byte) : (s.setFlash a b).key = s.key := (rfl)
@[simp] theorem State.setFlash_cph (s : State) (a : Nat) (b : Byte) : (s.setFlash a b).cph = s.cph := (rfl)
@[simp] theorem State.setFlash_la (s : State) (a : Nat) (b : Byte) : (s.setFlash a b).la = s.la := (rfl)
@[simp] theorem State.setFlash_gwe (s : State) (a : Nat) (b : Byte) : (s.setFlash a b).gwe = s.gwe := (rfl)
@[simp] theorem State.setFlash_cpu (s : State) (a : Nat) (b : Byte) : (s.setFlash a b).cpu = s.cpu := (rfl)
@[simp] theorem State.setFlash_brg (s : State) (a : Nat) (b : Byte) : (s.setFlash a b).brg = s.brg := (rfl)
@[simp] theorem State.setFlash_upd (s : State) (a : Nat) (b : Byte) : (s.setFlash a b).upd = s.upd := (rfl)
@[simp] theorem State.setFlash_wak (s : State) (a : Nat) (b : Byte) : (s.setFlash a b).wak = s.wak := (rfl)
@[simp] theorem State.setFlash_mem (s : State) (a : Nat) (b : Byte) : (s.setFlash a b).mem = s.mem := (rfl)
@[simp] theorem State.setFlash_fresh (s : State) (a : Nat) (b : Byte) : (s.setFlash a b).fresh = s.fresh := (rfl)
@[simp] theorem State.setFlash_wire (s : State) (a : Nat) (b : Byte) : (s.setFlash a b).wire = s.wire := (rfl)
@[simp] theorem State.setFlash_pending (s : State) (a : Nat) (b : Byte) : (s.setFlash a b).pending = s.pending := (rfl)
@[simp] theorem State.setFlash_wf {s : State} (h : s.wf = true) (a : Nat) (b : Byte) : (s.setFlash a b).wf = true := (State.setFlash_keep ..).wf h

/-! ### The field that changes -/

@[simp] theorem State.emit_wire (s : State) (e : Emit) : (s.emit e).wire = s.wire ++ [e] := (rfl)
@[simp] theorem State.draw_fst (s : State) : s.draw.1 = Config.freeWord s.fresh := (rfl)
@[simp] theorem State.draw_snd (s : State) : s.draw.2 = { s with fresh := s.fresh + 1 } := (rfl)

/-! ### Reads after writes -/

theorem State.rd_wr {s : State} (h : s.wf = true) (a b : Nat) (w : Word) : (s.wr a w).rd b = if b = a then w else s.rd b :=
  Sparse.get_set (State.wf_iff s |>.1 h).1

@[simp] theorem State.rd_wr_self {s : State} (h : s.wf = true) (a : Nat) (w : Word) : (s.wr a w).rd a = w := by
  rw [State.rd_wr h, if_pos rfl]

theorem State.rd_wr_ne {s : State} (h : s.wf = true) {a b : Nat} (w : Word) (n : b ≠ a) : (s.wr a w).rd b = s.rd b := by
  rw [State.rd_wr h, if_neg n]

/-- A field reads as what was written to it. -/
theorem State.get_set {s : State} (h : s.wf = true) {f : Fld} {v : Nat} (hf : f.lo ≤ f.hi) (h32 : f.hi < 32)
    (hv : v < 2 ^ (f.hi + 1 - f.lo)) : (s.set f v).get f = v := by
  unfold State.get State.set
  rw [State.rd_wr_self h, bitsOf_putBits hf h32 hv]

/-- A write of a field leaves every field of another register alone. -/
theorem State.get_set_ne {s : State} (h : s.wf = true) {f g : Fld} {v : Nat} (n : g.addr ≠ f.addr) : (s.set f v).get g = s.get g := by
  unfold State.get State.set
  rw [State.rd_wr_ne h _ n]

/-- A write of a field leaves the fields of the same register that lie apart from it alone. -/
theorem State.get_set_apart {s : State} (h : s.wf = true) {f g : Fld} {v : Nat} (hf : f.lo ≤ f.hi) (h32 : f.hi < 32)
    (ha : g.hi < f.lo ∨ f.hi < g.lo) : (s.set f v).get g = s.get g := by
  by_cases n : g.addr = f.addr
  · unfold State.get State.set
    rw [n, State.rd_wr_self h, bitsOf_putBits_of_apart hf h32 ha]
  · exact State.get_set_ne h n

theorem State.rd_set_ne {s : State} (h : s.wf = true) {f : Fld} {v b : Nat} (n : b ≠ f.addr) : (s.set f v).rd b = s.rd b :=
  State.rd_wr_ne h _ n

/-- A one-bit field reads as what was written to it. -/
theorem State.bit_setBit {s : State} (h : s.wf = true) {f : Fld} {b : Bool} (hf : f.lo = f.hi) (h32 : f.hi < 32) :
    (s.setBit f b).bit f = b := by
  unfold State.setBit State.bit
  have hb : (if b then 1 else 0) < 2 ^ (f.hi + 1 - f.lo) := by
    have e : f.hi + 1 - f.lo = 1 := by omega
    rw [e]; split <;> omega
  rw [State.get_set h (by omega) h32 hb]
  cases b <;> rfl

@[simp] theorem State.rd_setCnt (s : State) (a b : Nat) (v : DWord) : (s.setCnt a v).rd b = s.rd b := (rfl)
@[simp] theorem State.rd_bumpBy (s : State) (a n b : Nat) : (s.bumpBy a n).rd b = s.rd b := (rfl)
@[simp] theorem State.rd_bump (s : State) (a b : Nat) : (s.bump a).rd b = s.rd b := (rfl)
@[simp] theorem State.rd_emit (s : State) (e : Emit) (b : Nat) : (s.emit e).rd b = s.rd b := (rfl)
@[simp] theorem State.rd_setPin (s : State) (p : Nat) (x : Pin) (b : Nat) : (s.setPin p x).rd b = s.rd b := (rfl)
@[simp] theorem State.rd_setMac (s : State) (p : Nat) (x : Mac) (b : Nat) : (s.setMac p x).rd b = s.rd b := (rfl)
@[simp] theorem State.rd_setCan (s : State) (p : Nat) (x : CanCh) (b : Nat) : (s.setCan p x).rd b = s.rd b := (rfl)
@[simp] theorem State.rd_setTw (s : State) (blk tbl bank idx w : Nat) (v : Word) (b : Nat) :
    (s.setTw blk tbl bank idx w v).rd b = s.rd b := congrArg (Sparse.get resetWord · b) (State.setTw_regs ..)
@[simp] theorem State.rd_setHeld (s : State) (i : Initiator) (a : Nat) (w : Word) (b : Nat) : (s.setHeld i a w).rd b = s.rd b := (rfl)
@[simp] theorem State.cnt_wr (s : State) (a : Nat) (w : Word) (b : Nat) : (s.wr a w).cnt b = s.cnt b := (rfl)
@[simp] theorem State.cnt_set (s : State) (f : Fld) (v b : Nat) : (s.set f v).cnt b = s.cnt b := (rfl)
@[simp] theorem State.cnt_emit (s : State) (e : Emit) (b : Nat) : (s.emit e).cnt b = s.cnt b := (rfl)

theorem State.cnt_setCnt {s : State} (h : s.wf = true) (a b : Nat) (v : DWord) : (s.setCnt a v).cnt b = if b = a then v else s.cnt b :=
  Sparse.get_set (State.wf_iff s |>.1 h).2.1

/-- A counter that is counted up by n, and the others. -/
theorem State.cnt_bumpBy {s : State} (h : s.wf = true) (a n b : Nat) :
    (s.bumpBy a n).cnt b = if b = a then s.cnt a + BitVec.ofNat 64 n else s.cnt b := State.cnt_setCnt h a b _

theorem State.cnt_bump {s : State} (h : s.wf = true) (a b : Nat) : (s.bump a).cnt b = if b = a then s.cnt a + 1 else s.cnt b :=
  State.cnt_setCnt h a b _

/-- A table word after a write of a word, by key. -/
theorem State.tab_setTab {s : State} (h : s.wf = true) (k j : Nat) (v : Word) : (s.setTab k v).tab j = if j = k then v else s.tab j :=
  Sparse.get_set (State.wf_iff s |>.1 h).2.2.2.1

theorem State.tab_setTw {s : State} (h : s.wf = true) (blk tbl bank idx w k : Nat) (v : Word) :
    (s.setTw blk tbl bank idx w v).tab k = if k = tkey blk tbl bank idx w then v else s.tab k := State.tab_setTab h _ _ _

theorem State.tw_setTw_self {s : State} (h : s.wf = true) (blk tbl bank idx w : Nat) (v : Word) :
    (s.setTw blk tbl bank idx w v).tw blk tbl bank idx w = v := by
  rw [State.tw, State.tab_setTw h, if_pos rfl]

theorem State.held_setHeld {s : State} (h : s.wf = true) (i : Initiator) (a : Nat) (w : Word) : (s.setHeld i a w).held i a = w :=
  (Sparse.get_set (d := fun _ => 0) (k := 8 * a + iniNo i) (v := w) (State.wf_iff s |>.1 h).2.2.1).trans (if_pos rfl)

theorem State.pin_setPin {s : State} (h : s.wf = true) (p q : Nat) (x : Pin) : (s.setPin p x).pin q = if q = p then x else s.pin q :=
  Sparse.get_set (State.wf_iff s |>.1 h).2.2.2.2.1

theorem State.mac_setMac {s : State} (h : s.wf = true) (p q : Nat) (x : Mac) : (s.setMac p x).mac q = if q = p then x else s.mac q :=
  Sparse.get_set (State.wf_iff s |>.1 h).2.2.2.2.2.1

theorem State.can_setCan {s : State} (h : s.wf = true) (p q : Nat) (x : CanCh) : (s.setCan p x).can q = if q = p then x else s.can q :=
  Sparse.get_set (State.wf_iff s |>.1 h).2.2.2.2.2.2.1

/-! ### Bus accesses -/

/-- A write that reaches its register acts and is answered. -/
theorem State.writeAt_of_mayWrite {s : State} {ini : Initiator} {a : Nat} {f : State → State} (h : s.mayWrite ini a = true) :
    s.writeAt ini a f = (f s).emit (.bus ini .done) := by
  simp only [State.mayWrite, Bool.and_eq_true, Bool.not_eq_true'] at h
  obtain ⟨⟨⟨h1, h2⟩, h3⟩, h4⟩ := h
  simp only [State.writeAt, State.writeEnd, h1, h2, h3, h4, Bool.false_eq_true, Bool.or_self, if_false]

/-- A read that reaches its register acts and is answered. -/
theorem State.readAt_of_mayRead {s : State} {ini : Initiator} {a : Nat} {f : State → Word × State} (h : s.mayRead ini a = true) :
    s.readAt ini a f = (f s).2.emit (.bus ini (.data (f s).1)) := by
  simp only [State.mayRead, Bool.and_eq_true, Bool.not_eq_true'] at h
  obtain ⟨⟨h1, h2⟩, h3⟩ := h
  simp only [State.readAt, State.readEnd, h1, h2, h3, Bool.false_eq_true, if_false]

/-- While the bus of the initiator is mute nothing happens. -/
theorem State.writeAt_of_mute {s : State} {ini : Initiator} {a : Nat} {f : State → State} (h : s.mute ini = true) :
    s.writeAt ini a f = s := by
  rw [State.writeAt, if_pos h]

theorem State.readAt_of_mute {s : State} {ini : Initiator} {a : Nat} {f : State → Word × State} (h : s.readMute ini = true) :
    s.readAt ini a f = s := by
  rw [State.readAt, if_pos h]

/-- A command of the owner of a table window that is not busy acts. -/
theorem State.tableWrite_of_owner {s : State} {ini : Initiator} {bit a : Nat} {f : State → State} (h : s.mayWrite ini a = true)
    (ho : s.ownsTable bit ini = true) : s.tableWrite ini bit a false f = (f s).emit (.bus ini .done) := by
  rw [State.tableWrite, State.writeAt_of_mayWrite h, State.tableAct, ho]; rfl

/-- A command of an initiator that does not own the window is recorded and does nothing else. -/
theorem State.tableWrite_of_other {s : State} {ini : Initiator} {bit a : Nat} {busy : Bool} {f : State → State}
    (h : s.mayWrite ini a = true) (ho : s.ownsTable bit ini = false) :
    s.tableWrite ini bit a busy f = s.violation.emit (.bus ini .done) := by
  rw [State.tableWrite, State.writeAt_of_mayWrite h, State.tableAct, ho]; rfl

/-! ### The fault collector's inputs -/

@[simp] theorem State.rd_markSet (s : State) (a n b : Nat) : (s.markSet a n).rd b = s.rd b := by unfold State.markSet; split <;> rfl
@[simp] theorem State.rd_assertSource (s : State) (n b : Nat) : (s.assertSource n).rd b = s.rd b := by
  unfold State.assertSource; split <;> rfl

/-- Raising an event sets its bit and changes no other register. -/
theorem State.rd_raise {s : State} (h : s.wf = true) (f : Fld) (b : Nat) :
    (s.raise f).rd b = if b = f.addr then putBits (s.rd b) f.hi f.lo 1 else s.rd b := by
  unfold State.raise
  have e : ((s.set f 1).markSet f.addr f.lo).rd b = if b = f.addr then putBits (s.rd b) f.hi f.lo 1 else s.rd b := by
    rw [State.rd_markSet]
    by_cases n : b = f.addr
    · subst n; rw [if_pos rfl]; exact State.rd_wr_self h ..
    · rw [if_neg n]; exact State.rd_wr_ne h _ n
  dsimp only
  split
  · rw [State.rd_assertSource, e]
  · exact e

/-- Latching a direct source sets its bit of FLT_DIRECT and changes no other register. -/
theorem State.rd_direct {s : State} (h : s.wf = true) (src b : Nat) :
    (s.direct src).rd b = if b = FLT.FLT_DIRECT then s.rd b ||| BitVec.ofNat 32 (2 ^ src) else s.rd b := by
  unfold State.direct
  rw [State.rd_assertSource, State.rd_markSet, State.rd_wr h]
  split
  · rename_i e; rw [e]
  · rfl

theorem State.raise_bit {s : State} (h : s.wf = true) {f : Fld} (hf : f.lo = f.hi) (h32 : f.hi < 32) : (s.raise f).bit f = true := by
  unfold State.bit State.get
  have e : f.hi + 1 - f.lo = 1 := by omega
  rw [State.rd_raise h, if_pos rfl, bitsOf_putBits (by omega) h32 (by rw [e]; decide)]
  rfl


@[simp] theorem State.raise_cnts (s : State) (f : Fld) : (s.raise f).cnts = s.cnts := (State.raise_keep s f).same .cnts rfl
@[simp] theorem State.raise_hold (s : State) (f : Fld) : (s.raise f).hold = s.hold := (State.raise_keep s f).same .hold rfl
@[simp] theorem State.raise_tabs (s : State) (f : Fld) : (s.raise f).tabs = s.tabs := (State.raise_keep s f).same .tabs rfl
@[simp] theorem State.raise_tim (s : State) (f : Fld) : (s.raise f).tim = s.tim := (State.raise_keep s f).same .tim rfl
@[simp] theorem State.raise_pins (s : State) (f : Fld) : (s.raise f).pins = s.pins := (State.raise_keep s f).same .pins rfl
@[simp] theorem State.raise_marker (s : State) (f : Fld) : (s.raise f).marker = s.marker := (State.raise_keep s f).same .marker rfl
@[simp] theorem State.raise_frames (s : State) (f : Fld) : (s.raise f).frames = s.frames := (State.raise_keep s f).same .frames rfl
@[simp] theorem State.raise_copies (s : State) (f : Fld) : (s.raise f).copies = s.copies := (State.raise_keep s f).same .copies rfl
@[simp] theorem State.raise_nextFid (s : State) (f : Fld) : (s.raise f).nextFid = s.nextFid := (State.raise_keep s f).same .nextFid rfl
@[simp] theorem State.raise_nextCid (s : State) (f : Fld) : (s.raise f).nextCid = s.nextCid := (State.raise_keep s f).same .nextCid rfl
@[simp] theorem State.raise_macs (s : State) (f : Fld) : (s.raise f).macs = s.macs := (State.raise_keep s f).same .macs rfl
@[simp] theorem State.raise_slc (s : State) (f : Fld) : (s.raise f).slc = s.slc := (State.raise_keep s f).same .slc rfl
@[simp] theorem State.raise_str (s : State) (f : Fld) : (s.raise f).str = s.str := (State.raise_keep s f).same .str rfl
@[simp] theorem State.raise_bsn (s : State) (f : Fld) : (s.raise f).bsn = s.bsn := (State.raise_keep s f).same .bsn rfl
@[simp] theorem State.raise_crs (s : State) (f : Fld) : (s.raise f).crs = s.crs := (State.raise_keep s f).same .crs rfl
@[simp] theorem State.raise_lkp (s : State) (f : Fld) : (s.raise f).lkp = s.lkp := (State.raise_keep s f).same .lkp rfl
@[simp] theorem State.raise_fltLog (s : State) (f : Fld) : (s.raise f).fltLog = s.fltLog := (State.raise_keep s f).same .fltLog rfl
@[simp] theorem State.raise_fltCond (s : State) (f : Fld) : (s.raise f).fltCond = s.fltCond := (State.raise_keep s f).same .fltCond rfl
@[simp] theorem State.raise_msixMask (s : State) (f : Fld) : (s.raise f).msixMask = s.msixMask := (State.raise_keep s f).same .msixMask rfl
@[simp] theorem State.raise_msixFn (s : State) (f : Fld) : (s.raise f).msixFn = s.msixFn := (State.raise_keep s f).same .msixFn rfl
@[simp] theorem State.raise_msixPba (s : State) (f : Fld) : (s.raise f).msixPba = s.msixPba := (State.raise_keep s f).same .msixPba rfl
@[simp] theorem State.raise_notes (s : State) (f : Fld) : (s.raise f).notes = s.notes := (State.raise_keep s f).same .notes rfl
@[simp] theorem State.raise_cans (s : State) (f : Fld) : (s.raise f).cans = s.cans := (State.raise_keep s f).same .cans rfl
@[simp] theorem State.raise_twp (s : State) (f : Fld) : (s.raise f).twp = s.twp := (State.raise_keep s f).same .twp rfl
@[simp] theorem State.raise_key (s : State) (f : Fld) : (s.raise f).key = s.key := (State.raise_keep s f).same .key rfl
@[simp] theorem State.raise_cph (s : State) (f : Fld) : (s.raise f).cph = s.cph := (State.raise_keep s f).same .cph rfl
@[simp] theorem State.raise_la (s : State) (f : Fld) : (s.raise f).la = s.la := (State.raise_keep s f).same .la rfl
@[simp] theorem State.raise_gwe (s : State) (f : Fld) : (s.raise f).gwe = s.gwe := (State.raise_keep s f).same .gwe rfl
@[simp] theorem State.raise_cpu (s : State) (f : Fld) : (s.raise f).cpu = s.cpu := (State.raise_keep s f).same .cpu rfl
@[simp] theorem State.raise_brg (s : State) (f : Fld) : (s.raise f).brg = s.brg := (State.raise_keep s f).same .brg rfl
@[simp] theorem State.raise_boot (s : State) (f : Fld) : (s.raise f).boot = s.boot := (State.raise_keep s f).same .boot rfl
@[simp] theorem State.raise_upd (s : State) (f : Fld) : (s.raise f).upd = s.upd := (State.raise_keep s f).same .upd rfl
@[simp] theorem State.raise_wak (s : State) (f : Fld) : (s.raise f).wak = s.wak := (State.raise_keep s f).same .wak rfl
@[simp] theorem State.raise_mem (s : State) (f : Fld) : (s.raise f).mem = s.mem := (State.raise_keep s f).same .mem rfl
@[simp] theorem State.raise_fresh (s : State) (f : Fld) : (s.raise f).fresh = s.fresh := (State.raise_keep s f).same .fresh rfl
@[simp] theorem State.raise_wire (s : State) (f : Fld) : (s.raise f).wire = s.wire := (State.raise_keep s f).same .wire rfl
@[simp] theorem State.raise_wf {s : State} (h : s.wf = true) (f : Fld) : (s.raise f).wf = true := (State.raise_keep s f).wf h

@[simp] theorem State.direct_cnts (s : State) (src : Nat) : (s.direct src).cnts = s.cnts := (State.direct_keep s src).same .cnts rfl
@[simp] theorem State.direct_hold (s : State) (src : Nat) : (s.direct src).hold = s.hold := (State.direct_keep s src).same .hold rfl
@[simp] theorem State.direct_tabs (s : State) (src : Nat) : (s.direct src).tabs = s.tabs := (State.direct_keep s src).same .tabs rfl
@[simp] theorem State.direct_tim (s : State) (src : Nat) : (s.direct src).tim = s.tim := (State.direct_keep s src).same .tim rfl
@[simp] theorem State.direct_pins (s : State) (src : Nat) : (s.direct src).pins = s.pins := (State.direct_keep s src).same .pins rfl
@[simp] theorem State.direct_marker (s : State) (src : Nat) : (s.direct src).marker = s.marker := (State.direct_keep s src).same .marker rfl
@[simp] theorem State.direct_frames (s : State) (src : Nat) : (s.direct src).frames = s.frames := (State.direct_keep s src).same .frames rfl
@[simp] theorem State.direct_copies (s : State) (src : Nat) : (s.direct src).copies = s.copies := (State.direct_keep s src).same .copies rfl
@[simp] theorem State.direct_nextFid (s : State) (src : Nat) : (s.direct src).nextFid = s.nextFid := (State.direct_keep s src).same .nextFid rfl
@[simp] theorem State.direct_nextCid (s : State) (src : Nat) : (s.direct src).nextCid = s.nextCid := (State.direct_keep s src).same .nextCid rfl
@[simp] theorem State.direct_macs (s : State) (src : Nat) : (s.direct src).macs = s.macs := (State.direct_keep s src).same .macs rfl
@[simp] theorem State.direct_slc (s : State) (src : Nat) : (s.direct src).slc = s.slc := (State.direct_keep s src).same .slc rfl
@[simp] theorem State.direct_str (s : State) (src : Nat) : (s.direct src).str = s.str := (State.direct_keep s src).same .str rfl
@[simp] theorem State.direct_bsn (s : State) (src : Nat) : (s.direct src).bsn = s.bsn := (State.direct_keep s src).same .bsn rfl
@[simp] theorem State.direct_crs (s : State) (src : Nat) : (s.direct src).crs = s.crs := (State.direct_keep s src).same .crs rfl
@[simp] theorem State.direct_lkp (s : State) (src : Nat) : (s.direct src).lkp = s.lkp := (State.direct_keep s src).same .lkp rfl
@[simp] theorem State.direct_fltLog (s : State) (src : Nat) : (s.direct src).fltLog = s.fltLog := (State.direct_keep s src).same .fltLog rfl
@[simp] theorem State.direct_fltCond (s : State) (src : Nat) : (s.direct src).fltCond = s.fltCond := (State.direct_keep s src).same .fltCond rfl
@[simp] theorem State.direct_msixMask (s : State) (src : Nat) : (s.direct src).msixMask = s.msixMask := (State.direct_keep s src).same .msixMask rfl
@[simp] theorem State.direct_msixFn (s : State) (src : Nat) : (s.direct src).msixFn = s.msixFn := (State.direct_keep s src).same .msixFn rfl
@[simp] theorem State.direct_msixPba (s : State) (src : Nat) : (s.direct src).msixPba = s.msixPba := (State.direct_keep s src).same .msixPba rfl
@[simp] theorem State.direct_notes (s : State) (src : Nat) : (s.direct src).notes = s.notes := (State.direct_keep s src).same .notes rfl
@[simp] theorem State.direct_cans (s : State) (src : Nat) : (s.direct src).cans = s.cans := (State.direct_keep s src).same .cans rfl
@[simp] theorem State.direct_twp (s : State) (src : Nat) : (s.direct src).twp = s.twp := (State.direct_keep s src).same .twp rfl
@[simp] theorem State.direct_key (s : State) (src : Nat) : (s.direct src).key = s.key := (State.direct_keep s src).same .key rfl
@[simp] theorem State.direct_cph (s : State) (src : Nat) : (s.direct src).cph = s.cph := (State.direct_keep s src).same .cph rfl
@[simp] theorem State.direct_la (s : State) (src : Nat) : (s.direct src).la = s.la := (State.direct_keep s src).same .la rfl
@[simp] theorem State.direct_gwe (s : State) (src : Nat) : (s.direct src).gwe = s.gwe := (State.direct_keep s src).same .gwe rfl
@[simp] theorem State.direct_cpu (s : State) (src : Nat) : (s.direct src).cpu = s.cpu := (State.direct_keep s src).same .cpu rfl
@[simp] theorem State.direct_brg (s : State) (src : Nat) : (s.direct src).brg = s.brg := (State.direct_keep s src).same .brg rfl
@[simp] theorem State.direct_boot (s : State) (src : Nat) : (s.direct src).boot = s.boot := (State.direct_keep s src).same .boot rfl
@[simp] theorem State.direct_upd (s : State) (src : Nat) : (s.direct src).upd = s.upd := (State.direct_keep s src).same .upd rfl
@[simp] theorem State.direct_wak (s : State) (src : Nat) : (s.direct src).wak = s.wak := (State.direct_keep s src).same .wak rfl
@[simp] theorem State.direct_mem (s : State) (src : Nat) : (s.direct src).mem = s.mem := (State.direct_keep s src).same .mem rfl
@[simp] theorem State.direct_fresh (s : State) (src : Nat) : (s.direct src).fresh = s.fresh := (State.direct_keep s src).same .fresh rfl
@[simp] theorem State.direct_wire (s : State) (src : Nat) : (s.direct src).wire = s.wire := (State.direct_keep s src).same .wire rfl
@[simp] theorem State.direct_wf {s : State} (h : s.wf = true) (src : Nat) : (s.direct src).wf = true := (State.direct_keep s src).wf h

@[simp] theorem State.violation_cnts (s : State)  : (s.violation).cnts = s.cnts := (State.violation_keep s ).same .cnts rfl
@[simp] theorem State.violation_hold (s : State)  : (s.violation).hold = s.hold := (State.violation_keep s ).same .hold rfl
@[simp] theorem State.violation_tabs (s : State)  : (s.violation).tabs = s.tabs := (State.violation_keep s ).same .tabs rfl
@[simp] theorem State.violation_tim (s : State)  : (s.violation).tim = s.tim := (State.violation_keep s ).same .tim rfl
@[simp] theorem State.violation_pins (s : State)  : (s.violation).pins = s.pins := (State.violation_keep s ).same .pins rfl
@[simp] theorem State.violation_marker (s : State)  : (s.violation).marker = s.marker := (State.violation_keep s ).same .marker rfl
@[simp] theorem State.violation_frames (s : State)  : (s.violation).frames = s.frames := (State.violation_keep s ).same .frames rfl
@[simp] theorem State.violation_copies (s : State)  : (s.violation).copies = s.copies := (State.violation_keep s ).same .copies rfl
@[simp] theorem State.violation_nextFid (s : State)  : (s.violation).nextFid = s.nextFid := (State.violation_keep s ).same .nextFid rfl
@[simp] theorem State.violation_nextCid (s : State)  : (s.violation).nextCid = s.nextCid := (State.violation_keep s ).same .nextCid rfl
@[simp] theorem State.violation_macs (s : State)  : (s.violation).macs = s.macs := (State.violation_keep s ).same .macs rfl
@[simp] theorem State.violation_slc (s : State)  : (s.violation).slc = s.slc := (State.violation_keep s ).same .slc rfl
@[simp] theorem State.violation_str (s : State)  : (s.violation).str = s.str := (State.violation_keep s ).same .str rfl
@[simp] theorem State.violation_bsn (s : State)  : (s.violation).bsn = s.bsn := (State.violation_keep s ).same .bsn rfl
@[simp] theorem State.violation_crs (s : State)  : (s.violation).crs = s.crs := (State.violation_keep s ).same .crs rfl
@[simp] theorem State.violation_lkp (s : State)  : (s.violation).lkp = s.lkp := (State.violation_keep s ).same .lkp rfl
@[simp] theorem State.violation_fltLog (s : State)  : (s.violation).fltLog = s.fltLog := (State.violation_keep s ).same .fltLog rfl
@[simp] theorem State.violation_fltCond (s : State)  : (s.violation).fltCond = s.fltCond := (State.violation_keep s ).same .fltCond rfl
@[simp] theorem State.violation_msixMask (s : State)  : (s.violation).msixMask = s.msixMask := (State.violation_keep s ).same .msixMask rfl
@[simp] theorem State.violation_msixFn (s : State)  : (s.violation).msixFn = s.msixFn := (State.violation_keep s ).same .msixFn rfl
@[simp] theorem State.violation_msixPba (s : State)  : (s.violation).msixPba = s.msixPba := (State.violation_keep s ).same .msixPba rfl
@[simp] theorem State.violation_notes (s : State)  : (s.violation).notes = s.notes := (State.violation_keep s ).same .notes rfl
@[simp] theorem State.violation_cans (s : State)  : (s.violation).cans = s.cans := (State.violation_keep s ).same .cans rfl
@[simp] theorem State.violation_twp (s : State)  : (s.violation).twp = s.twp := (State.violation_keep s ).same .twp rfl
@[simp] theorem State.violation_key (s : State)  : (s.violation).key = s.key := (State.violation_keep s ).same .key rfl
@[simp] theorem State.violation_cph (s : State)  : (s.violation).cph = s.cph := (State.violation_keep s ).same .cph rfl
@[simp] theorem State.violation_la (s : State)  : (s.violation).la = s.la := (State.violation_keep s ).same .la rfl
@[simp] theorem State.violation_gwe (s : State)  : (s.violation).gwe = s.gwe := (State.violation_keep s ).same .gwe rfl
@[simp] theorem State.violation_cpu (s : State)  : (s.violation).cpu = s.cpu := (State.violation_keep s ).same .cpu rfl
@[simp] theorem State.violation_brg (s : State)  : (s.violation).brg = s.brg := (State.violation_keep s ).same .brg rfl
@[simp] theorem State.violation_boot (s : State)  : (s.violation).boot = s.boot := (State.violation_keep s ).same .boot rfl
@[simp] theorem State.violation_upd (s : State)  : (s.violation).upd = s.upd := (State.violation_keep s ).same .upd rfl
@[simp] theorem State.violation_wak (s : State)  : (s.violation).wak = s.wak := (State.violation_keep s ).same .wak rfl
@[simp] theorem State.violation_mem (s : State)  : (s.violation).mem = s.mem := (State.violation_keep s ).same .mem rfl
@[simp] theorem State.violation_fresh (s : State)  : (s.violation).fresh = s.fresh := (State.violation_keep s ).same .fresh rfl
@[simp] theorem State.violation_wire (s : State)  : (s.violation).wire = s.wire := (State.violation_keep s ).same .wire rfl
@[simp] theorem State.violation_wf {s : State} (h : s.wf = true)  : (s.violation).wf = true := (State.violation_keep s ).wf h

@[simp] theorem State.markSet_cnts (s : State) (a n : Nat) : (s.markSet a n).cnts = s.cnts := (State.markSet_keep s a n).same .cnts rfl
@[simp] theorem State.markSet_hold (s : State) (a n : Nat) : (s.markSet a n).hold = s.hold := (State.markSet_keep s a n).same .hold rfl
@[simp] theorem State.markSet_tabs (s : State) (a n : Nat) : (s.markSet a n).tabs = s.tabs := (State.markSet_keep s a n).same .tabs rfl
@[simp] theorem State.markSet_tim (s : State) (a n : Nat) : (s.markSet a n).tim = s.tim := (State.markSet_keep s a n).same .tim rfl
@[simp] theorem State.markSet_pins (s : State) (a n : Nat) : (s.markSet a n).pins = s.pins := (State.markSet_keep s a n).same .pins rfl
@[simp] theorem State.markSet_marker (s : State) (a n : Nat) : (s.markSet a n).marker = s.marker := (State.markSet_keep s a n).same .marker rfl
@[simp] theorem State.markSet_frames (s : State) (a n : Nat) : (s.markSet a n).frames = s.frames := (State.markSet_keep s a n).same .frames rfl
@[simp] theorem State.markSet_copies (s : State) (a n : Nat) : (s.markSet a n).copies = s.copies := (State.markSet_keep s a n).same .copies rfl
@[simp] theorem State.markSet_nextFid (s : State) (a n : Nat) : (s.markSet a n).nextFid = s.nextFid := (State.markSet_keep s a n).same .nextFid rfl
@[simp] theorem State.markSet_nextCid (s : State) (a n : Nat) : (s.markSet a n).nextCid = s.nextCid := (State.markSet_keep s a n).same .nextCid rfl
@[simp] theorem State.markSet_macs (s : State) (a n : Nat) : (s.markSet a n).macs = s.macs := (State.markSet_keep s a n).same .macs rfl
@[simp] theorem State.markSet_slc (s : State) (a n : Nat) : (s.markSet a n).slc = s.slc := (State.markSet_keep s a n).same .slc rfl
@[simp] theorem State.markSet_str (s : State) (a n : Nat) : (s.markSet a n).str = s.str := (State.markSet_keep s a n).same .str rfl
@[simp] theorem State.markSet_bsn (s : State) (a n : Nat) : (s.markSet a n).bsn = s.bsn := (State.markSet_keep s a n).same .bsn rfl
@[simp] theorem State.markSet_crs (s : State) (a n : Nat) : (s.markSet a n).crs = s.crs := (State.markSet_keep s a n).same .crs rfl
@[simp] theorem State.markSet_lkp (s : State) (a n : Nat) : (s.markSet a n).lkp = s.lkp := (State.markSet_keep s a n).same .lkp rfl
@[simp] theorem State.markSet_fltLog (s : State) (a n : Nat) : (s.markSet a n).fltLog = s.fltLog := (State.markSet_keep s a n).same .fltLog rfl
@[simp] theorem State.markSet_fltCond (s : State) (a n : Nat) : (s.markSet a n).fltCond = s.fltCond := (State.markSet_keep s a n).same .fltCond rfl
@[simp] theorem State.markSet_msixMask (s : State) (a n : Nat) : (s.markSet a n).msixMask = s.msixMask := (State.markSet_keep s a n).same .msixMask rfl
@[simp] theorem State.markSet_msixFn (s : State) (a n : Nat) : (s.markSet a n).msixFn = s.msixFn := (State.markSet_keep s a n).same .msixFn rfl
@[simp] theorem State.markSet_msixPba (s : State) (a n : Nat) : (s.markSet a n).msixPba = s.msixPba := (State.markSet_keep s a n).same .msixPba rfl
@[simp] theorem State.markSet_notes (s : State) (a n : Nat) : (s.markSet a n).notes = s.notes := (State.markSet_keep s a n).same .notes rfl
@[simp] theorem State.markSet_cans (s : State) (a n : Nat) : (s.markSet a n).cans = s.cans := (State.markSet_keep s a n).same .cans rfl
@[simp] theorem State.markSet_twp (s : State) (a n : Nat) : (s.markSet a n).twp = s.twp := (State.markSet_keep s a n).same .twp rfl
@[simp] theorem State.markSet_key (s : State) (a n : Nat) : (s.markSet a n).key = s.key := (State.markSet_keep s a n).same .key rfl
@[simp] theorem State.markSet_cph (s : State) (a n : Nat) : (s.markSet a n).cph = s.cph := (State.markSet_keep s a n).same .cph rfl
@[simp] theorem State.markSet_la (s : State) (a n : Nat) : (s.markSet a n).la = s.la := (State.markSet_keep s a n).same .la rfl
@[simp] theorem State.markSet_gwe (s : State) (a n : Nat) : (s.markSet a n).gwe = s.gwe := (State.markSet_keep s a n).same .gwe rfl
@[simp] theorem State.markSet_cpu (s : State) (a n : Nat) : (s.markSet a n).cpu = s.cpu := (State.markSet_keep s a n).same .cpu rfl
@[simp] theorem State.markSet_brg (s : State) (a n : Nat) : (s.markSet a n).brg = s.brg := (State.markSet_keep s a n).same .brg rfl
@[simp] theorem State.markSet_boot (s : State) (a n : Nat) : (s.markSet a n).boot = s.boot := (State.markSet_keep s a n).same .boot rfl
@[simp] theorem State.markSet_upd (s : State) (a n : Nat) : (s.markSet a n).upd = s.upd := (State.markSet_keep s a n).same .upd rfl
@[simp] theorem State.markSet_wak (s : State) (a n : Nat) : (s.markSet a n).wak = s.wak := (State.markSet_keep s a n).same .wak rfl
@[simp] theorem State.markSet_mem (s : State) (a n : Nat) : (s.markSet a n).mem = s.mem := (State.markSet_keep s a n).same .mem rfl
@[simp] theorem State.markSet_fresh (s : State) (a n : Nat) : (s.markSet a n).fresh = s.fresh := (State.markSet_keep s a n).same .fresh rfl
@[simp] theorem State.markSet_wire (s : State) (a n : Nat) : (s.markSet a n).wire = s.wire := (State.markSet_keep s a n).same .wire rfl
@[simp] theorem State.markSet_wf {s : State} (h : s.wf = true) (a n : Nat) : (s.markSet a n).wf = true := (State.markSet_keep s a n).wf h

@[simp] theorem State.assertSource_cnts (s : State) (n : Nat) : (s.assertSource n).cnts = s.cnts := (State.assertSource_keep s n).same .cnts rfl
@[simp] theorem State.assertSource_hold (s : State) (n : Nat) : (s.assertSource n).hold = s.hold := (State.assertSource_keep s n).same .hold rfl
@[simp] theorem State.assertSource_tabs (s : State) (n : Nat) : (s.assertSource n).tabs = s.tabs := (State.assertSource_keep s n).same .tabs rfl
@[simp] theorem State.assertSource_tim (s : State) (n : Nat) : (s.assertSource n).tim = s.tim := (State.assertSource_keep s n).same .tim rfl
@[simp] theorem State.assertSource_pins (s : State) (n : Nat) : (s.assertSource n).pins = s.pins := (State.assertSource_keep s n).same .pins rfl
@[simp] theorem State.assertSource_marker (s : State) (n : Nat) : (s.assertSource n).marker = s.marker := (State.assertSource_keep s n).same .marker rfl
@[simp] theorem State.assertSource_frames (s : State) (n : Nat) : (s.assertSource n).frames = s.frames := (State.assertSource_keep s n).same .frames rfl
@[simp] theorem State.assertSource_copies (s : State) (n : Nat) : (s.assertSource n).copies = s.copies := (State.assertSource_keep s n).same .copies rfl
@[simp] theorem State.assertSource_nextFid (s : State) (n : Nat) : (s.assertSource n).nextFid = s.nextFid := (State.assertSource_keep s n).same .nextFid rfl
@[simp] theorem State.assertSource_nextCid (s : State) (n : Nat) : (s.assertSource n).nextCid = s.nextCid := (State.assertSource_keep s n).same .nextCid rfl
@[simp] theorem State.assertSource_macs (s : State) (n : Nat) : (s.assertSource n).macs = s.macs := (State.assertSource_keep s n).same .macs rfl
@[simp] theorem State.assertSource_slc (s : State) (n : Nat) : (s.assertSource n).slc = s.slc := (State.assertSource_keep s n).same .slc rfl
@[simp] theorem State.assertSource_str (s : State) (n : Nat) : (s.assertSource n).str = s.str := (State.assertSource_keep s n).same .str rfl
@[simp] theorem State.assertSource_bsn (s : State) (n : Nat) : (s.assertSource n).bsn = s.bsn := (State.assertSource_keep s n).same .bsn rfl
@[simp] theorem State.assertSource_crs (s : State) (n : Nat) : (s.assertSource n).crs = s.crs := (State.assertSource_keep s n).same .crs rfl
@[simp] theorem State.assertSource_lkp (s : State) (n : Nat) : (s.assertSource n).lkp = s.lkp := (State.assertSource_keep s n).same .lkp rfl
@[simp] theorem State.assertSource_fltLog (s : State) (n : Nat) : (s.assertSource n).fltLog = s.fltLog := (State.assertSource_keep s n).same .fltLog rfl
@[simp] theorem State.assertSource_fltCond (s : State) (n : Nat) : (s.assertSource n).fltCond = s.fltCond := (State.assertSource_keep s n).same .fltCond rfl
@[simp] theorem State.assertSource_msixMask (s : State) (n : Nat) : (s.assertSource n).msixMask = s.msixMask := (State.assertSource_keep s n).same .msixMask rfl
@[simp] theorem State.assertSource_msixFn (s : State) (n : Nat) : (s.assertSource n).msixFn = s.msixFn := (State.assertSource_keep s n).same .msixFn rfl
@[simp] theorem State.assertSource_msixPba (s : State) (n : Nat) : (s.assertSource n).msixPba = s.msixPba := (State.assertSource_keep s n).same .msixPba rfl
@[simp] theorem State.assertSource_notes (s : State) (n : Nat) : (s.assertSource n).notes = s.notes := (State.assertSource_keep s n).same .notes rfl
@[simp] theorem State.assertSource_cans (s : State) (n : Nat) : (s.assertSource n).cans = s.cans := (State.assertSource_keep s n).same .cans rfl
@[simp] theorem State.assertSource_twp (s : State) (n : Nat) : (s.assertSource n).twp = s.twp := (State.assertSource_keep s n).same .twp rfl
@[simp] theorem State.assertSource_key (s : State) (n : Nat) : (s.assertSource n).key = s.key := (State.assertSource_keep s n).same .key rfl
@[simp] theorem State.assertSource_cph (s : State) (n : Nat) : (s.assertSource n).cph = s.cph := (State.assertSource_keep s n).same .cph rfl
@[simp] theorem State.assertSource_la (s : State) (n : Nat) : (s.assertSource n).la = s.la := (State.assertSource_keep s n).same .la rfl
@[simp] theorem State.assertSource_gwe (s : State) (n : Nat) : (s.assertSource n).gwe = s.gwe := (State.assertSource_keep s n).same .gwe rfl
@[simp] theorem State.assertSource_cpu (s : State) (n : Nat) : (s.assertSource n).cpu = s.cpu := (State.assertSource_keep s n).same .cpu rfl
@[simp] theorem State.assertSource_brg (s : State) (n : Nat) : (s.assertSource n).brg = s.brg := (State.assertSource_keep s n).same .brg rfl
@[simp] theorem State.assertSource_boot (s : State) (n : Nat) : (s.assertSource n).boot = s.boot := (State.assertSource_keep s n).same .boot rfl
@[simp] theorem State.assertSource_upd (s : State) (n : Nat) : (s.assertSource n).upd = s.upd := (State.assertSource_keep s n).same .upd rfl
@[simp] theorem State.assertSource_wak (s : State) (n : Nat) : (s.assertSource n).wak = s.wak := (State.assertSource_keep s n).same .wak rfl
@[simp] theorem State.assertSource_mem (s : State) (n : Nat) : (s.assertSource n).mem = s.mem := (State.assertSource_keep s n).same .mem rfl
@[simp] theorem State.assertSource_fresh (s : State) (n : Nat) : (s.assertSource n).fresh = s.fresh := (State.assertSource_keep s n).same .fresh rfl
@[simp] theorem State.assertSource_wire (s : State) (n : Nat) : (s.assertSource n).wire = s.wire := (State.assertSource_keep s n).same .wire rfl
@[simp] theorem State.assertSource_wf {s : State} (h : s.wf = true) (n : Nat) : (s.assertSource n).wf = true := (State.assertSource_keep s n).wf h

@[simp] theorem State.plainWrite_cnts (s : State) (a : Nat) (w bar : Word) : (s.plainWrite a w bar).cnts = s.cnts := (State.plainWrite_keep s a w bar).same .cnts rfl
@[simp] theorem State.plainWrite_hold (s : State) (a : Nat) (w bar : Word) : (s.plainWrite a w bar).hold = s.hold := (State.plainWrite_keep s a w bar).same .hold rfl
@[simp] theorem State.plainWrite_tabs (s : State) (a : Nat) (w bar : Word) : (s.plainWrite a w bar).tabs = s.tabs := (State.plainWrite_keep s a w bar).same .tabs rfl
@[simp] theorem State.plainWrite_tim (s : State) (a : Nat) (w bar : Word) : (s.plainWrite a w bar).tim = s.tim := (State.plainWrite_keep s a w bar).same .tim rfl
@[simp] theorem State.plainWrite_pins (s : State) (a : Nat) (w bar : Word) : (s.plainWrite a w bar).pins = s.pins := (State.plainWrite_keep s a w bar).same .pins rfl
@[simp] theorem State.plainWrite_marker (s : State) (a : Nat) (w bar : Word) : (s.plainWrite a w bar).marker = s.marker := (State.plainWrite_keep s a w bar).same .marker rfl
@[simp] theorem State.plainWrite_frames (s : State) (a : Nat) (w bar : Word) : (s.plainWrite a w bar).frames = s.frames := (State.plainWrite_keep s a w bar).same .frames rfl
@[simp] theorem State.plainWrite_copies (s : State) (a : Nat) (w bar : Word) : (s.plainWrite a w bar).copies = s.copies := (State.plainWrite_keep s a w bar).same .copies rfl
@[simp] theorem State.plainWrite_nextFid (s : State) (a : Nat) (w bar : Word) : (s.plainWrite a w bar).nextFid = s.nextFid := (State.plainWrite_keep s a w bar).same .nextFid rfl
@[simp] theorem State.plainWrite_nextCid (s : State) (a : Nat) (w bar : Word) : (s.plainWrite a w bar).nextCid = s.nextCid := (State.plainWrite_keep s a w bar).same .nextCid rfl
@[simp] theorem State.plainWrite_macs (s : State) (a : Nat) (w bar : Word) : (s.plainWrite a w bar).macs = s.macs := (State.plainWrite_keep s a w bar).same .macs rfl
@[simp] theorem State.plainWrite_slc (s : State) (a : Nat) (w bar : Word) : (s.plainWrite a w bar).slc = s.slc := (State.plainWrite_keep s a w bar).same .slc rfl
@[simp] theorem State.plainWrite_str (s : State) (a : Nat) (w bar : Word) : (s.plainWrite a w bar).str = s.str := (State.plainWrite_keep s a w bar).same .str rfl
@[simp] theorem State.plainWrite_bsn (s : State) (a : Nat) (w bar : Word) : (s.plainWrite a w bar).bsn = s.bsn := (State.plainWrite_keep s a w bar).same .bsn rfl
@[simp] theorem State.plainWrite_crs (s : State) (a : Nat) (w bar : Word) : (s.plainWrite a w bar).crs = s.crs := (State.plainWrite_keep s a w bar).same .crs rfl
@[simp] theorem State.plainWrite_lkp (s : State) (a : Nat) (w bar : Word) : (s.plainWrite a w bar).lkp = s.lkp := (State.plainWrite_keep s a w bar).same .lkp rfl
@[simp] theorem State.plainWrite_fltLog (s : State) (a : Nat) (w bar : Word) : (s.plainWrite a w bar).fltLog = s.fltLog := (State.plainWrite_keep s a w bar).same .fltLog rfl
@[simp] theorem State.plainWrite_fltCond (s : State) (a : Nat) (w bar : Word) : (s.plainWrite a w bar).fltCond = s.fltCond := (State.plainWrite_keep s a w bar).same .fltCond rfl
@[simp] theorem State.plainWrite_msixMask (s : State) (a : Nat) (w bar : Word) : (s.plainWrite a w bar).msixMask = s.msixMask := (State.plainWrite_keep s a w bar).same .msixMask rfl
@[simp] theorem State.plainWrite_msixFn (s : State) (a : Nat) (w bar : Word) : (s.plainWrite a w bar).msixFn = s.msixFn := (State.plainWrite_keep s a w bar).same .msixFn rfl
@[simp] theorem State.plainWrite_msixPba (s : State) (a : Nat) (w bar : Word) : (s.plainWrite a w bar).msixPba = s.msixPba := (State.plainWrite_keep s a w bar).same .msixPba rfl
@[simp] theorem State.plainWrite_notes (s : State) (a : Nat) (w bar : Word) : (s.plainWrite a w bar).notes = s.notes := (State.plainWrite_keep s a w bar).same .notes rfl
@[simp] theorem State.plainWrite_cans (s : State) (a : Nat) (w bar : Word) : (s.plainWrite a w bar).cans = s.cans := (State.plainWrite_keep s a w bar).same .cans rfl
@[simp] theorem State.plainWrite_twp (s : State) (a : Nat) (w bar : Word) : (s.plainWrite a w bar).twp = s.twp := (State.plainWrite_keep s a w bar).same .twp rfl
@[simp] theorem State.plainWrite_key (s : State) (a : Nat) (w bar : Word) : (s.plainWrite a w bar).key = s.key := (State.plainWrite_keep s a w bar).same .key rfl
@[simp] theorem State.plainWrite_cph (s : State) (a : Nat) (w bar : Word) : (s.plainWrite a w bar).cph = s.cph := (State.plainWrite_keep s a w bar).same .cph rfl
@[simp] theorem State.plainWrite_la (s : State) (a : Nat) (w bar : Word) : (s.plainWrite a w bar).la = s.la := (State.plainWrite_keep s a w bar).same .la rfl
@[simp] theorem State.plainWrite_gwe (s : State) (a : Nat) (w bar : Word) : (s.plainWrite a w bar).gwe = s.gwe := (State.plainWrite_keep s a w bar).same .gwe rfl
@[simp] theorem State.plainWrite_cpu (s : State) (a : Nat) (w bar : Word) : (s.plainWrite a w bar).cpu = s.cpu := (State.plainWrite_keep s a w bar).same .cpu rfl
@[simp] theorem State.plainWrite_brg (s : State) (a : Nat) (w bar : Word) : (s.plainWrite a w bar).brg = s.brg := (State.plainWrite_keep s a w bar).same .brg rfl
@[simp] theorem State.plainWrite_boot (s : State) (a : Nat) (w bar : Word) : (s.plainWrite a w bar).boot = s.boot := (State.plainWrite_keep s a w bar).same .boot rfl
@[simp] theorem State.plainWrite_upd (s : State) (a : Nat) (w bar : Word) : (s.plainWrite a w bar).upd = s.upd := (State.plainWrite_keep s a w bar).same .upd rfl
@[simp] theorem State.plainWrite_wak (s : State) (a : Nat) (w bar : Word) : (s.plainWrite a w bar).wak = s.wak := (State.plainWrite_keep s a w bar).same .wak rfl
@[simp] theorem State.plainWrite_mem (s : State) (a : Nat) (w bar : Word) : (s.plainWrite a w bar).mem = s.mem := (State.plainWrite_keep s a w bar).same .mem rfl
@[simp] theorem State.plainWrite_fresh (s : State) (a : Nat) (w bar : Word) : (s.plainWrite a w bar).fresh = s.fresh := (State.plainWrite_keep s a w bar).same .fresh rfl
@[simp] theorem State.plainWrite_wire (s : State) (a : Nat) (w bar : Word) : (s.plainWrite a w bar).wire = s.wire := (State.plainWrite_keep s a w bar).same .wire rfl
@[simp] theorem State.plainWrite_wf {s : State} (h : s.wf = true) (a : Nat) (w bar : Word) : (s.plainWrite a w bar).wf = true := (State.plainWrite_keep s a w bar).wf h

@[simp] theorem State.cnt_raise (s : State) (f : Fld) (a : Nat) : (s.raise f).cnt a = s.cnt a :=
  congrArg (Sparse.get _ · a) (State.raise_cnts s f)

end Sys2Proof.Machine
end

