-- ==== Sys2Proof/Laws/Write.lean ====
section
/-! SUPPORT. What a write of a register without an effect of its own leaves (R3, R4). -/

namespace Sys2Proof.Machine

/-- A field whose bits all lie in the mask takes the written bits. -/
theorem bitsOf_merge {old w m : Word} {hi lo : Nat} (hm : ∀ j, j ≤ hi → lo ≤ j → m.getLsbD j = true) :
    bitsOf ((old &&& ~~~m) ||| (w &&& m)) hi lo = bitsOf w hi lo := by
  refine Nat.eq_of_testBit_eq fun j => ?_
  rw [testBit_bitsOf, testBit_bitsOf]
  by_cases hj : j < hi + 1 - lo
  · have e := hm (j + lo) (by omega) (by omega)
    simp only [BitVec.getLsbD_or, BitVec.getLsbD_and, BitVec.getLsbD_not, e]
    simp
  · simp only [decide_eq_false hj, Bool.false_and]

/-- A field that has no bit in the mask keeps its bits. -/
theorem bitsOf_unmerged {old w m : Word} {hi lo : Nat} (h32 : hi < 32) (hm : ∀ j, j ≤ hi → lo ≤ j → m.getLsbD j = false) :
    bitsOf ((old &&& ~~~m) ||| (w &&& m)) hi lo = bitsOf old hi lo := by
  refine Nat.eq_of_testBit_eq fun j => ?_
  rw [testBit_bitsOf, testBit_bitsOf]
  by_cases hj : j < hi + 1 - lo
  · have e := hm (j + lo) (by omega) (by omega)
    have hlt : j + lo < 32 := by omega
    simp only [BitVec.getLsbD_or, BitVec.getLsbD_and, BitVec.getLsbD_not, e, hlt]
    simp
  · simp only [decide_eq_false hj, Bool.false_and]

/-- The register that is written, and every other register but FLT_DIRECT, which a locked write sets. -/
theorem State.rd_plainWrite {s : State} (h : s.wf = true) {a b : Nat} {w bar : Word} {r : Reg} (hr : regAt a = some r)
    (hb : b ≠ FLT.FLT_DIRECT) :
    (s.plainWrite a w bar).rd b = if b = a then
      r.written (!s.released) bar (s.rd a) (clampWord a w &&& ~~~(r.bitsWith (· == .w1c) &&& s.setNow a)) else s.rd b := by
  unfold State.plainWrite
  rw [hr]
  dsimp only
  split
  · unfold State.lockedWrite
    rw [State.rd_direct (State.wr_wf h ..), if_neg hb, State.rd_wr h]
  · rw [State.rd_wr h]

/-- While no field of the register is locked, nothing but the register changes. -/
theorem State.plainWrite_of_open {s : State} {a : Nat} {w bar : Word} {r : Reg} (hr : regAt a = some r)
    (hl : r.bitsWith (· == .rwl) = 0) :
    s.plainWrite a w bar =
      s.wr a (r.written (!s.released) bar (s.rd a) (clampWord a w &&& ~~~(r.bitsWith (· == .w1c) &&& s.setNow a))) := by
  unfold State.plainWrite
  rw [hr]
  have e : ∀ x y, r.lockHit x y = false := fun x y => by
    rw [Reg.lockHit, hl]; simp
  simp only [e, Bool.and_false, Bool.false_eq_true, if_false]

/-- A field of a register whose fields are all plainly writable takes the written bits. -/
theorem State.get_plainWrite {s : State} (h : s.wf = true) {f : Fld} {w : Word} {r : Reg} (hr : regAt f.addr = some r)
    (h1 : r.bitsWith (· == .rwl) = 0) (h2 : r.bitsWith (· == .w1c) = 0) (h3 : r.bitsWith (· == .w1s) = 0)
    (hm : ∀ o j, j ≤ f.hi → f.lo ≤ j → (r.bitsWith (fun c => c == .rw || c == .rws || (o && c == .rwl))).getLsbD j = true)
    (hc : clampWord f.addr w = w) : (s.plainWrite f.addr w).get f = bitsOf w f.hi f.lo := by
  rw [State.plainWrite_of_open hr h1]
  unfold State.get
  rw [State.rd_wr_self h]
  unfold Reg.written
  simp only [h2, h3, hc]
  rw [← bitsOf_merge (old := s.rd f.addr) (w := w) (hm (!s.released))]
  have q1 : ∀ x : Word, 0 &&& x = 0 := fun x => BitVec.zero_and
  have q2 : ∀ x : Word, x &&& 0 = 0 := fun x => BitVec.and_zero
  have q3 : ∀ x : Word, x &&& ~~~0 = x := fun x => by rw [show ~~~(0 : Word) = BitVec.allOnes 32 from rfl, BitVec.and_allOnes]
  have q4 : ∀ x : Word, x ||| 0 = x := fun x => BitVec.or_zero
  simp only [q1, q2, q3, q4]

end Sys2Proof.Machine
end

