-- ==== Sys2Proof/Laws/Reads.lean ====
section
/-! SUPPORT. What each read of the state gives after a named update that does not touch what it reads, and after one that does. -/

namespace Sys2Proof.Machine

/-! ### wr -/

@[simp] theorem State.tab_wr (s : State) (a : Nat) (w : Word) (j : Nat) : (s.wr a w).tab j = s.tab j := (rfl)
@[simp] theorem State.tw_wr (s : State) (a : Nat) (w : Word) (n t k i o : Nat) : (s.wr a w).tw n t k i o = s.tw n t k i o := (rfl)
@[simp] theorem State.held_wr (s : State) (a : Nat) (w : Word) (j : Initiator) (b : Nat) : (s.wr a w).held j b = s.held j b := (rfl)
@[simp] theorem State.pin_wr (s : State) (a : Nat) (w : Word) (q : Nat) : (s.wr a w).pin q = s.pin q := (rfl)
@[simp] theorem State.mac_wr (s : State) (a : Nat) (w : Word) (q : Nat) : (s.wr a w).mac q = s.mac q := (rfl)
@[simp] theorem State.can_wr (s : State) (a : Nat) (w : Word) (q : Nat) : (s.wr a w).can q = s.can q := (rfl)
@[simp] theorem State.nowQ_wr (s : State) (a : Nat) (w : Word) : (s.wr a w).nowQ = s.nowQ := (rfl)
@[simp] theorem State.nowPs_wr (s : State) (a : Nat) (w : Word) : (s.wr a w).nowPs = s.nowPs := (rfl)
@[simp] theorem State.pllLost_wr (s : State) (a : Nat) (w : Word) (n : Nat) : (s.wr a w).pllLost n = s.pllLost n := (rfl)

/-! ### set -/

@[simp] theorem State.tab_set (s : State) (f : Fld) (v : Nat) (j : Nat) : (s.set f v).tab j = s.tab j := (rfl)
@[simp] theorem State.tw_set (s : State) (f : Fld) (v : Nat) (n t k i o : Nat) : (s.set f v).tw n t k i o = s.tw n t k i o := (rfl)
@[simp] theorem State.held_set (s : State) (f : Fld) (v : Nat) (j : Initiator) (b : Nat) : (s.set f v).held j b = s.held j b := (rfl)
@[simp] theorem State.pin_set (s : State) (f : Fld) (v : Nat) (q : Nat) : (s.set f v).pin q = s.pin q := (rfl)
@[simp] theorem State.mac_set (s : State) (f : Fld) (v : Nat) (q : Nat) : (s.set f v).mac q = s.mac q := (rfl)
@[simp] theorem State.can_set (s : State) (f : Fld) (v : Nat) (q : Nat) : (s.set f v).can q = s.can q := (rfl)
@[simp] theorem State.nowQ_set (s : State) (f : Fld) (v : Nat) : (s.set f v).nowQ = s.nowQ := (rfl)
@[simp] theorem State.nowPs_set (s : State) (f : Fld) (v : Nat) : (s.set f v).nowPs = s.nowPs := (rfl)
@[simp] theorem State.pllLost_set (s : State) (f : Fld) (v : Nat) (n : Nat) : (s.set f v).pllLost n = s.pllLost n := (rfl)

/-! ### setBit -/

@[simp] theorem State.cnt_setBit (s : State) (f : Fld) (y : Bool) (b : Nat) : (s.setBit f y).cnt b = s.cnt b := (rfl)
@[simp] theorem State.tab_setBit (s : State) (f : Fld) (y : Bool) (j : Nat) : (s.setBit f y).tab j = s.tab j := (rfl)
@[simp] theorem State.tw_setBit (s : State) (f : Fld) (y : Bool) (n t k i o : Nat) : (s.setBit f y).tw n t k i o = s.tw n t k i o := (rfl)
@[simp] theorem State.held_setBit (s : State) (f : Fld) (y : Bool) (j : Initiator) (b : Nat) : (s.setBit f y).held j b = s.held j b := (rfl)
@[simp] theorem State.pin_setBit (s : State) (f : Fld) (y : Bool) (q : Nat) : (s.setBit f y).pin q = s.pin q := (rfl)
@[simp] theorem State.mac_setBit (s : State) (f : Fld) (y : Bool) (q : Nat) : (s.setBit f y).mac q = s.mac q := (rfl)
@[simp] theorem State.can_setBit (s : State) (f : Fld) (y : Bool) (q : Nat) : (s.setBit f y).can q = s.can q := (rfl)
@[simp] theorem State.nowQ_setBit (s : State) (f : Fld) (y : Bool) : (s.setBit f y).nowQ = s.nowQ := (rfl)
@[simp] theorem State.nowPs_setBit (s : State) (f : Fld) (y : Bool) : (s.setBit f y).nowPs = s.nowPs := (rfl)
@[simp] theorem State.pllLost_setBit (s : State) (f : Fld) (y : Bool) (n : Nat) : (s.setBit f y).pllLost n = s.pllLost n := (rfl)

/-! ### setCnt -/

@[simp] theorem State.get_setCnt (s : State) (a : Nat) (v : DWord) (g : Fld) : (s.setCnt a v).get g = s.get g := (rfl)
@[simp] theorem State.bit_setCnt (s : State) (a : Nat) (v : DWord) (g : Fld) : (s.setCnt a v).bit g = s.bit g := (rfl)
@[simp] theorem State.released_setCnt (s : State) (a : Nat) (v : DWord) : (s.setCnt a v).released = s.released := (rfl)
@[simp] theorem State.stage_setCnt (s : State) (a : Nat) (v : DWord) : (s.setCnt a v).stage = s.stage := (rfl)
@[simp] theorem State.drives_setCnt (s : State) (a : Nat) (v : DWord) : (s.setCnt a v).drives = s.drives := (rfl)
@[simp] theorem State.tab_setCnt (s : State) (a : Nat) (v : DWord) (j : Nat) : (s.setCnt a v).tab j = s.tab j := (rfl)
@[simp] theorem State.tw_setCnt (s : State) (a : Nat) (v : DWord) (n t k i o : Nat) : (s.setCnt a v).tw n t k i o = s.tw n t k i o := (rfl)
@[simp] theorem State.held_setCnt (s : State) (a : Nat) (v : DWord) (j : Initiator) (b : Nat) : (s.setCnt a v).held j b = s.held j b := (rfl)
@[simp] theorem State.pin_setCnt (s : State) (a : Nat) (v : DWord) (q : Nat) : (s.setCnt a v).pin q = s.pin q := (rfl)
@[simp] theorem State.mac_setCnt (s : State) (a : Nat) (v : DWord) (q : Nat) : (s.setCnt a v).mac q = s.mac q := (rfl)
@[simp] theorem State.can_setCnt (s : State) (a : Nat) (v : DWord) (q : Nat) : (s.setCnt a v).can q = s.can q := (rfl)
@[simp] theorem State.nowQ_setCnt (s : State) (a : Nat) (v : DWord) : (s.setCnt a v).nowQ = s.nowQ := (rfl)
@[simp] theorem State.nowPs_setCnt (s : State) (a : Nat) (v : DWord) : (s.setCnt a v).nowPs = s.nowPs := (rfl)
@[simp] theorem State.pllLost_setCnt (s : State) (a : Nat) (v : DWord) (n : Nat) : (s.setCnt a v).pllLost n = s.pllLost n := (rfl)

/-! ### bumpBy -/

@[simp] theorem State.get_bumpBy (s : State) (a m : Nat) (g : Fld) : (s.bumpBy a m).get g = s.get g := (rfl)
@[simp] theorem State.bit_bumpBy (s : State) (a m : Nat) (g : Fld) : (s.bumpBy a m).bit g = s.bit g := (rfl)
@[simp] theorem State.released_bumpBy (s : State) (a m : Nat) : (s.bumpBy a m).released = s.released := (rfl)
@[simp] theorem State.stage_bumpBy (s : State) (a m : Nat) : (s.bumpBy a m).stage = s.stage := (rfl)
@[simp] theorem State.drives_bumpBy (s : State) (a m : Nat) : (s.bumpBy a m).drives = s.drives := (rfl)
@[simp] theorem State.tab_bumpBy (s : State) (a m : Nat) (j : Nat) : (s.bumpBy a m).tab j = s.tab j := (rfl)
@[simp] theorem State.tw_bumpBy (s : State) (a m : Nat) (n t k i o : Nat) : (s.bumpBy a m).tw n t k i o = s.tw n t k i o := (rfl)
@[simp] theorem State.held_bumpBy (s : State) (a m : Nat) (j : Initiator) (b : Nat) : (s.bumpBy a m).held j b = s.held j b := (rfl)
@[simp] theorem State.pin_bumpBy (s : State) (a m : Nat) (q : Nat) : (s.bumpBy a m).pin q = s.pin q := (rfl)
@[simp] theorem State.mac_bumpBy (s : State) (a m : Nat) (q : Nat) : (s.bumpBy a m).mac q = s.mac q := (rfl)
@[simp] theorem State.can_bumpBy (s : State) (a m : Nat) (q : Nat) : (s.bumpBy a m).can q = s.can q := (rfl)
@[simp] theorem State.nowQ_bumpBy (s : State) (a m : Nat) : (s.bumpBy a m).nowQ = s.nowQ := (rfl)
@[simp] theorem State.nowPs_bumpBy (s : State) (a m : Nat) : (s.bumpBy a m).nowPs = s.nowPs := (rfl)
@[simp] theorem State.pllLost_bumpBy (s : State) (a m : Nat) (n : Nat) : (s.bumpBy a m).pllLost n = s.pllLost n := (rfl)

/-! ### bump -/

@[simp] theorem State.get_bump (s : State) (a : Nat) (g : Fld) : (s.bump a).get g = s.get g := (rfl)
@[simp] theorem State.bit_bump (s : State) (a : Nat) (g : Fld) : (s.bump a).bit g = s.bit g := (rfl)
@[simp] theorem State.released_bump (s : State) (a : Nat) : (s.bump a).released = s.released := (rfl)
@[simp] theorem State.stage_bump (s : State) (a : Nat) : (s.bump a).stage = s.stage := (rfl)
@[simp] theorem State.drives_bump (s : State) (a : Nat) : (s.bump a).drives = s.drives := (rfl)
@[simp] theorem State.tab_bump (s : State) (a : Nat) (j : Nat) : (s.bump a).tab j = s.tab j := (rfl)
@[simp] theorem State.tw_bump (s : State) (a : Nat) (n t k i o : Nat) : (s.bump a).tw n t k i o = s.tw n t k i o := (rfl)
@[simp] theorem State.held_bump (s : State) (a : Nat) (j : Initiator) (b : Nat) : (s.bump a).held j b = s.held j b := (rfl)
@[simp] theorem State.pin_bump (s : State) (a : Nat) (q : Nat) : (s.bump a).pin q = s.pin q := (rfl)
@[simp] theorem State.mac_bump (s : State) (a : Nat) (q : Nat) : (s.bump a).mac q = s.mac q := (rfl)
@[simp] theorem State.can_bump (s : State) (a : Nat) (q : Nat) : (s.bump a).can q = s.can q := (rfl)
@[simp] theorem State.nowQ_bump (s : State) (a : Nat) : (s.bump a).nowQ = s.nowQ := (rfl)
@[simp] theorem State.nowPs_bump (s : State) (a : Nat) : (s.bump a).nowPs = s.nowPs := (rfl)
@[simp] theorem State.pllLost_bump (s : State) (a : Nat) (n : Nat) : (s.bump a).pllLost n = s.pllLost n := (rfl)

/-! ### setHeld -/

@[simp] theorem State.get_setHeld (s : State) (h : Initiator) (a : Nat) (w : Word) (g : Fld) : (s.setHeld h a w).get g = s.get g := (rfl)
@[simp] theorem State.bit_setHeld (s : State) (h : Initiator) (a : Nat) (w : Word) (g : Fld) : (s.setHeld h a w).bit g = s.bit g := (rfl)
@[simp] theorem State.released_setHeld (s : State) (h : Initiator) (a : Nat) (w : Word) : (s.setHeld h a w).released = s.released := (rfl)
@[simp] theorem State.stage_setHeld (s : State) (h : Initiator) (a : Nat) (w : Word) : (s.setHeld h a w).stage = s.stage := (rfl)
@[simp] theorem State.drives_setHeld (s : State) (h : Initiator) (a : Nat) (w : Word) : (s.setHeld h a w).drives = s.drives := (rfl)
@[simp] theorem State.cnt_setHeld (s : State) (h : Initiator) (a : Nat) (w : Word) (b : Nat) : (s.setHeld h a w).cnt b = s.cnt b := (rfl)
@[simp] theorem State.tab_setHeld (s : State) (h : Initiator) (a : Nat) (w : Word) (j : Nat) : (s.setHeld h a w).tab j = s.tab j := (rfl)
@[simp] theorem State.tw_setHeld (s : State) (h : Initiator) (a : Nat) (w : Word) (n t k i o : Nat) : (s.setHeld h a w).tw n t k i o = s.tw n t k i o := (rfl)
@[simp] theorem State.pin_setHeld (s : State) (h : Initiator) (a : Nat) (w : Word) (q : Nat) : (s.setHeld h a w).pin q = s.pin q := (rfl)
@[simp] theorem State.mac_setHeld (s : State) (h : Initiator) (a : Nat) (w : Word) (q : Nat) : (s.setHeld h a w).mac q = s.mac q := (rfl)
@[simp] theorem State.can_setHeld (s : State) (h : Initiator) (a : Nat) (w : Word) (q : Nat) : (s.setHeld h a w).can q = s.can q := (rfl)
@[simp] theorem State.nowQ_setHeld (s : State) (h : Initiator) (a : Nat) (w : Word) : (s.setHeld h a w).nowQ = s.nowQ := (rfl)
@[simp] theorem State.nowPs_setHeld (s : State) (h : Initiator) (a : Nat) (w : Word) : (s.setHeld h a w).nowPs = s.nowPs := (rfl)
@[simp] theorem State.pllLost_setHeld (s : State) (h : Initiator) (a : Nat) (w : Word) (n : Nat) : (s.setHeld h a w).pllLost n = s.pllLost n := (rfl)

/-! ### setTab -/

@[simp] theorem State.rd_setTab (s : State) (h : Nat) (v : Word) (b : Nat) : (s.setTab h v).rd b = s.rd b := (rfl)
@[simp] theorem State.get_setTab (s : State) (h : Nat) (v : Word) (g : Fld) : (s.setTab h v).get g = s.get g := (rfl)
@[simp] theorem State.bit_setTab (s : State) (h : Nat) (v : Word) (g : Fld) : (s.setTab h v).bit g = s.bit g := (rfl)
@[simp] theorem State.released_setTab (s : State) (h : Nat) (v : Word) : (s.setTab h v).released = s.released := (rfl)
@[simp] theorem State.stage_setTab (s : State) (h : Nat) (v : Word) : (s.setTab h v).stage = s.stage := (rfl)
@[simp] theorem State.drives_setTab (s : State) (h : Nat) (v : Word) : (s.setTab h v).drives = s.drives := (rfl)
@[simp] theorem State.cnt_setTab (s : State) (h : Nat) (v : Word) (b : Nat) : (s.setTab h v).cnt b = s.cnt b := (rfl)
@[simp] theorem State.held_setTab (s : State) (h : Nat) (v : Word) (j : Initiator) (b : Nat) : (s.setTab h v).held j b = s.held j b := (rfl)
@[simp] theorem State.pin_setTab (s : State) (h : Nat) (v : Word) (q : Nat) : (s.setTab h v).pin q = s.pin q := (rfl)
@[simp] theorem State.mac_setTab (s : State) (h : Nat) (v : Word) (q : Nat) : (s.setTab h v).mac q = s.mac q := (rfl)
@[simp] theorem State.can_setTab (s : State) (h : Nat) (v : Word) (q : Nat) : (s.setTab h v).can q = s.can q := (rfl)
@[simp] theorem State.nowQ_setTab (s : State) (h : Nat) (v : Word) : (s.setTab h v).nowQ = s.nowQ := (rfl)
@[simp] theorem State.nowPs_setTab (s : State) (h : Nat) (v : Word) : (s.setTab h v).nowPs = s.nowPs := (rfl)
@[simp] theorem State.pllLost_setTab (s : State) (h : Nat) (v : Word) (n : Nat) : (s.setTab h v).pllLost n = s.pllLost n := (rfl)

/-! ### setTw -/

@[simp] theorem State.get_setTw (s : State) (blk tbl bank idx w : Nat) (v : Word) (g : Fld) : (s.setTw blk tbl bank idx w v).get g = s.get g := State.get_setTab ..
@[simp] theorem State.bit_setTw (s : State) (blk tbl bank idx w : Nat) (v : Word) (g : Fld) : (s.setTw blk tbl bank idx w v).bit g = s.bit g := State.bit_setTab ..
@[simp] theorem State.released_setTw (s : State) (blk tbl bank idx w : Nat) (v : Word) : (s.setTw blk tbl bank idx w v).released = s.released := State.released_setTab ..
@[simp] theorem State.stage_setTw (s : State) (blk tbl bank idx w : Nat) (v : Word) : (s.setTw blk tbl bank idx w v).stage = s.stage := State.stage_setTab ..
@[simp] theorem State.drives_setTw (s : State) (blk tbl bank idx w : Nat) (v : Word) : (s.setTw blk tbl bank idx w v).drives = s.drives := State.drives_setTab ..
@[simp] theorem State.cnt_setTw (s : State) (blk tbl bank idx w : Nat) (v : Word) (b : Nat) : (s.setTw blk tbl bank idx w v).cnt b = s.cnt b := State.cnt_setTab ..
@[simp] theorem State.held_setTw (s : State) (blk tbl bank idx w : Nat) (v : Word) (j : Initiator) (b : Nat) : (s.setTw blk tbl bank idx w v).held j b = s.held j b := State.held_setTab ..
@[simp] theorem State.pin_setTw (s : State) (blk tbl bank idx w : Nat) (v : Word) (q : Nat) : (s.setTw blk tbl bank idx w v).pin q = s.pin q := State.pin_setTab ..
@[simp] theorem State.mac_setTw (s : State) (blk tbl bank idx w : Nat) (v : Word) (q : Nat) : (s.setTw blk tbl bank idx w v).mac q = s.mac q := State.mac_setTab ..
@[simp] theorem State.can_setTw (s : State) (blk tbl bank idx w : Nat) (v : Word) (q : Nat) : (s.setTw blk tbl bank idx w v).can q = s.can q := State.can_setTab ..
@[simp] theorem State.nowQ_setTw (s : State) (blk tbl bank idx w : Nat) (v : Word) : (s.setTw blk tbl bank idx w v).nowQ = s.nowQ := State.nowQ_setTab ..
@[simp] theorem State.nowPs_setTw (s : State) (blk tbl bank idx w : Nat) (v : Word) : (s.setTw blk tbl bank idx w v).nowPs = s.nowPs := State.nowPs_setTab ..
@[simp] theorem State.pllLost_setTw (s : State) (blk tbl bank idx w : Nat) (v : Word) (n : Nat) : (s.setTw blk tbl bank idx w v).pllLost n = s.pllLost n := State.pllLost_setTab ..

/-! ### setPin -/

@[simp] theorem State.get_setPin (s : State) (p : Nat) (x : Pin) (g : Fld) : (s.setPin p x).get g = s.get g := (rfl)
@[simp] theorem State.bit_setPin (s : State) (p : Nat) (x : Pin) (g : Fld) : (s.setPin p x).bit g = s.bit g := (rfl)
@[simp] theorem State.released_setPin (s : State) (p : Nat) (x : Pin) : (s.setPin p x).released = s.released := (rfl)
@[simp] theorem State.stage_setPin (s : State) (p : Nat) (x : Pin) : (s.setPin p x).stage = s.stage := (rfl)
@[simp] theorem State.drives_setPin (s : State) (p : Nat) (x : Pin) : (s.setPin p x).drives = s.drives := (rfl)
@[simp] theorem State.cnt_setPin (s : State) (p : Nat) (x : Pin) (b : Nat) : (s.setPin p x).cnt b = s.cnt b := (rfl)
@[simp] theorem State.tab_setPin (s : State) (p : Nat) (x : Pin) (j : Nat) : (s.setPin p x).tab j = s.tab j := (rfl)
@[simp] theorem State.tw_setPin (s : State) (p : Nat) (x : Pin) (n t k i o : Nat) : (s.setPin p x).tw n t k i o = s.tw n t k i o := (rfl)
@[simp] theorem State.held_setPin (s : State) (p : Nat) (x : Pin) (j : Initiator) (b : Nat) : (s.setPin p x).held j b = s.held j b := (rfl)
@[simp] theorem State.mac_setPin (s : State) (p : Nat) (x : Pin) (q : Nat) : (s.setPin p x).mac q = s.mac q := (rfl)
@[simp] theorem State.can_setPin (s : State) (p : Nat) (x : Pin) (q : Nat) : (s.setPin p x).can q = s.can q := (rfl)
@[simp] theorem State.nowQ_setPin (s : State) (p : Nat) (x : Pin) : (s.setPin p x).nowQ = s.nowQ := (rfl)
@[simp] theorem State.nowPs_setPin (s : State) (p : Nat) (x : Pin) : (s.setPin p x).nowPs = s.nowPs := (rfl)
@[simp] theorem State.pllLost_setPin (s : State) (p : Nat) (x : Pin) (n : Nat) : (s.setPin p x).pllLost n = s.pllLost n := (rfl)

/-! ### setMac -/

@[simp] theorem State.get_setMac (s : State) (p : Nat) (x : Mac) (g : Fld) : (s.setMac p x).get g = s.get g := (rfl)
@[simp] theorem State.bit_setMac (s : State) (p : Nat) (x : Mac) (g : Fld) : (s.setMac p x).bit g = s.bit g := (rfl)
@[simp] theorem State.released_setMac (s : State) (p : Nat) (x : Mac) : (s.setMac p x).released = s.released := (rfl)
@[simp] theorem State.stage_setMac (s : State) (p : Nat) (x : Mac) : (s.setMac p x).stage = s.stage := (rfl)
@[simp] theorem State.drives_setMac (s : State) (p : Nat) (x : Mac) : (s.setMac p x).drives = s.drives := (rfl)
@[simp] theorem State.cnt_setMac (s : State) (p : Nat) (x : Mac) (b : Nat) : (s.setMac p x).cnt b = s.cnt b := (rfl)
@[simp] theorem State.tab_setMac (s : State) (p : Nat) (x : Mac) (j : Nat) : (s.setMac p x).tab j = s.tab j := (rfl)
@[simp] theorem State.tw_setMac (s : State) (p : Nat) (x : Mac) (n t k i o : Nat) : (s.setMac p x).tw n t k i o = s.tw n t k i o := (rfl)
@[simp] theorem State.held_setMac (s : State) (p : Nat) (x : Mac) (j : Initiator) (b : Nat) : (s.setMac p x).held j b = s.held j b := (rfl)
@[simp] theorem State.pin_setMac (s : State) (p : Nat) (x : Mac) (q : Nat) : (s.setMac p x).pin q = s.pin q := (rfl)
@[simp] theorem State.can_setMac (s : State) (p : Nat) (x : Mac) (q : Nat) : (s.setMac p x).can q = s.can q := (rfl)
@[simp] theorem State.nowQ_setMac (s : State) (p : Nat) (x : Mac) : (s.setMac p x).nowQ = s.nowQ := (rfl)
@[simp] theorem State.nowPs_setMac (s : State) (p : Nat) (x : Mac) : (s.setMac p x).nowPs = s.nowPs := (rfl)
@[simp] theorem State.pllLost_setMac (s : State) (p : Nat) (x : Mac) (n : Nat) : (s.setMac p x).pllLost n = s.pllLost n := (rfl)

/-! ### setCan -/

@[simp] theorem State.get_setCan (s : State) (c : Nat) (x : CanCh) (g : Fld) : (s.setCan c x).get g = s.get g := (rfl)
@[simp] theorem State.bit_setCan (s : State) (c : Nat) (x : CanCh) (g : Fld) : (s.setCan c x).bit g = s.bit g := (rfl)
@[simp] theorem State.released_setCan (s : State) (c : Nat) (x : CanCh) : (s.setCan c x).released = s.released := (rfl)
@[simp] theorem State.stage_setCan (s : State) (c : Nat) (x : CanCh) : (s.setCan c x).stage = s.stage := (rfl)
@[simp] theorem State.drives_setCan (s : State) (c : Nat) (x : CanCh) : (s.setCan c x).drives = s.drives := (rfl)
@[simp] theorem State.cnt_setCan (s : State) (c : Nat) (x : CanCh) (b : Nat) : (s.setCan c x).cnt b = s.cnt b := (rfl)
@[simp] theorem State.tab_setCan (s : State) (c : Nat) (x : CanCh) (j : Nat) : (s.setCan c x).tab j = s.tab j := (rfl)
@[simp] theorem State.tw_setCan (s : State) (c : Nat) (x : CanCh) (n t k i o : Nat) : (s.setCan c x).tw n t k i o = s.tw n t k i o := (rfl)
@[simp] theorem State.held_setCan (s : State) (c : Nat) (x : CanCh) (j : Initiator) (b : Nat) : (s.setCan c x).held j b = s.held j b := (rfl)
@[simp] theorem State.pin_setCan (s : State) (c : Nat) (x : CanCh) (q : Nat) : (s.setCan c x).pin q = s.pin q := (rfl)
@[simp] theorem State.mac_setCan (s : State) (c : Nat) (x : CanCh) (q : Nat) : (s.setCan c x).mac q = s.mac q := (rfl)
@[simp] theorem State.nowQ_setCan (s : State) (c : Nat) (x : CanCh) : (s.setCan c x).nowQ = s.nowQ := (rfl)
@[simp] theorem State.nowPs_setCan (s : State) (c : Nat) (x : CanCh) : (s.setCan c x).nowPs = s.nowPs := (rfl)
@[simp] theorem State.pllLost_setCan (s : State) (c : Nat) (x : CanCh) (n : Nat) : (s.setCan c x).pllLost n = s.pllLost n := (rfl)

/-! ### emit -/

@[simp] theorem State.get_emit (s : State) (e : Emit) (g : Fld) : (s.emit e).get g = s.get g := (rfl)
@[simp] theorem State.bit_emit (s : State) (e : Emit) (g : Fld) : (s.emit e).bit g = s.bit g := (rfl)
@[simp] theorem State.released_emit (s : State) (e : Emit) : (s.emit e).released = s.released := (rfl)
@[simp] theorem State.stage_emit (s : State) (e : Emit) : (s.emit e).stage = s.stage := (rfl)
@[simp] theorem State.drives_emit (s : State) (e : Emit) : (s.emit e).drives = s.drives := (rfl)
@[simp] theorem State.tab_emit (s : State) (e : Emit) (j : Nat) : (s.emit e).tab j = s.tab j := (rfl)
@[simp] theorem State.tw_emit (s : State) (e : Emit) (n t k i o : Nat) : (s.emit e).tw n t k i o = s.tw n t k i o := (rfl)
@[simp] theorem State.held_emit (s : State) (e : Emit) (j : Initiator) (b : Nat) : (s.emit e).held j b = s.held j b := (rfl)
@[simp] theorem State.pin_emit (s : State) (e : Emit) (q : Nat) : (s.emit e).pin q = s.pin q := (rfl)
@[simp] theorem State.mac_emit (s : State) (e : Emit) (q : Nat) : (s.emit e).mac q = s.mac q := (rfl)
@[simp] theorem State.can_emit (s : State) (e : Emit) (q : Nat) : (s.emit e).can q = s.can q := (rfl)
@[simp] theorem State.nowQ_emit (s : State) (e : Emit) : (s.emit e).nowQ = s.nowQ := (rfl)
@[simp] theorem State.nowPs_emit (s : State) (e : Emit) : (s.emit e).nowPs = s.nowPs := (rfl)
@[simp] theorem State.pllLost_emit (s : State) (e : Emit) (n : Nat) : (s.emit e).pllLost n = s.pllLost n := (rfl)

/-! ### putFrame -/

@[simp] theorem State.rd_putFrame (s : State) (f : Frame) (b : Nat) : (s.putFrame f).rd b = s.rd b := (rfl)
@[simp] theorem State.get_putFrame (s : State) (f : Frame) (g : Fld) : (s.putFrame f).get g = s.get g := (rfl)
@[simp] theorem State.bit_putFrame (s : State) (f : Frame) (g : Fld) : (s.putFrame f).bit g = s.bit g := (rfl)
@[simp] theorem State.released_putFrame (s : State) (f : Frame) : (s.putFrame f).released = s.released := (rfl)
@[simp] theorem State.stage_putFrame (s : State) (f : Frame) : (s.putFrame f).stage = s.stage := (rfl)
@[simp] theorem State.drives_putFrame (s : State) (f : Frame) : (s.putFrame f).drives = s.drives := (rfl)
@[simp] theorem State.cnt_putFrame (s : State) (f : Frame) (b : Nat) : (s.putFrame f).cnt b = s.cnt b := (rfl)
@[simp] theorem State.tab_putFrame (s : State) (f : Frame) (j : Nat) : (s.putFrame f).tab j = s.tab j := (rfl)
@[simp] theorem State.tw_putFrame (s : State) (f : Frame) (n t k i o : Nat) : (s.putFrame f).tw n t k i o = s.tw n t k i o := (rfl)
@[simp] theorem State.held_putFrame (s : State) (f : Frame) (j : Initiator) (b : Nat) : (s.putFrame f).held j b = s.held j b := (rfl)
@[simp] theorem State.pin_putFrame (s : State) (f : Frame) (q : Nat) : (s.putFrame f).pin q = s.pin q := (rfl)
@[simp] theorem State.mac_putFrame (s : State) (f : Frame) (q : Nat) : (s.putFrame f).mac q = s.mac q := (rfl)
@[simp] theorem State.can_putFrame (s : State) (f : Frame) (q : Nat) : (s.putFrame f).can q = s.can q := (rfl)
@[simp] theorem State.nowQ_putFrame (s : State) (f : Frame) : (s.putFrame f).nowQ = s.nowQ := (rfl)
@[simp] theorem State.nowPs_putFrame (s : State) (f : Frame) : (s.putFrame f).nowPs = s.nowPs := (rfl)
@[simp] theorem State.pllLost_putFrame (s : State) (f : Frame) (n : Nat) : (s.putFrame f).pllLost n = s.pllLost n := (rfl)

/-! ### dropFrame -/

@[simp] theorem State.rd_dropFrame (s : State) (m : Nat) (b : Nat) : (s.dropFrame m).rd b = s.rd b := (rfl)
@[simp] theorem State.get_dropFrame (s : State) (m : Nat) (g : Fld) : (s.dropFrame m).get g = s.get g := (rfl)
@[simp] theorem State.bit_dropFrame (s : State) (m : Nat) (g : Fld) : (s.dropFrame m).bit g = s.bit g := (rfl)
@[simp] theorem State.released_dropFrame (s : State) (m : Nat) : (s.dropFrame m).released = s.released := (rfl)
@[simp] theorem State.stage_dropFrame (s : State) (m : Nat) : (s.dropFrame m).stage = s.stage := (rfl)
@[simp] theorem State.drives_dropFrame (s : State) (m : Nat) : (s.dropFrame m).drives = s.drives := (rfl)
@[simp] theorem State.cnt_dropFrame (s : State) (m : Nat) (b : Nat) : (s.dropFrame m).cnt b = s.cnt b := (rfl)
@[simp] theorem State.tab_dropFrame (s : State) (m : Nat) (j : Nat) : (s.dropFrame m).tab j = s.tab j := (rfl)
@[simp] theorem State.tw_dropFrame (s : State) (m : Nat) (n t k i o : Nat) : (s.dropFrame m).tw n t k i o = s.tw n t k i o := (rfl)
@[simp] theorem State.held_dropFrame (s : State) (m : Nat) (j : Initiator) (b : Nat) : (s.dropFrame m).held j b = s.held j b := (rfl)
@[simp] theorem State.pin_dropFrame (s : State) (m : Nat) (q : Nat) : (s.dropFrame m).pin q = s.pin q := (rfl)
@[simp] theorem State.mac_dropFrame (s : State) (m : Nat) (q : Nat) : (s.dropFrame m).mac q = s.mac q := (rfl)
@[simp] theorem State.can_dropFrame (s : State) (m : Nat) (q : Nat) : (s.dropFrame m).can q = s.can q := (rfl)
@[simp] theorem State.nowQ_dropFrame (s : State) (m : Nat) : (s.dropFrame m).nowQ = s.nowQ := (rfl)
@[simp] theorem State.nowPs_dropFrame (s : State) (m : Nat) : (s.dropFrame m).nowPs = s.nowPs := (rfl)
@[simp] theorem State.pllLost_dropFrame (s : State) (m : Nat) (n : Nat) : (s.dropFrame m).pllLost n = s.pllLost n := (rfl)

/-! ### addFrame -/

@[simp] theorem State.rd_addFrame (s : State) (f : Frame) (b : Nat) : (s.addFrame f).rd b = s.rd b := (rfl)
@[simp] theorem State.get_addFrame (s : State) (f : Frame) (g : Fld) : (s.addFrame f).get g = s.get g := (rfl)
@[simp] theorem State.bit_addFrame (s : State) (f : Frame) (g : Fld) : (s.addFrame f).bit g = s.bit g := (rfl)
@[simp] theorem State.released_addFrame (s : State) (f : Frame) : (s.addFrame f).released = s.released := (rfl)
@[simp] theorem State.stage_addFrame (s : State) (f : Frame) : (s.addFrame f).stage = s.stage := (rfl)
@[simp] theorem State.drives_addFrame (s : State) (f : Frame) : (s.addFrame f).drives = s.drives := (rfl)
@[simp] theorem State.cnt_addFrame (s : State) (f : Frame) (b : Nat) : (s.addFrame f).cnt b = s.cnt b := (rfl)
@[simp] theorem State.tab_addFrame (s : State) (f : Frame) (j : Nat) : (s.addFrame f).tab j = s.tab j := (rfl)
@[simp] theorem State.tw_addFrame (s : State) (f : Frame) (n t k i o : Nat) : (s.addFrame f).tw n t k i o = s.tw n t k i o := (rfl)
@[simp] theorem State.held_addFrame (s : State) (f : Frame) (j : Initiator) (b : Nat) : (s.addFrame f).held j b = s.held j b := (rfl)
@[simp] theorem State.pin_addFrame (s : State) (f : Frame) (q : Nat) : (s.addFrame f).pin q = s.pin q := (rfl)
@[simp] theorem State.mac_addFrame (s : State) (f : Frame) (q : Nat) : (s.addFrame f).mac q = s.mac q := (rfl)
@[simp] theorem State.can_addFrame (s : State) (f : Frame) (q : Nat) : (s.addFrame f).can q = s.can q := (rfl)
@[simp] theorem State.nowQ_addFrame (s : State) (f : Frame) : (s.addFrame f).nowQ = s.nowQ := (rfl)
@[simp] theorem State.nowPs_addFrame (s : State) (f : Frame) : (s.addFrame f).nowPs = s.nowPs := (rfl)
@[simp] theorem State.pllLost_addFrame (s : State) (f : Frame) (n : Nat) : (s.addFrame f).pllLost n = s.pllLost n := (rfl)

/-! ### putCopy -/

@[simp] theorem State.rd_putCopy (s : State) (c : Copy) (b : Nat) : (s.putCopy c).rd b = s.rd b := (rfl)
@[simp] theorem State.get_putCopy (s : State) (c : Copy) (g : Fld) : (s.putCopy c).get g = s.get g := (rfl)
@[simp] theorem State.bit_putCopy (s : State) (c : Copy) (g : Fld) : (s.putCopy c).bit g = s.bit g := (rfl)
@[simp] theorem State.released_putCopy (s : State) (c : Copy) : (s.putCopy c).released = s.released := (rfl)
@[simp] theorem State.stage_putCopy (s : State) (c : Copy) : (s.putCopy c).stage = s.stage := (rfl)
@[simp] theorem State.drives_putCopy (s : State) (c : Copy) : (s.putCopy c).drives = s.drives := (rfl)
@[simp] theorem State.cnt_putCopy (s : State) (c : Copy) (b : Nat) : (s.putCopy c).cnt b = s.cnt b := (rfl)
@[simp] theorem State.tab_putCopy (s : State) (c : Copy) (j : Nat) : (s.putCopy c).tab j = s.tab j := (rfl)
@[simp] theorem State.tw_putCopy (s : State) (c : Copy) (n t k i o : Nat) : (s.putCopy c).tw n t k i o = s.tw n t k i o := (rfl)
@[simp] theorem State.held_putCopy (s : State) (c : Copy) (j : Initiator) (b : Nat) : (s.putCopy c).held j b = s.held j b := (rfl)
@[simp] theorem State.pin_putCopy (s : State) (c : Copy) (q : Nat) : (s.putCopy c).pin q = s.pin q := (rfl)
@[simp] theorem State.mac_putCopy (s : State) (c : Copy) (q : Nat) : (s.putCopy c).mac q = s.mac q := (rfl)
@[simp] theorem State.can_putCopy (s : State) (c : Copy) (q : Nat) : (s.putCopy c).can q = s.can q := (rfl)
@[simp] theorem State.nowQ_putCopy (s : State) (c : Copy) : (s.putCopy c).nowQ = s.nowQ := (rfl)
@[simp] theorem State.nowPs_putCopy (s : State) (c : Copy) : (s.putCopy c).nowPs = s.nowPs := (rfl)
@[simp] theorem State.pllLost_putCopy (s : State) (c : Copy) (n : Nat) : (s.putCopy c).pllLost n = s.pllLost n := (rfl)

/-! ### dropCopy -/

@[simp] theorem State.rd_dropCopy (s : State) (m : Nat) (b : Nat) : (s.dropCopy m).rd b = s.rd b := (rfl)
@[simp] theorem State.get_dropCopy (s : State) (m : Nat) (g : Fld) : (s.dropCopy m).get g = s.get g := (rfl)
@[simp] theorem State.bit_dropCopy (s : State) (m : Nat) (g : Fld) : (s.dropCopy m).bit g = s.bit g := (rfl)
@[simp] theorem State.released_dropCopy (s : State) (m : Nat) : (s.dropCopy m).released = s.released := (rfl)
@[simp] theorem State.stage_dropCopy (s : State) (m : Nat) : (s.dropCopy m).stage = s.stage := (rfl)
@[simp] theorem State.drives_dropCopy (s : State) (m : Nat) : (s.dropCopy m).drives = s.drives := (rfl)
@[simp] theorem State.cnt_dropCopy (s : State) (m : Nat) (b : Nat) : (s.dropCopy m).cnt b = s.cnt b := (rfl)
@[simp] theorem State.tab_dropCopy (s : State) (m : Nat) (j : Nat) : (s.dropCopy m).tab j = s.tab j := (rfl)
@[simp] theorem State.tw_dropCopy (s : State) (m : Nat) (n t k i o : Nat) : (s.dropCopy m).tw n t k i o = s.tw n t k i o := (rfl)
@[simp] theorem State.held_dropCopy (s : State) (m : Nat) (j : Initiator) (b : Nat) : (s.dropCopy m).held j b = s.held j b := (rfl)
@[simp] theorem State.pin_dropCopy (s : State) (m : Nat) (q : Nat) : (s.dropCopy m).pin q = s.pin q := (rfl)
@[simp] theorem State.mac_dropCopy (s : State) (m : Nat) (q : Nat) : (s.dropCopy m).mac q = s.mac q := (rfl)
@[simp] theorem State.can_dropCopy (s : State) (m : Nat) (q : Nat) : (s.dropCopy m).can q = s.can q := (rfl)
@[simp] theorem State.nowQ_dropCopy (s : State) (m : Nat) : (s.dropCopy m).nowQ = s.nowQ := (rfl)
@[simp] theorem State.nowPs_dropCopy (s : State) (m : Nat) : (s.dropCopy m).nowPs = s.nowPs := (rfl)
@[simp] theorem State.pllLost_dropCopy (s : State) (m : Nat) (n : Nat) : (s.dropCopy m).pllLost n = s.pllLost n := (rfl)

/-! ### raise -/

@[simp] theorem State.tab_raise (s : State) (f : Fld) (j : Nat) : (s.raise f).tab j = s.tab j := by unfold State.tab; rw [State.raise_tabs]
@[simp] theorem State.tw_raise (s : State) (f : Fld) (n t k i o : Nat) : (s.raise f).tw n t k i o = s.tw n t k i o := by unfold State.tw State.tab; rw [State.raise_tabs]
@[simp] theorem State.held_raise (s : State) (f : Fld) (j : Initiator) (b : Nat) : (s.raise f).held j b = s.held j b := by unfold State.held; rw [State.raise_hold]
@[simp] theorem State.pin_raise (s : State) (f : Fld) (q : Nat) : (s.raise f).pin q = s.pin q := by unfold State.pin; rw [State.raise_pins]
@[simp] theorem State.mac_raise (s : State) (f : Fld) (q : Nat) : (s.raise f).mac q = s.mac q := by unfold State.mac; rw [State.raise_macs]
@[simp] theorem State.can_raise (s : State) (f : Fld) (q : Nat) : (s.raise f).can q = s.can q := by unfold State.can; rw [State.raise_cans]
@[simp] theorem State.nowQ_raise (s : State) (f : Fld) : (s.raise f).nowQ = s.nowQ := by unfold State.nowQ; rw [State.raise_tim]
@[simp] theorem State.nowPs_raise (s : State) (f : Fld) : (s.raise f).nowPs = s.nowPs := by unfold State.nowPs State.nowQ; rw [State.raise_tim]
@[simp] theorem State.pllLost_raise (s : State) (f : Fld) (n : Nat) : (s.raise f).pllLost n = s.pllLost n := by unfold State.pllLost; rw [State.raise_fltCond]

/-! ### direct -/

@[simp] theorem State.cnt_direct (s : State) (src : Nat) (b : Nat) : (s.direct src).cnt b = s.cnt b := by unfold State.cnt; rw [State.direct_cnts]
@[simp] theorem State.tab_direct (s : State) (src : Nat) (j : Nat) : (s.direct src).tab j = s.tab j := by unfold State.tab; rw [State.direct_tabs]
@[simp] theorem State.tw_direct (s : State) (src : Nat) (n t k i o : Nat) : (s.direct src).tw n t k i o = s.tw n t k i o := by unfold State.tw State.tab; rw [State.direct_tabs]
@[simp] theorem State.held_direct (s : State) (src : Nat) (j : Initiator) (b : Nat) : (s.direct src).held j b = s.held j b := by unfold State.held; rw [State.direct_hold]
@[simp] theorem State.pin_direct (s : State) (src : Nat) (q : Nat) : (s.direct src).pin q = s.pin q := by unfold State.pin; rw [State.direct_pins]
@[simp] theorem State.mac_direct (s : State) (src : Nat) (q : Nat) : (s.direct src).mac q = s.mac q := by unfold State.mac; rw [State.direct_macs]
@[simp] theorem State.can_direct (s : State) (src : Nat) (q : Nat) : (s.direct src).can q = s.can q := by unfold State.can; rw [State.direct_cans]
@[simp] theorem State.nowQ_direct (s : State) (src : Nat) : (s.direct src).nowQ = s.nowQ := by unfold State.nowQ; rw [State.direct_tim]
@[simp] theorem State.nowPs_direct (s : State) (src : Nat) : (s.direct src).nowPs = s.nowPs := by unfold State.nowPs State.nowQ; rw [State.direct_tim]
@[simp] theorem State.pllLost_direct (s : State) (src : Nat) (n : Nat) : (s.direct src).pllLost n = s.pllLost n := by unfold State.pllLost; rw [State.direct_fltCond]

/-! ### violation -/

@[simp] theorem State.cnt_violation (s : State)  (b : Nat) : (s.violation).cnt b = s.cnt b := by unfold State.cnt; rw [State.violation_cnts]
@[simp] theorem State.tab_violation (s : State)  (j : Nat) : (s.violation).tab j = s.tab j := by unfold State.tab; rw [State.violation_tabs]
@[simp] theorem State.tw_violation (s : State)  (n t k i o : Nat) : (s.violation).tw n t k i o = s.tw n t k i o := by unfold State.tw State.tab; rw [State.violation_tabs]
@[simp] theorem State.held_violation (s : State)  (j : Initiator) (b : Nat) : (s.violation).held j b = s.held j b := by unfold State.held; rw [State.violation_hold]
@[simp] theorem State.pin_violation (s : State)  (q : Nat) : (s.violation).pin q = s.pin q := by unfold State.pin; rw [State.violation_pins]
@[simp] theorem State.mac_violation (s : State)  (q : Nat) : (s.violation).mac q = s.mac q := by unfold State.mac; rw [State.violation_macs]
@[simp] theorem State.can_violation (s : State)  (q : Nat) : (s.violation).can q = s.can q := by unfold State.can; rw [State.violation_cans]
@[simp] theorem State.nowQ_violation (s : State)  : (s.violation).nowQ = s.nowQ := by unfold State.nowQ; rw [State.violation_tim]
@[simp] theorem State.nowPs_violation (s : State)  : (s.violation).nowPs = s.nowPs := by unfold State.nowPs State.nowQ; rw [State.violation_tim]
@[simp] theorem State.pllLost_violation (s : State)  (n : Nat) : (s.violation).pllLost n = s.pllLost n := by unfold State.pllLost; rw [State.violation_fltCond]

/-! ### plainWrite -/

@[simp] theorem State.cnt_plainWrite (s : State) (a : Nat) (w bar : Word) (b : Nat) : (s.plainWrite a w bar).cnt b = s.cnt b := by unfold State.cnt; rw [State.plainWrite_cnts]
@[simp] theorem State.tab_plainWrite (s : State) (a : Nat) (w bar : Word) (j : Nat) : (s.plainWrite a w bar).tab j = s.tab j := by unfold State.tab; rw [State.plainWrite_tabs]
@[simp] theorem State.tw_plainWrite (s : State) (a : Nat) (w bar : Word) (n t k i o : Nat) : (s.plainWrite a w bar).tw n t k i o = s.tw n t k i o := by unfold State.tw State.tab; rw [State.plainWrite_tabs]
@[simp] theorem State.held_plainWrite (s : State) (a : Nat) (w bar : Word) (j : Initiator) (b : Nat) : (s.plainWrite a w bar).held j b = s.held j b := by unfold State.held; rw [State.plainWrite_hold]
@[simp] theorem State.pin_plainWrite (s : State) (a : Nat) (w bar : Word) (q : Nat) : (s.plainWrite a w bar).pin q = s.pin q := by unfold State.pin; rw [State.plainWrite_pins]
@[simp] theorem State.mac_plainWrite (s : State) (a : Nat) (w bar : Word) (q : Nat) : (s.plainWrite a w bar).mac q = s.mac q := by unfold State.mac; rw [State.plainWrite_macs]
@[simp] theorem State.can_plainWrite (s : State) (a : Nat) (w bar : Word) (q : Nat) : (s.plainWrite a w bar).can q = s.can q := by unfold State.can; rw [State.plainWrite_cans]
@[simp] theorem State.nowQ_plainWrite (s : State) (a : Nat) (w bar : Word) : (s.plainWrite a w bar).nowQ = s.nowQ := by unfold State.nowQ; rw [State.plainWrite_tim]
@[simp] theorem State.nowPs_plainWrite (s : State) (a : Nat) (w bar : Word) : (s.plainWrite a w bar).nowPs = s.nowPs := by unfold State.nowPs State.nowQ; rw [State.plainWrite_tim]
@[simp] theorem State.pllLost_plainWrite (s : State) (a : Nat) (w bar : Word) (n : Nat) : (s.plainWrite a w bar).pllLost n = s.pllLost n := by unfold State.pllLost; rw [State.plainWrite_fltCond]

/-! ### What was written -/

@[simp] theorem State.addFrame_frames (s : State) (f : Frame) : (s.addFrame f).frames = s.frames ++ [{ f with fid := s.nextFid }] := (rfl)
@[simp] theorem State.pin_setPin_self {s : State} (h : s.wf = true) (p : Nat) (x : Pin) : (s.setPin p x).pin p = x := by
  rw [State.pin_setPin h, if_pos rfl]
@[simp] theorem State.mac_setMac_self {s : State} (h : s.wf = true) (p : Nat) (x : Mac) : (s.setMac p x).mac p = x := by
  rw [State.mac_setMac h, if_pos rfl]
@[simp] theorem State.can_setCan_self {s : State} (h : s.wf = true) (p : Nat) (x : CanCh) : (s.setCan p x).can p = x := by
  rw [State.can_setCan h, if_pos rfl]
theorem State.pin_setPin_ne {s : State} (h : s.wf = true) {p q : Nat} (x : Pin) (n : q ≠ p) : (s.setPin p x).pin q = s.pin q := by
  rw [State.pin_setPin h, if_neg n]
theorem State.mac_setMac_ne {s : State} (h : s.wf = true) {p q : Nat} (x : Mac) (n : q ≠ p) : (s.setMac p x).mac q = s.mac q := by
  rw [State.mac_setMac h, if_neg n]
theorem State.can_setCan_ne {s : State} (h : s.wf = true) {p q : Nat} (x : CanCh) (n : q ≠ p) : (s.setCan p x).can q = s.can q := by
  rw [State.can_setCan h, if_neg n]
@[simp] theorem State.cnt_bump_self {s : State} (h : s.wf = true) (a : Nat) : (s.bump a).cnt a = s.cnt a + 1 := by
  rw [State.cnt_bump h, if_pos rfl]

theorem State.bit_setBit_ne {s : State} (h : s.wf = true) {f g : Fld} {b : Bool} (n : g.addr ≠ f.addr) : (s.setBit f b).bit g = s.bit g := by
  unfold State.bit State.setBit; rw [State.get_set_ne h n]
theorem State.bit_setBit_apart {s : State} (h : s.wf = true) {f g : Fld} {b : Bool} (hf : f.lo ≤ f.hi) (h32 : f.hi < 32)
    (ha : g.hi < f.lo ∨ f.hi < g.lo) : (s.setBit f b).bit g = s.bit g := by
  unfold State.bit State.setBit; rw [State.get_set_apart h hf h32 ha]
theorem State.get_setBit_apart {s : State} (h : s.wf = true) {f g : Fld} {b : Bool} (hf : f.lo ≤ f.hi) (h32 : f.hi < 32)
    (ha : g.hi < f.lo ∨ f.hi < g.lo) : (s.setBit f b).get g = s.get g := State.get_set_apart h hf h32 ha
theorem State.bit_set_apart {s : State} (h : s.wf = true) {f g : Fld} {v : Nat} (hf : f.lo ≤ f.hi) (h32 : f.hi < 32)
    (ha : g.hi < f.lo ∨ f.hi < g.lo) : (s.set f v).bit g = s.bit g := by
  unfold State.bit; rw [State.get_set_apart h hf h32 ha]

@[simp] theorem State.setMem_mem (s : State) (p a : Nat) (b : Byte) : (s.setMem p a b).mem = Sparse.set (fun _ => 0) s.mem (memKey p a) b := (rfl)

theorem memKey_succ (p a : Nat) : memKey p (a + 1) = memKey p a + 1 := by unfold memKey; rw [Nat.add_assoc]

theorem mem_get_set {s : State} (hs : Sparse.wf (fun _ => 0) s.mem = true) (m : Nat) (b : Byte) (k : Nat) :
    Sparse.get (fun _ => 0) (Sparse.set (fun _ => 0) s.mem m b) k = if k = m then b else Sparse.get (fun _ => 0) s.mem k := Sparse.get_set hs

/-- A byte of a core memory after a byte was stored, by key. -/
theorem State.mem_setMem {s : State} (hs : Sparse.wf (fun _ => 0) s.mem = true) (p a : Nat) (b : Byte) (k : Nat) :
    Sparse.get (fun _ => 0) (s.setMem p a b).mem k = if k = memKey p a then b else Sparse.get (fun _ => 0) s.mem k := by
  rw [State.setMem_mem, mem_get_set hs]

/-- The bytes of a core memory after bytes were stored, by key. -/
theorem State.mem_memStore {s : State} {p a k : Nat} {l : Bytes} (hs : Sparse.wf (fun _ => 0) s.mem = true) :
    Sparse.get (fun _ => 0) (s.memStore p a l).mem k =
      if memKey p a ≤ k ∧ k < memKey p a + l.length then l.getD (k - memKey p a) 0 else Sparse.get (fun _ => 0) s.mem k := by
  induction l generalizing s a with
  | nil =>
    unfold State.memStore
    rw [List.length_nil]
    generalize memKey p a = m
    rw [if_neg (by omega)]
  | cons b l ih =>
    unfold State.memStore
    rw [ih (s := s.setMem p a b) (Sparse.wf_set (memKey p a) b hs), State.mem_setMem hs, memKey_succ, List.length_cons]
    generalize memKey p a = m
    by_cases e : k = m
    · rw [e, if_neg (by omega), if_pos rfl, if_pos (by omega), Nat.sub_self]; rfl
    · rw [if_neg e]
      by_cases o : m + 1 ≤ k ∧ k < m + 1 + l.length
      · rw [if_pos o, if_pos (by omega), show k - m = (k - (m + 1)) + 1 by omega, List.getD_cons_succ]
      · rw [if_neg o, if_neg (by omega)]

/-- Raising an event leaves the fields of every other register alone. -/
theorem State.get_raise_ne {s : State} (h : s.wf = true) {f g : Fld} (n : g.addr ≠ f.addr) : (s.raise f).get g = s.get g := by
  unfold State.get; rw [State.rd_raise h, if_neg n]
theorem State.bit_raise_ne {s : State} (h : s.wf = true) {f g : Fld} (n : g.addr ≠ f.addr) : (s.raise f).bit g = s.bit g := by
  unfold State.bit; rw [State.get_raise_ne h n]

/-- Raising an event leaves the bits of its own register that lie apart alone. -/
theorem State.get_raise_apart {s : State} (h : s.wf = true) {f g : Fld} (hf : f.lo ≤ f.hi) (h32 : f.hi < 32)
    (ha : g.hi < f.lo ∨ f.hi < g.lo) : (s.raise f).get g = s.get g := by
  by_cases n : g.addr = f.addr
  · unfold State.get
    rw [State.rd_raise h, if_pos n, bitsOf_putBits_of_apart hf h32 ha]
  · exact State.get_raise_ne h n
theorem State.bit_raise_apart {s : State} (h : s.wf = true) {f g : Fld} (hf : f.lo ≤ f.hi) (h32 : f.hi < 32)
    (ha : g.hi < f.lo ∨ f.hi < g.lo) : (s.raise f).bit g = s.bit g := by
  unfold State.bit; rw [State.get_raise_apart h hf h32 ha]

/-- Registers whose fields are not clamped take the written word. -/
theorem clampWord_of_plain {a : Nat} {w : Word} (h : ∀ c ∈ clamped, c.1.addr ≠ a) : clampWord a w = w := by
  unfold clampWord
  generalize clamped = l at h
  induction l generalizing w with
  | nil => rfl
  | cons c l ih =>
    rw [List.foldl_cons, if_neg (h c (List.mem_cons_self ..))]
    exact ih fun d hd => h d (List.mem_cons_of_mem _ hd)

/-- A field of a register that takes what is written, whatever the stage: no locked, clear-on-write or set-on-write bits, no clamping. -/
def plainFld (f : Fld) : Bool :=
  match regAt f.addr with
  | none => false
  | some r => r.bitsWith (· == .rwl) == 0 && r.bitsWith (· == .w1c) == 0 && r.bitsWith (· == .w1s) == 0
      && (List.range (f.hi + 1)).all (fun j => j < f.lo || ((r.bitsWith (fun c => c == .rw || c == .rws)).getLsbD j && (r.bitsWith (fun c => c == .rw || c == .rws || c == .rwl)).getLsbD j))
      && clamped.all fun c => c.1.addr != f.addr

/-- The same with the proof obligations as one closed fact. -/
theorem State.get_plainWrite_of_plain {s : State} (h : s.wf = true) {f : Fld} {w : Word} (p : plainFld f = true) :
    (s.plainWrite f.addr w).get f = bitsOf w f.hi f.lo := by
  unfold plainFld at p
  cases hr : regAt f.addr with
  | none => rw [hr] at p; cases p
  | some r =>
    rw [hr] at p
    simp only [Bool.and_eq_true, beq_iff_eq, List.all_eq_true, Bool.or_eq_true, decide_eq_true_eq, List.mem_range, bne_iff_ne] at p
    obtain ⟨⟨⟨⟨h1, h2⟩, h3⟩, h4⟩, h5⟩ := p
    refine State.get_plainWrite h hr h1 h2 h3 (fun o j hj hl => ?_) (clampWord_of_plain h5)
    have k := (h4 j (by omega)).resolve_left (by omega)
    cases o with
    | false => simpa using k.1
    | true => simpa using k.2

theorem State.bit_plainWrite_of_plain {s : State} (h : s.wf = true) {f : Fld} {w : Word} (p : plainFld f = true) (e : f.lo = f.hi) :
    (s.plainWrite f.addr w).bit f = w.getLsbD f.lo := by
  unfold State.bit
  rw [State.get_plainWrite_of_plain h p, ← e]
  unfold bitsOf
  rw [BitVec.getLsbD, Nat.testBit_eq_decide_div_mod_eq, show f.lo + 1 - f.lo = 1 by omega]
  rcases Nat.mod_two_eq_zero_or_one (w.toNat / 2 ^ f.lo) with k | k <;> rw [show 2 ^ 1 = 2 from rfl, k] <;> rfl

/-- A register whose fields all clear when one is written to them: the bits m. -/
def w1cReg (a : Nat) (m : Word) : Bool :=
  match regAt a with
  | none => false
  | some r => r.bitsWith (· == .rwl) == 0 && r.bitsWith (· == .w1s) == 0 && r.bitsWith (· == .w1c) == m
      && r.bitsWith (fun c => c == .rw || c == .rws) == 0 && r.bitsWith (fun c => c == .rw || c == .rws || c == .rwl) == 0
      && clamped.all fun c => c.1.addr != a

/-- A write of such a register clears the bits that are written, if none of its bits was set in this clock. -/
theorem State.plainWrite_of_w1c {s : State} {a : Nat} {m w : Word} (p : w1cReg a m = true) (h0 : s.setNow a = 0) :
    s.plainWrite a w = s.wr a (s.rd a &&& ~~~(w &&& m)) := by
  unfold w1cReg at p
  cases hr : regAt a with
  | none => rw [hr] at p; cases p
  | some r =>
    rw [hr] at p
    simp only [Bool.and_eq_true, beq_iff_eq, List.all_eq_true, bne_iff_ne] at p
    obtain ⟨⟨⟨⟨⟨h1, h2⟩, h3⟩, h4⟩, h5⟩, h6⟩ := p
    rw [State.plainWrite_of_open hr h1, clampWord_of_plain h6, h0]
    unfold Reg.written
    have h7 : ∀ o, r.bitsWith (fun c => c == .rw || c == .rws || (o && c == .rwl)) = 0 := by
      intro o; cases o
      · simpa using h4
      · simpa using h5
    have q1 : ∀ x : Word, 0 &&& x = 0 := fun x => BitVec.zero_and
    have q2 : ∀ x : Word, x &&& 0 = 0 := fun x => BitVec.and_zero
    have q3 : ∀ x : Word, x &&& ~~~0 = x := fun x => by rw [show ~~~(0 : Word) = BitVec.allOnes 32 from rfl, BitVec.and_allOnes]
    have q4 : ∀ x : Word, x ||| 0 = x := fun x => BitVec.or_zero
    simp only [h7, h2, h3, q1, q2, q3, q4]

end Sys2Proof.Machine
end

