-- ==== Sys2Proof/Laws/Fields.lean ====
section
/-! SUPPORT. What each read of the state gives after the update of one field of the record that it does not read. -/

namespace Sys2Proof.Machine

@[simp] theorem State.rd_upd_tim (s : State) (x : Tim) (b : Nat) : State.rd { s with tim := x } b = s.rd b := (rfl)
@[simp] theorem State.get_upd_tim (s : State) (x : Tim) (g : Fld) : State.get { s with tim := x } g = s.get g := (rfl)
@[simp] theorem State.bit_upd_tim (s : State) (x : Tim) (g : Fld) : State.bit { s with tim := x } g = s.bit g := (rfl)
@[simp] theorem State.released_upd_tim (s : State) (x : Tim) : State.released { s with tim := x } = s.released := (rfl)
@[simp] theorem State.stage_upd_tim (s : State) (x : Tim) : State.stage { s with tim := x } = s.stage := (rfl)
@[simp] theorem State.drives_upd_tim (s : State) (x : Tim) : State.drives { s with tim := x } = s.drives := (rfl)
@[simp] theorem State.cnt_upd_tim (s : State) (x : Tim) (b : Nat) : State.cnt { s with tim := x } b = s.cnt b := (rfl)
@[simp] theorem State.tab_upd_tim (s : State) (x : Tim) (j : Nat) : State.tab { s with tim := x } j = s.tab j := (rfl)
@[simp] theorem State.tw_upd_tim (s : State) (x : Tim) (n t k i o : Nat) : State.tw { s with tim := x } n t k i o = s.tw n t k i o := (rfl)
@[simp] theorem State.held_upd_tim (s : State) (x : Tim) (j : Initiator) (b : Nat) : State.held { s with tim := x } j b = s.held j b := (rfl)
@[simp] theorem State.pin_upd_tim (s : State) (x : Tim) (q : Nat) : State.pin { s with tim := x } q = s.pin q := (rfl)
@[simp] theorem State.mac_upd_tim (s : State) (x : Tim) (q : Nat) : State.mac { s with tim := x } q = s.mac q := (rfl)
@[simp] theorem State.can_upd_tim (s : State) (x : Tim) (q : Nat) : State.can { s with tim := x } q = s.can q := (rfl)
@[simp] theorem State.pllLost_upd_tim (s : State) (x : Tim) (n : Nat) : State.pllLost { s with tim := x } n = s.pllLost n := (rfl)
@[simp] theorem State.wf_upd_tim (s : State) (x : Tim) : State.wf { s with tim := x } = s.wf := (rfl)

@[simp] theorem State.rd_upd_marker (s : State) (x : Marker) (b : Nat) : State.rd { s with marker := x } b = s.rd b := (rfl)
@[simp] theorem State.get_upd_marker (s : State) (x : Marker) (g : Fld) : State.get { s with marker := x } g = s.get g := (rfl)
@[simp] theorem State.bit_upd_marker (s : State) (x : Marker) (g : Fld) : State.bit { s with marker := x } g = s.bit g := (rfl)
@[simp] theorem State.released_upd_marker (s : State) (x : Marker) : State.released { s with marker := x } = s.released := (rfl)
@[simp] theorem State.stage_upd_marker (s : State) (x : Marker) : State.stage { s with marker := x } = s.stage := (rfl)
@[simp] theorem State.drives_upd_marker (s : State) (x : Marker) : State.drives { s with marker := x } = s.drives := (rfl)
@[simp] theorem State.cnt_upd_marker (s : State) (x : Marker) (b : Nat) : State.cnt { s with marker := x } b = s.cnt b := (rfl)
@[simp] theorem State.tab_upd_marker (s : State) (x : Marker) (j : Nat) : State.tab { s with marker := x } j = s.tab j := (rfl)
@[simp] theorem State.tw_upd_marker (s : State) (x : Marker) (n t k i o : Nat) : State.tw { s with marker := x } n t k i o = s.tw n t k i o := (rfl)
@[simp] theorem State.held_upd_marker (s : State) (x : Marker) (j : Initiator) (b : Nat) : State.held { s with marker := x } j b = s.held j b := (rfl)
@[simp] theorem State.pin_upd_marker (s : State) (x : Marker) (q : Nat) : State.pin { s with marker := x } q = s.pin q := (rfl)
@[simp] theorem State.mac_upd_marker (s : State) (x : Marker) (q : Nat) : State.mac { s with marker := x } q = s.mac q := (rfl)
@[simp] theorem State.can_upd_marker (s : State) (x : Marker) (q : Nat) : State.can { s with marker := x } q = s.can q := (rfl)
@[simp] theorem State.nowQ_upd_marker (s : State) (x : Marker) : State.nowQ { s with marker := x } = s.nowQ := (rfl)
@[simp] theorem State.nowPs_upd_marker (s : State) (x : Marker) : State.nowPs { s with marker := x } = s.nowPs := (rfl)
@[simp] theorem State.pllLost_upd_marker (s : State) (x : Marker) (n : Nat) : State.pllLost { s with marker := x } n = s.pllLost n := (rfl)
@[simp] theorem State.wf_upd_marker (s : State) (x : Marker) : State.wf { s with marker := x } = s.wf := (rfl)

@[simp] theorem State.rd_upd_frames (s : State) (x : List Frame) (b : Nat) : State.rd { s with frames := x } b = s.rd b := (rfl)
@[simp] theorem State.get_upd_frames (s : State) (x : List Frame) (g : Fld) : State.get { s with frames := x } g = s.get g := (rfl)
@[simp] theorem State.bit_upd_frames (s : State) (x : List Frame) (g : Fld) : State.bit { s with frames := x } g = s.bit g := (rfl)
@[simp] theorem State.released_upd_frames (s : State) (x : List Frame) : State.released { s with frames := x } = s.released := (rfl)
@[simp] theorem State.stage_upd_frames (s : State) (x : List Frame) : State.stage { s with frames := x } = s.stage := (rfl)
@[simp] theorem State.drives_upd_frames (s : State) (x : List Frame) : State.drives { s with frames := x } = s.drives := (rfl)
@[simp] theorem State.cnt_upd_frames (s : State) (x : List Frame) (b : Nat) : State.cnt { s with frames := x } b = s.cnt b := (rfl)
@[simp] theorem State.tab_upd_frames (s : State) (x : List Frame) (j : Nat) : State.tab { s with frames := x } j = s.tab j := (rfl)
@[simp] theorem State.tw_upd_frames (s : State) (x : List Frame) (n t k i o : Nat) : State.tw { s with frames := x } n t k i o = s.tw n t k i o := (rfl)
@[simp] theorem State.held_upd_frames (s : State) (x : List Frame) (j : Initiator) (b : Nat) : State.held { s with frames := x } j b = s.held j b := (rfl)
@[simp] theorem State.pin_upd_frames (s : State) (x : List Frame) (q : Nat) : State.pin { s with frames := x } q = s.pin q := (rfl)
@[simp] theorem State.mac_upd_frames (s : State) (x : List Frame) (q : Nat) : State.mac { s with frames := x } q = s.mac q := (rfl)
@[simp] theorem State.can_upd_frames (s : State) (x : List Frame) (q : Nat) : State.can { s with frames := x } q = s.can q := (rfl)
@[simp] theorem State.nowQ_upd_frames (s : State) (x : List Frame) : State.nowQ { s with frames := x } = s.nowQ := (rfl)
@[simp] theorem State.nowPs_upd_frames (s : State) (x : List Frame) : State.nowPs { s with frames := x } = s.nowPs := (rfl)
@[simp] theorem State.pllLost_upd_frames (s : State) (x : List Frame) (n : Nat) : State.pllLost { s with frames := x } n = s.pllLost n := (rfl)
@[simp] theorem State.wf_upd_frames (s : State) (x : List Frame) : State.wf { s with frames := x } = s.wf := (rfl)

@[simp] theorem State.rd_upd_copies (s : State) (x : List Copy) (b : Nat) : State.rd { s with copies := x } b = s.rd b := (rfl)
@[simp] theorem State.get_upd_copies (s : State) (x : List Copy) (g : Fld) : State.get { s with copies := x } g = s.get g := (rfl)
@[simp] theorem State.bit_upd_copies (s : State) (x : List Copy) (g : Fld) : State.bit { s with copies := x } g = s.bit g := (rfl)
@[simp] theorem State.released_upd_copies (s : State) (x : List Copy) : State.released { s with copies := x } = s.released := (rfl)
@[simp] theorem State.stage_upd_copies (s : State) (x : List Copy) : State.stage { s with copies := x } = s.stage := (rfl)
@[simp] theorem State.drives_upd_copies (s : State) (x : List Copy) : State.drives { s with copies := x } = s.drives := (rfl)
@[simp] theorem State.cnt_upd_copies (s : State) (x : List Copy) (b : Nat) : State.cnt { s with copies := x } b = s.cnt b := (rfl)
@[simp] theorem State.tab_upd_copies (s : State) (x : List Copy) (j : Nat) : State.tab { s with copies := x } j = s.tab j := (rfl)
@[simp] theorem State.tw_upd_copies (s : State) (x : List Copy) (n t k i o : Nat) : State.tw { s with copies := x } n t k i o = s.tw n t k i o := (rfl)
@[simp] theorem State.held_upd_copies (s : State) (x : List Copy) (j : Initiator) (b : Nat) : State.held { s with copies := x } j b = s.held j b := (rfl)
@[simp] theorem State.pin_upd_copies (s : State) (x : List Copy) (q : Nat) : State.pin { s with copies := x } q = s.pin q := (rfl)
@[simp] theorem State.mac_upd_copies (s : State) (x : List Copy) (q : Nat) : State.mac { s with copies := x } q = s.mac q := (rfl)
@[simp] theorem State.can_upd_copies (s : State) (x : List Copy) (q : Nat) : State.can { s with copies := x } q = s.can q := (rfl)
@[simp] theorem State.nowQ_upd_copies (s : State) (x : List Copy) : State.nowQ { s with copies := x } = s.nowQ := (rfl)
@[simp] theorem State.nowPs_upd_copies (s : State) (x : List Copy) : State.nowPs { s with copies := x } = s.nowPs := (rfl)
@[simp] theorem State.pllLost_upd_copies (s : State) (x : List Copy) (n : Nat) : State.pllLost { s with copies := x } n = s.pllLost n := (rfl)
@[simp] theorem State.wf_upd_copies (s : State) (x : List Copy) : State.wf { s with copies := x } = s.wf := (rfl)

@[simp] theorem State.rd_upd_slc (s : State) (x : Slc) (b : Nat) : State.rd { s with slc := x } b = s.rd b := (rfl)
@[simp] theorem State.get_upd_slc (s : State) (x : Slc) (g : Fld) : State.get { s with slc := x } g = s.get g := (rfl)
@[simp] theorem State.bit_upd_slc (s : State) (x : Slc) (g : Fld) : State.bit { s with slc := x } g = s.bit g := (rfl)
@[simp] theorem State.released_upd_slc (s : State) (x : Slc) : State.released { s with slc := x } = s.released := (rfl)
@[simp] theorem State.stage_upd_slc (s : State) (x : Slc) : State.stage { s with slc := x } = s.stage := (rfl)
@[simp] theorem State.drives_upd_slc (s : State) (x : Slc) : State.drives { s with slc := x } = s.drives := (rfl)
@[simp] theorem State.cnt_upd_slc (s : State) (x : Slc) (b : Nat) : State.cnt { s with slc := x } b = s.cnt b := (rfl)
@[simp] theorem State.tab_upd_slc (s : State) (x : Slc) (j : Nat) : State.tab { s with slc := x } j = s.tab j := (rfl)
@[simp] theorem State.tw_upd_slc (s : State) (x : Slc) (n t k i o : Nat) : State.tw { s with slc := x } n t k i o = s.tw n t k i o := (rfl)
@[simp] theorem State.held_upd_slc (s : State) (x : Slc) (j : Initiator) (b : Nat) : State.held { s with slc := x } j b = s.held j b := (rfl)
@[simp] theorem State.pin_upd_slc (s : State) (x : Slc) (q : Nat) : State.pin { s with slc := x } q = s.pin q := (rfl)
@[simp] theorem State.mac_upd_slc (s : State) (x : Slc) (q : Nat) : State.mac { s with slc := x } q = s.mac q := (rfl)
@[simp] theorem State.can_upd_slc (s : State) (x : Slc) (q : Nat) : State.can { s with slc := x } q = s.can q := (rfl)
@[simp] theorem State.nowQ_upd_slc (s : State) (x : Slc) : State.nowQ { s with slc := x } = s.nowQ := (rfl)
@[simp] theorem State.nowPs_upd_slc (s : State) (x : Slc) : State.nowPs { s with slc := x } = s.nowPs := (rfl)
@[simp] theorem State.pllLost_upd_slc (s : State) (x : Slc) (n : Nat) : State.pllLost { s with slc := x } n = s.pllLost n := (rfl)
@[simp] theorem State.wf_upd_slc (s : State) (x : Slc) : State.wf { s with slc := x } = s.wf := (rfl)

@[simp] theorem State.rd_upd_str (s : State) (x : Str) (b : Nat) : State.rd { s with str := x } b = s.rd b := (rfl)
@[simp] theorem State.get_upd_str (s : State) (x : Str) (g : Fld) : State.get { s with str := x } g = s.get g := (rfl)
@[simp] theorem State.bit_upd_str (s : State) (x : Str) (g : Fld) : State.bit { s with str := x } g = s.bit g := (rfl)
@[simp] theorem State.released_upd_str (s : State) (x : Str) : State.released { s with str := x } = s.released := (rfl)
@[simp] theorem State.stage_upd_str (s : State) (x : Str) : State.stage { s with str := x } = s.stage := (rfl)
@[simp] theorem State.drives_upd_str (s : State) (x : Str) : State.drives { s with str := x } = s.drives := (rfl)
@[simp] theorem State.cnt_upd_str (s : State) (x : Str) (b : Nat) : State.cnt { s with str := x } b = s.cnt b := (rfl)
@[simp] theorem State.tab_upd_str (s : State) (x : Str) (j : Nat) : State.tab { s with str := x } j = s.tab j := (rfl)
@[simp] theorem State.tw_upd_str (s : State) (x : Str) (n t k i o : Nat) : State.tw { s with str := x } n t k i o = s.tw n t k i o := (rfl)
@[simp] theorem State.held_upd_str (s : State) (x : Str) (j : Initiator) (b : Nat) : State.held { s with str := x } j b = s.held j b := (rfl)
@[simp] theorem State.pin_upd_str (s : State) (x : Str) (q : Nat) : State.pin { s with str := x } q = s.pin q := (rfl)
@[simp] theorem State.mac_upd_str (s : State) (x : Str) (q : Nat) : State.mac { s with str := x } q = s.mac q := (rfl)
@[simp] theorem State.can_upd_str (s : State) (x : Str) (q : Nat) : State.can { s with str := x } q = s.can q := (rfl)
@[simp] theorem State.nowQ_upd_str (s : State) (x : Str) : State.nowQ { s with str := x } = s.nowQ := (rfl)
@[simp] theorem State.nowPs_upd_str (s : State) (x : Str) : State.nowPs { s with str := x } = s.nowPs := (rfl)
@[simp] theorem State.pllLost_upd_str (s : State) (x : Str) (n : Nat) : State.pllLost { s with str := x } n = s.pllLost n := (rfl)
@[simp] theorem State.wf_upd_str (s : State) (x : Str) : State.wf { s with str := x } = s.wf := (rfl)

@[simp] theorem State.rd_upd_bsn (s : State) (x : Bsn) (b : Nat) : State.rd { s with bsn := x } b = s.rd b := (rfl)
@[simp] theorem State.get_upd_bsn (s : State) (x : Bsn) (g : Fld) : State.get { s with bsn := x } g = s.get g := (rfl)
@[simp] theorem State.bit_upd_bsn (s : State) (x : Bsn) (g : Fld) : State.bit { s with bsn := x } g = s.bit g := (rfl)
@[simp] theorem State.released_upd_bsn (s : State) (x : Bsn) : State.released { s with bsn := x } = s.released := (rfl)
@[simp] theorem State.stage_upd_bsn (s : State) (x : Bsn) : State.stage { s with bsn := x } = s.stage := (rfl)
@[simp] theorem State.drives_upd_bsn (s : State) (x : Bsn) : State.drives { s with bsn := x } = s.drives := (rfl)
@[simp] theorem State.cnt_upd_bsn (s : State) (x : Bsn) (b : Nat) : State.cnt { s with bsn := x } b = s.cnt b := (rfl)
@[simp] theorem State.tab_upd_bsn (s : State) (x : Bsn) (j : Nat) : State.tab { s with bsn := x } j = s.tab j := (rfl)
@[simp] theorem State.tw_upd_bsn (s : State) (x : Bsn) (n t k i o : Nat) : State.tw { s with bsn := x } n t k i o = s.tw n t k i o := (rfl)
@[simp] theorem State.held_upd_bsn (s : State) (x : Bsn) (j : Initiator) (b : Nat) : State.held { s with bsn := x } j b = s.held j b := (rfl)
@[simp] theorem State.pin_upd_bsn (s : State) (x : Bsn) (q : Nat) : State.pin { s with bsn := x } q = s.pin q := (rfl)
@[simp] theorem State.mac_upd_bsn (s : State) (x : Bsn) (q : Nat) : State.mac { s with bsn := x } q = s.mac q := (rfl)
@[simp] theorem State.can_upd_bsn (s : State) (x : Bsn) (q : Nat) : State.can { s with bsn := x } q = s.can q := (rfl)
@[simp] theorem State.nowQ_upd_bsn (s : State) (x : Bsn) : State.nowQ { s with bsn := x } = s.nowQ := (rfl)
@[simp] theorem State.nowPs_upd_bsn (s : State) (x : Bsn) : State.nowPs { s with bsn := x } = s.nowPs := (rfl)
@[simp] theorem State.pllLost_upd_bsn (s : State) (x : Bsn) (n : Nat) : State.pllLost { s with bsn := x } n = s.pllLost n := (rfl)
@[simp] theorem State.wf_upd_bsn (s : State) (x : Bsn) : State.wf { s with bsn := x } = s.wf := (rfl)

@[simp] theorem State.rd_upd_crs (s : State) (x : Crs) (b : Nat) : State.rd { s with crs := x } b = s.rd b := (rfl)
@[simp] theorem State.get_upd_crs (s : State) (x : Crs) (g : Fld) : State.get { s with crs := x } g = s.get g := (rfl)
@[simp] theorem State.bit_upd_crs (s : State) (x : Crs) (g : Fld) : State.bit { s with crs := x } g = s.bit g := (rfl)
@[simp] theorem State.released_upd_crs (s : State) (x : Crs) : State.released { s with crs := x } = s.released := (rfl)
@[simp] theorem State.stage_upd_crs (s : State) (x : Crs) : State.stage { s with crs := x } = s.stage := (rfl)
@[simp] theorem State.drives_upd_crs (s : State) (x : Crs) : State.drives { s with crs := x } = s.drives := (rfl)
@[simp] theorem State.cnt_upd_crs (s : State) (x : Crs) (b : Nat) : State.cnt { s with crs := x } b = s.cnt b := (rfl)
@[simp] theorem State.tab_upd_crs (s : State) (x : Crs) (j : Nat) : State.tab { s with crs := x } j = s.tab j := (rfl)
@[simp] theorem State.tw_upd_crs (s : State) (x : Crs) (n t k i o : Nat) : State.tw { s with crs := x } n t k i o = s.tw n t k i o := (rfl)
@[simp] theorem State.held_upd_crs (s : State) (x : Crs) (j : Initiator) (b : Nat) : State.held { s with crs := x } j b = s.held j b := (rfl)
@[simp] theorem State.pin_upd_crs (s : State) (x : Crs) (q : Nat) : State.pin { s with crs := x } q = s.pin q := (rfl)
@[simp] theorem State.mac_upd_crs (s : State) (x : Crs) (q : Nat) : State.mac { s with crs := x } q = s.mac q := (rfl)
@[simp] theorem State.can_upd_crs (s : State) (x : Crs) (q : Nat) : State.can { s with crs := x } q = s.can q := (rfl)
@[simp] theorem State.nowQ_upd_crs (s : State) (x : Crs) : State.nowQ { s with crs := x } = s.nowQ := (rfl)
@[simp] theorem State.nowPs_upd_crs (s : State) (x : Crs) : State.nowPs { s with crs := x } = s.nowPs := (rfl)
@[simp] theorem State.pllLost_upd_crs (s : State) (x : Crs) (n : Nat) : State.pllLost { s with crs := x } n = s.pllLost n := (rfl)
@[simp] theorem State.wf_upd_crs (s : State) (x : Crs) : State.wf { s with crs := x } = s.wf := (rfl)

@[simp] theorem State.rd_upd_lkp (s : State) (x : Lkp) (b : Nat) : State.rd { s with lkp := x } b = s.rd b := (rfl)
@[simp] theorem State.get_upd_lkp (s : State) (x : Lkp) (g : Fld) : State.get { s with lkp := x } g = s.get g := (rfl)
@[simp] theorem State.bit_upd_lkp (s : State) (x : Lkp) (g : Fld) : State.bit { s with lkp := x } g = s.bit g := (rfl)
@[simp] theorem State.released_upd_lkp (s : State) (x : Lkp) : State.released { s with lkp := x } = s.released := (rfl)
@[simp] theorem State.stage_upd_lkp (s : State) (x : Lkp) : State.stage { s with lkp := x } = s.stage := (rfl)
@[simp] theorem State.drives_upd_lkp (s : State) (x : Lkp) : State.drives { s with lkp := x } = s.drives := (rfl)
@[simp] theorem State.cnt_upd_lkp (s : State) (x : Lkp) (b : Nat) : State.cnt { s with lkp := x } b = s.cnt b := (rfl)
@[simp] theorem State.tab_upd_lkp (s : State) (x : Lkp) (j : Nat) : State.tab { s with lkp := x } j = s.tab j := (rfl)
@[simp] theorem State.tw_upd_lkp (s : State) (x : Lkp) (n t k i o : Nat) : State.tw { s with lkp := x } n t k i o = s.tw n t k i o := (rfl)
@[simp] theorem State.held_upd_lkp (s : State) (x : Lkp) (j : Initiator) (b : Nat) : State.held { s with lkp := x } j b = s.held j b := (rfl)
@[simp] theorem State.pin_upd_lkp (s : State) (x : Lkp) (q : Nat) : State.pin { s with lkp := x } q = s.pin q := (rfl)
@[simp] theorem State.mac_upd_lkp (s : State) (x : Lkp) (q : Nat) : State.mac { s with lkp := x } q = s.mac q := (rfl)
@[simp] theorem State.can_upd_lkp (s : State) (x : Lkp) (q : Nat) : State.can { s with lkp := x } q = s.can q := (rfl)
@[simp] theorem State.nowQ_upd_lkp (s : State) (x : Lkp) : State.nowQ { s with lkp := x } = s.nowQ := (rfl)
@[simp] theorem State.nowPs_upd_lkp (s : State) (x : Lkp) : State.nowPs { s with lkp := x } = s.nowPs := (rfl)
@[simp] theorem State.pllLost_upd_lkp (s : State) (x : Lkp) (n : Nat) : State.pllLost { s with lkp := x } n = s.pllLost n := (rfl)
@[simp] theorem State.wf_upd_lkp (s : State) (x : Lkp) : State.wf { s with lkp := x } = s.wf := (rfl)

@[simp] theorem State.rd_upd_notes (s : State) (x : List Note) (b : Nat) : State.rd { s with notes := x } b = s.rd b := (rfl)
@[simp] theorem State.get_upd_notes (s : State) (x : List Note) (g : Fld) : State.get { s with notes := x } g = s.get g := (rfl)
@[simp] theorem State.bit_upd_notes (s : State) (x : List Note) (g : Fld) : State.bit { s with notes := x } g = s.bit g := (rfl)
@[simp] theorem State.released_upd_notes (s : State) (x : List Note) : State.released { s with notes := x } = s.released := (rfl)
@[simp] theorem State.stage_upd_notes (s : State) (x : List Note) : State.stage { s with notes := x } = s.stage := (rfl)
@[simp] theorem State.drives_upd_notes (s : State) (x : List Note) : State.drives { s with notes := x } = s.drives := (rfl)
@[simp] theorem State.cnt_upd_notes (s : State) (x : List Note) (b : Nat) : State.cnt { s with notes := x } b = s.cnt b := (rfl)
@[simp] theorem State.tab_upd_notes (s : State) (x : List Note) (j : Nat) : State.tab { s with notes := x } j = s.tab j := (rfl)
@[simp] theorem State.tw_upd_notes (s : State) (x : List Note) (n t k i o : Nat) : State.tw { s with notes := x } n t k i o = s.tw n t k i o := (rfl)
@[simp] theorem State.held_upd_notes (s : State) (x : List Note) (j : Initiator) (b : Nat) : State.held { s with notes := x } j b = s.held j b := (rfl)
@[simp] theorem State.pin_upd_notes (s : State) (x : List Note) (q : Nat) : State.pin { s with notes := x } q = s.pin q := (rfl)
@[simp] theorem State.mac_upd_notes (s : State) (x : List Note) (q : Nat) : State.mac { s with notes := x } q = s.mac q := (rfl)
@[simp] theorem State.can_upd_notes (s : State) (x : List Note) (q : Nat) : State.can { s with notes := x } q = s.can q := (rfl)
@[simp] theorem State.nowQ_upd_notes (s : State) (x : List Note) : State.nowQ { s with notes := x } = s.nowQ := (rfl)
@[simp] theorem State.nowPs_upd_notes (s : State) (x : List Note) : State.nowPs { s with notes := x } = s.nowPs := (rfl)
@[simp] theorem State.pllLost_upd_notes (s : State) (x : List Note) (n : Nat) : State.pllLost { s with notes := x } n = s.pllLost n := (rfl)
@[simp] theorem State.wf_upd_notes (s : State) (x : List Note) : State.wf { s with notes := x } = s.wf := (rfl)

@[simp] theorem State.rd_upd_twp (s : State) (x : Twp) (b : Nat) : State.rd { s with twp := x } b = s.rd b := (rfl)
@[simp] theorem State.get_upd_twp (s : State) (x : Twp) (g : Fld) : State.get { s with twp := x } g = s.get g := (rfl)
@[simp] theorem State.bit_upd_twp (s : State) (x : Twp) (g : Fld) : State.bit { s with twp := x } g = s.bit g := (rfl)
@[simp] theorem State.released_upd_twp (s : State) (x : Twp) : State.released { s with twp := x } = s.released := (rfl)
@[simp] theorem State.stage_upd_twp (s : State) (x : Twp) : State.stage { s with twp := x } = s.stage := (rfl)
@[simp] theorem State.drives_upd_twp (s : State) (x : Twp) : State.drives { s with twp := x } = s.drives := (rfl)
@[simp] theorem State.cnt_upd_twp (s : State) (x : Twp) (b : Nat) : State.cnt { s with twp := x } b = s.cnt b := (rfl)
@[simp] theorem State.tab_upd_twp (s : State) (x : Twp) (j : Nat) : State.tab { s with twp := x } j = s.tab j := (rfl)
@[simp] theorem State.tw_upd_twp (s : State) (x : Twp) (n t k i o : Nat) : State.tw { s with twp := x } n t k i o = s.tw n t k i o := (rfl)
@[simp] theorem State.held_upd_twp (s : State) (x : Twp) (j : Initiator) (b : Nat) : State.held { s with twp := x } j b = s.held j b := (rfl)
@[simp] theorem State.pin_upd_twp (s : State) (x : Twp) (q : Nat) : State.pin { s with twp := x } q = s.pin q := (rfl)
@[simp] theorem State.mac_upd_twp (s : State) (x : Twp) (q : Nat) : State.mac { s with twp := x } q = s.mac q := (rfl)
@[simp] theorem State.can_upd_twp (s : State) (x : Twp) (q : Nat) : State.can { s with twp := x } q = s.can q := (rfl)
@[simp] theorem State.nowQ_upd_twp (s : State) (x : Twp) : State.nowQ { s with twp := x } = s.nowQ := (rfl)
@[simp] theorem State.nowPs_upd_twp (s : State) (x : Twp) : State.nowPs { s with twp := x } = s.nowPs := (rfl)
@[simp] theorem State.pllLost_upd_twp (s : State) (x : Twp) (n : Nat) : State.pllLost { s with twp := x } n = s.pllLost n := (rfl)
@[simp] theorem State.wf_upd_twp (s : State) (x : Twp) : State.wf { s with twp := x } = s.wf := (rfl)

@[simp] theorem State.rd_upd_key (s : State) (x : KeyS) (b : Nat) : State.rd { s with key := x } b = s.rd b := (rfl)
@[simp] theorem State.get_upd_key (s : State) (x : KeyS) (g : Fld) : State.get { s with key := x } g = s.get g := (rfl)
@[simp] theorem State.bit_upd_key (s : State) (x : KeyS) (g : Fld) : State.bit { s with key := x } g = s.bit g := (rfl)
@[simp] theorem State.released_upd_key (s : State) (x : KeyS) : State.released { s with key := x } = s.released := (rfl)
@[simp] theorem State.stage_upd_key (s : State) (x : KeyS) : State.stage { s with key := x } = s.stage := (rfl)
@[simp] theorem State.drives_upd_key (s : State) (x : KeyS) : State.drives { s with key := x } = s.drives := (rfl)
@[simp] theorem State.cnt_upd_key (s : State) (x : KeyS) (b : Nat) : State.cnt { s with key := x } b = s.cnt b := (rfl)
@[simp] theorem State.tab_upd_key (s : State) (x : KeyS) (j : Nat) : State.tab { s with key := x } j = s.tab j := (rfl)
@[simp] theorem State.tw_upd_key (s : State) (x : KeyS) (n t k i o : Nat) : State.tw { s with key := x } n t k i o = s.tw n t k i o := (rfl)
@[simp] theorem State.held_upd_key (s : State) (x : KeyS) (j : Initiator) (b : Nat) : State.held { s with key := x } j b = s.held j b := (rfl)
@[simp] theorem State.pin_upd_key (s : State) (x : KeyS) (q : Nat) : State.pin { s with key := x } q = s.pin q := (rfl)
@[simp] theorem State.mac_upd_key (s : State) (x : KeyS) (q : Nat) : State.mac { s with key := x } q = s.mac q := (rfl)
@[simp] theorem State.can_upd_key (s : State) (x : KeyS) (q : Nat) : State.can { s with key := x } q = s.can q := (rfl)
@[simp] theorem State.nowQ_upd_key (s : State) (x : KeyS) : State.nowQ { s with key := x } = s.nowQ := (rfl)
@[simp] theorem State.nowPs_upd_key (s : State) (x : KeyS) : State.nowPs { s with key := x } = s.nowPs := (rfl)
@[simp] theorem State.pllLost_upd_key (s : State) (x : KeyS) (n : Nat) : State.pllLost { s with key := x } n = s.pllLost n := (rfl)
@[simp] theorem State.wf_upd_key (s : State) (x : KeyS) : State.wf { s with key := x } = s.wf := (rfl)

@[simp] theorem State.rd_upd_cph (s : State) (x : Cph) (b : Nat) : State.rd { s with cph := x } b = s.rd b := (rfl)
@[simp] theorem State.get_upd_cph (s : State) (x : Cph) (g : Fld) : State.get { s with cph := x } g = s.get g := (rfl)
@[simp] theorem State.bit_upd_cph (s : State) (x : Cph) (g : Fld) : State.bit { s with cph := x } g = s.bit g := (rfl)
@[simp] theorem State.released_upd_cph (s : State) (x : Cph) : State.released { s with cph := x } = s.released := (rfl)
@[simp] theorem State.stage_upd_cph (s : State) (x : Cph) : State.stage { s with cph := x } = s.stage := (rfl)
@[simp] theorem State.drives_upd_cph (s : State) (x : Cph) : State.drives { s with cph := x } = s.drives := (rfl)
@[simp] theorem State.cnt_upd_cph (s : State) (x : Cph) (b : Nat) : State.cnt { s with cph := x } b = s.cnt b := (rfl)
@[simp] theorem State.tab_upd_cph (s : State) (x : Cph) (j : Nat) : State.tab { s with cph := x } j = s.tab j := (rfl)
@[simp] theorem State.tw_upd_cph (s : State) (x : Cph) (n t k i o : Nat) : State.tw { s with cph := x } n t k i o = s.tw n t k i o := (rfl)
@[simp] theorem State.held_upd_cph (s : State) (x : Cph) (j : Initiator) (b : Nat) : State.held { s with cph := x } j b = s.held j b := (rfl)
@[simp] theorem State.pin_upd_cph (s : State) (x : Cph) (q : Nat) : State.pin { s with cph := x } q = s.pin q := (rfl)
@[simp] theorem State.mac_upd_cph (s : State) (x : Cph) (q : Nat) : State.mac { s with cph := x } q = s.mac q := (rfl)
@[simp] theorem State.can_upd_cph (s : State) (x : Cph) (q : Nat) : State.can { s with cph := x } q = s.can q := (rfl)
@[simp] theorem State.nowQ_upd_cph (s : State) (x : Cph) : State.nowQ { s with cph := x } = s.nowQ := (rfl)
@[simp] theorem State.nowPs_upd_cph (s : State) (x : Cph) : State.nowPs { s with cph := x } = s.nowPs := (rfl)
@[simp] theorem State.pllLost_upd_cph (s : State) (x : Cph) (n : Nat) : State.pllLost { s with cph := x } n = s.pllLost n := (rfl)
@[simp] theorem State.wf_upd_cph (s : State) (x : Cph) : State.wf { s with cph := x } = s.wf := (rfl)

@[simp] theorem State.rd_upd_la (s : State) (x : La) (b : Nat) : State.rd { s with la := x } b = s.rd b := (rfl)
@[simp] theorem State.get_upd_la (s : State) (x : La) (g : Fld) : State.get { s with la := x } g = s.get g := (rfl)
@[simp] theorem State.bit_upd_la (s : State) (x : La) (g : Fld) : State.bit { s with la := x } g = s.bit g := (rfl)
@[simp] theorem State.released_upd_la (s : State) (x : La) : State.released { s with la := x } = s.released := (rfl)
@[simp] theorem State.stage_upd_la (s : State) (x : La) : State.stage { s with la := x } = s.stage := (rfl)
@[simp] theorem State.drives_upd_la (s : State) (x : La) : State.drives { s with la := x } = s.drives := (rfl)
@[simp] theorem State.cnt_upd_la (s : State) (x : La) (b : Nat) : State.cnt { s with la := x } b = s.cnt b := (rfl)
@[simp] theorem State.tab_upd_la (s : State) (x : La) (j : Nat) : State.tab { s with la := x } j = s.tab j := (rfl)
@[simp] theorem State.tw_upd_la (s : State) (x : La) (n t k i o : Nat) : State.tw { s with la := x } n t k i o = s.tw n t k i o := (rfl)
@[simp] theorem State.held_upd_la (s : State) (x : La) (j : Initiator) (b : Nat) : State.held { s with la := x } j b = s.held j b := (rfl)
@[simp] theorem State.pin_upd_la (s : State) (x : La) (q : Nat) : State.pin { s with la := x } q = s.pin q := (rfl)
@[simp] theorem State.mac_upd_la (s : State) (x : La) (q : Nat) : State.mac { s with la := x } q = s.mac q := (rfl)
@[simp] theorem State.can_upd_la (s : State) (x : La) (q : Nat) : State.can { s with la := x } q = s.can q := (rfl)
@[simp] theorem State.nowQ_upd_la (s : State) (x : La) : State.nowQ { s with la := x } = s.nowQ := (rfl)
@[simp] theorem State.nowPs_upd_la (s : State) (x : La) : State.nowPs { s with la := x } = s.nowPs := (rfl)
@[simp] theorem State.pllLost_upd_la (s : State) (x : La) (n : Nat) : State.pllLost { s with la := x } n = s.pllLost n := (rfl)
@[simp] theorem State.wf_upd_la (s : State) (x : La) : State.wf { s with la := x } = s.wf := (rfl)

@[simp] theorem State.rd_upd_gwe (s : State) (x : Gwe) (b : Nat) : State.rd { s with gwe := x } b = s.rd b := (rfl)
@[simp] theorem State.get_upd_gwe (s : State) (x : Gwe) (g : Fld) : State.get { s with gwe := x } g = s.get g := (rfl)
@[simp] theorem State.bit_upd_gwe (s : State) (x : Gwe) (g : Fld) : State.bit { s with gwe := x } g = s.bit g := (rfl)
@[simp] theorem State.released_upd_gwe (s : State) (x : Gwe) : State.released { s with gwe := x } = s.released := (rfl)
@[simp] theorem State.stage_upd_gwe (s : State) (x : Gwe) : State.stage { s with gwe := x } = s.stage := (rfl)
@[simp] theorem State.drives_upd_gwe (s : State) (x : Gwe) : State.drives { s with gwe := x } = s.drives := (rfl)
@[simp] theorem State.cnt_upd_gwe (s : State) (x : Gwe) (b : Nat) : State.cnt { s with gwe := x } b = s.cnt b := (rfl)
@[simp] theorem State.tab_upd_gwe (s : State) (x : Gwe) (j : Nat) : State.tab { s with gwe := x } j = s.tab j := (rfl)
@[simp] theorem State.tw_upd_gwe (s : State) (x : Gwe) (n t k i o : Nat) : State.tw { s with gwe := x } n t k i o = s.tw n t k i o := (rfl)
@[simp] theorem State.held_upd_gwe (s : State) (x : Gwe) (j : Initiator) (b : Nat) : State.held { s with gwe := x } j b = s.held j b := (rfl)
@[simp] theorem State.pin_upd_gwe (s : State) (x : Gwe) (q : Nat) : State.pin { s with gwe := x } q = s.pin q := (rfl)
@[simp] theorem State.mac_upd_gwe (s : State) (x : Gwe) (q : Nat) : State.mac { s with gwe := x } q = s.mac q := (rfl)
@[simp] theorem State.can_upd_gwe (s : State) (x : Gwe) (q : Nat) : State.can { s with gwe := x } q = s.can q := (rfl)
@[simp] theorem State.nowQ_upd_gwe (s : State) (x : Gwe) : State.nowQ { s with gwe := x } = s.nowQ := (rfl)
@[simp] theorem State.nowPs_upd_gwe (s : State) (x : Gwe) : State.nowPs { s with gwe := x } = s.nowPs := (rfl)
@[simp] theorem State.pllLost_upd_gwe (s : State) (x : Gwe) (n : Nat) : State.pllLost { s with gwe := x } n = s.pllLost n := (rfl)
@[simp] theorem State.wf_upd_gwe (s : State) (x : Gwe) : State.wf { s with gwe := x } = s.wf := (rfl)

@[simp] theorem State.rd_upd_cpu (s : State) (x : Cpu) (b : Nat) : State.rd { s with cpu := x } b = s.rd b := (rfl)
@[simp] theorem State.get_upd_cpu (s : State) (x : Cpu) (g : Fld) : State.get { s with cpu := x } g = s.get g := (rfl)
@[simp] theorem State.bit_upd_cpu (s : State) (x : Cpu) (g : Fld) : State.bit { s with cpu := x } g = s.bit g := (rfl)
@[simp] theorem State.released_upd_cpu (s : State) (x : Cpu) : State.released { s with cpu := x } = s.released := (rfl)
@[simp] theorem State.stage_upd_cpu (s : State) (x : Cpu) : State.stage { s with cpu := x } = s.stage := (rfl)
@[simp] theorem State.drives_upd_cpu (s : State) (x : Cpu) : State.drives { s with cpu := x } = s.drives := (rfl)
@[simp] theorem State.cnt_upd_cpu (s : State) (x : Cpu) (b : Nat) : State.cnt { s with cpu := x } b = s.cnt b := (rfl)
@[simp] theorem State.tab_upd_cpu (s : State) (x : Cpu) (j : Nat) : State.tab { s with cpu := x } j = s.tab j := (rfl)
@[simp] theorem State.tw_upd_cpu (s : State) (x : Cpu) (n t k i o : Nat) : State.tw { s with cpu := x } n t k i o = s.tw n t k i o := (rfl)
@[simp] theorem State.held_upd_cpu (s : State) (x : Cpu) (j : Initiator) (b : Nat) : State.held { s with cpu := x } j b = s.held j b := (rfl)
@[simp] theorem State.pin_upd_cpu (s : State) (x : Cpu) (q : Nat) : State.pin { s with cpu := x } q = s.pin q := (rfl)
@[simp] theorem State.mac_upd_cpu (s : State) (x : Cpu) (q : Nat) : State.mac { s with cpu := x } q = s.mac q := (rfl)
@[simp] theorem State.can_upd_cpu (s : State) (x : Cpu) (q : Nat) : State.can { s with cpu := x } q = s.can q := (rfl)
@[simp] theorem State.nowQ_upd_cpu (s : State) (x : Cpu) : State.nowQ { s with cpu := x } = s.nowQ := (rfl)
@[simp] theorem State.nowPs_upd_cpu (s : State) (x : Cpu) : State.nowPs { s with cpu := x } = s.nowPs := (rfl)
@[simp] theorem State.pllLost_upd_cpu (s : State) (x : Cpu) (n : Nat) : State.pllLost { s with cpu := x } n = s.pllLost n := (rfl)
@[simp] theorem State.wf_upd_cpu (s : State) (x : Cpu) : State.wf { s with cpu := x } = s.wf := (rfl)

@[simp] theorem State.rd_upd_brg (s : State) (x : Brg) (b : Nat) : State.rd { s with brg := x } b = s.rd b := (rfl)
@[simp] theorem State.get_upd_brg (s : State) (x : Brg) (g : Fld) : State.get { s with brg := x } g = s.get g := (rfl)
@[simp] theorem State.bit_upd_brg (s : State) (x : Brg) (g : Fld) : State.bit { s with brg := x } g = s.bit g := (rfl)
@[simp] theorem State.released_upd_brg (s : State) (x : Brg) : State.released { s with brg := x } = s.released := (rfl)
@[simp] theorem State.stage_upd_brg (s : State) (x : Brg) : State.stage { s with brg := x } = s.stage := (rfl)
@[simp] theorem State.drives_upd_brg (s : State) (x : Brg) : State.drives { s with brg := x } = s.drives := (rfl)
@[simp] theorem State.cnt_upd_brg (s : State) (x : Brg) (b : Nat) : State.cnt { s with brg := x } b = s.cnt b := (rfl)
@[simp] theorem State.tab_upd_brg (s : State) (x : Brg) (j : Nat) : State.tab { s with brg := x } j = s.tab j := (rfl)
@[simp] theorem State.tw_upd_brg (s : State) (x : Brg) (n t k i o : Nat) : State.tw { s with brg := x } n t k i o = s.tw n t k i o := (rfl)
@[simp] theorem State.held_upd_brg (s : State) (x : Brg) (j : Initiator) (b : Nat) : State.held { s with brg := x } j b = s.held j b := (rfl)
@[simp] theorem State.pin_upd_brg (s : State) (x : Brg) (q : Nat) : State.pin { s with brg := x } q = s.pin q := (rfl)
@[simp] theorem State.mac_upd_brg (s : State) (x : Brg) (q : Nat) : State.mac { s with brg := x } q = s.mac q := (rfl)
@[simp] theorem State.can_upd_brg (s : State) (x : Brg) (q : Nat) : State.can { s with brg := x } q = s.can q := (rfl)
@[simp] theorem State.nowQ_upd_brg (s : State) (x : Brg) : State.nowQ { s with brg := x } = s.nowQ := (rfl)
@[simp] theorem State.nowPs_upd_brg (s : State) (x : Brg) : State.nowPs { s with brg := x } = s.nowPs := (rfl)
@[simp] theorem State.pllLost_upd_brg (s : State) (x : Brg) (n : Nat) : State.pllLost { s with brg := x } n = s.pllLost n := (rfl)
@[simp] theorem State.wf_upd_brg (s : State) (x : Brg) : State.wf { s with brg := x } = s.wf := (rfl)

@[simp] theorem State.rd_upd_boot (s : State) (x : Boot) (b : Nat) : State.rd { s with boot := x } b = s.rd b := (rfl)
@[simp] theorem State.get_upd_boot (s : State) (x : Boot) (g : Fld) : State.get { s with boot := x } g = s.get g := (rfl)
@[simp] theorem State.bit_upd_boot (s : State) (x : Boot) (g : Fld) : State.bit { s with boot := x } g = s.bit g := (rfl)
@[simp] theorem State.released_upd_boot (s : State) (x : Boot) : State.released { s with boot := x } = s.released := (rfl)
@[simp] theorem State.stage_upd_boot (s : State) (x : Boot) : State.stage { s with boot := x } = s.stage := (rfl)
@[simp] theorem State.drives_upd_boot (s : State) (x : Boot) : State.drives { s with boot := x } = s.drives := (rfl)
@[simp] theorem State.cnt_upd_boot (s : State) (x : Boot) (b : Nat) : State.cnt { s with boot := x } b = s.cnt b := (rfl)
@[simp] theorem State.tab_upd_boot (s : State) (x : Boot) (j : Nat) : State.tab { s with boot := x } j = s.tab j := (rfl)
@[simp] theorem State.tw_upd_boot (s : State) (x : Boot) (n t k i o : Nat) : State.tw { s with boot := x } n t k i o = s.tw n t k i o := (rfl)
@[simp] theorem State.held_upd_boot (s : State) (x : Boot) (j : Initiator) (b : Nat) : State.held { s with boot := x } j b = s.held j b := (rfl)
@[simp] theorem State.pin_upd_boot (s : State) (x : Boot) (q : Nat) : State.pin { s with boot := x } q = s.pin q := (rfl)
@[simp] theorem State.mac_upd_boot (s : State) (x : Boot) (q : Nat) : State.mac { s with boot := x } q = s.mac q := (rfl)
@[simp] theorem State.can_upd_boot (s : State) (x : Boot) (q : Nat) : State.can { s with boot := x } q = s.can q := (rfl)
@[simp] theorem State.nowQ_upd_boot (s : State) (x : Boot) : State.nowQ { s with boot := x } = s.nowQ := (rfl)
@[simp] theorem State.nowPs_upd_boot (s : State) (x : Boot) : State.nowPs { s with boot := x } = s.nowPs := (rfl)
@[simp] theorem State.pllLost_upd_boot (s : State) (x : Boot) (n : Nat) : State.pllLost { s with boot := x } n = s.pllLost n := (rfl)

@[simp] theorem State.rd_upd_upd (s : State) (x : Upd) (b : Nat) : State.rd { s with upd := x } b = s.rd b := (rfl)
@[simp] theorem State.get_upd_upd (s : State) (x : Upd) (g : Fld) : State.get { s with upd := x } g = s.get g := (rfl)
@[simp] theorem State.bit_upd_upd (s : State) (x : Upd) (g : Fld) : State.bit { s with upd := x } g = s.bit g := (rfl)
@[simp] theorem State.released_upd_upd (s : State) (x : Upd) : State.released { s with upd := x } = s.released := (rfl)
@[simp] theorem State.stage_upd_upd (s : State) (x : Upd) : State.stage { s with upd := x } = s.stage := (rfl)
@[simp] theorem State.drives_upd_upd (s : State) (x : Upd) : State.drives { s with upd := x } = s.drives := (rfl)
@[simp] theorem State.cnt_upd_upd (s : State) (x : Upd) (b : Nat) : State.cnt { s with upd := x } b = s.cnt b := (rfl)
@[simp] theorem State.tab_upd_upd (s : State) (x : Upd) (j : Nat) : State.tab { s with upd := x } j = s.tab j := (rfl)
@[simp] theorem State.tw_upd_upd (s : State) (x : Upd) (n t k i o : Nat) : State.tw { s with upd := x } n t k i o = s.tw n t k i o := (rfl)
@[simp] theorem State.held_upd_upd (s : State) (x : Upd) (j : Initiator) (b : Nat) : State.held { s with upd := x } j b = s.held j b := (rfl)
@[simp] theorem State.pin_upd_upd (s : State) (x : Upd) (q : Nat) : State.pin { s with upd := x } q = s.pin q := (rfl)
@[simp] theorem State.mac_upd_upd (s : State) (x : Upd) (q : Nat) : State.mac { s with upd := x } q = s.mac q := (rfl)
@[simp] theorem State.can_upd_upd (s : State) (x : Upd) (q : Nat) : State.can { s with upd := x } q = s.can q := (rfl)
@[simp] theorem State.nowQ_upd_upd (s : State) (x : Upd) : State.nowQ { s with upd := x } = s.nowQ := (rfl)
@[simp] theorem State.nowPs_upd_upd (s : State) (x : Upd) : State.nowPs { s with upd := x } = s.nowPs := (rfl)
@[simp] theorem State.pllLost_upd_upd (s : State) (x : Upd) (n : Nat) : State.pllLost { s with upd := x } n = s.pllLost n := (rfl)
@[simp] theorem State.wf_upd_upd (s : State) (x : Upd) : State.wf { s with upd := x } = s.wf := (rfl)

@[simp] theorem State.rd_upd_wak (s : State) (x : Wak) (b : Nat) : State.rd { s with wak := x } b = s.rd b := (rfl)
@[simp] theorem State.get_upd_wak (s : State) (x : Wak) (g : Fld) : State.get { s with wak := x } g = s.get g := (rfl)
@[simp] theorem State.bit_upd_wak (s : State) (x : Wak) (g : Fld) : State.bit { s with wak := x } g = s.bit g := (rfl)
@[simp] theorem State.released_upd_wak (s : State) (x : Wak) : State.released { s with wak := x } = s.released := (rfl)
@[simp] theorem State.stage_upd_wak (s : State) (x : Wak) : State.stage { s with wak := x } = s.stage := (rfl)
@[simp] theorem State.drives_upd_wak (s : State) (x : Wak) : State.drives { s with wak := x } = s.drives := (rfl)
@[simp] theorem State.cnt_upd_wak (s : State) (x : Wak) (b : Nat) : State.cnt { s with wak := x } b = s.cnt b := (rfl)
@[simp] theorem State.tab_upd_wak (s : State) (x : Wak) (j : Nat) : State.tab { s with wak := x } j = s.tab j := (rfl)
@[simp] theorem State.tw_upd_wak (s : State) (x : Wak) (n t k i o : Nat) : State.tw { s with wak := x } n t k i o = s.tw n t k i o := (rfl)
@[simp] theorem State.held_upd_wak (s : State) (x : Wak) (j : Initiator) (b : Nat) : State.held { s with wak := x } j b = s.held j b := (rfl)
@[simp] theorem State.pin_upd_wak (s : State) (x : Wak) (q : Nat) : State.pin { s with wak := x } q = s.pin q := (rfl)
@[simp] theorem State.mac_upd_wak (s : State) (x : Wak) (q : Nat) : State.mac { s with wak := x } q = s.mac q := (rfl)
@[simp] theorem State.can_upd_wak (s : State) (x : Wak) (q : Nat) : State.can { s with wak := x } q = s.can q := (rfl)
@[simp] theorem State.nowQ_upd_wak (s : State) (x : Wak) : State.nowQ { s with wak := x } = s.nowQ := (rfl)
@[simp] theorem State.nowPs_upd_wak (s : State) (x : Wak) : State.nowPs { s with wak := x } = s.nowPs := (rfl)
@[simp] theorem State.pllLost_upd_wak (s : State) (x : Wak) (n : Nat) : State.pllLost { s with wak := x } n = s.pllLost n := (rfl)
@[simp] theorem State.wf_upd_wak (s : State) (x : Wak) : State.wf { s with wak := x } = s.wf := (rfl)

@[simp] theorem State.rd_upd_fresh (s : State) (x : Nat) (b : Nat) : State.rd { s with fresh := x } b = s.rd b := (rfl)
@[simp] theorem State.get_upd_fresh (s : State) (x : Nat) (g : Fld) : State.get { s with fresh := x } g = s.get g := (rfl)
@[simp] theorem State.bit_upd_fresh (s : State) (x : Nat) (g : Fld) : State.bit { s with fresh := x } g = s.bit g := (rfl)
@[simp] theorem State.released_upd_fresh (s : State) (x : Nat) : State.released { s with fresh := x } = s.released := (rfl)
@[simp] theorem State.stage_upd_fresh (s : State) (x : Nat) : State.stage { s with fresh := x } = s.stage := (rfl)
@[simp] theorem State.drives_upd_fresh (s : State) (x : Nat) : State.drives { s with fresh := x } = s.drives := (rfl)
@[simp] theorem State.cnt_upd_fresh (s : State) (x : Nat) (b : Nat) : State.cnt { s with fresh := x } b = s.cnt b := (rfl)
@[simp] theorem State.tab_upd_fresh (s : State) (x : Nat) (j : Nat) : State.tab { s with fresh := x } j = s.tab j := (rfl)
@[simp] theorem State.tw_upd_fresh (s : State) (x : Nat) (n t k i o : Nat) : State.tw { s with fresh := x } n t k i o = s.tw n t k i o := (rfl)
@[simp] theorem State.held_upd_fresh (s : State) (x : Nat) (j : Initiator) (b : Nat) : State.held { s with fresh := x } j b = s.held j b := (rfl)
@[simp] theorem State.pin_upd_fresh (s : State) (x : Nat) (q : Nat) : State.pin { s with fresh := x } q = s.pin q := (rfl)
@[simp] theorem State.mac_upd_fresh (s : State) (x : Nat) (q : Nat) : State.mac { s with fresh := x } q = s.mac q := (rfl)
@[simp] theorem State.can_upd_fresh (s : State) (x : Nat) (q : Nat) : State.can { s with fresh := x } q = s.can q := (rfl)
@[simp] theorem State.nowQ_upd_fresh (s : State) (x : Nat) : State.nowQ { s with fresh := x } = s.nowQ := (rfl)
@[simp] theorem State.nowPs_upd_fresh (s : State) (x : Nat) : State.nowPs { s with fresh := x } = s.nowPs := (rfl)
@[simp] theorem State.pllLost_upd_fresh (s : State) (x : Nat) (n : Nat) : State.pllLost { s with fresh := x } n = s.pllLost n := (rfl)
@[simp] theorem State.wf_upd_fresh (s : State) (x : Nat) : State.wf { s with fresh := x } = s.wf := (rfl)

@[simp] theorem State.rd_upd_wire (s : State) (x : List Emit) (b : Nat) : State.rd { s with wire := x } b = s.rd b := (rfl)
@[simp] theorem State.get_upd_wire (s : State) (x : List Emit) (g : Fld) : State.get { s with wire := x } g = s.get g := (rfl)
@[simp] theorem State.bit_upd_wire (s : State) (x : List Emit) (g : Fld) : State.bit { s with wire := x } g = s.bit g := (rfl)
@[simp] theorem State.released_upd_wire (s : State) (x : List Emit) : State.released { s with wire := x } = s.released := (rfl)
@[simp] theorem State.stage_upd_wire (s : State) (x : List Emit) : State.stage { s with wire := x } = s.stage := (rfl)
@[simp] theorem State.drives_upd_wire (s : State) (x : List Emit) : State.drives { s with wire := x } = s.drives := (rfl)
@[simp] theorem State.cnt_upd_wire (s : State) (x : List Emit) (b : Nat) : State.cnt { s with wire := x } b = s.cnt b := (rfl)
@[simp] theorem State.tab_upd_wire (s : State) (x : List Emit) (j : Nat) : State.tab { s with wire := x } j = s.tab j := (rfl)
@[simp] theorem State.tw_upd_wire (s : State) (x : List Emit) (n t k i o : Nat) : State.tw { s with wire := x } n t k i o = s.tw n t k i o := (rfl)
@[simp] theorem State.held_upd_wire (s : State) (x : List Emit) (j : Initiator) (b : Nat) : State.held { s with wire := x } j b = s.held j b := (rfl)
@[simp] theorem State.pin_upd_wire (s : State) (x : List Emit) (q : Nat) : State.pin { s with wire := x } q = s.pin q := (rfl)
@[simp] theorem State.mac_upd_wire (s : State) (x : List Emit) (q : Nat) : State.mac { s with wire := x } q = s.mac q := (rfl)
@[simp] theorem State.can_upd_wire (s : State) (x : List Emit) (q : Nat) : State.can { s with wire := x } q = s.can q := (rfl)
@[simp] theorem State.nowQ_upd_wire (s : State) (x : List Emit) : State.nowQ { s with wire := x } = s.nowQ := (rfl)
@[simp] theorem State.nowPs_upd_wire (s : State) (x : List Emit) : State.nowPs { s with wire := x } = s.nowPs := (rfl)
@[simp] theorem State.pllLost_upd_wire (s : State) (x : List Emit) (n : Nat) : State.pllLost { s with wire := x } n = s.pllLost n := (rfl)
@[simp] theorem State.wf_upd_wire (s : State) (x : List Emit) : State.wf { s with wire := x } = s.wf := (rfl)

@[simp] theorem State.rd_upd_fltLog (s : State) (x : List (List Word)) (b : Nat) : State.rd { s with fltLog := x } b = s.rd b := (rfl)
@[simp] theorem State.get_upd_fltLog (s : State) (x : List (List Word)) (g : Fld) : State.get { s with fltLog := x } g = s.get g := (rfl)
@[simp] theorem State.bit_upd_fltLog (s : State) (x : List (List Word)) (g : Fld) : State.bit { s with fltLog := x } g = s.bit g := (rfl)
@[simp] theorem State.released_upd_fltLog (s : State) (x : List (List Word)) : State.released { s with fltLog := x } = s.released := (rfl)
@[simp] theorem State.stage_upd_fltLog (s : State) (x : List (List Word)) : State.stage { s with fltLog := x } = s.stage := (rfl)
@[simp] theorem State.drives_upd_fltLog (s : State) (x : List (List Word)) : State.drives { s with fltLog := x } = s.drives := (rfl)
@[simp] theorem State.cnt_upd_fltLog (s : State) (x : List (List Word)) (b : Nat) : State.cnt { s with fltLog := x } b = s.cnt b := (rfl)
@[simp] theorem State.tab_upd_fltLog (s : State) (x : List (List Word)) (j : Nat) : State.tab { s with fltLog := x } j = s.tab j := (rfl)
@[simp] theorem State.tw_upd_fltLog (s : State) (x : List (List Word)) (n t k i o : Nat) : State.tw { s with fltLog := x } n t k i o = s.tw n t k i o := (rfl)
@[simp] theorem State.held_upd_fltLog (s : State) (x : List (List Word)) (j : Initiator) (b : Nat) : State.held { s with fltLog := x } j b = s.held j b := (rfl)
@[simp] theorem State.pin_upd_fltLog (s : State) (x : List (List Word)) (q : Nat) : State.pin { s with fltLog := x } q = s.pin q := (rfl)
@[simp] theorem State.mac_upd_fltLog (s : State) (x : List (List Word)) (q : Nat) : State.mac { s with fltLog := x } q = s.mac q := (rfl)
@[simp] theorem State.can_upd_fltLog (s : State) (x : List (List Word)) (q : Nat) : State.can { s with fltLog := x } q = s.can q := (rfl)
@[simp] theorem State.nowQ_upd_fltLog (s : State) (x : List (List Word)) : State.nowQ { s with fltLog := x } = s.nowQ := (rfl)
@[simp] theorem State.nowPs_upd_fltLog (s : State) (x : List (List Word)) : State.nowPs { s with fltLog := x } = s.nowPs := (rfl)
@[simp] theorem State.pllLost_upd_fltLog (s : State) (x : List (List Word)) (n : Nat) : State.pllLost { s with fltLog := x } n = s.pllLost n := (rfl)
@[simp] theorem State.wf_upd_fltLog (s : State) (x : List (List Word)) : State.wf { s with fltLog := x } = s.wf := (rfl)

@[simp] theorem State.rd_upd_fltCond (s : State) (x : Word) (b : Nat) : State.rd { s with fltCond := x } b = s.rd b := (rfl)
@[simp] theorem State.get_upd_fltCond (s : State) (x : Word) (g : Fld) : State.get { s with fltCond := x } g = s.get g := (rfl)
@[simp] theorem State.bit_upd_fltCond (s : State) (x : Word) (g : Fld) : State.bit { s with fltCond := x } g = s.bit g := (rfl)
@[simp] theorem State.released_upd_fltCond (s : State) (x : Word) : State.released { s with fltCond := x } = s.released := (rfl)
@[simp] theorem State.stage_upd_fltCond (s : State) (x : Word) : State.stage { s with fltCond := x } = s.stage := (rfl)
@[simp] theorem State.drives_upd_fltCond (s : State) (x : Word) : State.drives { s with fltCond := x } = s.drives := (rfl)
@[simp] theorem State.cnt_upd_fltCond (s : State) (x : Word) (b : Nat) : State.cnt { s with fltCond := x } b = s.cnt b := (rfl)
@[simp] theorem State.tab_upd_fltCond (s : State) (x : Word) (j : Nat) : State.tab { s with fltCond := x } j = s.tab j := (rfl)
@[simp] theorem State.tw_upd_fltCond (s : State) (x : Word) (n t k i o : Nat) : State.tw { s with fltCond := x } n t k i o = s.tw n t k i o := (rfl)
@[simp] theorem State.held_upd_fltCond (s : State) (x : Word) (j : Initiator) (b : Nat) : State.held { s with fltCond := x } j b = s.held j b := (rfl)
@[simp] theorem State.pin_upd_fltCond (s : State) (x : Word) (q : Nat) : State.pin { s with fltCond := x } q = s.pin q := (rfl)
@[simp] theorem State.mac_upd_fltCond (s : State) (x : Word) (q : Nat) : State.mac { s with fltCond := x } q = s.mac q := (rfl)
@[simp] theorem State.can_upd_fltCond (s : State) (x : Word) (q : Nat) : State.can { s with fltCond := x } q = s.can q := (rfl)
@[simp] theorem State.nowQ_upd_fltCond (s : State) (x : Word) : State.nowQ { s with fltCond := x } = s.nowQ := (rfl)
@[simp] theorem State.nowPs_upd_fltCond (s : State) (x : Word) : State.nowPs { s with fltCond := x } = s.nowPs := (rfl)
@[simp] theorem State.wf_upd_fltCond (s : State) (x : Word) : State.wf { s with fltCond := x } = s.wf := (rfl)

@[simp] theorem State.rd_upd_msixPba (s : State) (x : Word) (b : Nat) : State.rd { s with msixPba := x } b = s.rd b := (rfl)
@[simp] theorem State.get_upd_msixPba (s : State) (x : Word) (g : Fld) : State.get { s with msixPba := x } g = s.get g := (rfl)
@[simp] theorem State.bit_upd_msixPba (s : State) (x : Word) (g : Fld) : State.bit { s with msixPba := x } g = s.bit g := (rfl)
@[simp] theorem State.released_upd_msixPba (s : State) (x : Word) : State.released { s with msixPba := x } = s.released := (rfl)
@[simp] theorem State.stage_upd_msixPba (s : State) (x : Word) : State.stage { s with msixPba := x } = s.stage := (rfl)
@[simp] theorem State.drives_upd_msixPba (s : State) (x : Word) : State.drives { s with msixPba := x } = s.drives := (rfl)
@[simp] theorem State.cnt_upd_msixPba (s : State) (x : Word) (b : Nat) : State.cnt { s with msixPba := x } b = s.cnt b := (rfl)
@[simp] theorem State.tab_upd_msixPba (s : State) (x : Word) (j : Nat) : State.tab { s with msixPba := x } j = s.tab j := (rfl)
@[simp] theorem State.tw_upd_msixPba (s : State) (x : Word) (n t k i o : Nat) : State.tw { s with msixPba := x } n t k i o = s.tw n t k i o := (rfl)
@[simp] theorem State.held_upd_msixPba (s : State) (x : Word) (j : Initiator) (b : Nat) : State.held { s with msixPba := x } j b = s.held j b := (rfl)
@[simp] theorem State.pin_upd_msixPba (s : State) (x : Word) (q : Nat) : State.pin { s with msixPba := x } q = s.pin q := (rfl)
@[simp] theorem State.mac_upd_msixPba (s : State) (x : Word) (q : Nat) : State.mac { s with msixPba := x } q = s.mac q := (rfl)
@[simp] theorem State.can_upd_msixPba (s : State) (x : Word) (q : Nat) : State.can { s with msixPba := x } q = s.can q := (rfl)
@[simp] theorem State.nowQ_upd_msixPba (s : State) (x : Word) : State.nowQ { s with msixPba := x } = s.nowQ := (rfl)
@[simp] theorem State.nowPs_upd_msixPba (s : State) (x : Word) : State.nowPs { s with msixPba := x } = s.nowPs := (rfl)
@[simp] theorem State.pllLost_upd_msixPba (s : State) (x : Word) (n : Nat) : State.pllLost { s with msixPba := x } n = s.pllLost n := (rfl)
@[simp] theorem State.wf_upd_msixPba (s : State) (x : Word) : State.wf { s with msixPba := x } = s.wf := (rfl)

@[simp] theorem State.rd_upd_msixMask (s : State) (x : Word) (b : Nat) : State.rd { s with msixMask := x } b = s.rd b := (rfl)
@[simp] theorem State.get_upd_msixMask (s : State) (x : Word) (g : Fld) : State.get { s with msixMask := x } g = s.get g := (rfl)
@[simp] theorem State.bit_upd_msixMask (s : State) (x : Word) (g : Fld) : State.bit { s with msixMask := x } g = s.bit g := (rfl)
@[simp] theorem State.released_upd_msixMask (s : State) (x : Word) : State.released { s with msixMask := x } = s.released := (rfl)
@[simp] theorem State.stage_upd_msixMask (s : State) (x : Word) : State.stage { s with msixMask := x } = s.stage := (rfl)
@[simp] theorem State.drives_upd_msixMask (s : State) (x : Word) : State.drives { s with msixMask := x } = s.drives := (rfl)
@[simp] theorem State.cnt_upd_msixMask (s : State) (x : Word) (b : Nat) : State.cnt { s with msixMask := x } b = s.cnt b := (rfl)
@[simp] theorem State.tab_upd_msixMask (s : State) (x : Word) (j : Nat) : State.tab { s with msixMask := x } j = s.tab j := (rfl)
@[simp] theorem State.tw_upd_msixMask (s : State) (x : Word) (n t k i o : Nat) : State.tw { s with msixMask := x } n t k i o = s.tw n t k i o := (rfl)
@[simp] theorem State.held_upd_msixMask (s : State) (x : Word) (j : Initiator) (b : Nat) : State.held { s with msixMask := x } j b = s.held j b := (rfl)
@[simp] theorem State.pin_upd_msixMask (s : State) (x : Word) (q : Nat) : State.pin { s with msixMask := x } q = s.pin q := (rfl)
@[simp] theorem State.mac_upd_msixMask (s : State) (x : Word) (q : Nat) : State.mac { s with msixMask := x } q = s.mac q := (rfl)
@[simp] theorem State.can_upd_msixMask (s : State) (x : Word) (q : Nat) : State.can { s with msixMask := x } q = s.can q := (rfl)
@[simp] theorem State.nowQ_upd_msixMask (s : State) (x : Word) : State.nowQ { s with msixMask := x } = s.nowQ := (rfl)
@[simp] theorem State.nowPs_upd_msixMask (s : State) (x : Word) : State.nowPs { s with msixMask := x } = s.nowPs := (rfl)
@[simp] theorem State.pllLost_upd_msixMask (s : State) (x : Word) (n : Nat) : State.pllLost { s with msixMask := x } n = s.pllLost n := (rfl)
@[simp] theorem State.wf_upd_msixMask (s : State) (x : Word) : State.wf { s with msixMask := x } = s.wf := (rfl)

@[simp] theorem State.rd_upd_msixFn (s : State) (x : Bool) (b : Nat) : State.rd { s with msixFn := x } b = s.rd b := (rfl)
@[simp] theorem State.get_upd_msixFn (s : State) (x : Bool) (g : Fld) : State.get { s with msixFn := x } g = s.get g := (rfl)
@[simp] theorem State.bit_upd_msixFn (s : State) (x : Bool) (g : Fld) : State.bit { s with msixFn := x } g = s.bit g := (rfl)
@[simp] theorem State.released_upd_msixFn (s : State) (x : Bool) : State.released { s with msixFn := x } = s.released := (rfl)
@[simp] theorem State.stage_upd_msixFn (s : State) (x : Bool) : State.stage { s with msixFn := x } = s.stage := (rfl)
@[simp] theorem State.drives_upd_msixFn (s : State) (x : Bool) : State.drives { s with msixFn := x } = s.drives := (rfl)
@[simp] theorem State.cnt_upd_msixFn (s : State) (x : Bool) (b : Nat) : State.cnt { s with msixFn := x } b = s.cnt b := (rfl)
@[simp] theorem State.tab_upd_msixFn (s : State) (x : Bool) (j : Nat) : State.tab { s with msixFn := x } j = s.tab j := (rfl)
@[simp] theorem State.tw_upd_msixFn (s : State) (x : Bool) (n t k i o : Nat) : State.tw { s with msixFn := x } n t k i o = s.tw n t k i o := (rfl)
@[simp] theorem State.held_upd_msixFn (s : State) (x : Bool) (j : Initiator) (b : Nat) : State.held { s with msixFn := x } j b = s.held j b := (rfl)
@[simp] theorem State.pin_upd_msixFn (s : State) (x : Bool) (q : Nat) : State.pin { s with msixFn := x } q = s.pin q := (rfl)
@[simp] theorem State.mac_upd_msixFn (s : State) (x : Bool) (q : Nat) : State.mac { s with msixFn := x } q = s.mac q := (rfl)
@[simp] theorem State.can_upd_msixFn (s : State) (x : Bool) (q : Nat) : State.can { s with msixFn := x } q = s.can q := (rfl)
@[simp] theorem State.nowQ_upd_msixFn (s : State) (x : Bool) : State.nowQ { s with msixFn := x } = s.nowQ := (rfl)
@[simp] theorem State.nowPs_upd_msixFn (s : State) (x : Bool) : State.nowPs { s with msixFn := x } = s.nowPs := (rfl)
@[simp] theorem State.pllLost_upd_msixFn (s : State) (x : Bool) (n : Nat) : State.pllLost { s with msixFn := x } n = s.pllLost n := (rfl)
@[simp] theorem State.wf_upd_msixFn (s : State) (x : Bool) : State.wf { s with msixFn := x } = s.wf := (rfl)

end Sys2Proof.Machine
end

