-- ==== Sys2Proof/Laws/KeepFlt.lean ====
section
/-! SUPPORT. What the operations of Machine/Flt.lean keep. -/

set_option linter.unusedVariables false
set_option maxRecDepth 4000

namespace Sys2Proof.Machine

theorem State.cond_keep (s : State) (src : Nat) : Keep 0x1c0001 s (State.cond s src) := by
  unfold State.cond
  with_reducible (refine Keep.trans ?_ (State.direct_keep ..) rfl; refine keep_mk_fltCond ?_ rfl; exact Keep.refl _)

theorem State.uncond_keep (s : State) (src : Nat) : Keep 0x40000 s (State.uncond s src) := by
  unfold State.uncond
  with_reducible (refine keep_mk_fltCond ?_ rfl; exact Keep.refl _)

theorem State.pllLoss_keep (s : State) (n : Nat) : Keep 0x1c0001 s (State.pllLoss s n) := by
  unfold State.pllLoss
  with_reducible (refine Keep.trans ?_ (State.cond_keep ..) rfl; refine Keep.trans ?_ (State.setBit_keep ..) rfl; exact Keep.refl _)

theorem State.clockChange_keepF {m : Nat} {s0 s : State} {f : State → State} (h : Keep m s0 s) (hf : ∀ s, Keep m s (f s)) :
    Keep m s0 (s.clockChange f) := by
  unfold State.clockChange
  exact keep_ite h (h.trans' (hf _))

theorem State.refclkLoss_keep (s : State) : Keep 0x1c0001 s (State.refclkLoss s) := by
  unfold State.refclkLoss
  with_reducible
    refine Keep.trans ?_ (State.cond_keep ..) rfl; refine Keep.trans ?_ (State.pllLoss_keep ..) rfl
    refine Keep.trans ?_ (State.pllLoss_keep ..) rfl; refine Keep.trans ?_ (State.pllLoss_keep ..) rfl
    refine Keep.trans ?_ (State.setBit_keep ..) rfl; exact Keep.refl _

theorem State.pllRegained_keep (s : State) (n : Nat) : Keep 0x40001 s (State.pllRegained s n) := by
  unfold State.pllRegained
  with_reducible (refine Keep.trans ?_ (State.uncond_keep ..) rfl; refine Keep.trans ?_ (State.setBit_keep ..) rfl; exact Keep.refl _)

theorem State.refclkBack_keep (s : State) : Keep 0x40001 s (State.refclkBack s) := by
  unfold State.refclkBack
  with_reducible (refine Keep.trans ?_ (State.uncond_keep ..) rfl; refine Keep.trans ?_ (State.setBit_keep ..) rfl; exact Keep.refl _)

theorem State.logPop_keep (s : State) : Keep 0x20000 s s.logPop.2 :=
  ⟨fun w => State.wf_mk w id id id id id id id id id, fun h => (List.length_tail (l := s.fltLog) ▸ Nat.le_trans (Nat.sub_le _ _) h), rfl, fun p hp => by cases p <;> first | rfl | exact absurd hp (by decide)⟩

theorem State.firstClr_keep (s : State) : Keep 0x1 s (State.firstClr s) := by
  unfold State.firstClr
  with_reducible
    refine Keep.trans ?_ (State.wr_keep ..) rfl; refine Keep.trans ?_ (State.wr_keep ..) rfl
    refine Keep.trans ?_ (State.wr_keep ..) rfl; exact Keep.refl _

theorem State.directClear_keep (s : State) (w : Word) : Keep 0x180001 s (State.directClear s w) := by
  unfold State.directClear
  with_reducible
    dsimp only; refine keep_each ?_ ?_; refine Keep.trans ?_ (State.plainWrite_keep ..) rfl; exact Keep.refl _; intro _
    intro _; refine Keep.trans ?_ (State.refreshSource_keep ..) rfl; exact Keep.refl _

end Sys2Proof.Machine
end

