-- ==== Sys2Proof/Laws/KeepSys.lean ====
section
/-! SUPPORT. What the operations of Machine/Sys.lean keep. -/

set_option linter.unusedVariables false
set_option maxRecDepth 4000

namespace Sys2Proof.Machine

theorem State.cutFlash_keep (s : State) : Keep 0xa200000000 s (State.cutFlash s) := by
  unfold State.cutFlash
  with_reducible
    dsimp only; split; refine Keep.trans ?_ (State.flashOpen_keep ..) rfl; exact Keep.refl _
    refine Keep.trans ?_ (State.flashOpen_keep ..) rfl; exact Keep.refl _
    refine Keep.trans ?_ (State.copyCut_keep ..) rfl; exact Keep.refl _; refine Keep.trans ?_ (State.copyCut_keep ..) rfl
    exact Keep.refl _; refine Keep.trans ?_ (State.copyCut_keep ..) rfl; exact Keep.refl _
    refine Keep.trans ?_ (State.copyCut_keep ..) rfl; exact Keep.refl _; refine Keep.trans ?_ (State.copyCut_keep ..) rfl
    exact Keep.refl _; refine Keep.trans ?_ (State.copyCut_keep ..) rfl; exact Keep.refl _; exact Keep.refl _

theorem State.cutOtp_keep (s : State) : Keep 0x2008000001 s (State.cutOtp s) := by
  unfold State.cutOtp
  with_reducible
    split; exact Keep.refl _; dsimp only; refine keep_ite ?_ ?_; refine keep_mk_key ?_ rfl
    refine Keep.trans ?_ (State.draw_keep ..) rfl; exact Keep.refl _; split; refine keep_mk_key ?_ rfl
    refine Keep.trans ?_ (State.draw_keep ..) rfl; exact Keep.refl _; refine Keep.trans ?_ (State.set_keep ..) rfl
    refine keep_mk_key ?_ rfl; refine Keep.trans ?_ (State.draw_keep ..) rfl; exact Keep.refl _
    refine Keep.trans ?_ (State.set_keep ..) rfl; refine keep_mk_key ?_ rfl; refine Keep.trans ?_ (State.draw_keep ..) rfl
    exact Keep.refl _; refine Keep.trans ?_ (State.set_keep ..) rfl; refine keep_mk_key ?_ rfl
    refine Keep.trans ?_ (State.draw_keep ..) rfl; exact Keep.refl _

theorem State.resetAlarm_keep (s : State) (was : Bool) : Keep 0x4000000001 s (State.resetAlarm s was) := by
  unfold State.resetAlarm
  with_reducible (refine Keep.trans ?_ (State.fltLevels_keep ..) rfl; refine Keep.trans ?_ (State.setBit_keep ..) rfl; exact Keep.refl _)

theorem State.relatch_keep (s : State) : Keep 0x180001 s (State.relatch s) := by
  unfold State.relatch
  with_reducible
    refine keep_each ?_ ?_; exact Keep.refl _; intro _; intro _; refine keep_ite ?_ ?_
    refine Keep.trans ?_ (State.direct_keep ..) rfl; exact Keep.refl _; exact Keep.refl _

theorem State.rawPins_wf (s : State) (h : Sparse.wf (fun _ => {}) s.pins = true) : Sparse.wf (fun _ => {}) s.rawPins = true := by
  have e : s.rawPins = s.pins.filterMap fun x => if x.2.raw then some (x.1, { raw := true }) else none := by
    unfold State.rawPins
    induction s.pins with
    | nil => rfl
    | cons x l ih =>
      by_cases hx : x.2.raw = true <;> simp [hx, ih]
  rw [e]
  refine Sparse.wfFrom_filterMap ?_ h
  intro x y hy
  split at hy
  · cases hy; exact ⟨rfl, fun h => absurd (congrArg Pin.raw h) (by simp)⟩
  · cases hy

theorem State.blocksCleared_keep (s : State) (l : List Nat) : Keep 0xdfffff87f s (s.blocksCleared l) := by
  refine ⟨fun w => State.wf_mk w (Sparse.wf_filter _) (Sparse.wf_filter _) (Sparse.wf_filter _) (Sparse.wf_filter _) (fun h => ?_)
    (fun h => ?_) (fun h => ?_) id id, fun h => ?_, rfl, fun p hp => by cases p <;> first | rfl | exact absurd hp (by decide)⟩
  · show Sparse.wf _ (if (l.contains 2) = true then s.rawPins else s.pins) = true
    split
    · exact State.rawPins_wf s h
    · exact h
  · show Sparse.wf _ (if (l.contains 3) = true then [] else s.macs) = true
    split
    · rfl
    · exact h
  · show Sparse.wf _ (if (l.contains 9) = true then [] else s.cans) = true
    split
    · rfl
    · exact h
  · show (if (l.contains 19) = true then [] else s.fltLog).length ≤ 32
    split
    · exact Nat.zero_le _
    · exact h

theorem State.clearedFrom_keep (t s : State) (flt : Bool) : Keep 0x4000180001 t (State.clearedFrom t s flt) := by
  unfold State.clearedFrom
  with_reducible
    dsimp only; refine keep_each ?_ ?_; refine keep_ite ?_ ?_; refine Keep.trans ?_ (State.relatch_keep ..) rfl
    refine Keep.trans ?_ (State.resetAlarm_keep ..) rfl; refine keep_each ?_ ?_; exact Keep.refl _; intro _; intro _
    refine Keep.trans ?_ (State.set_keep ..) rfl; exact Keep.refl _; refine keep_each ?_ ?_; exact Keep.refl _; intro _
    intro _; refine Keep.trans ?_ (State.set_keep ..) rfl; exact Keep.refl _; intro _; intro _
    refine Keep.trans ?_ (State.refreshSource_keep ..) rfl; exact Keep.refl _

theorem State.resetBlocks_keep (s : State) (l : List Nat) : Keep 0x4dfffff87f s (State.resetBlocks s l) := by
  unfold State.resetBlocks
  with_reducible
    refine Keep.trans ?_ (State.clearedFrom_keep ..) rfl; refine Keep.trans ?_ (State.blocksCleared_keep ..) rfl
    exact Keep.refl _

theorem State.blocksReset_keep (s : State) : Keep 0x4dfffff9ff s (State.blocksReset s) := by
  unfold State.blocksReset
  with_reducible (refine Keep.trans ?_ (State.resetBlocks_keep ..) rfl; refine keep_mk_frames_copies ?_ rfl; exact Keep.refl _)

theorem State.unload_keep (s : State) : Keep 0x5dfffff87f s (State.unload s) := by
  unfold State.unload
  with_reducible
    dsimp only; refine Keep.trans ?_ (State.refreshSource_keep ..) rfl; refine keep_each ?_ ?_; refine keep_each ?_ ?_
    refine Keep.trans ?_ (State.resetBlocks_keep ..) rfl; refine Keep.trans ?_ (State.clearMem_keep ..) rfl
    exact Keep.refl _; intro _; intro _; refine Keep.trans ?_ (State.wr_keep ..) rfl; exact Keep.refl _; intro _; intro _
    refine Keep.trans ?_ (State.setBit_keep ..) rfl; exact Keep.refl _

theorem State.coldKept_keep (s : State) : Keep 0x9fffffffff s s.coldKept :=
  ⟨fun w => State.wf_mk w (fun _ => rfl) (fun _ => rfl) (fun _ => rfl) (fun _ => rfl) (State.rawPins_wf s) (fun _ => rfl) (fun _ => rfl)
    (fun _ => rfl) id, fun _ => Nat.zero_le _, rfl, fun p hp => by cases p <;> first | rfl | exact absurd hp (by decide)⟩

theorem State.coldStart_keep (t : State) (pairId : Bool) (mode : Nat) (alarm sleep xspi : Bool) : Keep 0x4000000001 t (State.coldStart t pairId mode alarm sleep xspi) := by
  unfold State.coldStart
  with_reducible
    dsimp only; refine keep_ite ?_ ?_; refine Keep.trans ?_ (State.emit_keep ..) rfl; refine keep_ite ?_ ?_
    refine Keep.trans ?_ (State.emit_keep ..) rfl; refine Keep.trans ?_ (State.resetAlarm_keep ..) rfl
    refine Keep.trans ?_ (State.cellsRead_keep ..) rfl; refine Keep.trans ?_ (State.set_keep ..) rfl
    refine Keep.trans ?_ (State.set_keep ..) rfl; refine Keep.trans ?_ (State.setBit_keep ..) rfl; exact Keep.refl _
    refine Keep.trans ?_ (State.resetAlarm_keep ..) rfl; refine Keep.trans ?_ (State.cellsRead_keep ..) rfl
    refine Keep.trans ?_ (State.set_keep ..) rfl; refine Keep.trans ?_ (State.set_keep ..) rfl
    refine Keep.trans ?_ (State.setBit_keep ..) rfl; exact Keep.refl _; refine keep_ite ?_ ?_
    refine Keep.trans ?_ (State.emit_keep ..) rfl; refine Keep.trans ?_ (State.resetAlarm_keep ..) rfl
    refine Keep.trans ?_ (State.cellsRead_keep ..) rfl; refine Keep.trans ?_ (State.set_keep ..) rfl
    refine Keep.trans ?_ (State.set_keep ..) rfl; refine Keep.trans ?_ (State.setBit_keep ..) rfl; exact Keep.refl _
    refine Keep.trans ?_ (State.resetAlarm_keep ..) rfl; refine Keep.trans ?_ (State.cellsRead_keep ..) rfl
    refine Keep.trans ?_ (State.set_keep ..) rfl; refine Keep.trans ?_ (State.set_keep ..) rfl
    refine Keep.trans ?_ (State.setBit_keep ..) rfl; exact Keep.refl _

theorem State.coldReset_keep (s : State) (pairId : Bool) (mode : Nat) : Keep 0xffffffffff s (State.coldReset s pairId mode) := by
  unfold State.coldReset
  with_reducible
    dsimp only; refine Keep.trans ?_ (State.coldStart_keep ..) rfl; refine Keep.trans ?_ (State.coldKept_keep ..) rfl
    refine Keep.trans ?_ (State.cutOtp_keep ..) rfl; refine Keep.trans ?_ (State.cutFlash_keep ..) rfl; exact Keep.refl _

theorem State.warmStart_keep (t : State) (line : Bool) : Keep 0x4204000001 t (State.warmStart t line) := by
  unfold State.warmStart
  with_reducible
    dsimp only; refine Keep.trans ?_ (State.fltLevels_keep ..) rfl; refine Keep.trans ?_ (State.set_keep ..) rfl
    refine Keep.trans ?_ (State.setBit_keep ..) rfl; refine keep_mk_twp_boot ?_ rfl rfl; exact Keep.refl _

theorem State.warmReset_keep (s : State) : Keep 0xeffffff9ff s (State.warmReset s) := by
  unfold State.warmReset
  with_reducible
    dsimp only; refine Keep.trans ?_ (State.warmStart_keep ..) rfl; refine Keep.trans ?_ (State.blocksReset_keep ..) rfl
    refine keep_ite ?_ ?_; refine Keep.trans ?_ (State.set_keep ..) rfl; refine Keep.trans ?_ (State.cutOtp_keep ..) rfl
    refine Keep.trans ?_ (State.cutFlash_keep ..) rfl; exact Keep.refl _; refine Keep.trans ?_ (State.cutOtp_keep ..) rfl
    refine Keep.trans ?_ (State.cutFlash_keep ..) rfl; exact Keep.refl _

theorem State.sysAct_keepF {m : Nat} {s0 s : State} {ini : Initiator} {load ok : Bool} {f : State → State} (h : Keep m s0 s) (hf : ∀ s, Keep m s (f s))
    (hm : Incl 0x180001 m) : Keep m s0 (s.sysAct ini load ok f) := by
  unfold State.sysAct
  dsimp only
  split
  · exact h.trans (State.violation_keep s) (Incl.trans rfl hm)
  · split
    · exact h.trans' (hf s)
    · exact h

theorem State.sysCmd_keepF {m : Nat} {s0 s : State} {ini : Initiator} {load ok : Bool} {f : State → State} (h : Keep m s0 s) (hf : ∀ s, Keep m s (f s))
    (hm : Incl 0x4000180001 m) : Keep m s0 (s.sysCmd ini load ok f) :=
  State.writeAt_keepF h (fun _ => State.sysAct_keepF (Keep.refl _) hf (Incl.trans rfl hm)) (Incl.trans rfl hm)

theorem State.fuseDone_keep (s : State) : Keep 0x5000000001 s (State.fuseDone s) := by
  unfold State.fuseDone
  with_reducible
    refine keep_ite ?_ ?_; exact Keep.refl _; dsimp only; refine Keep.trans ?_ (State.emit_keep ..) rfl
    refine Keep.trans ?_ (State.set_keep ..) rfl; refine Keep.trans ?_ (State.clearMem_keep ..) rfl
    refine Keep.trans ?_ (State.cellsRead_keep ..) rfl; refine keep_each ?_ ?_; exact Keep.refl _; intro _; intro _
    refine Keep.trans ?_ (State.setBit_keep ..) rfl; exact Keep.refl _

theorem State.failStage_keep (s : State) : Keep 0x4004180001 s (State.failStage s) := by
  unfold State.failStage
  with_reducible
    dsimp only; refine Keep.trans ?_ (State.fltLevels_keep ..) rfl; refine Keep.trans ?_ (State.raise_keep ..) rfl
    refine Keep.trans ?_ (State.set_keep ..) rfl; refine keep_mk_twp ?_ rfl; exact Keep.refl _

theorem State.imageBegin_keep (s : State) (src : ImgSrc) : Keep 0x200000001 s (State.imageBegin s src) := by
  unfold State.imageBegin
  with_reducible
    dsimp only; refine Keep.trans ?_ (State.set_keep ..) rfl; refine Keep.trans ?_ (State.wr_keep ..) rfl
    refine keep_each ?_ ?_; refine keep_mk_boot ?_ rfl rfl; exact Keep.refl _; intro _; intro _
    refine Keep.trans ?_ (State.setBit_keep ..) rfl; exact Keep.refl _

theorem State.revertTrial_keep (s : State) : Keep 0x8200180003 s (State.revertTrial s) := by
  unfold State.revertTrial
  with_reducible
    dsimp only; refine Keep.trans ?_ (State.raise_keep ..) rfl; refine Keep.trans ?_ (State.bump_keep ..) rfl
    refine keep_mk_boot ?_ rfl rfl; refine Keep.trans ?_ (State.loaderRecord_keep ..) rfl; exact Keep.refl _

theorem State.imageFailed_keep (s : State) (z0 : ImgSrc) : Keep 0xc204180003 s (State.imageFailed s z0) := by
  unfold State.imageFailed
  with_reducible
    split; refine Keep.trans ?_ (State.failStage_keep ..) rfl; exact Keep.refl _; dsimp only; refine keep_ite ?_ ?_
    refine Keep.trans ?_ (State.failStage_keep ..) rfl; refine keep_ite ?_ ?_
    refine Keep.trans ?_ (State.revertTrial_keep ..) rfl; exact Keep.refl _; exact Keep.refl _
    refine Keep.trans ?_ (State.imageBegin_keep ..) rfl; refine Keep.trans ?_ (State.raise_keep ..) rfl
    refine keep_mk_boot ?_ rfl rfl; refine keep_ite ?_ ?_; refine Keep.trans ?_ (State.revertTrial_keep ..) rfl
    exact Keep.refl _; exact Keep.refl _

theorem State.bootFail_keep (s : State) (cause off : Nat) : Keep 0xdffffff87f s (State.bootFail s cause off) := by
  unfold State.bootFail
  with_reducible
    dsimp only; refine Keep.trans ?_ (State.imageFailed_keep ..) rfl; refine Keep.trans ?_ (State.unload_keep ..) rfl
    refine Keep.trans ?_ (State.wr_keep ..) rfl; refine keep_mk_boot ?_ rfl rfl; exact Keep.refl _

theorem State.trialBoot_keep (s : State) : Keep 0x8200180003 s (State.trialBoot s) := by
  unfold State.trialBoot
  with_reducible
    dsimp only; refine keep_ite ?_ ?_; refine keep_mk_boot ?_ rfl rfl; exact Keep.refl _; refine keep_ite ?_ ?_
    refine Keep.trans ?_ (State.revertTrial_keep ..) rfl; exact Keep.refl _; refine keep_mk_boot ?_ rfl rfl
    refine Keep.trans ?_ (State.loaderRecord_keep ..) rfl; exact Keep.refl _

theorem State.flashDone_keep (s : State) (octal : Bool) (density : Nat) : Keep 0xc204180003 s (State.flashDone s octal density) := by
  unfold State.flashDone
  with_reducible
    refine keep_ite ?_ ?_; exact Keep.refl _; dsimp only; refine keep_ite ?_ ?_
    refine Keep.trans ?_ (State.set_keep ..) rfl; refine Keep.trans ?_ (State.set_keep ..) rfl
    refine Keep.trans ?_ (State.set_keep ..) rfl; refine keep_ite ?_ ?_
    refine Keep.trans ?_ (State.takeRecord_keep ..) rfl; refine keep_mk_boot ?_ rfl rfl; exact Keep.refl _
    refine keep_mk_boot ?_ rfl rfl; exact Keep.refl _; refine keep_ite ?_ ?_; refine Keep.trans ?_ (State.set_keep ..) rfl
    refine keep_ite ?_ ?_; refine Keep.trans ?_ (State.takeRecord_keep ..) rfl; refine keep_mk_boot ?_ rfl rfl
    exact Keep.refl _; refine keep_mk_boot ?_ rfl rfl; exact Keep.refl _; refine keep_ite ?_ ?_
    refine Keep.trans ?_ (State.failStage_keep ..) rfl; refine Keep.trans ?_ (State.wr_keep ..) rfl
    refine Keep.trans ?_ (State.wr_keep ..) rfl; refine keep_ite ?_ ?_
    refine Keep.trans ?_ (State.takeRecord_keep ..) rfl; refine keep_mk_boot ?_ rfl rfl; exact Keep.refl _
    refine keep_mk_boot ?_ rfl rfl; exact Keep.refl _; refine Keep.trans ?_ (State.imageBegin_keep ..) rfl
    refine Keep.trans ?_ (State.trialBoot_keep ..) rfl; refine keep_ite ?_ ?_
    refine Keep.trans ?_ (State.takeRecord_keep ..) rfl; refine keep_mk_boot ?_ rfl rfl; exact Keep.refl _
    refine keep_mk_boot ?_ rfl rfl; exact Keep.refl _

theorem State.showImage_keep (s : State) (src : ImgSrc) : Keep 0x1 s (State.showImage s src) := by
  unfold State.showImage
  with_reducible
    dsimp only; split; refine Keep.trans ?_ (State.set_keep ..) rfl; refine Keep.trans ?_ (State.set_keep ..) rfl
    refine Keep.trans ?_ (State.wr_keep ..) rfl; refine keep_each ?_ ?_; exact Keep.refl _; intro _; intro _
    refine Keep.trans ?_ (State.wr_keep ..) rfl; exact Keep.refl _; refine Keep.trans ?_ (State.set_keep ..) rfl
    refine Keep.trans ?_ (State.wr_keep ..) rfl; refine keep_each ?_ ?_; exact Keep.refl _; intro _; intro _
    refine Keep.trans ?_ (State.wr_keep ..) rfl; exact Keep.refl _

theorem State.authEnd_keep (s : State) (src : ImgSrc) (z0 : Option (Nat × Nat)) : Keep 0xdffffff87f s (State.authEnd s src z0) := by
  unfold State.authEnd
  with_reducible
    split; refine Keep.trans ?_ (State.bootFail_keep ..) rfl; exact Keep.refl _; dsimp only
    refine Keep.trans ?_ (State.set_keep ..) rfl; refine Keep.trans ?_ (State.setBit_keep ..) rfl
    refine Keep.trans ?_ (State.setBit_keep ..) rfl; refine Keep.trans ?_ (State.set_keep ..) rfl
    refine Keep.trans ?_ (State.showImage_keep ..) rfl; exact Keep.refl _

theorem State.authDone_keep (s : State) : Keep 0xdffffff87f s (State.authDone s) := by
  unfold State.authDone
  with_reducible (refine keep_ite ?_ ?_; exact Keep.refl _; refine Keep.trans ?_ (State.authEnd_keep ..) rfl; exact Keep.refl _)

theorem State.slcLoad_keep (s : State) (cmd : Word) : Keep 0x9 s (State.slcLoad s cmd) := by
  unfold State.slcLoad
  with_reducible
    dsimp only; refine keep_ite ?_ ?_; refine Keep.trans ?_ (State.slcResult_keep ..) rfl; exact Keep.refl _
    refine keep_ite ?_ ?_; refine Keep.trans ?_ (State.slcResult_keep ..) rfl; exact Keep.refl _; refine keep_ite ?_ ?_
    refine Keep.trans ?_ (State.slcResult_keep ..) rfl; exact Keep.refl _; refine keep_ite ?_ ?_; refine keep_ite ?_ ?_
    refine Keep.trans ?_ (State.slcResult_keep ..) rfl; refine Keep.trans ?_ (State.setEntry_keep ..) rfl
    exact Keep.refl _; refine Keep.trans ?_ (State.slcResult_keep ..) rfl; exact Keep.refl _; refine keep_ite ?_ ?_
    refine keep_ite ?_ ?_; refine Keep.trans ?_ (State.slcResult_keep ..) rfl
    refine Keep.trans ?_ (State.setEntry_keep ..) rfl; exact Keep.refl _
    refine Keep.trans ?_ (State.slcResult_keep ..) rfl; exact Keep.refl _
    refine Keep.trans ?_ (State.slcResult_keep ..) rfl; refine Keep.trans ?_ (State.setEntry_keep ..) rfl
    exact Keep.refl _

theorem State.loadGroup_keep (s : State) (base : Nat) (g : List Word × Word) : Keep 0x5018200b s (State.loadGroup s base g).2 := by
  unfold State.loadGroup
  with_reducible
    split; dsimp only; refine Keep.trans ?_ (State.slcLoad_keep ..) rfl; refine keep_each ?_ ?_; exact Keep.refl _; intro _
    intro _; refine Keep.trans ?_ (State.wr_keep ..) rfl; exact Keep.refl _; dsimp only
    refine Keep.trans ?_ (State.strRun_keep ..) rfl; refine keep_each ?_ ?_; exact Keep.refl _; intro _; intro _
    refine Keep.trans ?_ (State.wr_keep ..) rfl; exact Keep.refl _; dsimp only; refine Keep.trans ?_ (State.crsRun_keep ..) rfl
    refine keep_each ?_ ?_; exact Keep.refl _; intro _; intro _; refine Keep.trans ?_ (State.wr_keep ..) rfl; exact Keep.refl _
    dsimp only; refine Keep.trans ?_ (State.lkpRun_keep ..) rfl; refine keep_each ?_ ?_; exact Keep.refl _; intro _; intro _
    refine Keep.trans ?_ (State.wr_keep ..) rfl; exact Keep.refl _; dsimp only; refine Keep.trans ?_ (State.gweRun_keep ..) rfl
    refine keep_each ?_ ?_; exact Keep.refl _; intro _; intro _; refine Keep.trans ?_ (State.wr_keep ..) rfl; exact Keep.refl _
    dsimp only; refine Keep.trans ?_ (State.cphRun_keep ..) rfl; refine keep_each ?_ ?_; exact Keep.refl _; intro _; intro _
    refine Keep.trans ?_ (State.wr_keep ..) rfl; exact Keep.refl _

theorem State.loadGroups_keep (s : State) (base : Nat) (l : List (List Word × Word)) : Keep 0x5018200b s (State.loadGroups s base l).2 := by
  induction l generalizing s with
  | nil => exact Keep.refl _
  | cons x l ih =>
    unfold State.loadGroups
    have h := State.loadGroup_keep s base x
    cases e : s.loadGroup base x with
    | mk b t =>
      rw [e] at h
      cases b with
      | false => exact h
      | true => exact h.trans' (ih t)

theorem State.loadRam_keep (s : State) (src : ImgSrc) (r : ImgRec) : Keep 0x1000000000 s (State.loadRam s src r) := by
  unfold State.loadRam
  with_reducible (refine Keep.trans ?_ (State.memStore_keep ..) rfl; exact Keep.refl _)

theorem State.recordEffect_keep (s : State) (src : ImgSrc) (r : ImgRec) : Keep 0x73f699fbfb s (State.recordEffect s src r).2 := by
  unfold State.recordEffect
  with_reducible
    dsimp only; split; refine keep_pair ?_; refine keep_each ?_ ?_; refine keep_mk_boot ?_ rfl rfl; exact Keep.refl _
    intro _; intro _; refine Keep.trans ?_ (State.regStore_keep ..) rfl; exact Keep.refl _
    refine Keep.trans ?_ (State.loadGroups_keep ..) rfl; refine keep_mk_boot ?_ rfl rfl; exact Keep.refl _
    refine keep_pair ?_; refine Keep.trans ?_ (State.loadRam_keep ..) rfl; refine keep_mk_boot ?_ rfl rfl
    exact Keep.refl _; refine keep_pair ?_; refine Keep.trans ?_ (State.loadRam_keep ..) rfl
    refine keep_mk_boot ?_ rfl rfl; exact Keep.refl _; refine keep_pair ?_
    refine Keep.trans ?_ (State.setBit_keep ..) rfl; refine keep_each ?_ ?_; refine keep_mk_boot ?_ rfl rfl
    exact Keep.refl _; intro _; intro _; refine Keep.trans ?_ (State.wr_keep ..) rfl; exact Keep.refl _
    refine keep_pair ?_; refine keep_mk_boot ?_ rfl rfl; exact Keep.refl _

theorem State.recordPassed_keep (s : State) (r : ImgRec) : Keep 0x200000001 s (State.recordPassed s r) := by
  unfold State.recordPassed
  with_reducible
    dsimp only; refine keep_ite ?_ ?_; refine Keep.trans ?_ (State.set_keep ..) rfl; refine keep_mk_boot ?_ rfl rfl
    exact Keep.refl _; refine keep_mk_boot ?_ rfl rfl; exact Keep.refl _

theorem State.recordApply_keep (s : State) : Keep 0xfffffffbff s (State.recordApply s) := by
  unfold State.recordApply
  with_reducible
    refine keep_ite ?_ ?_; exact Keep.refl _; dsimp only; refine keep_ite ?_ ?_
    refine Keep.trans ?_ (State.bootFail_keep ..) rfl; exact Keep.refl _; refine keep_ite ?_ ?_
    refine Keep.trans ?_ (State.bootFail_keep ..) rfl; refine Keep.trans ?_ (State.recordEffect_keep ..) rfl
    exact Keep.refl _; refine Keep.trans ?_ (State.recordPassed_keep ..) rfl
    refine Keep.trans ?_ (State.recordEffect_keep ..) rfl; exact Keep.refl _

theorem State.romEnter_keep (s : State) : Keep 0x80000000 s (State.romEnter s) := by
  unfold State.romEnter
  with_reducible
    refine keep_each ?_ ?_; exact Keep.refl _; intro _; intro _; refine keep_ite ?_ ?_
    refine Keep.trans ?_ (State.toEntry_keep ..) rfl; exact Keep.refl _; exact Keep.refl _

theorem State.checkDone_keep (s : State) : Keep 0xdffffff87f s (State.checkDone s) := by
  unfold State.checkDone
  with_reducible
    refine keep_ite ?_ ?_; exact Keep.refl _; dsimp only; refine keep_ite ?_ ?_
    refine Keep.trans ?_ (State.bootFail_keep ..) rfl; exact Keep.refl _; refine keep_ite ?_ ?_
    refine Keep.trans ?_ (State.bootFail_keep ..) rfl; exact Keep.refl _; refine Keep.trans ?_ (State.set_keep ..) rfl
    refine Keep.trans ?_ (State.romEnter_keep ..) rfl; refine Keep.trans ?_ (State.startPair_keep ..) rfl
    refine Keep.trans ?_ (State.startPair_keep ..) rfl; refine keep_mk_boot ?_ rfl rfl; exact Keep.refl _

theorem State.payloadDone_keep (s : State) : Keep 0x200180001 s (State.payloadDone s) := by
  unfold State.payloadDone
  with_reducible
    refine keep_ite ?_ ?_; exact Keep.refl _; dsimp only; refine keep_ite ?_ ?_
    refine Keep.trans ?_ (State.raise_keep ..) rfl; refine Keep.trans ?_ (State.setBit_keep ..) rfl
    refine keep_mk_boot ?_ rfl rfl; exact Keep.refl _; refine Keep.trans ?_ (State.raise_keep ..) rfl
    refine keep_mk_boot ?_ rfl rfl; exact Keep.refl _

theorem State.imageRead_keep (s : State) (image : Option Bytes) : Keep 0x4000000000 s (State.imageRead s image) := by
  unfold State.imageRead
  with_reducible (refine Keep.trans ?_ (State.emit_keep ..) rfl; exact Keep.refl _)

theorem State.loadHost_keep (s : State) (image : Option Bytes) : Keep 0x4204180001 s (State.loadHost s image) := by
  unfold State.loadHost
  with_reducible
    dsimp only; split; refine Keep.trans ?_ (State.fltLevels_keep ..) rfl
    refine Keep.trans ?_ (State.imageBegin_keep ..) rfl; refine keep_mk_boot ?_ rfl rfl
    refine Keep.trans ?_ (State.imageRead_keep ..) rfl; exact Keep.refl _
    refine Keep.trans ?_ (State.failStage_keep ..) rfl; refine Keep.trans ?_ (State.wr_keep ..) rfl
    refine Keep.trans ?_ (State.imageRead_keep ..) rfl; exact Keep.refl _

theorem State.metersFull_keep (s : State) : Keep 0x8 s (State.metersFull s) := by
  unfold State.metersFull
  with_reducible
    dsimp only; refine keep_each ?_ ?_; exact Keep.refl _; intro _; intro _
    refine Keep.trans ?_ (State.setTe_keep ..) rfl; refine Keep.trans ?_ (State.setTc_keep ..) rfl; exact Keep.refl _

theorem State.arbRepeat_keep (s : State) : Keep 0x408000001 s (State.arbRepeat s) := by
  unfold State.arbRepeat
  with_reducible
    dsimp only; refine keep_ite ?_ ?_; exact Keep.refl _; refine keep_ite ?_ ?_; refine keep_mk_upd ?_ rfl
    exact Keep.refl _; refine Keep.trans ?_ (State.otpStart_keep ..) rfl; exact Keep.refl _

theorem State.release_keep (s : State) : Keep 0x244e19012b s (State.release s) := by
  unfold State.release
  with_reducible
    dsimp only; refine Keep.trans ?_ (State.arbRepeat_keep ..) rfl; refine keep_each ?_ ?_
    refine Keep.trans ?_ (State.metersFull_keep ..) rfl; refine keep_ite ?_ ?_
    refine Keep.trans ?_ (State.setClaim_keep ..) rfl; refine keep_mk_twp ?_ rfl
    refine Keep.trans ?_ (State.raise_keep ..) rfl; refine Keep.trans ?_ (State.setBit_keep ..) rfl
    refine Keep.trans ?_ (State.set_keep ..) rfl; exact Keep.refl _; refine keep_mk_twp ?_ rfl
    refine Keep.trans ?_ (State.raise_keep ..) rfl; refine Keep.trans ?_ (State.setBit_keep ..) rfl
    refine Keep.trans ?_ (State.set_keep ..) rfl; exact Keep.refl _; intro _; intro _
    refine Keep.trans ?_ (State.meetList_keep ..) rfl; refine Keep.trans ?_ (State.operTake_keep ..) rfl
    exact Keep.refl _

theorem State.waitExpiry_keep (s : State) : Keep 0x244e19012b s (State.waitExpiry s) := by
  unfold State.waitExpiry
  with_reducible (dsimp only; refine keep_ite ?_ ?_; refine Keep.trans ?_ (State.release_keep ..) rfl; exact Keep.refl _; exact Keep.refl _)

theorem State.reload_keep (s : State) (ini : Initiator) (sec : Bool) : Keep 0x4200180001 s (State.reload s ini sec) := by
  unfold State.reload
  with_reducible
    refine State.sysCmd_keepF ?_ ?_ rfl; exact Keep.refl _; intro _; refine Keep.trans ?_ (State.reloadStart_keep ..) rfl
    exact Keep.refl _

theorem State.loadRams_keep (s : State) (src : ImgSrc) (rs : List ImgRec) : Keep 0x1000000000 s (State.loadRams s src rs) := by
  unfold State.loadRams
  with_reducible
    refine keep_each ?_ ?_; exact Keep.refl _; intro _; intro _; refine Keep.trans ?_ (State.loadRam_keep ..) rfl
    exact Keep.refl _

theorem State.reloadDone_keep (s : State) (image : Option Bytes) : Keep 0x5280180001 s (State.reloadDone s image) := by
  unfold State.reloadDone
  with_reducible
    split; exact Keep.refl _; dsimp only; refine keep_ite ?_ ?_; refine Keep.trans ?_ (State.raise_keep ..) rfl
    refine Keep.trans ?_ (State.toEntry_keep ..) rfl; refine keep_ite ?_ ?_
    refine Keep.trans ?_ (State.loadRams_keep ..) rfl; refine keep_ite ?_ ?_; refine keep_mk_boot ?_ rfl rfl
    refine Keep.trans ?_ (State.imageRead_keep ..) rfl; refine keep_mk_boot ?_ rfl rfl; exact Keep.refl _
    refine keep_mk_boot ?_ rfl rfl; exact Keep.refl _; refine keep_ite ?_ ?_; refine keep_mk_boot ?_ rfl rfl
    refine Keep.trans ?_ (State.imageRead_keep ..) rfl; refine keep_mk_boot ?_ rfl rfl; exact Keep.refl _
    refine keep_mk_boot ?_ rfl rfl; exact Keep.refl _; refine Keep.trans ?_ (State.raise_keep ..) rfl
    refine Keep.trans ?_ (State.set_keep ..) rfl; refine keep_ite ?_ ?_; refine Keep.trans ?_ (State.loadRams_keep ..) rfl
    refine keep_ite ?_ ?_; refine keep_mk_boot ?_ rfl rfl; refine Keep.trans ?_ (State.imageRead_keep ..) rfl
    refine keep_mk_boot ?_ rfl rfl; exact Keep.refl _; refine keep_mk_boot ?_ rfl rfl; exact Keep.refl _
    refine keep_ite ?_ ?_; refine keep_mk_boot ?_ rfl rfl; refine Keep.trans ?_ (State.imageRead_keep ..) rfl
    refine keep_mk_boot ?_ rfl rfl; exact Keep.refl _; refine keep_mk_boot ?_ rfl rfl; exact Keep.refl _

end Sys2Proof.Machine
end

