-- ==== Sys2Proof/Laws/KeepUpd.lean ====
section
/-! SUPPORT. What the operations of Machine/Upd.lean keep. -/

set_option linter.unusedVariables false
set_option maxRecDepth 4000

namespace Sys2Proof.Machine

theorem State.updRes_keep (s : State) (n v : Nat) : Keep 0x400000000 s (State.updRes s n v) := by
  unfold State.updRes
  with_reducible (refine keep_mk_upd ?_ rfl; exact Keep.refl _)

theorem State.updAct_keepF {m : Nat} {s0 s : State} {ini : Initiator} {f : Nat → State → State} (h : Keep m s0 s) (hf : ∀ n s, Keep m s (f n s))
    (hm : Incl 0x400000000 m) : Keep m s0 (s.updAct ini f) := by
  unfold State.updAct
  split
  · exact h
  · split
    · exact h.trans (State.updRes_keep ..) (Incl.trans rfl hm)
    · exact h.trans' (hf _ s)

theorem State.updCmd_keepF {m : Nat} {s0 s : State} {ini : Initiator} {f : Nat → State → State} (h : Keep m s0 s) (hf : ∀ n s, Keep m s (f n s))
    (hm : Incl 0x4400180001 m) : Keep m s0 (s.updCmd ini f) :=
  State.writeAt_keepF h (fun _ => State.updAct_keepF (Keep.refl _) hf (Incl.trans rfl hm)) (Incl.trans rfl hm)

theorem State.accepted_keep (s : State) (n : Nat) : Keep 0x400000000 s (State.accepted s n) := by
  unfold State.accepted
  with_reducible (refine keep_ite ?_ ?_; refine keep_mk_upd ?_ rfl; exact Keep.refl _; exact Keep.refl _)

theorem State.owned_keepF {m : Nat} {s0 s : State} {n : Nat} {session : BitVec 16} {f : State → State} (h : Keep m s0 s) (hf : ∀ s, Keep m s (f s))
    (hm : Incl 0x400000000 m) : Keep m s0 (s.owned n session f) := by
  unfold State.owned
  split
  · exact (keep_mk_upd h (Incl.trans rfl hm)).trans' (hf _)
  · exact h.trans (State.updRes_keep ..) (Incl.trans rfl hm)

theorem State.sessionEnd_keep (s : State) : Keep 0x400000000 s (State.sessionEnd s) := by
  unfold State.sessionEnd
  with_reducible (refine keep_mk_upd ?_ rfl; exact Keep.refl _)

theorem State.updEnd_keep (s : State) (n v : Nat) : Keep 0x400000000 s (State.updEnd s n v) := by
  unfold State.updEnd
  with_reducible (refine Keep.trans ?_ (State.updRes_keep ..) rfl; refine keep_mk_upd ?_ rfl; exact Keep.refl _)

theorem State.updFlash_keep (s : State) (n : Nat) : Keep 0x400180001 s (State.updFlash s n) := by
  unfold State.updFlash
  with_reducible (refine Keep.trans ?_ (State.raise_keep ..) rfl; refine Keep.trans ?_ (State.updEnd_keep ..) rfl; exact Keep.refl _)

theorem State.updRun_keep (s : State) (r : UpdRun) : Keep 0x400000000 s (State.updRun s r) := by
  unfold State.updRun
  with_reducible (refine keep_mk_upd ?_ rfl; exact Keep.refl _)

theorem State.updRecord_keep (s : State) (r : UpdRun) (rec : BankRec) : Keep 0x400000000 s (State.updRecord s r rec) := by
  unfold State.updRecord
  with_reducible (refine keep_mk_upd ?_ rfl; exact Keep.refl _)

theorem State.updOpen_keep (s : State) (n : Nat) : Keep 0x400000002 s (State.updOpen s n) := by
  unfold State.updOpen
  with_reducible
    refine keep_ite ?_ ?_; refine Keep.trans ?_ (State.bump_keep ..) rfl; refine Keep.trans ?_ (State.updRes_keep ..) rfl
    exact Keep.refl _; dsimp only; refine Keep.trans ?_ (State.updRes_keep ..) rfl; refine keep_mk_upd ?_ rfl
    exact Keep.refl _

theorem State.updClose_keep (s : State) (n : Nat) (session : BitVec 16) : Keep 0x400000000 s (State.updClose s n session) := by
  unfold State.updClose
  with_reducible
    refine State.owned_keepF ?_ ?_ rfl; exact Keep.refl _; intro _; refine Keep.trans ?_ (State.updRes_keep ..) rfl
    refine Keep.trans ?_ (State.sessionEnd_keep ..) rfl; exact Keep.refl _

theorem State.updTimeout_keep (s : State) : Keep 0x400180001 s (State.updTimeout s) := by
  unfold State.updTimeout
  with_reducible
    refine keep_ite ?_ ?_; refine Keep.trans ?_ (State.raise_keep ..) rfl
    refine Keep.trans ?_ (State.sessionEnd_keep ..) rfl; exact Keep.refl _; exact Keep.refl _

theorem State.updBegin_keep (s : State) (n : Nat) (session : BitVec 16) : Keep 0x400000000 s (State.updBegin s n session) := by
  unfold State.updBegin
  with_reducible
    refine State.owned_keepF ?_ ?_ rfl; exact Keep.refl _; intro _; dsimp only; refine keep_ite ?_ ?_
    refine Keep.trans ?_ (State.updRes_keep ..) rfl; exact Keep.refl _; refine keep_ite ?_ ?_
    refine Keep.trans ?_ (State.updRes_keep ..) rfl; exact Keep.refl _; refine Keep.trans ?_ (State.updRecord_keep ..) rfl
    refine Keep.trans ?_ (State.accepted_keep ..) rfl; refine keep_mk_upd ?_ rfl; exact Keep.refl _

theorem State.eraseStart_keep (s : State) (n : Nat) : Keep 0x400000001 s (State.eraseStart s n) := by
  unfold State.eraseStart
  with_reducible
    refine Keep.trans ?_ (State.updRun_keep ..) rfl; refine Keep.trans ?_ (State.set_keep ..) rfl
    refine keep_mk_upd ?_ rfl; exact Keep.refl _

theorem State.eraseDone_keep (s : State) (ok : Bool) : Keep 0xa600180001 s (State.eraseDone s ok) := by
  unfold State.eraseDone
  with_reducible
    split; refine keep_ite ?_ ?_; refine Keep.trans ?_ (State.updEnd_keep ..) rfl
    refine Keep.trans ?_ (State.flashErase_keep ..) rfl; refine keep_mk_upd ?_ rfl; exact Keep.refl _
    refine Keep.trans ?_ (State.updFlash_keep ..) rfl; refine Keep.trans ?_ (State.flashOpen_keep ..) rfl
    exact Keep.refl _; exact Keep.refl _

theorem State.clearWindow_keep (s : State) : Keep 0x1 s s.clearWindow :=
  ⟨fun w => State.wf_mk w (Sparse.wf_filter _) id id id id id id id id, id, rfl, fun p hp => by cases p <;> first | rfl | exact absurd hp (by decide)⟩

theorem State.updBlock_keep (s : State) (n : Nat) (session : BitVec 16) : Keep 0x400000003 s (State.updBlock s n session) := by
  unfold State.updBlock
  with_reducible
    refine State.owned_keepF ?_ ?_ rfl; exact Keep.refl _; intro _; dsimp only; refine keep_ite ?_ ?_
    refine Keep.trans ?_ (State.updRes_keep ..) rfl; refine Keep.trans ?_ (State.clearWindow_keep ..) rfl
    refine Keep.trans ?_ (State.accepted_keep ..) rfl; exact Keep.refl _; refine keep_ite ?_ ?_
    refine Keep.trans ?_ (State.updRes_keep ..) rfl; refine Keep.trans ?_ (State.clearWindow_keep ..) rfl
    refine Keep.trans ?_ (State.accepted_keep ..) rfl; exact Keep.refl _; refine keep_ite ?_ ?_
    refine Keep.trans ?_ (State.bump_keep ..) rfl; refine Keep.trans ?_ (State.updRes_keep ..) rfl
    refine Keep.trans ?_ (State.clearWindow_keep ..) rfl; refine Keep.trans ?_ (State.accepted_keep ..) rfl
    exact Keep.refl _; split; refine Keep.trans ?_ (State.updRes_keep ..) rfl
    refine Keep.trans ?_ (State.clearWindow_keep ..) rfl; refine Keep.trans ?_ (State.accepted_keep ..) rfl
    exact Keep.refl _; refine Keep.trans ?_ (State.updRun_keep ..) rfl; refine keep_mk_upd ?_ rfl
    refine Keep.trans ?_ (State.clearWindow_keep ..) rfl; refine Keep.trans ?_ (State.accepted_keep ..) rfl
    exact Keep.refl _

theorem State.blockDone_keep (s : State) (ok : Bool) : Keep 0xa600180003 s (State.blockDone s ok) := by
  unfold State.blockDone
  with_reducible
    split; dsimp only; refine keep_ite ?_ ?_; refine Keep.trans ?_ (State.updEnd_keep ..) rfl
    refine Keep.trans ?_ (State.bump_keep ..) rfl; refine Keep.trans ?_ (State.set_keep ..) rfl
    refine Keep.trans ?_ (State.flashStore_keep ..) rfl; refine keep_mk_upd ?_ rfl; exact Keep.refl _
    refine Keep.trans ?_ (State.updFlash_keep ..) rfl; refine Keep.trans ?_ (State.flashOpen_keep ..) rfl
    refine keep_mk_upd ?_ rfl; exact Keep.refl _; exact Keep.refl _

theorem State.updVerify_keep (s : State) (n : Nat) (session : BitVec 16) : Keep 0x400000000 s (State.updVerify s n session) := by
  unfold State.updVerify
  with_reducible
    refine State.owned_keepF ?_ ?_ rfl; exact Keep.refl _; intro _; refine keep_ite ?_ ?_
    refine Keep.trans ?_ (State.updRun_keep ..) rfl; refine Keep.trans ?_ (State.accepted_keep ..) rfl; exact Keep.refl _
    refine Keep.trans ?_ (State.updRes_keep ..) rfl; exact Keep.refl _

theorem State.verifyEnd_keep (s : State) (n : Nat) (src : ImgSrc) (z0 : Option (Nat × Nat)) : Keep 0x400000001 s (State.verifyEnd s n src z0) := by
  unfold State.verifyEnd
  with_reducible
    split; dsimp only; refine Keep.trans ?_ (State.updRecord_keep ..) rfl; refine Keep.trans ?_ (State.wr_keep ..) rfl
    exact Keep.refl _; refine Keep.trans ?_ (State.updRecord_keep ..) rfl; refine Keep.trans ?_ (State.wr_keep ..) rfl
    exact Keep.refl _

theorem State.verifyDone_keep (s : State) : Keep 0x400000001 s (State.verifyDone s) := by
  unfold State.verifyDone
  with_reducible (split; refine Keep.trans ?_ (State.verifyEnd_keep ..) rfl; exact Keep.refl _; exact Keep.refl _)

theorem State.updActivate_keep (s : State) (n : Nat) (session : BitVec 16) (mode : Nat) (force : Bool) : Keep 0x400000003 s (State.updActivate s n session mode force) := by
  unfold State.updActivate
  with_reducible
    refine State.owned_keepF ?_ ?_ rfl; exact Keep.refl _; intro _; dsimp only; split
    refine Keep.trans ?_ (State.updRes_keep ..) rfl; refine keep_ite ?_ ?_; refine Keep.trans ?_ (State.wr_keep ..) rfl
    refine Keep.trans ?_ (State.sessionEnd_keep ..) rfl; exact Keep.refl _
    refine Keep.trans ?_ (State.sessionEnd_keep ..) rfl; exact Keep.refl _
    refine Keep.trans ?_ (State.updRecord_keep ..) rfl; refine Keep.trans ?_ (State.bump_keep ..) rfl
    refine Keep.trans ?_ (State.sessionEnd_keep ..) rfl; exact Keep.refl _

theorem State.liveRestart_keep (s : State) : Keep 0x80000001 s (State.liveRestart s) := by
  unfold State.liveRestart
  with_reducible (refine keep_ite ?_ ?_; exact Keep.refl _; refine Keep.trans ?_ (State.startPair_keep ..) rfl; exact Keep.refl _)

theorem State.liveStart_keep (s : State) (n : Nat) (src : ImgSrc) (rs : List ImgRec) : Keep 0x680180001 s (State.liveStart s n src rs) := by
  unfold State.liveStart
  with_reducible
    dsimp only; refine Keep.trans ?_ (State.updEnd_keep ..) rfl; refine Keep.trans ?_ (State.liveRestart_keep ..) rfl
    refine Keep.trans ?_ (State.raise_keep ..) rfl; refine Keep.trans ?_ (State.showImage_keep ..) rfl
    refine keep_mk_boot_upd ?_ rfl rfl; exact Keep.refl _

theorem State.liveUndo_keep (s : State) (n : Nat) : Keep 0x480000001 s (State.liveUndo s n) := by
  unfold State.liveUndo
  with_reducible
    refine Keep.trans ?_ (State.updRecord_keep ..) rfl; refine Keep.trans ?_ (State.liveRestart_keep ..) rfl
    exact Keep.refl _

theorem State.liveDone_keep (s : State) : Keep 0x1680180001 s (State.liveDone s) := by
  unfold State.liveDone
  with_reducible
    split; refine keep_ite ?_ ?_; exact Keep.refl _; dsimp only; refine keep_ite ?_ ?_
    refine Keep.trans ?_ (State.liveStart_keep ..) rfl; refine Keep.trans ?_ (State.loadRams_keep ..) rfl
    exact Keep.refl _; refine Keep.trans ?_ (State.liveUndo_keep ..) rfl
    refine Keep.trans ?_ (State.loadRams_keep ..) rfl; exact Keep.refl _; exact Keep.refl _

theorem State.updConfirm_keep (s : State) (n : Nat) : Keep 0x400000000 s (State.updConfirm s n) := by
  unfold State.updConfirm
  with_reducible
    refine keep_ite ?_ ?_; refine Keep.trans ?_ (State.updRes_keep ..) rfl; exact Keep.refl _; dsimp only
    refine Keep.trans ?_ (State.updRecord_keep ..) rfl; refine Keep.trans ?_ (State.accepted_keep ..) rfl
    exact Keep.refl _

theorem State.confirmArb_keep (s : State) : Keep 0x408180001 s (State.confirmArb s) := by
  unfold State.confirmArb
  with_reducible
    split; dsimp only; refine keep_ite ?_ ?_; refine Keep.trans ?_ (State.raise_keep ..) rfl
    refine Keep.trans ?_ (State.updEnd_keep ..) rfl; exact Keep.refl _; refine keep_ite ?_ ?_
    refine Keep.trans ?_ (State.otpStart_keep ..) rfl; exact Keep.refl _; exact Keep.refl _; exact Keep.refl _

theorem State.arbTurn_keep (s : State) : Keep 0x408000001 s (State.arbTurn s) := by
  unfold State.arbTurn
  with_reducible
    refine keep_ite ?_ ?_; refine Keep.trans ?_ (State.arbRepeat_keep ..) rfl; refine keep_mk_upd ?_ rfl
    exact Keep.refl _; exact Keep.refl _

theorem State.otpDone_keep (s : State) (ok : Bool) : Keep 0x428180189 s (State.otpDone s ok) := by
  unfold State.otpDone
  with_reducible
    dsimp only; split; refine keep_ite ?_ ?_; refine Keep.trans ?_ (State.updEnd_keep ..) rfl; refine keep_ite ?_ ?_
    refine Keep.trans ?_ (State.raise_keep ..) rfl; refine Keep.trans ?_ (State.otpBitDone_keep ..) rfl; exact Keep.refl _
    refine Keep.trans ?_ (State.otpBitDone_keep ..) rfl; exact Keep.refl _; refine keep_ite ?_ ?_
    refine Keep.trans ?_ (State.confirmArb_keep ..) rfl; refine keep_ite ?_ ?_
    refine Keep.trans ?_ (State.raise_keep ..) rfl; refine Keep.trans ?_ (State.otpBitDone_keep ..) rfl; exact Keep.refl _
    refine Keep.trans ?_ (State.otpBitDone_keep ..) rfl; exact Keep.refl _; refine keep_ite ?_ ?_
    refine Keep.trans ?_ (State.raise_keep ..) rfl; refine Keep.trans ?_ (State.otpBitDone_keep ..) rfl; exact Keep.refl _
    refine Keep.trans ?_ (State.otpBitDone_keep ..) rfl; exact Keep.refl _
    refine Keep.trans ?_ (State.arbTurn_keep ..) rfl; refine keep_ite ?_ ?_
    refine Keep.trans ?_ (State.raise_keep ..) rfl; refine Keep.trans ?_ (State.otpBitDone_keep ..) rfl; exact Keep.refl _
    refine Keep.trans ?_ (State.otpBitDone_keep ..) rfl; exact Keep.refl _

theorem State.updRevert_keep (s : State) (n : Nat) : Keep 0x400000000 s (State.updRevert s n) := by
  unfold State.updRevert
  with_reducible
    refine keep_ite ?_ ?_; refine Keep.trans ?_ (State.updRes_keep ..) rfl; exact Keep.refl _
    refine Keep.trans ?_ (State.updRecord_keep ..) rfl; refine Keep.trans ?_ (State.accepted_keep ..) rfl
    exact Keep.refl _

theorem State.recordNext_keep (s : State) (z0 : UpdRun) : Keep 0xeffffff9ff s (State.recordNext s z0) := by
  unfold State.recordNext
  with_reducible
    split; refine Keep.trans ?_ (State.eraseStart_keep ..) rfl; exact Keep.refl _
    refine Keep.trans ?_ (State.raise_keep ..) rfl; refine Keep.trans ?_ (State.updEnd_keep ..) rfl; exact Keep.refl _
    refine Keep.trans ?_ (State.updEnd_keep ..) rfl; exact Keep.refl _; refine Keep.trans ?_ (State.liveHold_keep ..) rfl
    refine Keep.trans ?_ (State.updRun_keep ..) rfl; exact Keep.refl _; refine Keep.trans ?_ (State.warmReset_keep ..) rfl
    refine Keep.trans ?_ (State.updEnd_keep ..) rfl; exact Keep.refl _; refine Keep.trans ?_ (State.updEnd_keep ..) rfl
    exact Keep.refl _; refine Keep.trans ?_ (State.confirmArb_keep ..) rfl
    refine Keep.trans ?_ (State.updRun_keep ..) rfl; exact Keep.refl _; refine Keep.trans ?_ (State.raise_keep ..) rfl
    refine Keep.trans ?_ (State.updEnd_keep ..) rfl; exact Keep.refl _; exact Keep.refl _

theorem State.recordDone__keep (s : State) (ok : Bool) : Keep 0xeffffff9ff s (State.recordDone_ s ok) := by
  unfold State.recordDone_
  with_reducible
    split; exact Keep.refl _; split; exact Keep.refl _; refine keep_ite ?_ ?_
    refine Keep.trans ?_ (State.recordNext_keep ..) rfl; refine Keep.trans ?_ (State.recordWritten_keep ..) rfl
    exact Keep.refl _; refine Keep.trans ?_ (State.updFlash_keep ..) rfl; refine Keep.trans ?_ (State.copyCut_keep ..) rfl
    exact Keep.refl _

theorem State.updRead_keep (s : State) (n : Nat) : Keep 0x400000001 s (State.updRead s n) := by
  unfold State.updRead
  with_reducible
    dsimp only; refine keep_ite ?_ ?_; refine Keep.trans ?_ (State.updRes_keep ..) rfl; exact Keep.refl _
    refine keep_ite ?_ ?_; refine Keep.trans ?_ (State.updRes_keep ..) rfl; exact Keep.refl _
    refine Keep.trans ?_ (State.updRes_keep ..) rfl; refine keep_each ?_ ?_
    refine Keep.trans ?_ (State.accepted_keep ..) rfl; exact Keep.refl _; intro _; intro _
    refine Keep.trans ?_ (State.wr_keep ..) rfl; exact Keep.refl _

end Sys2Proof.Machine
end

