-- ==== Sys2Proof/Laws/KeepWak.lean ====
section
/-! SUPPORT. What the operations of Machine/Wak.lean keep. -/

set_option linter.unusedVariables false
set_option maxRecDepth 4000

namespace Sys2Proof.Machine

theorem State.sleepCmd_keepF {m : Nat} {s0 s : State} {ini : Initiator} {confirm : Nat} {f : State → State} (h : Keep m s0 s) (hf : ∀ s, Keep m s (f s))
    (hm : Incl 0x4000180001 m) : Keep m s0 (s.sleepCmd ini confirm f) :=
  State.writeAt_keepF h (fun _ => keep_ite (hf _) (Keep.refl _)) (Incl.trans rfl hm)

theorem State.sleepResult_keep (s : State) (res cause : Nat) : Keep 0x1 s (State.sleepResult s res cause) := by
  unfold State.sleepResult
  with_reducible (refine Keep.trans ?_ (State.set_keep ..) rfl; refine Keep.trans ?_ (State.set_keep ..) rfl; exact Keep.refl _)

theorem State.sleepStart_keep (s : State) (t : Target_) : Keep 0x800000001 s (State.sleepStart s t) := by
  unfold State.sleepStart
  with_reducible
    refine keep_ite ?_ ?_; refine Keep.trans ?_ (State.sleepResult_keep ..) rfl; exact Keep.refl _; split
    refine Keep.trans ?_ (State.sleepResult_keep ..) rfl; exact Keep.refl _
    refine Keep.trans ?_ (State.sleepResult_keep ..) rfl; refine keep_ite ?_ ?_
    refine Keep.trans ?_ (State.seqTimer_keep ..) rfl; refine Keep.trans ?_ (State.setSeq_keep ..) rfl; exact Keep.refl _
    exact Keep.refl _

theorem State.groupWakeCmd_keep (s : State) (g : Fin 8) : Keep 0x4802180003 s (State.groupWakeCmd s g) := by
  unfold State.groupWakeCmd
  with_reducible
    refine Keep.trans ?_ (State.sleepResult_keep ..) rfl; refine keep_ite ?_ ?_
    refine Keep.trans ?_ (State.wakeAccept_keep ..) rfl; exact Keep.refl _; exact Keep.refl _

theorem State.abortCmd_keep (s : State) (t : Target_) : Keep 0x4000180003 s (State.abortCmd s t) := by
  unfold State.abortCmd
  with_reducible
    dsimp only; refine keep_ite ?_ ?_; refine Keep.trans ?_ (State.sleepResult_keep ..) rfl; exact Keep.refl _
    refine keep_ite ?_ ?_; exact Keep.refl _; refine Keep.trans ?_ (State.sleepResult_keep ..) rfl
    refine Keep.trans ?_ (State.seqAbort_keep ..) rfl; exact Keep.refl _

theorem State.releaseIso_keep (s : State) (c : Nat) : Keep 0x2000001 s (State.releaseIso s c) := by
  unfold State.releaseIso
  with_reducible
    refine keep_ite ?_ ?_; refine Keep.trans ?_ (State.sleepResult_keep ..) rfl; exact Keep.refl _; dsimp only
    refine Keep.trans ?_ (State.sleepResult_keep ..) rfl; refine Keep.trans ?_ (State.canRestart_keep ..) rfl
    refine Keep.trans ?_ (State.setBit_keep ..) rfl; refine Keep.trans ?_ (State.wr_keep ..) rfl; exact Keep.refl _

theorem State.stuckDominant_keep (s : State) (c : Nat) : Keep 0x2042180003 s (State.stuckDominant s c) := by
  unfold State.stuckDominant
  with_reducible
    refine keep_ite ?_ ?_; exact Keep.refl _; dsimp only; refine Keep.trans ?_ (State.set_keep ..) rfl
    refine Keep.trans ?_ (State.setBit_keep ..) rfl; refine Keep.trans ?_ (State.setCan_keep ..) rfl
    refine Keep.trans ?_ (State.canCut_keep ..) rfl; refine Keep.trans ?_ (State.wakRaise_keep ..) rfl
    refine Keep.trans ?_ (State.bump_keep ..) rfl; refine Keep.trans ?_ (State.wr_keep ..) rfl; exact Keep.refl _

theorem State.prepare_keep (s : State) (t : Target_) : Keep 0x4800000001 s (State.prepare s t) := by
  unfold State.prepare
  with_reducible
    refine keep_ite ?_ ?_; exact Keep.refl _; refine Keep.trans ?_ (State.ethWakes_keep ..) rfl
    refine Keep.trans ?_ (State.seqTimer_keep ..) rfl; refine Keep.trans ?_ (State.setSeq_keep ..) rfl; exact Keep.refl _

theorem State.canStandby_keep (s : State) (c : Nat) : Keep 0x2042180003 s (State.canStandby s c) := by
  unfold State.canStandby
  with_reducible
    dsimp only; refine keep_ite ?_ ?_; refine Keep.trans ?_ (State.canOff_keep ..) rfl
    refine Keep.trans ?_ (State.setCan_keep ..) rfl; refine Keep.trans ?_ (State.canCut_keep ..) rfl; exact Keep.refl _
    refine Keep.trans ?_ (State.setCan_keep ..) rfl; refine Keep.trans ?_ (State.canCut_keep ..) rfl; exact Keep.refl _

theorem State.groupCommit_keep (s : State) (g : Fin 8) : Keep 0x616619599b s (State.groupCommit s g) := by
  unfold State.groupCommit
  with_reducible
    dsimp only; refine Keep.trans ?_ (State.raise_keep ..) rfl; refine Keep.trans ?_ (State.setSeq_keep ..) rfl
    refine keep_each ?_ ?_; refine keep_each ?_ ?_; exact Keep.refl _; intro _; intro _
    refine Keep.trans ?_ (State.canStandby_keep ..) rfl; exact Keep.refl _; intro _; intro _
    refine Keep.trans ?_ (State.linkLost_keep ..) rfl; exact Keep.refl _

theorem State.deviceCommit_keep (s : State) : Keep 0x28421809a3 s (State.deviceCommit s) := by
  unfold State.deviceCommit
  with_reducible
    dsimp only; refine keep_mk_wak ?_ rfl; refine Keep.trans ?_ (State.isolateClaim_keep ..) rfl
    refine Keep.trans ?_ (State.setBit_keep ..) rfl; refine keep_each ?_ ?_; refine keep_each ?_ ?_
    refine keep_mk_frames_copies ?_ rfl; refine Keep.trans ?_ (State.bumpBy_keep ..) rfl
    refine Keep.trans ?_ (State.wr_keep ..) rfl; refine keep_mk_wak ?_ rfl; refine Keep.trans ?_ (State.bump_keep ..) rfl
    refine Keep.trans ?_ (State.setSeq_keep ..) rfl; exact Keep.refl _; intro _; intro _
    refine Keep.trans ?_ (State.setMac_keep ..) rfl; exact Keep.refl _; intro _; intro _
    refine Keep.trans ?_ (State.canStandby_keep ..) rfl; exact Keep.refl _

theorem State.commit_keep (s : State) (t : Target_) : Keep 0x69661959bb s (State.commit s t) := by
  unfold State.commit
  with_reducible
    split; refine Keep.trans ?_ (State.deviceCommit_keep ..) rfl; exact Keep.refl _
    refine Keep.trans ?_ (State.groupCommit_keep ..) rfl; exact Keep.refl _

theorem State.sleepCommit_keep (s : State) (t : Target_) : Keep 0x69661959bb s (State.sleepCommit s t) := by
  unfold State.sleepCommit
  with_reducible (refine keep_ite ?_ ?_; refine Keep.trans ?_ (State.commit_keep ..) rfl; exact Keep.refl _; exact Keep.refl _)

theorem State.prepExpiry_keep (s : State) (t : Target_) : Keep 0x69661959bb s (State.prepExpiry s t) := by
  unfold State.prepExpiry
  with_reducible
    refine keep_ite ?_ ?_; exact Keep.refl _; dsimp only; refine keep_ite ?_ ?_
    refine Keep.trans ?_ (State.commit_keep ..) rfl; refine keep_each ?_ ?_; exact Keep.refl _; intro _; intro _
    refine Keep.trans ?_ (State.kaAdd_keep ..) rfl; exact Keep.refl _; refine Keep.trans ?_ (State.seqAbort_keep ..) rfl
    refine keep_each ?_ ?_; exact Keep.refl _; intro _; intro _; refine Keep.trans ?_ (State.kaAdd_keep ..) rfl
    exact Keep.refl _

theorem State.retained_keep (s : State) : Keep 0x4feffff9f5 s s.retained := by
  refine ⟨fun w => State.wf_mk w (fun h => ?_) id (Sparse.wf_filter _) id (fun h => ?_) (fun _ => rfl) (fun _ => rfl) id id,
    fun _ => Nat.zero_le _, rfl, fun p hp => by cases p <;> first | rfl | exact absurd hp (by decide)⟩
  · refine Sparse.wfFrom_filterMap ?_ h
    intro x y hy
    dsimp only at hy
    split at hy
    · cases hy
    · cases hy; exact ⟨rfl, by assumption⟩
  · refine Sparse.wfFrom_filterMap ?_ h
    intro x y hy
    dsimp only at hy
    split at hy
    · cases hy
    · cases hy; exact ⟨rfl, by assumption⟩

theorem State.gatedFrom_keep (g s : State) : Keep 0x4000000001 g (State.gatedFrom g s) := by
  unfold State.gatedFrom
  with_reducible
    refine Keep.trans ?_ (State.resetAlarm_keep ..) rfl; refine keep_each ?_ ?_; exact Keep.refl _; intro _; intro _
    refine Keep.trans ?_ (State.set_keep ..) rfl; exact Keep.refl _

theorem State.powerGate_keep (s : State) : Keep 0xefeffff9f7 s (State.powerGate s) := by
  unfold State.powerGate
  with_reducible
    dsimp only; refine Keep.trans ?_ (State.gatedFrom_keep ..) rfl; refine Keep.trans ?_ (State.retained_keep ..) rfl
    refine Keep.trans ?_ (State.twinDown_keep ..) rfl; refine Keep.trans ?_ (State.pcieDown_keep ..) rfl
    refine Keep.trans ?_ (State.cutOtp_keep ..) rfl; refine Keep.trans ?_ (State.cutFlash_keep ..) rfl; exact Keep.refl _

theorem State.sleepEnter_keep (s : State) : Keep 0x4800000000 s (State.sleepEnter s) := by
  unfold State.sleepEnter
  with_reducible
    refine keep_ite ?_ ?_; refine keep_mk_wak ?_ rfl; exact Keep.refl _; refine Keep.trans ?_ (State.emit_keep ..) rfl
    refine keep_mk_wak ?_ rfl; exact Keep.refl _

theorem State.powerDown_keep (s : State) : Keep 0xefeffff9f7 s (State.powerDown s) := by
  unfold State.powerDown
  with_reducible
    refine keep_ite ?_ ?_; exact Keep.refl _; refine Keep.trans ?_ (State.sleepEnter_keep ..) rfl
    refine Keep.trans ?_ (State.powerGate_keep ..) rfl; exact Keep.refl _

theorem State.wakeClocks_keep (s : State) : Keep 0x800000011 s (State.wakeClocks s) := by
  unfold State.wakeClocks
  with_reducible
    refine keep_ite ?_ ?_; exact Keep.refl _; dsimp only; refine Keep.trans ?_ (State.setBit_keep ..) rfl
    refine keep_each ?_ ?_; refine keep_mk_tim_wak ?_ rfl; refine keep_ite ?_ ?_
    refine Keep.trans ?_ (State.edgePassed_keep ..) rfl; exact Keep.refl _; refine Keep.trans ?_ (State.set_keep ..) rfl
    refine Keep.trans ?_ (State.edgePassed_keep ..) rfl; exact Keep.refl _; intro _; intro _
    refine Keep.trans ?_ (State.setBit_keep ..) rfl; exact Keep.refl _

theorem State.wakeRelease_keep (s : State) : Keep 0x6eee1901eb s (State.wakeRelease s) := by
  unfold State.wakeRelease
  with_reducible
    dsimp only; refine Keep.trans ?_ (State.uncertainCheck_keep ..) rfl; refine keep_each ?_ ?_; refine keep_each ?_ ?_
    refine keep_mk_marker ?_ rfl; refine keep_each ?_ ?_; refine keep_each ?_ ?_; refine keep_each ?_ ?_
    refine Keep.trans ?_ (State.romRun_keep ..) rfl; refine Keep.trans ?_ (State.romRun_keep ..) rfl
    refine Keep.trans ?_ (State.startPair_keep ..) rfl; refine Keep.trans ?_ (State.startPair_keep ..) rfl
    refine Keep.trans ?_ (State.release_keep ..) rfl; refine keep_ite ?_ ?_; refine keep_mk_wak ?_ rfl; exact Keep.refl _
    refine Keep.trans ?_ (State.lcTaken_keep ..) rfl; refine keep_mk_wak ?_ rfl; exact Keep.refl _; intro _; intro _
    refine Keep.trans ?_ (State.canRestart_keep ..) rfl; exact Keep.refl _; intro _; intro _; refine keep_ite ?_ ?_
    refine Keep.trans ?_ (State.setBit_keep ..) rfl; exact Keep.refl _; refine Keep.trans ?_ (State.setBit_keep ..) rfl
    exact Keep.refl _; intro _; intro _; refine Keep.trans ?_ (State.pinEnable_keep ..) rfl
    refine Keep.trans ?_ (State.pinReposition_keep ..) rfl; exact Keep.refl _; intro _; intro _
    refine Keep.trans ?_ (State.setPin_keep ..) rfl; exact Keep.refl _; intro _; intro _
    refine Keep.trans ?_ (State.refreshSource_keep ..) rfl; exact Keep.refl _

theorem mergeWak_wf {α : Type} [DecidableEq α] {d : Nat → α} {l m : List (Nat × α)} (hl : Sparse.wf d l = true) (hm : Sparse.wf d m = true) :
    Sparse.wf d (mergeWak l m) = true := by
  have lt (x : Nat × α) (n : Nat) (k : x.1 / 0x100000 < n) : x.1 < n * 0x100000 := by omega
  refine Sparse.wfFrom_append (18 * 0x100000) (Sparse.wfFrom_append (17 * 0x100000) (Sparse.wf_filter _ hl) (Sparse.wf_filter _ hm) (by simp) ?_ ?_)
    (Sparse.wf_filter _ hl) (by simp) ?_ ?_
  · intro x hx
    simp only [List.mem_filter, decide_eq_true_eq] at hx
    omega
  · intro x hx
    simp only [List.mem_filter, beq_iff_eq] at hx
    omega
  · intro x hx
    simp only [List.mem_append, List.mem_filter, decide_eq_true_eq, beq_iff_eq] at hx
    omega
  · intro x hx
    simp only [List.mem_filter, decide_eq_true_eq] at hx
    omega

theorem State.wakOf_keepF {m : Nat} {s0 t s : State} (h : Keep m s0 t) (k : Keep m s0 s) (hm : Incl 0x800000007 m) : Keep m s0 (t.wakOf s) := by
  refine ⟨fun w => ?_, h.log, h.pending, fun p hp => p.same_trans (h.same p hp) ?_⟩
  · have a := h.wf w
    have b := k.wf w
    rw [State.wf_iff] at b
    exact State.wf_mk a (fun x => mergeWak_wf x b.1) (fun x => mergeWak_wf x b.2.1) (fun _ => Sparse.wf_filter _ b.2.2.1) id id id id id id
  · have q := hm.bit hp
    cases p <;> first | rfl | exact absurd q (by decide)

theorem State.wakeFail_keep (s : State) : Keep 0xffffffffff s (State.wakeFail s) := by
  unfold State.wakeFail
  with_reducible
    refine Keep.trans ?_ (State.raise_keep ..) rfl; refine Keep.trans ?_ (State.bump_keep ..) rfl
    refine State.wakOf_keepF ?_ ?_ rfl; refine Keep.trans ?_ (State.coldReset_keep ..) rfl; exact Keep.refl _
    exact Keep.refl _

theorem State.retentionDone_keep (s : State) (pass : Bool) : Keep 0xffffffffff s (State.retentionDone s pass) := by
  unfold State.retentionDone
  with_reducible
    refine keep_ite ?_ ?_; exact Keep.refl _; refine keep_ite ?_ ?_; refine Keep.trans ?_ (State.wakeRelease_keep ..) rfl
    exact Keep.refl _; refine Keep.trans ?_ (State.wakeFail_keep ..) rfl; exact Keep.refl _

theorem State.serdesDone_keep (s : State) : Keep 0x800000000 s (State.serdesDone s) := by
  unfold State.serdesDone
  with_reducible (refine keep_mk_wak ?_ rfl; exact Keep.refl _)

theorem State.kaPop_keep (s : State) : Keep 0x800000000 s (State.kaPop s).2 := by
  unfold State.kaPop
  with_reducible (refine keep_pair ?_; refine keep_mk_wak ?_ rfl; exact Keep.refl _)

end Sys2Proof.Machine
end

