-- ==== Sys2Proof/Laws/KeepReposition.lean ====
section
/-! SUPPORT. What the operations of Machine/Reposition.lean keep. -/

set_option linter.unusedVariables false
set_option maxRecDepth 4000

namespace Sys2Proof.Machine

theorem State.spansMoved_keep (s : State) (d : Int) : Keep 0x10500b880 s (State.spansMoved s d) := by
  unfold State.spansMoved
  with_reducible
    dsimp only; refine keep_mk_frames_slc_str_crs_notes_twp_brg ?_ rfl; refine keep_each ?_ ?_; exact Keep.refl _; intro _
    intro _; refine Keep.trans ?_ (State.setMac_keep ..) rfl; exact Keep.refl _

theorem State.timeBase_keep (s : State) : Keep 0x10518b893 s (State.timeBase s) := by
  unfold State.timeBase
  with_reducible
    dsimp only; refine keep_ite ?_ ?_; refine Keep.trans ?_ (State.timTick_keep ..) rfl; exact Keep.refl _
    refine Keep.trans ?_ (State.spansMoved_keep ..) rfl; refine Keep.trans ?_ (State.timTick_keep ..) rfl
    exact Keep.refl _

theorem State.timeTick_keep (s : State) : Keep 0x69c79ab8b3 s (State.timeTick s) := by
  unfold State.timeTick
  with_reducible
    dsimp only; refine Keep.trans ?_ (State.fltReady_keep ..) rfl; refine keep_ite ?_ ?_
    refine Keep.trans ?_ (State.edgePassed_keep ..) rfl; refine Keep.trans ?_ (State.fltClock_keep ..) rfl
    exact Keep.refl _; refine keep_each ?_ ?_; refine Keep.trans ?_ (State.pumpTick_keep ..) rfl
    refine Keep.trans ?_ (State.liveHold_keep ..) rfl; refine Keep.trans ?_ (State.pairHold_keep ..) rfl
    refine Keep.trans ?_ (State.pairHold_keep ..) rfl; refine Keep.trans ?_ (State.aoTick_keep ..) rfl
    refine Keep.trans ?_ (State.mtimeTick_keep ..) rfl; refine Keep.trans ?_ (State.timeBase_keep ..) rfl
    refine Keep.trans ?_ (State.edgePassed_keep ..) rfl; refine Keep.trans ?_ (State.fltClock_keep ..) rfl
    exact Keep.refl _; intro _; intro _; refine Keep.trans ?_ (State.eligTick_keep ..) rfl; exact Keep.refl _

theorem State.gateReposition_keep (s : State) (p : Nat) : Keep 0x190103 s (State.gateReposition s p) := by
  unfold State.gateReposition
  with_reducible (refine keep_ite ?_ ?_; exact Keep.refl _; refine Keep.trans ?_ (State.gateEntryStart_keep ..) rfl; exact Keep.refl _)

theorem State.timeStep_keep (s : State) : Keep 0x414519b9f3 s (State.timeStep s) := by
  unfold State.timeStep
  with_reducible
    dsimp only; refine keep_each ?_ ?_; refine Keep.trans ?_ (State.commitJump_keep ..) rfl
    refine Keep.trans ?_ (State.packReposition_keep ..) rfl; refine Keep.trans ?_ (State.tioReposition_keep ..) rfl
    refine Keep.trans ?_ (State.spansMoved_keep ..) rfl; refine Keep.trans ?_ (State.timStep_keep ..) rfl
    exact Keep.refl _; intro _; intro _; refine Keep.trans ?_ (State.gateReposition_keep ..) rfl; exact Keep.refl _

theorem State.wtSet_keep (s : State) : Keep 0x414519b9f3 s (State.wtSet s) := by
  unfold State.wtSet
  with_reducible
    refine keep_ite ?_ ?_; refine keep_mk_tim ?_ rfl; exact Keep.refl _; refine keep_ite ?_ ?_
    refine Keep.trans ?_ (State.raise_keep ..) rfl; exact Keep.refl _; refine Keep.trans ?_ (State.timeStep_keep ..) rfl
    exact Keep.refl _

theorem State.wtStep_keep (s : State) : Keep 0x414519b9f3 s (State.wtStep s) := by
  unfold State.wtStep
  with_reducible
    refine keep_ite ?_ ?_; refine Keep.trans ?_ (State.timeStep_keep ..) rfl; exact Keep.refl _
    refine Keep.trans ?_ (State.raise_keep ..) rfl; exact Keep.refl _

end Sys2Proof.Machine
end

