-- ==== Sys2Proof/Laws/KeepBus.lean ====
section
/-! SUPPORT. What the operations of Machine/Bus.lean keep. -/

set_option linter.unusedVariables false
set_option maxRecDepth 4000

namespace Sys2Proof.Machine

theorem State.cntReady_keep (s : State) (a : Nat) : Keep 0x802 s (State.cntReady s a) := by
  unfold State.cntReady
  with_reducible
    dsimp only; refine keep_ite ?_ ?_; exact Keep.refl _; refine keep_ite ?_ ?_
    refine Keep.trans ?_ (State.lpiFold_keep ..) rfl; exact Keep.refl _; refine keep_ite ?_ ?_
    refine Keep.trans ?_ (State.lpiFold_keep ..) rfl; exact Keep.refl _; exact Keep.refl _

theorem State.cntRead_keep (s : State) (ini : Initiator) (a : Nat) : Keep 0x806 s (State.cntRead s ini a).2 := by
  unfold State.cntRead
  with_reducible
    dsimp only; refine Keep.trans ?_ (State.setCnt_keep ..) rfl; refine Keep.trans ?_ (State.setHeld_keep ..) rfl
    refine Keep.trans ?_ (State.cntReady_keep ..) rfl; exact Keep.refl _

theorem State.pairRead_keep (s : State) (ini : Initiator) (a v : Nat) : Keep 0x4 s (State.pairRead s ini a v).2 := by
  unfold State.pairRead
  with_reducible (refine keep_pair ?_; refine Keep.trans ?_ (State.setHeld_keep ..) rfl; exact Keep.refl _)

theorem State.fetchBus_keep (s : State) (ini : Initiator) (a : Nat) : Keep 0x960022837 s (State.fetchBus s ini a).2 := by
  unfold State.fetchBus
  with_reducible
    dsimp only; refine keep_ite2 ?_ ?_; refine Keep.trans ?_ (State.cntRead_keep ..) rfl; exact Keep.refl _
    refine keep_ite2 ?_ ?_; refine keep_pair ?_; exact Keep.refl _; split
    refine Keep.trans ?_ (State.pairRead_keep ..) rfl; exact Keep.refl _; split; refine keep_ite2 ?_ ?_
    refine keep_ite2 ?_ ?_; refine Keep.trans ?_ (State.syncRecPop_keep ..) rfl; exact Keep.refl _; refine keep_pair ?_
    exact Keep.refl _; split; refine Keep.trans ?_ (State.lttRead_keep ..) rfl; exact Keep.refl _; refine keep_pair ?_
    exact Keep.refl _; refine keep_ite2 ?_ ?_; refine Keep.trans ?_ (State.capPop_keep ..) rfl; exact Keep.refl _
    refine keep_pair ?_; exact Keep.refl _; refine keep_ite2 ?_ ?_; refine Keep.trans ?_ (State.evqPop_keep ..) rfl
    exact Keep.refl _; refine keep_pair ?_; exact Keep.refl _; refine keep_ite2 ?_ ?_
    refine Keep.trans ?_ (State.gwPop_keep ..) rfl; exact Keep.refl _; refine keep_pair ?_; exact Keep.refl _
    refine keep_ite2 ?_ ?_; refine Keep.trans ?_ (State.laResultPop_keep ..) rfl; exact Keep.refl _
    refine keep_ite2 ?_ ?_; refine Keep.trans ?_ (State.laResultPop_keep ..) rfl; exact Keep.refl _; refine keep_pair ?_
    exact Keep.refl _; refine keep_ite2 ?_ ?_; refine Keep.trans ?_ (State.perrPop_keep ..) rfl; exact Keep.refl _
    refine keep_pair ?_; exact Keep.refl _; refine keep_ite2 ?_ ?_; refine Keep.trans ?_ (State.kaPop_keep ..) rfl
    exact Keep.refl _; refine keep_pair ?_; exact Keep.refl _; refine keep_ite2 ?_ ?_
    refine Keep.trans ?_ (State.logPop_keep ..) rfl; exact Keep.refl _; refine keep_pair ?_; exact Keep.refl _
    refine keep_pair ?_; exact Keep.refl _

theorem State.timCmd_keep (s : State) (a : Nat) (w : Word) : KeepO 0x414519b9f3 s (State.timCmd s a w) := by
  unfold State.timCmd
  with_reducible
    dsimp only; refine keepO_ite ?_ ?_; refine keepO_some ?_; refine keep_ite ?_ ?_
    refine Keep.trans ?_ (State.wtSet_keep ..) rfl; exact Keep.refl _; refine keep_ite ?_ ?_
    refine Keep.trans ?_ (State.wtStep_keep ..) rfl; exact Keep.refl _; exact Keep.refl _; refine keepO_ite ?_ ?_
    refine keepO_some ?_; refine keep_ite ?_ ?_; refine Keep.trans ?_ (State.wtSnap_keep ..) rfl; exact Keep.refl _
    exact Keep.refl _; refine keepO_ite ?_ ?_; refine keepO_some ?_; refine Keep.trans ?_ (State.wtAdj_keep ..) rfl
    exact Keep.refl _; refine keepO_ite ?_ ?_; exact keepO_none _; refine keepO_ite ?_ ?_; refine keepO_some ?_
    refine Keep.trans ?_ (State.domOffAdj_keep ..) rfl; exact Keep.refl _; refine keepO_ite ?_ ?_; refine keepO_some ?_
    refine Keep.trans ?_ (State.domRateAdj_keep ..) rfl; exact Keep.refl _; refine keepO_ite ?_ ?_; refine keepO_some ?_
    refine Keep.trans ?_ (State.domSetHi_keep ..) rfl; exact Keep.refl _; exact keepO_none _

theorem State.tioCmd_keep (s : State) (a : Nat) (w : Word) : KeepO 0x180021 s (State.tioCmd s a w) := by
  unfold State.tioCmd
  with_reducible
    dsimp only; refine keepO_ite ?_ ?_; exact keepO_none _; refine keepO_some ?_; split
    refine Keep.trans ?_ (State.pinArm_keep ..) rfl; exact Keep.refl _; refine Keep.trans ?_ (State.pinStop_keep ..) rfl
    exact Keep.refl _; refine Keep.trans ?_ (State.pinRelease_keep ..) rfl; exact Keep.refl _; exact Keep.refl _

theorem State.windowCmd_keepF {m : Nat} {s0 s : State} {ini : Initiator} {bit base n a : Nat} {w : Word} {busy : Bool} {f : State → State}
    (h : Keep m s0 s) (hf : ∀ s, Keep m s (f s)) (hm : Incl 0x180001 m) : KeepO m s0 (s.windowCmd ini bit base n a w busy f) := by
  unfold State.windowCmd
  split
  · exact keepO_some (State.tableAct_keepF h hf (Incl.trans rfl hm))
  · split
    · exact keepO_some (State.tableAct_keepF h (fun _ => (State.wr_keep ..).mono (Incl.trans rfl hm)) (Incl.trans rfl hm))
    · exact keepO_none _

theorem State.slcCmdReg_keep (s : State) (ini : Initiator) (a : Nat) (w : Word) : KeepO 0x4004191009 s (State.slcCmdReg s ini a w) := by
  unfold State.slcCmdReg
  with_reducible
    refine keepO_ite ?_ ?_; refine keepO_some ?_; split; refine Keep.trans ?_ (State.verOpen_keep ..) rfl
    exact Keep.refl _; refine Keep.trans ?_ (State.verCommitNow_keep ..) rfl; exact Keep.refl _
    refine Keep.trans ?_ (State.verCommitAt_keep ..) rfl; exact Keep.refl _
    refine Keep.trans ?_ (State.verCancel_keep ..) rfl; exact Keep.refl _
    refine Keep.trans ?_ (State.verAbandon_keep ..) rfl; exact Keep.refl _; exact Keep.refl _
    refine State.windowCmd_keepF ?_ ?_ rfl; exact Keep.refl _; intro _; refine Keep.trans ?_ (State.slcCmd_keep ..) rfl
    exact Keep.refl _

theorem State.lkpCmdReg_keep (s : State) (ini : Initiator) (a : Nat) (w : Word) : KeepO 0x4004191009 s (State.lkpCmdReg s ini a w) := by
  unfold State.lkpCmdReg
  with_reducible
    refine keepO_ite ?_ ?_; refine keepO_some ?_; split; refine Keep.trans ?_ (State.changeArm_keep ..) rfl
    exact Keep.refl _; refine Keep.trans ?_ (State.gateCancel_keep ..) rfl; exact Keep.refl _; exact Keep.refl _
    refine State.windowCmd_keepF ?_ ?_ rfl; exact Keep.refl _; intro _; refine Keep.trans ?_ (State.lkpRun_keep ..) rfl
    exact Keep.refl _

theorem State.crsCmdReg_keep (s : State) (ini : Initiator) (a : Nat) (w : Word) : KeepO 0x40041cd18b s (State.crsCmdReg s ini a w) := by
  unfold State.crsCmdReg
  with_reducible
    refine keepO_ite ?_ ?_; dsimp only; refine keepO_some ?_; split; refine Keep.trans ?_ (State.planeLeaves_keep ..) rfl
    exact Keep.refl _; refine Keep.trans ?_ (State.planeRestore_keep ..) rfl; exact Keep.refl _; exact Keep.refl _
    refine State.windowCmd_keepF ?_ ?_ rfl; exact Keep.refl _; intro _; refine Keep.trans ?_ (State.crsRun_keep ..) rfl
    exact Keep.refl _

theorem State.canCmdReg_keep (s : State) (a : Nat) (w : Word) : KeepO 0x2000003 s (State.canCmdReg s a w) := by
  unfold State.canCmdReg
  with_reducible
    dsimp only; refine keepO_ite ?_ ?_; exact keepO_none _; refine keepO_ite ?_ ?_; refine keepO_some ?_; split
    refine Keep.trans ?_ (State.canCancel_keep ..) rfl; exact Keep.refl _
    refine Keep.trans ?_ (State.canFlush_keep ..) rfl; exact Keep.refl _; exact Keep.refl _; refine keepO_ite ?_ ?_
    refine keepO_some ?_; refine keep_ite ?_ ?_; refine Keep.trans ?_ (State.canRecover_keep ..) rfl; exact Keep.refl _
    exact Keep.refl _; exact keepO_none _

theorem State.cphCmdReg_keep (s : State) (ini : Initiator) (a : Nat) (w : Word) : KeepO 0x3018400b s (State.cphCmdReg s ini a w) := by
  unfold State.cphCmdReg
  with_reducible
    refine keepO_ite ?_ ?_; refine keepO_some ?_; refine keep_ite ?_ ?_; refine Keep.trans ?_ (State.laSubmit_keep ..) rfl
    exact Keep.refl _; exact Keep.refl _; refine keepO_ite ?_ ?_; refine keepO_some ?_; refine keep_ite ?_ ?_
    refine Keep.trans ?_ (State.laSubmit_keep ..) rfl; exact Keep.refl _; exact Keep.refl _; refine keepO_ite ?_ ?_
    refine keepO_some ?_; refine Keep.trans ?_ (State.wr_keep ..) rfl; exact Keep.refl _
    refine State.windowCmd_keepF ?_ ?_ rfl; exact Keep.refl _; intro _; refine Keep.trans ?_ (State.cphRun_keep ..) rfl
    exact Keep.refl _

theorem State.keyCmdReg_keep (s : State) (a : Nat) (w : Word) : KeepO 0x416c18599b s (State.keyCmdReg s a w) := by
  unfold State.keyCmdReg
  with_reducible
    refine keepO_ite ?_ ?_; refine keepO_some ?_; refine Keep.trans ?_ (State.keyCmd_keep ..) rfl; exact Keep.refl _
    refine keepO_ite ?_ ?_; refine keepO_some ?_; refine Keep.trans ?_ (State.endStomped_keep ..) rfl
    refine Keep.trans ?_ (State.lcCmd_keep ..) rfl; exact Keep.refl _; refine keepO_ite ?_ ?_; refine keepO_some ?_; split
    refine Keep.trans ?_ (State.arbAdvance_keep ..) rfl; exact Keep.refl _
    refine Keep.trans ?_ (State.splitToggle_keep ..) rfl; exact Keep.refl _; exact Keep.refl _; refine keepO_ite ?_ ?_
    refine keepO_some ?_; refine Keep.trans ?_ (State.wr_keep ..) rfl; exact Keep.refl _; exact keepO_none _

theorem State.twpCmdReg_keep (s : State) (a : Nat) (w : Word) : KeepO 0x6046180023 s (State.twpCmdReg s a w) := by
  unfold State.twpCmdReg
  with_reducible
    refine keepO_ite ?_ ?_; refine keepO_some ?_; split; refine Keep.trans ?_ (State.swapArm_keep ..) rfl
    exact Keep.refl _; refine Keep.trans ?_ (State.swapCancel_keep ..) rfl; exact Keep.refl _
    refine Keep.trans ?_ (State.isolateClaim_keep ..) rfl; exact Keep.refl _
    refine Keep.trans ?_ (State.rejoinPair_keep ..) rfl; exact Keep.refl _
    refine Keep.trans ?_ (State.resyncAll_keep ..) rfl; exact Keep.refl _; exact Keep.refl _; exact keepO_none _

theorem State.cpuCmdReg_keep (s : State) (a : Nat) (w : Word) : KeepO 0x27a818018b s (State.cpuCmdReg s a w) := by
  unfold State.cpuCmdReg
  with_reducible
    refine keepO_ite ?_ ?_; refine keepO_some ?_; split; refine Keep.trans ?_ (State.coreReset_keep ..) rfl
    exact Keep.refl _; refine Keep.trans ?_ (State.coreReset_keep ..) rfl; exact Keep.refl _; exact Keep.refl _
    refine keepO_ite ?_ ?_; dsimp only; refine keepO_some ?_; split; refine State.dbgAct_keepF ?_ ?_ rfl
    exact Keep.refl _; intro _; refine Keep.trans ?_ (State.challenge_keep ..) rfl; exact Keep.refl _
    refine State.dbgAct_keepF ?_ ?_ rfl; exact Keep.refl _; intro _; refine Keep.trans ?_ (State.dbgSubmit_keep ..) rfl
    exact Keep.refl _; refine State.dbgAct_keepF ?_ ?_ rfl; exact Keep.refl _; intro _
    refine Keep.trans ?_ (State.dbgDisable_keep ..) rfl; exact Keep.refl _; exact Keep.refl _; refine keepO_ite ?_ ?_
    refine keepO_some ?_; refine Keep.trans ?_ (State.wr_keep ..) rfl; exact Keep.refl _; exact keepO_none _

theorem State.brgCmdReg_keep (s : State) (ini : Initiator) (a : Nat) (w : Word) : KeepO 0x4104180001 s (State.brgCmdReg s ini a w) := by
  unfold State.brgCmdReg
  with_reducible
    refine keepO_ite ?_ ?_; refine keepO_some ?_; split; refine Keep.trans ?_ (State.lockCmd_keep ..) rfl
    exact Keep.refl _; refine Keep.trans ?_ (State.lockCmd_keep ..) rfl; exact Keep.refl _
    refine Keep.trans ?_ (State.lockCmd_keep ..) rfl; exact Keep.refl _; exact Keep.refl _; exact keepO_none _

theorem State.sysCmdReg_keep (s : State) (ini : Initiator) (a : Nat) (w : Word) : KeepO 0xeffffff9ff s (State.sysCmdReg s ini a w) := by
  unfold State.sysCmdReg
  with_reducible
    refine keepO_ite ?_ ?_; refine keepO_some ?_; split; refine State.sysAct_keepF ?_ ?_ rfl; exact Keep.refl _; intro _
    refine Keep.trans ?_ (State.release_keep ..) rfl; exact Keep.refl _; refine State.sysAct_keepF ?_ ?_ rfl
    exact Keep.refl _; intro _; refine Keep.trans ?_ (State.warmReset_keep ..) rfl; exact Keep.refl _
    refine State.sysAct_keepF ?_ ?_ rfl; exact Keep.refl _; intro _; refine Keep.trans ?_ (State.reloadStart_keep ..) rfl
    exact Keep.refl _; refine State.sysAct_keepF ?_ ?_ rfl; exact Keep.refl _; intro _
    refine Keep.trans ?_ (State.reloadStart_keep ..) rfl; exact Keep.refl _; refine State.sysAct_keepF ?_ ?_ rfl
    exact Keep.refl _; intro _; exact Keep.refl _; exact keepO_none _

theorem State.updCmdReg_keep (s : State) (ini : Initiator) (a : Nat) (w : Word) : KeepO 0x400000003 s (State.updCmdReg s ini a w) := by
  unfold State.updCmdReg
  with_reducible
    dsimp only; refine keepO_ite ?_ ?_; refine keepO_some ?_; split; refine State.updAct_keepF ?_ ?_ rfl
    exact Keep.refl _; intro _; intro _; refine Keep.trans ?_ (State.updOpen_keep ..) rfl; exact Keep.refl _
    refine State.updAct_keepF ?_ ?_ rfl; exact Keep.refl _; intro _; intro _
    refine Keep.trans ?_ (State.updClose_keep ..) rfl; exact Keep.refl _; refine State.updAct_keepF ?_ ?_ rfl
    exact Keep.refl _; intro _; intro _; refine Keep.trans ?_ (State.updBegin_keep ..) rfl; exact Keep.refl _
    refine State.updAct_keepF ?_ ?_ rfl; exact Keep.refl _; intro _; intro _
    refine Keep.trans ?_ (State.updBlock_keep ..) rfl; exact Keep.refl _; refine State.updAct_keepF ?_ ?_ rfl
    exact Keep.refl _; intro _; intro _; refine Keep.trans ?_ (State.updVerify_keep ..) rfl; exact Keep.refl _
    refine State.updAct_keepF ?_ ?_ rfl; exact Keep.refl _; intro _; intro _
    refine Keep.trans ?_ (State.updActivate_keep ..) rfl; exact Keep.refl _; refine State.updAct_keepF ?_ ?_ rfl
    exact Keep.refl _; intro _; intro _; refine Keep.trans ?_ (State.updConfirm_keep ..) rfl; exact Keep.refl _
    refine State.updAct_keepF ?_ ?_ rfl; exact Keep.refl _; intro _; intro _
    refine Keep.trans ?_ (State.updRevert_keep ..) rfl; exact Keep.refl _; refine State.updAct_keepF ?_ ?_ rfl
    exact Keep.refl _; intro _; intro _; refine Keep.trans ?_ (State.updRead_keep ..) rfl; exact Keep.refl _
    exact Keep.refl _; refine keepO_ite ?_ ?_; refine keepO_some ?_; refine Keep.trans ?_ (State.wr_keep ..) rfl
    exact Keep.refl _; exact keepO_none _

theorem State.wakCmdReg_keep (s : State) (a : Nat) (w : Word) : KeepO 0x4802180003 s (State.wakCmdReg s a w) := by
  unfold State.wakCmdReg
  with_reducible
    dsimp only; refine keepO_ite ?_ ?_; exact keepO_none _; refine keepO_ite ?_ ?_; refine keepO_some ?_
    exact Keep.refl _; refine keepO_some ?_; split; refine Keep.trans ?_ (State.sleepStart_keep ..) rfl; exact Keep.refl _
    refine Keep.trans ?_ (State.abortCmd_keep ..) rfl; exact Keep.refl _
    refine Keep.trans ?_ (State.sleepStart_keep ..) rfl; exact Keep.refl _
    refine Keep.trans ?_ (State.groupWakeCmd_keep ..) rfl; exact Keep.refl _
    refine Keep.trans ?_ (State.releaseIso_keep ..) rfl; exact Keep.refl _
    refine Keep.trans ?_ (State.abortCmd_keep ..) rfl; exact Keep.refl _; exact Keep.refl _

theorem State.fltCmdReg_keep (s : State) (a : Nat) (w : Word) : KeepO 0x180001 s (State.fltCmdReg s a w) := by
  unfold State.fltCmdReg
  with_reducible
    refine keepO_ite ?_ ?_; refine keepO_some ?_; refine Keep.trans ?_ (State.directClear_keep ..) rfl; exact Keep.refl _
    refine keepO_ite ?_ ?_; refine keepO_some ?_; refine keep_ite ?_ ?_; refine Keep.trans ?_ (State.firstClr_keep ..) rfl
    exact Keep.refl _; exact Keep.refl _; exact keepO_none _

theorem State.cmdReg_keep (s : State) (ini : Initiator) (a : Nat) (w : Word) : KeepO 0xeffffff9ff s (State.cmdReg s ini a w) := by
  unfold State.cmdReg
  with_reducible
    split; refine keepO_trans ?_ (State.sysCmdReg_keep ..) rfl; exact Keep.refl _
    refine keepO_trans ?_ (State.timCmd_keep ..) rfl; exact Keep.refl _; refine keepO_trans ?_ (State.tioCmd_keep ..) rfl
    exact Keep.refl _; refine keepO_trans ?_ (State.slcCmdReg_keep ..) rfl; exact Keep.refl _
    refine State.windowCmd_keepF ?_ ?_ rfl; exact Keep.refl _; intro _; refine Keep.trans ?_ (State.strRun_keep ..) rfl
    exact Keep.refl _; refine keepO_ite ?_ ?_; refine keepO_some ?_; refine Keep.trans ?_ (State.relCmd_keep ..) rfl
    exact Keep.refl _; exact keepO_none _; refine keepO_trans ?_ (State.crsCmdReg_keep ..) rfl; exact Keep.refl _
    refine keepO_trans ?_ (State.lkpCmdReg_keep ..) rfl; exact Keep.refl _
    refine keepO_trans ?_ (State.canCmdReg_keep ..) rfl; exact Keep.refl _; refine State.windowCmd_keepF ?_ ?_ rfl
    exact Keep.refl _; intro _; refine Keep.trans ?_ (State.gweRun_keep ..) rfl; exact Keep.refl _
    refine keepO_trans ?_ (State.cphCmdReg_keep ..) rfl; exact Keep.refl _
    refine keepO_trans ?_ (State.keyCmdReg_keep ..) rfl; exact Keep.refl _
    refine keepO_trans ?_ (State.twpCmdReg_keep ..) rfl; exact Keep.refl _
    refine keepO_trans ?_ (State.cpuCmdReg_keep ..) rfl; exact Keep.refl _
    refine keepO_trans ?_ (State.brgCmdReg_keep ..) rfl; exact Keep.refl _
    refine keepO_trans ?_ (State.updCmdReg_keep ..) rfl; exact Keep.refl _
    refine keepO_trans ?_ (State.wakCmdReg_keep ..) rfl; exact Keep.refl _
    refine keepO_trans ?_ (State.fltCmdReg_keep ..) rfl; exact Keep.refl _; exact keepO_none _

theorem State.busWrite_keep (s : State) (ini : Initiator) (a : Nat) (w : Word) : Keep 0xeffffffbff s (State.busWrite s ini a w).2 := by
  unfold State.busWrite
  with_reducible
    refine keep_ite2 ?_ ?_; refine keep_ite2 ?_ ?_; refine keep_pair ?_
    refine Keep.trans ?_ (State.violation_keep ..) rfl; exact Keep.refl _; refine keep_pair ?_; exact Keep.refl _
    refine State.writeEnd_keepF ?_ ?_ rfl; exact Keep.refl _; intro _; refine keep_getD ?_ ?_
    refine keepO_trans ?_ (State.cmdReg_keep ..) rfl; exact Keep.refl _; refine Keep.trans ?_ (State.regStore_keep ..) rfl
    exact Keep.refl _

theorem State.busRead_keep (s : State) (ini : Initiator) (a : Nat) : Keep 0x9601a2837 s (State.busRead s ini a).2 := by
  unfold State.busRead
  with_reducible
    refine keep_ite2 ?_ ?_; refine keep_ite2 ?_ ?_; refine keep_pair ?_
    refine Keep.trans ?_ (State.violation_keep ..) rfl; exact Keep.refl _; refine keep_pair ?_; exact Keep.refl _
    refine State.readEnd_keepF ?_ ?_ rfl; exact Keep.refl _; intro _; refine Keep.trans ?_ (State.fetchBus_keep ..) rfl
    exact Keep.refl _

theorem State.ended_keepF {m : Nat} {s0 : State} {x : BusEnd × State} {ini : Initiator} (h : Keep m s0 x.2) (hm : Incl 0x4100000000 m) :
    Keep m s0 (State.ended x ini) := h.trans (State.busOut_keep ..) hm

theorem State.semWait_keep (s : State) (ini : Initiator) (tag : Option Nat) (a : Nat) (w : Option Word) : Keep 0x100000000 s (State.semWait s ini tag a w) := by
  unfold State.semWait
  with_reducible (refine keep_mk_brg ?_ rfl; exact Keep.refl _)

theorem State.regAccess_keep (s : State) (ini : Initiator) (a size : Nat) (w : Option Word) : Keep 0xeffffffbff s (State.regAccess s ini a size w) := by
  unfold State.regAccess
  with_reducible
    refine keep_ite ?_ ?_; split; refine Keep.trans ?_ (State.windowWrite_keep ..) rfl; exact Keep.refl _
    refine Keep.trans ?_ (State.windowRead_keep ..) rfl; exact Keep.refl _; refine keep_ite ?_ ?_
    refine Keep.trans ?_ (State.busOut_keep ..) rfl; exact Keep.refl _; split
    refine Keep.trans ?_ (State.semWait_keep ..) rfl; exact Keep.refl _; refine State.ended_keepF ?_ rfl; split
    refine Keep.trans ?_ (State.busWrite_keep ..) rfl; exact Keep.refl _; refine Keep.trans ?_ (State.busRead_keep ..) rfl
    exact Keep.refl _

theorem State.registerWrite_keep (s : State) (ini : Initiator) (a size : Nat) (w : Word) : Keep 0xeffffffbff s (State.registerWrite s ini a size w) := by
  unfold State.registerWrite
  with_reducible (refine keep_ite ?_ ?_; exact Keep.refl _; refine Keep.trans ?_ (State.regAccess_keep ..) rfl; exact Keep.refl _)

theorem State.eventClear_keep (s : State) (ini : Initiator) (a : Nat) (w : Word) : Keep 0x61e699dbfb s (State.eventClear s ini a w) := by
  unfold State.eventClear
  with_reducible
    split; refine keep_ite ?_ ?_; refine State.writeAt_keepF ?_ ?_ rfl; exact Keep.refl _; intro _
    refine Keep.trans ?_ (State.regStore_keep ..) rfl; exact Keep.refl _; exact Keep.refl _; exact Keep.refl _

theorem State.counterLow_keep (s : State) (ini : Initiator) (a : Nat) : Keep 0x4000180807 s (State.counterLow s ini a) := by
  unfold State.counterLow
  with_reducible
    refine keep_ite ?_ ?_; refine State.readAt_keepF ?_ ?_ rfl; exact Keep.refl _; intro _
    refine Keep.trans ?_ (State.cntRead_keep ..) rfl; exact Keep.refl _; exact Keep.refl _

theorem State.holdingLow_keep (s : State) (ini : Initiator) (a : Nat) : Keep 0x4000180005 s (State.holdingLow s ini a) := by
  unfold State.holdingLow
  with_reducible
    split; refine State.readAt_keepF ?_ ?_ rfl; exact Keep.refl _; intro _
    refine Keep.trans ?_ (State.pairRead_keep ..) rfl; exact Keep.refl _; exact Keep.refl _

theorem State.ramAccess_keep (s : State) (ini : Initiator) (pair a size : Nat) (w : Option Word) : Keep 0x5000000000 s (State.ramAccess s ini pair a size w) := by
  unfold State.ramAccess
  with_reducible
    split; refine Keep.trans ?_ (State.emit_keep ..) rfl; refine Keep.trans ?_ (State.memStore_keep ..) rfl
    exact Keep.refl _; refine Keep.trans ?_ (State.emit_keep ..) rfl; exact Keep.refl _

theorem State.romAccess_keep (s : State) (ini : Initiator) (size : Nat) (w : Option Word) : Keep 0x6000000000 s (State.romAccess s ini size w) := by
  unfold State.romAccess
  with_reducible
    split; refine Keep.trans ?_ (State.emit_keep ..) rfl; exact Keep.refl _; dsimp only
    refine Keep.trans ?_ (State.emit_keep ..) rfl; refine Keep.trans ?_ (State.draw_keep ..) rfl; exact Keep.refl _

theorem State.mapAccess_keep (s : State) (ini : Initiator) (sec : Bool) (a size : Nat) (w : Option Word) : Keep 0xfffffffbff s (State.mapAccess s ini sec a size w) := by
  unfold State.mapAccess
  with_reducible
    split; refine Keep.trans ?_ (State.emit_keep ..) rfl; exact Keep.refl _
    refine Keep.trans ?_ (State.regAccess_keep ..) rfl; exact Keep.refl _
    refine Keep.trans ?_ (State.romAccess_keep ..) rfl; exact Keep.refl _
    refine Keep.trans ?_ (State.ramAccess_keep ..) rfl; exact Keep.refl _

theorem State.coreMem_keep (s : State) (ini : Initiator) (a size : Nat) (w : Option Word) (ecc : EccState) : Keep 0xfffffffbff s (State.coreMem s ini a size w ecc) := by
  unfold State.coreMem
  with_reducible
    dsimp only; refine keep_ite ?_ ?_; exact Keep.refl _; refine keep_ite ?_ ?_
    refine Keep.trans ?_ (State.emit_keep ..) rfl; exact Keep.refl _; split; refine keep_ite ?_ ?_
    refine Keep.trans ?_ (State.mapAccess_keep ..) rfl; exact Keep.refl _; refine keep_ite ?_ ?_
    refine Keep.trans ?_ (State.mapAccess_keep ..) rfl; refine Keep.trans ?_ (State.memCorrected_keep ..) rfl
    exact Keep.refl _; refine Keep.trans ?_ (State.emit_keep ..) rfl; refine Keep.trans ?_ (State.memFailed_keep ..) rfl
    exact Keep.refl _; refine Keep.trans ?_ (State.emit_keep ..) rfl; exact Keep.refl _

theorem State.heldAccess_keep (s : State) (sec : Bool) (a d size : Nat) (write machine : Bool) : Keep 0xfffffffbff s (State.heldAccess s sec a d size write machine) := by
  unfold State.heldAccess
  with_reducible
    dsimp only; refine keep_ite ?_ ?_; exact Keep.refl _; refine keep_ite ?_ ?_
    refine Keep.trans ?_ (State.emit_keep ..) rfl; exact Keep.refl _; refine Keep.trans ?_ (State.coreMem_keep ..) rfl
    exact Keep.refl _

theorem State.release__keep (s : State) (sec : Bool) (z0 : CoreItem) : Keep 0xfffffffbff s (State.release_ s sec z0) := by
  unfold State.release_
  with_reducible
    split; refine Keep.trans ?_ (State.setGpr_keep ..) rfl; exact Keep.refl _
    refine Keep.trans ?_ (State.setCsr_keep ..) rfl; exact Keep.refl _
    refine Keep.trans ?_ (State.heldAccess_keep ..) rfl; exact Keep.refl _

theorem State.checked_keep (s : State) (sec : Bool) (main checker : Option CoreItem) (pc : Word) : Keep 0xfffffffbff s (State.checked s sec main checker pc) := by
  unfold State.checked
  with_reducible
    split; refine keep_ite ?_ ?_; refine keep_ite ?_ ?_; exact Keep.refl _
    refine Keep.trans ?_ (State.release__keep ..) rfl; exact Keep.refl _
    refine Keep.trans ?_ (State.mismatch_keep ..) rfl; exact Keep.refl _
    refine Keep.trans ?_ (State.mismatch_keep ..) rfl; exact Keep.refl _
    refine Keep.trans ?_ (State.mismatch_keep ..) rfl; exact Keep.refl _; exact Keep.refl _

theorem State.sysbus_keep (s : State) (a size : Nat) (w : Option Word) : Keep 0xfffffffbff s (State.sysbus s a size w) := by
  unfold State.sysbus
  with_reducible
    refine keep_ite ?_ ?_; exact Keep.refl _; refine keep_ite ?_ ?_; refine Keep.trans ?_ (State.emit_keep ..) rfl
    exact Keep.refl _; refine Keep.trans ?_ (State.mapAccess_keep ..) rfl; exact Keep.refl _

theorem State.peerRead_keep (s : State) (tag a : Nat) : Keep 0x49641a2837 s (State.peerRead s tag a) := by
  unfold State.peerRead
  with_reducible
    dsimp only; refine Keep.trans ?_ (State.twSend_keep ..) rfl; refine keep_ite2 ?_ ?_; refine keep_pair ?_
    exact Keep.refl _; refine Keep.trans ?_ (State.busRead_keep ..) rfl; exact Keep.refl _

theorem State.bridgeRead_keep (s : State) (h : TwHead) (ws : List Word) : Keep 0x69761b79bf s (State.bridgeRead s h ws) := by
  unfold State.bridgeRead
  with_reducible
    refine keep_ite ?_ ?_; exact Keep.refl _; refine State.twGet_keepF ?_ ?_ rfl; exact Keep.refl _; intro _; dsimp only
    refine keep_ite ?_ ?_; refine Keep.trans ?_ (State.semWait_keep ..) rfl; refine Keep.trans ?_ (State.bump_keep ..) rfl
    exact Keep.refl _; refine Keep.trans ?_ (State.peerRead_keep ..) rfl; refine Keep.trans ?_ (State.bump_keep ..) rfl
    exact Keep.refl _

theorem State.bridgeWrite_keep (s : State) (h : TwHead) (ws : List Word) : Keep 0xeffffffbff s (State.bridgeWrite s h ws) := by
  unfold State.bridgeWrite
  with_reducible
    refine keep_ite ?_ ?_; exact Keep.refl _; refine State.twGet_keepF ?_ ?_ rfl; exact Keep.refl _; intro _; dsimp only
    refine keep_ite ?_ ?_; refine Keep.trans ?_ (State.twSend_keep ..) rfl; refine Keep.trans ?_ (State.bump_keep ..) rfl
    exact Keep.refl _; split; refine Keep.trans ?_ (State.semWait_keep ..) rfl
    refine Keep.trans ?_ (State.bump_keep ..) rfl; exact Keep.refl _; refine keep_ite ?_ ?_
    refine Keep.trans ?_ (State.busWrite_keep ..) rfl; refine Keep.trans ?_ (State.bump_keep ..) rfl; exact Keep.refl _
    refine Keep.trans ?_ (State.twSend_keep ..) rfl; refine Keep.trans ?_ (State.busWrite_keep ..) rfl
    refine Keep.trans ?_ (State.bump_keep ..) rfl; exact Keep.refl _

theorem State.waitServe_keep (s : State) (x : SemWait) : Keep 0x49641a2837 s (State.waitServe s x) := by
  unfold State.waitServe
  with_reducible
    split; refine Keep.trans ?_ (State.peerRead_keep ..) rfl; exact Keep.refl _
    refine Keep.trans ?_ (State.semServe_keep ..) rfl; exact Keep.refl _

theorem State.bridgeUnlock_keep (s : State) (h : TwHead) (ws : List Word) (write : Bool) : Keep 0x69761b79bf s (State.bridgeUnlock s h ws write) := by
  unfold State.bridgeUnlock
  with_reducible
    refine State.twGet_keepF ?_ ?_ rfl; exact Keep.refl _; intro _; dsimp only; split
    refine Keep.trans ?_ (State.bridgeAnswer_keep ..) rfl; refine Keep.trans ?_ (State.bump_keep ..) rfl
    exact Keep.refl _; refine keep_ite ?_ ?_; refine Keep.trans ?_ (State.bridgeAnswer_keep ..) rfl
    refine Keep.trans ?_ (State.bump_keep ..) rfl; exact Keep.refl _
    refine Keep.trans ?_ (State.bridgeAnswer_keep ..) rfl; refine State.lockRelease_keepF ?_ ?_ rfl; refine keep_ite ?_ ?_
    refine State.writeEnd_keepF ?_ ?_ rfl; refine Keep.trans ?_ (State.bump_keep ..) rfl; exact Keep.refl _; intro _
    refine Keep.trans ?_ (State.wr_keep ..) rfl; exact Keep.refl _; refine Keep.trans ?_ (State.bump_keep ..) rfl
    exact Keep.refl _; intro _; intro _; refine Keep.trans ?_ (State.waitServe_keep ..) rfl; exact Keep.refl _

theorem State.lockTimedOut_keep (s : State) : Keep 0x49641a2837 s (State.lockTimedOut s) := by
  unfold State.lockTimedOut
  with_reducible
    split; exact Keep.refl _; refine keep_ite ?_ ?_; exact Keep.refl _; refine Keep.trans ?_ (State.raise_keep ..) rfl
    refine Keep.trans ?_ (State.bump_keep ..) rfl; refine State.lockRelease_keepF ?_ ?_ rfl; exact Keep.refl _; intro _
    intro _; refine Keep.trans ?_ (State.waitServe_keep ..) rfl; exact Keep.refl _

end Sys2Proof.Machine
end

