-- ==== Sys2Proof/Laws/KeepExec.lean ====
section
/-! SUPPORT. What the meaning of each command keeps, one lemma a meaning. -/

set_option linter.unusedVariables false
set_option maxRecDepth 4000

namespace Sys2Proof.Machine

theorem execSluiceResolve_keep (fid : Nat) (bad : Option (Fin 4)) (s : State) {t : State} (h : execSluiceResolve fid bad s = .next t) : Keep 0x400518558b s t := by
  obtain rfl := Host.Outcome.next.inj h
  with_reducible
    refine Keep.trans ?_ (State.admitInternal_keep ..) rfl; refine Keep.trans ?_ (State.sluiceResolve_keep ..) rfl
    exact Keep.refl _

theorem execVersionOpen_keep (ini : Initiator) (s : State) {t : State} (h : execVersionOpen ini s = .next t) : Keep 0x4000181009 s t := by
  obtain rfl := Host.Outcome.next.inj h
  with_reducible
    refine State.writeAt_keepF ?_ ?_ rfl; exact Keep.refl _; intro _; refine Keep.trans ?_ (State.verOpen_keep ..) rfl
    exact Keep.refl _

theorem execVersionCommitNow_keep (ini : Initiator) (s : State) {t : State} (h : execVersionCommitNow ini s = .next t) : Keep 0x4000181001 s t := by
  obtain rfl := Host.Outcome.next.inj h
  with_reducible
    refine State.writeAt_keepF ?_ ?_ rfl; exact Keep.refl _; intro _
    refine Keep.trans ?_ (State.verCommitNow_keep ..) rfl; exact Keep.refl _

theorem execVersionAbandon_keep (ini : Initiator) (s : State) {t : State} (h : execVersionAbandon ini s = .next t) : Keep 0x4004191001 s t := by
  obtain rfl := Host.Outcome.next.inj h
  with_reducible
    refine State.writeAt_keepF ?_ ?_ rfl; exact Keep.refl _; intro _; refine Keep.trans ?_ (State.verAbandon_keep ..) rfl
    exact Keep.refl _

theorem execVersionRetire_keep (v : Fin 8) (s : State) {t : State} (h : execVersionRetire v s = .next t) : Keep 0x181001 s t := by
  obtain rfl := Host.Outcome.next.inj h
  with_reducible (refine Keep.trans ?_ (State.verRetire_keep ..) rfl; exact Keep.refl _)

theorem execRuleSweepDone_keep (s : State) {t : State} (h : execRuleSweepDone s = .next t) : Keep 0x181009 s t := by
  obtain rfl := Host.Outcome.next.inj h
  with_reducible (refine Keep.trans ?_ (State.sweepDone_keep ..) rfl; exact Keep.refl _)

theorem execSlcTblRead_keep (ini : Initiator) (cmd : Word) (ecc : EccState) (s : State) {t : State} (h : execSlcTblRead ini cmd ecc s = .next t) : Keep 0x4000181009 s t := by
  obtain rfl := Host.Outcome.next.inj h
  with_reducible (refine Keep.trans ?_ (State.slcTable_keep ..) rfl; exact Keep.refl _)

theorem execSlcTblWrite_keep (ini : Initiator) (cmd : Word) (s : State) {t : State} (h : execSlcTblWrite ini cmd s = .next t) : Keep 0x4000181009 s t := by
  obtain rfl := Host.Outcome.next.inj h
  with_reducible (refine Keep.trans ?_ (State.slcTable_keep ..) rfl; exact Keep.refl _)

theorem execSlcTblHash_keep (ini : Initiator) (cmd : Word) (s : State) {t : State} (h : execSlcTblHash ini cmd s = .next t) : Keep 0x4000181009 s t := by
  obtain rfl := Host.Outcome.next.inj h
  with_reducible (refine Keep.trans ?_ (State.slcTable_keep ..) rfl; exact Keep.refl _)

theorem execSlcTblMove_keep (ini : Initiator) (cmd : Word) (s : State) {t : State} (h : execSlcTblMove ini cmd s = .next t) : Keep 0x4000181009 s t := by
  obtain rfl := Host.Outcome.next.inj h
  with_reducible (refine Keep.trans ?_ (State.slcTable_keep ..) rfl; exact Keep.refl _)

theorem execSlcTblLookup_keep (ini : Initiator) (cmd : Word) (s : State) {t : State} (h : execSlcTblLookup ini cmd s = .next t) : Keep 0x4000181009 s t := by
  obtain rfl := Host.Outcome.next.inj h
  with_reducible (refine Keep.trans ?_ (State.slcTable_keep ..) rfl; exact Keep.refl _)

theorem execOpenSweepDone_keep (s : State) {t : State} (h : execOpenSweepDone s = .next t) : Keep 0x181009 s t := by
  obtain rfl := Host.Outcome.next.inj h
  with_reducible (refine Keep.trans ?_ (State.openSweepDone_keep ..) rfl; exact Keep.refl _)

theorem execStreamStages_keep (fid : Nat) (bad : Option (Fin 5)) (s : State) {t : State} (h : execStreamStages fid bad s = .next t) : Keep 0x400518758b s t := by
  obtain rfl := Host.Outcome.next.inj h
  with_reducible
    refine Keep.trans ?_ (State.admitInternal_keep ..) rfl; refine Keep.trans ?_ (State.streamStages_keep ..) rfl
    exact Keep.refl _

theorem execMeterRefill_keep (s : State) {t : State} (h : execMeterRefill s = .next t) : Keep 0x2008 s t := by
  obtain rfl := Host.Outcome.next.inj h
  with_reducible (refine Keep.trans ?_ (State.meterRefill_keep ..) rfl; exact Keep.refl _)

theorem execRecoveryTimeout_keep (f : Fin 1024) (s : State) {t : State} (h : execRecoveryTimeout f s = .next t) : Keep 0x182009 s t := by
  obtain rfl := Host.Outcome.next.inj h
  with_reducible (refine Keep.trans ?_ (State.recoveryTimeout_keep ..) rfl; exact Keep.refl _)

theorem execStrTblRead_keep (ini : Initiator) (cmd : Word) (ecc : EccState) (s : State) {t : State} (h : execStrTblRead ini cmd ecc s = .next t) : Keep 0x4000182009 s t := by
  obtain rfl := Host.Outcome.next.inj h
  with_reducible (refine Keep.trans ?_ (State.strTable_keep ..) rfl; exact Keep.refl _)

theorem execStrTblWrite_keep (ini : Initiator) (cmd : Word) (s : State) {t : State} (h : execStrTblWrite ini cmd s = .next t) : Keep 0x4000182009 s t := by
  obtain rfl := Host.Outcome.next.inj h
  with_reducible (refine Keep.trans ?_ (State.strTable_keep ..) rfl; exact Keep.refl _)

theorem execClearLatch_keep (ini : Initiator) (cmd : Word) (s : State) {t : State} (h : execClearLatch ini cmd s = .next t) : Keep 0x4000182009 s t := by
  obtain rfl := Host.Outcome.next.inj h
  with_reducible (refine Keep.trans ?_ (State.strTable_keep ..) rfl; exact Keep.refl _)

theorem execFill_keep (ini : Initiator) (cmd : Word) (s : State) {t : State} (h : execFill ini cmd s = .next t) : Keep 0x4000182009 s t := by
  obtain rfl := Host.Outcome.next.inj h
  with_reducible (refine Keep.trans ?_ (State.strTable_keep ..) rfl; exact Keep.refl _)

theorem execRecReset_keep (ini : Initiator) (cmd : Word) (s : State) {t : State} (h : execRecReset ini cmd s = .next t) : Keep 0x4000182009 s t := by
  obtain rfl := Host.Outcome.next.inj h
  with_reducible (refine Keep.trans ?_ (State.strTable_keep ..) rfl; exact Keep.refl _)

theorem execStrEvqRead_keep (ini : Initiator) (s : State) {t : State} (h : execStrEvqRead ini s = .next t) : Keep 0x4000182001 s t := by
  obtain rfl := Host.Outcome.next.inj h
  with_reducible
    refine State.readAt_keepF ?_ ?_ rfl; exact Keep.refl _; intro _; refine Keep.trans ?_ (State.evqPop_keep ..) rfl
    exact Keep.refl _

theorem execAlignmentComplete_keep (s : State) {t : State} (h : execAlignmentComplete s = .next t) : Keep 0x11 s t := by
  obtain rfl := Host.Outcome.next.inj h
  with_reducible (refine Keep.trans ?_ (State.alignmentComplete_keep ..) rfl; exact Keep.refl _)

theorem execTrackerTimeout_keep (d : Fin 2) (s : State) {t : State} (h : execTrackerTimeout d s = .next t) : Keep 0x180013 s t := by
  obtain rfl := Host.Outcome.next.inj h
  with_reducible (refine Keep.trans ?_ (State.trackerTimeout_keep ..) rfl; exact Keep.refl _)

theorem execRevertDelayExpiry_keep (s : State) {t : State} (h : execRevertDelayExpiry s = .next t) : Keep 0x180013 s t := by
  obtain rfl := Host.Outcome.next.inj h
  with_reducible (refine Keep.trans ?_ (State.revertExpiry_keep ..) rfl; exact Keep.refl _)

theorem execHoldoverLimitExpiry_keep (s : State) {t : State} (h : execHoldoverLimitExpiry s = .next t) : Keep 0x180001 s t := by
  obtain rfl := Host.Outcome.next.inj h
  with_reducible (refine Keep.trans ?_ (State.holdoverExpiry_keep ..) rfl; exact Keep.refl _)

theorem execWtIncrWrite_keep (ini : Initiator) (value : Word) (s : State) {t : State} (h : execWtIncrWrite ini value s = .next t) : Keep 0x4000180011 s t := by
  obtain rfl := Host.Outcome.next.inj h
  with_reducible
    refine State.writeAt_keepF ?_ ?_ rfl; exact Keep.refl _; intro _; refine Keep.trans ?_ (State.wtIncr_keep ..) rfl
    exact Keep.refl _

theorem execWtAdjWrite_keep (ini : Initiator) (value : Word) (s : State) {t : State} (h : execWtAdjWrite ini value s = .next t) : Keep 0x4000180011 s t := by
  obtain rfl := Host.Outcome.next.inj h
  with_reducible
    refine State.writeAt_keepF ?_ ?_ rfl; exact Keep.refl _; intro _; refine Keep.trans ?_ (State.wtAdj_keep ..) rfl
    exact Keep.refl _

theorem execWtSnap_keep (ini : Initiator) (s : State) {t : State} (h : execWtSnap ini s = .next t) : Keep 0x4000180001 s t := by
  obtain rfl := Host.Outcome.next.inj h
  with_reducible
    refine State.writeAt_keepF ?_ ?_ rfl; exact Keep.refl _; intro _; refine Keep.trans ?_ (State.wtSnap_keep ..) rfl
    exact Keep.refl _

theorem execDomOffAdjWrite_keep (ini : Initiator) (d : Fin 2) (value : Word) (s : State) {t : State} (h : execDomOffAdjWrite ini d value s = .next t) : Keep 0x4000180011 s t := by
  obtain rfl := Host.Outcome.next.inj h
  with_reducible
    refine State.writeAt_keepF ?_ ?_ rfl; exact Keep.refl _; intro _; refine Keep.trans ?_ (State.domOffAdj_keep ..) rfl
    exact Keep.refl _

theorem execDomRateAdjWrite_keep (ini : Initiator) (d : Fin 2) (value : Word) (s : State) {t : State} (h : execDomRateAdjWrite ini d value s = .next t) : Keep 0x4000180011 s t := by
  obtain rfl := Host.Outcome.next.inj h
  with_reducible
    refine State.writeAt_keepF ?_ ?_ rfl; exact Keep.refl _; intro _; refine Keep.trans ?_ (State.domRateAdj_keep ..) rfl
    exact Keep.refl _

theorem execDomSetHiWrite_keep (ini : Initiator) (d : Fin 2) (value : Word) (s : State) {t : State} (h : execDomSetHiWrite ini d value s = .next t) : Keep 0x4000180011 s t := by
  obtain rfl := Host.Outcome.next.inj h
  with_reducible
    refine State.writeAt_keepF ?_ ?_ rfl; exact Keep.refl _; intro _; refine Keep.trans ?_ (State.domSetHi_keep ..) rfl
    exact Keep.refl _

theorem execSyncReceive_keep (d : Fin 2) (port : Fin 14) (frame : Bytes) (t2 : Nat) (s : State) {t : State} (h : execSyncReceive d port frame t2 s = .next t) : Keep 0x2000180013 s t := by
  obtain rfl := Host.Outcome.next.inj h
  with_reducible (refine Keep.trans ?_ (State.syncReceive_keep ..) rfl; exact Keep.refl _)

theorem execFollowUpReceive_keep (d : Fin 2) (port : Fin 14) (frame : Bytes) (s : State) {t : State} (h : execFollowUpReceive d port frame s = .next t) : Keep 0x2000180013 s t := by
  obtain rfl := Host.Outcome.next.inj h
  with_reducible (refine Keep.trans ?_ (State.followUpReceive_keep ..) rfl; exact Keep.refl _)

theorem execSyncRecRead_keep (ini : Initiator) (d : Fin 2) (s : State) {t : State} (h : execSyncRecRead ini d s = .next t) : Keep 0x4000180011 s t := by
  obtain rfl := Host.Outcome.next.inj h
  with_reducible
    refine State.readAt_keepF ?_ ?_ rfl; exact Keep.refl _; intro _; refine Keep.trans ?_ (State.syncRecPop_keep ..) rfl
    exact Keep.refl _

theorem execLttInfoRead_keep (ini : Initiator) (port : Fin 14) (rec : Fin 3) (s : State) {t : State} (h : execLttInfoRead ini port rec s = .next t) : Keep 0x4000180001 s t := by
  obtain rfl := Host.Outcome.next.inj h
  with_reducible
    refine State.readAt_keepF ?_ ?_ rfl; exact Keep.refl _; intro _; refine Keep.trans ?_ (State.lttRead_keep ..) rfl
    exact Keep.refl _

theorem execPinArm_keep (ini : Initiator) (pin : Fin 16) (s : State) {t : State} (h : execPinArm ini pin s = .next t) : Keep 0x4000180021 s t := by
  obtain rfl := Host.Outcome.next.inj h
  with_reducible
    refine State.writeAt_keepF ?_ ?_ rfl; exact Keep.refl _; intro _; refine Keep.trans ?_ (State.pinArm_keep ..) rfl
    exact Keep.refl _

theorem execPinStop_keep (ini : Initiator) (pin : Fin 16) (s : State) {t : State} (h : execPinStop ini pin s = .next t) : Keep 0x4000180021 s t := by
  obtain rfl := Host.Outcome.next.inj h
  with_reducible
    refine State.writeAt_keepF ?_ ?_ rfl; exact Keep.refl _; intro _; refine Keep.trans ?_ (State.pinStop_keep ..) rfl
    exact Keep.refl _

theorem execPulseLeadingEdge_keep (pin : Fin 16) (s : State) {t : State} (h : execPulseLeadingEdge pin s = .next t) : Keep 0x4000000020 s t := by
  obtain rfl := Host.Outcome.next.inj h
  with_reducible (refine Keep.trans ?_ (State.pulseLead_keep ..) rfl; exact Keep.refl _)

theorem execPulseTrailingEdge_keep (pin : Fin 16) (s : State) {t : State} (h : execPulseTrailingEdge pin s = .next t) : Keep 0x4000000022 s t := by
  obtain rfl := Host.Outcome.next.inj h
  with_reducible (refine Keep.trans ?_ (State.pulseTrail_keep ..) rfl; exact Keep.refl _)

theorem execPairedEnableChange_keep (pin : Fin 16) (s : State) {t : State} (h : execPairedEnableChange pin s = .next t) : Keep 0x4000000020 s t := by
  obtain rfl := Host.Outcome.next.inj h
  with_reducible (refine Keep.trans ?_ (State.pairedEnable_keep ..) rfl; exact Keep.refl _)

theorem execEvtHoldExpiry_keep (pin : Fin 16) (s : State) {t : State} (h : execEvtHoldExpiry pin s = .next t) : Keep 0x2a2 s t := by
  obtain rfl := Host.Outcome.next.inj h
  with_reducible (refine Keep.trans ?_ (State.evtHold_keep ..) rfl; exact Keep.refl _)

theorem execInputEdge_keep (pin : Fin 16) (high : Bool) (phase : Fin 8) (s : State) {t : State} (h : execInputEdge pin high phase s = .next t) : Keep 0x1802a3 s t := by
  obtain rfl := Host.Outcome.next.inj h
  with_reducible (refine Keep.trans ?_ (State.inputEdge_keep ..) rfl; exact Keep.refl _)

theorem execEdgeFilterExpiry_keep (pin : Fin 16) (s : State) {t : State} (h : execEdgeFilterExpiry pin s = .next t) : Keep 0x1802a3 s t := by
  obtain rfl := Host.Outcome.next.inj h
  with_reducible (refine Keep.trans ?_ (State.edgeAccept_keep ..) rfl; exact Keep.refl _)

theorem execInputStuckTimeout_keep (pin : Fin 16) (s : State) {t : State} (h : execInputStuckTimeout pin s = .next t) : Keep 0x1802a3 s t := by
  obtain rfl := Host.Outcome.next.inj h
  with_reducible (refine Keep.trans ?_ (State.inputStuck_keep ..) rfl; exact Keep.refl _)

theorem execPinRelease_keep (ini : Initiator) (pin : Fin 16) (s : State) {t : State} (h : execPinRelease ini pin s = .next t) : Keep 0x4000180021 s t := by
  obtain rfl := Host.Outcome.next.inj h
  with_reducible
    refine State.writeAt_keepF ?_ ?_ rfl; exact Keep.refl _; intro _; refine Keep.trans ?_ (State.pinRelease_keep ..) rfl
    exact Keep.refl _

theorem execCapSecHiRead_keep (ini : Initiator) (pin : Fin 16) (s : State) {t : State} (h : execCapSecHiRead ini pin s = .next t) : Keep 0x4000180021 s t := by
  obtain rfl := Host.Outcome.next.inj h
  with_reducible
    refine State.readAt_keepF ?_ ?_ rfl; exact Keep.refl _; intro _; refine Keep.trans ?_ (State.capPop_keep ..) rfl
    exact Keep.refl _

theorem execPinModeWrite_keep (ini : Initiator) (pin : Fin 16) (value : Word) (s : State) {t : State} (h : execPinModeWrite ini pin value s = .next t) : Keep 0x40001802a3 s t := by
  obtain rfl := Host.Outcome.next.inj h
  with_reducible
    refine State.writeAt_keepF ?_ ?_ rfl; exact Keep.refl _; intro _; refine Keep.trans ?_ (State.pinCfgWrite_keep ..) rfl
    exact Keep.refl _

theorem execMarkerEnableWrite_keep (ini : Initiator) (value : Word) (s : State) {t : State} (h : execMarkerEnableWrite ini value s = .next t) : Keep 0x4000180041 s t := by
  obtain rfl := Host.Outcome.next.inj h
  with_reducible
    refine State.writeAt_keepF ?_ ?_ rfl; exact Keep.refl _; intro _; refine Keep.trans ?_ (State.mkCtrlWrite_keep ..) rfl
    exact Keep.refl _

theorem execMarkerInstant_keep (s : State) {t : State} (h : execMarkerInstant s = .next t) : Keep 0x2c3 s t := by
  obtain rfl := Host.Outcome.next.inj h
  with_reducible (refine Keep.trans ?_ (State.markerInstant_keep ..) rfl; exact Keep.refl _)

theorem execPfcXon_keep (port : Fin 14) (tc : Fin 8) (s : State) {t : State} (h : execPfcXon port tc s = .next t) : Keep 0x801 s t := by
  obtain rfl := Host.Outcome.next.inj h
  with_reducible (refine Keep.trans ?_ (State.pfcXon_keep ..) rfl; exact Keep.refl _)

theorem execLosslessWaitExpiry_keep (port : Fin 14) (s : State) {t : State} (h : execLosslessWaitExpiry port s = .next t) : Keep 0x181183 s t := by
  obtain rfl := Host.Outcome.next.inj h
  with_reducible (refine Keep.trans ?_ (State.losslessWait_keep ..) rfl; exact Keep.refl _)

theorem execRelCmd_keep (ini : Initiator) (value : Word) (s : State) {t : State} (h : execRelCmd ini value s = .next t) : Keep 0x4000185183 s t := by
  obtain rfl := Host.Outcome.next.inj h
  with_reducible
    refine State.writeAt_keepF ?_ ?_ rfl; exact Keep.refl _; intro _; refine Keep.trans ?_ (State.relCmd_keep ..) rfl
    exact Keep.refl _

theorem execBufSelWrite_keep (ini : Initiator) (value : Word) (s : State) {t : State} (h : execBufSelWrite ini value s = .next t) : Keep 0x4000180001 s t := by
  obtain rfl := Host.Outcome.next.inj h
  with_reducible
    refine State.writeAt_keepF ?_ ?_ rfl; exact Keep.refl _; intro _; refine Keep.trans ?_ (State.bufSel_keep ..) rfl
    exact Keep.refl _

theorem execVoqSelWrite_keep (ini : Initiator) (value : Word) (s : State) {t : State} (h : execVoqSelWrite ini value s = .next t) : Keep 0x4000180001 s t := by
  obtain rfl := Host.Outcome.next.inj h
  with_reducible
    refine State.writeAt_keepF ?_ ?_ rfl; exact Keep.refl _; intro _; refine Keep.trans ?_ (State.voqSel_keep ..) rfl
    exact Keep.refl _

theorem execHoldAssert_keep (port : Fin 16) (s : State) {t : State} (h : execHoldAssert port s = .next t) : Keep 0x10003 s t := by
  obtain rfl := Host.Outcome.next.inj h
  with_reducible (refine Keep.trans ?_ (State.holdAssert_keep ..) rfl; exact Keep.refl _)

theorem execGateEntryStart_keep (port : Fin 16) (ecc : EccState) (s : State) {t : State} (h : execGateEntryStart port ecc s = .next t) : Keep 0x190103 s t := by
  obtain rfl := Host.Outcome.next.inj h
  with_reducible (refine Keep.trans ?_ (State.gateEntryStart_keep ..) rfl; exact Keep.refl _)

theorem execShaperRefill_keep (s : State) {t : State} (h : execShaperRefill s = .next t) : Keep 0x10000 s t := by
  obtain rfl := Host.Outcome.next.inj h
  with_reducible (refine Keep.trans ?_ (State.shaperRefillAll_keep ..) rfl; exact Keep.refl _)

theorem execLkpTblRead_keep (ini : Initiator) (cmd : Word) (ecc : EccState) (s : State) {t : State} (h : execLkpTblRead ini cmd ecc s = .next t) : Keep 0x4000180009 s t := by
  obtain rfl := Host.Outcome.next.inj h
  with_reducible (refine Keep.trans ?_ (State.lkpTable_keep ..) rfl; exact Keep.refl _)

theorem execLkpTblWrite_keep (ini : Initiator) (cmd : Word) (s : State) {t : State} (h : execLkpTblWrite ini cmd s = .next t) : Keep 0x4000180009 s t := by
  obtain rfl := Host.Outcome.next.inj h
  with_reducible (refine Keep.trans ?_ (State.lkpTable_keep ..) rfl; exact Keep.refl _)

theorem execAgeScan_keep (s : State) {t : State} (h : execAgeScan s = .next t) : Keep 0x4004185183 s t := by
  obtain rfl := Host.Outcome.next.inj h
  with_reducible (refine Keep.trans ?_ (State.ageScan_keep ..) rfl; exact Keep.refl _)

theorem execCellTime_keep (faultA faultB : CrsFault) (reads : List (Fin 16 × EccState)) (record : Option (Fin 16 × BitVec 24)) (s : State) {t : State} (h : execCellTime faultA faultB reads record s = .next t) : Keep 0x41441dd99b s t := by
  obtain rfl := Host.Outcome.next.inj h
  with_reducible (refine Keep.trans ?_ (State.endStomped_keep ..) rfl; refine Keep.trans ?_ (State.cellTime_keep ..) rfl; exact Keep.refl _)

theorem execCellArrival_keep (inp out : Fin 16) (express : Bool) (seq : BitVec 16) (idx : Fin 152) (flips : BitVec 192) (ecc : EccState) (s : State) {t : State} (h : execCellArrival inp out express seq idx flips ecc s = .next t) : Keep 0x4004185183 s t := by
  obtain rfl := Host.Outcome.next.inj h
  with_reducible (refine Keep.trans ?_ (State.cellArrival_keep ..) rfl; exact Keep.refl _)

theorem execCellMissingTimeout_keep (inp out : Fin 16) (express : Bool) (seq : BitVec 16) (idx : Fin 152) (s : State) {t : State} (h : execCellMissingTimeout inp out express seq idx s = .next t) : Keep 0x4004185183 s t := by
  obtain rfl := Host.Outcome.next.inj h
  with_reducible (refine Keep.trans ?_ (State.cellMissing_keep ..) rfl; exact Keep.refl _)

theorem execPlaneRemoveCmd_keep (ini : Initiator) (plane : Plane) (s : State) {t : State} (h : execPlaneRemoveCmd ini plane s = .next t) : Keep 0x40041c5183 s t := by
  obtain rfl := Host.Outcome.next.inj h
  with_reducible
    refine State.writeAt_keepF ?_ ?_ rfl; exact Keep.refl _; intro _; refine Keep.trans ?_ (State.planeLeaves_keep ..) rfl
    exact Keep.refl _

theorem execPlaneRestoreCmd_keep (ini : Initiator) (plane : Plane) (s : State) {t : State} (h : execPlaneRestoreCmd ini plane s = .next t) : Keep 0x4000188001 s t := by
  obtain rfl := Host.Outcome.next.inj h
  with_reducible
    refine State.writeAt_keepF ?_ ?_ rfl; exact Keep.refl _; intro _
    refine Keep.trans ?_ (State.planeRestore_keep ..) rfl; exact Keep.refl _

theorem execPlaneSelfCheckDone_keep (plane : Plane) (pass : Bool) (s : State) {t : State} (h : execPlaneSelfCheckDone plane pass s = .next t) : Keep 0x1c8101 s t := by
  obtain rfl := Host.Outcome.next.inj h
  with_reducible (refine Keep.trans ?_ (State.selfCheckDone_keep ..) rfl; exact Keep.refl _)

theorem execPtrSelWrite_keep (ini : Initiator) (value : Word) (s : State) {t : State} (h : execPtrSelWrite ini value s = .next t) : Keep 0x4000180001 s t := by
  obtain rfl := Host.Outcome.next.inj h
  with_reducible
    refine State.writeAt_keepF ?_ ?_ rfl; exact Keep.refl _; intro _; refine Keep.trans ?_ (State.ptrSel_keep ..) rfl
    exact Keep.refl _

theorem execTsSelWrite_keep (ini : Initiator) (value : Word) (s : State) {t : State} (h : execTsSelWrite ini value s = .next t) : Keep 0x6000180001 s t := by
  obtain rfl := Host.Outcome.next.inj h
  with_reducible
    refine State.writeAt_keepF ?_ ?_ rfl; exact Keep.refl _; intro _; refine Keep.trans ?_ (State.tsSel_keep ..) rfl
    exact Keep.refl _

theorem execCrsTblRead_keep (ini : Initiator) (cmd : Word) (ecc : EccState) (s : State) {t : State} (h : execCrsTblRead ini cmd ecc s = .next t) : Keep 0x4000180009 s t := by
  obtain rfl := Host.Outcome.next.inj h
  with_reducible (refine Keep.trans ?_ (State.crsTable_keep ..) rfl; exact Keep.refl _)

theorem execCrsTblWrite_keep (ini : Initiator) (cmd : Word) (s : State) {t : State} (h : execCrsTblWrite ini cmd s = .next t) : Keep 0x4000180009 s t := by
  obtain rfl := Host.Outcome.next.inj h
  with_reducible (refine Keep.trans ?_ (State.crsTable_keep ..) rfl; exact Keep.refl _)

theorem execVersionCommitAt_keep (ini : Initiator) (link : Bool) (s : State) {t : State} (h : execVersionCommitAt ini link s = .next t) : Keep 0x4004181001 s t := by
  obtain rfl := Host.Outcome.next.inj h
  with_reducible
    refine State.writeAt_keepF ?_ ?_ rfl; exact Keep.refl _; intro _; refine Keep.trans ?_ (State.verCommitAt_keep ..) rfl
    exact Keep.refl _

theorem execGateChangeArm_keep (ini : Initiator) (mask : BitVec 16) (link : Bool) (s : State) {t : State} (h : execGateChangeArm ini mask link s = .next t) : Keep 0x4004190001 s t := by
  obtain rfl := Host.Outcome.next.inj h
  with_reducible
    refine State.writeAt_keepF ?_ ?_ rfl; exact Keep.refl _; intro _; refine Keep.trans ?_ (State.changeArm_keep ..) rfl
    exact Keep.refl _

theorem execVersionCancel_keep (ini : Initiator) (s : State) {t : State} (h : execVersionCancel ini s = .next t) : Keep 0x4004191001 s t := by
  obtain rfl := Host.Outcome.next.inj h
  with_reducible
    refine State.writeAt_keepF ?_ ?_ rfl; exact Keep.refl _; intro _; refine Keep.trans ?_ (State.verCancel_keep ..) rfl
    exact Keep.refl _

theorem execGateChangeCancel_keep (ini : Initiator) (s : State) {t : State} (h : execGateChangeCancel ini s = .next t) : Keep 0x4004191001 s t := by
  obtain rfl := Host.Outcome.next.inj h
  with_reducible
    refine State.writeAt_keepF ?_ ?_ rfl; exact Keep.refl _; intro _; refine Keep.trans ?_ (State.gateCancel_keep ..) rfl
    exact Keep.refl _

theorem execCommitFire_keep (s : State) {t : State} (h : execCommitFire s = .next t) : Keep 0x419110b s t := by
  obtain rfl := Host.Outcome.next.inj h
  with_reducible (refine Keep.trans ?_ (State.commitFire_keep ..) rfl; exact Keep.refl _)

theorem execGateChangeFire_keep (s : State) {t : State} (h : execGateChangeFire s = .next t) : Keep 0x419110b s t := by
  obtain rfl := Host.Outcome.next.inj h
  with_reducible (refine Keep.trans ?_ (State.gateChangeFire_keep ..) rfl; exact Keep.refl _)

theorem execKeyWrite_keep (ini : Initiator) (slot : BitVec 10) (s : State) {t : State} (h : execKeyWrite ini slot s = .next t) : Keep 0x4008180001 s t := by
  obtain rfl := Host.Outcome.next.inj h
  with_reducible (refine Keep.trans ?_ (State.keyWriteCmd_keep ..) rfl; exact Keep.refl _)

theorem execKeyDerive_keep (ini : Initiator) (slot : BitVec 10) (s : State) {t : State} (h : execKeyDerive ini slot s = .next t) : Keep 0x4008180001 s t := by
  obtain rfl := Host.Outcome.next.inj h
  with_reducible (refine Keep.trans ?_ (State.keyWriteCmd_keep ..) rfl; exact Keep.refl _)

theorem execKeyUnwrap_keep (ini : Initiator) (slot : BitVec 10) (s : State) {t : State} (h : execKeyUnwrap ini slot s = .next t) : Keep 0x4008180001 s t := by
  obtain rfl := Host.Outcome.next.inj h
  with_reducible (refine Keep.trans ?_ (State.keyWriteCmd_keep ..) rfl; exact Keep.refl _)

theorem execKeyErase_keep (ini : Initiator) (slot : BitVec 10) (s : State) {t : State} (h : execKeyErase ini slot s = .next t) : Keep 0x4008180001 s t := by
  obtain rfl := Host.Outcome.next.inj h
  with_reducible (refine Keep.trans ?_ (State.keyWriteCmd_keep ..) rfl; exact Keep.refl _)

theorem execKeyLock_keep (ini : Initiator) (slot : BitVec 10) (s : State) {t : State} (h : execKeyLock ini slot s = .next t) : Keep 0x4008180001 s t := by
  obtain rfl := Host.Outcome.next.inj h
  with_reducible (refine Keep.trans ?_ (State.keyWriteCmd_keep ..) rfl; exact Keep.refl _)

theorem execKeyInfo_keep (ini : Initiator) (slot : BitVec 10) (s : State) {t : State} (h : execKeyInfo ini slot s = .next t) : Keep 0x4008180001 s t := by
  obtain rfl := Host.Outcome.next.inj h
  with_reducible (refine Keep.trans ?_ (State.keyWriteCmd_keep ..) rfl; exact Keep.refl _)

theorem execKeyCmdDone_keep (s : State) {t : State} (h : execKeyCmdDone s = .next t) : Keep 0x818000b s t := by
  obtain rfl := Host.Outcome.next.inj h
  with_reducible (refine Keep.trans ?_ (State.keyCmdDone_keep ..) rfl; exact Keep.refl _)

theorem execArbAdvance_keep (ini : Initiator) (value : Word) (s : State) {t : State} (h : execArbAdvance ini value s = .next t) : Keep 0x4008180001 s t := by
  obtain rfl := Host.Outcome.next.inj h
  with_reducible
    refine State.writeAt_keepF ?_ ?_ rfl; exact Keep.refl _; intro _; refine Keep.trans ?_ (State.arbAdvance_keep ..) rfl
    exact Keep.refl _

theorem execSplitToggle_keep (ini : Initiator) (value : Word) (s : State) {t : State} (h : execSplitToggle ini value s = .next t) : Keep 0x4008180001 s t := by
  obtain rfl := Host.Outcome.next.inj h
  with_reducible
    refine State.writeAt_keepF ?_ ?_ rfl; exact Keep.refl _; intro _; refine Keep.trans ?_ (State.splitToggle_keep ..) rfl
    exact Keep.refl _

theorem execCphTblRead_keep (ini : Initiator) (cmd : Word) (ecc : EccState) (s : State) {t : State} (h : execCphTblRead ini cmd ecc s = .next t) : Keep 0x401018000b s t := by
  obtain rfl := Host.Outcome.next.inj h
  with_reducible (refine Keep.trans ?_ (State.cphTable_keep ..) rfl; exact Keep.refl _)

theorem execCphTblWrite_keep (ini : Initiator) (cmd : Word) (s : State) {t : State} (h : execCphTblWrite ini cmd s = .next t) : Keep 0x401018000b s t := by
  obtain rfl := Host.Outcome.next.inj h
  with_reducible (refine Keep.trans ?_ (State.cphTable_keep ..) rfl; exact Keep.refl _)

theorem execLaSubmit_keep (ini : Initiator) (sec : Bool) (s : State) {t : State} (h : execLaSubmit ini sec s = .next t) : Keep 0x4020184003 s t := by
  obtain rfl := Host.Outcome.next.inj h
  with_reducible
    refine State.writeAt_keepF ?_ ?_ rfl; exact Keep.refl _; intro _; refine Keep.trans ?_ (State.laSubmit_keep ..) rfl
    exact Keep.refl _

theorem execLaResultRead_keep (ini : Initiator) (sec : Bool) (s : State) {t : State} (h : execLaResultRead ini sec s = .next t) : Keep 0x4020180001 s t := by
  obtain rfl := Host.Outcome.next.inj h
  with_reducible
    refine State.readAt_keepF ?_ ?_ rfl; exact Keep.refl _; intro _; refine Keep.trans ?_ (State.laResultPop_keep ..) rfl
    exact Keep.refl _

theorem execLaCtrWrite_keep (ini : Initiator) (ctr : Fin 16) (value : Word) (s : State) {t : State} (h : execLaCtrWrite ini ctr value s = .next t) : Keep 0x4000180001 s t := by
  obtain rfl := Host.Outcome.next.inj h
  with_reducible
    refine State.writeAt_keepF ?_ ?_ rfl; exact Keep.refl _; intro _; refine Keep.trans ?_ (State.laCtrHi_keep ..) rfl
    exact Keep.refl _

theorem execCanModeWrite_keep (ini : Initiator) (ch : Fin 16) (value : Word) (rx : Bool) (s : State) {t : State} (h : execCanModeWrite ini ch value rx s = .next t) : Keep 0x4002180001 s t := by
  obtain rfl := Host.Outcome.next.inj h
  with_reducible
    refine State.writeAt_keepF ?_ ?_ rfl; exact Keep.refl _; intro _; refine Keep.trans ?_ (State.canCtrl_keep ..) rfl
    exact Keep.refl _

theorem execCanIntegrated_keep (ch : Fin 16) (s : State) {t : State} (h : execCanIntegrated ch s = .next t) : Keep 0x2000001 s t := by
  obtain rfl := Host.Outcome.next.inj h
  with_reducible (refine Keep.trans ?_ (State.canIntegrated_keep ..) rfl; exact Keep.refl _)

theorem execCanTxSof_keep (ch : Fin 16) (s : State) {t : State} (h : execCanTxSof ch s = .next t) : Keep 0x4002000001 s t := by
  obtain rfl := Host.Outcome.next.inj h
  with_reducible (refine Keep.trans ?_ (State.canTxSof_keep ..) rfl; exact Keep.refl _)

theorem execCanArbLost_keep (ch : Fin 16) (s : State) {t : State} (h : execCanArbLost ch s = .next t) : Keep 0x42180003 s t := by
  obtain rfl := Host.Outcome.next.inj h
  with_reducible (refine Keep.trans ?_ (State.canArbLost_keep ..) rfl; exact Keep.refl _)

theorem execCanErrorFrame_keep (ch : Fin 16) (kind : Fin 5) (tecInc recInc : Fin 16) (s : State) {t : State} (h : execCanErrorFrame ch kind tecInc recInc s = .next t) : Keep 0x2042180003 s t := by
  obtain rfl := Host.Outcome.next.inj h
  with_reducible (refine Keep.trans ?_ (State.canError_keep ..) rfl; exact Keep.refl _)

theorem execCanProtocolException_keep (ch : Fin 16) (s : State) {t : State} (h : execCanProtocolException ch s = .next t) : Keep 0x2042180003 s t := by
  obtain rfl := Host.Outcome.next.inj h
  with_reducible (refine Keep.trans ?_ (State.canException_keep ..) rfl; exact Keep.refl _)

theorem execCanRecoverCmd_keep (ini : Initiator) (ch : Fin 16) (s : State) {t : State} (h : execCanRecoverCmd ini ch s = .next t) : Keep 0x4000180001 s t := by
  obtain rfl := Host.Outcome.next.inj h
  with_reducible
    refine State.writeAt_keepF ?_ ?_ rfl; exact Keep.refl _; intro _; refine Keep.trans ?_ (State.canRecover_keep ..) rfl
    exact Keep.refl _

theorem execCanRecoveryDone_keep (ch : Fin 16) (s : State) {t : State} (h : execCanRecoveryDone ch s = .next t) : Keep 0x180001 s t := by
  obtain rfl := Host.Outcome.next.inj h
  with_reducible (refine Keep.trans ?_ (State.canRecovered_keep ..) rfl; exact Keep.refl _)

theorem execCanCancel_keep (ini : Initiator) (ch : Fin 16) (fifo : Fin 4) (s : State) {t : State} (h : execCanCancel ini ch fifo s = .next t) : Keep 0x4002180003 s t := by
  obtain rfl := Host.Outcome.next.inj h
  with_reducible
    refine State.writeAt_keepF ?_ ?_ rfl; exact Keep.refl _; intro _; refine Keep.trans ?_ (State.canCancel_keep ..) rfl
    exact Keep.refl _

theorem execCanFlush_keep (ini : Initiator) (ch : Fin 16) (fifo : Fin 4) (s : State) {t : State} (h : execCanFlush ini ch fifo s = .next t) : Keep 0x4002180003 s t := by
  obtain rfl := Host.Outcome.next.inj h
  with_reducible
    refine State.writeAt_keepF ?_ ?_ rfl; exact Keep.refl _; intro _; refine Keep.trans ?_ (State.canFlush_keep ..) rfl
    exact Keep.refl _

theorem execCanGatingChange_keep (ch : Fin 16) (s : State) {t : State} (h : execCanGatingChange ch s = .next t) : Keep 0x1 s t := by
  obtain rfl := Host.Outcome.next.inj h
  with_reducible (refine Keep.trans ?_ (State.canGating_keep ..) rfl; exact Keep.refl _)

theorem execCanWakeDom_keep (ch : Fin 16) (clocks ao : Nat) (s : State) {t : State} (h : execCanWakeDom ch clocks ao s = .next t) : Keep 0x4802180003 s t := by
  obtain rfl := Host.Outcome.next.inj h
  with_reducible (refine Keep.trans ?_ (State.canDom_keep ..) rfl; refine Keep.trans ?_ (State.aoPass_keep ..) rfl; exact Keep.refl _)

theorem execCanWakeFrame_keep (ch : Fin 16) (msg : CanMsg) (ao : Nat) (s : State) {t : State} (h : execCanWakeFrame ch msg ao s = .next t) : Keep 0x4802180003 s t := by
  obtain rfl := Host.Outcome.next.inj h
  with_reducible (refine Keep.trans ?_ (State.canFrame_keep ..) rfl; refine Keep.trans ?_ (State.aoPass_keep ..) rfl; exact Keep.refl _)

theorem execCanWakeTrx_keep (ch : Fin 16) (ao : Nat) (s : State) {t : State} (h : execCanWakeTrx ch ao s = .next t) : Keep 0x4802180003 s t := by
  obtain rfl := Host.Outcome.next.inj h
  with_reducible (refine Keep.trans ?_ (State.canTrx_keep ..) rfl; refine Keep.trans ?_ (State.aoPass_keep ..) rfl; exact Keep.refl _)

theorem execEthInhRise_keep (port : Fin 14) (ao : Nat) (s : State) {t : State} (h : execEthInhRise port ao s = .next t) : Keep 0x4802180003 s t := by
  obtain rfl := Host.Outcome.next.inj h
  with_reducible (refine Keep.trans ?_ (State.inhRise_keep ..) rfl; refine Keep.trans ?_ (State.aoPass_keep ..) rfl; exact Keep.refl _)

theorem execEthInhFall_keep (port : Fin 14) (s : State) {t : State} (h : execEthInhFall port s = .next t) : Keep 0x800000000 s t := by
  obtain rfl := Host.Outcome.next.inj h
  with_reducible (refine Keep.trans ?_ (State.inhFall_keep ..) rfl; exact Keep.refl _)

theorem execWakeTimerExpiry_keep (ao : Nat) (s : State) {t : State} (h : execWakeTimerExpiry ao s = .next t) : Keep 0x4802180003 s t := by
  obtain rfl := Host.Outcome.next.inj h
  with_reducible (refine Keep.trans ?_ (State.timerWake_keep ..) rfl; refine Keep.trans ?_ (State.aoPass_keep ..) rfl; exact Keep.refl _)

theorem execCanMsgReceived_keep (ch : Fin 16) (msg : CanMsg) (sof : Nat) (s : State) {t : State} (h : execCanMsgReceived ch msg sof s = .next t) : Keep 0x686218428b s t := by
  obtain rfl := Host.Outcome.next.inj h
  with_reducible
    refine Keep.trans ?_ (State.gwGo_keep ..) rfl; refine Keep.trans ?_ (State.canReceive_keep ..) rfl
    refine Keep.trans ?_ (State.canHeard_keep ..) rfl; exact Keep.refl _

theorem execCanTxDone_keep (ch : Fin 16) (s : State) {t : State} (h : execCanTxDone ch s = .next t) : Keep 0x686218428b s t := by
  obtain rfl := Host.Outcome.next.inj h
  with_reducible (refine Keep.trans ?_ (State.gwGo_keep ..) rfl; refine Keep.trans ?_ (State.canTxDone_keep ..) rfl; exact Keep.refl _)

theorem execBufferAllocate_keep (slice : Fin 16) (fids : List Nat) (core : List (Bool × Bytes)) (s : State) {t : State} (h : execBufferAllocate slice fids core s = .next t) : Keep 0x4867185fab s t := by
  obtain rfl := Host.Outcome.next.inj h
  with_reducible (refine Keep.trans ?_ (State.gwGo_keep ..) rfl; refine Keep.trans ?_ (State.bufferAllocate_keep ..) rfl; exact Keep.refl _)

theorem execInternalFrameBuild_keep (s : State) {t : State} (h : execInternalFrameBuild s = .next t) : Keep 0x486218428b s t := by
  obtain rfl := Host.Outcome.next.inj h
  with_reducible (refine Keep.trans ?_ (State.internalBuild_keep ..) rfl; exact Keep.refl _)

theorem execPackerRelease_keep (packer : Fin 16) (s : State) {t : State} (h : execPackerRelease packer s = .next t) : Keep 0x40000282 s t := by
  obtain rfl := Host.Outcome.next.inj h
  with_reducible (refine Keep.trans ?_ (State.packRelease_keep ..) rfl; exact Keep.refl _)

theorem execLaComplete_keep (idx : Nat) (ecc : EccState) (s : State) {t : State} (h : execLaComplete idx ecc s = .next t) : Keep 0x786218538b s t := by
  obtain rfl := Host.Outcome.next.inj h
  with_reducible (refine Keep.trans ?_ (State.laComplete_keep ..) rfl; exact Keep.refl _)

theorem execSecRequestResubmit_keep (s : State) {t : State} (h : execSecRequestResubmit s = .next t) : Keep 0x486218428b s t := by
  obtain rfl := Host.Outcome.next.inj h
  with_reducible (refine Keep.trans ?_ (State.secResubmit_keep ..) rfl; exact Keep.refl _)

theorem execGweTblRead_keep (ini : Initiator) (cmd : Word) (ecc : EccState) (s : State) {t : State} (h : execGweTblRead ini cmd ecc s = .next t) : Keep 0x404018000b s t := by
  obtain rfl := Host.Outcome.next.inj h
  with_reducible (refine Keep.trans ?_ (State.gweTable_keep ..) rfl; exact Keep.refl _)

theorem execGweTblWrite_keep (ini : Initiator) (cmd : Word) (s : State) {t : State} (h : execGweTblWrite ini cmd s = .next t) : Keep 0x404018000b s t := by
  obtain rfl := Host.Outcome.next.inj h
  with_reducible (refine Keep.trans ?_ (State.gweTable_keep ..) rfl; exact Keep.refl _)

theorem execGweEvqRead_keep (ini : Initiator) (s : State) {t : State} (h : execGweEvqRead ini s = .next t) : Keep 0x4040180001 s t := by
  obtain rfl := Host.Outcome.next.inj h
  with_reducible
    refine State.readAt_keepF ?_ ?_ rfl; exact Keep.refl _; intro _; refine Keep.trans ?_ (State.gwPop_keep ..) rfl
    exact Keep.refl _

theorem execTowpathBadFrame_keep (odd : Option (TwHead × Fin 4 × BitVec 8)) (s : State) {t : State} (h : execTowpathBadFrame odd s = .next t) : Keep 0x60561951ab s t := by
  obtain rfl := Host.Outcome.next.inj h
  with_reducible
    split; refine Keep.trans ?_ (State.badFrame_keep ..) rfl; exact Keep.refl _
    refine Keep.trans ?_ (State.oddRecord_keep ..) rfl; exact Keep.refl _

theorem execCtrlFrameResend_keep (s : State) {t : State} (h : execCtrlFrameResend s = .next t) : Keep 0x4004000800 s t := by
  obtain rfl := Host.Outcome.next.inj h
  with_reducible (refine Keep.trans ?_ (State.ctrlResend_keep ..) rfl; exact Keep.refl _)

theorem execClaimWordSend_keep (s : State) {t : State} (h : execClaimWordSend s = .next t) : Keep 0x4000000000 s t := by
  obtain rfl := Host.Outcome.next.inj h
  with_reducible (refine Keep.trans ?_ (State.claimSend_keep ..) rfl; exact Keep.refl _)

theorem execClaimWordReceived_keep (w : BitVec 48) (s : State) {t : State} (h : execClaimWordReceived w s = .next t) : Keep 0x60561951ab s t := by
  obtain rfl := Host.Outcome.next.inj h
  with_reducible (refine Keep.trans ?_ (State.claimReceive_keep ..) rfl; exact Keep.refl _)

theorem execHeartbeatReceived_keep (h : TwHead) (ws : List Word) (s : State) {t : State} (h : execHeartbeatReceived h ws s = .next t) : Keep 0x60561951ab s t := by
  obtain rfl := Host.Outcome.next.inj h
  with_reducible (refine Keep.trans ?_ (State.heartbeatReceive_keep ..) rfl; exact Keep.refl _)

theorem execHeartbeatDeadline_keep (s : State) {t : State} (h : execHeartbeatDeadline s = .next t) : Keep 0x60561951ab s t := by
  obtain rfl := Host.Outcome.next.inj h
  with_reducible (refine Keep.trans ?_ (State.hbDeadline_keep ..) rfl; exact Keep.refl _)

theorem execPairCycleEnd_keep (s : State) {t : State} (h : execPairCycleEnd s = .next t) : Keep 0x605619192b s t := by
  obtain rfl := Host.Outcome.next.inj h
  with_reducible (refine Keep.trans ?_ (State.pairEnd_keep ..) rfl; exact Keep.refl _)

theorem execStateObjectReceived_keep (h : TwHead) (sect : Fin 7) (ws : List Word) (s : State) {t : State} (h : execStateObjectReceived h sect ws s = .next t) : Keep 0x60561951ab s t := by
  obtain rfl := Host.Outcome.next.inj h
  with_reducible (refine Keep.trans ?_ (State.objReceive_keep ..) rfl; exact Keep.refl _)

theorem execTimeRecordReceived_keep (h : TwHead) (ws : List Word) (s : State) {t : State} (h : execTimeRecordReceived h ws s = .next t) : Keep 0x60561951ab s t := by
  obtain rfl := Host.Outcome.next.inj h
  with_reducible (refine Keep.trans ?_ (State.timeReceive_keep ..) rfl; exact Keep.refl _)

theorem execDigestReceived_keep (h : TwHead) (ws : List Word) (s : State) {t : State} (h : execDigestReceived h ws s = .next t) : Keep 0x60561951ab s t := by
  obtain rfl := Host.Outcome.next.inj h
  with_reducible (refine Keep.trans ?_ (State.digestReceive_keep ..) rfl; exact Keep.refl _)

theorem execResyncReqReceived_keep (h : TwHead) (mask : Word) (s : State) {t : State} (h : execResyncReqReceived h mask s = .next t) : Keep 0x60561951ab s t := by
  obtain rfl := Host.Outcome.next.inj h
  with_reducible (refine Keep.trans ?_ (State.resyncReceive_keep ..) rfl; exact Keep.refl _)

theorem execNoteReceived_keep (h : TwHead) (w0 w1 : Word) (s : State) {t : State} (h : execNoteReceived h w0 w1 s = .next t) : Keep 0x60571951ab s t := by
  obtain rfl := Host.Outcome.next.inj h
  with_reducible (refine Keep.trans ?_ (State.noteReceive_keep ..) rfl; exact Keep.refl _)

theorem execNoteWaitExpiry_keep (s : State) {t : State} (h : execNoteWaitExpiry s = .next t) : Keep 0x1000002 s t := by
  obtain rfl := Host.Outcome.next.inj h
  with_reducible (refine Keep.trans ?_ (State.noteExpire_keep ..) rfl; exact Keep.refl _)

theorem execSwapArm_keep (ini : Initiator) (s : State) {t : State} (h : execSwapArm ini s = .next t) : Keep 0x4004180003 s t := by
  obtain rfl := Host.Outcome.next.inj h
  with_reducible
    refine State.writeAt_keepF ?_ ?_ rfl; exact Keep.refl _; intro _; refine Keep.trans ?_ (State.swapArm_keep ..) rfl
    exact Keep.refl _

theorem execSwapCancel_keep (ini : Initiator) (s : State) {t : State} (h : execSwapCancel ini s = .next t) : Keep 0x4004180001 s t := by
  obtain rfl := Host.Outcome.next.inj h
  with_reducible
    refine State.writeAt_keepF ?_ ?_ rfl; exact Keep.refl _; intro _; refine Keep.trans ?_ (State.swapCancel_keep ..) rfl
    exact Keep.refl _

theorem execPropose_keep (h : TwHead) (ws : List Word) (s : State) {t : State} (h : execPropose h ws s = .next t) : Keep 0x60561951ab s t := by
  obtain rfl := Host.Outcome.next.inj h
  with_reducible (refine Keep.trans ?_ (State.propose_keep ..) rfl; exact Keep.refl _)

theorem execAck_keep (h : TwHead) (ws : List Word) (s : State) {t : State} (h : execAck h ws s = .next t) : Keep 0x60561951ab s t := by
  obtain rfl := Host.Outcome.next.inj h
  with_reducible (refine Keep.trans ?_ (State.swapAck_keep ..) rfl; exact Keep.refl _)

theorem execNak_keep (h : TwHead) (ws : List Word) (s : State) {t : State} (h : execNak h ws s = .next t) : Keep 0x60561951ab s t := by
  obtain rfl := Host.Outcome.next.inj h
  with_reducible (refine Keep.trans ?_ (State.swapNak_keep ..) rfl; exact Keep.refl _)

theorem execSwapCommit_keep (h : TwHead) (ws : List Word) (s : State) {t : State} (h : execSwapCommit h ws s = .next t) : Keep 0x60561951ab s t := by
  obtain rfl := Host.Outcome.next.inj h
  with_reducible (refine Keep.trans ?_ (State.swapCommitted_keep ..) rfl; exact Keep.refl _)

theorem execSwapCancelReceived_keep (h : TwHead) (ws : List Word) (s : State) {t : State} (h : execSwapCancelReceived h ws s = .next t) : Keep 0x60561951ab s t := by
  obtain rfl := Host.Outcome.next.inj h
  with_reducible (refine Keep.trans ?_ (State.swapCancelled_keep ..) rfl; exact Keep.refl _)

theorem execSwapGuardDeadline_keep (s : State) {t : State} (h : execSwapGuardDeadline s = .next t) : Keep 0x4004180003 s t := by
  obtain rfl := Host.Outcome.next.inj h
  with_reducible (refine Keep.trans ?_ (State.swapDeadline_keep ..) rfl; exact Keep.refl _)

theorem execSwapExecute_keep (s : State) {t : State} (h : execSwapExecute s = .next t) : Keep 0x60461859a3 s t := by
  obtain rfl := Host.Outcome.next.inj h
  with_reducible (refine Keep.trans ?_ (State.swapExecute_keep ..) rfl; exact Keep.refl _)

theorem execSwapEndFence_keep (s : State) {t : State} (h : execSwapEndFence s = .next t) : Keep 0x4004185183 s t := by
  obtain rfl := Host.Outcome.next.inj h
  with_reducible (refine Keep.trans ?_ (State.swapFence_keep ..) rfl; exact Keep.refl _)

theorem execIsolate_keep (ini : Initiator) (s : State) {t : State} (h : execIsolate ini s = .next t) : Keep 0x6042180023 s t := by
  obtain rfl := Host.Outcome.next.inj h
  with_reducible
    refine State.writeAt_keepF ?_ ?_ rfl; exact Keep.refl _; intro _
    refine Keep.trans ?_ (State.isolateClaim_keep ..) rfl; exact Keep.refl _

theorem execRejoin_keep (ini : Initiator) (s : State) {t : State} (h : execRejoin ini s = .next t) : Keep 0x6046180023 s t := by
  obtain rfl := Host.Outcome.next.inj h
  with_reducible
    refine State.writeAt_keepF ?_ ?_ rfl; exact Keep.refl _; intro _; refine Keep.trans ?_ (State.rejoinPair_keep ..) rfl
    exact Keep.refl _

theorem execResync_keep (ini : Initiator) (s : State) {t : State} (h : execResync ini s = .next t) : Keep 0x4004180001 s t := by
  obtain rfl := Host.Outcome.next.inj h
  with_reducible
    refine State.writeAt_keepF ?_ ?_ rfl; exact Keep.refl _; intro _; refine Keep.trans ?_ (State.resyncAll_keep ..) rfl
    exact Keep.refl _

theorem execAnnounce_keep (h : TwHead) (ws : List Word) (s : State) {t : State} (h : execAnnounce h ws s = .next t) : Keep 0x60561951ab s t := by
  obtain rfl := Host.Outcome.next.inj h
  with_reducible (refine Keep.trans ?_ (State.pcAnnounced_keep ..) rfl; exact Keep.refl _)

theorem execReady_keep (h : TwHead) (ws : List Word) (s : State) {t : State} (h : execReady h ws s = .next t) : Keep 0x60561951ab s t := by
  obtain rfl := Host.Outcome.next.inj h
  with_reducible (refine Keep.trans ?_ (State.pcReady_keep ..) rfl; exact Keep.refl _)

theorem execNotReady_keep (h : TwHead) (ws : List Word) (s : State) {t : State} (h : execNotReady h ws s = .next t) : Keep 0x60561951ab s t := by
  obtain rfl := Host.Outcome.next.inj h
  with_reducible (refine Keep.trans ?_ (State.pcNotReady_keep ..) rfl; exact Keep.refl _)

theorem execGo_keep (h : TwHead) (ws : List Word) (s : State) {t : State} (h : execGo h ws s = .next t) : Keep 0x60561951ab s t := by
  obtain rfl := Host.Outcome.next.inj h
  with_reducible (refine Keep.trans ?_ (State.pcGo_keep ..) rfl; exact Keep.refl _)

theorem execPcCancelReceived_keep (h : TwHead) (ws : List Word) (s : State) {t : State} (h : execPcCancelReceived h ws s = .next t) : Keep 0x60561951ab s t := by
  obtain rfl := Host.Outcome.next.inj h
  with_reducible (refine Keep.trans ?_ (State.pcCancelled_keep ..) rfl; exact Keep.refl _)

theorem execPcGuardDeadline_keep (s : State) {t : State} (h : execPcGuardDeadline s = .next t) : Keep 0x4004191003 s t := by
  obtain rfl := Host.Outcome.next.inj h
  with_reducible (refine Keep.trans ?_ (State.pcDeadline_keep ..) rfl; exact Keep.refl _)

theorem execLockstepMismatch_keep (sec : Bool) (main checker : Option CoreItem) (pc : Word) (s : State) {t : State} (h : execLockstepMismatch sec main checker pc s = .next t) : Keep 0xfffffffbff s t := by
  obtain rfl := Host.Outcome.next.inj h
  with_reducible (refine Keep.trans ?_ (State.checked_keep ..) rfl; exact Keep.refl _)

theorem execPairRestart_keep (sec : Bool) (s : State) {t : State} (h : execPairRestart sec s = .next t) : Keep 0x280180003 s t := by
  obtain rfl := Host.Outcome.next.inj h
  with_reducible (refine Keep.trans ?_ (State.pairRestart_keep ..) rfl; exact Keep.refl _)

theorem execResetCtrl_keep (ini : Initiator) (confirm : BitVec 16) (s : State) {t : State} (h : execResetCtrl ini confirm s = .next t) : Keep 0x4780180003 s t := by
  obtain rfl := Host.Outcome.next.inj h
  with_reducible
    refine State.writeAt_keepF ?_ ?_ rfl; exact Keep.refl _; intro _; refine Keep.trans ?_ (State.coreReset_keep ..) rfl
    exact Keep.refl _

theorem execResetSec_keep (ini : Initiator) (confirm : BitVec 16) (s : State) {t : State} (h : execResetSec ini confirm s = .next t) : Keep 0x4780180003 s t := by
  obtain rfl := Host.Outcome.next.inj h
  with_reducible
    refine State.writeAt_keepF ?_ ?_ rfl; exact Keep.refl _; intro _; refine Keep.trans ?_ (State.coreReset_keep ..) rfl
    exact Keep.refl _

theorem execCoreMemError_keep (ini : Initiator) (addr : Word) (size : Nat) (w : Option Word) (ecc : EccState) (s : State) {t : State} (h : execCoreMemError ini addr size w ecc s = .next t) : Keep 0xfffffffbff s t := by
  obtain rfl := Host.Outcome.next.inj h
  with_reducible (refine Keep.trans ?_ (State.coreMem_keep ..) rfl; exact Keep.refl _)

theorem execMtimeMatch_keep (hart : Fin 3) (s : State) {t : State} (h : execMtimeMatch hart s = .next t) : Keep 0x80000000 s t := by
  obtain rfl := Host.Outcome.next.inj h
  with_reducible (refine Keep.trans ?_ (State.mtimeLevel_keep ..) rfl; exact Keep.refl _)

theorem execMtimecmpHiWrite_keep (ini : Initiator) (hart : Fin 3) (value : Word) (s : State) {t : State} (h : execMtimecmpHiWrite ini hart value s = .next t) : Keep 0x4080180001 s t := by
  obtain rfl := Host.Outcome.next.inj h
  with_reducible
    refine State.writeAt_keepF ?_ ?_ rfl; exact Keep.refl _; intro _; refine Keep.trans ?_ (State.mtimecmpHi_keep ..) rfl
    exact Keep.refl _

theorem execDebugHalt_keep (hart : Fin 3) (r : CoreRegs) (s : State) {t : State} (h : execDebugHalt hart r s = .next t) : Keep 0x80000001 s t := by
  obtain rfl := Host.Outcome.next.inj h
  with_reducible (refine Keep.trans ?_ (State.dbgHalt_keep ..) rfl; exact Keep.refl _)

theorem execDebugResume_keep (hart : Fin 3) (s : State) {t : State} (h : execDebugResume hart s = .next t) : Keep 0x80000001 s t := by
  obtain rfl := Host.Outcome.next.inj h
  with_reducible (refine Keep.trans ?_ (State.dbgResume_keep ..) rfl; exact Keep.refl _)

theorem execDebugStep_keep (hart : Fin 3) (r : CoreRegs) (s : State) {t : State} (h : execDebugStep hart r s = .next t) : Keep 0x80000000 s t := by
  obtain rfl := Host.Outcome.next.inj h
  with_reducible (refine Keep.trans ?_ (State.dbgStep_keep ..) rfl; exact Keep.refl _)

theorem execDebugAbstractWrite_keep (hart : Fin 3) (csr : Bool) (num : BitVec 12) (value : Word) (s : State) {t : State} (h : execDebugAbstractWrite hart csr num value s = .next t) : Keep 0x80000000 s t := by
  obtain rfl := Host.Outcome.next.inj h
  with_reducible (refine Keep.trans ?_ (State.dbgAbstract_keep ..) rfl; exact Keep.refl _)

theorem execDebugProgbufExec_keep (hart : Fin 3) (r : CoreRegs) (s : State) {t : State} (h : execDebugProgbufExec hart r s = .next t) : Keep 0x80000000 s t := by
  obtain rfl := Host.Outcome.next.inj h
  with_reducible (refine Keep.trans ?_ (State.dbgProgbuf_keep ..) rfl; exact Keep.refl _)

theorem execDbgChallenge_keep (ini : Initiator) (z0 : BitVec 2) (s : State) {t : State} (h : execDbgChallenge ini z0 s = .next t) : Keep 0x6080180001 s t := by
  obtain rfl := Host.Outcome.next.inj h
  with_reducible
    refine State.dbgCmd_keepF ?_ ?_ rfl; exact Keep.refl _; intro _; refine Keep.trans ?_ (State.challenge_keep ..) rfl
    exact Keep.refl _

theorem execDbgSubmit_keep (ini : Initiator) (scope : BitVec 2) (s : State) {t : State} (h : execDbgSubmit ini scope s = .next t) : Keep 0x4080180001 s t := by
  obtain rfl := Host.Outcome.next.inj h
  with_reducible
    refine State.dbgCmd_keepF ?_ ?_ rfl; exact Keep.refl _; intro _; refine Keep.trans ?_ (State.dbgSubmit_keep ..) rfl
    exact Keep.refl _

theorem execDbgDisable_keep (ini : Initiator) (scope : BitVec 2) (s : State) {t : State} (h : execDbgDisable ini scope s = .next t) : Keep 0x4028180189 s t := by
  obtain rfl := Host.Outcome.next.inj h
  with_reducible
    refine State.dbgCmd_keepF ?_ ?_ rfl; exact Keep.refl _; intro _; refine Keep.trans ?_ (State.dbgDisable_keep ..) rfl
    exact Keep.refl _

theorem execRingTailWrite_keep (ini : Initiator) (rx : Bool) (ring : Fin 8) (value : Word) (s : State) {t : State} (h : execRingTailWrite ini rx ring value s = .next t) : Keep 0x4000180001 s t := by
  obtain rfl := Host.Outcome.next.inj h
  with_reducible
    refine State.writeAt_keepF ?_ ?_ rfl; exact Keep.refl _; intro _; refine Keep.trans ?_ (State.tailWrite_keep ..) rfl
    exact Keep.refl _

theorem execRingEnableWrite_keep (ini : Initiator) (rx : Bool) (ring : Fin 8) (value : Word) (s : State) {t : State} (h : execRingEnableWrite ini rx ring value s = .next t) : Keep 0x4100180001 s t := by
  obtain rfl := Host.Outcome.next.inj h
  with_reducible
    refine State.writeAt_keepF ?_ ?_ rfl; exact Keep.refl _; intro _; refine Keep.trans ?_ (State.ringCtrl_keep ..) rfl
    exact Keep.refl _

theorem execTxRingFetch_keep (ring : Fin 8) (desc : Option (BitVec 128)) (s : State) {t : State} (h : execTxRingFetch ring desc s = .next t) : Keep 0x6100180283 s t := by
  obtain rfl := Host.Outcome.next.inj h
  with_reducible (refine Keep.trans ?_ (State.txFetch_keep ..) rfl; exact Keep.refl _)

theorem execTxRingFrameDone_keep (ring : Fin 8) (data : Option Bytes) (s : State) {t : State} (h : execTxRingFrameDone ring data s = .next t) : Keep 0x610018518b s t := by
  obtain rfl := Host.Outcome.next.inj h
  with_reducible (refine Keep.trans ?_ (State.txFrameDone_keep ..) rfl; exact Keep.refl _)

theorem execRingCoalExpiry_keep (rx : Bool) (ring : Fin 8) (s : State) {t : State} (h : execRingCoalExpiry rx ring s = .next t) : Keep 0x180001 s t := by
  obtain rfl := Host.Outcome.next.inj h
  with_reducible (refine Keep.trans ?_ (State.coalExpiry_keep ..) rfl; exact Keep.refl _)

theorem execRingEventClear_keep (ini : Initiator) (value : Word) (s : State) {t : State} (h : execRingEventClear ini value s = .next t) : Keep 0x4100180001 s t := by
  obtain rfl := Host.Outcome.next.inj h
  with_reducible
    refine State.writeAt_keepF ?_ ?_ rfl; exact Keep.refl _; intro _; refine Keep.trans ?_ (State.ringClear_keep ..) rfl
    exact Keep.refl _

theorem execPcieDown_keep (why : PcieCause) (s : State) {t : State} (h : execPcieDown why s = .next t) : Keep 0x4500f85183 s t := by
  obtain rfl := Host.Outcome.next.inj h
  with_reducible (refine Keep.trans ?_ (State.pcieDown_keep ..) rfl; exact Keep.refl _)

theorem execPerst_keep (s : State) {t : State} (h : execPerst s = .next t) : Keep 0x4500f85183 s t := by
  obtain rfl := Host.Outcome.next.inj h
  with_reducible (refine Keep.trans ?_ (State.perst_keep ..) rfl; exact Keep.refl _)

theorem execPcieLinkUp_keep (speed width : Fin 5) (s : State) {t : State} (h : execPcieLinkUp speed width s = .next t) : Keep 0x100000001 s t := by
  obtain rfl := Host.Outcome.next.inj h
  with_reducible (refine Keep.trans ?_ (State.pcieUp_keep ..) rfl; exact Keep.refl _)

theorem execMsixUnmask_keep (mask : Word) (fnMask : Bool) (table : List (Fin 32 × BitVec 64 × Word)) (cfg : Option PcieCfg) (s : State) {t : State} (h : execMsixUnmask mask fnMask table cfg s = .next t) : Keep 0x4100e00000 s t := by
  obtain rfl := Host.Outcome.next.inj h
  with_reducible (refine Keep.trans ?_ (State.msixUnmask_keep ..) rfl; exact Keep.refl _)

theorem execPostedWriteFail_keep (ini : Initiator) (off : BitVec 22) (aborted : Bool) (s : State) {t : State} (h : execPostedWriteFail ini off aborted s = .next t) : Keep 0x100180003 s t := by
  obtain rfl := Host.Outcome.next.inj h
  with_reducible (refine Keep.trans ?_ (State.hostPostedFail_keep ..) rfl; exact Keep.refl _)

theorem execPerrLogRead_keep (ini : Initiator) (s : State) {t : State} (h : execPerrLogRead ini s = .next t) : Keep 0x4100180001 s t := by
  obtain rfl := Host.Outcome.next.inj h
  with_reducible
    refine State.readAt_keepF ?_ ?_ rfl; exact Keep.refl _; intro _; refine Keep.trans ?_ (State.perrPop_keep ..) rfl
    exact Keep.refl _

theorem execWindowRead_keep (ini : Initiator) (addr : BitVec 25) (size : Nat) (s : State) {t : State} (h : execWindowRead ini addr size s = .next t) : Keep 0x4104180003 s t := by
  obtain rfl := Host.Outcome.next.inj h
  with_reducible (refine Keep.trans ?_ (State.windowRead_keep ..) rfl; exact Keep.refl _)

theorem execWindowWrite_keep (ini : Initiator) (addr : BitVec 25) (size : Nat) (value : Word) (s : State) {t : State} (h : execWindowWrite ini addr size value s = .next t) : Keep 0x4104180003 s t := by
  obtain rfl := Host.Outcome.next.inj h
  with_reducible (refine Keep.trans ?_ (State.windowWrite_keep ..) rfl; exact Keep.refl _)

theorem execWindowReadResponse_keep (ini : Initiator) (data : Option Word) (s : State) {t : State} (h : execWindowReadResponse ini data s = .next t) : Keep 0x6100180003 s t := by
  obtain rfl := Host.Outcome.next.inj h
  with_reducible (refine Keep.trans ?_ (State.hostResponse_keep ..) rfl; exact Keep.refl _)

theorem execHostWindowCompletionTimeout_keep (ini : Initiator) (s : State) {t : State} (h : execHostWindowCompletionTimeout ini s = .next t) : Keep 0x4100180003 s t := by
  obtain rfl := Host.Outcome.next.inj h
  with_reducible (refine Keep.trans ?_ (State.hostTimeout_keep ..) rfl; exact Keep.refl _)

theorem execLockRead_keep (ini : Initiator) (s : State) {t : State} (h : execLockRead ini s = .next t) : Keep 0x4104180001 s t := by
  obtain rfl := Host.Outcome.next.inj h
  with_reducible
    refine State.writeAt_keepF ?_ ?_ rfl; exact Keep.refl _; intro _; refine Keep.trans ?_ (State.lockCmd_keep ..) rfl
    exact Keep.refl _

theorem execWriteUnlock_keep (ini : Initiator) (s : State) {t : State} (h : execWriteUnlock ini s = .next t) : Keep 0x4104180001 s t := by
  obtain rfl := Host.Outcome.next.inj h
  with_reducible
    refine State.writeAt_keepF ?_ ?_ rfl; exact Keep.refl _; intro _; refine Keep.trans ?_ (State.lockCmd_keep ..) rfl
    exact Keep.refl _

theorem execUnlock_keep (ini : Initiator) (s : State) {t : State} (h : execUnlock ini s = .next t) : Keep 0x4104180001 s t := by
  obtain rfl := Host.Outcome.next.inj h
  with_reducible
    refine State.writeAt_keepF ?_ ?_ rfl; exact Keep.refl _; intro _; refine Keep.trans ?_ (State.lockCmd_keep ..) rfl
    exact Keep.refl _

theorem execBridgeResponseReceived_keep (h : TwHead) (ws : List Word) (s : State) {t : State} (h : execBridgeResponseReceived h ws s = .next t) : Keep 0x61561951ab s t := by
  obtain rfl := Host.Outcome.next.inj h
  with_reducible (refine Keep.trans ?_ (State.bridgeResponse_keep ..) rfl; exact Keep.refl _)

theorem execBridgePostedFailReceived_keep (h : TwHead) (ws : List Word) (s : State) {t : State} (h : execBridgePostedFailReceived h ws s = .next t) : Keep 0x61561951ab s t := by
  obtain rfl := Host.Outcome.next.inj h
  with_reducible (refine Keep.trans ?_ (State.bridgePostedFail_keep ..) rfl; exact Keep.refl _)

theorem execPeerReadTimeout_keep (tag : BitVec 8) (s : State) {t : State} (h : execPeerReadTimeout tag s = .next t) : Keep 0x4104180003 s t := by
  obtain rfl := Host.Outcome.next.inj h
  with_reducible (refine Keep.trans ?_ (State.peerTimedOut_keep ..) rfl; exact Keep.refl _)

theorem execBridgeLockReadReceived_keep (h : TwHead) (ws : List Word) (s : State) {t : State} (h : execBridgeLockReadReceived h ws s = .next t) : Keep 0x61561951ab s t := by
  obtain rfl := Host.Outcome.next.inj h
  with_reducible (refine Keep.trans ?_ (State.bridgeLock_keep ..) rfl; exact Keep.refl _)

theorem execBridgeWriteUnlockReceived_keep (h : TwHead) (ws : List Word) (s : State) {t : State} (h : execBridgeWriteUnlockReceived h ws s = .next t) : Keep 0x69761b79bf s t := by
  obtain rfl := Host.Outcome.next.inj h
  with_reducible (refine Keep.trans ?_ (State.bridgeUnlock_keep ..) rfl; exact Keep.refl _)

theorem execBridgeUnlockReceived_keep (h : TwHead) (ws : List Word) (s : State) {t : State} (h : execBridgeUnlockReceived h ws s = .next t) : Keep 0x69761b79bf s t := by
  obtain rfl := Host.Outcome.next.inj h
  with_reducible (refine Keep.trans ?_ (State.bridgeUnlock_keep ..) rfl; exact Keep.refl _)

theorem execLockTimeoutExpiry_keep (s : State) {t : State} (h : execLockTimeoutExpiry s = .next t) : Keep 0x49641a2837 s t := by
  obtain rfl := Host.Outcome.next.inj h
  with_reducible (refine Keep.trans ?_ (State.lockTimedOut_keep ..) rfl; exact Keep.refl _)

theorem execTwinLinkDown_keep (s : State) {t : State} (h : execTwinLinkDown s = .next t) : Keep 0x4504180003 s t := by
  obtain rfl := Host.Outcome.next.inj h
  with_reducible (refine Keep.trans ?_ (State.twinDown_keep ..) rfl; exact Keep.refl _)

theorem execTwinLinkUp_keep (s : State) {t : State} (h : execTwinLinkUp s = .next t) : Keep 0x1 s t := by
  obtain rfl := Host.Outcome.next.inj h
  with_reducible (refine Keep.trans ?_ (State.twinUp_keep ..) rfl; exact Keep.refl _)

theorem execVerifyTimerExpiry_keep (port : Fin 14) (s : State) {t : State} (h : execVerifyTimerExpiry port s = .next t) : Keep 0x4000180801 s t := by
  obtain rfl := Host.Outcome.next.inj h
  with_reducible (refine Keep.trans ?_ (State.verifyTimer_keep ..) rfl; exact Keep.refl _)

theorem execVerifyMpacketReceived_keep (port : Fin 14) (s : State) {t : State} (h : execVerifyMpacketReceived port s = .next t) : Keep 0x4000000000 s t := by
  obtain rfl := Host.Outcome.next.inj h
  with_reducible (refine Keep.trans ?_ (State.verifyTake_keep ..) rfl; exact Keep.refl _)

theorem execRespondMpacketReceived_keep (port : Fin 14) (s : State) {t : State} (h : execRespondMpacketReceived port s = .next t) : Keep 0x10001 s t := by
  obtain rfl := Host.Outcome.next.inj h
  with_reducible (refine Keep.trans ?_ (State.respondTake_keep ..) rfl; exact Keep.refl _)

theorem execIcvResult_keep (fid : Nat) (s : State) {t : State} (h : execIcvResult fid s = .next t) : Keep 0x4165187d9b s t := by
  obtain rfl := Host.Outcome.next.inj h
  with_reducible
    refine Keep.trans ?_ (State.endStomped_keep ..) rfl; refine Keep.trans ?_ (State.icvResult_keep ..) rfl
    exact Keep.refl _

theorem execLcTransition_keep (ini : Initiator) (value : Word) (s : State) {t : State} (h : execLcTransition ini value s = .next t) : Keep 0x416c18599b s t := by
  obtain rfl := Host.Outcome.next.inj h
  with_reducible
    refine State.writeAt_keepF ?_ ?_ rfl; exact Keep.refl _; intro _; refine Keep.trans ?_ (State.endStomped_keep ..) rfl
    refine Keep.trans ?_ (State.lcCmd_keep ..) rfl; exact Keep.refl _

theorem execDbgVerifyDone_keep (s : State) {t : State} (h : execDbgVerifyDone s = .next t) : Keep 0x41ec18599b s t := by
  obtain rfl := Host.Outcome.next.inj h
  with_reducible
    refine Keep.trans ?_ (State.endStomped_keep ..) rfl; refine Keep.trans ?_ (State.dbgVerified_keep ..) rfl
    exact Keep.refl _

theorem execZeroizeDone_keep (s : State) {t : State} (h : execZeroizeDone s = .next t) : Keep 0x4144185993 s t := by
  obtain rfl := Host.Outcome.next.inj h
  with_reducible
    refine Keep.trans ?_ (State.endStomped_keep ..) rfl; refine Keep.trans ?_ (State.zeroizeDone_keep ..) rfl
    exact Keep.refl _

theorem execFrameRxStart_keep (port : Fin 14) (phase : Fin 8) (head : Bytes) (s : State) {t : State} (h : execFrameRxStart port phase head s = .next t) : Keep 0x4164185b9b s t := by
  obtain rfl := Host.Outcome.next.inj h
  with_reducible (refine Keep.trans ?_ (State.frameStart_keep ..) rfl; exact Keep.refl _)

theorem execFrameRxEnd_keep (port : Fin 14) (rest : Bytes) (fcsOk pcsOk : Bool) (s : State) {t : State} (h : execFrameRxEnd port rest fcsOk pcsOk s = .next t) : Keep 0x4164197b9b s t := by
  obtain rfl := Host.Outcome.next.inj h
  with_reducible (refine Keep.trans ?_ (State.frameEnd_keep ..) rfl; exact Keep.refl _)

theorem execFragmentReceived_keep (port : Fin 14) (phase : Fin 8) (data : Bytes) (count : Fin 4) (initial final crcOk pcsOk : Bool) (s : State) {t : State} (h : execFragmentReceived port phase data count initial final crcOk pcsOk s = .next t) : Keep 0x4164197b9b s t := by
  obtain rfl := Host.Outcome.next.inj h
  with_reducible (refine Keep.trans ?_ (State.endStomped_keep ..) rfl; refine Keep.trans ?_ (State.fragment_keep ..) rfl; exact Keep.refl _)

theorem execLinkPartnerLpiSignalling_keep (port : Fin 14) (idle : Bool) (s : State) {t : State} (h : execLinkPartnerLpiSignalling port idle s = .next t) : Keep 0x803 s t := by
  obtain rfl := Host.Outcome.next.inj h
  with_reducible (refine Keep.trans ?_ (State.lpiRx_keep ..) rfl; exact Keep.refl _)

theorem execLinkDown_keep (port : Fin 14) (s : State) {t : State} (h : execLinkDown port s = .next t) : Keep 0x416419599b s t := by
  obtain rfl := Host.Outcome.next.inj h
  with_reducible (refine Keep.trans ?_ (State.linkLost_keep ..) rfl; exact Keep.refl _)

theorem execPcsLockGained_keep (port : Fin 14) (s : State) {t : State} (h : execPcsLockGained port s = .next t) : Keep 0x801 s t := by
  obtain rfl := Host.Outcome.next.inj h
  with_reducible (refine Keep.trans ?_ (State.pcsGained_keep ..) rfl; exact Keep.refl _)

theorem execLinkUp_keep (port : Fin 14) (s : State) {t : State} (h : execLinkUp port s = .next t) : Keep 0x2000180801 s t := by
  obtain rfl := Host.Outcome.next.inj h
  with_reducible (refine Keep.trans ?_ (State.linkGained_keep ..) rfl; exact Keep.refl _)

theorem execPcsCfgWrite_keep (ini : Initiator) (port : Fin 14) (value : Word) (s : State) {t : State} (h : execPcsCfgWrite ini port value s = .next t) : Keep 0x416419599b s t := by
  obtain rfl := Host.Outcome.next.inj h
  with_reducible
    refine State.writeAt_keepF ?_ ?_ rfl; exact Keep.refl _; intro _; refine Keep.trans ?_ (State.pcsCfg_keep ..) rfl
    exact Keep.refl _

theorem execAutonegWordReceived_keep (port : Fin 14) (speed : BitVec 3) (half : Bool) (s : State) {t : State} (h : execAutonegWordReceived port speed half s = .next t) : Keep 0x416419599b s t := by
  obtain rfl := Host.Outcome.next.inj h
  with_reducible (refine Keep.trans ?_ (State.anTake_keep ..) rfl; exact Keep.refl _)

theorem execFecCodewordReceived_keep (port : Fin 14) (uncorrectable : Bool) (s : State) {t : State} (h : execFecCodewordReceived port uncorrectable s = .next t) : Keep 0x180803 s t := by
  obtain rfl := Host.Outcome.next.inj h
  with_reducible (refine Keep.trans ?_ (State.fecWord_keep ..) rfl; exact Keep.refl _)

theorem execPfcReceived_keep (port : Fin 14) (enable : BitVec 8) (times : List (BitVec 16)) (s : State) {t : State} (h : execPfcReceived port enable times s = .next t) : Keep 0x803 s t := by
  obtain rfl := Host.Outcome.next.inj h
  with_reducible (refine Keep.trans ?_ (State.pfcTake_keep ..) rfl; exact Keep.refl _)

theorem execPauseReceived_keep (port : Fin 14) (time : BitVec 16) (s : State) {t : State} (h : execPauseReceived port time s = .next t) : Keep 0x803 s t := by
  obtain rfl := Host.Outcome.next.inj h
  with_reducible (refine Keep.trans ?_ (State.pauseFrame_keep ..) rfl; exact Keep.refl _)

theorem execPfcPauseExpiry_keep (port : Fin 14) (tc : Fin 8) (s : State) {t : State} (h : execPfcPauseExpiry port tc s = .next t) : Keep 0x801 s t := by
  obtain rfl := Host.Outcome.next.inj h
  with_reducible (refine Keep.trans ?_ (State.pauseOver_keep ..) rfl; exact Keep.refl _)

theorem execCtThreshWrite_keep (ini : Initiator) (port : Fin 14) (value : Word) (s : State) {t : State} (h : execCtThreshWrite ini port value s = .next t) : Keep 0x4000180001 s t := by
  obtain rfl := Host.Outcome.next.inj h
  with_reducible
    refine State.writeAt_keepF ?_ ?_ rfl; exact Keep.refl _; intro _; refine Keep.trans ?_ (State.ctThresh_keep ..) rfl
    exact Keep.refl _

theorem execPfcRefreshExpiry_keep (port : Fin 14) (tc : Fin 8) (s : State) {t : State} (h : execPfcRefreshExpiry port tc s = .next t) : Keep 0x800 s t := by
  obtain rfl := Host.Outcome.next.inj h
  with_reducible (refine Keep.trans ?_ (State.pfcRefresh_keep ..) rfl; exact Keep.refl _)

theorem execPfcFrameSend_keep (port : Fin 14) (s : State) {t : State} (h : execPfcFrameSend port s = .next t) : Keep 0x4000800 s t := by
  obtain rfl := Host.Outcome.next.inj h
  with_reducible (refine Keep.trans ?_ (State.pfcSend_keep ..) rfl; exact Keep.refl _)

theorem execTxStart_keep (port : Fin 16) (desc : BitVec 128) (s : State) {t : State} (h : execTxStart port desc s = .next t) : Keep 0x4976185b9b s t := by
  obtain rfl := Host.Outcome.next.inj h
  with_reducible (refine Keep.trans ?_ (State.txStart_keep ..) rfl; exact Keep.refl _)

theorem execTxEnd_keep (port : Fin 16) (record : EccState) (s : State) {t : State} (h : execTxEnd port record s = .next t) : Keep 0x4966185b9b s t := by
  obtain rfl := Host.Outcome.next.inj h
  with_reducible (refine Keep.trans ?_ (State.endStomped_keep ..) rfl; refine Keep.trans ?_ (State.txEnd_keep ..) rfl; exact Keep.refl _)

theorem execUnderrun_keep (port : Fin 16) (s : State) {t : State} (h : execUnderrun port s = .next t) : Keep 0x4144185993 s t := by
  obtain rfl := Host.Outcome.next.inj h
  with_reducible (refine Keep.trans ?_ (State.underrun_keep ..) rfl; exact Keep.refl _)

theorem execPreemption_keep (port : Fin 14) (s : State) {t : State} (h : execPreemption port s = .next t) : Keep 0x4000000902 s t := by
  obtain rfl := Host.Outcome.next.inj h
  with_reducible (refine Keep.trans ?_ (State.preempt_keep ..) rfl; exact Keep.refl _)

theorem execLpiEnter_keep (port : Fin 14) (s : State) {t : State} (h : execLpiEnter port s = .next t) : Keep 0x803 s t := by
  obtain rfl := Host.Outcome.next.inj h
  with_reducible (refine Keep.trans ?_ (State.lpiEnter_keep ..) rfl; exact Keep.refl _)

theorem execLpiExit_keep (port : Fin 14) (s : State) {t : State} (h : execLpiExit port s = .next t) : Keep 0x803 s t := by
  obtain rfl := Host.Outcome.next.inj h
  with_reducible (refine Keep.trans ?_ (State.lpiExit_keep ..) rfl; exact Keep.refl _)

theorem execColdReset_keep (pairId : Bool) (mode : BitVec 2) (s : State) {t : State} (h : execColdReset pairId mode s = .next t) : Keep 0xffffffffff s t := by
  obtain rfl := Host.Outcome.next.inj h
  with_reducible (refine Keep.trans ?_ (State.coldReset_keep ..) rfl; exact Keep.refl _)

theorem execWarmReset_keep (ini : Initiator) (confirm : BitVec 16) (s : State) {t : State} (h : execWarmReset ini confirm s = .next t) : Keep 0xeffffff9ff s t := by
  obtain rfl := Host.Outcome.next.inj h
  with_reducible
    refine State.sysCmd_keepF ?_ ?_ rfl; exact Keep.refl _; intro _; refine Keep.trans ?_ (State.warmReset_keep ..) rfl
    exact Keep.refl _

theorem execFuseStageDone_keep (s : State) {t : State} (h : execFuseStageDone s = .next t) : Keep 0x5000000001 s t := by
  obtain rfl := Host.Outcome.next.inj h
  with_reducible (refine Keep.trans ?_ (State.fuseDone_keep ..) rfl; exact Keep.refl _)

theorem execFlashStageDone_keep (octal : Bool) (density : Nat) (s : State) {t : State} (h : execFlashStageDone octal density s = .next t) : Keep 0xc204180003 s t := by
  obtain rfl := Host.Outcome.next.inj h
  with_reducible (refine Keep.trans ?_ (State.flashDone_keep ..) rfl; exact Keep.refl _)

theorem execImageAuthDone_keep (s : State) {t : State} (h : execImageAuthDone s = .next t) : Keep 0xdffffff87f s t := by
  obtain rfl := Host.Outcome.next.inj h
  with_reducible (refine Keep.trans ?_ (State.authDone_keep ..) rfl; exact Keep.refl _)

theorem execRecordApply_keep (s : State) {t : State} (h : execRecordApply s = .next t) : Keep 0xfffffffbff s t := by
  obtain rfl := Host.Outcome.next.inj h
  with_reducible (refine Keep.trans ?_ (State.recordApply_keep ..) rfl; exact Keep.refl _)

theorem execImageCheckDone_keep (s : State) {t : State} (h : execImageCheckDone s = .next t) : Keep 0xdffffff87f s t := by
  obtain rfl := Host.Outcome.next.inj h
  with_reducible (refine Keep.trans ?_ (State.checkDone_keep ..) rfl; exact Keep.refl _)

theorem execPayloadCheckDone_keep (s : State) {t : State} (h : execPayloadCheckDone s = .next t) : Keep 0x200180001 s t := by
  obtain rfl := Host.Outcome.next.inj h
  with_reducible (refine Keep.trans ?_ (State.payloadDone_keep ..) rfl; exact Keep.refl _)

theorem execSysLoad_keep (ini : Initiator) (image : Option Bytes) (s : State) {t : State} (h : execSysLoad ini image s = .next t) : Keep 0x4204180001 s t := by
  obtain rfl := Host.Outcome.next.inj h
  with_reducible
    refine State.sysCmd_keepF ?_ ?_ rfl; exact Keep.refl _; intro _; refine Keep.trans ?_ (State.loadHost_keep ..) rfl
    exact Keep.refl _

theorem execSysRelease_keep (ini : Initiator) (s : State) {t : State} (h : execSysRelease ini s = .next t) : Keep 0x644e19012b s t := by
  obtain rfl := Host.Outcome.next.inj h
  with_reducible
    refine State.sysCmd_keepF ?_ ?_ rfl; exact Keep.refl _; intro _; refine Keep.trans ?_ (State.release_keep ..) rfl
    exact Keep.refl _

theorem execReleaseWaitExpiry_keep (s : State) {t : State} (h : execReleaseWaitExpiry s = .next t) : Keep 0x244e19012b s t := by
  obtain rfl := Host.Outcome.next.inj h
  with_reducible (refine Keep.trans ?_ (State.waitExpiry_keep ..) rfl; exact Keep.refl _)

theorem execReloadCtrl_keep (ini : Initiator) (s : State) {t : State} (h : execReloadCtrl ini s = .next t) : Keep 0x4200180001 s t := by
  obtain rfl := Host.Outcome.next.inj h
  with_reducible (refine Keep.trans ?_ (State.reload_keep ..) rfl; exact Keep.refl _)

theorem execReloadSec_keep (ini : Initiator) (s : State) {t : State} (h : execReloadSec ini s = .next t) : Keep 0x4200180001 s t := by
  obtain rfl := Host.Outcome.next.inj h
  with_reducible (refine Keep.trans ?_ (State.reload_keep ..) rfl; exact Keep.refl _)

theorem execCodeReloadDone_keep (image : Option Bytes) (s : State) {t : State} (h : execCodeReloadDone image s = .next t) : Keep 0x5280180001 s t := by
  obtain rfl := Host.Outcome.next.inj h
  with_reducible (refine Keep.trans ?_ (State.reloadDone_keep ..) rfl; exact Keep.refl _)

theorem execUpdOpen_keep (ini : Initiator) (s : State) {t : State} (h : execUpdOpen ini s = .next t) : Keep 0x4400180003 s t := by
  obtain rfl := Host.Outcome.next.inj h
  with_reducible
    refine State.updCmd_keepF ?_ ?_ rfl; exact Keep.refl _; intro _; intro _
    refine Keep.trans ?_ (State.updOpen_keep ..) rfl; exact Keep.refl _

theorem execUpdClose_keep (ini : Initiator) (session : BitVec 16) (s : State) {t : State} (h : execUpdClose ini session s = .next t) : Keep 0x4400180001 s t := by
  obtain rfl := Host.Outcome.next.inj h
  with_reducible
    refine State.updCmd_keepF ?_ ?_ rfl; exact Keep.refl _; intro _; intro _
    refine Keep.trans ?_ (State.updClose_keep ..) rfl; exact Keep.refl _

theorem execUpdSessionTimeout_keep (s : State) {t : State} (h : execUpdSessionTimeout s = .next t) : Keep 0x400180001 s t := by
  obtain rfl := Host.Outcome.next.inj h
  with_reducible (refine Keep.trans ?_ (State.updTimeout_keep ..) rfl; exact Keep.refl _)

theorem execUpdBegin_keep (ini : Initiator) (session : BitVec 16) (s : State) {t : State} (h : execUpdBegin ini session s = .next t) : Keep 0x4400180001 s t := by
  obtain rfl := Host.Outcome.next.inj h
  with_reducible
    refine State.updCmd_keepF ?_ ?_ rfl; exact Keep.refl _; intro _; intro _
    refine Keep.trans ?_ (State.updBegin_keep ..) rfl; exact Keep.refl _

theorem execUpdEraseDone_keep (ok : Bool) (s : State) {t : State} (h : execUpdEraseDone ok s = .next t) : Keep 0xa600180001 s t := by
  obtain rfl := Host.Outcome.next.inj h
  with_reducible (refine Keep.trans ?_ (State.eraseDone_keep ..) rfl; exact Keep.refl _)

theorem execUpdWriteBlock_keep (ini : Initiator) (session : BitVec 16) (s : State) {t : State} (h : execUpdWriteBlock ini session s = .next t) : Keep 0x4400180003 s t := by
  obtain rfl := Host.Outcome.next.inj h
  with_reducible
    refine State.updCmd_keepF ?_ ?_ rfl; exact Keep.refl _; intro _; intro _
    refine Keep.trans ?_ (State.updBlock_keep ..) rfl; exact Keep.refl _

theorem execBlockProgramDone_keep (ok : Bool) (s : State) {t : State} (h : execBlockProgramDone ok s = .next t) : Keep 0xa600180003 s t := by
  obtain rfl := Host.Outcome.next.inj h
  with_reducible (refine Keep.trans ?_ (State.blockDone_keep ..) rfl; exact Keep.refl _)

theorem execUpdVerify_keep (ini : Initiator) (session : BitVec 16) (s : State) {t : State} (h : execUpdVerify ini session s = .next t) : Keep 0x4400180001 s t := by
  obtain rfl := Host.Outcome.next.inj h
  with_reducible
    refine State.updCmd_keepF ?_ ?_ rfl; exact Keep.refl _; intro _; intro _
    refine Keep.trans ?_ (State.updVerify_keep ..) rfl; exact Keep.refl _

theorem execUpdVerifyDone_keep (s : State) {t : State} (h : execUpdVerifyDone s = .next t) : Keep 0x400000001 s t := by
  obtain rfl := Host.Outcome.next.inj h
  with_reducible (refine Keep.trans ?_ (State.verifyDone_keep ..) rfl; exact Keep.refl _)

theorem execUpdActivate_keep (ini : Initiator) (session : BitVec 16) (mode : BitVec 2) (force : Bool) (s : State) {t : State} (h : execUpdActivate ini session mode force s = .next t) : Keep 0x4400180003 s t := by
  obtain rfl := Host.Outcome.next.inj h
  with_reducible
    refine State.updCmd_keepF ?_ ?_ rfl; exact Keep.refl _; intro _; intro _
    refine Keep.trans ?_ (State.updActivate_keep ..) rfl; exact Keep.refl _

theorem execLiveActivationDone_keep (s : State) {t : State} (h : execLiveActivationDone s = .next t) : Keep 0x1680180001 s t := by
  obtain rfl := Host.Outcome.next.inj h
  with_reducible (refine Keep.trans ?_ (State.liveDone_keep ..) rfl; exact Keep.refl _)

theorem execUpdConfirm_keep (ini : Initiator) (s : State) {t : State} (h : execUpdConfirm ini s = .next t) : Keep 0x4400180001 s t := by
  obtain rfl := Host.Outcome.next.inj h
  with_reducible
    refine State.updCmd_keepF ?_ ?_ rfl; exact Keep.refl _; intro _; intro _
    refine Keep.trans ?_ (State.updConfirm_keep ..) rfl; exact Keep.refl _

theorem execOtpProgramDone_keep (ok : Bool) (s : State) {t : State} (h : execOtpProgramDone ok s = .next t) : Keep 0x456c18599b s t := by
  obtain rfl := Host.Outcome.next.inj h
  with_reducible (refine Keep.trans ?_ (State.endStomped_keep ..) rfl; refine Keep.trans ?_ (State.otpDone_keep ..) rfl; exact Keep.refl _)

theorem execUpdRevert_keep (ini : Initiator) (s : State) {t : State} (h : execUpdRevert ini s = .next t) : Keep 0x4400180001 s t := by
  obtain rfl := Host.Outcome.next.inj h
  with_reducible
    refine State.updCmd_keepF ?_ ?_ rfl; exact Keep.refl _; intro _; intro _
    refine Keep.trans ?_ (State.updRevert_keep ..) rfl; exact Keep.refl _

theorem execBankStateWriteDone_keep (ok : Bool) (s : State) {t : State} (h : execBankStateWriteDone ok s = .next t) : Keep 0xeffffff9ff s t := by
  obtain rfl := Host.Outcome.next.inj h
  with_reducible (refine Keep.trans ?_ (State.recordDone__keep ..) rfl; exact Keep.refl _)

theorem execUpdRead_keep (ini : Initiator) (s : State) {t : State} (h : execUpdRead ini s = .next t) : Keep 0x4400180001 s t := by
  obtain rfl := Host.Outcome.next.inj h
  with_reducible
    refine State.updCmd_keepF ?_ ?_ rfl; exact Keep.refl _; intro _; intro _
    refine Keep.trans ?_ (State.updRead_keep ..) rfl; exact Keep.refl _

theorem execSleep_keep (ini : Initiator) (confirm : BitVec 16) (s : State) {t : State} (h : execSleep ini confirm s = .next t) : Keep 0x4800180001 s t := by
  obtain rfl := Host.Outcome.next.inj h
  with_reducible
    refine State.sleepCmd_keepF ?_ ?_ rfl; exact Keep.refl _; intro _; refine Keep.trans ?_ (State.sleepStart_keep ..) rfl
    exact Keep.refl _

theorem execGroupSleep_keep (ini : Initiator) (confirm : BitVec 16) (g : Fin 8) (s : State) {t : State} (h : execGroupSleep ini confirm g s = .next t) : Keep 0x4800180001 s t := by
  obtain rfl := Host.Outcome.next.inj h
  with_reducible
    refine State.sleepCmd_keepF ?_ ?_ rfl; exact Keep.refl _; intro _; refine Keep.trans ?_ (State.sleepStart_keep ..) rfl
    exact Keep.refl _

theorem execGroupWake_keep (ini : Initiator) (confirm : BitVec 16) (g : Fin 8) (s : State) {t : State} (h : execGroupWake ini confirm g s = .next t) : Keep 0x4802180003 s t := by
  obtain rfl := Host.Outcome.next.inj h
  with_reducible
    refine State.sleepCmd_keepF ?_ ?_ rfl; exact Keep.refl _; intro _
    refine Keep.trans ?_ (State.groupWakeCmd_keep ..) rfl; exact Keep.refl _

theorem execAbortDevice_keep (ini : Initiator) (confirm : BitVec 16) (s : State) {t : State} (h : execAbortDevice ini confirm s = .next t) : Keep 0x4000180003 s t := by
  obtain rfl := Host.Outcome.next.inj h
  with_reducible
    refine State.sleepCmd_keepF ?_ ?_ rfl; exact Keep.refl _; intro _; refine Keep.trans ?_ (State.abortCmd_keep ..) rfl
    exact Keep.refl _

theorem execAbortGroup_keep (ini : Initiator) (confirm : BitVec 16) (g : Fin 8) (s : State) {t : State} (h : execAbortGroup ini confirm g s = .next t) : Keep 0x4000180003 s t := by
  obtain rfl := Host.Outcome.next.inj h
  with_reducible
    refine State.sleepCmd_keepF ?_ ?_ rfl; exact Keep.refl _; intro _; refine Keep.trans ?_ (State.abortCmd_keep ..) rfl
    exact Keep.refl _

theorem execReleaseIso_keep (ini : Initiator) (confirm : BitVec 16) (ch : Fin 16) (s : State) {t : State} (h : execReleaseIso ini confirm ch s = .next t) : Keep 0x4002180001 s t := by
  obtain rfl := Host.Outcome.next.inj h
  with_reducible
    refine State.sleepCmd_keepF ?_ ?_ rfl; exact Keep.refl _; intro _; refine Keep.trans ?_ (State.releaseIso_keep ..) rfl
    exact Keep.refl _

theorem execCanStuckDominant_keep (ch : Fin 16) (s : State) {t : State} (h : execCanStuckDominant ch s = .next t) : Keep 0x2042180003 s t := by
  obtain rfl := Host.Outcome.next.inj h
  with_reducible (refine Keep.trans ?_ (State.stuckDominant_keep ..) rfl; exact Keep.refl _)

theorem execGrpMembersWrite_keep (ini : Initiator) (g : Fin 8) (value : Word) (s : State) {t : State} (h : execGrpMembersWrite ini g value s = .next t) : Keep 0x4000180001 s t := by
  obtain rfl := Host.Outcome.next.inj h
  with_reducible
    refine State.writeAt_keepF ?_ ?_ rfl; exact Keep.refl _; intro _; refine Keep.trans ?_ (State.grpWrite_keep ..) rfl
    exact Keep.refl _

theorem execReadySleepExpiry_keep (g : Option (Fin 8)) (s : State) {t : State} (h : execReadySleepExpiry g s = .next t) : Keep 0x4800000001 s t := by
  obtain rfl := Host.Outcome.next.inj h
  with_reducible (refine Keep.trans ?_ (State.prepare_keep ..) rfl; exact Keep.refl _)

theorem execSleepCommit_keep (g : Option (Fin 8)) (s : State) {t : State} (h : execSleepCommit g s = .next t) : Keep 0x69661959bb s t := by
  obtain rfl := Host.Outcome.next.inj h
  with_reducible (refine Keep.trans ?_ (State.sleepCommit_keep ..) rfl; exact Keep.refl _)

theorem execPrepTimeExpiry_keep (g : Option (Fin 8)) (s : State) {t : State} (h : execPrepTimeExpiry g s = .next t) : Keep 0x69661959bb s t := by
  obtain rfl := Host.Outcome.next.inj h
  with_reducible (refine Keep.trans ?_ (State.prepExpiry_keep ..) rfl; exact Keep.refl _)

theorem execPowerDownDone_keep (ao : Nat) (s : State) {t : State} (h : execPowerDownDone ao s = .next t) : Keep 0xefeffff9f7 s t := by
  obtain rfl := Host.Outcome.next.inj h
  with_reducible (refine Keep.trans ?_ (State.powerDown_keep ..) rfl; refine Keep.trans ?_ (State.aoPass_keep ..) rfl; exact Keep.refl _)

theorem execWakeClockReady_keep (ao : Nat) (s : State) {t : State} (h : execWakeClockReady ao s = .next t) : Keep 0x800000011 s t := by
  obtain rfl := Host.Outcome.next.inj h
  with_reducible (refine Keep.trans ?_ (State.wakeClocks_keep ..) rfl; refine Keep.trans ?_ (State.aoPass_keep ..) rfl; exact Keep.refl _)

theorem execRetentionCheckDone_keep (pass : Bool) (s : State) {t : State} (h : execRetentionCheckDone pass s = .next t) : Keep 0xffffffffff s t := by
  obtain rfl := Host.Outcome.next.inj h
  with_reducible (refine Keep.trans ?_ (State.retentionDone_keep ..) rfl; exact Keep.refl _)

theorem execSerdesReady_keep (s : State) {t : State} (h : execSerdesReady s = .next t) : Keep 0x800000000 s t := by
  obtain rfl := Host.Outcome.next.inj h
  with_reducible (refine Keep.trans ?_ (State.serdesDone_keep ..) rfl; exact Keep.refl _)

theorem execKaLogRead_keep (ini : Initiator) (s : State) {t : State} (h : execKaLogRead ini s = .next t) : Keep 0x4800180001 s t := by
  obtain rfl := Host.Outcome.next.inj h
  with_reducible
    refine State.readAt_keepF ?_ ?_ rfl; exact Keep.refl _; intro _; refine Keep.trans ?_ (State.kaPop_keep ..) rfl
    exact Keep.refl _

theorem execTimeTick_keep (s : State) {t : State} (h : execTimeTick s = .next t) : Keep 0x69c79ab8b3 s t := by
  obtain rfl := Host.Outcome.next.inj h
  with_reducible (refine Keep.trans ?_ (State.timeTick_keep ..) rfl; exact Keep.refl _)

theorem execWtSet_keep (ini : Initiator) (s : State) {t : State} (h : execWtSet ini s = .next t) : Keep 0x414519b9f3 s t := by
  obtain rfl := Host.Outcome.next.inj h
  with_reducible
    refine State.writeAt_keepF ?_ ?_ rfl; exact Keep.refl _; intro _; refine Keep.trans ?_ (State.wtSet_keep ..) rfl
    exact Keep.refl _

theorem execWtStep_keep (ini : Initiator) (s : State) {t : State} (h : execWtStep ini s = .next t) : Keep 0x414519b9f3 s t := by
  obtain rfl := Host.Outcome.next.inj h
  with_reducible
    refine State.writeAt_keepF ?_ ?_ rfl; exact Keep.refl _; intro _; refine Keep.trans ?_ (State.wtStep_keep ..) rfl
    exact Keep.refl _

theorem execPll0Loss_keep (s : State) {t : State} (h : execPll0Loss s = .next t) : Keep 0x1c0001 s t := by
  obtain rfl := Host.Outcome.next.inj h
  with_reducible
    refine State.clockChange_keepF ?_ ?_; exact Keep.refl _; intro _; refine Keep.trans ?_ (State.pllLoss_keep ..) rfl
    exact Keep.refl _

theorem execPll1Loss_keep (s : State) {t : State} (h : execPll1Loss s = .next t) : Keep 0x1c0001 s t := by
  obtain rfl := Host.Outcome.next.inj h
  with_reducible
    refine State.clockChange_keepF ?_ ?_; exact Keep.refl _; intro _; refine Keep.trans ?_ (State.pllLoss_keep ..) rfl
    exact Keep.refl _

theorem execPll2Loss_keep (s : State) {t : State} (h : execPll2Loss s = .next t) : Keep 0x1c0001 s t := by
  obtain rfl := Host.Outcome.next.inj h
  with_reducible
    refine State.clockChange_keepF ?_ ?_; exact Keep.refl _; intro _; refine Keep.trans ?_ (State.pllLoss_keep ..) rfl
    exact Keep.refl _

theorem execRefclkLoss_keep (s : State) {t : State} (h : execRefclkLoss s = .next t) : Keep 0x1c0001 s t := by
  obtain rfl := Host.Outcome.next.inj h
  with_reducible
    refine State.clockChange_keepF ?_ ?_; exact Keep.refl _; intro _; refine Keep.trans ?_ (State.refclkLoss_keep ..) rfl
    exact Keep.refl _

theorem execPllLockRegained_keep (pll : Fin 3) (s : State) {t : State} (h : execPllLockRegained pll s = .next t) : Keep 0x40001 s t := by
  obtain rfl := Host.Outcome.next.inj h
  with_reducible
    refine State.clockChange_keepF ?_ ?_; exact Keep.refl _; intro _; refine Keep.trans ?_ (State.pllRegained_keep ..) rfl
    exact Keep.refl _

theorem execRefclkRestored_keep (s : State) {t : State} (h : execRefclkRestored s = .next t) : Keep 0x40001 s t := by
  obtain rfl := Host.Outcome.next.inj h
  with_reducible
    refine State.clockChange_keepF ?_ ?_; exact Keep.refl _; intro _; refine Keep.trans ?_ (State.refclkBack_keep ..) rfl
    exact Keep.refl _

theorem execFltLogRead_keep (ini : Initiator) (s : State) {t : State} (h : execFltLogRead ini s = .next t) : Keep 0x40001a0001 s t := by
  obtain rfl := Host.Outcome.next.inj h
  with_reducible
    refine State.readAt_keepF ?_ ?_ rfl; exact Keep.refl _; intro _; refine Keep.trans ?_ (State.logPop_keep ..) rfl
    exact Keep.refl _

theorem execFirstClr_keep (ini : Initiator) (s : State) {t : State} (h : execFirstClr ini s = .next t) : Keep 0x4000180001 s t := by
  obtain rfl := Host.Outcome.next.inj h
  with_reducible
    refine State.writeAt_keepF ?_ ?_ rfl; exact Keep.refl _; intro _; refine Keep.trans ?_ (State.firstClr_keep ..) rfl
    exact Keep.refl _

theorem execFltDirectClear_keep (ini : Initiator) (value : Word) (s : State) {t : State} (h : execFltDirectClear ini value s = .next t) : Keep 0x4000180001 s t := by
  obtain rfl := Host.Outcome.next.inj h
  with_reducible
    refine State.writeAt_keepF ?_ ?_ rfl; exact Keep.refl _; intro _; refine Keep.trans ?_ (State.directClear_keep ..) rfl
    exact Keep.refl _

theorem execRegisterWrite_keep (ini : Initiator) (addr : BitVec 25) (size : Nat) (value : Word) (s : State) {t : State} (h : execRegisterWrite ini addr size value s = .next t) : Keep 0xeffffffbff s t := by
  obtain rfl := Host.Outcome.next.inj h
  with_reducible (refine Keep.trans ?_ (State.registerWrite_keep ..) rfl; exact Keep.refl _)

theorem execEventClear_keep (ini : Initiator) (addr : BitVec 25) (value : Word) (s : State) {t : State} (h : execEventClear ini addr value s = .next t) : Keep 0x61e699dbfb s t := by
  obtain rfl := Host.Outcome.next.inj h
  with_reducible (refine Keep.trans ?_ (State.eventClear_keep ..) rfl; exact Keep.refl _)

theorem execCounterLowRead_keep (ini : Initiator) (addr : BitVec 25) (s : State) {t : State} (h : execCounterLowRead ini addr s = .next t) : Keep 0x4000180807 s t := by
  obtain rfl := Host.Outcome.next.inj h
  with_reducible (refine Keep.trans ?_ (State.counterLow_keep ..) rfl; exact Keep.refl _)

theorem execHoldingLowRead_keep (ini : Initiator) (addr : BitVec 25) (s : State) {t : State} (h : execHoldingLowRead ini addr s = .next t) : Keep 0x4000180005 s t := by
  obtain rfl := Host.Outcome.next.inj h
  with_reducible (refine Keep.trans ?_ (State.holdingLow_keep ..) rfl; exact Keep.refl _)

theorem execDebugSysbusAccess_keep (addr : Word) (size : Nat) (w : Option Word) (s : State) {t : State} (h : execDebugSysbusAccess addr size w s = .next t) : Keep 0xfffffffbff s t := by
  obtain rfl := Host.Outcome.next.inj h
  with_reducible (refine Keep.trans ?_ (State.sysbus_keep ..) rfl; exact Keep.refl _)

theorem execBridgeReadReceived_keep (h : TwHead) (ws : List Word) (s : State) {t : State} (h : execBridgeReadReceived h ws s = .next t) : Keep 0x69761b79bf s t := by
  obtain rfl := Host.Outcome.next.inj h
  with_reducible (refine Keep.trans ?_ (State.bridgeRead_keep ..) rfl; exact Keep.refl _)

theorem execBridgeWriteReceived_keep (h : TwHead) (ws : List Word) (s : State) {t : State} (h : execBridgeWriteReceived h ws s = .next t) : Keep 0xeffffffbff s t := by
  obtain rfl := Host.Outcome.next.inj h
  with_reducible (refine Keep.trans ?_ (State.bridgeWrite_keep ..) rfl; exact Keep.refl _)

end Sys2Proof.Machine
end

