-- ==== Sys2Proof/Laws/Select.lean ====
section
/-! SUPPORT. What the selection of a domain changes (R38 to R40): the trackers it leaves alone, and the selection it leaves. -/

namespace Sys2Proof.Machine

@[simp] theorem State.dom_setBit (s : State) (f : Fld) (b : Bool) (d : Nat) : (s.setBit f b).dom d = s.dom d := (rfl)
@[simp] theorem State.dom_set (s : State) (f : Fld) (v d : Nat) : (s.set f v).dom d = s.dom d := (rfl)
@[simp] theorem State.dom_raise (s : State) (f : Fld) (d : Nat) : (s.raise f).dom d = s.dom d := by
  unfold State.dom; rw [State.raise_tim]
@[simp] theorem State.dom_bump (s : State) (a d : Nat) : (s.bump a).dom d = s.dom d := (rfl)
@[simp] theorem State.dom_alignStop (s : State) (d : Nat) : s.alignStop.dom d = s.dom d := (rfl)
@[simp] theorem State.dom_alignStart (s : State) (e d : Nat) : (s.alignStart e).dom d = s.dom d := (rfl)
@[simp] theorem State.dom_emit (s : State) (e : Emit) (d : Nat) : (s.emit e).dom d = s.dom d := (rfl)

theorem State.dom_setDom (s : State) (d e : Nat) (t : Tracker) (hd : d < 2) (he : e < 2) :
    (s.setDom d t).dom e = if e = d then t else s.dom e := by
  obtain rfl | rfl : d = 0 ∨ d = 1 := by omega
  · obtain rfl | rfl : e = 0 ∨ e = 1 := by omega
    · rfl
    · rfl
  · obtain rfl | rfl : e = 0 ∨ e = 1 := by omega
    · rfl
    · rfl

@[simp] theorem State.dom_timLevels (s : State) (d : Nat) : s.timLevels.dom d = s.dom d := (rfl)
@[simp] theorem State.timLevels_tim (s : State) : s.timLevels.tim = s.tim := (rfl)

theorem State.dom_selChange (s : State) (n : Sel) (d : Nat) : (s.selChange n).dom d = s.dom d := by
  unfold State.selChange
  dsimp only
  split
  · rfl
  · cases n with
    | holdover => simp only [State.dom_raise]; rfl
    | follow e =>
      dsimp only
      generalize s.tim.sel = o
      cases o <;> simp only [State.dom_raise, State.dom_bump] <;> split <;> rfl

/-- Selection moves no tracker. -/
theorem State.dom_timSelect (s : State) (d : Nat) : s.timSelect.dom d = s.dom d := by
  unfold State.timSelect; rw [State.dom_selChange, State.dom_timLevels]

theorem State.sel_selChange (s : State) (n : Sel) : (s.selChange n).tim.sel = n := by
  unfold State.selChange
  dsimp only
  split
  · rename_i h; exact h.symm
  · cases n with
    | holdover => simp only [State.raise_tim]; rfl
    | follow e =>
      dsimp only
      generalize s.tim.sel = o
      cases o <;> simp only [State.raise_tim, State.bump_tim] <;> split <;> rfl

/-- The selection is the one that R38's evaluation names. -/
theorem State.sel_timSelect (s : State) : s.timSelect.tim.sel = s.timLevels.selWant := by
  unfold State.timSelect; exact State.sel_selChange ..

/-- The levels stand in the status registers only. -/
theorem State.rd_timLevels {s : State} (h : s.wf = true) {b : Nat} (h0 : b ≠ (TIM.DOM_STATUS_VALID 0).addr)
    (h1 : b ≠ (TIM.DOM_STATUS_VALID 1).addr) (h2 : b ≠ TIM.TIM_STATUS) : s.timLevels.rd b = s.rd b := by
  unfold State.timLevels State.setBit
  dsimp only
  have w := fun (t : State) (f : Fld) (v : Nat) (h : t.wf = true) => State.set_wf h f v
  have w1 := w _ (TIM.DOM_STATUS_VALID 0) (if s.domValid 0 = true then 1 else 0) h
  have w2 := w _ (TIM.DOM_STATUS_VALID 1) (if s.domValid 1 = true then 1 else 0) w1
  have w3 := w _ TIM.TIM_STATUS_DOM0_VALID (if s.domValid 0 = true then 1 else 0) w2
  have w4 := w _ TIM.TIM_STATUS_DOM1_VALID (if s.domValid 1 = true then 1 else 0) w3
  have w5 := w _ (TIM.DOM_STATUS_TIMEOUT 0) (if s.timedOut 0 = true then 1 else 0) w4
  exact (State.rd_set_ne (f := TIM.DOM_STATUS_TIMEOUT 1) w5 h1).trans <| (State.rd_set_ne (f := TIM.DOM_STATUS_TIMEOUT 0) w4 h0).trans <|
    (State.rd_set_ne (f := TIM.TIM_STATUS_DOM1_VALID) w3 h2).trans <|
    (State.rd_set_ne (f := TIM.TIM_STATUS_DOM0_VALID) w2 h2).trans <| (State.rd_set_ne w1 h1).trans (State.rd_set_ne h h0)

/-- Selection wants the same before and after the levels are brought up to date. -/
theorem State.selWant_timLevels {s : State} (h : s.wf = true) : s.timLevels.selWant = s.selWant := by
  have c : s.timLevels.rd 0x100000 = s.rd 0x100000 := State.rd_timLevels h (by decide) (by decide) (by decide)
  have v : ∀ d, s.timLevels.domValid d = s.domValid d := by
    intro d
    have e : s.timLevels.rd (TIM.DOM_CFG d) = s.rd (TIM.DOM_CFG d) := by
      refine State.rd_timLevels h ?_ ?_ ?_ <;> simp only [TIM.DOM_CFG, TIM.DOM_STATUS_VALID, TIM.TIM_STATUS] <;> omega
    have o : s.timLevels.receiptOver d = s.receiptOver d := by
      unfold State.receiptOver State.get
      rw [show (TIM.DOM_CFG_RX_TIMEOUT d).addr = TIM.DOM_CFG d from rfl, e, State.dom_timLevels]
    unfold State.domValid State.bit State.get
    rw [o]
    rw [show (TIM.DOM_CFG_ENABLE d).addr = TIM.DOM_CFG d from rfl, show (TIM.DOM_CFG_ACCEPT d).addr = TIM.DOM_CFG d from rfl, e]
    rfl
  have g : ∀ f : Fld, f.addr = 0x100000 → s.timLevels.get f = s.get f := by
    intro f hf; unfold State.get; rw [hf, c]
  have r : s.timLevels.revertDue = s.revertDue := by
    unfold State.revertDue State.bit
    rw [g TIM.TIM_CTRL_SEL_MODE rfl, g TIM.TIM_CTRL_REVERT rfl, g TIM.TIM_CTRL_PRIMARY rfl]
    simp only [v, State.timLevels_tim, State.dom_timLevels]
  unfold State.selWant
  simp only [g TIM.TIM_CTRL_SEL_MODE rfl, g TIM.TIM_CTRL_PRIMARY rfl, v, r, State.timLevels_tim]

end Sys2Proof.Machine
end

