-- ==== Sys2Proof/Laws/Tables.lean ====
section
/-! SUPPORT. What the shared table operations do to what is read afterwards: the words of an entry (R396), the data window, and a
register of which another field is written. -/

namespace Sys2Proof.Machine

theorem tkey_add (blk tbl bank idx w : Nat) : tkey blk tbl bank idx w = tkey blk tbl bank idx 0 + w := by unfold tkey; rw [Nat.add_zero]

/-- A stored entry: its words, and every other table word. -/
theorem State.tab_setEntry {blk tbl bank idx : Nat} (ws : List Word) : ∀ {s : State} (_ : s.wf = true) (w k : Nat),
    (s.setEntry blk tbl bank idx w ws).tab k =
      if tkey blk tbl bank idx w ≤ k ∧ k < tkey blk tbl bank idx w + ws.length then ws.getD (k - tkey blk tbl bank idx w) 0 else s.tab k := by
  induction ws with
  | nil => intro s h w k; rw [if_neg (by rw [List.length_nil]; omega)]; rfl
  | cons v rest ih =>
    intro s h w k
    unfold State.setEntry
    rw [ih (State.setTw_wf h ..), tkey_add _ _ _ _ (w + 1), tkey_add _ _ _ _ w, List.length_cons]
    unfold State.setTw
    rw [State.tab_setTab h, tkey_add _ _ _ _ w]
    generalize tkey blk tbl bank idx 0 = m
    by_cases e : k = m + w
    · rw [if_neg (by omega), if_pos e, if_pos (by omega), e, Nat.sub_self]; rfl
    · rw [if_neg e]
      by_cases e2 : m + (w + 1) ≤ k ∧ k < m + (w + 1) + rest.length
      · rw [if_pos e2, if_pos (by omega), show k - (m + w) = (k - (m + (w + 1))) + 1 by omega, List.getD_cons_succ]
      · rw [if_neg e2, if_neg (by omega)]

/-- The entry that was stored is read back. -/
theorem State.entry_setEntry {s : State} (h : s.wf = true) (blk tbl bank idx : Nat) (ws : List Word) :
    (s.setEntry blk tbl bank idx 0 ws).entry blk tbl bank idx ws.length = ws := by
  unfold State.entry State.tw
  refine List.ext_getElem (by rw [List.length_map, List.length_range]) fun i h1 h2 => ?_
  rw [List.getElem_map, List.getElem_range, State.tab_setEntry ws h, tkey_add _ _ _ _ i]
  generalize tkey blk tbl bank idx 0 = m
  rw [if_pos (by omega), Nat.add_sub_cancel_left, List.getD_eq_getElem?_getD, List.getElem?_eq_getElem h2]; rfl

/-- A data window after it was filled, and every other register. -/
theorem State.rd_fillWindow {base : Nat} {ws : List Word} (n : Nat) : ∀ {s : State} (_ : s.wf = true) (b : Nat),
    (s.fillWindow base n ws).rd b = if base ≤ b ∧ b < base + 4 * n ∧ (b - base) % 4 = 0 then ws.getD ((b - base) / 4) 0 else s.rd b := by
  induction n with
  | zero => intro s h b; rw [if_neg (by omega)]; rfl
  | succ n ih =>
    intro s h b
    have e : s.fillWindow base (n + 1) ws = (s.fillWindow base n ws).wr (base + 4 * n) (ws.getD n 0) := by
      unfold State.fillWindow State.each
      rw [List.range_succ, List.foldl_append]; rfl
    have w : (s.fillWindow base n ws).wf = true := (State.fillWindow_keep ..).wf h
    rw [e, State.rd_wr w, ih h]
    by_cases q : b = base + 4 * n
    · rw [if_pos q, if_pos (by omega)]; congr 1; omega
    · rw [if_neg q]
      by_cases q2 : base ≤ b ∧ b < base + 4 * n ∧ (b - base) % 4 = 0
      · rw [if_pos q2, if_pos (by omega)]
      · rw [if_neg q2, if_neg (by omega)]

@[simp] theorem State.tab_fillWindow (s : State) (base n : Nat) (ws : List Word) (k : Nat) : (s.fillWindow base n ws).tab k = s.tab k := by
  unfold State.tab; rw [(State.fillWindow_keep s base n ws).same .tabs rfl]

/-- The words of an entry as a list. -/
theorem State.entry_getD (s : State) (blk tbl bank idx n w : Nat) (h : w < n) : (s.entry blk tbl bank idx n).getD w 0 = s.tw blk tbl bank idx w := by
  unfold State.entry
  rw [List.getD_eq_getElem?_getD, List.getElem?_map, List.getElem?_range h]; rfl

end Sys2Proof.Machine
end

