-- ==== Sys2Proof/WellFormed.lean ====
section
/-! DEFINITION. WellFormed.lean: the commands that the outside can send. The meanings are total; what is refused here never
comes. -/
namespace Sys2Proof

/-- A CAN message as a frame of the bus can carry it (R205): an 11-bit identifier without IDE, no remote frame in FD format, BRS and
ESI in FD format only, and a data length that DLC can say. -/
def CanMsg.wf (m : CanMsg) : Bool :=
  (m.ide || decide (m.id.toNat < 2048)) &&
  (if m.fdf then !m.rtr && [0, 1, 2, 3, 4, 5, 6, 7, 8, 12, 16, 20, 24, 32, 48, 64].contains m.data.length
   else !m.brs && !m.esi && decide (m.data.length ≤ 8) && (!m.rtr || m.data.isEmpty))

/-- The registers that a halted core shows: x0 is not among them (R301), and each stands there once. -/
def CoreRegs.wf (r : CoreRegs) : Bool :=
  (r.gprs.all fun x => decide (x.1 ≠ 0)) && decide (r.gprs.map Prod.fst).Nodup && decide (r.csrs.map Prod.fst).Nodup

/-- OP of a TBL_CMD word, bits [27:24] (R396). -/
def opIs (cmd : Word) (op : Nat) : Bool := cmd.toNat / 16777216 % 16 == op

/-- Sizes, in bytes, of the accesses that reach the register space. -/
def accessSize (n : Nat) : Bool := [1, 2, 4, 8].contains n

/-- A record TYPE that Table 13.7 does not name. -/
def reservedRecord (t : Nat) : Bool := !((List.range 7).drop 1 ++ (List.range 7).map (· + 16) ++ [32, 48]).contains t

/-- The confirmation, image and record commands take any operand; the others are held to what the wire, the bus or the row's own OP
can give. -/
def Instr.wf : Instr → Bool
  | .registerWrite _ _ size _ => accessSize size
  | .eventClear .. | .counterLowRead .. | .holdingLowRead .. | .timeTick | .alignmentComplete | .trackerTimeout ..
  | .revertDelayExpiry | .holdoverLimitExpiry | .wtIncrWrite .. | .wtAdjWrite .. | .wtSet .. | .wtStep .. | .wtSnap ..
  | .domOffAdjWrite .. | .domRateAdjWrite .. | .domSetHiWrite .. => true
  | .syncReceive _ _ frame _ => decide (14 ≤ frame.length)
  | .followUpReceive _ _ frame => decide (14 ≤ frame.length)
  | .syncRecRead .. | .lttInfoRead .. | .pinModeWrite .. | .pinArm .. | .pinStop .. | .pinRelease .. | .pulseLeadingEdge ..
  | .pulseTrailingEdge .. | .pairedEnableChange .. | .inputEdge .. | .edgeFilterExpiry .. | .inputStuckTimeout ..
  | .capSecHiRead .. | .evtHoldExpiry .. | .markerEnableWrite .. | .markerInstant | .pcsCfgWrite .. | .autonegWordReceived ..
  | .pcsLockGained .. | .linkUp .. | .linkDown .. | .fecCodewordReceived .. | .frameRxStart .. | .frameRxEnd .. => true
  | .pfcReceived _ _ times => times.length == 8
  | .pauseReceived .. | .pfcPauseExpiry .. | .ctThreshWrite .. | .txStart .. | .txEnd .. | .underrun ..
  | .verifyTimerExpiry .. | .verifyMpacketReceived .. | .respondMpacketReceived .. | .preemption .. | .fragmentReceived ..
  | .lpiEnter .. | .lpiExit .. | .pfcXon .. | .pfcRefreshExpiry .. | .pfcFrameSend .. | .sluiceResolve .. | .versionOpen ..
  | .openSweepDone | .versionCommitNow .. | .versionCommitAt .. | .versionCancel .. | .versionAbandon .. | .commitFire
  | .versionRetire .. | .ruleSweepDone => true
  | .slcTblRead _ cmd _ => opIs cmd 1
  | .slcTblWrite _ cmd => opIs cmd 2
  | .slcTblHash _ cmd => opIs cmd 3
  | .slcTblMove _ cmd => opIs cmd 4
  | .slcTblLookup _ cmd => opIs cmd 5
  | .streamStages .. | .meterRefill | .recoveryTimeout .. => true
  | .strTblRead _ cmd _ => opIs cmd 1
  | .strTblWrite _ cmd => opIs cmd 2
  | .clearLatch _ cmd => opIs cmd 3
  | .fill _ cmd => opIs cmd 4
  | .recReset _ cmd => opIs cmd 5
  | .strEvqRead .. => true
  | .bufferAllocate _ fids core => decide fids.Nodup && core.all fun x => decide (60 ≤ x.2.length) && decide (x.2.length ≤ 9724)
  | .losslessWaitExpiry .. | .relCmd .. | .ageScan | .bufSelWrite .. | .voqSelWrite .. => true
  | .cellTime _ _ reads _ => decide (reads.map Prod.fst).Nodup
  | .cellArrival .. | .cellMissingTimeout .. | .planeRemoveCmd .. | .planeRestoreCmd .. | .planeSelfCheckDone ..
  | .ptrSelWrite .. | .tsSelWrite .. => true
  | .crsTblRead _ cmd _ => opIs cmd 1
  | .crsTblWrite _ cmd => opIs cmd 2
  | .gateEntryStart .. | .holdAssert .. | .gateChangeArm .. | .gateChangeCancel .. | .gateChangeFire | .shaperRefill => true
  | .lkpTblRead _ cmd _ => opIs cmd 1
  | .lkpTblWrite _ cmd => opIs cmd 2
  | .canModeWrite .. | .canIntegrated .. => true
  | .canMsgReceived _ msg _ => msg.wf
  | .canProtocolException .. | .canErrorFrame .. | .canTxSof .. | .canArbLost .. | .canTxDone .. | .canCancel ..
  | .canFlush .. | .canRecoverCmd .. | .canRecoveryDone .. | .canGatingChange .. | .canStuckDominant .. | .internalFrameBuild
  | .packerRelease .. | .secRequestResubmit => true
  | .gweTblRead _ cmd _ => opIs cmd 1
  | .gweTblWrite _ cmd => opIs cmd 2
  | .gweEvqRead .. | .keyWrite .. | .keyDerive .. | .keyUnwrap .. | .keyErase .. | .keyLock .. | .keyInfo .. | .keyCmdDone
  | .lcTransition .. | .zeroizeDone | .otpProgramDone .. | .arbAdvance .. | .splitToggle .. | .icvResult .. => true
  | .cphTblRead _ cmd _ => opIs cmd 1
  | .cphTblWrite _ cmd => opIs cmd 2
  | .laSubmit .. | .laComplete .. | .laResultRead .. | .laCtrWrite .. | .pairCycleEnd | .heartbeatDeadline | .claimWordSend
  | .claimWordReceived .. | .heartbeatReceived .. | .noteReceived .. | .noteWaitExpiry | .digestReceived ..
  | .stateObjectReceived .. | .timeRecordReceived .. | .resyncReqReceived .. | .ctrlFrameResend
  | .swapArm .. | .swapCancel .. | .propose .. | .ack .. | .nak .. | .swapCommit .. | .swapCancelReceived ..
  | .swapGuardDeadline | .swapExecute | .swapEndFence | .isolate .. | .rejoin .. | .resync .. | .announce .. | .ready ..
  | .notReady .. | .go .. | .pcCancelReceived .. | .pcGuardDeadline | .lockstepMismatch .. | .pairRestart .. | .resetCtrl ..
  | .resetSec .. => true
  | .coreMemError ini addr size _ _ => (ini == .hart0 || ini == .hart1 || ini == .sec) && [1, 2, 4].contains size && decide (addr.toNat % size = 0)
  | .mtimeMatch .. | .mtimecmpHiWrite .. => true
  | .debugHalt _ r => r.wf
  | .debugResume .. => true
  | .debugStep _ r => r.wf
  | .debugAbstractWrite _ csr num _ => csr || (decide (num.toNat < 32) && decide (num.toNat ≠ 0))
  | .debugProgbufExec _ r => r.wf
  | .debugSysbusAccess _ size _ => [1, 2, 4, 8, 16].contains size
  | .dbgChallenge .. | .dbgSubmit .. | .dbgVerifyDone | .dbgDisable .. | .pcieDown .. | .perst | .ringTailWrite ..
  | .ringEnableWrite .. | .txRingFetch .. | .txRingFrameDone .. | .ringCoalExpiry .. | .ringEventClear .. => true
  | .windowRead _ _ size => accessSize size
  | .windowReadResponse .. | .peerReadTimeout .. => true
  | .windowWrite _ _ size _ => accessSize size
  | .postedWriteFail .. | .perrLogRead .. | .bridgeReadReceived .. | .bridgeWriteReceived .. | .bridgeLockReadReceived ..
  | .bridgeWriteUnlockReceived .. | .bridgeUnlockReceived .. | .bridgeResponseReceived .. | .bridgePostedFailReceived ..
  | .lockRead .. | .writeUnlock .. | .unlock .. | .lockTimeoutExpiry | .twinLinkDown | .msixUnmask .. | .coldReset ..
  | .warmReset .. | .fuseStageDone | .flashStageDone .. | .imageAuthDone | .recordApply | .imageCheckDone | .sysLoad ..
  | .sysRelease .. | .releaseWaitExpiry | .payloadCheckDone | .reloadCtrl .. | .reloadSec .. | .codeReloadDone ..
  | .updOpen .. | .updClose .. | .updBegin .. | .updEraseDone .. | .updWriteBlock .. | .updVerify .. | .updVerifyDone
  | .updActivate .. | .liveActivationDone | .updConfirm .. | .updRevert .. | .updRead .. | .updSessionTimeout | .sleep ..
  | .groupSleep .. | .groupWake .. | .abortDevice .. | .abortGroup .. | .releaseIso .. | .readySleepExpiry ..
  | .sleepCommit .. | .prepTimeExpiry .. | .powerDownDone .. | .canWakeDom .. => true
  | .canWakeFrame _ msg _ => msg.wf
  | .canWakeTrx .. | .ethInhRise .. | .ethInhFall .. | .wakeTimerExpiry .. | .wakeClockReady .. | .retentionCheckDone ..
  | .serdesReady | .kaLogRead .. | .grpMembersWrite .. | .pll0Loss | .pll1Loss | .pll2Loss | .refclkLoss | .fltLogRead ..
  | .firstClr .. | .fltDirectClear .. | .linkPartnerLpiSignalling .. | .twinLinkUp => true
  | .towpathBadFrame odd => odd.all fun x => reservedRecord x.2.2.toNat
  | .pcieLinkUp speed width => decide (speed ≠ 0) && (width == 1 || width == 2 || width == 4)
  | .hostWindowCompletionTimeout .. | .blockProgramDone .. | .bankStateWriteDone .. | .pllLockRegained .. | .refclkRestored => true

end Sys2Proof
end

