-- ==== Sys2Proof/Tests/Slice0.lean ====
section
/-! SUPPORT. Slice0.lean: what WellFormed refuses, and for each statement of Obligations.lean that has hypotheses, states and operands
that meet them, clause by clause. -/
namespace Sys2Proof.Tests
set_option Elab.async false
open Sys2Proof Sys2Proof.Machine

/-- The device running: released, at stage RUN. -/
def wRun : State := (State.reset.set SYS.SYS_STATUS_STAGE 6).setBit SYS.SYS_STATUS_RELEASED true

/-- A PTP message of a type, version and domain, with twoStepFlag set or not, behind its Ethernet header. -/
def wPtp (ty flags : Byte) : Bytes :=
  [0x01, 0x80, 0xC2, 0, 0, 0x0E, 2, 0, 0, 0, 0, 1, 0x88, 0xF7] ++ [0x10 ||| ty, 0x12, 0, 44, 0, 0, flags, 0] ++ zeros 22 ++ [0, 7, 0, 0xFD] ++ zeros 10

/-- Domain 0 tracked from port 0. -/
def wDom : State := wRun.setBit (TIM.DOM_CFG_ENABLE 0) true

/-- Pin 3 as an output with a pulse of 4 of 100 quarter nanoseconds, or as an input. -/
def wOut : State := (((wRun.set (TIO.PIN_CFG_MODE 3) 1).set (TIO.PERIOD_QNS 3) 100).set (TIO.WIDTH_QNS 3) 16).set (TIO.COUNT_PULSES 3) 4
def wIn : State := (wRun.set (TIO.PIN_CFG_MODE 3) 2).set (TIO.PIN_CFG_EDGE 3) 3
def wTrain : Train := { start := 10, period := 100, width := 16, count := 4, next := 0, done := 0 }

/-- Port 0 in mode 2 with its link up, taking and sending frames. -/
def wPort : State :=
  ((((wRun.set (MAC.PCS_CFG_MODE 0) 2).set (MAC.PORT_STATUS_SPEED_ACT 0) 3).setBit (MAC.PORT_STATUS_LINK 0) true).setBit (MAC.MAC_CFG_RX_EN 0) true).setBit (MAC.MAC_CFG_TX_EN 0) true
/-- Port 12 in mode 6 with FEC in lock. -/
def wFec : State :=
  (((wRun.set (MAC.PCS_CFG_MODE 12) 6).setBit (MAC.PCS_CFG_FEC_EN 12) true).setBit (MAC.PORT_STATUS_FEC_LOCK 12) true).setBit
    (MAC.PORT_STATUS_LINK 12) true

/-- A frame of 60 bytes that has come from port 0. -/
def wFrame : Frame := { fid := 5, inPort := 0, src := 0, data := zeros 60, tail := true, ts := 0, len := 64 }

/-- A copy of a long frame that port 0 sends. -/
def wBuf : Frame := { wFrame with data := zeros 1000, len := 1004, handle := some (0, 0, 0), stage := .buffered }
def wCopy : Copy := { cid := 9, fid := 5, inp := 1, out := 0, tc := 0, mirror := false, oneStep := false, ct := false, st := .sending }
def wTx : Tx := { cid := some 9, start := 0, first := 0, data := zeros 1000, bytes := 1004, express := false, close := none }

/-- Sluice with one node, one profile, the zone open and one rule for a frame from port 0: the copies of port set 0 (port 1). -/
def wSlcBase : State :=
  (((((wPort.setTw 4 tNode 0 0 0 0x84000E00).setTw 4 tNode 0 0 2 0x2000).setTw 4 tProfile 0 0 0 0xC0000000).setTw 4 tPortSet 0 0 0 0x10002).setTw 4
    tZone 0 0 0 0xFFFF)
def wKey : Nat := wSlcBase.keyOf 0 0 0 0 {} (zeros 60)
def wSlc : State :=
  let i := wSlcBase.ruleCand wKey 0
  let s := (List.range 10).foldl (fun s w => s.setTw 4 tRule 0 i w (word (wKey / 2 ^ (32 * w)))) wSlcBase
  { (s.setTw 4 tRule 0 i 10 0x40000000).setTw 4 tRule 0 i 12 0x80000001 with frames := [wFrame] }
def wParse : Parse := { l2End := 14, vlanEnd := 14, payload := 14 }

/-! ### What WellFormed refuses -/

def wMsg : CanMsg := { ide := false, id := 5, rtr := false, fdf := false, brs := false, esi := false, data := [] }
def wRegs : CoreRegs := { pc := 0, user := false, gprs := [], csrs := [] }

theorem smoke_register_size : (Instr.registerWrite .host 0 3 0).wf = false := by decide
theorem smoke_sync_short : (Instr.syncReceive 0 0 (List.replicate 13 0) 0).wf = false := by decide
theorem smoke_follow_up_short : (Instr.followUpReceive 0 0 []).wf = false := by decide
theorem smoke_pfc_times : (Instr.pfcReceived 0 1 [1]).wf = false := by decide
theorem smoke_slc_op : (Instr.slcTblRead .hart0 0x02000000 .ok).wf = false ∧ (Instr.slcTblWrite .hart0 0x01000000).wf = false ∧
    (Instr.slcTblHash .hart0 0x04000000).wf = false ∧ (Instr.slcTblMove .hart0 0x05000000).wf = false ∧
    (Instr.slcTblLookup .hart0 0).wf = false := by decide
theorem smoke_str_op : (Instr.strTblRead .hart0 0x02000000 .ok).wf = false ∧ (Instr.strTblWrite .hart0 0x01000000).wf = false ∧
    (Instr.clearLatch .hart0 0x04000000).wf = false ∧ (Instr.fill .hart0 0x05000000).wf = false ∧
    (Instr.recReset .hart0 0x03000000).wf = false := by decide
theorem smoke_allocate_twice : (Instr.bufferAllocate 0 [4, 4] []).wf = false := by decide
theorem smoke_cell_reads_twice : (Instr.cellTime .none .none [(1, .ok), (1, .ok)] none).wf = false := by decide
theorem smoke_crs_op : (Instr.crsTblRead .hart0 0x02000000 .ok).wf = false ∧ (Instr.crsTblWrite .hart0 0x01000000).wf = false := by decide
theorem smoke_lkp_op : (Instr.lkpTblRead .hart0 0x02000000 .ok).wf = false ∧ (Instr.lkpTblWrite .hart0 0x01000000).wf = false := by decide
theorem smoke_gwe_op : (Instr.gweTblRead .hart0 0x02000000 .ok).wf = false ∧ (Instr.gweTblWrite .hart0 0x01000000).wf = false := by decide
theorem smoke_cph_op : (Instr.cphTblRead .sec 0x02000000 .ok).wf = false ∧ (Instr.cphTblWrite .sec 0x01000000).wf = false := by decide
theorem smoke_can_id : (Instr.canMsgReceived 0 { wMsg with id := 2048 } 0).wf = false := by decide
theorem smoke_can_fd_remote : (Instr.canMsgReceived 0 { wMsg with fdf := true, rtr := true } 0).wf = false := by decide
theorem smoke_can_fd_length : (Instr.canMsgReceived 0 { wMsg with fdf := true, data := List.replicate 9 0 } 0).wf = false := by decide
theorem smoke_can_brs : (Instr.canMsgReceived 0 { wMsg with brs := true } 0).wf = false := by decide
theorem smoke_can_esi : (Instr.canMsgReceived 0 { wMsg with esi := true } 0).wf = false := by decide
theorem smoke_can_length : (Instr.canMsgReceived 0 { wMsg with data := List.replicate 9 0 } 0).wf = false := by decide
theorem smoke_can_remote_data : (Instr.canMsgReceived 0 { wMsg with rtr := true, data := [1] } 0).wf = false := by decide
theorem smoke_wake_frame : (Instr.canWakeFrame 0 { wMsg with id := 2048 } 0).wf = false := by decide
theorem smoke_core_mem_agent : (Instr.coreMemError .host 0 4 none .ok).wf = false := by decide
theorem smoke_core_mem_align : (Instr.coreMemError .hart0 2 4 none .ok).wf = false := by decide
theorem smoke_core_mem_size : (Instr.coreMemError .hart0 0 8 none .ok).wf = false := by decide
theorem smoke_core_frame : (Instr.bufferAllocate 0 [] [(false, [1])]).wf = false := by decide
theorem smoke_bad_record : (Instr.towpathBadFrame (some ({ net := false, seq := 0, cycle := 0, claim := 0 }, 0, 16))).wf = false := by decide
theorem smoke_pcie_width : (Instr.pcieLinkUp 3 3).wf = false := by decide
theorem smoke_regs_zero : (Instr.debugHalt 0 { wRegs with gprs := [(0, 5)] }).wf = false := by decide
theorem smoke_regs_twice : (Instr.debugStep 0 { wRegs with gprs := [(1, 5), (1, 6)] }).wf = false := by decide
theorem smoke_csrs_twice : (Instr.debugProgbufExec 0 { wRegs with csrs := [(1, 5), (1, 6)] }).wf = false := by decide
theorem smoke_abstract_x0 : (Instr.debugAbstractWrite 0 false 0 5).wf = false := by decide
theorem smoke_abstract_number : (Instr.debugAbstractWrite 0 false 32 5).wf = false := by decide
theorem smoke_sysbus_size : (Instr.debugSysbusAccess 0 3 none).wf = false := by decide
theorem smoke_window_read_size : (Instr.windowRead .hart0 0 3).wf = false := by decide
theorem smoke_window_write_size : (Instr.windowWrite .hart0 0 16 0).wf = false := by decide
theorem smoke_plain_can : (Instr.canMsgReceived 0 { wMsg with ide := true, id := 2048, fdf := true, data := List.replicate 64 0 } 0).wf = true := by
  decide

/-! ### The table's rows give no bits -/

theorem test_no_word_decodes : decodeTableWord 32 0x12345678 = none := by decide
theorem test_fetch_word_leaves_queue : (State.reset.withFetchWord 32 5).pending = [] := by decide

/-- A record of TYPE, ARG and body with its CRC (R339), and an image of a boot part alone that carries its BOOT_HASH (Table 16.2). -/
def wRec (typ arg : Nat) (body : Bytes) : Bytes :=
  let b := leBytes [word (typ * 16777216), word body.length, word arg] ++ body
  b ++ leBytes [imgCrc b]
def wImg (body : Bytes) : Bytes :=
  zeros 8 ++ leBytes [word (256 + body.length), 0] ++ zeros 32 ++ sha body ++ zeros 176 ++ body

/-- The update engine with a session of the host, block 1 of 4 in the window, and a word in BLK_CRC. -/
def wBlk : State :=
  { (wRun.set UPD.IMG_BLOCKS_BLOCKS 4).set UPD.BLK_INDEX_INDEX 1 with upd := { wRun.upd with owner := some 0, session := 5, map := [2], erased := 4 } }
theorem wBlk_wf : wBlk.wf = true := by decide +kernel
theorem wBlk_data (v : Word) : (wBlk.wr UPD.BLK_CRC v).blockData = wBlk.blockData := by
  unfold State.blockData
  exact congrArg leBytes (List.map_congr_left fun k _ => State.rd_wr_ne wBlk_wf v (by unfold UPD.UPD_DATA UPD.BLK_CRC; omega))
theorem wBlk_get (v : Word) (f : Fld) (h : f.addr ≠ UPD.BLK_CRC) : (wBlk.wr UPD.BLK_CRC v).get f = wBlk.get f := by
  simp [State.get, State.rd_wr_ne wBlk_wf, h]
theorem wBlk_may (v : Word) : (wBlk.wr UPD.BLK_CRC v).mayWrite .host UPD.UPD_CMD = true := by
  have h : wBlk.mayWrite .host UPD.UPD_CMD = true := by decide +kernel
  unfold State.mayWrite State.preRunBlocked State.stage State.bootMode
  rw [wBlk_get v SYS.SYS_STATUS_STAGE (by decide), wBlk_get v SYS.SYS_STRAP_BOOT_MODE (by decide)]
  exact h

/-- A unit of a pair with rank 4 whose peer has the higher claim, on a twin link that is up: the standby; and with rank 8: the active. -/
def wPair : State :=
  (((((wRun.setBit TWP.TWP_CTRL_PAIR_EN true).setBit TWP.TWP_CTRL_TW_EN true).setBit TWP.TWP_CTRL_LINE_EN true).setBit BRG.BRG_STATUS_TW_LINK true).set
    TWP.CLAIM_STATUS_OWN 0x4000).set TWP.CLAIM_STATUS_PEER 0x4001
def wAct : State := (wPair.set TWP.CLAIM_STATUS_OWN 0x8000).setBit TWP.PAIR_STATUS_PEER_PRESENT true

/-- The header of a frame from the peer, the unit once it has taken that frame on a stream, and a claim-line word. -/
def wHead : TwHead := { net := false, seq := 1, cycle := 0, claim := 0x4001 }
def wTook (s : State) (stream : Nat) : State := (s.twTake stream wHead).getD s
def wLine (v : Nat) : BitVec 48 := BitVec.ofNat 48 (0xD5 * 1099511627776 + v * 256 + lineCrc v)

/-! ### The hypotheses of the statements, met by concrete states -/

theorem wit_StepRunsFrontCommand_1 : ∃ (c : Instr) (rest : List Instr) (s : State), (s.pending = c :: rest) :=
  ⟨.timeTick, [.wtSnap .host], { wRun with pending := [.timeTick, .wtSnap .host] }, by decide +kernel⟩

theorem wit_EmptyQueueIdles_1 : ∃ (s : State), (s.pending = []) :=
  ⟨State.reset, by decide +kernel⟩

theorem wit_StepsKeepForm_1 : ∃ s t : State, step s = .next t ∧ s.wf = true ∧ s.fltLog.length ≤ 32 :=
  ⟨{ wRun with pending := [.timeTick] }, _, rfl, by decide +kernel, by decide +kernel⟩

theorem wit_SteeringWrites_1 : ∃ (ini : Initiator) (s : State), (s.wf = true) ∧ (s.mayWrite ini TIM.WT_INCR_NS = true) ∧ (s.steerBlocked = false) :=
  ⟨.host, wRun, by decide +kernel⟩

theorem wit_SteeringWrites_2 : ∃ (ini : Initiator) (s : State), (s.mayWrite ini TIM.WT_ADJ = true) ∧ (s.steerBlocked = false) :=
  ⟨.hart0, wRun, by decide +kernel⟩

theorem wit_SteeringWrites_3 : ∃ (ini : Initiator) (s : State), (s.wf = true) ∧ (s.mayWrite ini TIM.WT_ADJ = true) ∧ (s.steerBlocked = true) :=
  ⟨.hart0, { wRun with tim := { wRun.tim with align := some ⟨0, 0, 0, 0⟩ } }, by decide +kernel⟩

theorem wit_SteeringWrites_4 : ∃ (ini : Initiator) (s : State), (s.wf = true) ∧ (s.mayWrite ini TIM.WT_INCR_NS = true) ∧ (s.steerBlocked = true) :=
  ⟨.host, { wRun with tim := { wRun.tim with align := some ⟨0, 0, 0, 0⟩ } }, by decide +kernel⟩

theorem wit_TimeAdjustments_1 : ∃ (ini : Initiator) (d : Fin 2) (s : State), (s.mayWrite ini (TIM.DOM_OFF_ADJ d) = true) :=
  ⟨.host, 0, wRun, by decide +kernel⟩

theorem wit_TimeAdjustments_2 : ∃ (ini : Initiator) (d : Fin 2) (s : State), (s.mayWrite ini (TIM.DOM_RATE_ADJ d) = true) :=
  ⟨.host, 1, { wRun with tim := { wRun.tim with dom1 := { rate := 5 } } }, by decide +kernel⟩

theorem wit_TimeAdjustments_3 : ∃ (ini : Initiator) (d : Fin 2) (s : State), (s.mayWrite ini (TIM.DOM_SET_HI d) = true) :=
  ⟨.hart0, 1, wRun, by decide +kernel⟩

theorem wit_TimeAdjustments_4 : ∃ (ini : Initiator) (s : State), (s.mayWrite ini TIM.WT_SET_CMD = true) ∧ (s.released = false) :=
  ⟨.hart0, State.reset, by decide +kernel⟩

theorem wit_TimeAdjustments_5 : ∃ (ini : Initiator) (s : State), (s.wf = true) ∧ (s.mayWrite ini TIM.WT_SET_CMD = true) ∧ (s.released = true) ∧ (s.bit TIM.TIM_STATUS_TIME_SET = true) :=
  ⟨.host, wRun.setBit TIM.TIM_STATUS_TIME_SET true, by decide +kernel⟩

theorem wit_TimeAdjustments_6 : ∃ (ini : Initiator) (s : State), (s.mayWrite ini TIM.WT_SET_CMD = true) ∧ (s.bit TIM.TIM_CTRL_STEP_EN = true) :=
  ⟨.host, (wRun.setBit TIM.TIM_CTRL_STEP_EN true).set ⟨TIM.WT_SET_SEC_LO, 31, 0⟩ 5, by decide +kernel⟩

theorem wit_TimeAdjustments_7 : ∃ (ini : Initiator) (s : State), (s.wf = true) ∧ (s.mayWrite ini TIM.WT_SET_CMD = true) ∧ (s.bit TIM.TIM_CTRL_STEP_EN = false) :=
  ⟨.host, wRun, by decide +kernel⟩

theorem wit_TickAndSnapshot_1 : ∃ (s : State), (s.stage ≠ 0) ∧ (s.wak.power = .active ∨ s.wak.power = .powerDown) ∧ (s.pllLost 0 = false) ∧ (s.tim.align = none) ∧ (s.tim.incrPend = none) ∧ (s.tim.loadPend = none) :=
  ⟨{ wRun with tim := { wRun.tim with phase := 77, wt := 5 } }, by decide +kernel⟩

theorem wit_TickAndSnapshot_2 : ∃ (s : State), (s.stage = 0 ∧ s.wak.power ≠ .waking ∨ s.wak.power = .sleep ∨ s.wak.power = .waking ∧ s.wak.clocks = false ∨ s.pllLost 0 = true) :=
  ⟨State.reset, by decide +kernel⟩

theorem wit_TickAndSnapshot_3 : ∃ (ini : Initiator) (s : State), (s.wf = true) ∧ (s.mayWrite ini TIM.WT_SNAP_CMD = true) :=
  ⟨.host, { wRun with tim := { wRun.tim with wt := 123456789012345678 } }, by decide +kernel⟩

theorem wit_TrackersAndSelection_1 : ∃ (d : Fin 2) (p : Fin 14) (f : Bytes) (h : Nat) (s : State), (s.syncFits d p f 0 = some h) ∧ (ptpTwoStep f h = true) :=
  ⟨0, 0, wPtp 0 2, 14, wDom, by decide +kernel⟩

theorem wit_TrackersAndSelection_2 : ∃ (d : Fin 2) (p : Fin 14) (f : Bytes) (h : Nat) (s : State), (s.syncFits d p f 0 = some h) ∧ (ptpTwoStep f h = false) ∧ ((s.dom d).fifo.length < 32) :=
  ⟨0, 0, wPtp 0 0, 14, wDom, by decide +kernel⟩

theorem wit_TrackersAndSelection_3 : ∃ (d : Fin 2) (p : Fin 14) (f : Bytes) (h : Nat) (q : PendSync) (s : State), (s.syncFits d p f 8 = some h) ∧ ((s.dom d).pending = some q) ∧ (q.seqId = ptpSeq f h) ∧ ((s.dom d).fifo.length < 32) :=
  ⟨0, 0, wPtp 8 0, 14, { port := 0, seqId := 7, logInt := 0, t2 := 8, corr := 0, off := 0 }, wDom.setDom 0 { pending := some { port := 0, seqId := 7, logInt := 0, t2 := 8, corr := 0, off := 0 } }, by decide +kernel⟩

theorem wit_TrackersAndSelection_4 : ∃ (ini : Initiator) (d : Fin 2) (s : State), (s.mayRead ini (TIM.SYNC_REC d 9) = true) :=
  ⟨.host, 1, wRun.setDom 1 { fifo := [List.replicate 10 9, []] }, by decide +kernel⟩

theorem wit_TrackersAndSelection_5 : ∃ (d : Fin 2) (s : State), (s.wf = true) ∧ ((s.dom d).fresh = true) ∧ (s.receiptOver d = true) :=
  ⟨0, wDom.setDom 0 { fresh := true, age := 10000000000 }, by decide +kernel⟩

theorem wit_TrackersAndSelection_6 : ∃ (d : Fin 2) (s : State), (s.receiptOver d = false) :=
  ⟨1, wRun.setDom 1 { fresh := true }, by decide +kernel⟩

theorem wit_TrackersAndSelection_7 : ∃ (s : State), (s.wf = true) ∧ (s.revertDue = true) :=
  ⟨((((((({ wRun with tim := { wRun.tim with sel := .follow 1, dom0 := { fresh := true, validTicks := 500000000 }, dom1 := { fresh := true } } }).setBit TIM.TIM_CTRL_REVERT true).setBit (TIM.DOM_CFG_ENABLE 0) true).setBit (TIM.DOM_CFG_ACCEPT 0) true).setBit (TIM.DOM_CFG_ENABLE 1) true).setBit (TIM.DOM_CFG_ACCEPT 1) true).setBit TIM.TIM_STATUS_TIME_SET true), by decide +kernel⟩

theorem wit_TrackersAndSelection_8 : ∃ (a : Align) (s : State), (s.wf = true) ∧ (s.tim.align = some a) ∧ (a.passed = 512000) ∧ (s.onDomain a.dom = true) :=
  ⟨⟨0, 0, 0, 512000⟩, (({ wRun with tim := { wRun.tim with align := some ⟨0, 0, 0, 512000⟩ } }).setBit TIM.TIM_STATUS_ALIGNING true), by decide +kernel⟩

theorem wit_TrackersAndSelection_9 : ∃ (s : State), (s.wf = true) ∧ (s.tim.sel = .holdover) ∧ (s.released = true) ∧ (s.get TIM.HOLDOVER_LIMIT_SECONDS < s.tim.holdTicks / revertTicks) :=
  ⟨{ wRun with tim := { wRun.tim with holdTicks := 100000000000000 } }, by decide +kernel⟩

theorem wit_TrackersAndSelection_10 : ∃ (ini : Initiator) (p : Fin 14) (r : Fin 3) (s : State), (s.wf = true) ∧ (s.mayRead ini (lttInfo p r) = true) :=
  ⟨.host, 13, 2, { wRun with tim := { wRun.tim with ltt := [(108, 7), (109, 9)] } }, by decide +kernel⟩

theorem wit_PulseGenerators_1 : ∃ (ini : Initiator) (p : Fin 16) (s : State), (s.wf = true) ∧ (s.mayWrite ini (TIO.PIN_CMD p) = true) ∧ (s.pinMode p = pinOutput) ∧ (s.pinLimits p = true) ∧ (s.nowQ + 400 ≤ s.pinStart p ∨ s.get (TIO.COUNT_PULSES p) = 0) ∧ ((s.pin p).active = false) :=
  ⟨.host, 3, wOut.set (TIO.START_NS_NS 3) 101, by decide +kernel⟩

theorem wit_PulseGenerators_2 : ∃ (ini : Initiator) (p : Fin 16) (s : State), (s.wf = true) ∧ (s.mayWrite ini (TIO.PIN_CMD p) = true) ∧ (s.pinMode p = pinOutput) ∧ (s.pinLimits p = true) ∧ (s.pinStart p < s.nowQ + 400) ∧ (s.get (TIO.COUNT_PULSES p) ≠ 0) ∧ ((s.pin p).active = false) :=
  ⟨.host, 3, wOut.set (TIO.START_NS_NS 3) 99, by decide +kernel⟩

theorem wit_PulseGenerators_3 : ∃ (ini : Initiator) (p : Fin 16) (s : State), (s.wf = true) ∧ (s.mayWrite ini (TIO.PIN_CMD p) = true) :=
  ⟨.host, 3, wOut.setPin 3 { active := true }, by decide +kernel⟩

theorem wit_PulseGenerators_4 : ∃ (p : Fin 16) (r : Train) (s : State), (s.wf = true) ∧ ((s.pin p).train = some r) ∧ (s.pinMode p = pinOutput) ∧ ((s.pin p).active = false) ∧ (s.gated = false) ∧ (s.leadAt p r r.next ≤ s.nowQ) ∧ ((s.pin p).driving = true) :=
  ⟨3, wTrain, ({ wOut with tim := { wOut.tim with wt := 10 * 1073741824 } }).setPin 3 { train := some wTrain, driving := true }, by decide +kernel⟩

theorem wit_PulseGenerators_5 : ∃ (p : Fin 16) (s : State), (s.wf = true) ∧ (s.gated = false) ∧ ((s.pin p).active = true) ∧ ((s.pin p).trailAt ≤ s.nowQ) :=
  ⟨3, wOut.setPin 3 { train := some wTrain, driving := true, active := true }, by decide +kernel⟩

theorem wit_PulseGenerators_6 : ∃ (p : Fin 16) (s : State), (s.wf = true) ∧ (s.bit (TIO.PIN_CFG_PAIRED p) = true) ∧ ((s.pin p).active = false) :=
  ⟨3, wOut.setBit (TIO.PIN_CFG_PAIRED 3) true, by decide +kernel⟩

theorem wit_PulseGenerators_7 : ∃ (ini : Initiator) (p : Fin 16) (w : Word) (s : State), (s.wf = true) ∧ (s.mayWrite ini (TIO.PIN_CFG p) = true) ∧ (bitsOf w 1 0 ≠ s.pinMode p) :=
  ⟨.host, 3, 2, wOut.setPin 3 { fifo := [(5, true)], train := some wTrain }, by decide +kernel⟩

theorem wit_CapturesAndMarker_1 : ∃ (p : Fin 16) (hi : Bool) (s : State), (s.wf = true) ∧ (s.gated = false) ∧ (s.pinMode p = pinInput) ∧ ((s.pin p).raw ≠ hi) ∧ (((s.pin p).cand.any fun c => decide (c.2.2 + s.filterTicks p ≤ s.tim.ticks)) = false) :=
  ⟨3, true, wIn, by decide +kernel⟩

theorem wit_CapturesAndMarker_2 : ∃ (p : Fin 16) (act : Bool) (q : Nat) (n : Nat) (s : State), (s.wf = true) ∧ (s.pinMode p = pinInput) ∧ ((s.pin p).cand = some (act, q, n)) ∧ (n + s.filterTicks p ≤ s.tim.ticks) ∧ ((s.pin p).masked = false) ∧ (s.edgeSel p act = true) ∧ (s.get (TIO.WIN_LEN_QNS p) = 0) ∧ (s.bit (TIO.PIN_CFG_EVT_EN p) = false) ∧ ((s.pin p).fifo.length < 64) :=
  ⟨3, true, 9, 1, { wIn.setPin 3 { cand := some (true, 9, 1), raw := true } with tim := { wRun.tim with ticks := 1000 } }, by decide +kernel⟩

theorem wit_CapturesAndMarker_3 : ∃ (p : Fin 16) (n : Nat) (s : State), (s.wf = true) ∧ (s.pinMode p = pinInput) ∧ ((s.pin p).stuckAt = some n) ∧ (n + s.stuckTicks p < s.tim.ticks) ∧ ((s.pin p).masked = false) ∧ (s.get (TIO.PIN_CFG_STUCK_MS p) ≠ 0) ∧ (s.bit (TIO.PIN_CFG_EVT_EN p) = false) :=
  ⟨3, 1, { (wIn.set (TIO.PIN_CFG_STUCK_MS 3) 1).setPin 3 { stuckAt := some 1, level := true } with tim := { wRun.tim with ticks := 1000000 } }, by decide +kernel⟩

theorem wit_CapturesAndMarker_4 : ∃ (ini : Initiator) (p : Fin 16) (s : State), (s.wf = true) ∧ (s.mayWrite ini (TIO.PIN_CMD p) = true) ∧ ((s.pin p).masked = true) :=
  ⟨.host, 3, wIn.setPin 3 { masked := true, raw := true }, by decide +kernel⟩

theorem wit_CapturesAndMarker_5 : ∃ (ini : Initiator) (p : Fin 16) (e : Nat × Bool) (r : List (Nat × Bool)) (s : State), (s.wf = true) ∧ (s.mayRead ini (TIO.CAP_SEC_HI p) = true) ∧ (s.bit (TIO.PIN_CFG_EVT_EN p) = false) ∧ ((s.pin p).fifo = e :: r) :=
  ⟨.host, 3, (4000000000, true), [], wIn.setPin 3 { fifo := [(4000000000, true)] }, by decide +kernel⟩

theorem wit_CapturesAndMarker_6 : ∃ (ini : Initiator) (p : Fin 16) (s : State), (s.mayRead ini (TIO.CAP_SEC_HI p) = true) ∧ ((s.pin p).fifo = []) :=
  ⟨.host, 3, wIn, by decide +kernel⟩

theorem wit_CapturesAndMarker_7 : ∃ (p : Fin 16) (e : Nat × Bool) (s : State), (s.wf = true) ∧ (s.bit (TIO.PIN_CFG_EVT_EN p) = true) ∧ (s.bit (TIO.PIN_CFG_PAIRED p) = false) ∧ (((s.pin p).fifo.drop (s.pin p).framed).head? = some e) ∧ (e.1 + max 1 (s.get (TIO.EVT_CFG_EVT_HOLD p)) * usQ ≤ s.nowQ) :=
  ⟨3, (5, true), { (wIn.setBit (TIO.PIN_CFG_EVT_EN 3) true).setPin 3 { fifo := [(5, true)] } with tim := { wt := 5000000 * 1073741824 } }, by decide +kernel⟩

theorem wit_CapturesAndMarker_8 : ∃ (ini : Initiator) (w : Word) (s : State), (s.wf = true) ∧ (s.mayWrite ini TIO.MK_CTRL = true) ∧ (s.marker.running = false) ∧ (w.getLsbD 0 = true) :=
  ⟨.host, 1, wRun, by decide +kernel⟩

theorem wit_CapturesAndMarker_9 : ∃ (s : State), (s.wf = true) ∧ (s.gated = false) ∧ (s.marker.running = true) ∧ (s.marker.next ≤ s.nowQ) ∧ (s.bit TIO.MK_CTRL_PAIRED = false) ∧ (s.get TIO.MK_SEQ_SEQ < 65535) :=
  ⟨{ wRun with marker := { running := true } }, by decide +kernel⟩

theorem wit_ClocksAndFaults_1 : ∃ (s : State), (s.wf = true) ∧ (s.clocksOff = false) :=
  ⟨wRun, by decide +kernel⟩

theorem wit_ClocksAndFaults_2 : ∃ (s : State), (s.wf = true) ∧ (s.clocksOff = false) :=
  ⟨wRun, by decide +kernel⟩

theorem wit_ClocksAndFaults_3 : ∃ (s : State), (s.wf = true) ∧ (s.clocksOff = false) :=
  ⟨wRun, by decide +kernel⟩

theorem wit_ClocksAndFaults_4 : ∃ (s : State), (s.wf = true) ∧ (s.clocksOff = false) :=
  ⟨wRun, by decide +kernel⟩

theorem wit_ClocksAndFaults_5 : ∃ (s : State), (s.wf = true) ∧ (s.clocksOff = false) :=
  ⟨{ wRun with fltCond := 0x500000 }, by decide +kernel⟩

theorem wit_ClocksAndFaults_6 : ∃ (s : State), (s.wf = true) ∧ (s.clocksOff = false) :=
  ⟨{ wRun with fltCond := 0x900000 }, by decide +kernel⟩

theorem wit_ClocksAndFaults_7 : ∃ (ini : Initiator) (e : List Word) (l : List (List Word)) (s : State), (s.mayRead ini (FLT.FLT_LOG 2) = true) ∧ (s.fltLog = e :: l) :=
  ⟨.host, [1, 2, 3], [], { wRun with fltLog := [[1, 2, 3]] }, by decide +kernel⟩

theorem wit_ClocksAndFaults_8 : ∃ (ini : Initiator) (s : State), (s.wf = true) ∧ (s.mayWrite ini FLT.FLT_FIRST_VALID.addr = true) :=
  ⟨.host, (wRun.setBit FLT.FLT_FIRST_VALID true).wr FLT.FIRST_NS 5, by decide +kernel⟩

theorem wit_ClocksAndFaults_9 : ∃ (ini : Initiator) (s : State), (s.wf = true) ∧ (s.mayWrite ini FLT.FLT_DIRECT = true) ∧ (s.setNow FLT.FLT_DIRECT = 0) :=
  ⟨.host, wRun.wr FLT.FLT_DIRECT 0x00300000, by decide +kernel⟩

theorem wit_ClocksAndFaults_12 : ∃ (mask : Word) (v : Nat) (s : State), (s.msixPba = BitVec.ofNat 32 (2 ^ v)) ∧ (v < 32) ∧ (mask.getLsbD v = false) ∧ (s.vecPend v = true) ∧ (s.bit BRG.BRG_STATUS_PCIE_LINK = true) :=
  ⟨0, 3, (((((({ wRun with msixPba := 8 }).setBit BRG.BRG_STATUS_PCIE_LINK true).wr FLT.FLT_PEND 0x10).set (FLT.FLT_SRC_CFG_CLASS 4) 1).set (FLT.FLT_SRC_CFG_HOST 4) 1).set (FLT.FLT_SRC_CFG_VECTOR 4) 3), by decide +kernel⟩

theorem wit_RegisterAccesses_1 : ∃ (ini : Initiator) (a : Nat) (s : State), (s.wf = true) ∧ (a ∈ plainWords) ∧ (s.mayWrite ini a = true) :=
  ⟨.host, SYS.HOST_IMG_HI, wRun, by decide +kernel⟩

theorem wit_RegisterAccesses_2 : ∃ (ini : Initiator) (w : Word) (s : State), (s.wf = true) ∧ (s.mayWrite ini SYS.PCIE_SUBSYS = true) ∧ (s.released = true) ∧ (w ≠ s.rd SYS.PCIE_SUBSYS) :=
  ⟨.host, 5, wRun, by decide +kernel⟩

theorem wit_RegisterAccesses_3 : ∃ (ini : Initiator) (a : BitVec 25) (size : Nat) (s : State), (s.mute ini = false) ∧ (a.toNat < 0x1400000) ∧ (size ≠ 4 ∨ a.toNat % 4 ≠ 0) ∧ (ini ≠ .host) :=
  ⟨.hart0, 0x100, 2, wRun, by decide +kernel⟩

theorem wit_RegisterAccesses_4 : ∃ (a : BitVec 25) (size : Nat) (s : State), (s.mute .host = false) ∧ (a.toNat < 0x1400000) ∧ (size ≠ 4 ∨ a.toNat % 4 ≠ 0) :=
  ⟨0x100, 2, wRun, by decide +kernel⟩

theorem wit_RegisterAccesses_5 : ∃ (ini : Initiator) (a : BitVec 25) (s : State), (s.wf = true) ∧ ((cntAt a.toNat).isSome = true) ∧ (a.toNat / 0x100000 ≠ 3) ∧ (s.mayRead ini a.toNat = true) :=
  ⟨.host, BitVec.ofNat 25 TIO.MK_CNT, wRun.setCnt TIO.MK_CNT 0x500000007, by decide +kernel⟩

theorem wit_RegisterAccesses_6 : ∃ (ini : Initiator) (s : State), (s.wf = true) ∧ (s.mayRead ini CPU.MTIME_LO = true) :=
  ⟨.host, { wRun with cpu := { wRun.cpu with mtime := 0x700000005 } }, by decide +kernel⟩

theorem wit_RegisterAccesses_7 : ∃ (ini : Initiator) (p : Fin 16) (s : State), (s.wf = true) ∧ (s.mayWrite ini (TIO.PIN_EVENT p) = true) ∧ (s.setNow (TIO.PIN_EVENT p) = 0) :=
  ⟨.host, 3, wRun.wr (TIO.PIN_EVENT 3) 3, by decide +kernel⟩

theorem wit_RegisterAccesses_8 : ∃ (k : Nat) (s : State), (s.wf = true) ∧ (k < 0x20000) ∧ (s.mute .jtag = false) :=
  ⟨0x1FFFF, wRun, by decide +kernel⟩

theorem wit_RegisterAccesses_9 : ∃ (a : Word) (s : State), (s.mute .jtag = false) ∧ (0x41400000 ≤ a.toNat) :=
  ⟨0x41400000, wRun, by decide +kernel⟩

theorem wit_PortLinks_1 : ∃ (ini : Initiator) (p : Fin 14) (w : Word) (s : State), (s.wf = true) ∧ (s.mayWrite ini (MAC.PCS_CFG p) = true) ∧ (s.linkUp p = false) ∧ (bitsOf w 2 0 ≠ s.get (MAC.PCS_CFG_MODE p)) :=
  ⟨.host, 0, 1, wRun.setMac 0 { holding := true }, by decide +kernel⟩

theorem wit_PortLinks_2 : ∃ (p : Fin 14) (s : State), (s.wf = true) ∧ (s.macMode p ≠ 0) ∧ (s.wak.serdes = false) ∧ (s.portAsleep p = false) ∧ (s.linkUp p = false) ∧ (s.speedNow p ≠ 0) :=
  ⟨0, wRun.set (MAC.PCS_CFG_MODE 0) 2, by decide +kernel⟩

theorem wit_PortLinks_3 : ∃ (p : Fin 14) (s : State), (s.wf = true) ∧ ((s.mac p).holding = true) ∧ ((s.mac p).holdFrom + 1000000000 ≤ s.nowPs) :=
  ⟨0, { wRun.setMac 0 { holding := true } with tim := { wRun.tim with wt := 4294967296 * 2000000 } }, by decide +kernel⟩

theorem wit_PortLinks_4 : ∃ (p : Fin 14) (s : State), (s.wf = true) ∧ (s.linkUp p = true) ∧ (s.copies = []) ∧ ((s.mac p).rx = none) ∧ ((s.mac p).assembly = none) ∧ ((s.mac p).tx = none) ∧ ((s.mac p).suspended = none) ∧ (s.twp.swapped = none) ∧ (s.bit (MAC.PREEMPT_CFG_PREEMPT_EN p) = false) ∧ (s.bit (MAC.PORT_STATUS_LPI_TX p) = false) ∧ (s.bit (MAC.PORT_STATUS_LPI_RX p) = false) ∧ (s.lkp.hold = 0) :=
  ⟨0, wPort, by decide +kernel⟩

theorem wit_PortLinks_5 : ∃ (p : Fin 14) (s : State), (s.wf = true) ∧ (s.fecUsed p = true) ∧ (s.bit (MAC.PORT_STATUS_FEC_LOCK p) = true) ∧ (s.linkUp p = true) :=
  ⟨12, wFec, by decide +kernel⟩

theorem wit_PortLinks_6 : ∃ (p : Fin 14) (s : State), (s.wf = true) ∧ (s.fecUsed p = true) ∧ (s.bit (MAC.PORT_STATUS_FEC_LOCK p) = true) ∧ (s.linkUp p = true) :=
  ⟨12, wFec, by decide +kernel⟩

theorem wit_PortLinks_7 : ∃ (p : Fin 14) (sp : BitVec 3) (s : State), (s.wf = true) ∧ (s.anUsed p = true) ∧ (s.linkUp p = false) ∧ (offered (s.macMode p) sp.toNat = true) :=
  ⟨0, 2, (wRun.set (MAC.PCS_CFG_MODE 0) 1).setBit (MAC.PCS_CFG_AN_EN 0) true, by decide +kernel⟩

theorem wit_PortLinks_8 : ∃ (p : Fin 14) (s : State), (s.wf = true) ∧ (s.mPackets p = true) ∧ (s.get (MAC.PORT_STATUS_VERIFY_STATUS p) = 1) ∧ ((s.mac p).attempts < max 1 (s.get (MAC.PREEMPT_CFG_VERIFY_LIMIT p))) ∧ (s.verifyDue p ≤ s.nowPs) :=
  ⟨0, { wPort.set (MAC.PORT_STATUS_VERIFY_STATUS 0) 1 with tim := { wRun.tim with ticks := 1000000000000, wt := 4294967296000000000000 } }, by decide +kernel⟩

theorem wit_PortLinks_9 : ∃ (p : Fin 14) (s : State), (s.wf = true) ∧ (s.mPackets p = true) ∧ (s.get (MAC.PORT_STATUS_VERIFY_STATUS p) = 1) ∧ (max 1 (s.get (MAC.PREEMPT_CFG_VERIFY_LIMIT p)) ≤ (s.mac p).attempts) ∧ (s.verifyDue p ≤ s.nowPs) :=
  ⟨0, { (wPort.set (MAC.PORT_STATUS_VERIFY_STATUS 0) 1).setMac 0 { attempts := 7 } with tim := { wRun.tim with ticks := 1000000000000, wt := 4294967296000000000000 } }, by decide +kernel⟩

theorem wit_PortLinks_10 : ∃ (p : Fin 14) (s : State), (s.mPackets p = true) ∧ (s.bit (MAC.MAC_CFG_RX_EN p) = true) :=
  ⟨0, wPort, by decide +kernel⟩

theorem wit_PortLinks_11 : ∃ (p : Fin 14) (s : State), (s.wf = true) ∧ (s.mPackets p = true) ∧ (s.bit (MAC.MAC_CFG_RX_EN p) = true) ∧ (s.get (MAC.PORT_STATUS_VERIFY_STATUS p) = 1) ∧ (0 < (s.mac p).attempts) ∧ (s.bit (MAC.PREEMPT_CFG_PREEMPT_EN p) = true) :=
  ⟨0, ((wPort.set (MAC.PORT_STATUS_VERIFY_STATUS 0) 1).setMac 0 { attempts := 1 }).setBit (MAC.PREEMPT_CFG_PREEMPT_EN 0) true, by decide +kernel⟩

theorem wit_PortLinks_12 : ∃ (p : Fin 14) (s : State), (s.wf = true) ∧ (s.linkUp p = true) ∧ (s.macMode p ≠ 6) ∧ (s.bit (MAC.PORT_STATUS_LPI_RX p) = false) :=
  ⟨0, wPort, by decide +kernel⟩

theorem wit_PortLinks_13 : ∃ (s : State), (s.wf = true) :=
  ⟨wPort.setBit (MAC.PORT_STATUS_LPI_RX 0) true, by decide +kernel⟩

theorem wit_PortLinks_14 : ∃ (ini : Initiator) (p : Fin 14) (s : State), (s.wf = true) ∧ (s.mayWrite ini (MAC.CT_THRESH p) = true) :=
  ⟨.host, 0, wPort, by decide +kernel⟩

theorem wit_PortReception_1 : ∃ (p : Fin 14) (head : Bytes) (s : State), (s.wf = true) ∧ (s.rxRefused p = none) ∧ ((s.mac p).rx = none) ∧ (head.length < 14) :=
  ⟨0, [1, 2, 3], wPort, by decide +kernel⟩

theorem wit_PortReception_2 : ∃ (p : Fin 14) (s : State), (s.linkUp p = false) :=
  ⟨0, wRun, by decide +kernel⟩

theorem wit_PortReception_3 : ∃ (p : Fin 14) (rest : Bytes) (ok : Bool) (pcs : Bool) (r : Rx) (cause : Nat) (s : State), (s.wf = true) ∧ (s.stalled = false) ∧ (s.copies = []) ∧ ((s.mac p).rx = some r) ∧ (r.cut = false) ∧ (r.fid = none) ∧ (s.rxCause p (r.len + rest.length + 4) ((r.front ++ rest).take 64) ok (pcs && !r.bad) = some cause) :=
  ⟨0, [7], false, true, { ts := 0, len := 60, front := zeros 60, held := some (zeros 60), fid := none }, MAC.RX_FCS_ERR 0, wPort.setMac 0 { rx := some { ts := 0, len := 60, front := zeros 60, held := some (zeros 60), fid := none } }, by decide +kernel⟩

theorem wit_PortReception_4 : ∃ (p : Fin 14) (rest : Bytes) (r : Rx) (fid : Nat) (f : Frame) (s : State), (s.wf = true) ∧ (s.stalled = false) ∧ (s.copies = []) ∧ ((s.mac p).rx = some r) ∧ (r.cut = false) ∧ (r.fid = some fid) ∧ (s.frame? fid = some f) ∧ (f.secPend = false) ∧ (f.sec = none) ∧ (f.secLen = 0) ∧ (f.cutThrough = false) ∧ (f.hitCtr = none) ∧ (f.handle ≠ none) ∧ (s.rxCause p (r.len + rest.length + 4) ((r.front ++ rest).take 64) true (!r.bad) = none) :=
  ⟨0, zeros 20, { ts := 0, len := 60, front := zeros 60, held := none, fid := some 5 }, 5, { wFrame with tail := false, handle := some (0, 0, 0), stage := .buffered }, { wPort.setMac 0 { rx := some { ts := 0, len := 60, front := zeros 60, held := none, fid := some 5 } } with frames := [{ wFrame with tail := false, handle := some (0, 0, 0), stage := .buffered }] }, by decide +kernel⟩

theorem wit_PortReception_5 : ∃ (p : Fin 14) (d : Bytes) (s : State), (s.wf = true) ∧ (s.copies = []) ∧ (s.rxRefused p = none) ∧ ((s.mac p).assembly = none) ∧ (d.length < 14) :=
  ⟨0, [1, 2, 3], wPort, by decide +kernel⟩

theorem wit_PortReception_6 : ∃ (p : Fin 14) (count : Fin 4) (a : Assembly) (s : State), (s.wf = true) ∧ (s.copies = []) ∧ (s.rxRefused p = none) ∧ ((s.mac p).assembly = some a) ∧ (a.rx.fid = none) ∧ (a.rx.cut = false) ∧ (a.next ≠ count) :=
  ⟨0, 2, { rx := { ts := 0, len := 3, front := [1, 2, 3], held := some [1, 2, 3], fid := none }, next := 0 }, wPort.setMac 0 { assembly := some { rx := { ts := 0, len := 3, front := [1, 2, 3], held := some [1, 2, 3], fid := none }, next := 0 } }, by decide +kernel⟩

theorem wit_PortReception_7 : ∃ (p : Fin 14) (s : State), (s.wf = true) ∧ (s.rxRefused p = none) ∧ (BitVec.ofNat 8 (s.get (MAC.PFC_CFG_PFC_RX_MASK p)) = 0xFF) :=
  ⟨0, wPort.set (MAC.PFC_CFG_PFC_RX_MASK 0) 255, by decide +kernel⟩

theorem wit_PortReception_8 : ∃ (p : Fin 14) (s : State), (s.wf = true) ∧ (s.rxRefused p = none) ∧ (s.bit (MAC.PFC_CFG_PAUSE_RX_EN p) = false) :=
  ⟨0, wPort, by decide +kernel⟩

theorem wit_PortReception_9 : ∃ (p : Fin 14) (m : BitVec 8) (s : State), (s.wf = true) ∧ (s.rxRefused p = none) ∧ (s.bit (MAC.PFC_CFG_PAUSE_RX_EN p) = true) ∧ (m = BitVec.ofNat 8 (s.get (MAC.PFC_CFG_PFC_RX_MASK p))) :=
  ⟨0, 5, (wPort.setBit (MAC.PFC_CFG_PAUSE_RX_EN 0) true).set (MAC.PFC_CFG_PFC_RX_MASK 0) 5, by decide +kernel⟩

theorem wit_PortReception_10 : ∃ (p : Fin 14) (c : Fin 8) (s : State), (s.wf = true) ∧ (assocD (s.mac p).pauseEnd c 0 ≤ s.nowPs) :=
  ⟨0, 0, wPort.set (MAC.PFC_STATE_RX_PAUSED 0) 255, by decide +kernel⟩

theorem wit_PortTransmission_1 : ∃ (p : Fin 14) (t0 : Tx) (c : Copy) (f : Frame) (cid : Nat) (s : State), (s.wf = true) ∧ ((s.mac p).tx = some t0) ∧ (t0.cid = some cid) ∧ (s.stalled = false) ∧ (s.copy? cid = some c) ∧ (c.out = p) ∧ (c.cid = cid) ∧ (c.stomp = none) ∧ (s.frame? c.fid = some f) ∧ (c.st = .sending) ∧ (s.ranDry p t0 c f = true) ∧ (s.twp.swapped = none) :=
  ⟨0, wTx, { wCopy with cells := 20 }, wBuf, 9, { wPort.setMac 0 { tx := some wTx } with frames := [wBuf], copies := [{ wCopy with cells := 20 }] }, by decide +kernel⟩

theorem wit_PortTransmission_2 : ∃ (p : Fin 14) (t0 : Tx) (c : Copy) (f : Frame) (cid : Nat) (s : State), (s.wf = true) ∧ ((s.mac p).tx = some t0) ∧ (t0.cid = some cid) ∧ (s.copy? cid = some c) ∧ (s.frame? c.fid = some f) ∧ (c.stomp = none) ∧ (t0.shadow = none) ∧ (s.cutPoint p t0 (s.fragBytes p t0) = true) ∧ (s.canPreempt p c.tc (c.sent + t0.bytes) c.oneStep = true) ∧ (s.holdAt p s.nowPs = true) :=
  ⟨0, wTx, wCopy, wBuf, 9, { (wPort.setBit (MAC.PORT_STATUS_PREEMPT_ACTIVE 0) true).setMac 0 { tx := some wTx } with frames := [wBuf], copies := [wCopy], lkp := { wPort.lkp with hold := 1 }, tim := { wt := 1000 * 4294967296 } }, by decide +kernel⟩

theorem wit_PortTransmission_3 : ∃ (p : Fin 14) (s : State), (s.wf = true) ∧ (s.bit (MAC.EEE_CFG_LPI_EN p) = true) ∧ (s.macMode p ≠ 6) ∧ (s.mayStart p = true) ∧ (s.portEligible p = false) ∧ (s.bit (MAC.EEE_CFG_GATE_WAKE p) = false) ∧ (max (s.mac p).freeAt (s.mac p).eligAt + max 1 (s.get (MAC.EEE_CFG_LPI_IDLE p)) * 1000000 ≤ s.nowPs) :=
  ⟨0, { (wPort.setBit (MAC.EEE_CFG_LPI_EN 0) true).setBit (MAC.EEE_CFG_GATE_WAKE 0) false with tim := { wRun.tim with ticks := 1000000000000, wt := 4294967296000000000000 } }, by decide +kernel⟩

theorem wit_PortTransmission_4 : ∃ (p : Fin 14) (s : State), (s.wf = true) ∧ (s.stalled = false) ∧ (s.bit (MAC.PORT_STATUS_LPI_TX p) = true) ∧ (s.portEligible p = true) :=
  ⟨0, (wPort.setBit (MAC.PORT_STATUS_LPI_TX 0) true).setMac 0 { pfcQ := [PfcOut.mk 1 1 0] }, by decide +kernel⟩

theorem wit_PortTransmission_5 : ∃ (p : Fin 14) (c : Fin 8) (s : State), (s.wf = true) ∧ (s.stalled = false) ∧ (s.pairEn = false) ∧ ((word (s.get (BSN.XOFF_STATE_TC p))).getLsbD c = true) ∧ (s.llOcc p c ≤ s.get (BSN.PFC_TH_XON_TH p) * 256) ∧ (s.waits p c = false) :=
  ⟨0, 7, wPort.set (BSN.XOFF_STATE_TC 0) 0x80, by decide +kernel⟩

theorem wit_PortTransmission_6 : ∃ (p : Fin 14) (c : Fin 8) (s : State), (s.wf = true) ∧ (s.get (MAC.PFC_STATE_TX_XOFF p) / 2 ^ (c : Nat) % 2 = 1) ∧ (s.shadowPort p = false) ∧ ((s.mac p).pfcQ = []) ∧ (s.refreshDue p c = true) :=
  ⟨0, 7, wPort.set (MAC.PFC_STATE_TX_XOFF 0) 0x80, by decide +kernel⟩

theorem wit_PortTransmission_7 : ∃ (p : Fin 14) (q : PfcOut) (rest : List PfcOut) (s : State), (s.wf = true) ∧ ((s.mac p).pfcQ = q :: rest) ∧ (s.mayStart p = true) ∧ (s.shadowPort p = false) ∧ (s.pfcHeld p = false) :=
  ⟨0, PfcOut.mk 1 1 0, [], wPort.setMac 0 { pfcQ := [PfcOut.mk 1 1 0] }, by decide +kernel⟩

theorem wit_RuleVersions_1 : ∃ (ini : Initiator) (s : State), (s.wf = true) ∧ (s.mayWrite ini SLC.VER_CMD = true) ∧ (s.released = true) ∧ (s.slc.stage = none) ∧ (s.isLive (((s.verCur + 1) % 8 + 4) % 8) = false) ∧ (s.slc.sweeps = []) :=
  ⟨.host, wRun, by decide +kernel⟩

theorem wit_RuleVersions_2 : ∃ (n : Nat) (rest : List Sweep) (s : State), (s.wf = true) ∧ (s.slc.stage = some n) ∧ (s.slc.sweeps = .open_ :: rest) ∧ (s.slc.waiting = []) :=
  ⟨1, [], { wRun with slc := { wRun.slc with stage := some 1, sweeps := [.open_] } }, by decide +kernel⟩

theorem wit_RuleVersions_3 : ∃ (ini : Initiator) (s : State), (s.wf = true) ∧ (s.mayWrite ini SLC.VER_CMD = true) ∧ (s.released = true) ∧ (s.bit SLC.VER_STATUS_STAGE_OPEN = true) :=
  ⟨.host, wRun.setBit SLC.VER_STATUS_STAGE_OPEN true, by decide +kernel⟩

theorem wit_RuleVersions_4 : ∃ (ini : Initiator) (s : State), (s.wf = true) ∧ (s.mayWrite ini SLC.VER_CMD = true) ∧ (s.released = true) ∧ (s.bit SLC.VER_STATUS_STAGE_OPEN = true) ∧ (s.slc.armed = none) ∧ (s.nowQ + usQ ≤ s.commitT) :=
  ⟨.host, (wRun.setBit SLC.VER_STATUS_STAGE_OPEN true).set SLC.COMMIT_T_NS_NS 1000, by decide +kernel⟩

theorem wit_RuleVersions_5 : ∃ (ini : Initiator) (at_ : Nat) (s : State), (s.wf = true) ∧ (s.mayWrite ini SLC.VER_CMD = true) ∧ (s.released = true) ∧ (s.slc.armed = some (at_, false)) :=
  ⟨.host, 4000, ({ wRun with slc := { wRun.slc with armed := some (4000, false) } }).setBit SLC.VER_STATUS_COMMIT_ARMED true, by decide +kernel⟩

theorem wit_RuleVersions_6 : ∃ (ini : Initiator) (s : State), (s.wf = true) ∧ (s.mayWrite ini SLC.VER_CMD = true) ∧ (s.released = false) :=
  ⟨.hart0, State.reset.set SYS.SYS_STATUS_STAGE 6, by decide +kernel⟩

theorem wit_RuleVersions_7 : ∃ (ini : Initiator) (n : Nat) (s : State), (s.wf = true) ∧ (s.mayWrite ini SLC.VER_CMD = true) ∧ (s.released = true) ∧ (n < 8) ∧ (s.slc.stage = some n) ∧ (s.slc.sweeps = []) ∧ ((s.slc.armed.any fun a => a.2) = false) :=
  ⟨.host, 1, (({ wRun with slc := { wRun.slc with stage := some 1 } }).set SLC.VER_STATUS_LIVE 3).setBit SLC.VER_STATUS_STAGE_OPEN true, by decide +kernel⟩

theorem wit_RuleVersions_8 : ∃ (n : Nat) (s : State), (s.wf = true) ∧ (s.slc.commitNow = true) ∧ (s.slc.stage = some n) ∧ (n < 8) :=
  ⟨7, ({ wRun with slc := { wRun.slc with stage := some 7, commitNow := true } }).setBit SLC.VER_STATUS_STAGE_OPEN true, by decide +kernel⟩

theorem wit_RuleVersions_9 : ∃ (v : Fin 8) (t0 : Nat) (s : State), (s.wf = true) ∧ (s.slc.since.find? (fun x => x.1 == (v : Nat)) = some ((v : Nat), t0)) ∧ ((v : Nat) ≠ s.verCur) ∧ (s.isLive v = true) ∧ (s.slc.stage ≠ some (v : Nat)) ∧ (s.get (SLC.INFLIGHT_COUNT v) = 0) ∧ (t0 + s.retireGuard ≤ s.nowQ) :=
  ⟨1, 0, { (wRun.set SLC.VER_STATUS_LIVE 3) with slc := { wRun.slc with since := [(1, 0)] }, tim := { wt := 1000000000 * 4294967296 } }, by decide +kernel⟩

theorem wit_RuleVersions_10 : ∃ (v : Nat) (rest : List Sweep) (s : State), (s.wf = true) ∧ (s.slc.sweeps = .retire v :: rest) :=
  ⟨1, [], { wRun with slc := { wRun.slc with sweeps := [.retire 1] } }, by decide +kernel⟩

theorem wit_SluiceTables_1 : ∃ (ini : Initiator) (cmd : Word) (ecc : EccState) (s : State), (s.wf = true) ∧ (s.mayWrite ini SLC.TBL_CMD = true) ∧ (s.ownsTable 0 ini = true) ∧ (s.slcBusy = false) ∧ (s.slc.sweeps.head? ≠ some .open_) ∧ (bitsOf cmd 31 28 ≤ 8) ∧ (bitsOf cmd 15 0 < (slcSize (bitsOf cmd 31 28)).2) ∧ (ecc ≠ .uncorrectable) :=
  ⟨.hart0, 0x81000FFF, .ok, wRun.setTw 4 8 0 4095 2 7, by decide +kernel⟩

theorem wit_SluiceTables_2 : ∃ (ini : Initiator) (cmd : Word) (s : State), (s.wf = true) ∧ (s.mayWrite ini SLC.TBL_CMD = true) ∧ (s.ownsTable 0 ini = true) ∧ (s.slcBusy = false) ∧ (s.slc.sweeps.head? ≠ some .open_) ∧ (bitsOf cmd 31 28 = 1 ∨ bitsOf cmd 31 28 = 2) ∧ (bitsOf cmd 15 0 < (slcSize (bitsOf cmd 31 28)).2) ∧ (slcBadEntry (bitsOf cmd 31 28) (bitsOf cmd 15 0) (s.slcWin (slcSize (bitsOf cmd 31 28)).1) = false) :=
  ⟨.hart0, 0x12000003, (wRun.wr (SLC.TBL_DATA 0) 7), by decide +kernel⟩

theorem wit_SluiceTables_3 : ∃ (ini : Initiator) (cmd : Word) (v : Fin 8) (s : State), (s.wf = true) ∧ (s.mayWrite ini SLC.TBL_CMD = true) ∧ (s.ownsTable 0 ini = true) ∧ (s.slcBusy = false) ∧ (s.slc.sweeps.head? ≠ some .open_) ∧ (bitsOf cmd 31 28 = 0) ∧ (bitsOf cmd 15 0 < 32768) ∧ (slcBadEntry 0 (bitsOf cmd 15 0) (s.slcWin 16) = false) ∧ ((∀ u : Fin 8, s.isLive u = false → bitsOf ((s.slcWin 16).getD 12 0) u u = 0)) ∧ (s.isLive v = true) ∧ (s.slc.stage ≠ some (v : Nat)) ∧ (ruleFor v (s.entry 4 tRule 0 (bitsOf cmd 15 0) 16) ≠ ruleFor v (s.slcWin 16)) :=
  ⟨.hart0, 0x02000003, 0, ((wRun.wr (SLC.TBL_DATA 12) 0x80000001).setTw 4 0 0 3 12 0), by decide +kernel⟩

theorem wit_SluiceTables_4 : ∃ (ini : Initiator) (cmd : Word) (s : State), (s.wf = true) ∧ (s.mayWrite ini SLC.TBL_CMD = true) ∧ (s.ownsTable 0 ini = true) ∧ (s.slcBusy = false) ∧ (s.slc.sweeps.head? ≠ some .open_) ∧ (bitsOf cmd 31 28 = 0) :=
  ⟨.hart0, 0x03000000, wRun, by decide +kernel⟩

theorem wit_SluiceTables_5 : ∃ (ini : Initiator) (cmd : Word) (s : State), (s.wf = true) ∧ (s.mayWrite ini SLC.TBL_CMD = true) ∧ (s.ownsTable 0 ini = true) ∧ (s.slcBusy = false) ∧ (s.slc.sweeps.head? ≠ some .open_) ∧ (bitsOf cmd 31 28 = 0) ∧ (bitsOf cmd 15 0 < 32768) ∧ (bitsOf (s.slcW tRule 0 (bitsOf cmd 15 0) 12) 31 31 = 1) ∧ (bitsOf (s.slcW tRule 0 (s.ruleCand (s.ruleKey (bitsOf cmd 15 0)) (bitsOf cmd 19 18)) 12) 31 31 = 0) :=
  ⟨.hart0, 0x04040000, (wRun.setTw 4 0 0 0 12 0x80000001), by decide +kernel⟩

theorem wit_SluiceTables_6 : ∃ (ini : Initiator) (cmd : Word) (s : State), (s.wf = true) ∧ (s.mayWrite ini SLC.TBL_CMD = true) ∧ (s.ownsTable 0 ini = true) ∧ (s.slcBusy = false) ∧ (s.slc.sweeps.head? ≠ some .open_) ∧ (bitsOf cmd 31 28 = 0) :=
  ⟨.hart0, 0x05000000, { wSlc with frames := [] }, by decide +kernel⟩

theorem wit_SluiceResolution_1 : ∃ (fid : Nat) (f : Frame) (s : State), (s.wf = true) ∧ (s.frame? fid = some f) ∧ (f.stage = .arriving) ∧ (f.secPend = false) ∧ (f.verified = true) ∧ (f.inPort < 14) ∧ (f.handle = none) ∧ (f.counted = false) ∧ (s.flowing = true) ∧ (s.isLive (s.versionAt f.ts) = false) :=
  ⟨5, wFrame, { wPort.set SLC.VER_STATUS_LIVE 0 with frames := [wFrame] }, by decide +kernel⟩

theorem wit_SluiceResolution_2 : ∃ (fid : Nat) (f : Frame) (v : Nat) (cause : Nat) (node : Nat) (p : Parse) (s : State), (s.wf = true) ∧ (s.frame? fid = some f) ∧ (f.stage = .arriving) ∧ (f.secPend = false) ∧ (f.verified = true) ∧ (f.inPort < 14) ∧ (f.handle = none) ∧ (s.flowing = true) ∧ (s.versionAt f.ts = v) ∧ (v < 8) ∧ (s.isLive v = true) ∧ (s.parse v f.inPort f.bytes f.tail = .fail cause node p) ∧ (s.portCfg v f.inPort 1 4 3 = 0) :=
  ⟨5, wFrame, 0, 3, 0, {}, { wPort with frames := [wFrame] }, by decide +kernel⟩

theorem wit_SluiceResolution_3 : ∃ (fid : Nat) (i : Nat) (v : Nat) (f : Frame) (p : Parse) (s : State), (s.wf = true) ∧ (s.frame? fid = some f) ∧ (f.stage = .arriving) ∧ (f.secPend = false) ∧ (f.verified = true) ∧ (f.inPort < 14) ∧ (f.tail = true) ∧ (s.flowing = true) ∧ (s.versionAt f.ts = v) ∧ (v < 8) ∧ (s.isLive v = true) ∧ (s.parse v f.inPort f.bytes f.tail = .ok p) ∧ (p.hasFlag 13 = false) ∧ (p.hasFlag 14 = false) ∧ (bitsOf (s.slcW tProfile (v % 4) (p.profile.getD (s.portCfg v f.inPort 0 19 16)) 0) 31 30 = 3) ∧ (s.ruleHits (s.keyOf v f.inPort f.src (p.profile.getD (s.portCfg v f.inPort 0 19 16)) p f.bytes) v = [i]) ∧ (bitsOf (s.slcW tRule 0 i 12) 30 30 = 0) ∧ (bitsOf (s.slcW tRule 0 i 10) 31 30 = 1) ∧ (bitsOf (s.slcW tRule 0 i 10) 19 19 = 0) ∧ (bitsOf (s.slcW tRule 0 i 10) 14 14 = 0) ∧ (bitsOf (s.slcW tRule 0 i 11) 31 31 = 0) ∧ (bitsOf (s.slcW tRule 0 i 11) 14 14 = 0) ∧ ((∀ q : Fin 16, s.zonePass v (s.portCfg v f.inPort 0 27 24) q = true)) ∧ (portsOf (s.portSet (bitsOf (s.slcW tRule 0 i 10) 29 20) f.inPort) ≠ []) :=
  ⟨5, wSlcBase.ruleCand wKey 0, 0, wFrame, { l2End := 14, vlanEnd := 14, payload := 14 }, wSlc, by decide +kernel⟩

theorem wit_StreamStages_1 : ∃ (fid : Nat) (c : Nat) (f : Frame) (s : State), (s.wf = true) ∧ (s.stalled = false) ∧ (c < 4096) ∧ (s.frame? fid = some f) ∧ (f.stage = .resolved) ∧ (f.stream = some c) ∧ (f.tail = true) ∧ (f.icvWait = false) ∧ (f.handle = none) ∧ (f.counted = false) ∧ (s.strB tCtx c 0 31 31 = 0) :=
  ⟨5, 7, { wFrame with stage := .resolved, stream := some 7 }, { wRun with frames := [{ wFrame with stage := .resolved, stream := some 7 }] }, by decide +kernel⟩

theorem wit_StreamStages_2 : ∃ (fid : Nat) (c : Nat) (f : Frame) (s : State), (s.wf = true) ∧ (s.stalled = false) ∧ (c < 4096) ∧ (s.frame? fid = some f) ∧ (f.inPort < 14) ∧ (f.stage = .resolved) ∧ (f.stream = some c) ∧ (f.tail = true) ∧ (f.icvWait = false) ∧ (s.strB tCtx c 0 31 31 = 1) ∧ (s.strB tCtx c 0 30 30 = 0) ∧ (s.strB tCtx c 0 28 28 = 0) ∧ (s.strB tCtx c 1 31 31 = 0) ∧ (s.strB tCtx c 1 15 14 = 0) ∧ (s.strB tCtx c 3 0 0 = 0) ∧ (s.strB tCtx c 3 1 1 = 0) :=
  ⟨5, 7, { wFrame with stage := .resolved, stream := some 7 }, { wRun.setTw 5 0 0 7 0 0x80000000 with frames := [{ wFrame with stage := .resolved, stream := some 7 }] }, by decide +kernel⟩

theorem wit_StreamStages_3 : ∃ (fid : Nat) (c : Nat) (m : Nat) (f : Frame) (s : State), (s.wf = true) ∧ (s.stalled = false) ∧ (c < 4096) ∧ (m < 4096) ∧ (s.frame? fid = some f) ∧ (f.inPort < 14) ∧ (f.stage = .resolved) ∧ (f.stream = some c) ∧ (f.tail = true) ∧ (f.icvWait = false) ∧ (f.parse.outerTag = none) ∧ (s.strB tCtx c 0 31 31 = 1) ∧ (s.strB tCtx c 0 30 30 = 0) ∧ (s.strB tCtx c 0 28 28 = 0) ∧ (s.strB tCtx c 1 31 31 = 1) ∧ (s.strB tCtx c 1 27 16 = m) ∧ (s.strB tCtx c 1 15 14 = 0) ∧ (s.strB tCtx c 3 0 0 = 0) ∧ (s.strB tCtx c 3 1 1 = 0) ∧ (s.strB tCtx c 3 2 2 = 0) ∧ (s.strB tMeter m 0 31 31 = 1) ∧ (f.len * 65536 ≤ s.tc m) :=
  ⟨5, 7, 9, { wFrame with stage := .resolved, stream := some 7 }, { (((wRun.setTw 5 0 0 7 0 0x80000000).setTw 5 0 0 7 1 0x80090000).setTw 5 2 0 9 0 0x80000000).setTw 5 2 0 9 4 0x400000 with frames := [{ wFrame with stage := .resolved, stream := some 7 }] }, by decide +kernel⟩

theorem wit_StreamStages_4 : ∃ (m : Nat) (s : State), (s.wf = true) ∧ (s.stalled = false) ∧ (s.str.grid ≠ s.tim.ticks / 32) ∧ (m < 4096) ∧ (s.strValid tMeter = [m]) :=
  ⟨9, { (((wRun.setTw 5 2 0 9 0 0x80001000).setTw 5 2 0 9 1 0x2000).setTw 5 2 0 9 2 1000).setTw 5 2 0 9 3 1000 with tim := { wRun.tim with ticks := 32 } }, by decide +kernel⟩

theorem wit_StreamStages_5 : ∃ (s : State), (s.str.grid = s.tim.ticks / 32) :=
  ⟨wRun, by decide +kernel⟩

theorem wit_StreamStages_6 : ∃ (r : Fin 1024) (s : State), (s.wf = true) ∧ (s.strB tRec r 0 31 31 = 1) ∧ (s.strB tRec r 1 15 15 = 0) ∧ (s.strB tRec r 0 26 26 = 0) ∧ (assocD s.str.passAt r 0 + max 1 (s.strB tRec r 0 15 0) * msQ ≤ s.nowQ) :=
  ⟨1023, { (wRun.setTw 5 3 0 1023 0 0x80000000).setTw 5 3 0 1023 2 7 with tim := { wRun.tim with ticks := 1000000000000, wt := 4294967296000000000000 } }, by decide +kernel⟩

theorem wit_StreamTables_1 : ∃ (ini : Initiator) (cmd : Word) (ecc : EccState) (s : State), (s.wf = true) ∧ (s.mayWrite ini STR.TBL_CMD = true) ∧ (s.ownsTable 1 ini = true) ∧ (bitsOf cmd 31 28 ≤ 6) ∧ (bitsOf cmd 11 0 < (strSize (bitsOf cmd 31 28)).2) ∧ (ecc ≠ .uncorrectable) :=
  ⟨.hart0, 0x51000007, .ok, wRun.setTw 5 5 0 7 2 9, by decide +kernel⟩

theorem wit_StreamTables_2 : ∃ (ini : Initiator) (cmd : Word) (s : State), (s.wf = true) ∧ (s.mayWrite ini STR.TBL_CMD = true) ∧ (s.ownsTable 1 ini = true) ∧ (bitsOf cmd 31 28 = 1 ∨ bitsOf cmd 31 28 = 4) ∧ (bitsOf cmd 11 0 < (strSize (bitsOf cmd 31 28)).2) ∧ ((∀ w, w < (strSize (bitsOf cmd 31 28)).1 → legalWord (s.rd (STR.TBL_DATA w)) (strMask (bitsOf cmd 31 28) w) = true)) ∧ (strLegal (bitsOf cmd 31 28) (s.window (STR.TBL_DATA 0) (strSize (bitsOf cmd 31 28)).1) = true) :=
  ⟨.hart0, 0x12000007, wRun.wr (STR.TBL_DATA 0) 5, by decide +kernel⟩

theorem wit_StreamTables_3 : ∃ (ini : Initiator) (cmd : Word) (s : State), (s.wf = true) ∧ (s.mayWrite ini STR.TBL_CMD = true) ∧ (s.ownsTable 1 ini = true) ∧ (bitsOf cmd 31 28 = 0) :=
  ⟨.hart0, 0x03000007, wRun.setTw 5 0 0 7 3 1, by decide +kernel⟩

theorem wit_StreamTables_4 : ∃ (ini : Initiator) (cmd : Word) (s : State), (s.wf = true) ∧ (s.mayWrite ini STR.TBL_CMD = true) ∧ (s.ownsTable 1 ini = true) ∧ (bitsOf cmd 31 28 = 2) ∧ (s.strB tMeter (bitsOf cmd 11 0) 0 31 31 = 1) ∧ ((s.str.pend.find? fun p => p.idx == bitsOf cmd 11 0) = none) :=
  ⟨.hart0, 0x24000009, (wRun.setTw 5 2 0 9 0 0x80001000).setTw 5 2 0 9 2 1000, by decide +kernel⟩

theorem wit_StreamTables_5 : ∃ (ini : Initiator) (cmd : Word) (s : State), (s.wf = true) ∧ (s.mayWrite ini STR.TBL_CMD = true) ∧ (s.ownsTable 1 ini = true) ∧ (bitsOf cmd 31 28 = 3) ∧ (bitsOf cmd 11 0 < 1024) ∧ (s.strB tRec (bitsOf cmd 11 0) 0 31 31 = 1) :=
  ⟨.hart0, 0x350003FF, (wRun.setTw 5 3 0 1023 0 0x80000000).setTw 5 3 0 1023 2 7, by decide +kernel⟩

theorem wit_StreamTables_6 : ∃ (ini : Initiator) (s : State), (s.mayRead ini STR.EVQ_DATA = true) :=
  ⟨.host, { wRun with str := { wRun.str with evq := [5, 6] } }, by decide +kernel⟩

theorem wit_BasinBuffers_1 : ∃ (i : Fin 14) (o : Nat) (q : Nat) (share : Nat) (f : Frame) (s : State), (s.wf = true) ∧ (s.flowing = true) ∧ (s.frames = [f]) ∧ (f.inPort = i) ∧ (f.handle = none) ∧ (f.stage = .passed) ∧ (f.tail = true) ∧ (f.icvWait = false) ∧ (f.waiting = false) ∧ (f.cpu = none) ∧ (f.secLen = 0) ∧ (f.rank = 2) ∧ (f.targets = [⟨o, false, false⟩]) ∧ (o < 16) ∧ (s.copies = []) ∧ (s.notes = []) ∧ (s.bsn.bufs = []) ∧ (s.bsn.nextIdx = []) ∧ (s.get (MAC.PFC_CFG_PFC_TX_MASK i) = 0) ∧ (s.reqRank f = 2) ∧ (s.findPool i 2 f.len false = some (q, share)) ∧ ((∀ k : Fin 16, (s.can k).rx = [])) ∧ (residence s.nowQ f.ts ≤ s.ageLimit i) :=
  ⟨0, 1, 0, 2, { wFrame with stage := .passed, targets := [⟨1, false, false⟩] }, { wRun.set (MAC.PFC_CFG_PFC_TX_MASK 0) 0 with frames := [{ wFrame with stage := .passed, targets := [⟨1, false, false⟩] }] }, by decide +kernel⟩

theorem wit_BasinBuffers_2 : ∃ (p : Fin 14) (f : Frame) (s : State), (s.wf = true) ∧ (s.pairEn = false) ∧ (s.stalled = false) ∧ (s.frames.find? (fun f => f.waiting && f.inPort == (p : Nat)) = some f) ∧ (s.frame? f.fid = some f) ∧ (s.yields p 1 f.len = false) ∧ (f.waitAt + clampN 1 1000 (s.get (BSN.AGE_CFG_WAIT_US p)) * usQ ≤ s.nowQ) :=
  ⟨0, { wFrame with waiting := true, stage := .passed }, { { wRun with frames := [{ wFrame with fid := 4 }, { wFrame with waiting := true, stage := .passed }] } with tim := { wRun.tim with ticks := 1000000000000, wt := 4294967296000000000000 } }, by decide +kernel⟩

theorem wit_BasinBuffers_3 : ∃ (ini : Initiator) (w : Word) (b : Buf) (s : State), (s.wf = true) ∧ (s.mayWrite ini BSN.REL_CMD = true) ∧ (s.buf? (bitsOf w 27 24) (bitsOf w 23 22) (bitsOf w 15 0) = some b) ∧ (b.gen = bitsOf w 21 16) ∧ (b.owner = BitVec.ofNat 18 131072) ∧ (b.dup ≠ some 17) ∧ (b.withdrawn = false) :=
  ⟨.hart0, 0x01830007, { slice := 1, pool := 2, idx := 7, gen := 3, owner := 131072, taken := true, fid := 5, laRefs := 3 }, { wRun with frames := [wFrame], bsn := { bufs := [{ slice := 1, pool := 2, idx := 7, gen := 3, owner := 131072, taken := true, fid := 5, laRefs := 3 }] } }, by decide +kernel⟩

theorem wit_BasinBuffers_4 : ∃ (ini : Initiator) (w : Word) (s : State), (s.wf = true) ∧ (s.mayWrite ini BSN.REL_CMD = true) ∧ (s.buf? (bitsOf w 27 24) (bitsOf w 23 22) (bitsOf w 15 0) = none) :=
  ⟨.hart0, 0x01830007, { wRun with frames := [wFrame] }, by decide +kernel⟩

theorem wit_BasinBuffers_5 : ∃ (c : Copy) (f : Frame) (s : State), (s.wf = true) ∧ (s.flowing = true) ∧ (s.pairEn = false) ∧ (s.copies = [c]) ∧ (s.frame? c.fid = some f) ∧ (f.handle = none) ∧ (s.aged c = true) ∧ (s.eligibleHeads c.out = []) ∧ (c.flying = []) ∧ (c.freed = false) :=
  ⟨{ wCopy with st := .queued }, wFrame, { wRun with frames := [wFrame], copies := [{ wCopy with st := .queued }], tim := { wRun.tim with wt := 4294967296000000000 } }, by decide +kernel⟩

theorem wit_BasinBuffers_6 : ∃ (ini : Initiator) (w : Word) (b : Buf) (s : State), (s.wf = true) ∧ (s.mayWrite ini BSN.BUF_SEL = true) ∧ (s.buf? (bitsOf w 31 28) (bitsOf w 23 22) (bitsOf w 15 0) = some b) ∧ (b.taken = true) ∧ (b.dup = none) ∧ (b.withdrawn = false) :=
  ⟨.hart0, 0x10800007, { slice := 1, pool := 2, idx := 7, gen := 3, owner := 131072, taken := true, fid := 5, laRefs := 3 }, { wRun with bsn := { bufs := [{ slice := 1, pool := 2, idx := 7, gen := 3, owner := 131072, taken := true, fid := 5, laRefs := 3 }] } }, by decide +kernel⟩

theorem wit_BasinBuffers_7 : ∃ (ini : Initiator) (s : State), (s.wf = true) ∧ (s.mayWrite ini BSN.VOQ_SEL = true) :=
  ⟨.hart0, { wRun.wr (BSN.VOQ_HEAD 0) 5 with frames := [wFrame], copies := [{ wCopy with st := .queued }] }, by decide +kernel⟩

theorem wit_BasinBuffers_8 : ∃ (p : Fin 14) (t0 : Tx) (s : State), (s.wf = true) ∧ (s.stalled = false) ∧ ((s.mac p).tx = some t0) ∧ (t0.cid = none) ∧ (t0.shadow = none) ∧ (be16 t0.data 12 = 0x8808) ∧ (s.copies.filter Copy.endsNow = []) ∧ (t0.start + (8 + t0.bytes) * s.byteTime p ≤ s.nowPs) :=
  ⟨0, { wTx with cid := none, data := zeros 12 ++ [0x88, 8] ++ zeros 50 }, { wPort.setMac 0 { tx := some { wTx with cid := none, data := zeros 12 ++ [0x88, 8] ++ zeros 50 } } with tim := { wRun.tim with wt := 4294967296000000000 } }, by decide +kernel⟩

theorem wit_BasinBuffers_9 : ∃ (p : Fin 14) (t0 : Tx) (c : Copy) (f : Frame) (s : State), (s.wf = true) ∧ (s.pairEn = false) ∧ (s.twp.swapped = none) ∧ (s.stalled = false) ∧ ((s.mac p).tx = some t0) ∧ (t0.cid = some c.cid) ∧ (t0.shadow = none) ∧ (t0.sec = none) ∧ (t0.late = none) ∧ (t0.close = none) ∧ (s.copy? c.cid = some c) ∧ (c.out = p) ∧ (c.sent = 0) ∧ (c.stomp = none) ∧ (c.flying = []) ∧ (c.cells ≤ c.inOrder) ∧ (s.frame? c.fid = some f) ∧ (f.tail = true) ∧ (f.verified = true) ∧ (f.handle = none) ∧ (s.copies.filter Copy.endsNow = []) ∧ (t0.start + (8 + f.len) * s.byteTime p ≤ s.nowPs) :=
  ⟨0, { wTx with data := zeros 60 }, wCopy, wFrame, { wPort.setMac 0 { tx := some { wTx with data := zeros 60 } } with frames := [wFrame], copies := [wCopy], tim := { wRun.tim with wt := 4294967296000000000 } }, by decide +kernel⟩

theorem wit_CrossbarCells_1 : ∃ (s : State), (s.pllLost 0 = true) :=
  ⟨{ wRun with fltCond := 0x100000 }, by decide +kernel⟩

theorem wit_CrossbarCells_2 : ∃ (k : Copy) (f : Frame) (s : State), (s.wf = true) ∧ (s.flowing = true) ∧ (s.lkp.charges = []) ∧ (s.frame? k.fid = some f) ∧ (s.copies = [k]) ∧ (k.st = .queued) ∧ (k.inp < 16) ∧ (k.out < 16) ∧ (k.granted = []) ∧ (k.flying = []) ∧ (s.planeUp true = true) ∧ (s.planeUp false = true) ∧ (s.startPlane = some true) ∧ (s.operRes = []) ∧ (({ s with crs := { s.crs with cellNo := s.crs.cellNo + 1 } } : State).eligibleHeads k.out = [k]) :=
  ⟨{ wCopy with st := .queued }, wFrame, { (wPort.setBit CRS.CRS_STATUS_A_UP true).setBit CRS.CRS_STATUS_B_UP true with frames := [wFrame], copies := [{ wCopy with st := .queued }] }, by decide +kernel⟩

theorem wit_CrossbarCells_3 : ∃ (i : Fin 16) (o : Fin 16) (e : Bool) (seq : BitVec 16) (idx : Fin 152) (c : Copy) (x : Cell) (s : State), (s.wf = true) ∧ (s.flowing = true) ∧ (s.cellCopy i o e seq.toNat = some c) ∧ (c.flying.find? (fun x => x.idx == (idx : Nat)) = some x) ∧ (x.sent = true) ∧ (x.at_ + 3 ≤ s.crs.cellNo) ∧ (c.lost = false) ∧ (c.st ≠ .draining) :=
  ⟨1, 0, false, 7, 0, { wCopy with st := .committed, seq := 7, cells := 1, granted := [0], flying := [{ idx := 0, plane := true, at_ := 10 }] }, { idx := 0, plane := true, at_ := 10 }, { wRun with frames := [wFrame], copies := [{ wCopy with st := .committed, seq := 7, cells := 1, granted := [0], flying := [{ idx := 0, plane := true, at_ := 10 }] }], crs := { wRun.crs with cellNo := 13 } }, by decide +kernel⟩

theorem wit_CrossbarCells_4 : ∃ (i : Fin 16) (o : Fin 16) (e : Bool) (seq : BitVec 16) (s : State), (s.wf = true) ∧ (s.flowing = true) ∧ (s.cellCopy i o e seq.toNat = none) :=
  ⟨1, 0, false, 8, { wRun with frames := [wFrame], copies := [{ wCopy with st := .committed, seq := 7, cells := 1, granted := [0], flying := [{ idx := 0, plane := true, at_ := 10 }] }], crs := { wRun.crs with cellNo := 13 } }, by decide +kernel⟩

theorem wit_CrossbarCells_5 : ∃ (i : Fin 16) (o : Fin 16) (e : Bool) (seq : BitVec 16) (idx : Fin 152) (c : Copy) (x : Cell) (s : State), (s.wf = true) ∧ (s.pairEn = false) ∧ (s.cellCopy i o e seq.toNat = some c) ∧ (c.flying.find? (fun x => x.idx == (idx : Nat)) = some x) ∧ (x.at_ + 125 ≤ s.crs.cellNo) ∧ (c.lost = false) ∧ (c.st = .committed) ∧ (c.flying = [x]) ∧ (s.frame? c.fid = none) ∧ (s.copies = [c]) :=
  ⟨1, 0, false, 7, 0, { wCopy with st := .committed, seq := 7, cells := 1, granted := [0], flying := [{ idx := 0, plane := true, at_ := 10 }] }, { idx := 0, plane := true, at_ := 10 }, { wRun with frames := [], copies := [{ wCopy with st := .committed, seq := 7, cells := 1, granted := [0], flying := [{ idx := 0, plane := true, at_ := 10 }] }], crs := { wRun.crs with cellNo := 135 } }, by decide +kernel⟩

theorem wit_CrossbarCells_6 : ∃ (ini : Initiator) (s : State), (s.wf = true) ∧ (s.mayWrite ini CRS.PLANE_CMD = true) ∧ (s.copies = []) ∧ (s.planeUp true = true) ∧ (s.planeUp false = true) :=
  ⟨.hart0, (wRun.setBit CRS.CRS_STATUS_A_UP true).setBit CRS.CRS_STATUS_B_UP true, by decide +kernel⟩

theorem wit_CrossbarCells_7 : ∃ (ini : Initiator) (pl : Plane) (s : State), (s.mayWrite ini CRS.PLANE_CMD = true) ∧ (s.planeUp (planeA pl) = false) :=
  ⟨.hart0, .A, wRun.setBit CRS.CRS_STATUS_A_UP false, by decide +kernel⟩

theorem wit_CrossbarCells_8 : ∃ (pl : Plane) (s : State), (s.wf = true) ∧ ((if planeA pl then s.crs.checkA else s.crs.checkB) = true) ∧ ((if planeA pl then s.crs.checkAt.1 else s.crs.checkAt.2) + 4096 ≤ s.crs.cellNo) :=
  ⟨.A, { (wRun.setBit CRS.CRS_STATUS_A_UP false).setBit CRS.CRS_STATUS_B_UP false with fltCond := 0x01000001, crs := { wRun.crs with cellNo := 5000, checkA := true, checkB := true, ptrs := [(3, 5), (20, 2), (67, 8), (84, 4)] } }, by decide +kernel⟩

theorem wit_CrossbarCells_9 : ∃ (pl : Plane) (s : State), (s.wf = true) ∧ ((if planeA pl then s.crs.checkA else s.crs.checkB) = true) ∧ ((if planeA pl then s.crs.checkAt.1 else s.crs.checkAt.2) + 4096 ≤ s.crs.cellNo) :=
  ⟨.A, { wRun.setBit CRS.CRS_STATUS_A_UP false with crs := { wRun.crs with cellNo := 5000, checkA := true, ptrs := [(3, 5)] } }, by decide +kernel⟩

theorem wit_CrossbarCells_10 : ∃ (ini : Initiator) (s : State), (s.wf = true) ∧ (s.mayWrite ini CRS.PTR_SEL = true) :=
  ⟨.hart0, { wRun with crs := { wRun.crs with ptrs := [(3, 5), (20, 2), (67, 8), (84, 4)] } }, by decide +kernel⟩

theorem wit_CrossbarCells_11 : ∃ (ini : Initiator) (w : Word) (n : Nat) (s : State), (s.wf = true) ∧ (s.mayWrite ini CRS.TS_SEL = true) ∧ (s.oldestSeq (bitsOf w 3 0) (bitsOf w 7 4) = some n) :=
  ⟨.hart0, 0x01, 7, { wRun with frames := [wFrame], copies := [{ wCopy with st := .committed, seq := 7, cells := 1, granted := [0], arrived := [0] }], crs := { wRun.crs with cellNo := 13 } }, by decide +kernel⟩

theorem wit_CrossbarCells_12 : ∃ (ini : Initiator) (s : State), (s.wf = true) ∧ (s.mayWrite ini CRS.TS_SEL = true) ∧ (s.copies = []) ∧ (s.crs.nextSeq = []) :=
  ⟨.hart0, wRun, by decide +kernel⟩

theorem wit_ReservationTable_1 : ∃ (ini : Initiator) (cmd : Word) (ecc : EccState) (s : State), (s.wf = true) ∧ (s.mayWrite ini CRS.TBL_CMD = true) ∧ (s.ownsTable 2 ini = true) ∧ (bitsOf cmd 31 28 ≤ 1) ∧ (ecc ≠ .uncorrectable) :=
  ⟨.hart0, 0x11000005, .corrected, (wRun.setTw 7 1 0 5 2 9).setTw 7 0 0 5 2 8, by decide +kernel⟩

theorem wit_ReservationTable_2 : ∃ (ini : Initiator) (cmd : Word) (s : State), (s.wf = true) ∧ (s.mayWrite ini CRS.TBL_CMD = true) ∧ (s.ownsTable 2 ini = true) ∧ (bitsOf cmd 31 28 = 0) ∧ (s.badRes (bitsOf cmd 8 0) (s.window (CRS.TBL_DATA 0) 4) = false) :=
  ⟨.hart0, 0x02000005, ((wRun.wr (CRS.TBL_DATA 0) 0x81120000).wr (CRS.TBL_DATA 1) 1).wr (CRS.TBL_DATA 2) 5, by decide +kernel⟩

theorem wit_ReservationTable_3 : ∃ (ini : Initiator) (cmd : Word) (s : State), (s.wf = true) ∧ (s.mayWrite ini CRS.TBL_CMD = true) ∧ (s.ownsTable 2 ini = true) ∧ (bitsOf cmd 31 28 = 0) ∧ (s.badRes (bitsOf cmd 8 0) (s.window (CRS.TBL_DATA 0) 4) = true) :=
  ⟨.hart0, 0x02000005, wRun, by decide +kernel⟩

theorem wit_GatesAndShapers_1 : ∃ (p : Fin 14) (c : Copy) (f : Frame) (s : State), (s.wf = true) ∧ (s.mayStart p = true) ∧ (s.pairEn = false) ∧ (s.twp.fence = none) ∧ (s.twp.swap = none) ∧ (s.pfcWaits p = false) ∧ (s.candidates p = [c]) ∧ (s.copies = [c]) ∧ (s.frame? c.fid = some f) ∧ (c.out = p) ∧ (c.st = .committed) ∧ (f.parse.ptpOff = none) ∧ (s.secured p = false) ∧ ((s.mac p).suspended = none) ∧ (s.fitsNow c f = true) :=
  ⟨0, { wCopy with st := .committed, cells := 1, granted := [0], arrived := [0] }, wFrame, { wPort with frames := [wFrame], copies := [{ wCopy with st := .committed, cells := 1, granted := [0], arrived := [0] }] }, by decide +kernel⟩

theorem wit_GatesAndShapers_2 : ∃ (p : Fin 16) (s : State), (s.mayStart p = false) :=
  ⟨3, wRun, by decide +kernel⟩

theorem wit_GatesAndShapers_3 : ∃ (p : Fin 16) (s : State), (s.wf = true) ∧ (s.flowing = true) ∧ (s.pmtActive p = false) ∧ (s.copies = []) ∧ ((s.govern 1 p s.nowPs).entry < 1024) ∧ ((s.govern 1 p s.nowPs).gates < 256) :=
  ⟨15, wRun.set (LKP.OPER_CFG_INIT_GATES 15) 5, by decide +kernel⟩

theorem wit_GatesAndShapers_4 : ∃ (p : Fin 16) (s : State), (s.wf = true) ∧ (s.flowing = true) ∧ (s.copies = []) ∧ (s.bit (LKP.OPER_CFG_GATE_EN p) = true) :=
  ⟨15, (wRun.setBit (LKP.OPER_CFG_GATE_EN 15) true).set (LKP.GATE_STATUS_GATES 15) 7, by decide +kernel⟩

theorem wit_GatesAndShapers_5 : ∃ (p : Fin 16) (s : State), (s.wf = true) ∧ (s.flowing = true) ∧ (s.pmtActive p = true) ∧ ((s.govern 1 p s.nowPs).op = 1) ∧ (s.lkp.eccShut.getLsbD p = false) ∧ (s.lkp.hold.getLsbD p = false) :=
  ⟨3, (((wRun.setBit (MAC.PORT_STATUS_PREEMPT_ACTIVE 3) true).setBit (LKP.OPER_CFG_GATE_EN 3) true).set (LKP.OPER_CFG_LIST_LEN 3) 1).set (LKP.OPER_CYCLE_TICKS 3) 1000 |>.setTw 8 1 0 3072 0 0x40000007 |>.setTw 8 1 0 3072 1 500, by decide +kernel⟩

theorem wit_GatesAndShapers_6 : ∃ (ini : Initiator) (m : BitVec 16) (s : State), (s.wf = true) ∧ (s.mayWrite ini LKP.CHANGE_CMD = true) ∧ (s.armRefusal m.toNat s.changeT = none) :=
  ⟨.hart0, 8, ((wRun.set (LKP.ADMIN_CFG_LIST_LEN 3) 2).set (LKP.ADMIN_CYCLE_TICKS 3) 1000).wr LKP.CHANGE_T_SEC_LO_SEC_LO.addr 5, by decide +kernel⟩

theorem wit_GatesAndShapers_7 : ∃ (ini : Initiator) (m : BitVec 16) (cause : Nat) (port : Nat) (s : State), (s.wf = true) ∧ (s.mayWrite ini LKP.CHANGE_CMD = true) ∧ (s.armRefusal m.toNat s.changeT = some (cause, port)) :=
  ⟨.hart0, 8, 1, 3, wRun.set (LKP.ADMIN_CFG_LIST_LEN 3) 0, by decide +kernel⟩

theorem wit_GatesAndShapers_8 : ∃ (ini : Initiator) (c : Change) (s : State), (s.wf = true) ∧ (s.mayWrite ini LKP.CHANGE_CMD = true) ∧ (s.lkp.change = some c) ∧ (c.link = false) :=
  ⟨.hart0, { t := 5, mask := 8, link := false }, { wRun with lkp := { wRun.lkp with change := some { t := 5, mask := 8, link := false } } }, by decide +kernel⟩

theorem wit_GatesAndShapers_9 : ∃ (p : Fin 16) (c : Change) (s : State), (s.wf = true) ∧ (s.lkp.change = some c) ∧ (c.link = false) ∧ (c.mask = 2 ^ (p : Nat)) ∧ (c.t ≤ s.nowPs) ∧ (s.copies = []) :=
  ⟨3, { t := 5, mask := 8, link := false }, { (((((wRun.set (LKP.ADMIN_CFG_LIST_LEN 3) 2).set (LKP.ADMIN_CYCLE_TICKS 3) 1000).setTw 8 0 0 3072 0 7).setTw 8 1 0 3075 0 9).setTw 8 1 0 2075 0 9) with tim := { wRun.tim with wt := 100000000000000 }, lkp := { wRun.lkp with change := some { t := 5, mask := 8, link := false } } }, by decide +kernel⟩

theorem wit_GatesAndShapers_10 : ∃ (o : Nat) (c : Nat) (s : State), (s.stalled = false) ∧ (s.lkp.grid ≠ s.tim.ticks / 32) ∧ (o < 16) ∧ (c < 8) ∧ (s.shpMode o c = 1) ∧ ((s.shaper o c).mode = 1) :=
  ⟨3, 2, { ((wRun.set (LKP.SHP_MODE_MODE 3) 0x10).set (LKP.SHP_BURST_TC_BYTES 3 2) 100).set (LKP.SHP_RATE_TC_INC 3 2) 7 with lkp := { wRun.lkp with shapers := [{ key := 26, level := -5, mode := 1 }] }, tim := { wRun.tim with ticks := 32 } }, by decide +kernel⟩

theorem wit_GatesAndShapers_11 : ∃ (s : State), (s.lkp.grid = s.tim.ticks / 32) :=
  ⟨wRun, by decide +kernel⟩

theorem wit_GatesAndShapers_12 : ∃ (o : Nat) (c : Nat) (s : State), (s.stalled = false) ∧ (s.lkp.grid ≠ s.tim.ticks / 32) ∧ (o < 16) ∧ (c < 8) ∧ (s.shpMode o c = 2) ∧ ((s.shaper o c).mode = 2) ∧ (s.gateOpen o c s.nowPs = false) :=
  ⟨3, 2, { ((wRun.set (LKP.SHP_MODE_MODE 3) 0x20).set (LKP.SHP_BURST_TC_BYTES 3 2) 100).set (LKP.OPER_CFG_INIT_GATES 3) 0 with lkp := { wRun.lkp with shapers := [{ key := 26, level := 99999999, mode := 2 }] }, tim := { wRun.tim with ticks := 32 } }, by decide +kernel⟩

theorem wit_GateTables_1 : ∃ (ini : Initiator) (cmd : Word) (ecc : EccState) (s : State), (s.wf = true) ∧ (s.mayWrite ini LKP.TBL_CMD = true) ∧ (s.ownsTable 3 ini = true) ∧ (bitsOf cmd 31 28 ≤ 1) ∧ (ecc ≠ .uncorrectable) :=
  ⟨.hart0, 0x11000C05, .ok, (wRun.setTw 8 1 0 3077 1 9).setTw 8 0 0 3077 1 8, by decide +kernel⟩

theorem wit_GateTables_2 : ∃ (ini : Initiator) (cmd : Word) (s : State), (s.wf = true) ∧ (s.mayWrite ini LKP.TBL_CMD = true) ∧ (s.ownsTable 3 ini = true) ∧ (bitsOf cmd 31 28 = 0) ∧ (s.changeAt (bitsOf cmd 13 0 / 1024) = none) ∧ (badGate (s.rd (LKP.TBL_DATA 0)) (s.rd (LKP.TBL_DATA 1)) = false) :=
  ⟨.hart0, 0x02000C05, (wRun.wr (LKP.TBL_DATA 0) 0x40000007).wr (LKP.TBL_DATA 1) 5, by decide +kernel⟩

theorem wit_GateTables_3 : ∃ (ini : Initiator) (cmd : Word) (s : State), (s.wf = true) ∧ (s.mayWrite ini LKP.TBL_CMD = true) ∧ (s.ownsTable 3 ini = true) ∧ (bitsOf cmd 31 28 = 0) ∧ ((s.changeAt (bitsOf cmd 13 0 / 1024)).isSome = true) :=
  ⟨.hart0, 0x02000C05, { wRun with lkp := { wRun.lkp with change := some { t := 5, mask := 8, link := false } } }, by decide +kernel⟩

theorem wit_CanChannels_1 : ∃ (ini : Initiator) (c : Fin 16) (w : Word) (s : State), (s.wf = true) ∧ (s.mayWrite ini (CAN.CH_CTRL_MODE c).addr = true) ∧ (s.canCfg c ≠ 0) ∧ (bitsOf w 1 0 = 0) ∧ ((s.rd (CAN.CH_CTRL_MODE c).addr ^^^ w) &&& 0x38 = 0) ∧ ((s.can c).inMsg = false) :=
  ⟨.hart0, 3, 0, (wRun.wr (CAN.CH_CTRL_MODE 3).addr 1).setCan 3 { integ := true, tx := [(1, wMsg)] }, by decide +kernel⟩

theorem wit_CanChannels_2 : ∃ (ini : Initiator) (c : Fin 16) (w : Word) (s : State), (s.wf = true) ∧ (s.mayWrite ini (CAN.CH_CTRL_MODE c).addr = true) ∧ (s.canCfg c ≠ 0) ∧ (bitsOf w 1 0 = 0) ∧ ((s.rd (CAN.CH_CTRL_MODE c).addr ^^^ w) &&& 0x38 = 0) ∧ ((s.can c).integ = false) :=
  ⟨.hart0, 3, 0, (wRun.wr (CAN.CH_CTRL_MODE 3).addr 1).setCan 3 { tx := [(1, wMsg)] }, by decide +kernel⟩

theorem wit_CanChannels_3 : ∃ (ini : Initiator) (c : Fin 16) (w : Word) (s : State), (s.wf = true) ∧ (s.mayWrite ini (CAN.CH_CTRL_MODE c).addr = true) ∧ (s.canCfg c = 0) ∧ (bitsOf w 1 0 ≠ 0) ∧ ((s.plainWrite (CAN.CH_CTRL_MODE c).addr w).canTiming c = true) ∧ ((s.can c).offPend = false) :=
  ⟨.hart0, 3, 1, ((((((((wRun.set (CAN.NBT_NBRP 3) 1).set (CAN.NBT_NTSEG1 3) 63).set (CAN.NBT_NTSEG2 3) 16).set (CAN.NBT_NSJW 3) 4).set (CAN.DBT_DBRP 3) 1).set (CAN.DBT_DTSEG1 3) 7).set (CAN.DBT_DTSEG2 3) 2).set (CAN.DBT_DSJW 3) 2), by decide +kernel⟩

theorem wit_CanChannels_4 : ∃ (ini : Initiator) (c : Fin 16) (w : Word) (s : State), (s.wf = true) ∧ (s.mayWrite ini (CAN.CH_CTRL_MODE c).addr = true) ∧ (s.canCfg c = 0) ∧ (bitsOf w 1 0 ≠ 0) ∧ ((s.plainWrite (CAN.CH_CTRL_MODE c).addr w).canTiming c = false) :=
  ⟨.hart0, 3, 1, wRun.set (CAN.NBT_NBRP 3) 0, by decide +kernel⟩

theorem wit_CanChannels_5 : ∃ (c : Fin 16) (s : State), (s.wf = true) ∧ ((s.can c).integ = true) ∧ (s.canMode c ≠ 0) ∧ (s.canStopped c = false) :=
  ⟨3, (wRun.set (CAN.CH_CTRL_MODE 3) 1).setCan 3 { integ := true }, by decide +kernel⟩

theorem wit_CanChannels_6 : ∃ (c : Fin 16) (m : CanMsg) (sof : Nat) (s : State), (s.wf = true) ∧ (s.canHears c sof = true) ∧ (s.canMode c = 2) ∧ (m.fdf = false) ∧ ((allTargets.any fun x => s.seqState x == 1 || s.seqState x == 2) = false) ∧ (s.get (CAN.CH_STATUS_MODE_ACT c) = 2) ∧ (s.bit (CAN.CH_STATUS_CLAIM_GATED c) = false) ∧ ((s.can c).offPend = false) ∧ ((∀ q : Fin 16, (s.can q).rx = [])) ∧ (s.inboundEntry c m.ide m.id = none) ∧ (s.pllLost 0 = false) ∧ (s.gwe.hand = none) :=
  ⟨3, { wMsg with data := [1, 2, 3, 4, 5, 6, 7, 8, 9], brs := true }, 77, ((wRun.set (CAN.CH_CTRL_MODE 3) 2).set (CAN.CH_STATUS_MODE_ACT 3) 2), by decide +kernel⟩

theorem wit_CanChannels_7 : ∃ (c : Fin 16) (sof : Nat) (s : State), (s.canHears c sof = false) :=
  ⟨3, 77, wRun, by decide +kernel⟩

theorem wit_CanChannels_8 : ∃ (c : Fin 16) (s : State), (s.wf = true) ∧ (s.canOut c = false) ∧ ((s.can c).offPend = true) ∧ (s.bit (CAN.CH_CTRL_FD_EN c) = false) ∧ (s.bit (CAN.CH_CTRL_PEX_EN c) = true) :=
  ⟨3, ((wRun.set (CAN.CH_CTRL_MODE 3) 0).setBit (CAN.CH_CTRL_PEX_EN 3) true).setCan 3 { offPend := true, inMsg := true }, by decide +kernel⟩

theorem wit_CanChannels_9 : ∃ (c : Fin 16) (s : State), (s.wf = true) ∧ (s.canOut c = false) ∧ ((s.can c).offPend = false) ∧ (s.bit (CAN.CH_CTRL_FD_EN c) = false) ∧ (s.bit (CAN.CH_CTRL_PEX_EN c) = true) :=
  ⟨3, (wRun.set (CAN.CH_CTRL_MODE 3) 1).setBit (CAN.CH_CTRL_PEX_EN 3) true, by decide +kernel⟩

theorem wit_CanChannels_10 : ∃ (c : Fin 16) (ti : Fin 16) (ri : Fin 16) (s : State), (s.wf = true) ∧ (s.canStopped c = false) ∧ ((s.can c).integ = false) ∧ (s.canMode c ≠ 0) ∧ ((s.can c).latched = none) ∧ (s.get (CAN.CH_STATUS_MODE_ACT c) = 1) ∧ (s.get (CAN.CH_STATUS_STATE c) = 0) ∧ (s.tec c + (ti : Nat) < 128) ∧ (s.rec_ c + (ri : Nat) < 128) ∧ ((s.can c).offPend = false) :=
  ⟨3, 8, 1, ((wRun.set (CAN.CH_CTRL_MODE 3) 1).set (CAN.CH_STATUS_MODE_ACT 3) 1).setCan 3 { inMsg := true }, by decide +kernel⟩

theorem wit_CanChannels_11 : ∃ (ini : Initiator) (c : Fin 16) (s : State), (s.wf = true) ∧ (s.mayWrite ini (CAN.RECOVER_CMD_GO c).addr = true) ∧ (s.get (CAN.CH_STATUS_STATE c) = 2) :=
  ⟨.hart0, 3, wRun.set (CAN.CH_STATUS_STATE 3) 2, by decide +kernel⟩

theorem wit_CanChannels_12 : ∃ (c : Fin 16) (s : State), (s.wf = true) ∧ (s.canStopped c = false) ∧ (s.bit (CAN.CH_STATUS_RECOVERING c) = true) :=
  ⟨3, ((wRun.set (CAN.CH_STATUS_STATE 3) 2).set (CAN.CH_STATUS_TEC 3) 255).setBit (CAN.CH_STATUS_RECOVERING 3) true, by decide +kernel⟩

theorem wit_CanChannels_13 : ∃ (c : Fin 16) (s : State), (s.wf = true) ∧ (s.pllLost 2 = false) ∧ ((s.can c).inMsg = false) :=
  ⟨3, (wRun.set (CAN.CH_CTRL_MODE 3) 1), by decide +kernel⟩

theorem wit_CanTransmission_1 : ∃ (c : Fin 16) (f : Fin 4) (m : CanMsg) (s : State), (s.wf = true) ∧ (s.canMay c = true) ∧ (s.canMode c = 1) ∧ (((s.can c).fifo f).head? = some m) ∧ ((∀ g : Fin 4, g < f → (s.can c).fifo g = [])) :=
  ⟨3, 2, wMsg, ((wRun.set (CAN.CH_CTRL_MODE 3) 1).set (CAN.CH_STATUS_MODE_ACT 3) 1).setCan 3 { tx := [(2, wMsg), (2, { wMsg with id := 6 })], latched := none, inMsg := false, sof := 5 }, by decide +kernel⟩

theorem wit_CanTransmission_2 : ∃ (c : Fin 16) (f : Fin 4) (m : CanMsg) (s : State), (s.wf = true) ∧ ((s.can c).latched = some (f : Nat)) ∧ (((s.can c).fifo f).head? = some m) ∧ (s.canStopped c = false) ∧ (s.oneShot c f = false) ∧ ((s.can c).cancel = false) :=
  ⟨3, 2, wMsg, ((wRun.set (CAN.CH_CTRL_MODE 3) 1).set (CAN.CH_STATUS_MODE_ACT 3) 1).setCan 3 { tx := [(2, wMsg), (2, { wMsg with id := 6 })], latched := some 2, inMsg := true, sof := 5 }, by decide +kernel⟩

theorem wit_CanTransmission_3 : ∃ (c : Fin 16) (f : Fin 4) (m : CanMsg) (s : State), (s.wf = true) ∧ ((s.can c).latched = some (f : Nat)) ∧ (((s.can c).fifo f).head? = some m) ∧ (s.canStopped c = false) ∧ ((s.can c).loop = false) ∧ ((s.can c).cancel = false) ∧ ((s.can c).offPend = false) ∧ (s.bit (CAN.CH_CTRL_TDC_EN c) = false) ∧ (s.get (CAN.CH_STATUS_STATE c) = 0) ∧ (s.tec c < 128) ∧ (s.rec_ c < 128) ∧ ((∀ q : Fin 16, (s.can q).rx = [])) ∧ (s.gwe.hand = none) :=
  ⟨3, 2, wMsg, (((wRun.set (CAN.CH_CTRL_MODE 3) 1).set (CAN.CH_STATUS_MODE_ACT 3) 1).set (CAN.CH_STATUS_TEC 3) 9).setCan 3 { tx := [(2, wMsg), (2, { wMsg with id := 6 })], latched := some 2, inMsg := true, sof := 5 }, by decide +kernel⟩

theorem wit_CanTransmission_4 : ∃ (ini : Initiator) (c : Fin 16) (f : Fin 4) (x : Nat × CanMsg) (s : State), (s.wf = true) ∧ (s.mayWrite ini (CAN.CANCEL_CMD_OP c).addr = true) ∧ (s.bit (CAN.CANCEL_STATUS_BUSY c) = false) ∧ ((s.can c).tx.find? (fun x => x.1 == (f : Nat) && s.cancelNames c x.2) = some x) ∧ ((s.can c).latched ≠ some (f : Nat)) :=
  ⟨.hart0, 3, 2, (2, { wMsg with id := 6 }), (wRun.set (CAN.CANCEL_ID_ID 3) 6).setCan 3 { tx := [(2, wMsg), (2, { wMsg with id := 6 })], latched := none, inMsg := false, sof := 5 }, by decide +kernel⟩

theorem wit_CanTransmission_5 : ∃ (ini : Initiator) (c : Fin 16) (f : Fin 4) (s : State), (s.wf = true) ∧ (s.mayWrite ini (CAN.CANCEL_CMD_OP c).addr = true) ∧ (s.bit (CAN.CANCEL_STATUS_BUSY c) = false) ∧ ((s.can c).tx.find? (fun x => x.1 == (f : Nat) && s.cancelNames c x.2) = none) :=
  ⟨.hart0, 3, 2, (wRun.set (CAN.CANCEL_ID_ID 3) 7).setCan 3 { tx := [(2, wMsg), (2, { wMsg with id := 6 })], latched := some 2, inMsg := false, sof := 5 }, by decide +kernel⟩

theorem wit_CanTransmission_6 : ∃ (ini : Initiator) (c : Fin 16) (f : Fin 4) (s : State), (s.wf = true) ∧ (s.mayWrite ini (CAN.CANCEL_CMD_OP c).addr = true) ∧ (s.bit (CAN.CANCEL_STATUS_BUSY c) = false) ∧ ((s.can c).fifo f ≠ []) ∧ ((s.can c).latched ≠ some (f : Nat)) :=
  ⟨.hart0, 3, 2, wRun.setCan 3 { tx := [(2, wMsg), (2, { wMsg with id := 6 })], latched := none, inMsg := false, sof := 5 }, by decide +kernel⟩

theorem wit_GatewayEngine_1 : ∃ (c : Fin 16) (r : CanRx) (s : State), (s.wf = true) ∧ (s.flowing = true) ∧ (s.frames = []) ∧ (s.gwe.hand = none) ∧ ((s.can c).rx = [r]) ∧ (r.check = 2) ∧ ((∀ q : Fin 16, q ≠ c → (s.can q).rx = [])) :=
  ⟨3, { msg := wMsg, sof := 77, check := 2 }, wRun.setCan 3 { rx := [{ msg := wMsg, sof := 77, check := 2 }], seq := 255 }, by decide +kernel⟩

theorem wit_GatewayEngine_2 : ∃ (p : Fin 16) (s : State), (s.wf = true) ∧ (s.flowing = true) ∧ (bitsOf (s.packW p 0) 31 31 = 1) ∧ ((s.pack p).msgs ≠ []) ∧ ((s.pack p).next ≤ s.nowQ) :=
  ⟨2, { wRun.setTw 10 3 0 2 0 0x80000000 with gwe := { wRun.gwe with packs := [(2, { msgs := [zeros 16], seq := 255 })] } }, by decide +kernel⟩

theorem wit_GatewayEngine_3 : ∃ (s : State), (s.gwe.waitQ = []) :=
  ⟨wRun, by decide +kernel⟩

theorem wit_GatewayEngine_4 : ∃ (c : Nat) (e : Nat) (v : Nat) (s : State), (s.wf = true) ∧ (s.pllLost 0 = false) ∧ (s.gwe.waitQ = [.inbound c e v]) ∧ (s.laCount 0 < 128) ∧ (s.laCheck (s.gwRequest (.inbound c e v)) = 0) ∧ (s.gwe.hand = none) ∧ ((∀ q : Fin 16, (s.can q).rx = [])) :=
  ⟨3, 7, 1, { ((wRun.setTw 10 1 0 7 2 5).setTw 10 1 0 7 1 0x80000).setTw 12 0 0 5 8 0x80002004 with gwe := { wRun.gwe with waitQ := [.inbound 3 7 1] } }, by decide +kernel⟩

theorem wit_GatewayEngine_5 : ∃ (ini : Initiator) (cmd : Word) (ecc : EccState) (s : State), (s.wf = true) ∧ (s.mayWrite ini GWE.TBL_CMD = true) ∧ (s.ownsTable 4 ini = true) ∧ (bitsOf cmd 31 28 ≤ 3) ∧ (bitsOf cmd 9 0 < (gweSize (bitsOf cmd 31 28)).2) ∧ (ecc ≠ .uncorrectable) :=
  ⟨.hart0, 0x21000005, .corrected, wRun.setTw 10 2 0 5 1 9, by decide +kernel⟩

theorem wit_GatewayEngine_6 : ∃ (ini : Initiator) (cmd : Word) (s : State), (s.wf = true) ∧ (s.mayWrite ini GWE.TBL_CMD = true) ∧ (s.ownsTable 4 ini = true) ∧ (bitsOf cmd 31 28 = 0) ∧ ((∀ w : Fin 4, legalWord (s.rd (GWE.TBL_DATA w)) (gweMask 0 w false) = true)) ∧ (bitsOf (s.rd (GWE.TBL_DATA 0)) 30 29 < 2) :=
  ⟨.hart0, 0x02000005, wRun.wr (GWE.TBL_DATA 0) 0x80000003, by decide +kernel⟩

theorem wit_GatewayEngine_7 : ∃ (ini : Initiator) (s : State), (s.mayRead ini GWE.EVQ_DATA = true) :=
  ⟨.hart0, { wRun with gwe := { wRun.gwe with evq := [7, 8] } }, by decide +kernel⟩

theorem wit_KeyCommands_1 : ∃ (ini : Initiator) (k : BitVec 10) (s : State), (s.wf = true) ∧ (s.mayWrite ini KEY.KEY_CMD = true) ∧ (s.bit KEY.KEY_STATUS_BUSY = false) ∧ (s.zeroizing = false) ∧ (s.destCheck k.toNat false = 0) :=
  ⟨.sec, 5, wRun.wr KEY.KEY_ATTR_IN 0x80000001, by decide +kernel⟩

theorem wit_KeyCommands_2 : ∃ (ini : Initiator) (k : BitVec 10) (s : State), (s.wf = true) ∧ (s.mayWrite ini KEY.KEY_CMD = true) ∧ (s.bit KEY.KEY_STATUS_BUSY = false) ∧ (s.zeroizing = false) ∧ (s.destCheck k.toNat false ≠ 0) :=
  ⟨.sec, 0, wRun, by decide +kernel⟩

theorem wit_KeyCommands_3 : ∃ (ini : Initiator) (s : State), (s.wf = true) ∧ (s.mayWrite ini KEY.KEY_CMD = true) ∧ (s.bit KEY.KEY_STATUS_BUSY = false) ∧ (s.zeroizing = false) :=
  ⟨.sec, wRun, by decide +kernel⟩

theorem wit_KeyCommands_4 : ∃ (ini : Initiator) (k : BitVec 10) (a : Word) (s : State), (s.wf = true) ∧ (s.mayWrite ini KEY.KEY_CMD = true) ∧ (s.bit KEY.KEY_STATUS_BUSY = false) ∧ (s.zeroizing = false) ∧ (a = s.rd KEY.KEY_ATTR_IN) ∧ (s.get KEY.KDF_CFG_LABEL_LEN ≤ 16) ∧ (s.get KEY.KDF_CFG_CTX_LEN ≤ 32) ∧ (s.destCheck k.toNat false = 0) ∧ (s.srcCheck 0x40 = 0) :=
  ⟨.sec, 5, 0x80000000, ((wRun.wr KEY.KEY_ATTR_IN 0x80000000).set KEY.KEY_SRC_SRC 6).setTw 12 0 0 6 8 0x80000060, by decide +kernel⟩

theorem wit_KeyCommands_5 : ∃ (ini : Initiator) (s : State), (s.wf = true) ∧ (s.mayWrite ini KEY.KEY_CMD = true) ∧ (s.bit KEY.KEY_STATUS_BUSY = false) ∧ (s.zeroizing = false) :=
  ⟨.sec, wRun, by decide +kernel⟩

theorem wit_KeyCommands_6 : ∃ (ini : Initiator) (k : BitVec 10) (a : Word) (s : State), (s.wf = true) ∧ (s.mayWrite ini KEY.KEY_CMD = true) ∧ (s.bit KEY.KEY_STATUS_BUSY = false) ∧ (s.zeroizing = false) ∧ (a = s.rd KEY.KEY_ATTR_IN) ∧ (s.destCheck k.toNat false = 0) ∧ (s.srcCheck 0x60 = 0) :=
  ⟨.sec, 5, 0x80000000, ((wRun.wr KEY.KEY_ATTR_IN 0x80000000).set KEY.KEY_SRC_SRC 6).setTw 12 0 0 6 8 0x80000060, by decide +kernel⟩

theorem wit_KeyCommands_7 : ∃ (ini : Initiator) (s : State), (s.wf = true) ∧ (s.mayWrite ini KEY.KEY_CMD = true) ∧ (s.bit KEY.KEY_STATUS_BUSY = false) ∧ (s.zeroizing = false) :=
  ⟨.sec, wRun, by decide +kernel⟩

theorem wit_KeyCommands_8 : ∃ (ini : Initiator) (k : BitVec 10) (s : State), (s.wf = true) ∧ (s.mayWrite ini KEY.KEY_CMD = true) ∧ (s.bit KEY.KEY_STATUS_BUSY = false) ∧ (s.zeroizing = false) ∧ (k ≠ 0) :=
  ⟨.sec, 5, wRun.setTw 12 0 0 5 8 7, by decide +kernel⟩

theorem wit_KeyCommands_9 : ∃ (ini : Initiator) (k : BitVec 10) (s : State), (s.wf = true) ∧ (s.mayWrite ini KEY.KEY_CMD = true) ∧ (s.bit KEY.KEY_STATUS_BUSY = false) ∧ (s.zeroizing = false) ∧ (bitsOf (s.attr k.toNat) 31 31 = 1) ∧ (k ≠ 0) :=
  ⟨.sec, 5, wRun.setTw 12 0 0 5 8 0x80000001, by decide +kernel⟩

theorem wit_KeyCommands_10 : ∃ (ini : Initiator) (s : State), (s.wf = true) ∧ (s.mayWrite ini KEY.KEY_CMD = true) ∧ (s.bit KEY.KEY_STATUS_BUSY = false) ∧ (s.zeroizing = false) :=
  ⟨.sec, wRun.setTw 12 0 0 5 8 0x80000001, by decide +kernel⟩

theorem wit_KeyCommands_11 : ∃ (ini : Initiator) (s : State), (s.wf = true) ∧ (s.mayWrite ini KEY.KEY_CMD = true) ∧ (s.bit KEY.KEY_STATUS_BUSY = true) :=
  ⟨.sec, wRun.setBit KEY.KEY_STATUS_BUSY true, by decide +kernel⟩

theorem wit_KeyCommands_12 : ∃ (ini : Initiator) (s : State), (s.wf = true) ∧ (s.mayWrite ini KEY.KEY_CMD = true) ∧ (s.bit KEY.KEY_STATUS_BUSY = false) ∧ (s.zeroizing = true) :=
  ⟨.sec, wRun.setBit KEY.KEY_STATUS_ZEROIZING true, by decide +kernel⟩

theorem wit_KeyCommands_13 : ∃ (ini : Initiator) (s : State), (s.wf = true) ∧ (s.mayWrite ini KEY.KEY_CMD = true) ∧ (s.bit KEY.KEY_STATUS_BUSY = false) ∧ (s.zeroizing = false) :=
  ⟨.sec, wRun, by decide +kernel⟩

theorem wit_KeyCommands_14 : ∃ (r : KeyRun) (ws : List Word) (s : State), (s.wf = true) ∧ (s.key.run = some r) ∧ (r.store = some ws) ∧ (ws.length = 9) ∧ (r.slot < 1024) ∧ (r.op = 1) ∧ (r.res = 0) ∧ (s.refs r.slot = 0) :=
  ⟨{ op := 1, slot := 5, res := 0, store := some [1, 2, 3, 4, 5, 6, 7, 8, 9] }, [1, 2, 3, 4, 5, 6, 7, 8, 9], { wRun.wr (KEY.KEY_DATA 9) 7 with key := { wRun.key with run := some { op := 1, slot := 5, res := 0, store := some [1, 2, 3, 4, 5, 6, 7, 8, 9] } } }, by decide +kernel⟩

theorem wit_KeyCommands_15 : ∃ (r : KeyRun) (ws : List Word) (s : State), (s.wf = true) ∧ (s.key.run = some r) ∧ (r.store = some ws) ∧ (ws.length = 9) ∧ (r.slot < 1024) ∧ (r.op = 2 ∨ r.op = 3) ∧ (r.res = 0) ∧ (s.refs r.slot = 0) :=
  ⟨{ op := 2, slot := 5, res := 0, store := some [1, 2, 3, 4, 5, 6, 7, 8, 9] }, [1, 2, 3, 4, 5, 6, 7, 8, 9], { wRun with key := { wRun.key with run := some { op := 2, slot := 5, res := 0, store := some [1, 2, 3, 4, 5, 6, 7, 8, 9] } } }, by decide +kernel⟩

theorem wit_KeyCommands_16 : ∃ (r : KeyRun) (s : State), (s.wf = true) ∧ (s.key.run = some r) ∧ (1 ≤ r.op) ∧ (r.op ≤ 4) ∧ (r.res = 0) ∧ (0 < s.refs r.slot) :=
  ⟨{ op := 1, slot := 5, res := 0, store := some [1, 2, 3, 4, 5, 6, 7, 8, 9] }, { wRun.setTw 12 0 0 5 9 1 with key := { wRun.key with run := some { op := 1, slot := 5, res := 0, store := some [1, 2, 3, 4, 5, 6, 7, 8, 9] } } }, by decide +kernel⟩

theorem wit_KeyCommands_17 : ∃ (r : KeyRun) (s : State), (s.wf = true) ∧ (s.key.run = some r) ∧ (r.store = none) ∧ (r.op = 6) ∧ (r.res = 0) :=
  ⟨{ op := 6, slot := 5, res := 0, store := none }, { (wRun.setTw 12 0 0 5 8 7).setTw 12 0 0 5 9 4 with key := { wRun.key with run := some { op := 6, slot := 5, res := 0, store := none } } }, by decide +kernel⟩

theorem wit_KeyCommands_18 : ∃ (s : State), (s.wf = true) ∧ (s.zeroizing = true) ∧ (s.copies = []) :=
  ⟨wRun.setBit KEY.KEY_STATUS_ZEROIZING true, by decide +kernel⟩

theorem wit_LifeCycleAndOtp_1 : ∃ (ini : Initiator) (w : Word) (s : State), (s.wf = true) ∧ (s.mayWrite ini KEY.LC_CMD = true) ∧ (s.bit KEY.OTP_STATUS_BUSY = false) ∧ (bitsOf w 31 16 ≠ 0x4C43) ∧ (s.copies = []) :=
  ⟨.sec, 3, wRun, by decide +kernel⟩

theorem wit_LifeCycleAndOtp_2 : ∃ (ini : Initiator) (w : Word) (s : State), (s.wf = true) ∧ (s.mayWrite ini KEY.LC_CMD = true) ∧ (s.bit KEY.OTP_STATUS_BUSY = false) ∧ (bitsOf w 31 16 = 0x4C43) ∧ (lcNext (s.get KEY.LC_STATUS_LC_STATE) = some (bitsOf w 2 0)) ∧ (bitsOf w 2 0 ≠ 7 ∨ s.key.authSec = true) ∧ (s.copies = []) ∧ (s.frames = []) :=
  ⟨.sec, 0x4C430003, (wRun.set KEY.LC_STATUS_LC_STATE 1).setTw 12 0 0 5 8 7, by decide +kernel⟩

theorem wit_LifeCycleAndOtp_3 : ∃ (ini : Initiator) (w : Word) (s : State), (s.wf = true) ∧ (s.mayWrite ini KEY.OTP_CMD = true) ∧ (s.bit KEY.OTP_STATUS_BUSY = false) ∧ (bitsOf w 31 16 = 0x4F54) ∧ (s.key.arb < bitsOf w 14 8) ∧ (bitsOf w 14 8 ≤ 64) :=
  ⟨.sec, 0x4F540300, wRun, by decide +kernel⟩

theorem wit_LifeCycleAndOtp_4 : ∃ (ini : Initiator) (w : Word) (s : State), (s.wf = true) ∧ (s.mayWrite ini KEY.OTP_CMD = true) ∧ (s.bit KEY.OTP_STATUS_BUSY = false) ∧ (bitsOf w 31 16 = 0x4F54) ∧ (s.key.split < 3) :=
  ⟨.sec, 0x4F540000, wRun, by decide +kernel⟩

theorem wit_LifeCycleAndOtp_5 : ∃ (ini : Initiator) (w : Word) (s : State), (s.wf = true) ∧ (s.mayWrite ini KEY.OTP_CMD = true) ∧ (s.bit KEY.OTP_STATUS_BUSY = false) ∧ (bitsOf w 31 16 = 0x4F54) ∧ (3 ≤ s.key.split) :=
  ⟨.sec, 0x4F540000, { wRun with key := { wRun.key with split := 3 } }, by decide +kernel⟩

theorem wit_LifeCycleAndOtp_6 : ∃ (ini : Initiator) (w : Word) (s : State), (s.wf = true) ∧ (s.mayWrite ini KEY.LC_CMD = true) ∧ (s.bit KEY.OTP_STATUS_BUSY = false) ∧ (bitsOf w 31 16 = 0x4C43) ∧ (lcNext (s.get KEY.LC_STATUS_LC_STATE) ≠ some (bitsOf w 2 0) ∨ bitsOf w 2 0 = 7 ∧ s.key.authSec = false) ∧ (s.copies = []) :=
  ⟨.sec, 0x4C430007, wRun.set KEY.LC_STATUS_LC_STATE 1, by decide +kernel⟩

theorem wit_LifeCycleAndOtp_7 : ∃ (s : State), (s.wf = true) ∧ (s.key.otp = some (.lc 7)) ∧ (s.upd.run = none) ∧ (s.upd.arbDue = false) :=
  ⟨{ wRun with key := { wRun.key with otp := some (.lc 7), lc := 3 } }, by decide +kernel⟩

theorem wit_LifeCycleAndOtp_8 : ∃ (x : BitVec 3) (s : State), (s.wf = true) ∧ (s.key.otp = some (.lc x)) ∧ (x ≠ 7) ∧ (s.upd.run = none) ∧ (s.upd.arbDue = false) :=
  ⟨3, { wRun with key := { wRun.key with otp := some (.lc 3) } }, by decide +kernel⟩

theorem wit_LifeCycleAndOtp_9 : ∃ (n : Nat) (s : State), (s.wf = true) ∧ (s.key.otp = some (.arb n)) ∧ (s.key.arb < 64) ∧ (s.upd.run = none) ∧ (s.upd.arbDue = false) :=
  ⟨2, { wRun with key := { wRun.key with otp := some (.arb 2) } }, by decide +kernel⟩

theorem wit_LifeCycleAndOtp_10 : ∃ (r : OtpRun) (s : State), (s.wf = true) ∧ (s.key.otp = some r) ∧ (s.upd.run = none) ∧ (s.upd.arbDue = false) :=
  ⟨.split, { wRun with key := { wRun.key with otp := some (.split) } }, by decide +kernel⟩

theorem wit_LifeCycleAndOtp_11 : ∃ (s : State), (s.wf = true) ∧ (s.stage = 0) ∧ (s.wak.power = .active) ∧ (s.key.arb < 128) :=
  ⟨State.reset, by decide +kernel⟩

theorem wit_CipherTables_1 : ∃ (ini : Initiator) (cmd : Word) (ecc : EccState) (s : State), (s.wf = true) ∧ (s.mayWrite ini CPH.TBL_CMD = true) ∧ (s.ownsTable 5 ini = true) ∧ (bitsOf cmd 31 28 ≤ 1) ∧ ((bitsOf cmd 31 28 = 0 → bitsOf cmd 8 0 < 128)) ∧ (ecc ≠ .uncorrectable) :=
  ⟨.hart0, 0x01000005, .ok, wRun.setTw 11 0 0 5 3 9, by decide +kernel⟩

theorem wit_CipherTables_2 : ∃ (ini : Initiator) (cmd : Word) (ecc : EccState) (s : State), (s.wf = true) ∧ (s.mayWrite ini CPH.TBL_CMD = true) ∧ (s.ownsTable 5 ini = true) ∧ (bitsOf cmd 31 28 = 2) ∧ (ecc ≠ .uncorrectable) :=
  ⟨.hart0, 0x21000005, .ok, wRun.setTw 11 2 0 5 7 9, by decide +kernel⟩

theorem wit_CipherTables_3 : ∃ (ini : Initiator) (cmd : Word) (s : State), (s.wf = true) ∧ (s.mayWrite ini CPH.TBL_CMD = true) ∧ (s.ownsTable 5 ini = true) ∧ (bitsOf cmd 31 28 ≤ 1) ∧ ((bitsOf cmd 31 28 = 0 → bitsOf cmd 8 0 < 128)) :=
  ⟨.hart0, 0x11000005, wRun, by decide +kernel⟩

theorem wit_CipherTables_4 : ∃ (ini : Initiator) (cmd : Word) (s : State), (s.wf = true) ∧ (s.mayWrite ini CPH.TBL_CMD = true) ∧ (s.ownsTable 5 ini = true) ∧ (bitsOf cmd 31 28 = 0) ∧ (bitsOf cmd 8 0 < 128) ∧ ((∀ w : Fin 4, legalWord (s.rd (CPH.TBL_DATA w)) (scMask (bitsOf cmd 8 0) w) = true)) :=
  ⟨.hart0, 0x02000005, wRun.wr (CPH.TBL_DATA 0) 0x80000000, by decide +kernel⟩

theorem wit_CipherTables_5 : ∃ (ini : Initiator) (cmd : Word) (idx : Nat) (slot : Nat) (s : State), (s.wf = true) ∧ (s.mayWrite ini CPH.TBL_CMD = true) ∧ (s.ownsTable 5 ini = true) ∧ (bitsOf cmd 31 28 = 1) ∧ (idx = bitsOf cmd 8 0) ∧ (slot = bitsOf (s.rd (CPH.TBL_DATA 0)) 9 0) ∧ ((∀ w : Fin 8, legalWord (s.rd (CPH.TBL_DATA w)) (saMask (txSa idx) (s.xpn (idx / 32)) w) = true)) ∧ (bitsOf (s.saW idx 0) 31 31 = 0) ∧ (bitsOf (s.rd (CPH.TBL_DATA 0)) 31 31 = 1) ∧ (s.keyGrants slot 0 12 = true) ∧ (bitsOf (s.attr slot) 30 30 = s.get (CPH.PORT_SEC_CFG_SUITE (idx / 32)) % 2) ∧ (s.refs slot < 4294967295) :=
  ⟨.hart0, 0x12000004, 4, 5, ((wRun.wr (CPH.TBL_DATA 0) 0x80000005).wr (CPH.TBL_DATA 5) 77).setTw 12 0 0 5 8 0x80001001, by decide +kernel⟩

theorem wit_CipherTables_6 : ∃ (ini : Initiator) (cmd : Word) (idx : Nat) (slot : Nat) (s : State), (s.wf = true) ∧ (s.mayWrite ini CPH.TBL_CMD = true) ∧ (s.ownsTable 5 ini = true) ∧ (bitsOf cmd 31 28 = 1) ∧ (idx = bitsOf cmd 8 0) ∧ (slot = bitsOf (s.rd (CPH.TBL_DATA 0)) 9 0) ∧ ((∀ w : Fin 8, legalWord (s.rd (CPH.TBL_DATA w)) (saMask (txSa idx) (s.xpn (idx / 32)) w) = true)) ∧ (bitsOf (s.saW idx 0) 31 31 = 0) ∧ (bitsOf (s.rd (CPH.TBL_DATA 0)) 31 31 = 1) ∧ (s.keyGrants slot 0 12 = false) :=
  ⟨.hart0, 0x12000004, 4, 5, wRun.wr (CPH.TBL_DATA 0) 0x80000005, by decide +kernel⟩

theorem wit_CipherTables_7 : ∃ (fid : Nat) (f : Frame) (x : SecRx) (s : State), (s.wf = true) ∧ (s.frame? fid = some f) ∧ (f.fid = fid) ∧ (f.sec = some x) ∧ (f.icvWait = true) ∧ (f.unverified = false) ∧ (f.inPort < 14) ∧ (f.icvOk = true) ∧ (x.sa < 512) ∧ (x.pn + 1 < 2 ^ 64) ∧ (s.stalled = false) ∧ (s.copies.filter Copy.endsNow = []) :=
  ⟨5, { wFrame with icvWait := true, raw := (zeros 12 ++ [122, 58, 242, 194, 108, 7, 43, 18, 248, 136, 2, 27, 131, 122, 86, 124]), sec := some { off := 0, len := 12, sa := 5, pn := 9, key := zeros 16, iv := zeros 12, enc := false, conf := 0 } }, { off := 0, len := 12, sa := 5, pn := 9, key := zeros 16, iv := zeros 12, enc := false, conf := 0 }, { wRun.setTw 11 2 0 5 0 0xFFFFFFFF with frames := [{ wFrame with icvWait := true, raw := (zeros 12 ++ [122, 58, 242, 194, 108, 7, 43, 18, 248, 136, 2, 27, 131, 122, 86, 124]), sec := some { off := 0, len := 12, sa := 5, pn := 9, key := zeros 16, iv := zeros 12, enc := false, conf := 0 } }], copies := [{ wCopy with st := .queued }] }, by decide +kernel⟩

theorem wit_CipherTables_8 : ∃ (fid : Nat) (f : Frame) (x : SecRx) (s : State), (s.wf = true) ∧ (s.frame? fid = some f) ∧ (f.fid = fid) ∧ (f.sec = some x) ∧ (f.icvWait = true) ∧ (f.unverified = false) ∧ (f.handle = none) ∧ (f.icvOk = false) ∧ (x.sa < 512) ∧ (s.stalled = false) ∧ (s.copies.filter Copy.endsNow = []) ∧ ((∀ c ∈ s.copies, c.fid ≠ fid)) :=
  ⟨5, { wFrame with icvWait := true, raw := zeros 28, sec := some { off := 0, len := 12, sa := 5, pn := 9, key := zeros 16, iv := zeros 12, enc := false, conf := 0, lost := true } }, { off := 0, len := 12, sa := 5, pn := 9, key := zeros 16, iv := zeros 12, enc := false, conf := 0, lost := true }, { wRun.setTw 11 2 0 5 2 0xFFFFFFFF with frames := [{ wFrame with icvWait := true, raw := zeros 28, sec := some { off := 0, len := 12, sa := 5, pn := 9, key := zeros 16, iv := zeros 12, enc := false, conf := 0, lost := true } }], copies := [{ wCopy with fid := 4 }] }, by decide +kernel⟩

theorem wit_LookAside_1 : ∃ (ini : Initiator) (s : State), (s.wf = true) ∧ (s.mayWrite ini CPH.LA_SUBMIT = true) ∧ (64 ≤ s.laCount 1) :=
  ⟨.hart0, { wRun with la := { wRun.la with reqs := List.replicate 64 { who := 1, words := [], key := [], imm := [] } } }, by decide +kernel⟩

theorem wit_LookAside_2 : ∃ (ini : Initiator) (r : LaReq) (s : State), (s.wf = true) ∧ (s.mayWrite ini CPH.LA_SUBMIT = true) ∧ (r = { who := 1, words := s.window (CPH.LA_REQ 0) 8, key := [], imm := wordOctets (s.window (CPH.LA_REQ 8) 24) }) ∧ (s.laCount 1 < 64) ∧ (s.laPosted 1 < 64) ∧ (r.src = 0) ∧ (s.laCheck r ≠ 0) :=
  ⟨.hart0, { who := 1, words := (wRun).window (CPH.LA_REQ 0) 8, key := [], imm := wordOctets ((wRun).window (CPH.LA_REQ 8) 24) }, wRun, by decide +kernel⟩

theorem wit_LookAside_3 : ∃ (ini : Initiator) (r : LaReq) (s : State), (s.wf = true) ∧ (s.mayWrite ini CPH.SEC_LA_SUBMIT = true) ∧ (r = { who := 2, words := s.window (CPH.SEC_LA_REQ 0) 8, key := [], imm := wordOctets (s.window (CPH.SEC_LA_REQ 8) 24) }) ∧ (s.laCount 2 < 64) ∧ (r.src = 0) ∧ (s.laCheck r = 0) :=
  ⟨.sec, { who := 2, words := (((((wRun.wr (CPH.SEC_LA_REQ 0) 0x10C00005).wr (CPH.SEC_LA_REQ 1) 0x00071000).wr (CPH.SEC_LA_REQ 2) 8).setTw 12 0 0 5 8 0x80008002)).window (CPH.SEC_LA_REQ 0) 8, key := [], imm := wordOctets ((((((wRun.wr (CPH.SEC_LA_REQ 0) 0x10C00005).wr (CPH.SEC_LA_REQ 1) 0x00071000).wr (CPH.SEC_LA_REQ 2) 8).setTw 12 0 0 5 8 0x80008002)).window (CPH.SEC_LA_REQ 8) 24) }, ((((wRun.wr (CPH.SEC_LA_REQ 0) 0x10C00005).wr (CPH.SEC_LA_REQ 1) 0x00071000).wr (CPH.SEC_LA_REQ 2) 8).setTw 12 0 0 5 8 0x80008002), by decide +kernel⟩

theorem wit_LookAside_4 : ∃ (ini : Initiator) (r : LaReq) (fid : Nat) (s : State), (s.wf = true) ∧ (s.mayWrite ini CPH.LA_SUBMIT = true) ∧ (r = { who := 1, words := s.window (CPH.LA_REQ 0) 8, key := [], imm := wordOctets (s.window (CPH.LA_REQ 8) 24) }) ∧ (s.laCount 1 < 64) ∧ (s.laPosted 1 < 64) ∧ (s.laWaits r = some fid) :=
  ⟨.hart0, { who := 1, words := ({ (((wRun.wr (CPH.LA_REQ 0) 0x14000005).wr (CPH.LA_REQ 1) 0x00071000).wr (CPH.LA_REQ 2) 8) with frames := [{ wFrame with unverified := true, tail := false, sec := some { off := 12, len := 8, sa := 0, pn := 1, key := [], iv := [], enc := false, conf := 0 } }], bsn := { bufs := [{ slice := 0, pool := 0, idx := 0, owner := 0x20000, taken := true, fid := 5 }] } }).window (CPH.LA_REQ 0) 8, key := [], imm := wordOctets (({ (((wRun.wr (CPH.LA_REQ 0) 0x14000005).wr (CPH.LA_REQ 1) 0x00071000).wr (CPH.LA_REQ 2) 8) with frames := [{ wFrame with unverified := true, tail := false, sec := some { off := 12, len := 8, sa := 0, pn := 1, key := [], iv := [], enc := false, conf := 0 } }], bsn := { bufs := [{ slice := 0, pool := 0, idx := 0, owner := 0x20000, taken := true, fid := 5 }] } }).window (CPH.LA_REQ 8) 24) }, 5, { (((wRun.wr (CPH.LA_REQ 0) 0x14000005).wr (CPH.LA_REQ 1) 0x00071000).wr (CPH.LA_REQ 2) 8) with frames := [{ wFrame with unverified := true, tail := false, sec := some { off := 12, len := 8, sa := 0, pn := 1, key := [], iv := [], enc := false, conf := 0 } }], bsn := { bufs := [{ slice := 0, pool := 0, idx := 0, owner := 0x20000, taken := true, fid := 5 }] } }, by decide +kernel⟩

theorem wit_LookAside_5 : ∃ (idx : Nat) (r : LaReq) (s : State), (s.wf = true) ∧ (s.la.reqs[idx]? = some r) ∧ (r.who = 1) ∧ (s.laPosted 1 < 64) ∧ (r.src ≠ 1) ∧ (r.job = none) ∧ (r.killed = true) ∧ (s.pllLost 0 = false) ∧ (s.gwe.hand = none) ∧ ((∀ q : Fin 16, (s.can q).rx = [])) :=
  ⟨0, { who := 1, words := [], key := [], imm := [], killed := true }, { wRun with la := { wRun.la with reqs := [{ who := 1, words := [], key := [], imm := [], killed := true }] } }, by decide +kernel⟩

theorem wit_LookAside_6 : ∃ (idx : Nat) (ecc : EccState) (r : LaReq) (s : State), (s.wf = true) ∧ (s.la.reqs[idx]? = some r) ∧ (r.who = 2) ∧ (s.laPosted 2 < 64) ∧ (s.laStarted idx r = true) ∧ (r.src = 0) ∧ (r.job = none) ∧ (r.killed = false) ∧ (r.op = 1) ∧ (r.ctr = none) ∧ (ecc ≠ .uncorrectable) ∧ (s.pllLost 0 = false) ∧ (s.gwe.hand = none) ∧ ((∀ q : Fin 16, (s.can q).rx = [])) :=
  ⟨1, .ok, { who := 2, words := [0x10000005, 0x00071000, 8], key := zeros 16, imm := zeros 96 }, { wRun with la := { wRun.la with reqs := [{ who := 1, words := [], key := [], imm := [], killed := true }, { who := 2, words := [0x10000005, 0x00071000, 8], key := zeros 16, imm := zeros 96 }] } }, by decide +kernel⟩

theorem wit_LookAside_7 : ∃ (ini : Initiator) (s : State), (s.wf = true) ∧ (s.mayRead ini (CPH.LA_RES 7) = true) ∧ ((s.la.owed.find? fun x => x.1 == 1) = none) :=
  ⟨.hart0, { wRun with la := { wRun.la with resCtrl := [[1, 2, 3, 4, 5, 6, 7, 8]] } }, by decide +kernel⟩

theorem wit_LookAside_8 : ∃ (ini : Initiator) (x : Nat × List Word) (s : State), (s.wf = true) ∧ (s.mayRead ini (CPH.LA_RES 7) = true) ∧ ((s.la.owed.find? fun x => x.1 == 1) = some x) ∧ (s.la.resCtrl.length ≤ 64) ∧ (x.1 = 1) :=
  ⟨.hart0, (1, [1, 2, 3, 4, 5, 6, 7, 8]), { wRun with la := { wRun.la with owed := [(1, [1, 2, 3, 4, 5, 6, 7, 8])] } }, by decide +kernel⟩

theorem wit_LookAside_9 : ∃ (ini : Initiator) (c : Fin 16) (w : Word) (lo : Word) (s : State), (s.wf = true) ∧ (s.mayWrite ini (CPH.LA_CTR_HI c) = true) ∧ (lo = assocD s.la.staged c 0) ∧ (s.laCtr c < w.toNat * 4294967296 + lo.toNat) :=
  ⟨.hart0, 3, 1, 5, { wRun with la := { wRun.la with staged := [(3, 5)] } }, by decide +kernel⟩

theorem wit_LookAside_10 : ∃ (ini : Initiator) (c : Fin 16) (w : Word) (lo : Word) (s : State), (s.wf = true) ∧ (s.mayWrite ini (CPH.LA_CTR_HI c) = true) ∧ (lo = assocD s.la.staged c 0) ∧ (w.toNat * 4294967296 + lo.toNat ≤ s.laCtr c) :=
  ⟨.hart0, 3, 0, 0, wRun, by decide +kernel⟩

theorem wit_PairHeartbeats_1 : ∃ (s : State), (s.wf = true) ∧ (s.pairEn = true) ∧ (s.bit TWP.TWP_CTRL_LINE_EN = true) ∧ (s.bit SYS.SYS_STATUS_REFCLK_OK = true) :=
  ⟨wPair.setBit SYS.SYS_STATUS_REFCLK_OK true, by decide +kernel⟩

theorem wit_PairHeartbeats_2 : ∃ (w : BitVec 48) (s : State), (s.wf = true) ∧ (s.pairEn = true) ∧ (s.bit TWP.TWP_CTRL_LINE_EN = true) ∧ (w.toNat % 256 ≠ lineCrc (w.toNat / 256 % 4294967296)) :=
  ⟨1, wPair, by decide +kernel⟩

theorem wit_PairHeartbeats_3 : ∃ (w : BitVec 48) (c : Nat) (k : Nat) (s : State), (s.wf = true) ∧ (s.pairEn = true) ∧ (s.bit TWP.TWP_CTRL_LINE_EN = true) ∧ (w.toNat / 1099511627776 = 0xD5) ∧ (w.toNat % 256 = lineCrc (w.toNat / 256 % 4294967296)) ∧ (c = w.toNat / 16777216 % 65536) ∧ (claimRank c = 4) ∧ (claimRank s.ownClaim = 4) ∧ ((s.planOpen.any fun x => x != c) = false) ∧ (s.twp.cycle = some k) ∧ (w.toNat / 65536 % 256 = k % 256) ∧ (s.nowQ ≤ s.pairT k + s.graceUs * usQ) :=
  ⟨(wLine (0x4003 * 65536 + 5 * 256)), 0x4003, 5, { wPair with twp := { wPair.twp with cycle := some 5 } }, by decide +kernel⟩

theorem wit_PairHeartbeats_4 : ∃ (w : BitVec 48) (c : Nat) (s : State), (s.wf = true) ∧ (s.pairEn = true) ∧ (s.bit TWP.TWP_CTRL_LINE_EN = true) ∧ (w.toNat / 1099511627776 = 0xD5) ∧ (w.toNat % 256 = lineCrc (w.toNat / 256 % 4294967296)) ∧ (c = w.toNat / 16777216 % 65536) ∧ (claimRank c = 0) ∧ (claimRank s.ownClaim = 4) ∧ (claimRank s.peerClaim ≠ 0) ∧ (s.copies = []) :=
  ⟨(wLine (1 * 65536)), 1, wPair, by decide +kernel⟩

theorem wit_PairHeartbeats_5 : ∃ (h : TwHead) (ws : List Word) (n : Nat) (u : State) (s : State), (s.wf = true) ∧ (s.copies = []) ∧ (s.twTake 0 h = some u) ∧ (u.twp.cycle = some n) ∧ (n < 4294967296) ∧ (ws.getD 0 0 = word n) ∧ (s.nowQ ≤ u.pairT n + u.graceUs * usQ) :=
  ⟨wHead, [5, 0x40010000, 125, 0, 7, 100, 200, 9], 5, wTook ({ wPair with twp := { wPair.twp with cycle := some 5 } }) 0, { wPair with twp := { wPair.twp with cycle := some 5 } }, by decide +kernel⟩

theorem wit_PairHeartbeats_6 : ∃ (s : State), (s.wf = true) ∧ (s.pairEn = true) ∧ (s.twp.due = true) ∧ (s.lastT + s.graceUs * usQ ≤ s.nowQ) ∧ ([0, 1, 2].any s.pathOn = true) ∧ ((∀ p : Fin 3, s.pathOn p = true → p.val ∈ s.twp.paths)) :=
  ⟨{ wPair with tim := { wRun.tim with wt := 4294967296000000000 }, twp := { wPair.twp with due := true, cycle := some 0, paths := [0, 1, 2] } }, by decide +kernel⟩

theorem wit_PairHeartbeats_7 : ∃ (s : State), (s.wf = true) ∧ (s.pairEn = true) ∧ (s.twp.due = true) ∧ (s.lastT + s.graceUs * usQ ≤ s.nowQ) ∧ ((∀ p : Fin 3, s.pathOn p = true → p.val ∉ s.twp.paths)) ∧ (s.get TWP.PAIR_STATUS_MISSED = 0) :=
  ⟨{ wPair with tim := { wRun.tim with wt := 4294967296000000000 }, twp := { wPair.twp with due := true, cycle := some 0, paths := [] } }, by decide +kernel⟩

theorem wit_PairHeartbeats_8 : ∃ (s : State), (s.wf = true) ∧ (s.pairEn = true) ∧ (s.twp.due = true) ∧ (s.lastT + s.graceUs * usQ ≤ s.nowQ) ∧ ((∀ p : Fin 3, s.pathOn p = true → p.val ∉ s.twp.paths)) ∧ (1 ≤ s.get TWP.PAIR_STATUS_MISSED) ∧ (s.bit TWP.PAIR_STATUS_PEER_PRESENT = true ∨ s.peerClaim ≠ 0) ∧ (claimRank s.ownClaim = 4) ∧ (s.copies = []) :=
  ⟨{ (wPair.set TWP.PAIR_STATUS_MISSED 1).setBit TWP.PAIR_STATUS_PEER_PRESENT true with tim := { wRun.tim with wt := 4294967296000000000 }, twp := { wPair.twp with due := true, cycle := some 0, paths := [], swap := some { t := 5, epoch := 1, mine := false } } }, by decide +kernel⟩

theorem wit_PairHeartbeats_9 : ∃ (n : Nat) (s : State), (s.wf = true) ∧ (s.released = true) ∧ (s.pllLost 0 = false) ∧ (s.pairEn = true) ∧ (s.pairBase ≤ s.nowQ) ∧ (n = (s.nowQ - s.pairBase) / (s.pairUs * usQ)) ∧ (s.twp.cycle ≠ some n) ∧ (claimRank s.ownClaim = 4) ∧ (s.bit TWP.PAIR_STATUS_PEER_PRESENT = false) ∧ (s.twp.relAt + 2 * (s.pairUs * usQ) ≤ s.pairT n) ∧ (s.pairT n < s.twp.relAt + 3 * (s.pairUs * usQ)) :=
  ⟨2, { wPair with tim := { wPair.tim with wt := (2 * (wPair.pairUs * usQ) + 8) / 4 * 4294967296 } }, by decide +kernel⟩

theorem wit_PairHeartbeats_10 : ∃ (s : State), (s.wf = true) ∧ (s.pairEn = true) :=
  ⟨wPair, by decide +kernel⟩

theorem wit_PairHeartbeats_11 : ∃ (h : TwHead) (st : Fin 4) (u : State) (s : State), (s.wf = true) ∧ (s.twTake st h = some u) :=
  ⟨wHead, 0, wTook wPair 0, wPair, by decide +kernel⟩

theorem wit_PairHeartbeats_12 : ∃ (t0 : Nat) (f : List Word) (rest : List (Bool × Nat × List Word)) (s : State), (s.wf = true) ∧ (s.twp.resend = (false, t0, f) :: rest) ∧ (t0 + 2 * usQ ≤ s.nowQ) ∧ (s.twUp false = true) :=
  ⟨0, [1, 2], [], { wPair with tim := { wRun.tim with wt := 4294967296000000000 }, twp := { wPair.twp with resend := [(false, 0, [1, 2])] } }, by decide +kernel⟩

theorem wit_PairHeartbeats_13 : ∃ (t0 : Nat) (p : Fin 14) (f : List Word) (rest : List (Bool × Nat × List Word)) (s : State), (s.wf = true) ∧ (s.twp.resend = (true, t0, f) :: rest) ∧ (t0 + 2 * usQ ≤ s.nowQ) ∧ (s.twUp true = true) ∧ (s.get TWP.TWP_CTRL_NET_HB_PORT = (p : Nat)) ∧ (s.bit (MAC.PORT_STATUS_LINK p) = true) :=
  ⟨1, 0, [7], [], { (wPair.setBit TWP.TWP_CTRL_NET_HB_EN true).setBit (MAC.PORT_STATUS_LINK 0) true with twp := { wPair.twp with resend := [(true, 1, [7])] }, tim := { wRun.tim with ticks := 1000000000000, wt := 4294967296000000000000 } }, by decide +kernel⟩

theorem wit_PairStateCopy_1 : ∃ (h : TwHead) (u : State) (s : State), (s.wf = true) ∧ (s.twTake 2 h = some u) :=
  ⟨wHead, wTook wPair 2, wPair, by decide +kernel⟩

theorem wit_PairStateCopy_2 : ∃ (h : TwHead) (ws : List Word) (u : State) (s : State), (s.wf = true) ∧ (s.twTake 2 h (twFrames ws.length - 1) = some u) ∧ (u.standby = false) :=
  ⟨wHead, [], wTook wAct 2, wAct, by decide +kernel⟩

theorem wit_PairStateCopy_3 : ∃ (h : TwHead) (ws : List Word) (o : Obj) (c : Obj) (u : State) (s : State), (s.wf = true) ∧ (s.twTake 2 h (twFrames ws.length - 1) = some u) ∧ (u.standby = true) ∧ (o = Obj.mk 2 (bitsOf (ws.getD 0 0) 15 0) (ws.drop 1)) ∧ (u.twp.resync.getLsbD 2 = false) ∧ (u.snapAge h.cycle = some .own) ∧ (findObj u.twp.snap 2 o.idx = some c) :=
  ⟨wHead, [3, 9], Obj.mk 2 3 [9], Obj.mk 2 3 [5], wTook ({ wPair with twp := { wPair.twp with snap := [Obj.mk 2 3 [5]], cycle := some 0 } }) 2, { wPair with twp := { wPair.twp with snap := [Obj.mk 2 3 [5]], cycle := some 0 } }, by decide +kernel⟩

theorem wit_PairStateCopy_4 : ∃ (h : TwHead) (ws : List Word) (o : Obj) (c : Obj) (u : State) (s : State), (s.wf = true) ∧ (s.twTake 2 h (twFrames ws.length - 1) = some u) ∧ (u.standby = true) ∧ (o = Obj.mk 2 (bitsOf (ws.getD 0 0) 15 0) (ws.drop 1)) ∧ (u.twp.resync.getLsbD 2 = false) ∧ (u.snapAge h.cycle = some .last) ∧ (findObj u.twp.prev 2 o.idx = some c) :=
  ⟨wHead, [3, 9], Obj.mk 2 3 [9], Obj.mk 2 3 [5], wTook ({ wPair with twp := { wPair.twp with prev := [Obj.mk 2 3 [5]], cycle := some 1 } }) 2, { wPair with twp := { wPair.twp with prev := [Obj.mk 2 3 [5]], cycle := some 1 } }, by decide +kernel⟩

theorem wit_PairStateCopy_5 : ∃ (h : TwHead) (ws : List Word) (u : State) (s : State), (s.wf = true) ∧ (s.twTake 2 h (twFrames ws.length - 1) = some u) ∧ (u.standby = true) ∧ (u.snapAge h.cycle = some .next) :=
  ⟨wHead, [3, 9], wTook ({ wPair with twp := { wPair.twp with cycle := some 4294967295 } }) 2, { wPair with twp := { wPair.twp with cycle := some 4294967295 } }, by decide +kernel⟩

theorem wit_PairStateCopy_6 : ∃ (h : TwHead) (ws : List Word) (u : State) (s : State), (s.wf = true) ∧ (s.twTake 2 h = some u) ∧ (u.standby = true) ∧ (u.snapAge (ws.getD 0 0) = some .next) :=
  ⟨wHead, (6 :: (List.range 7).map (sectionDigest [])), wTook ({ wPair with twp := { wPair.twp with cycle := some 5 } }) 2, { wPair with twp := { wPair.twp with cycle := some 5 } }, by decide +kernel⟩

theorem wit_PairStateCopy_7 : ∃ (h : TwHead) (ws : List Word) (n : Nat) (u : State) (s : State), (s.wf = true) ∧ (s.twTake 2 h = some u) ∧ (u.standby = true) ∧ (u.twp.cycle = some n) ∧ ((ws.getD 0 0).toNat = n % 4294967296) ∧ (u.twp.digest = false) ∧ (u.bit TWP.PAIR_STATUS_HELD = false) ∧ (u.twp.snapBad = false) ∧ (u.digestDiff ws = 0) ∧ (u.twp.resync = 0) ∧ (u.twp.whole ≠ 0) :=
  ⟨wHead, (5 :: (List.range 7).map (sectionDigest [])), 5, wTook ({ wPair with twp := { wPair.twp with cycle := some 5, whole := 1 } }) 2, { wPair with twp := { wPair.twp with cycle := some 5, whole := 1 } }, by decide +kernel⟩

theorem wit_PairStateCopy_8 : ∃ (h : TwHead) (ws : List Word) (n : Nat) (u : State) (s : State), (s.wf = true) ∧ (s.twTake 2 h = some u) ∧ (u.standby = true) ∧ (u.twp.cycle = some n) ∧ ((ws.getD 0 0).toNat = n % 4294967296) ∧ (u.twp.digest = false) ∧ (u.bit TWP.PAIR_STATUS_HELD = false) ∧ (u.twp.snapBad = false) ∧ (u.digestDiff ws = 0) ∧ (u.twp.resync ≠ 0) :=
  ⟨wHead, (5 :: (List.range 7).map (sectionDigest [])), 5, wTook ({ wPair with twp := { wPair.twp with cycle := some 5, resync := 1 } }) 2, { wPair with twp := { wPair.twp with cycle := some 5, resync := 1 } }, by decide +kernel⟩

theorem wit_PairStateCopy_9 : ∃ (h : TwHead) (ws : List Word) (n : Nat) (u : State) (s : State), (s.wf = true) ∧ (s.twTake 2 h = some u) ∧ (u.standby = true) ∧ (u.twp.cycle = some n) ∧ ((ws.getD 0 0).toNat = n % 4294967296) ∧ (u.twp.digest = false) ∧ (u.bit TWP.PAIR_STATUS_HELD = false) ∧ (u.twp.snapBad = true) :=
  ⟨wHead, [5], 5, wTook ({ wPair with twp := { wPair.twp with cycle := some 5, snapBad := true, resync := 0x80 } }) 2, { wPair with twp := { wPair.twp with cycle := some 5, snapBad := true, resync := 0x80 } }, by decide +kernel⟩

theorem wit_PairStateCopy_10 : ∃ (h : TwHead) (u : State) (s : State), (s.wf = true) ∧ (s.twTake 0 h = some u) ∧ (u.isActive = true) :=
  ⟨wHead, wTook wAct 0, wAct, by decide +kernel⟩

theorem wit_PairStateCopy_11 : ∃ (h : TwHead) (w0 : Word) (w1 : Word) (c : Copy) (f : Frame) (rest : List Copy) (u : State) (s : State), (s.wf = true) ∧ (s.twTake 1 h = some u) ∧ (u.standby = true) ∧ (bitsOf w0 19 19 = 0) ∧ (u.noteCopies (bitsOf w0 31 28) (bitsOf w0 27 24) (bitsOf w0 23 21) = c :: rest) ∧ (u.frame? c.fid = some f) ∧ (f.len = bitsOf w0 13 0) ∧ (frameId f = w1) ∧ (c.flying = []) :=
  ⟨wHead, 0x01000040, (frameId wFrame), { wCopy with st := .committed }, wFrame, [], wTook ({ wPair with frames := [wFrame], copies := [{ wCopy with st := .committed }] }) 1, { wPair with frames := [wFrame], copies := [{ wCopy with st := .committed }] }, by decide +kernel⟩

theorem wit_PairStateCopy_12 : ∃ (h : TwHead) (w0 : Word) (u : State) (s : State), (s.wf = true) ∧ (s.twTake 1 h = some u) ∧ (u.standby = true) ∧ (bitsOf w0 19 19 = 0) ∧ (u.noteCopies (bitsOf w0 31 28) (bitsOf w0 27 24) (bitsOf w0 23 21) = []) ∧ (u.notes.length < 256) :=
  ⟨wHead, 0x01000040, wTook wPair 1, wPair, by decide +kernel⟩

theorem wit_PairStateCopy_13 : ∃ (s : State), (s.wf = true) :=
  ⟨{ wPair with tim := { wRun.tim with wt := 4294967296000000000 }, notes := [Note.mk 0 0 0 0 0 0] }, by decide +kernel⟩

theorem wit_PlannedSwaps_1 : ∃ (ini : Initiator) (s : State), (s.wf = true) ∧ (s.mayWrite ini TWP.TWP_CMD = true) ∧ (claimRank s.ownClaim ≠ 8) :=
  ⟨.host, wPair, by decide +kernel⟩

theorem wit_PlannedSwaps_2 : ∃ (ini : Initiator) (e : Nat) (s : State), (s.wf = true) ∧ (s.mayWrite ini TWP.TWP_CMD = true) ∧ (s.pairEn = true) ∧ (claimRank s.ownClaim = 8) ∧ (s.nowQ + 2 * (s.guardUs * usQ) ≤ s.swapT) ∧ (s.tc7Open s.swapT = false) ∧ (s.bit TWP.PAIR_STATUS_PEER_PRESENT = true) ∧ (s.twp.swap = none) ∧ (s.twUp false = true) ∧ (e = (claimEpoch s.ownClaim + 1) % 2048) :=
  ⟨.host, 1, wAct.set TWP.SWAP_T_SEC_LO_SEC_LO 5, by decide +kernel⟩

theorem wit_PlannedSwaps_3 : ∃ (ini : Initiator) (w : Swap) (s : State), (s.wf = true) ∧ (s.mayWrite ini TWP.TWP_CMD = true) ∧ (s.twp.swap = some w) ∧ (w.mine = true) ∧ (s.nowQ + s.guardUs * usQ < w.t) :=
  ⟨.host, { t := 4000000000, epoch := 3, mine := true }, { wAct with twp := { wAct.twp with swap := some { t := 4000000000, epoch := 3, mine := true } } }, by decide +kernel⟩

theorem wit_PlannedSwaps_4 : ∃ (h : TwHead) (ws : List Word) (u : State) (s : State), (s.wf = true) ∧ (s.twTake 0 h = some u) ∧ (claimRank u.ownClaim = 4) ∧ (u.synced = true) ∧ ((u.rd TWP.PEER_OFFSET).toInt.natAbs ≤ u.get TWP.OFFSET_LIMIT_NS * 4) ∧ (u.tc7Open (wordsT (ws.drop 1)) = false) ∧ (u.twUp false = true) :=
  ⟨wHead, swapWords 1 0 3 4000000000, wTook ({ wPair with twp := { wPair.twp with match_ := 0x7F } }) 0, { wPair with twp := { wPair.twp with match_ := 0x7F } }, by decide +kernel⟩

theorem wit_PlannedSwaps_5 : ∃ (h : TwHead) (u : State) (s : State), (s.wf = true) ∧ (s.twTake 0 h = some u) ∧ (claimRank u.ownClaim = 4) ∧ (u.synced = false) ∧ (u.twUp false = true) :=
  ⟨wHead, wTook (wPair) 0, wPair, by decide +kernel⟩

theorem wit_PlannedSwaps_6 : ∃ (h : TwHead) (ws : List Word) (w : Swap) (u : State) (s : State), (s.wf = true) ∧ (s.twTake 0 h = some u) ∧ (u.swapNamed true ws = some w) ∧ (w.commit = false) ∧ (u.nowQ + u.guardUs * usQ ≤ w.t) ∧ (u.twUp false = true) :=
  ⟨wHead, swapWords 2 0 3 4000000000, { t := 4000000000, epoch := 3, mine := true }, wTook ({ wAct with twp := { wAct.twp with swap := some { t := 4000000000, epoch := 3, mine := true } } }) 0, { wAct with twp := { wAct.twp with swap := some { t := 4000000000, epoch := 3, mine := true } } }, by decide +kernel⟩

theorem wit_PlannedSwaps_7 : ∃ (h : TwHead) (ws : List Word) (w : Swap) (u : State) (s : State), (s.wf = true) ∧ (s.twTake 0 h = some u) ∧ (u.swapNamed true ws = some w) :=
  ⟨wHead, swapWords 3 5 3 4000000000, { t := 4000000000, epoch := 3, mine := true }, wTook ({ wAct with twp := { wAct.twp with swap := some { t := 4000000000, epoch := 3, mine := true } } }) 0, { wAct with twp := { wAct.twp with swap := some { t := 4000000000, epoch := 3, mine := true } } }, by decide +kernel⟩

theorem wit_PlannedSwaps_8 : ∃ (h : TwHead) (ws : List Word) (w : Swap) (u : State) (s : State), (s.wf = true) ∧ (s.twTake 0 h = some u) ∧ (u.swapNamed false ws = some w) ∧ (u.nowQ ≤ w.t) :=
  ⟨wHead, swapWords 4 0 3 4000000000, { t := 4000000000, epoch := 3, mine := false }, wTook ({ wPair with twp := { wPair.twp with swap := some { t := 4000000000, epoch := 3, mine := false } } }) 0, { wPair with twp := { wPair.twp with swap := some { t := 4000000000, epoch := 3, mine := false } } }, by decide +kernel⟩

theorem wit_PlannedSwaps_9 : ∃ (h : TwHead) (ws : List Word) (w : Swap) (u : State) (s : State), (s.wf = true) ∧ (s.twTake 0 h = some u) ∧ (u.swapNamed false ws = some w) :=
  ⟨wHead, swapWords 5 0 3 4000000000, { t := 4000000000, epoch := 3, mine := false }, wTook ({ wPair with twp := { wPair.twp with swap := some { t := 4000000000, epoch := 3, mine := false } } }) 0, { wPair with twp := { wPair.twp with swap := some { t := 4000000000, epoch := 3, mine := false } } }, by decide +kernel⟩

theorem wit_PlannedSwaps_10 : ∃ (w : Swap) (s : State), (s.wf = true) ∧ (s.twp.swap = some w) ∧ (w.mine = true) ∧ (w.commit = false) ∧ (w.t ≤ s.nowQ + s.guardUs * usQ) ∧ (w.nak < 16) :=
  ⟨{ t := 0, epoch := 3, mine := true, nak := 0 }, { wAct with twp := { wAct.twp with swap := some { t := 0, epoch := 3, mine := true, nak := 0 } } }, by decide +kernel⟩

theorem wit_PlannedSwaps_11 : ∃ (w : Swap) (s : State), (s.wf = true) ∧ (s.pairEn = true) ∧ (s.twp.swap = some w) ∧ (w.mine = true) ∧ (w.commit = true) ∧ (w.t ≤ s.nowQ) ∧ (claimRank s.ownClaim = 8) ∧ ((∀ c ∈ s.copies, c.st ≠ .preempted)) :=
  ⟨{ t := 0, epoch := 3, mine := true, commit := true }, { { wAct with twp := { wAct.twp with swap := some { t := 0, epoch := 3, mine := true, commit := true } } } with frames := [wBuf], copies := [wCopy] }, by decide +kernel⟩

theorem wit_PlannedSwaps_12 : ∃ (w : Swap) (s : State), (s.wf = true) ∧ (s.pairEn = true) ∧ (s.twp.swap = some w) ∧ (w.mine = false) ∧ (w.commit = true) ∧ (w.t ≤ s.nowQ) ∧ (claimRank s.ownClaim = 4) :=
  ⟨{ t := 0, epoch := 3, mine := false, commit := true, ends := 1 }, { { wPair with twp := { wPair.twp with swap := some { t := 0, epoch := 3, mine := false, commit := true, ends := 1 } } } with frames := [wBuf], copies := [{ wCopy with st := .parked }] }, by decide +kernel⟩

theorem wit_PlannedSwaps_13 : ∃ (d : SwapDone) (p : Nat) (s : State), (s.wf = true) ∧ (s.twp.swapped = some d) ∧ (d.active = true) ∧ (d.t + 2 * usQ ≤ s.nowQ) ∧ (s.pairedPort p = true) ∧ (d.ends.getLsbD p = false) :=
  ⟨{ t := 0, planned := 7, active := true }, 0, { { wAct with twp := { wAct.twp with swapped := some { t := 0, planned := 7, active := true } } }.set TWP.PAIRED_PORTS_PORTS 3 with tim := { wRun.tim with wt := 4294967296000000000 }, frames := [wBuf], copies := [{ wCopy with st := .parked }] }, by decide +kernel⟩

theorem wit_PairCommits_1 : ∃ (ini : Initiator) (s : State), (s.wf = true) ∧ (s.mayWrite ini TWP.TWP_CMD = true) ∧ (s.pairEn = true) ∧ (claimRank s.ownClaim ≠ 0) :=
  ⟨.host, wPair, by decide +kernel⟩

theorem wit_PairCommits_2 : ∃ (ini : Initiator) (s : State), (s.wf = true) ∧ (s.mayWrite ini TWP.TWP_CMD = true) ∧ (s.pairEn = true) ∧ (claimRank s.ownClaim = 0) ∧ (s.bit FLT.FLT_STATUS_FATAL = false) :=
  ⟨.host, wPair.set TWP.CLAIM_STATUS_OWN 6, by decide +kernel⟩

theorem wit_PairCommits_3 : ∃ (ini : Initiator) (s : State), (s.wf = true) ∧ (s.mayWrite ini TWP.TWP_CMD = true) ∧ (s.standby = true) ∧ (s.twUp false = true) :=
  ⟨.host, wPair, by decide +kernel⟩

theorem wit_PairCommits_4 : ∃ (h : TwHead) (ws : List Word) (x : Nat) (u : State) (s : State), (s.wf = true) ∧ (s.twTake 0 h = some u) ∧ (u.standby = true) ∧ (u.twUp false = true) ∧ (x = wordsT (ws.drop 2)) ∧ (u.slcLink = some x) ∧ (u.slc.stage = some (bitsOf (ws.getD 0 0) 26 24)) ∧ (u.pendingMask = bitsOf (ws.getD 0 0) 15 0) ∧ (u.rd TWP.PC_TAG = ws.getD 1 0) :=
  ⟨wHead, (0x13000000 :: 0 :: timeWords 4000000000), 4000000000, wTook ({ wPair with slc := { wPair.slc with armed := some (4000000000, true), stage := some 3 } }) 0, { wPair with slc := { wPair.slc with armed := some (4000000000, true), stage := some 3 } }, by decide +kernel⟩

theorem wit_PairCommits_5 : ∃ (h : TwHead) (ws : List Word) (x : Nat) (u : State) (s : State), (s.wf = true) ∧ (s.twTake 0 h = some u) ∧ (u.standby = true) ∧ (u.twUp false = true) ∧ (x = wordsT (ws.drop 2)) ∧ (u.slcLink ≠ some x) ∧ (u.lkpLink ≠ some x) :=
  ⟨wHead, (0x13000000 :: 0 :: timeWords 4000000000), 4000000000, wTook (wPair) 0, wPair, by decide +kernel⟩

theorem wit_PairCommits_6 : ∃ (h : TwHead) (ws : List Word) (x : Nat) (u : State) (s : State), (s.wf = true) ∧ (s.twTake 0 h = some u) ∧ (u.isActive = true) ∧ (u.twUp false = true) ∧ (x = wordsT (ws.drop 2)) ∧ (u.slcLink = some x) ∧ (u.nowQ + u.guardUs * usQ ≤ x) :=
  ⟨wHead, (0x20000000 :: 0 :: timeWords 4000000000), 4000000000, wTook ({ wAct with slc := { wAct.slc with armed := some (4000000000, true) } }) 0, { wAct with slc := { wAct.slc with armed := some (4000000000, true) } }, by decide +kernel⟩

theorem wit_PairCommits_7 : ∃ (h : TwHead) (u : State) (s : State), (s.wf = true) ∧ (s.twTake 0 h = some u) ∧ (u.isActive = true) :=
  ⟨wHead, wTook (wAct) 0, wAct, by decide +kernel⟩

theorem wit_PairCommits_8 : ∃ (h : TwHead) (ws : List Word) (x : Nat) (u : State) (s : State), (s.wf = true) ∧ (s.twTake 0 h = some u) ∧ (u.standby = true) ∧ (x = wordsT (ws.drop 2)) ∧ (u.lkpLink = some x) ∧ (u.nowQ ≤ x) :=
  ⟨wHead, (0x40000000 :: 0 :: timeWords 4000000000), 4000000000, wTook ({ wPair with lkp := { wPair.lkp with change := some { t := 4000000000 * 250, mask := 1, link := true } } }) 0, { wPair with lkp := { wPair.lkp with change := some { t := 4000000000 * 250, mask := 1, link := true } } }, by decide +kernel⟩

theorem wit_PairCommits_9 : ∃ (h : TwHead) (ws : List Word) (x : Nat) (u : State) (s : State), (s.wf = true) ∧ (s.twTake 0 h = some u) ∧ (u.standby = true) ∧ (x = wordsT (ws.drop 2)) ∧ (u.slcLink = some x) ∧ (u.lkpLink = none) :=
  ⟨wHead, (0x50000000 :: 0 :: timeWords 4000000000), 4000000000, wTook ({ wPair with slc := { wPair.slc with armed := some (4000000000, true) } }) 0, { wPair with slc := { wPair.slc with armed := some (4000000000, true) } }, by decide +kernel⟩

theorem wit_PairCommits_10 : ∃ (x : Nat) (s : State), (s.wf = true) ∧ (s.isActive = true) ∧ (s.slcLink = some x) ∧ (s.lkpLink = none) ∧ (x ∉ s.twp.pc.ready) ∧ (x ∉ s.twp.pc.go) ∧ (x ≤ s.nowQ + s.guardUs * usQ) :=
  ⟨0, { wAct with slc := { wAct.slc with armed := some (0, true) } }, by decide +kernel⟩

theorem wit_CorePairs_1 : ∃ (sec : Bool) (a : CoreItem) (b : Option CoreItem) (s : State), (s.wf = true) ∧ (s.get (pairState sec) ≤ 1) ∧ ((sec = true ∨ s.split = false)) ∧ (b ≠ some a) ∧ (s.pllLost 1 = false) ∧ (s.lsMarked sec 0 = false) ∧ (s.bit (if sec then CPU.CPU_EVENT_SEC_LS else CPU.CPU_EVENT_CTRL_LS) = false) :=
  ⟨false, .gpr 3 7, some (.gpr 3 8), (wRun.set CPU.CPU_STATUS_CTRL_STATE 0), by decide +kernel⟩

theorem wit_CorePairs_2 : ∃ (sec : Bool) (s : State), (s.wf = true) ∧ (s.get (pairState sec) = 0) ∧ ((sec = true ∨ s.split = false)) ∧ (s.pllLost 1 = false) :=
  ⟨false, (wRun.set CPU.CPU_STATUS_CTRL_STATE 0), by decide +kernel⟩

theorem wit_CorePairs_3 : ∃ (sec : Bool) (a : Word) (write : Bool) (machine : Bool) (ini : Initiator) (s : State), (s.wf = true) ∧ (s.get (pairState sec) = 0) ∧ ((sec = true ∨ s.split = false)) ∧ (s.pllLost 1 = false) ∧ (ini = (if sec then .sec else .hart0)) ∧ (s.mute ini = false) ∧ (a.toNat % 4 = 0) ∧ (s.pmpAllows (if sec then 2 else 0) a.toNat write machine = true) :=
  ⟨false, 0x100, false, true, .hart0, wRun, by decide +kernel⟩

theorem wit_CorePairs_4 : ∃ (sec : Bool) (a : Word) (write : Bool) (machine : Bool) (ini : Initiator) (s : State), (s.wf = true) ∧ (s.get (pairState sec) = 0) ∧ ((sec = true ∨ s.split = false)) ∧ (s.pllLost 1 = false) ∧ (ini = (if sec then .sec else .hart0)) ∧ (s.mute ini = false) ∧ (s.pmpAllows (if sec then 2 else 0) a.toNat write machine = false) :=
  ⟨false, 0x100, false, false, .hart0, wRun, by decide +kernel⟩

theorem wit_CorePairs_5 : ∃ (s : State), (s.stage ≠ 0) ∧ (s.wak.power = .active) ∧ (s.pllLost 0 = false) ∧ (s.get (pairState true) = 2) ∧ (s.pairWaits true = false) :=
  ⟨(wRun.set CPU.CPU_STATUS_SEC_STATE 2), by decide +kernel⟩

theorem wit_CorePairs_6 : ∃ (sec : Bool) (t0 : Nat) (s : State), (s.wf = true) ∧ (s.get (pairState sec) = 3) ∧ (s.cpu.pcs.length = 3) ∧ ((if sec then s.cpu.rst1 else s.cpu.rst0) = some t0) ∧ (t0 + (if sec then 640 else 320) ≤ s.tim.ticks) ∧ (s.pllLost 1 = false) :=
  ⟨false, 1, { ((wRun.set CPU.CPU_STATUS_CTRL_STATE 3).setBit CPU.LS_CFG_CTRL_RESTART true).set CPU.LS_CFG_RESTART_MAX 3 with tim := { wRun.tim with ticks := 1000 }, cpu := { wRun.cpu with gprs := [(33, 5), (70, 6)], halted := 7, rst0 := some 1 } }, by decide +kernel⟩

theorem wit_CorePairs_7 : ∃ (sec : Bool) (t0 : Nat) (s : State), ((if sec then s.cpu.rst1 else s.cpu.rst0) = some t0) ∧ (s.tim.ticks < t0 + (if sec then 640 else 320)) :=
  ⟨false, 1, { wRun.set CPU.CPU_STATUS_CTRL_STATE 3 with cpu := { wRun.cpu with rst0 := some 1 } }, by decide +kernel⟩

theorem wit_CorePairs_8 : ∃ (ini : Initiator) (s : State), (s.wf = true) ∧ (s.mayWrite ini CPU.CORE_CMD = true) ∧ (s.cpu.pcs.length = 3) ∧ (s.upd.run = none) :=
  ⟨.host, { wRun with cpu := { wRun.cpu with gprs := [(33, 5), (70, 6)], pcs := [1, 2, 3] } }, by decide +kernel⟩

theorem wit_CorePairs_9 : ∃ (ini : Initiator) (c : BitVec 16) (s : State), (s.wf = true) ∧ (s.mayWrite ini CPU.CORE_CMD = true) ∧ (c ≠ 0xC0E5) :=
  ⟨.host, 7, wRun, by decide +kernel⟩

theorem wit_CorePairs_10 : ∃ (ini : Initiator) (s : State), (s.wf = true) ∧ (s.mayWrite ini CPU.CORE_CMD = true) ∧ (s.cpu.pcs.length = 3) :=
  ⟨.host, { wRun with cpu := { wRun.cpu with gprs := [(33, 5), (70, 6)], pcs := [1, 2, 3] } }, by decide +kernel⟩

theorem wit_CorePairs_11 : ∃ (ini : Initiator) (a : Word) (size : Nat) (m : Nat) (off : Nat) (ecc : EccState) (s : State), (s.wf = true) ∧ (s.mute ini = false) ∧ (ini ∈ [.hart0, .hart1, .sec]) ∧ (coreSize size = true) ∧ (a.toNat % size = 0) ∧ (coreRegion (ini == .sec) a.toNat size = some (m, off)) ∧ (m < 2) ∧ (ecc ≠ .uncorrectable) :=
  ⟨.hart0, 0x100, 4, 0, 0x100, .corrected, wRun, by decide +kernel⟩

theorem wit_CorePairs_12 : ∃ (ini : Initiator) (a : Word) (size : Nat) (m : Nat) (off : Nat) (s : State), (s.wf = true) ∧ (s.mute ini = false) ∧ (ini ∈ [.hart0, .hart1, .sec]) ∧ (coreSize size = true) ∧ (a.toNat % size = 0) ∧ (coreRegion (ini == .sec) a.toNat size = some (m, off)) ∧ (m < 2) :=
  ⟨.hart0, 0x10000100, 4, 1, 0x100, wRun, by decide +kernel⟩

theorem wit_CorePairs_13 : ∃ (ini : Initiator) (a : Word) (size : Nat) (m : Nat) (off : Nat) (ecc : EccState) (s : State), (s.wf = true) ∧ (s.mute ini = false) ∧ (ini ∈ [.hart0, .hart1, .sec]) ∧ (coreSize size = true) ∧ (a.toNat % size = 0) ∧ (coreRegion (ini == .sec) a.toNat size = some (m, off)) ∧ (ecc = .uncorrectable ∧ m < 3 ∨ ecc = .corrected ∧ m = 2) ∧ (s.bit CPU.CPU_EVENT_MEM_ECC_UNCORR = false) :=
  ⟨.sec, 0x20000004, 4, 2, 4, .corrected, wRun, by decide +kernel⟩

theorem wit_CorePairs_14 : ∃ (ini : Initiator) (a : Word) (size : Nat) (s : State), (s.mute ini = false) ∧ (ini ∈ [.hart0, .hart1, .sec]) ∧ (coreSize size = true) ∧ (a.toNat % size = 0) ∧ (coreRegion (ini == .sec) a.toNat size = none) :=
  ⟨.hart0, 0x30000000, 4, wRun, by decide +kernel⟩

theorem wit_CorePairs_15 : ∃ (s : State), (s.wf = true) :=
  ⟨wRun, by decide +kernel⟩

theorem wit_CorePairs_16 : ∃ (ini : Initiator) (h : Fin 3) (s : State), (s.wf = true) ∧ (s.mayWrite ini (CPU.MTIMECMP_HI h) = true) ∧ (s.cpu.cmp.length = 3) :=
  ⟨.hart0, 1, (wRun.wr (CPU.MTIMECMP_LO 1) 7), by decide +kernel⟩

theorem wit_CoreDebug_1 : ∃ (h : Fin 3) (s : State), (s.wf = true) ∧ (s.dbgHart h = true) ∧ (s.get (pairState (hartSec h)) ≤ 1) ∧ (s.cpu.halted.getLsbD h = false) ∧ (s.lsMarked (hartSec h) 0 = false) ∧ (s.cpu.pcs.length = 3) :=
  ⟨0, ((wRun.setBit CPU.CPU_STATUS_CTRL_DBG_EN true).set CPU.CPU_STATUS_CTRL_STATE 0), by decide +kernel⟩

theorem wit_CoreDebug_2 : ∃ (h : Fin 3) (s : State), (s.wf = true) ∧ (s.dbgHart h = false) :=
  ⟨1, ((wRun.setBit CPU.CPU_STATUS_CTRL_DBG_EN true).set CPU.CPU_STATUS_CTRL_STATE 0), by decide +kernel⟩

theorem wit_CoreDebug_3 : ∃ (h : Fin 3) (s : State), (s.wf = true) ∧ (s.isHalted h = true) ∧ ((∀ k : Fin 3, hartSec k = hartSec h → k ≠ h → s.cpu.halted.getLsbD k = false)) :=
  ⟨0, { ((wRun.setBit CPU.CPU_STATUS_CTRL_DBG_EN true).set CPU.CPU_STATUS_CTRL_STATE 0).set CPU.CPU_STATUS_CTRL_STATE 1 with cpu := { wRun.cpu with halted := 1 } }, by decide +kernel⟩

theorem wit_CoreDebug_4 : ∃ (h : Fin 3) (r : CoreRegs) (s : State), (s.wf = true) ∧ (s.isHalted h = true) ∧ (r.gprs = []) ∧ (r.csrs = []) :=
  ⟨0, wRegs, { ((wRun.setBit CPU.CPU_STATUS_CTRL_DBG_EN true).set CPU.CPU_STATUS_CTRL_STATE 0).set CPU.CPU_STATUS_CTRL_STATE 1 with cpu := { wRun.cpu with halted := 1 } }, by decide +kernel⟩

theorem wit_CoreDebug_5 : ∃ (h : Fin 3) (n : BitVec 12) (s : State), (s.wf = true) ∧ (s.isHalted h = true) ∧ (0 < n.toNat) ∧ (n.toNat < 32) ∧ (Sparse.wf (fun _ => 0) s.cpu.gprs = true) :=
  ⟨0, 31, { ((wRun.setBit CPU.CPU_STATUS_CTRL_DBG_EN true).set CPU.CPU_STATUS_CTRL_STATE 0).set CPU.CPU_STATUS_CTRL_STATE 1 with cpu := { wRun.cpu with halted := 1 } }, by decide +kernel⟩

theorem wit_CoreDebug_6 : ∃ (h : Fin 3) (r : CoreRegs) (s : State), (s.wf = true) ∧ (s.isHalted h = true) ∧ (r.gprs = []) ∧ (r.csrs = []) :=
  ⟨0, wRegs, { ((wRun.setBit CPU.CPU_STATUS_CTRL_DBG_EN true).set CPU.CPU_STATUS_CTRL_STATE 0).set CPU.CPU_STATUS_CTRL_STATE 1 with cpu := { wRun.cpu with halted := 1 } }, by decide +kernel⟩

theorem wit_CoreDebug_7 : ∃ (ini : Initiator) (s : State), (s.wf = true) ∧ (s.mayWrite ini CPU.DBG_AUTH_CMD = true) ∧ (s.bit CPU.DBG_AUTH_STATUS_BUSY = false) :=
  ⟨.host, wRun, by decide +kernel⟩

theorem wit_CoreDebug_8 : ∃ (ini : Initiator) (s : State), (s.wf = true) ∧ (s.mayWrite ini CPU.DBG_AUTH_CMD = true) ∧ (s.bit CPU.DBG_AUTH_STATUS_BUSY = false) ∧ ((3 ≤ s.get CPU.DBG_AUTH_STATUS_FAILS ∨ s.cpu.nonce = false)) :=
  ⟨.host, wRun.wr (CPU.DBG_SIG 3) 7, by decide +kernel⟩

theorem wit_CoreDebug_9 : ∃ (ini : Initiator) (s : State), (s.wf = true) ∧ (s.mayWrite ini CPU.DBG_AUTH_CMD = true) ∧ (s.bit CPU.DBG_AUTH_STATUS_BUSY = false) ∧ (s.get CPU.DBG_AUTH_STATUS_FAILS < 3) ∧ (s.cpu.nonce = true) ∧ (s.bit SYS.SYS_STATUS_DBG_KEY_VALID = true) :=
  ⟨.host, { (wRun.wr (CPU.DBG_SIG 3) 7).setBit SYS.SYS_STATUS_DBG_KEY_VALID true with cpu := { wRun.cpu with nonce := true } }, by decide +kernel⟩

theorem wit_CoreDebug_10 : ∃ (sc : Nat) (sig : Bytes) (ok : Bool) (s : State), (s.wf = true) ∧ (s.cpu.verify = some (sc, sig)) ∧ (sc < 4) ∧ (s.copies = []) ∧ (ok = p256Ok (wordOctets ((List.range 16).map fun w => s.rd (SYS.DBG_KEY w))) (s.dbgMessage sc) sig) :=
  ⟨3, [], false, { wRun.setBit CPU.DBG_AUTH_STATUS_BUSY true with cpu := { wRun.cpu with verify := some (3, []) } }, by decide +kernel⟩

theorem wit_CoreDebug_11 : ∃ (ini : Initiator) (sc : BitVec 2) (s : State), (s.wf = true) ∧ (s.mayWrite ini CPU.DBG_AUTH_CMD = true) ∧ (s.bit CPU.DBG_AUTH_STATUS_BUSY = false) ∧ (s.get KEY.LC_STATUS_LC_STATE = 3) ∧ (sc.getLsbD 1 = true) :=
  ⟨.host, 2, ((wRun.set KEY.LC_STATUS_LC_STATE 3).set CPU.DBG_AUTH_STATUS_GRANTED 3).setBit CPU.CPU_STATUS_SEC_DBG_EN true, by decide +kernel⟩

theorem wit_RingsAndEndpoint_1 : ∃ (ini : Initiator) (rx : Bool) (r : Fin 8) (s : State), (s.wf = true) ∧ (s.mayWrite ini (BRG.RING_TAIL (ringNo rx) r) = true) :=
  ⟨.host, true, 7, wRun, by decide +kernel⟩

theorem wit_RingsAndEndpoint_2 : ∃ (ini : Initiator) (rx : Bool) (r : Fin 8) (w : Word) (s : State), (s.wf = true) ∧ (s.mayWrite ini (BRG.RING_CTRL (ringNo rx) r) = true) ∧ (bitsOf w 0 0 = 1) ∧ (sizeOk (s.ringSize rx r) = true) ∧ (s.bit (BRG.RING_STATUS_RUNNING (ringNo rx) r) = false) :=
  ⟨.host, true, 3, 1, (wRun.set (BRG.RING_SIZE_ENTRIES 1 3) 32768).setBit (BRG.RING_STATUS_ERR_STOP 1 3) true, by decide +kernel⟩

theorem wit_RingsAndEndpoint_3 : ∃ (ini : Initiator) (rx : Bool) (r : Fin 8) (w : Word) (s : State), (s.wf = true) ∧ (s.mayWrite ini (BRG.RING_CTRL (ringNo rx) r) = true) ∧ (bitsOf w 0 0 = 1) ∧ (sizeOk (s.ringSize rx r) = false) :=
  ⟨.host, false, 3, 1, (wRun.set (BRG.RING_SIZE_ENTRIES 0 3) 17), by decide +kernel⟩

theorem wit_RingsAndEndpoint_4 : ∃ (ini : Initiator) (rx : Bool) (r : Fin 8) (w : Word) (s : State), (s.wf = true) ∧ (s.mayWrite ini (BRG.RING_CTRL (ringNo rx) r) = true) ∧ (bitsOf w 0 0 = 0) ∧ (max 1 (bitsOf w 15 8) ≤ (s.ring rx r).unrep) :=
  ⟨.host, false, 0, 0, wRun.setRing false 0 { unrep := 3 }, by decide +kernel⟩

theorem wit_RingsAndEndpoint_5 : ∃ (ini : Initiator) (rx : Bool) (r : Fin 8) (w : Word) (s : State), (s.wf = true) ∧ (s.mayWrite ini (BRG.RING_CTRL (ringNo rx) r) = true) ∧ (bitsOf w 0 0 = 0) ∧ (s.bit (BRG.RING_CTRL_ENABLE (ringNo rx) r) = true) ∧ ((s.ring rx r).frame = none) :=
  ⟨.host, false, 3, 0, ((((wRun.setBit (BRG.RING_CTRL_ENABLE 0 3) true).setBit (BRG.RING_STATUS_RUNNING 0 3) true).set (BRG.RING_SIZE_ENTRIES 0 3) 16).set (BRG.RING_TAIL_TAIL 0 3) 5 |>.setBit BRG.BRG_STATUS_PCIE_LINK true), by decide +kernel⟩

theorem wit_RingsAndEndpoint_6 : ∃ (r : Fin 8) (d : BitVec 128) (n : Nat) (s : State), (s.wf = true) ∧ (s.bit (BRG.RING_CTRL_ENABLE 0 r) = true) ∧ (s.bit (BRG.RING_STATUS_RUNNING 0 r) = true) ∧ (s.bit BRG.BRG_STATUS_PCIE_LINK = true) ∧ (s.ringHead false r ≠ s.ringTail false r) ∧ ((s.ring false r).frame = none) ∧ (n = bitsOf ((d >>> 64).setWidth 32) 13 0) ∧ (bitsOf ((d >>> 64).setWidth 32) 31 14 = 0) ∧ (60 ≤ n) ∧ (n ≤ 9724) :=
  ⟨3, ((64 : BitVec 128) <<< 64), 64, ((((wRun.setBit (BRG.RING_CTRL_ENABLE 0 3) true).setBit (BRG.RING_STATUS_RUNNING 0 3) true).set (BRG.RING_SIZE_ENTRIES 0 3) 16).set (BRG.RING_TAIL_TAIL 0 3) 5 |>.setBit BRG.BRG_STATUS_PCIE_LINK true), by decide +kernel⟩

theorem wit_RingsAndEndpoint_7 : ∃ (r : Fin 8) (d : BitVec 128) (s : State), (s.wf = true) ∧ (s.bit (BRG.RING_CTRL_ENABLE 0 r) = true) ∧ (s.bit (BRG.RING_STATUS_RUNNING 0 r) = true) ∧ (s.bit BRG.BRG_STATUS_PCIE_LINK = true) ∧ (s.ringHead false r ≠ s.ringTail false r) ∧ ((s.ring false r).frame = none) ∧ (bitsOf ((d >>> 64).setWidth 32) 31 14 = 0) ∧ (bitsOf ((d >>> 64).setWidth 32) 13 0 < 60) ∧ (s.ringHead false r + 1 < s.ringSize false r) :=
  ⟨3, ((59 : BitVec 128) <<< 64), ((((wRun.setBit (BRG.RING_CTRL_ENABLE 0 3) true).setBit (BRG.RING_STATUS_RUNNING 0 3) true).set (BRG.RING_SIZE_ENTRIES 0 3) 16).set (BRG.RING_TAIL_TAIL 0 3) 5 |>.setBit BRG.BRG_STATUS_PCIE_LINK true), by decide +kernel⟩

theorem wit_RingsAndEndpoint_8 : ∃ (r : Fin 8) (s : State), (s.wf = true) ∧ (s.bit (BRG.RING_CTRL_ENABLE 0 r) = true) ∧ (s.bit (BRG.RING_STATUS_RUNNING 0 r) = true) ∧ (s.bit BRG.BRG_STATUS_PCIE_LINK = true) ∧ (s.ringHead false r ≠ s.ringTail false r) ∧ ((s.ring false r).frame = none) :=
  ⟨3, ((((wRun.setBit (BRG.RING_CTRL_ENABLE 0 3) true).setBit (BRG.RING_STATUS_RUNNING 0 3) true).set (BRG.RING_SIZE_ENTRIES 0 3) 16).set (BRG.RING_TAIL_TAIL 0 3) 5 |>.setBit BRG.BRG_STATUS_PCIE_LINK true), by decide +kernel⟩

theorem wit_RingsAndEndpoint_9 : ∃ (r : Fin 8) (d : Bytes) (fid : Nat) (f : Frame) (s : State), (s.wf = true) ∧ ((s.ring false r).frame = some fid) ∧ (s.frame? fid = some f) ∧ (f.fid = fid) ∧ (f.handle.isSome = true) ∧ (s.secured 14 = false) ∧ (f.secPend = false) ∧ (f.secLen = 0) ∧ (d.length = (s.ring false r).bytes) :=
  ⟨3, zeros 64, 5, { wFrame with inPort := 14, src := 3, data := [], tail := false, handle := some (0, 0, 0), len := 68 }, { ((((wRun.setBit (BRG.RING_CTRL_ENABLE 0 3) true).setBit (BRG.RING_STATUS_RUNNING 0 3) true).set (BRG.RING_SIZE_ENTRIES 0 3) 16).set (BRG.RING_TAIL_TAIL 0 3) 5 |>.setBit BRG.BRG_STATUS_PCIE_LINK true) with frames := [{ wFrame with inPort := 14, src := 3, data := [], tail := false, handle := some (0, 0, 0), len := 68 }], brg := { wRun.brg with rings := [(3, { frame := some 5, bytes := 64 })] } }, by decide +kernel⟩

theorem wit_RingsAndEndpoint_10 : ∃ (rx : Bool) (r : Fin 8) (s : State), (s.wf = true) ∧ (s.get (BRG.RING_CTRL_COAL_US (ringNo rx) r) ≠ 0) ∧ ((s.ring rx r).unrep ≠ 0) ∧ ((s.ring rx r).oldest + s.get (BRG.RING_CTRL_COAL_US (ringNo rx) r) * usQ ≤ s.nowQ) :=
  ⟨false, 3, { ((((wRun.setBit (BRG.RING_CTRL_ENABLE 0 3) true).setBit (BRG.RING_STATUS_RUNNING 0 3) true).set (BRG.RING_SIZE_ENTRIES 0 3) 16).set (BRG.RING_TAIL_TAIL 0 3) 5 |>.setBit BRG.BRG_STATUS_PCIE_LINK true).set (BRG.RING_CTRL_COAL_US 0 3) 1 with tim := { wRun.tim with wt := 4294967296000000000 }, brg := { wRun.brg with rings := [(3, { unrep := 1 })] } }, by decide +kernel⟩

theorem wit_RingsAndEndpoint_11 : ∃ (ini : Initiator) (rx : Bool) (r : Fin 8) (w : Word) (s : State), (s.wf = true) ∧ (s.mayWrite ini BRG.RING_EVENT = true) ∧ (s.fltNow = []) ∧ (w.getLsbD (ringKey rx r) = true) ∧ (s.bit (ringBit rx r) = true) :=
  ⟨.host, false, 3, 8, { ((((wRun.setBit (BRG.RING_CTRL_ENABLE 0 3) true).setBit (BRG.RING_STATUS_RUNNING 0 3) true).set (BRG.RING_SIZE_ENTRIES 0 3) 16).set (BRG.RING_TAIL_TAIL 0 3) 5 |>.setBit BRG.BRG_STATUS_PCIE_LINK true).setBit (ringBit false 3) true with brg := { wRun.brg with rings := [(3, { unrep := 1 })] } }, by decide +kernel⟩

theorem wit_RingsAndEndpoint_12 : ∃ (s : State), (s.wf = true) ∧ ((∀ k : Fin 16, (s.ring (decide (8 ≤ k.val)) (k % 8)).frame = none)) :=
  ⟨{ ((((wRun.setBit (BRG.RING_CTRL_ENABLE 0 3) true).setBit (BRG.RING_STATUS_RUNNING 0 3) true).set (BRG.RING_SIZE_ENTRIES 0 3) 16).set (BRG.RING_TAIL_TAIL 0 3) 5 |>.setBit BRG.BRG_STATUS_PCIE_LINK true) with brg := { wRun.brg with hostReads := [HostRead.mk .hart0 true 4 0 false] } }, by decide +kernel⟩

theorem wit_RingsAndEndpoint_13 : ∃ (s : State), (s.wf = true) :=
  ⟨((((wRun.setBit (BRG.RING_CTRL_ENABLE 0 3) true).setBit (BRG.RING_STATUS_RUNNING 0 3) true).set (BRG.RING_SIZE_ENTRIES 0 3) 16).set (BRG.RING_TAIL_TAIL 0 3) 5 |>.setBit BRG.BRG_STATUS_PCIE_LINK true), by decide +kernel⟩

theorem wit_RingsAndEndpoint_14 : ∃ (s : State), (s.wf = true) ∧ (s.stage ≠ 0) :=
  ⟨wRun, by decide +kernel⟩

theorem wit_RingsAndEndpoint_15 : ∃ (s : State), (s.wf = true) ∧ (s.stage = 0) :=
  ⟨State.reset, by decide +kernel⟩

theorem wit_BridgeWindows_1 : ∃ (a : BitVec 25) (n : Nat) (size : Nat) (s : State), (s.wf = true) ∧ (s.mute .hart0 = false) ∧ (n < 4) ∧ (a.toNat / 0x100000 = 0x14 + n) ∧ (s.hostTakes n (a.toNat - 0x1400000) size = true) :=
  ⟨0x1700010, 3, 4, ((wRun.setBit (BRG.HOST_WIN_CTRL_EN 3) true).set (BRG.HOST_WIN_LO_BASE_LO 3) 5), by decide +kernel⟩

theorem wit_BridgeWindows_2 : ∃ (ini : Initiator) (r : HostRead) (s : State), (s.wf = true) ∧ (s.brg.hostReads.find? (fun x => x.ini == ini) = some r) ∧ (r.inv = false) ∧ (r.size = 4) ∧ (r.drop = false) ∧ (s.coreDown ini = false) :=
  ⟨.hart0, HostRead.mk .hart0 false 4 0 false, { wRun with brg := { wRun.brg with hostReads := [HostRead.mk .hart0 false 4 0 false] } }, by decide +kernel⟩

theorem wit_BridgeWindows_3 : ∃ (ini : Initiator) (r : HostRead) (s : State), (s.wf = true) ∧ (s.brg.hostReads.find? (fun x => x.ini == ini) = some r) ∧ (r.drop = true) :=
  ⟨.hart0, HostRead.mk .hart0 false 4 0 true, { wRun with brg := { wRun.brg with hostReads := [HostRead.mk .hart0 false 4 0 true] } }, by decide +kernel⟩

theorem wit_BridgeWindows_4 : ∃ (ini : Initiator) (r : HostRead) (s : State), (s.wf = true) ∧ (s.brg.hostReads.find? (fun x => x.ini == ini) = some r) ∧ (r.drop = false) ∧ (s.coreDown ini = false) :=
  ⟨.hart0, HostRead.mk .hart0 false 4 0 false, { wRun with brg := { wRun.brg with hostReads := [HostRead.mk .hart0 false 4 0 false] } }, by decide +kernel⟩

theorem wit_BridgeWindows_5 : ∃ (ini : Initiator) (r : HostRead) (s : State), (s.wf = true) ∧ (s.brg.hostReads.find? (fun x => x.ini == ini) = some r) ∧ (r.at_ + s.brg.pcie.cto * usQ ≤ s.nowQ) ∧ (r.drop = false) ∧ (s.coreDown ini = false) :=
  ⟨.hart0, HostRead.mk .hart0 false 4 0 false, { { wRun with brg := { wRun.brg with hostReads := [HostRead.mk .hart0 false 4 0 false] } } with tim := { wRun.tim with ticks := 1000000000000, wt := 4294967296000000000000 } }, by decide +kernel⟩

theorem wit_BridgeWindows_6 : ∃ (a : BitVec 25) (n : Nat) (size : Nat) (s : State), (s.wf = true) ∧ (s.mute .hart1 = false) ∧ (n < 4) ∧ (a.toNat / 0x100000 = 0x14 + n) ∧ (s.hostTakes n (a.toNat - 0x1400000) size = true) ∧ (s.bit (BRG.HOST_WIN_CTRL_DATA_INV n) = false) :=
  ⟨0x1700010, 3, 2, (((wRun.setBit (BRG.HOST_WIN_CTRL_EN 3) true).set (BRG.HOST_WIN_LO_BASE_LO 3) 5)).setBit CPU.CPU_STATUS_SPLIT true, by decide +kernel⟩

theorem wit_BridgeWindows_7 : ∃ (a : BitVec 25) (n : Nat) (s : State), (s.wf = true) ∧ (s.readMute .host = false) ∧ (n < 8) ∧ (a.toNat / 0x100000 = 0x18 + n) ∧ (a.toNat % 4 = 0) ∧ (s.bit (BRG.PEER_WIN_EN n) = true) ∧ (s.twUp false = true) ∧ (s.brg.queue = []) ∧ ((s.brg.sent.filter s.outstanding).length < 16) :=
  ⟨0x1F00010, 7, ((wAct.setBit (BRG.PEER_WIN_EN 7) true).set (BRG.PEER_WIN_TARGET 7) 3), by decide +kernel⟩

theorem wit_BridgeWindows_8 : ∃ (a : BitVec 25) (n : Nat) (s : State), (s.wf = true) ∧ (s.mute .host = false) ∧ (n < 8) ∧ (a.toNat / 0x100000 = 0x18 + n) ∧ (a.toNat % 4 = 0) ∧ (s.bit (BRG.PEER_WIN_EN n) = true) ∧ (s.twUp false = false) ∧ (s.brg.perr.length < 8) :=
  ⟨0x1F00010, 7, ((wRun.setBit (BRG.PEER_WIN_EN 7) true).set (BRG.PEER_WIN_TARGET 7) 3), by decide +kernel⟩

theorem wit_BridgeWindows_9 : ∃ (tag : BitVec 8) (q : OutReq) (s : State), (s.wf = true) ∧ (s.brg.sent.find? (fun q => q.tag == tag.toNat && q.kind != 2) = some q) ∧ (q.kind = 1) ∧ (q.ini = .host) ∧ (q.drop = false) ∧ (q.at_ + s.peerTimeout ≤ s.nowQ) ∧ (s.brg.queue = []) :=
  ⟨9, { kind := 1, ini := .host, off := 4, addr := 4, data := 0, tag := 9 }, { wAct with tim := { wRun.tim with wt := 4294967296000000000 }, brg := { wAct.brg with sent := [{ kind := 1, ini := .host, off := 4, addr := 4, data := 0, tag := 9 }] } }, by decide +kernel⟩

theorem wit_BridgeWindows_10 : ∃ (s : State), (s.wf = true) ∧ (s.brg.perr.length < 8) :=
  ⟨{ wRun with brg := { wRun.brg with perr := List.replicate 7 [1, 2, 3, 4] } }, by decide +kernel⟩

theorem wit_BridgeWindows_11 : ∃ (s : State), (s.wf = true) ∧ (s.brg.perr.length = 8) :=
  ⟨{ wRun with brg := { wRun.brg with perr := List.replicate 8 [1, 2, 3, 4] } }, by decide +kernel⟩

theorem wit_BridgeWindows_12 : ∃ (ini : Initiator) (s : State), (s.wf = true) ∧ (s.mayRead ini (BRG.PERR_LOG 3) = true) :=
  ⟨.host, { wRun with brg := { wRun.brg with perr := List.replicate 2 [1, 2, 3, 4] } }, by decide +kernel⟩

theorem wit_PeerBridge_1 : ∃ (h : TwHead) (ws : List Word) (n : Fin 8) (u : State) (s : State), (s.wf = true) ∧ (s.inboundFull = false) ∧ (s.twTake 3 h = some u) ∧ (u.twUp false = true) ∧ (bitsOf (ws.getD 1 0) 24 0 = BRG.BRG_SEM n) ∧ (u.semLocked n = false) ∧ (u.peerWriteWaits = false) :=
  ⟨wHead, [1 * 268435456 + 9 * 65536, BitVec.ofNat 32 (BRG.BRG_SEM 3), 0x77], 3, wTook ((wPair.wr (BRG.BRG_SEM 3) 0x55)) 3, (wPair.wr (BRG.BRG_SEM 3) 0x55), by decide +kernel⟩

theorem wit_PeerBridge_2 : ∃ (h : TwHead) (ws : List Word) (n : Fin 8) (u : State) (s : State), (s.wf = true) ∧ (s.inboundFull = false) ∧ (s.twTake 3 h = some u) ∧ (bitsOf (ws.getD 1 0) 24 0 = BRG.BRG_SEM n) ∧ (u.semLocked n = true ∨ u.peerWriteWaits = true) :=
  ⟨wHead, [1 * 268435456 + 9 * 65536, BitVec.ofNat 32 (BRG.BRG_SEM 3), 0x77], 3, wTook ({ (wPair.wr (BRG.BRG_SEM 3) 0x55).setBit BRG.BRG_STATUS_LOCK_IN true with brg := { wPair.brg with lockIn := some (3, 0) } }) 3, { (wPair.wr (BRG.BRG_SEM 3) 0x55).setBit BRG.BRG_STATUS_LOCK_IN true with brg := { wPair.brg with lockIn := some (3, 0) } }, by decide +kernel⟩

theorem wit_PeerBridge_3 : ∃ (s : State), (s.inboundFull = true) :=
  ⟨{ wRun with brg := { wRun.brg with waits := List.replicate 16 { ini := .peer, tag := some 1, addr := 0, w := none } } }, by decide +kernel⟩

theorem wit_PeerBridge_4 : ∃ (h : TwHead) (ws : List Word) (n : Fin 8) (u : State) (s : State), (s.wf = true) ∧ (s.inboundFull = false) ∧ (s.twTake 3 h = some u) ∧ (u.stage = stageRun) ∧ (bitsOf (ws.getD 1 0) 24 0 = BRG.BRG_SEM n) ∧ (u.semLocked n = false) :=
  ⟨wHead, [2 * 268435456 + 9 * 65536, BitVec.ofNat 32 (BRG.BRG_SEM 3), 0x77], 3, wTook ((wPair.wr (BRG.BRG_SEM 3) 0x55)) 3, (wPair.wr (BRG.BRG_SEM 3) 0x55), by decide +kernel⟩

theorem wit_PeerBridge_5 : ∃ (h : TwHead) (ws : List Word) (n : Fin 8) (u : State) (s : State), (s.wf = true) ∧ (s.twTake 3 h = some u) ∧ (u.twUp false = true) ∧ (bitsOf (ws.getD 1 0) 24 0 = BRG.BRG_SEM n) ∧ (u.bit BRG.BRG_STATUS_LOCK_OUT = false) ∧ (u.brg.sent = []) :=
  ⟨wHead, [3 * 268435456 + 9 * 65536, BitVec.ofNat 32 (BRG.BRG_SEM 3), 0x77], 3, wTook ((wPair.wr (BRG.BRG_SEM 3) 0x55)) 3, (wPair.wr (BRG.BRG_SEM 3) 0x55), by decide +kernel⟩

theorem wit_PeerBridge_6 : ∃ (h : TwHead) (ws : List Word) (n : Fin 8) (u : State) (s : State), (s.wf = true) ∧ (s.twTake 3 h = some u) ∧ (u.twUp false = true) ∧ (bitsOf (ws.getD 1 0) 24 0 = BRG.BRG_SEM n) ∧ (u.bit BRG.BRG_STATUS_LOCK_OUT = true) :=
  ⟨wHead, [3 * 268435456 + 9 * 65536, BitVec.ofNat 32 (BRG.BRG_SEM 3), 0x77], 3, wTook (((wPair.wr (BRG.BRG_SEM 3) 0x55).setBit BRG.BRG_STATUS_LOCK_OUT true)) 3, ((wPair.wr (BRG.BRG_SEM 3) 0x55).setBit BRG.BRG_STATUS_LOCK_OUT true), by decide +kernel⟩

theorem wit_PeerBridge_7 : ∃ (h : TwHead) (ws : List Word) (n : Fin 8) (u : State) (s : State), (s.wf = true) ∧ (s.twTake 3 h = some u) ∧ (u.twUp false = true) ∧ (bitsOf (ws.getD 1 0) 24 0 = BRG.BRG_SEM n) ∧ (u.semLocked n = true) ∧ (u.brg.waits = []) ∧ (u.stage = stageRun) :=
  ⟨wHead, [4 * 268435456 + 9 * 65536, BitVec.ofNat 32 (BRG.BRG_SEM 3), 0x77], 3, wTook ({ (wPair.wr (BRG.BRG_SEM 3) 0x55).setBit BRG.BRG_STATUS_LOCK_IN true with brg := { wPair.brg with lockIn := some (3, 0) } }) 3, { (wPair.wr (BRG.BRG_SEM 3) 0x55).setBit BRG.BRG_STATUS_LOCK_IN true with brg := { wPair.brg with lockIn := some (3, 0) } }, by decide +kernel⟩

theorem wit_PeerBridge_8 : ∃ (h : TwHead) (ws : List Word) (n : Fin 8) (u : State) (s : State), (s.wf = true) ∧ (s.twTake 3 h = some u) ∧ (u.twUp false = true) ∧ (bitsOf (ws.getD 1 0) 24 0 = BRG.BRG_SEM n) ∧ (u.semLocked n = true) ∧ (u.brg.waits = []) :=
  ⟨wHead, [5 * 268435456 + 9 * 65536, BitVec.ofNat 32 (BRG.BRG_SEM 3), 0x77], 3, wTook ({ (wPair.wr (BRG.BRG_SEM 3) 0x55).setBit BRG.BRG_STATUS_LOCK_IN true with brg := { wPair.brg with lockIn := some (3, 0) } }) 3, { (wPair.wr (BRG.BRG_SEM 3) 0x55).setBit BRG.BRG_STATUS_LOCK_IN true with brg := { wPair.brg with lockIn := some (3, 0) } }, by decide +kernel⟩

theorem wit_PeerBridge_9 : ∃ (h : TwHead) (ws : List Word) (n : Fin 8) (u : State) (s : State), (s.wf = true) ∧ (s.twTake 3 h = some u) ∧ (u.twUp false = true) ∧ (bitsOf (ws.getD 1 0) 24 0 = BRG.BRG_SEM n) ∧ (u.semLocked n = false) :=
  ⟨wHead, [5 * 268435456 + 9 * 65536, BitVec.ofNat 32 (BRG.BRG_SEM 3), 0x77], 3, wTook ((wPair.wr (BRG.BRG_SEM 3) 0x55)) 3, (wPair.wr (BRG.BRG_SEM 3) 0x55), by decide +kernel⟩

theorem wit_PeerBridge_10 : ∃ (n : Nat) (t0 : Nat) (s : State), (s.wf = true) ∧ (s.brg.lockIn = some (n, t0)) ∧ (t0 + s.lockTimeout ≤ s.nowQ) ∧ (s.brg.waits = []) :=
  ⟨3, 0, { { (wPair.wr (BRG.BRG_SEM 3) 0x55).setBit BRG.BRG_STATUS_LOCK_IN true with brg := { wPair.brg with lockIn := some (3, 0) } } with tim := { wRun.tim with wt := 4294967296000000000 } }, by decide +kernel⟩

theorem wit_PeerBridge_11 : ∃ (ini : Initiator) (s : State), (s.wf = true) ∧ (s.mayWrite ini BRG.PEER_LOCK_CMD = true) ∧ (s.bit BRG.PEER_LOCK_STATUS_BUSY = false) ∧ (s.bit BRG.BRG_STATUS_LOCK_OUT = false) ∧ (s.twUp false = true) ∧ (s.brg.queue = []) ∧ ((s.brg.sent.filter s.outstanding).length < 16) :=
  ⟨.host, (wAct.set BRG.PEER_LOCK_ADDR_SEM 5).wr BRG.PEER_LOCK_DATA 0x99, by decide +kernel⟩

theorem wit_PeerBridge_12 : ∃ (ini : Initiator) (s : State), (s.wf = true) ∧ (s.mayWrite ini BRG.PEER_LOCK_CMD = true) ∧ (s.bit BRG.PEER_LOCK_STATUS_BUSY = true) :=
  ⟨.host, wAct.setBit BRG.PEER_LOCK_STATUS_BUSY true, by decide +kernel⟩

theorem wit_PeerBridge_13 : ∃ (ini : Initiator) (s : State), (s.wf = true) ∧ (s.mayWrite ini BRG.PEER_LOCK_CMD = true) ∧ (s.bit BRG.PEER_LOCK_STATUS_BUSY = false) ∧ (s.twUp false = true) ∧ (s.brg.queue = []) ∧ ((s.brg.sent.filter s.outstanding).length < 16) :=
  ⟨.host, (wAct.set BRG.PEER_LOCK_ADDR_SEM 5).wr BRG.PEER_LOCK_DATA 0x99, by decide +kernel⟩

theorem wit_PeerBridge_14 : ∃ (ini : Initiator) (s : State), (s.wf = true) ∧ (s.mayWrite ini BRG.PEER_LOCK_CMD = true) ∧ (s.bit BRG.PEER_LOCK_STATUS_BUSY = false) ∧ (s.twUp false = true) ∧ (s.brg.queue = []) ∧ ((s.brg.sent.filter s.outstanding).length < 16) :=
  ⟨.host, (wAct.set BRG.PEER_LOCK_ADDR_SEM 5).wr BRG.PEER_LOCK_DATA 0x99, by decide +kernel⟩

theorem wit_PeerBridge_15 : ∃ (h : TwHead) (ws : List Word) (q : OutReq) (u : State) (s : State), (s.wf = true) ∧ (s.twTake 3 h = some u) ∧ (u.brg.sent.find? (fun q => q.tag == bitsOf (ws.getD 0 0) 23 16) = some q) ∧ (q.kind = 3) ∧ (bitsOf (ws.getD 0 0) 27 24 = 0) ∧ (u.brg.queue = []) :=
  ⟨wHead, [0x80090000, 0, 0x77], { kind := 3, ini := .hart1, off := 0, addr := 4, data := 0, tag := 9 }, wTook ({ wPair with brg := { wPair.brg with sent := [{ kind := 3, ini := .hart1, off := 0, addr := 4, data := 0, tag := 9 }] } }) 3, { wPair with brg := { wPair.brg with sent := [{ kind := 3, ini := .hart1, off := 0, addr := 4, data := 0, tag := 9 }] } }, by decide +kernel⟩

theorem wit_PeerBridge_16 : ∃ (h : TwHead) (ws : List Word) (q : OutReq) (u : State) (s : State), (s.wf = true) ∧ (s.twTake 3 h = some u) ∧ (u.brg.sent.find? (fun q => q.tag == bitsOf (ws.getD 0 0) 23 16 && q.kind == 2) = some q) ∧ (bitsOf (ws.getD 0 0) 27 24 = 1) ∧ (u.brg.queue = []) ∧ (u.brg.perr.length < 8) :=
  ⟨wHead, [0x91090000, 0, 0], { kind := 2, ini := .hart1, off := 0x700004, addr := 4, data := 0, tag := 9 }, wTook ({ wPair with brg := { wPair.brg with sent := [{ kind := 2, ini := .hart1, off := 0x700004, addr := 4, data := 0, tag := 9 }] } }) 3, { wPair with brg := { wPair.brg with sent := [{ kind := 2, ini := .hart1, off := 0x700004, addr := 4, data := 0, tag := 9 }] } }, by decide +kernel⟩

theorem wit_PeerBridge_17 : ∃ (s : State), (s.wf = true) ∧ (s.bit BRG.BRG_STATUS_TW_LINK = true) ∧ (s.bit TWP.PAIR_STATUS_TW_UP = true) ∧ (s.brg.lockIn = none) :=
  ⟨{ (wPair.setBit TWP.PAIR_STATUS_TW_UP true) with brg := { wPair.brg with sent := [{ kind := 2, ini := .hart1, off := 0x700004, addr := 4, data := 0, tag := 9 }] } }, by decide +kernel⟩

theorem wit_PeerBridge_18 : ∃ (s : State), (s.wf = true) :=
  ⟨wPair.setBit BRG.BRG_STATUS_TW_LINK false, by decide +kernel⟩

theorem wit_IncrementClamped_1 : ∃ (ini : Initiator) (s : State), (s.wf = true) ∧ (s.mayWrite ini TIM.WT_INCR_FRAC = true) ∧ (s.steerBlocked = false) :=
  ⟨.host, wRun, by decide +kernel⟩

theorem wit_IncrementClamped_2 : ∃ (ini : Initiator) (v : Int) (w : Word) (s : State), (s.wf = true) ∧ (s.mayWrite ini TIM.WT_INCR_NS = true) ∧ (s.steerBlocked = false) ∧ (v = ((bitsOf w 3 0 * 4294967296 + (s.rd TIM.WT_INCR_FRAC).toNat : Nat) : Int)) ∧ (8585639625 ≤ v) ∧ (v ≤ 8594229559) :=
  ⟨.hart0, 8589934597, 0xF2, wRun.wr TIM.WT_INCR_FRAC 5, by decide +kernel⟩

theorem wit_IncrementClamped_3 : ∃ (ini : Initiator) (v : Int) (w : Word) (s : State), (s.wf = true) ∧ (s.mayWrite ini TIM.WT_INCR_NS = true) ∧ (s.steerBlocked = false) ∧ (v = ((bitsOf w 3 0 * 4294967296 + (s.rd TIM.WT_INCR_FRAC).toNat : Nat) : Int)) ∧ (v < 8585639625) :=
  ⟨.hart0, 8585639624, 1, wRun.wr TIM.WT_INCR_FRAC 0xFFBE76C8, by decide +kernel⟩

theorem wit_IncrementClamped_4 : ∃ (ini : Initiator) (v : Int) (w : Word) (s : State), (s.wf = true) ∧ (s.mayWrite ini TIM.WT_INCR_NS = true) ∧ (s.steerBlocked = false) ∧ (v = ((bitsOf w 3 0 * 4294967296 + (s.rd TIM.WT_INCR_FRAC).toNat : Nat) : Int)) ∧ (8594229559 < v) :=
  ⟨.peer, 8594229560, 2, wRun.wr TIM.WT_INCR_FRAC 0x418938, by decide +kernel⟩

theorem wit_IncrementClamped_5 : ∃ (i : Int) (s : State), (s.stage ≠ 0) ∧ (s.wak.power = .active) ∧ (s.pllLost 0 = false) ∧ (s.tim.align = none) ∧ (s.tim.loadPend = none) ∧ (s.tim.incrPend = some i) :=
  ⟨8594229559, { wRun with tim := { wRun.tim with incrPend := some 8594229559, phase := -3000000, wt := 99 } }, by decide +kernel⟩

theorem wit_ArmStopDuringPulse_1 : ∃ (ini : Initiator) (p : Fin 16) (s : State), (s.wf = true) ∧ (s.mayWrite ini (TIO.PIN_CMD p) = true) ∧ (s.pinMode p = pinOutput) ∧ (s.pinLimits p = true) ∧ (s.nowQ + 400 ≤ s.pinStart p ∨ s.get (TIO.COUNT_PULSES p) = 0) ∧ ((s.pin p).active = true) :=
  ⟨.hart0, 3, (wOut.setPin 3 { active := true, trailAt := 16, train := some wTrain, driving := true }).set (TIO.START_SEC_LO_SEC_LO 3) 1, by decide +kernel⟩

theorem wit_ArmStopDuringPulse_2 : ∃ (ini : Initiator) (p : Fin 16) (s : State), (s.wf = true) ∧ (s.mayWrite ini (TIO.PIN_CMD p) = true) ∧ (s.pinMode p = pinOutput) ∧ (s.pinLimits p = true) ∧ (s.pinStart p < s.nowQ + 400) ∧ (s.get (TIO.COUNT_PULSES p) ≠ 0) ∧ ((s.pin p).active = true) :=
  ⟨.hart0, 3, ({ (wOut.setPin 3 { active := true, trailAt := 16, train := some wTrain, driving := true }) with tim := { wOut.tim with wt := 5000 * 1073741824 } } : State), by decide +kernel⟩

theorem wit_ArmStopDuringPulse_3 : ∃ (ini : Initiator) (p : Fin 16) (s : State), (s.wf = true) ∧ (s.mayWrite ini (TIO.PIN_CMD p) = true) ∧ ((s.pin p).active = true) :=
  ⟨.hart0, 3, (wOut.setPin 3 { active := true, trailAt := 16, train := some wTrain, driving := true }), by decide +kernel⟩

theorem wit_ArmStopDuringPulse_4 : ∃ (p : Fin 16) (r : Train) (s : State), (s.wf = true) ∧ ((s.pin p).train = some r) ∧ (s.pinMode p = pinOutput) ∧ ((s.pin p).active = false) ∧ (s.gated = false) ∧ (s.leadAt p r r.next ≤ s.nowQ) :=
  ⟨3, wTrain, { wOut.setPin 3 { train := some wTrain, driving := true } with tim := { wOut.tim with wt := 10 * 1073741824 } }, by decide +kernel⟩

theorem wit_ArmStopDuringPulse_5 : ∃ (p : Fin 16) (s : State), ((s.pin p).active = true) :=
  ⟨3, (wOut.setPin 3 { active := true, trailAt := 16, train := some wTrain, driving := true }), by decide +kernel⟩

theorem wit_ArmStopDuringPulse_6 : ∃ (p : Fin 16) (s : State), ((s.pin p).active = true) ∧ (s.nowQ < (s.pin p).trailAt) :=
  ⟨3, (wOut.setPin 3 { active := true, trailAt := 16, train := some wTrain, driving := true }), by decide +kernel⟩

theorem wit_ArmStopDuringPulse_7 : ∃ (p : Fin 16) (r : Train) (s : State), (s.wf = true) ∧ (s.gated = false) ∧ ((s.pin p).active = true) ∧ ((s.pin p).trailAt ≤ s.nowQ) ∧ ((s.pin p).defer = some (some r)) :=
  ⟨3, wTrain, { wOut.setPin 3 { active := true, trailAt := 16, train := some wTrain, driving := true, defer := some (some wTrain) } with tim := { wOut.tim with wt := 16 * 1073741824 } }, by decide +kernel⟩

theorem wit_ArmStopDuringPulse_8 : ∃ (p : Fin 16) (s : State), (s.wf = true) ∧ (s.gated = false) ∧ ((s.pin p).active = true) ∧ ((s.pin p).trailAt ≤ s.nowQ) ∧ ((s.pin p).defer = some none) :=
  ⟨3, { wOut.setPin 3 { active := true, trailAt := 16, train := some wTrain, driving := true, defer := some none } with tim := { wOut.tim with wt := 16 * 1073741824 } }, by decide +kernel⟩

theorem wit_CaptureRegisters_1 : ∃ (p : Fin 16) (e : Nat × Bool) (r : List (Nat × Bool)) (s : State), (s.mute .jtag = false) ∧ (s.bit (TIO.PIN_CFG_EVT_EN p) = false) ∧ ((s.pin p).fifo = e :: r) :=
  ⟨3, (40000000000000000007, true), [(9, false)], wIn.setPin 3 { fifo := [(40000000000000000007, true), (9, false)] }, by decide +kernel⟩

theorem wit_CaptureRegisters_2 : ∃ (ini : Initiator) (p : Fin 16) (e : Nat × Bool) (r : List (Nat × Bool)) (s : State), (s.wf = true) ∧ (s.mayRead ini (TIO.CAP_SEC_HI p) = true) ∧ (s.bit (TIO.PIN_CFG_EVT_EN p) = false) ∧ ((s.pin p).fifo = e :: r) :=
  ⟨.host, 3, (40000000000000000007, true), [(9, false)], wIn.setPin 3 { fifo := [(40000000000000000007, true), (9, false)] }, by decide +kernel⟩

theorem wit_CaptureRegisters_3 : ∃ (p : Fin 16) (s : State), (s.mute .jtag = false) ∧ (s.bit (TIO.PIN_CFG_EVT_EN p) = true) :=
  ⟨3, (wIn.setBit (TIO.PIN_CFG_EVT_EN 3) true).setPin 3 { fifo := [(7, true), (9, false)] }, by decide +kernel⟩

theorem wit_CaptureRegisters_4 : ∃ (ini : Initiator) (p : Fin 16) (s : State), (s.mayRead ini (TIO.CAP_SEC_HI p) = true) ∧ (s.bit (TIO.PIN_CFG_EVT_EN p) = true) :=
  ⟨.peer, 3, (wIn.setBit (TIO.PIN_CFG_EVT_EN 3) true).setPin 3 { fifo := [(7, true), (9, false)] }, by decide +kernel⟩

theorem wit_CaptureRegisters_5 : ∃ (p : Fin 16) (e : Nat × Bool) (s : State), (s.wf = true) ∧ (s.bit (TIO.PIN_CFG_EVT_EN p) = true) ∧ (s.bit (TIO.PIN_CFG_PAIRED p) = false) ∧ (((s.pin p).fifo.drop (s.pin p).framed).head? = some e) ∧ (e.1 + max 1 (s.get (TIO.EVT_CFG_EVT_HOLD p)) * usQ ≤ s.nowQ) :=
  ⟨3, (7, true), { (wIn.setBit (TIO.PIN_CFG_EVT_EN 3) true).setPin 3 { fifo := [(7, true), (9, false)] } with tim := { wIn.tim with wt := 900000000 * 1073741824 } }, by decide +kernel⟩

theorem wit_KeyDataCleared_1 : ∃ (k : Fin 10) (s : State), (s.wf = true) ∧ (s.mayWrite .sec (KEY.KEY_DATA k) = true) :=
  ⟨9, wRun, by decide +kernel⟩

theorem wit_KeyDataCleared_3 : ∃ (r : KeyRun) (s : State), (s.wf = true) ∧ (s.key.run = some r) :=
  ⟨{ op := 1, slot := 5, res := 0, store := some [1, 2, 3, 4, 5, 6, 7, 8, 0x80000000] }, { wRun.wr (KEY.KEY_DATA 2) 77 with key := { wRun.key with run := some { op := 1, slot := 5, res := 0, store := some [1, 2, 3, 4, 5, 6, 7, 8, 0x80000000] } } }, by decide +kernel⟩

theorem wit_KeyDataCleared_4 : ∃ (ini : Initiator) (k : BitVec 10) (c : Instr) (s : State), (s.wf = true) ∧ (s.mayWrite ini KEY.KEY_CMD = true) ∧ (s.bit KEY.KEY_STATUS_BUSY = false) ∧ (s.zeroizing = true) ∧ (c ∈ [.keyWrite ini k, .keyDerive ini k, .keyUnwrap ini k, .keyErase ini k, .keyLock ini k, .keyInfo ini k]) :=
  ⟨.sec, 7, .keyDerive .sec 7, (wRun.setBit KEY.KEY_STATUS_ZEROIZING true).wr (KEY.KEY_DATA 0) 5, by decide +kernel⟩

theorem wit_KeyDataCleared_5 : ∃ (ini : Initiator) (r : KeyRun) (w : Word) (s : State), (s.wf = true) ∧ (s.mayWrite ini KEY.LC_CMD = true) ∧ (s.bit KEY.OTP_STATUS_BUSY = false) ∧ (bitsOf w 31 16 = 0x4C43) ∧ (lcNext (s.get KEY.LC_STATUS_LC_STATE) = some (bitsOf w 2 0)) ∧ (bitsOf w 2 0 ≠ 7) ∧ (s.copies = []) ∧ (s.frames = []) ∧ (s.key.run = some r) :=
  ⟨.sec, { op := 6, slot := 5, res := 3, store := none }, 0x4C430003, { wRun.wr (KEY.KEY_DATA 9) 77 with key := { wRun.key with run := some { op := 6, slot := 5, res := 3, store := none } } }, by decide +kernel⟩

theorem wit_KeysForSecurityPair_1 : ∃ (s : State), (s.wf = true) ∧ (s.mute .sec = false) :=
  ⟨wRun, by decide +kernel⟩

theorem wit_KeysForSecurityPair_2 : ∃ (ini : Initiator) (a : BitVec 25) (s : State), (s.wf = true) ∧ (ini ≠ .sec) ∧ (s.mute ini = false) ∧ (a.toNat / 0x100000 = 12) ∧ (isMapped a.toNat = true) ∧ (a.toNat % 4 = 0) :=
  ⟨.hart0, 0xC00000, wRun, by decide +kernel⟩

theorem wit_KeysForSecurityPair_3 : ∃ (ini : Initiator) (a : Nat) (s : State), (s.wf = true) ∧ (ini ≠ .sec) ∧ (a / 0x100000 = 12) ∧ (isMapped a = true) :=
  ⟨.host, KEY.KEY_ATTR_IN, wRun.wr KEY.KEY_ATTR_IN 5, by decide +kernel⟩

theorem wit_KeysForSecurityPair_4 : ∃ (a : Nat) (s : State), (s.wf = true) ∧ (s.mute .jtag = false) ∧ (a / 0x100000 = 12) ∧ (isMapped a = true) ∧ (a % 4 = 0) :=
  ⟨KEY.KEY_ATTR_IN, wRun.wr KEY.KEY_ATTR_IN 5, by decide +kernel⟩

theorem wit_KeysForSecurityPair_5 : ∃ (ini : Initiator) (k : BitVec 10) (w : Word) (c : Instr) (s : State), (s.wf = true) ∧ (ini ≠ .sec) ∧ (s.mute ini = false) ∧ (c ∈ [.keyWrite ini k, .keyDerive ini k, .keyUnwrap ini k, .keyErase ini k, .keyLock ini k, .keyInfo ini k, .lcTransition ini w, .arbAdvance ini w, .splitToggle ini w]) :=
  ⟨.hart0, 3, 7, .keyErase .hart0 3, wRun, by decide +kernel⟩

theorem wit_MachineTimer_1 : ∃ (s : State), (s.stage ≠ 0) ∧ (s.wak.power = .active) ∧ (s.pllLost 0 = false) ∧ ((∀ sec, s.get (pairState sec) ≠ 2)) ∧ (s.upd.run = none) ∧ (s.cpu.sub < 499) :=
  ⟨{ wRun with cpu := { wRun.cpu with sub := 498, mtime := 3 } }, by decide +kernel⟩

theorem wit_MachineTimer_2 : ∃ (s : State), (s.stage ≠ 0) ∧ (s.wak.power = .active) ∧ (s.pllLost 0 = false) ∧ ((∀ sec, s.get (pairState sec) ≠ 2)) ∧ (s.upd.run = none) ∧ (s.cpu.sub = 499) :=
  ⟨{ wRun with cpu := { wRun.cpu with sub := 499, mtime := 18446744073709551615 } }, by decide +kernel⟩

theorem wit_MachineTimer_3 : ∃ (ini : Initiator) (d : Fin 2) (w : Word) (c : Instr), (c ∈ [.wtSet ini, .wtStep ini, .wtIncrWrite ini w, .wtAdjWrite ini w, .domOffAdjWrite ini d w, .domRateAdjWrite ini d w, .domSetHiWrite ini d w, .alignmentComplete]) :=
  ⟨.host, 1, 5, .wtStep .host, by decide +kernel⟩

theorem wit_PayloadCheck_1 : ∃ (r : ImgRec) (s : State), (s.wf = true) ∧ (s.stage = 3) ∧ (r = s.imgRec s.boot.src s.boot.off) ∧ (s.recOk s.boot.src (s.bootLen s.boot.src) false r = true) ∧ (r.typ = 15) :=
  ⟨({ wRun.set SYS.SYS_STATUS_STAGE 3 with boot := { src := .host, host := wImg (wRec 15 0 []), off := 256 } } : State).imgRec .host 256, { wRun.set SYS.SYS_STATUS_STAGE 3 with boot := { src := .host, host := wImg (wRec 15 0 []), off := 256 } }, by decide +kernel⟩

theorem wit_PayloadCheck_2 : ∃ (s : State), (s.wf = true) ∧ (s.stage = 4) ∧ (s.bootHashOk s.boot.src = true) ∧ (s.consistent = true) :=
  ⟨{ wRun.set SYS.SYS_STATUS_STAGE 4 with boot := { src := .host, host := zeros 8 ++ leBytes [256, 0] ++ zeros 32 ++ sha [] } }, by decide +kernel⟩

theorem wit_PayloadCheck_3 : ∃ (s : State), (s.wf = true) ∧ (s.boot.payload = true) ∧ (s.payHashOk s.boot.src = true) :=
  ⟨{ wRun with boot := { src := .host, host := zeros 8 ++ leBytes [256, 0] ++ zeros 32 ++ sha [], payload := true } }, by decide +kernel⟩

theorem wit_PayloadCheck_4 : ∃ (s : State), (s.wf = true) ∧ (s.boot.payload = true) ∧ (s.payHashOk s.boot.src = false) :=
  ⟨{ wRun with boot := { src := .host, host := zeros 8 ++ leBytes [256, 4] ++ zeros 32 ++ sha [], payload := true } }, by decide +kernel⟩

theorem wit_UpdateStatus_1 : ∃ (ini : Initiator) (n : Nat) (ses : BitVec 16) (mode : BitVec 2) (force : Bool) (c : Instr) (s : State), (s.wf = true) ∧ (s.mayWrite ini UPD.UPD_CMD = true) ∧ (updNo ini = some n) ∧ (c ∈ [.updOpen ini, .updClose ini ses, .updBegin ini ses, .updWriteBlock ini ses, .updVerify ini ses, .updActivate ini ses mode force, .updConfirm ini, .updRevert ini, .updRead ini]) :=
  ⟨.host, 0, 5, 1, true, .updOpen .host, { wRun with upd := { wRun.upd with owner := some 0, session := 5 } }, by decide +kernel⟩

theorem wit_UpdateStatus_2 : ∃ (ini : Initiator) (n : Nat) (s : State), (s.wf = true) ∧ (s.mayWrite ini UPD.UPD_CMD = true) ∧ (updNo ini = some n) ∧ (s.upd.run = none) ∧ (s.upd.owner.isSome = true) :=
  ⟨.hart0, 1, { wRun with upd := { wRun.upd with owner := some 0, session := 5 } }, by decide +kernel⟩

theorem wit_UpdateStatus_3 : ∃ (n : Nat) (s : State), (s.wf = true) ∧ (s.upd.run = some (.erase n)) :=
  ⟨2, { wRun with upd := { wRun.upd with run := some (.erase 2), blocks := 1 } }, by decide +kernel⟩

theorem wit_UpdateStatus_4 : ∃ (n : Nat) (i : Nat) (s : State), (s.wf = true) ∧ (s.upd.run = some (.block n i)) :=
  ⟨3, 2, { wRun with upd := { wRun.upd with run := some (.block 3 2), data := [1, 2] } }, by decide +kernel⟩

theorem wit_UpdateStatus_5 : ∃ (r : UpdRun) (n : Nat) (s : State), (s.wf = true) ∧ (s.upd.run = some r) ∧ (r.recording = some n) :=
  ⟨.begin_ 1, 1, { wRun with upd := { wRun.upd with run := some (.begin_ 1) } }, by decide +kernel⟩

theorem wit_UpdateStatus_6 : ∃ (ini : Initiator) (n : Nat), (updNo ini = some n) :=
  ⟨.hart0, 1, by decide +kernel⟩

theorem wit_UpdateBusy_1 : ∃ (ini : Initiator) (n : Nat) (ses : BitVec 16) (mode : BitVec 2) (force : Bool) (c : Instr) (s : State), (s.mayWrite ini UPD.UPD_CMD = true) ∧ (updNo ini = some n) ∧ (s.upd.run.isSome = true) ∧ (c ∈ [.updOpen ini, .updClose ini ses, .updBegin ini ses, .updWriteBlock ini ses, .updVerify ini ses, .updActivate ini ses mode force, .updConfirm ini, .updRevert ini, .updRead ini]) :=
  ⟨.host, 0, 5, 1, true, .updOpen .host, { wRun with upd := { wRun.upd with run := some (.verify 1), results := [0, 0, 0, 0] } }, by decide +kernel⟩

theorem wit_UpdateBusy_2 : ∃ (ini : Initiator) (n : Nat) (s : State), (s.wf = true) ∧ (s.mayWrite ini UPD.UPD_CMD = true) ∧ (updNo ini = some n) ∧ (s.upd.run = none) ∧ (s.running = 3) ∧ (s.stage = stageRun) ∧ (s.runBank < 2) :=
  ⟨.peer, 3, { wRun with boot := { wRun.boot with record := { wRun.boot.record with word2 := 0x230 } } }, by decide +kernel⟩

theorem wit_UpdateBusy_3 : ∃ (ini : Initiator) (n : Nat) (s : State), (s.wf = true) ∧ (s.mayWrite ini UPD.UPD_CMD = true) ∧ (updNo ini = some n) ∧ (s.upd.run = none) ∧ (s.running = 3) :=
  ⟨.peer, 3, { wRun with boot := { wRun.boot with record := { wRun.boot.record with word2 := 0x230 } } }, by decide +kernel⟩

theorem wit_UpdateBusy_4 : ∃ (ini : Initiator) (n : Nat) (s : State), (s.wf = true) ∧ (s.mayWrite ini UPD.UPD_CMD = true) ∧ (updNo ini = some n) ∧ (s.upd.run = none) ∧ (s.boot.src ≠ .host) ∧ (4 ≤ s.get UPD.RD_LEN_BYTES) ∧ (s.get UPD.RD_LEN_BYTES ≤ 4096) ∧ (s.get UPD.RD_LEN_BYTES % 4 = 0) ∧ ((s.rd UPD.RD_OFF).toNat % 4 = 0) ∧ ((s.rd UPD.RD_OFF).toNat + s.get UPD.RD_LEN_BYTES ≤ s.bootLen (.bank s.runBank) + s.payLen (.bank s.runBank)) :=
  ⟨.hart0, 1, { (wRun.set UPD.RD_LEN_BYTES 8).wr UPD.RD_OFF 8 with boot := { wRun.boot with flash := [(0x100009, 1), (0x10000a, 0), (0x10000b, 0), (0x10000c, 0), (0x10000d, 0), (0x10000e, 0), (0x10000f, 0)] } }, by decide +kernel⟩

theorem wit_RevertOfTrial_1 : ∃ (ini : Initiator) (n : Nat) (s : State), (s.wf = true) ∧ (s.mayWrite ini UPD.UPD_CMD = true) ∧ (updNo ini = some n) ∧ (s.upd.run = none) ∧ (s.running = 3) ∧ (s.runBank < 2) :=
  ⟨.host, 0, { wRun with boot := { wRun.boot with src := .bank 1, record := { wRun.boot.record with word2 := 0x347, seq := 4294967295, hashA := [1,2,3,4,5,6,7,8] } } }, by decide +kernel⟩

theorem wit_RevertOfTrial_2 : ∃ (ini : Initiator) (n : Nat) (s : State), (s.wf = true) ∧ (s.mayWrite ini UPD.UPD_CMD = true) ∧ (updNo ini = some n) ∧ (s.upd.run = none) ∧ (s.running ≠ 3) :=
  ⟨.host, 0, wRun, by decide +kernel⟩

theorem wit_RevertOfTrial_3 : ∃ (n : Nat) (s : State), (s.wf = true) ∧ (s.upd.run = some (.revert n)) :=
  ⟨0, { wRun with upd := { wRun.upd with run := some (.revert 0), next := { seq := 9, word2 := 0x451 } } }, by decide +kernel⟩

theorem wit_RevertOfTrial_4 : ∃ (density : Nat) (r : BankRec) (s : State), (s.wf = true) ∧ (s.stage = 1) ∧ (s.bootMode ≠ 2) ∧ (s.bootMode ≠ 3) ∧ (0x1000000 ≤ density) ∧ (density ≤ 0x10000000) ∧ (r = (recordOf (s.copyOf 0) (s.copyOf 1) (s.copyErased 0 && s.copyErased 1)).1) ∧ (r.trial = false) :=
  ⟨0x2000000, {}, wRun.set SYS.SYS_STATUS_STAGE 1, by decide +kernel⟩

theorem wit_RevertOfTrial_5 : ∃ (s : State), (s.wf = true) ∧ (s.mayWrite .hart0 SYS.SYS_CMD = true) ∧ (s.upd.run = none) ∧ (s.key.otp = none) :=
  ⟨({ wRun with frames := [wFrame] } : State).recordWritten { seq := 9, word2 := 0x451 }, by decide +kernel⟩

theorem wit_HoldingRegisters_1 : ∃ (i : Initiator) (a : BitVec 25) (v : DWord) (s : State), (s.wf = true) ∧ ((cntAt a.toNat).isSome = true) ∧ (s.mayRead i a.toNat = true) ∧ (v = (s.cntReady a.toNat).cnt a.toNat) :=
  ⟨.host, 0x1000110, 0x500000007, (wRun.setCnt 0x1000110 0x500000007).setCnt 0x1000118 3, by decide +kernel⟩

theorem wit_HoldingRegisters_2 : ∃ (i : Initiator) (j : Initiator) (a : BitVec 25) (s : State), (s.wf = true) ∧ ((cntAt a.toNat).isSome = true) ∧ (s.mayRead i a.toNat = true) ∧ (s.mayRead j a.toNat = true) :=
  ⟨.host, .hart0, 0x1000110, (wRun.setCnt 0x1000110 0x500000007).setCnt 0x1000118 3, by decide +kernel⟩

theorem wit_HoldingRegisters_3 : ∃ (i : Initiator) (a : BitVec 25) (v : Nat) (s : State), (s.wf = true) ∧ (s.pairValue a.toNat = some v) ∧ (s.mayRead i a.toNat = true) :=
  ⟨.host, BitVec.ofNat 25 CPU.MTIME_LO, 0x500000007, { wRun with cpu := { wRun.cpu with mtime := 0x500000007 } }, by decide +kernel⟩

theorem wit_HoldingRegisters_4 : ∃ (i : Initiator) (a : BitVec 25) (s : State), ((cntAt a.toNat).isSome = true) ∧ (s.mayRead i (a.toNat + 4) = true) :=
  ⟨.host, 0x1000110, wRun.setHeld .host 0x1000110 5, by decide +kernel⟩

theorem wit_HoldingRegisters_6 : ∃ (i : Initiator) (c : Fin 16) (s : State), (s.mayRead i (CPH.LA_CTR_HI c) = true) :=
  ⟨.sec, 15, (wRun.setHeld .sec (CPH.LA_CTR_LO 15) 5), by decide +kernel⟩

theorem wit_StartUpLoad_1 : ∃ (s : State), (s.wf = true) ∧ (s.stage = 1) ∧ (s.bootMode = 3) :=
  ⟨(wRun.set SYS.SYS_STATUS_STAGE 1).set SYS.SYS_STRAP_BOOT_MODE 3, by decide +kernel⟩

theorem wit_StartUpLoad_2 : ∃ (s : State), (s.wf = true) ∧ (s.stage = 1) ∧ (s.bootMode = 2) :=
  ⟨(wRun.set SYS.SYS_STATUS_STAGE 1).set SYS.SYS_STRAP_BOOT_MODE 2, by decide +kernel⟩

theorem wit_StartUpLoad_3 : ∃ (octal : Bool) (density : Nat) (s : State), (s.wf = true) ∧ (s.stage = 1) ∧ (s.bootMode ≠ 2) ∧ (s.bootMode ≠ 3) ∧ (octal = false ∨ density < 0x1000000 ∨ 0x10000000 < density) :=
  ⟨false, 0x2000000, wRun.set SYS.SYS_STATUS_STAGE 1, by decide +kernel⟩

theorem wit_StartUpLoad_4 : ∃ (s : State), (s.wf = true) ∧ (s.stage = 2) :=
  ⟨{ wRun.set SYS.SYS_STATUS_STAGE 2 with mem := [(5, 1)] }, by decide +kernel⟩

theorem wit_StartUpLoad_5 : ∃ (c : Nat) (o : Nat) (s : State), (s.wf = true) ∧ (s.stage = 2) ∧ (s.boot.src = .host) ∧ (s.badAuth .host = some (c, o)) :=
  ⟨2, 0, { wRun.set SYS.SYS_STATUS_STAGE 2 with boot := { src := .host, host := [1] }, mem := [(5, 1)] }, by decide +kernel⟩

theorem wit_StartUpLoad_6 : ∃ (b : Fin 2) (c : Nat) (o : Nat) (s : State), (s.wf = true) ∧ (s.stage = 2) ∧ (s.boot.src = .bank b) ∧ (s.badAuth (.bank b) = some (c, o)) ∧ (s.boot.trial = false) ∧ (s.boot.second = false) :=
  ⟨0, 12, 0, wRun.set SYS.SYS_STATUS_STAGE 2, by decide +kernel⟩

theorem wit_StartUpLoad_7 : ∃ (r : ImgRec) (s : State), (s.wf = true) ∧ (s.stage = 3) ∧ (r = s.imgRec s.boot.src s.boot.off) ∧ (s.recOk s.boot.src (s.bootLen s.boot.src) false r = true) ∧ (r.typ = 14) :=
  ⟨{ off := 256, typ := 14, res := 0, len := 4, arg := 0 }, { wRun.set SYS.SYS_STATUS_STAGE 3 with mem := [(5, 1)], boot := { src := .host, host := wImg (wRec 14 0x0 [9, 9, 9, 9] ++ wRec 15 0x0 []), off := 256 } }, by decide +kernel⟩

theorem wit_StartUpLoad_8 : ∃ (r : ImgRec) (s : State), (s.wf = true) ∧ (s.stage = 3) ∧ (r = s.imgRec s.boot.src s.boot.off) ∧ (s.recOk s.boot.src (s.bootLen s.boot.src) false r = true) ∧ (r.typ = 3 ∨ r.typ = 4) :=
  ⟨{ off := 256, typ := 3, res := 0, len := 4, arg := 2147483904 }, { wRun.set SYS.SYS_STATUS_STAGE 3 with mem := [(5, 1)], boot := { src := .host, host := wImg (wRec 3 0x80000100 [1, 2, 3, 4]), off := 256 } }, by decide +kernel⟩

theorem wit_StartUpLoad_9 : ∃ (r : ImgRec) (s : State), (s.wf = true) ∧ (s.stage = 3) ∧ (r = s.imgRec s.boot.src s.boot.off) ∧ (s.recOk s.boot.src (s.bootLen s.boot.src) false r = true) ∧ (r.typ = 15) :=
  ⟨{ off := 256, typ := 15, res := 0, len := 0, arg := 0 }, { wRun.set SYS.SYS_STATUS_STAGE 3 with mem := [(5, 1)], boot := { src := .host, host := wImg (wRec 15 0x0 []), off := 256 } }, by decide +kernel⟩

theorem wit_StartUpLoad_10 : ∃ (r : ImgRec) (s : State), (s.wf = true) ∧ (s.stage = 3) ∧ (s.boot.src = .host) ∧ (r = s.imgRec .host s.boot.off) ∧ (s.recOk .host (s.bootLen .host) false r = false) :=
  ⟨{ off := 256, typ := 14, res := 0, len := 0, arg := 0 }, { wRun.set SYS.SYS_STATUS_STAGE 3 with mem := [(5, 1)], boot := { src := .host, host := wImg (leBytes [0xe000000, 0, 0x0, 5]), off := 256 } }, by decide +kernel⟩

theorem wit_StartUpLoad_11 : ∃ (s : State), (s.wf = true) ∧ (s.stage = 4) ∧ (s.bootHashOk s.boot.src = true) ∧ (s.consistent = true) ∧ (s.cpu.pcs.length = 3) :=
  ⟨{ wRun.set SYS.SYS_STATUS_STAGE 4 with mem := [(5, 1)], boot := { src := .host, host := wImg ([]), off := 256 } }, by decide +kernel⟩

theorem wit_StartUpLoad_12 : ∃ (s : State), (s.wf = true) ∧ (s.mayWrite .host SYS.SYS_CMD = true) ∧ (s.stage = stageFail) :=
  ⟨wRun.set SYS.SYS_STATUS_STAGE 8, by decide +kernel⟩

theorem wit_StartUpLoad_13 : ∃ (s : State), (s.wf = true) ∧ (s.mayWrite .host SYS.SYS_CMD = true) ∧ (s.stage = stageFail) :=
  ⟨wRun.set SYS.SYS_STATUS_STAGE 8, by decide +kernel⟩

theorem wit_StartUpLoad_14 : ∃ (s : State), (s.mayWrite .host SYS.SYS_CMD = true) ∧ (s.stage = stageRun) :=
  ⟨wRun, by decide +kernel⟩

theorem wit_ReleaseAndResets_1 : ∃ (s : State), (s.wf = true) ∧ (s.upd.run = none) ∧ (s.key.otp = none) :=
  ⟨{ ((wRun.setBit TWP.TWP_CTRL_PAIR_EN true).set TWP.CLAIM_STATUS_OWN (mkClaim 8 77 1)).setBit SYS.SYS_STRAP_PAIR_ID true with frames := [wFrame], mem := [(5, 1)], key := { wRun.key with arb := 3 }, boot := { flash := [(5, 1)] } }, by decide +kernel⟩

theorem wit_ReleaseAndResets_2 : ∃ (ini : Initiator) (s : State), (s.wf = true) ∧ (s.mayWrite ini SYS.SYS_CMD = true) ∧ (ini = .hart0 ∨ ini = .hart1 ∨ ini = .host) ∧ (s.stage = stageRun) ∧ (s.upd.run = none) ∧ (s.key.otp = none) ∧ (s.pairEn = true) :=
  ⟨.host, { ((wRun.setBit TWP.TWP_CTRL_PAIR_EN true).set TWP.CLAIM_STATUS_OWN (mkClaim 8 77 1)).setBit SYS.SYS_STRAP_PAIR_ID true with frames := [wFrame], copies := [wCopy], mem := [(5, 1)], boot := { flash := [(5, 1)] } }, by decide +kernel⟩

theorem wit_ReleaseAndResets_3 : ∃ (ini : Initiator) (c : BitVec 16) (s : State), (s.mayWrite ini SYS.SYS_CMD = true) ∧ (s.stage = stageRun) ∧ (c ≠ 0x5953) :=
  ⟨.host, 0x5952, wRun, by decide +kernel⟩

theorem wit_ReleaseAndResets_4 : ∃ (ini : Initiator) (s : State), (s.wf = true) ∧ (s.mayWrite ini SYS.SYS_CMD = true) ∧ (s.stage = stageCores) ∧ ((s.bootMode = 1 ∧ ini = .host) ∨ (s.bootMode ≠ 1 ∧ (ini = .hart0 ∨ ini = .hart1))) :=
  ⟨.hart0, (((wRun.setBit TWP.TWP_CTRL_PAIR_EN true).set TWP.CLAIM_STATUS_OWN (mkClaim 8 77 1)).setBit SYS.SYS_STRAP_PAIR_ID true).set SYS.SYS_STATUS_STAGE 5, by decide +kernel⟩

theorem wit_ReleaseAndResets_5 : ∃ (ini : Initiator) (s : State), (s.mayWrite ini SYS.SYS_CMD = true) ∧ (ini = .hart0 ∨ ini = .hart1) ∧ (s.stage ≠ stageCores) :=
  ⟨.hart0, wRun, by decide +kernel⟩

theorem wit_ReleaseAndResets_6 : ∃ (s : State), (s.wf = true) ∧ (s.stage = stageCores) ∧ (s.bootMode ≠ 1) ∧ (s.get SYS.RELEASE_WAIT_MS ≠ 0) ∧ (s.boot.coresAt + s.get SYS.RELEASE_WAIT_MS * 500000 ≤ s.tim.ticks) :=
  ⟨{ (wRun.set SYS.SYS_STATUS_STAGE 5).set SYS.RELEASE_WAIT_MS 7 with tim := { wRun.tim with ticks := 1000000000000, wt := 4294967296000000000000 } }, by decide +kernel⟩

theorem wit_ReleaseAndResets_7 : ∃ (ini : Initiator) (s : State), (s.mayWrite ini SYS.SYS_CMD = true) ∧ (s.stage = stageRun) ∧ (s.boot.reload = none) :=
  ⟨.hart0, wRun, by decide +kernel⟩

theorem wit_ReleaseAndResets_8 : ∃ (sec : Bool) (b : Fin 2) (rs : List ImgRec) (s : State), (s.wf = true) ∧ (s.boot.reload = some sec) ∧ (s.boot.src = .bank b) ∧ (rs = s.pairRecs (.bank b) (if sec then 1 else 0) false) ∧ (s.recsOk (.bank b) rs = true) ∧ (s.codeHash (.bank b) rs (if sec then 1 else 0) = (if sec then s.boot.hash1 else s.boot.hash0)) ∧ (s.cpu.pcs.length = 3) :=
  ⟨false, 0, [], { wRun.wr SYS.FW_ENTRY_CTRL 0x80 with boot := { src := .bank 0, reload := some false, hash0 := sha [] } }, by decide +kernel⟩

theorem wit_ReleaseAndResets_9 : ∃ (sec : Bool) (s : State), (s.wf = true) ∧ (s.boot.reload = some sec) ∧ (s.boot.src = .host) :=
  ⟨true, { wRun with boot := { src := .host, reload := some true } }, by decide +kernel⟩

theorem wit_UpdateDownload_1 : ∃ (ini : Initiator) (n : Nat) (s : State), (s.mayWrite ini UPD.UPD_CMD = true) ∧ (updNo ini = some n) ∧ (s.upd.run = none) ∧ (s.upd.owner = none) :=
  ⟨.host, 0, wRun, by decide +kernel⟩

theorem wit_UpdateDownload_2 : ∃ (ini : Initiator) (n : Nat) (ses : BitVec 16) (s : State), (s.mayWrite ini UPD.UPD_CMD = true) ∧ (updNo ini = some n) ∧ (s.upd.run = none) ∧ (s.upd.owner = some n) ∧ (s.upd.session = ses.toNat) :=
  ⟨.host, 0, 5, { wRun with upd := { wRun.upd with owner := some 0, session := 5 } }, by decide +kernel⟩

theorem wit_UpdateDownload_3 : ∃ (ini : Initiator) (n : Nat) (ses : BitVec 16) (mode : BitVec 2) (force : Bool) (c : Instr) (s : State), (s.mayWrite ini UPD.UPD_CMD = true) ∧ (updNo ini = some n) ∧ (s.upd.run = none) ∧ (s.upd.owner ≠ some n ∨ s.upd.session ≠ ses.toNat) ∧ (c ∈ [.updClose ini ses, .updBegin ini ses, .updWriteBlock ini ses, .updVerify ini ses, .updActivate ini ses mode force]) :=
  ⟨.host, 0, 5, 1, true, .updClose .host 5, { wRun with upd := { wRun.upd with owner := some 0, session := 6 } }, by decide +kernel⟩

theorem wit_UpdateDownload_4 : ∃ (s : State), (s.wf = true) ∧ (s.upd.owner.isSome = true) ∧ (s.upd.cmdAt + max 1 (s.get UPD.UPD_SESS_TIMEOUT_S) * 500000000 ≤ s.tim.ticks) :=
  ⟨{ { wRun with upd := { wRun.upd with owner := some 0, session := 5 } } with tim := { wRun.tim with ticks := 1000000000000, wt := 4294967296000000000000 } }, by decide +kernel⟩

theorem wit_UpdateDownload_5 : ∃ (ini : Initiator) (n : Nat) (ses : BitVec 16) (s : State), (s.wf = true) ∧ (s.mayWrite ini UPD.UPD_CMD = true) ∧ (updNo ini = some n) ∧ (s.upd.run = none) ∧ (s.upd.owner = some n) ∧ (s.upd.session = ses.toNat) ∧ (s.running ≠ 3) ∧ (s.runBank < 2) ∧ (0 < s.get UPD.IMG_BLOCKS_BLOCKS) ∧ (s.get UPD.IMG_BLOCKS_BLOCKS ≤ s.boot.bankSize / 4096) :=
  ⟨.host, 0, 5, { wRun.set UPD.IMG_BLOCKS_BLOCKS 4 with upd := { wRun.upd with owner := some 0, session := 5, map := [2] }, boot := { bankSize := 0x100000, flash := [(0x200000, 1)], record := { word2 := 0x240, hashB := [1, 2, 3, 4, 5, 6, 7, 8] } } }, by decide +kernel⟩

theorem wit_UpdateDownload_6 : ∃ (ini : Initiator) (n : Nat) (ses : BitVec 16) (s : State), (s.mayWrite ini UPD.UPD_CMD = true) ∧ (updNo ini = some n) ∧ (s.upd.run = none) ∧ (s.upd.owner = some n) ∧ (s.upd.session = ses.toNat) ∧ (s.running = 3) :=
  ⟨.host, 0, 5, { wRun.set UPD.IMG_BLOCKS_BLOCKS 4 with upd := { wRun.upd with owner := some 0, session := 5, map := [2] }, boot := { bankSize := 0x100000, flash := [(0x200000, 1)], record := { word2 := 0x230, hashB := [1, 2, 3, 4, 5, 6, 7, 8] } } }, by decide +kernel⟩

theorem wit_UpdateDownload_7 : ∃ (n : Nat) (s : State), (s.wf = true) ∧ (s.upd.run = some (.begin_ n)) :=
  ⟨2, { wRun.set UPD.BLK_DONE_COUNT 3 with upd := { wRun.upd with run := some (.begin_ 2), next := { seq := 9, word2 := 0x451 } }, mem := [(5, 1)], boot := { bankSize := 0x100000, flash := [(0x200000, 1), (0x200fff, 2), (0x201000, 7), (0x202000, 5)], record := { word2 := 0x240, hashB := [1, 2, 3, 4, 5, 6, 7, 8] } } }, by decide +kernel⟩

theorem wit_UpdateDownload_8 : ∃ (n : Nat) (s : State), (s.wf = true) ∧ (s.upd.run = some (.erase n)) :=
  ⟨2, { wRun.set UPD.BLK_DONE_COUNT 3 with upd := { wRun.upd with run := some (.erase 2), next := { seq := 9, word2 := 0x451 }, blocks := 1 }, mem := [(5, 1)], boot := { bankSize := 0x100000, flash := [(0x200000, 1), (0x200fff, 2), (0x201000, 7), (0x202000, 5)], record := { word2 := 0x240, hashB := [1, 2, 3, 4, 5, 6, 7, 8] } } }, by decide +kernel⟩

theorem wit_UpdateDownload_9 : ∃ (ini : Initiator) (n i : Nat) (ses : BitVec 16) (s : State), (s.wf = true) ∧ (s.mayWrite ini UPD.UPD_CMD = true) ∧ (updNo ini = some n) ∧ (s.upd.run = none) ∧ (s.upd.owner = some n) ∧ (s.upd.session = ses.toNat) ∧ (s.get UPD.BLK_INDEX_INDEX = i) ∧ (0 < i) ∧ (i < s.get UPD.IMG_BLOCKS_BLOCKS) ∧ (i < s.upd.erased) ∧ (s.upd.map.contains i = false) ∧ (imgCrc s.blockData = s.rd UPD.BLK_CRC) :=
  ⟨.host, 0, 1, 5, wBlk.wr UPD.BLK_CRC (imgCrc wBlk.blockData), State.wr_wf wBlk_wf .., wBlk_may _, rfl, rfl, rfl, rfl,
    (wBlk_get _ UPD.BLK_INDEX_INDEX (by decide)).trans (by decide +kernel), by decide, (by rw [wBlk_get _ UPD.IMG_BLOCKS_BLOCKS (by decide)]; decide +kernel), by decide, by decide,
    by rw [wBlk_data, State.rd_wr_self wBlk_wf]⟩

theorem wit_UpdateDownload_10 : ∃ (ini : Initiator) (n i : Nat) (ses : BitVec 16) (s : State), (s.wf = true) ∧ (s.mayWrite ini UPD.UPD_CMD = true) ∧ (updNo ini = some n) ∧ (s.upd.run = none) ∧ (s.upd.owner = some n) ∧ (s.upd.session = ses.toNat) ∧ (s.get UPD.BLK_INDEX_INDEX = i) ∧ (i < s.get UPD.IMG_BLOCKS_BLOCKS) ∧ (i < s.upd.erased) ∧ (s.upd.map.contains i = false) ∧ (imgCrc s.blockData ≠ s.rd UPD.BLK_CRC) :=
  ⟨.host, 0, 1, 5, wBlk.wr UPD.BLK_CRC (imgCrc wBlk.blockData + 1), State.wr_wf wBlk_wf .., wBlk_may _, rfl, rfl, rfl, rfl,
    (wBlk_get _ UPD.BLK_INDEX_INDEX (by decide)).trans (by decide +kernel), (by rw [wBlk_get _ UPD.IMG_BLOCKS_BLOCKS (by decide)]; decide +kernel), by decide, by decide,
    by rw [wBlk_data, State.rd_wr_self wBlk_wf]; generalize imgCrc wBlk.blockData = x; bv_omega⟩

theorem wit_UpdateDownload_11 : ∃ (ini : Initiator) (n : Nat) (i : Nat) (ses : BitVec 16) (s : State), (s.wf = true) ∧ (s.mayWrite ini UPD.UPD_CMD = true) ∧ (updNo ini = some n) ∧ (s.upd.run = none) ∧ (s.upd.owner = some n) ∧ (s.upd.session = ses.toNat) ∧ (s.get UPD.BLK_INDEX_INDEX = i) ∧ (i < s.get UPD.IMG_BLOCKS_BLOCKS) ∧ (s.upd.erased ≤ i ∨ s.upd.map.contains i = true) :=
  ⟨.host, 0, 1, 5, { (wRun.set UPD.IMG_BLOCKS_BLOCKS 4).set UPD.BLK_INDEX_INDEX 1 with upd := { wRun.upd with owner := some 0, session := 5, map := [2] } }, by decide +kernel⟩

theorem wit_UpdateDownload_12 : ∃ (n : Nat) (i : Nat) (s : State), (s.wf = true) ∧ (s.upd.run = some (.block n i)) ∧ (s.get UPD.BLK_DONE_COUNT < 32767) :=
  ⟨2, 1, { wRun.set UPD.BLK_DONE_COUNT 3 with upd := { wRun.upd with run := some (.block 2 1), next := { seq := 9, word2 := 0x451 }, data := [1, 255, 3], map := [4] }, mem := [(5, 1)], boot := { bankSize := 0x100000, flash := [(0x200000, 1), (0x200fff, 2), (0x201000, 7), (0x202000, 5)], record := { word2 := 0x240, hashB := [1, 2, 3, 4, 5, 6, 7, 8] } } }, by decide +kernel⟩

theorem wit_UpdateDownload_13 : ∃ (ini : Initiator) (n : Nat) (ses : BitVec 16) (s : State), (s.mayWrite ini UPD.UPD_CMD = true) ∧ (updNo ini = some n) ∧ (s.upd.run = none) ∧ (s.upd.owner = some n) ∧ (s.upd.session = ses.toNat) :=
  ⟨.host, 0, 5, { wRun with upd := { wRun.upd with owner := some 0, session := 5 } }, by decide +kernel⟩

theorem wit_UpdateDownload_14 : ∃ (n : Nat) (c : Nat) (o : Nat) (s : State), (s.wf = true) ∧ (s.upd.run = some (.verify n)) ∧ (s.badImage (.bank s.target) = some (c, o)) ∧ (s.runBank < 2) :=
  ⟨2, 12, 0, { wRun.set UPD.BLK_DONE_COUNT 3 with upd := { wRun.upd with run := some (.verify 2), next := { seq := 9, word2 := 0x451 } }, mem := [(5, 1)], boot := { bankSize := 0x100000, flash := [(0x200fff, 2), (0x201000, 7), (0x202000, 5)], record := { word2 := 0x240, hashB := [1, 2, 3, 4, 5, 6, 7, 8] } } }, by decide +kernel⟩

theorem wit_UpdateDownload_15 : ∃ (n : Nat) (s : State), (s.wf = true) ∧ (s.upd.run = some (.verify n)) ∧ (s.runBank < 2) :=
  ⟨2, { wRun.set UPD.BLK_DONE_COUNT 3 with upd := { wRun.upd with run := some (.verify 2), next := { seq := 9, word2 := 0x451 } }, mem := [(5, 1)], boot := { bankSize := 0x100000, flash := [(0x200fff, 2), (0x201000, 7), (0x202000, 5)], record := { word2 := 0x240, hashB := [1, 2, 3, 4, 5, 6, 7, 8] } } }, by decide +kernel⟩

theorem wit_UpdateDownload_16 : ∃ (n : Nat) (s : State), (s.wf = true) ∧ (s.upd.run = some (.verified n none)) :=
  ⟨2, { wRun.set UPD.BLK_DONE_COUNT 3 with upd := { wRun.upd with run := some (.verified 2 none), next := { seq := 9, word2 := 0x451 } }, mem := [(5, 1)], boot := { bankSize := 0x100000, flash := [(0x200000, 1), (0x200fff, 2), (0x201000, 7), (0x202000, 5)], record := { word2 := 0x240, hashB := [1, 2, 3, 4, 5, 6, 7, 8] } } }, by decide +kernel⟩

theorem wit_UpdateActivation_1 : ∃ (ini : Initiator) (n : Nat) (ses : BitVec 16) (mode : BitVec 2) (force : Bool) (s : State), (s.wf = true) ∧ (s.mayWrite ini UPD.UPD_CMD = true) ∧ (updNo ini = some n) ∧ (s.upd.run = none) ∧ (s.upd.owner = some n) ∧ (s.upd.session = ses.toNat) ∧ (s.activateRefusal mode.toNat force = none) ∧ (s.runBank < 2) :=
  ⟨.host, 0, 5, 2, false, { wRun with upd := { wRun.upd with owner := some 0, session := 5 }, boot := { bankSize := 0x100000, flash := [(0x200000, 1)], record := { word2 := 0x240, hashB := [1, 2, 3, 4, 5, 6, 7, 8] } } }, by decide +kernel⟩

theorem wit_UpdateActivation_2 : ∃ (ini : Initiator) (n : Nat) (v : Nat) (ses : BitVec 16) (mode : BitVec 2) (force : Bool) (s : State), (s.wf = true) ∧ (s.mayWrite ini UPD.UPD_CMD = true) ∧ (updNo ini = some n) ∧ (s.upd.run = none) ∧ (s.upd.owner = some n) ∧ (s.upd.session = ses.toNat) ∧ (s.activateRefusal mode.toNat force = some v) :=
  ⟨.host, 0, 3, 5, 2, false, { wRun with upd := { wRun.upd with owner := some 0, session := 5 }, boot := { bankSize := 0x100000, flash := [(0x200000, 1)], record := { word2 := 0x140, hashB := [1, 2, 3, 4, 5, 6, 7, 8] } } }, by decide +kernel⟩

theorem wit_UpdateActivation_3 : ∃ (ini : Initiator) (n : Nat) (ses : BitVec 16) (mode : BitVec 2) (force : Bool) (s : State), (s.wf = true) ∧ (s.mayWrite ini UPD.UPD_CMD = true) ∧ (updNo ini = some n) ∧ (s.upd.run = none) ∧ (s.upd.owner = some n) ∧ (s.upd.session = ses.toNat) ∧ (s.runBank < 2) ∧ (mode = 1 ∨ mode = 2) ∧ (s.boot.record.state s.target = 2) ∧ (s.get KEY.OTP_ARB_VALUE ≤ s.imgSecVer (.bank s.target)) ∧ ((s.pairEn = false ∨ claimRank s.ownClaim ≠ 8 ∨ s.bit TWP.PAIR_STATUS_PEER_PRESENT = false ∨ force = true)) ∧ ((mode = 1 → s.cfgHash (.bank s.target) ((s.bootRecs (.bank s.target)).toOption.getD []) = s.boot.cfg)) :=
  ⟨.host, 0, 5, 2, false, { wRun with upd := { wRun.upd with owner := some 0, session := 5 }, boot := { bankSize := 0x100000, flash := [(0x200000, 1)], record := { word2 := 0x240, hashB := [1, 2, 3, 4, 5, 6, 7, 8] } } }, by decide +kernel⟩

theorem wit_UpdateActivation_4 : ∃ (n : Nat) (s : State), (s.wf = true) ∧ (s.upd.run = some (.activate n true)) ∧ (s.pairWaits false = false) :=
  ⟨1, { wRun.set UPD.BLK_DONE_COUNT 3 with upd := { wRun.upd with run := some (.activate 1 true), next := { seq := 9, word2 := 0x451 } }, mem := [(5, 1)], boot := { bankSize := 0x100000, flash := [(0x200000, 1), (0x200fff, 2), (0x201000, 7), (0x202000, 5)], record := { word2 := 0x240, hashB := [1, 2, 3, 4, 5, 6, 7, 8] } } }, by decide +kernel⟩

theorem wit_UpdateActivation_5 : ∃ (n : Nat) (s : State), (s.wf = true) ∧ (s.upd.run = some (.activate n false)) ∧ (s.key.otp = none) :=
  ⟨1, { wRun.set UPD.BLK_DONE_COUNT 3 with upd := { wRun.upd with run := some (.activate 1 false), next := { seq := 9, word2 := 0x451 } }, mem := [(5, 1)], boot := { bankSize := 0x100000, flash := [(0x200000, 1), (0x200fff, 2), (0x201000, 7), (0x202000, 5)], record := { word2 := 0x240, hashB := [1, 2, 3, 4, 5, 6, 7, 8] } } }, by decide +kernel⟩

theorem wit_UpdateActivation_6 : ∃ (n : Nat) (rs : List ImgRec) (s : State), (s.wf = true) ∧ (s.upd.run = some (.live n)) ∧ (rs = s.pairRecs (.bank s.target) 0 true) ∧ (s.get (pairState false) = 3) ∧ (s.recsOk (.bank s.target) rs = true) ∧ (s.cpu.pcs.length = 3) :=
  ⟨1, [{ off := 256, typ := 3, res := 0, len := 4, arg := 256 }], { (wRun.set CPU.CPU_STATUS_CTRL_STATE 3).wr SYS.FW_ENTRY_CTRL 0x80 with upd := { wRun.upd with run := some (.live 1) }, mem := [(5, 1)], boot := { bankSize := 0x100000, flash := (wRun.flashStore 0x200000 (wImg (wRec 3 0x100 [1, 2, 3, 4] ++ wRec 15 0x0 []))).boot.flash, record := { word2 := 0x241 } } }, by decide +kernel⟩

theorem wit_UpdateActivation_7 : ∃ (n : Nat) (rs : List ImgRec) (s : State), (s.wf = true) ∧ (s.upd.run = some (.live n)) ∧ (rs = s.pairRecs (.bank s.target) 0 true) ∧ (s.get (pairState false) = 3) ∧ (s.recsOk (.bank s.target) rs = false) ∧ (s.runBank < 2) :=
  ⟨1, [{ off := 256, typ := 3, res := 0, len := 0, arg := 0 }], { (wRun.set CPU.CPU_STATUS_CTRL_STATE 3).wr SYS.FW_ENTRY_CTRL 0x80 with upd := { wRun.upd with run := some (.live 1) }, mem := [(5, 1)], boot := { bankSize := 0x100000, flash := (wRun.flashStore 0x200000 (wImg (leBytes [0x3000000, 0, 0x0, 5]))).boot.flash, record := { word2 := 0x241 } } }, by decide +kernel⟩

theorem wit_UpdateActivation_8 : ∃ (n : Nat) (s : State), (s.wf = true) ∧ (s.upd.run = some (.live n)) ∧ (s.get (pairState false) = 3) :=
  ⟨1, { wRun.set CPU.CPU_STATUS_CTRL_STATE 3 with upd := { wRun.upd with run := some (.live 1) } }, by decide +kernel⟩

theorem wit_UpdateActivation_9 : ∃ (n : Nat) (s : State), (s.wf = true) ∧ (s.upd.run = some (.live n)) ∧ (s.get (pairState false) = 4) :=
  ⟨1, { wRun.set CPU.CPU_STATUS_CTRL_STATE 4 with upd := { wRun.upd with run := some (.live 1) } }, by decide +kernel⟩

theorem wit_UpdateActivation_10 : ∃ (n : Nat) (s : State), (s.wf = true) ∧ (s.upd.run = some (.unlive n)) :=
  ⟨1, { wRun.set UPD.BLK_DONE_COUNT 3 with upd := { wRun.upd with run := some (.unlive 1), next := { seq := 9, word2 := 0x451 } }, mem := [(5, 1)], boot := { bankSize := 0x100000, flash := [(0x200000, 1), (0x200fff, 2), (0x201000, 7), (0x202000, 5)], record := { word2 := 0x240, hashB := [1, 2, 3, 4, 5, 6, 7, 8] } } }, by decide +kernel⟩

theorem wit_UpdateActivation_11 : ∃ (ini : Initiator) (n : Nat) (s : State), (s.mayWrite ini UPD.UPD_CMD = true) ∧ (updNo ini = some n) ∧ (s.upd.run = none) ∧ (s.running ≠ 3 ∨ s.stage ≠ stageRun) :=
  ⟨.host, 0, wRun, by decide +kernel⟩

theorem wit_UpdateActivation_12 : ∃ (n : Nat) (s : State), (s.wf = true) ∧ (s.upd.run = some (.confirm n)) ∧ ((s.recordWritten s.upd.next).imgSecVer s.boot.src ≤ s.get KEY.OTP_ARB_VALUE) :=
  ⟨1, { wRun.set UPD.BLK_DONE_COUNT 3 with upd := { wRun.upd with run := some (.confirm 1), next := { seq := 9, word2 := 0x451 } }, mem := [(5, 1)], boot := { src := .host, bankSize := 0x100000, flash := [(0x200000, 1), (0x200fff, 2), (0x201000, 7), (0x202000, 5)], record := { word2 := 0x240, hashB := [1, 2, 3, 4, 5, 6, 7, 8] } } }, by decide +kernel⟩

theorem wit_UpdateActivation_13 : ∃ (n : Nat) (v : Nat) (s : State), (s.wf = true) ∧ (s.upd.run = some (.confirm n)) ∧ (v = (s.recordWritten s.upd.next).imgSecVer s.boot.src) ∧ (s.get KEY.OTP_ARB_VALUE < v) ∧ (s.key.otp = none) :=
  ⟨1, 3, { (wRun.set SYS.SEC_VER_VER 3).set UPD.BLK_DONE_COUNT 3 with upd := { wRun.upd with run := some (.confirm 1), next := { seq := 9, word2 := 0x451 } }, mem := [(5, 1)], boot := { src := .host, host := zeros 16 ++ [3], bankSize := 0x100000, flash := [(0x200000, 1), (0x200fff, 2), (0x201000, 7), (0x202000, 5)], record := { word2 := 0x240, hashB := [1, 2, 3, 4, 5, 6, 7, 8] } } }, by decide +kernel⟩

theorem wit_SleepSequences_1 : ∃ (ini : Initiator) (s : State), (s.wf = true) ∧ (s.mayWrite ini WAK.SLEEP_CMD = true) ∧ (s.wak.power = .active) ∧ (s.seqState none = 0) ∧ (s.sleepRefusal none = none) :=
  ⟨.host, ((wRun.setBit WAK.WAK_CTRL_SLEEP_EN true).wr (WAK.GRP_MEMBERS 2) 0x30003), by decide +kernel⟩

theorem wit_SleepSequences_2 : ∃ (ini : Initiator) (c : Nat) (s : State), (s.wf = true) ∧ (s.mayWrite ini WAK.SLEEP_CMD = true) ∧ (s.wak.power = .active) ∧ (s.seqState none = 0) ∧ (s.sleepRefusal none = some c) :=
  ⟨.host, 1, wRun, by decide +kernel⟩

theorem wit_SleepSequences_3 : ∃ (ini : Initiator) (c : BitVec 16) (g : Fin 8) (i : Instr) (s : State), (s.mayWrite ini WAK.SLEEP_CMD = true) ∧ (c ≠ 0x534C) ∧ (i ∈ [.sleep ini c, .groupSleep ini c g, .groupWake ini c g, .abortDevice ini c, .abortGroup ini c g, .releaseIso ini c 3]) :=
  ⟨.host, 5, 2, .sleep .host 5, ((wRun.setBit WAK.WAK_CTRL_SLEEP_EN true).wr (WAK.GRP_MEMBERS 2) 0x30003), by decide +kernel⟩

theorem wit_SleepSequences_4 : ∃ (ini : Initiator) (g : Fin 8) (s : State), (s.wf = true) ∧ (s.mayWrite ini WAK.SLEEP_CMD = true) ∧ (s.wak.power = .active) ∧ (s.seqState (some g) = 0) ∧ (s.sleepRefusal (some g) = none) :=
  ⟨.host, 2, ((wRun.setBit WAK.WAK_CTRL_SLEEP_EN true).wr (WAK.GRP_MEMBERS 2) 0x30003), by decide +kernel⟩

theorem wit_SleepSequences_5 : ∃ (ini : Initiator) (g : Fin 8) (s : State), (s.wf = true) ∧ (s.mayWrite ini WAK.SLEEP_CMD = true) ∧ (s.wak.power = .active) ∧ (s.seqState none = 0) ∧ (s.grpAsleep g = true) :=
  ⟨.host, 2, (((wRun.setBit WAK.WAK_CTRL_SLEEP_EN true).wr (WAK.GRP_MEMBERS 2) 0x30003).set (WAK.GRP_STATUS_STATE 2) 3), by decide +kernel⟩

theorem wit_SleepSequences_6 : ∃ (ini : Initiator) (s : State), (s.wf = true) ∧ (s.mayWrite ini WAK.SLEEP_CMD = true) ∧ (s.wak.power = .active) ∧ (s.seqState none = 1) :=
  ⟨.host, (((wRun.setBit WAK.WAK_CTRL_SLEEP_EN true).wr (WAK.GRP_MEMBERS 2) 0x30003).set WAK.SLEEP_STATUS_STATE 1), by decide +kernel⟩

theorem wit_SleepSequences_7 : ∃ (ini : Initiator) (g : Fin 8) (s : State), (s.wf = true) ∧ (s.mayWrite ini WAK.SLEEP_CMD = true) ∧ (s.wak.power = .active) ∧ (s.seqState (some g) = 1) :=
  ⟨.host, 2, (((wRun.setBit WAK.WAK_CTRL_SLEEP_EN true).wr (WAK.GRP_MEMBERS 2) 0x30003).set (WAK.GRP_STATUS_STATE 2) 1), by decide +kernel⟩

theorem wit_SleepSequences_8 : ∃ (ini : Initiator) (g : Fin 8) (s : State), (s.wf = true) ∧ (s.mayWrite ini WAK.SLEEP_CMD = true) ∧ (s.grpAsleep g = true) :=
  ⟨.host, 2, (((wRun.setBit WAK.WAK_CTRL_SLEEP_EN true).wr (WAK.GRP_MEMBERS 2) 0x30003).set (WAK.GRP_STATUS_STATE 2) 3), by decide +kernel⟩

theorem wit_SleepSequences_9 : ∃ (ini : Initiator) (c : Fin 16) (s : State), (s.wf = true) ∧ (s.mayWrite ini WAK.SLEEP_CMD = true) ∧ (s.isolated c = true) :=
  ⟨.host, 3, (((wRun.setBit WAK.WAK_CTRL_SLEEP_EN true).wr (WAK.GRP_MEMBERS 2) 0x30003).wr WAK.ISOLATED 0x18).set (CAN.CH_CTRL_MODE 3) 1, by decide +kernel⟩

theorem wit_SleepSequences_10 : ∃ (c : Fin 16) (s : State), (s.wf = true) ∧ (s.isolated c = false) :=
  ⟨3, (((wRun.setBit WAK.WAK_CTRL_SLEEP_EN true).wr (WAK.GRP_MEMBERS 2) 0x30003).wr WAK.ISOLATED 0x10).set (CAN.CH_CTRL_MODE 3) 1, by decide +kernel⟩

theorem wit_SleepSequences_11 : ∃ (g : Option (Fin 8)) (s : State), (s.wf = true) ∧ (s.seqState g = 1) ∧ (s.seqRan g (max 10 (s.get WAK.WAK_CTRL_RS_TIME)) = true) :=
  ⟨none, { (((wRun.setBit WAK.WAK_CTRL_SLEEP_EN true).wr (WAK.GRP_MEMBERS 2) 0x30003).set WAK.SLEEP_STATUS_STATE 1) with tim := { wRun.tim with ticks := 1000000000000, wt := 4294967296000000000000 } }, by decide +kernel⟩

theorem wit_SleepSequences_12 : ∃ (g : Fin 8) (s : State), (s.wf = true) ∧ (s.seqState (some g) = 2) ∧ (s.setQuiet (some g) = true) :=
  ⟨2, (((wRun.setBit WAK.WAK_CTRL_SLEEP_EN true).wr (WAK.GRP_MEMBERS 2) 0x30003).set (WAK.GRP_STATUS_STATE 2) 2), by decide +kernel⟩

theorem wit_SleepSequences_13 : ∃ (s : State), (s.wf = true) ∧ (s.seqState none = 2) ∧ (s.setQuiet none = true) :=
  ⟨{ (((((wRun.setBit WAK.WAK_CTRL_SLEEP_EN true).wr (WAK.GRP_MEMBERS 2) 0x30003).setBit TWP.TWP_CTRL_PAIR_EN true).set TWP.CLAIM_STATUS_OWN (mkClaim 8 77 0)).set WAK.SLEEP_STATUS_STATE 2) with frames := [wBuf], copies := [wCopy] }, by decide +kernel⟩

theorem wit_SleepSequences_14 : ∃ (g : Option (Fin 8)) (p : Nat) (s : State), (s.wf = true) ∧ (s.seqState g = 2) ∧ ((s.setPorts g).filter (fun p => s.wak.inh.getLsbD p) = [p]) ∧ (s.bit WAK.WAK_CTRL_PREP_FORCE = false) ∧ (s.wak.power = .active) ∧ (s.wak.ka.length < 32) ∧ (s.seqRan g (max 1 (s.get WAK.PREP_CFG_PREP_TIME)) = true) :=
  ⟨none, 3, { { (((wRun.setBit WAK.WAK_CTRL_SLEEP_EN true).wr (WAK.GRP_MEMBERS 2) 0x30003).set WAK.SLEEP_STATUS_STATE 2) with wak := { wRun.wak with inh := 8 } } with tim := { wRun.tim with ticks := 1000000000000, wt := 4294967296000000000000 } }, by decide +kernel⟩

theorem wit_SleepSequences_15 : ∃ (s : State), (s.wf = true) ∧ (s.seqState none = 2) ∧ (s.bit WAK.WAK_CTRL_PREP_FORCE = true) ∧ (s.seqRan none (max 1 (s.get WAK.PREP_CFG_PREP_TIME)) = true) :=
  ⟨{ { (((wRun.setBit WAK.WAK_CTRL_SLEEP_EN true).wr (WAK.GRP_MEMBERS 2) 0x30003).set WAK.SLEEP_STATUS_STATE 2).setBit WAK.WAK_CTRL_PREP_FORCE true with wak := { wRun.wak with inh := 8 } } with tim := { wRun.tim with ticks := 1000000000000, wt := 4294967296000000000000 } }, by decide +kernel⟩

theorem wit_SleepSequences_16 : ∃ (ini : Initiator) (g : Fin 8) (w : Word) (s : State), (s.wf = true) ∧ (s.mayWrite ini (WAK.GRP_MEMBERS g) = true) ∧ (s.get (WAK.GRP_STATUS_STATE g) = 0) ∧ ((∀ k : Fin 8, k ≠ g → s.grpMembers k &&& w &&& 0x3FFFFFFF = 0)) :=
  ⟨.host, 3, 0xC00C0030, ((wRun.setBit WAK.WAK_CTRL_SLEEP_EN true).wr (WAK.GRP_MEMBERS 2) 0x30003), by decide +kernel⟩

theorem wit_SleepSequences_17 : ∃ (ini : Initiator) (g : Fin 8) (s : State), (s.wf = true) ∧ (s.mayWrite ini (WAK.GRP_MEMBERS g) = true) ∧ (s.get (WAK.GRP_STATUS_STATE g) ≠ 0) :=
  ⟨.host, 2, (((wRun.setBit WAK.WAK_CTRL_SLEEP_EN true).wr (WAK.GRP_MEMBERS 2) 0x30003).set (WAK.GRP_STATUS_STATE 2) 3), by decide +kernel⟩

theorem wit_SleepSequences_18 : ∃ (ini : Initiator) (s : State), (s.mayRead ini (WAK.KA_LOG 3) = true) :=
  ⟨.host, { wRun with wak := { wRun.wak with ka := [[1, 2, 3, 4], [5, 6, 7, 8]] } }, by decide +kernel⟩

theorem wit_WakeAndRetention_1 : ∃ (s : State), (s.wf = true) ∧ (s.wak.power = .powerDown) ∧ (s.wak.late = false) ∧ (s.upd.run = none) ∧ (s.key.otp = none) :=
  ⟨{ wPort with mem := [(5, 1)], tim := { wRun.tim with wt := 4294967296000 }, boot := { flash := [(5, 1)] }, wak := { wRun.wak with power := .powerDown, ao := 100 } }, by decide +kernel⟩

theorem wit_WakeAndRetention_2 : ∃ (s : State), (s.wf = true) ∧ (s.wak.power = .powerDown) ∧ (s.wak.late = true) ∧ (s.upd.run = none) ∧ (s.key.otp = none) :=
  ⟨{ wPort with mem := [(5, 1)], tim := { wRun.tim with wt := 4294967296000 }, boot := { flash := [(5, 1)] }, wak := { wRun.wak with power := .powerDown, late := true } }, by decide +kernel⟩

theorem wit_WakeAndRetention_3 : ∃ (c : Fin 16) (clocks : Nat) (s : State), (s.wf = true) ∧ (s.wak.power = .sleep) ∧ (s.isolated c = false) ∧ (s.groupOf c = none) ∧ (s.wakeMethod c = 1) ∧ (s.wakeFilter c ≤ clocks) ∧ (clocks < 8 * s.stuckUs c) ∧ (s.bit WAK.WAKE_SRC_VALID = false) :=
  ⟨3, 30, { (wRun.set (WAK.CAN_WAKE_CFG_METHOD 3) 1) with mem := [(5, 1)], tim := { wRun.tim with wt := 4294967296000 }, boot := { flash := [(5, 1)] }, wak := { wRun.wak with power := .sleep, ao := 100 } }, by decide +kernel⟩

theorem wit_WakeAndRetention_4 : ∃ (c : Fin 16) (clocks : Nat) (s : State), (clocks < s.wakeFilter c) :=
  ⟨3, 2, { (wRun.set (WAK.CAN_WAKE_CFG_METHOD 3) 1) with mem := [(5, 1)], tim := { wRun.tim with wt := 4294967296000 }, boot := { flash := [(5, 1)] }, wak := { wRun.wak with power := .sleep, ao := 100 } }, by decide +kernel⟩

theorem wit_WakeAndRetention_5 : ∃ (c : Fin 16) (m : CanMsg) (s : State), (s.wf = true) ∧ (s.wak.power = .sleep) ∧ (s.isolated c = false) ∧ (s.groupOf c = none) ∧ (s.wakeMethod c = 2) ∧ (s.isWakeFrame c m = true) ∧ (s.bit WAK.WAKE_SRC_VALID = false) :=
  ⟨3, wMsg, { (wRun.set (WAK.CAN_WAKE_CFG_METHOD 3) 2) with mem := [(5, 1)], tim := { wRun.tim with wt := 4294967296000 }, boot := { flash := [(5, 1)] }, wak := { wRun.wak with power := .sleep } }, by decide +kernel⟩

theorem wit_WakeAndRetention_6 : ∃ (c : Fin 16) (s : State), (s.wf = true) ∧ (s.wak.power = .sleep) ∧ (s.isolated c = false) ∧ (s.groupOf c = none) ∧ (s.wakeMethod c = 3) ∧ (s.bit WAK.WAKE_SRC_VALID = false) :=
  ⟨3, { (wRun.set (WAK.CAN_WAKE_CFG_METHOD 3) 3) with mem := [(5, 1)], tim := { wRun.tim with wt := 4294967296000 }, boot := { flash := [(5, 1)] }, wak := { wRun.wak with power := .sleep } }, by decide +kernel⟩

theorem wit_WakeAndRetention_7 : ∃ (p : Fin 14) (s : State), (s.wf = true) ∧ (s.wak.power = .sleep) ∧ (s.wak.inh.getLsbD p = false) ∧ (s.groupOf (16 + p) = none) ∧ (s.bit WAK.WAKE_SRC_VALID = false) :=
  ⟨3, { wRun with mem := [(5, 1)], tim := { wRun.tim with wt := 4294967296000 }, boot := { flash := [(5, 1)] }, wak := { wRun.wak with power := .sleep, inh := 5 } }, by decide +kernel⟩

theorem wit_WakeAndRetention_9 : ∃ (ao : Nat) (s : State), (s.wf = true) ∧ (s.wak.power = .sleep) ∧ (s.get WAK.WAKE_TIMER_SECONDS ≠ 0) ∧ (s.wak.ac + s.get WAK.WAKE_TIMER_SECONDS * 32768 ≤ s.wak.ao + ao) ∧ (s.bit WAK.WAKE_SRC_VALID = false) :=
  ⟨40000, { (wRun.set WAK.WAKE_TIMER_SECONDS 1) with mem := [(5, 1)], tim := { wRun.tim with wt := 4294967296000 }, boot := { flash := [(5, 1)] }, wak := { wRun.wak with power := .sleep, ac := 0 } }, by decide +kernel⟩

theorem wit_WakeAndRetention_10 : ∃ (ao : Nat) (n : Nat) (s : State), (s.wf = true) ∧ (s.wak.power = .waking) ∧ (s.wak.clocks = false) ∧ (n = s.wak.ao + ao - s.wak.ac) :=
  ⟨40000, 41000, { wRun with mem := [(5, 1)], tim := { wRun.tim with wt := 4294967296000 }, boot := { flash := [(5, 1)] }, wak := { wRun.wak with power := .waking, ao := 2000, ac := 1000, wc := 123456789 } }, by decide +kernel⟩

theorem wit_WakeAndRetention_11 : ∃ (s : State), (s.wf = true) ∧ (s.wak.power = .waking) ∧ (s.wak.clocks = true) :=
  ⟨{ wRun.setBit SYS.SYS_STATUS_RELEASED false with mem := [(5, 1)], tim := { wRun.tim with wt := 4294967296000 }, boot := { flash := [(5, 1)] }, wak := { wRun.wak with power := .waking, clocks := true } }, by decide +kernel⟩

theorem wit_WakeAndRetention_12 : ∃ (s : State), (s.wf = true) ∧ (s.wak.power = .waking) ∧ (s.wak.clocks = true) ∧ (s.upd.run = none) ∧ (s.key.otp = none) :=
  ⟨{ (wRun.setBit SYS.SYS_STATUS_RELEASED false).setCnt WAK.RET_FAIL_CNT 5 with mem := [(5, 1)], tim := { wRun.tim with wt := 4294967296000 }, boot := { flash := [(5, 1)] }, wak := { wRun.wak with power := .waking, clocks := true } }, by decide +kernel⟩

end Sys2Proof.Tests
end

/-! PROOFS. The bus accesses of chapters 00 and 20: one rule for each way in which a register write, a low-word read or an access of the
debugger's system bus ends, and the statement about them. -/
namespace Sys2Proof.Machine

/-- The address of a register as the operand of a command. -/
theorem toNat_regAddr {a : Nat} (h : a < 0x1400000) : (BitVec.ofNat 25 a).toNat = a := Nat.mod_eq_of_lt (by omega)

/-! ### A write that reaches its register (R2, R3) -/

/-- A word write at a mapped register that is no semaphore acts as the command of that register, or as a store. -/
theorem State.registerWrite_of_mayWrite {s : State} {ini : Initiator} {a : Nat} (w : Word) (h : s.mayWrite ini a = true)
    (hlow : a < 0x1400000) (halign : a % 4 = 0) (hmap : isMapped a = true) (hsem : semOf a = none) :
    s.registerWrite ini a 4 w = ((s.cmdReg ini a w).getD (s.regStore ini false a w)).emit (.bus ini .done) := by
  simp only [State.mayWrite, Bool.and_eq_true, Bool.not_eq_true'] at h
  obtain ⟨⟨⟨hmute, hbar⟩, hpre⟩, hsec⟩ := h
  have hheld : (if ini = .sec then none else s.semHeld a) = none := by rw [State.semHeld, hsem, ite_self]
  rw [State.registerWrite, if_neg (by rw [hmute]; decide), State.regAccess, if_neg (by omega), if_neg (by omega), hheld]
  simp only [State.ended, State.busWrite, State.writeEnd, hmap, hbar, hpre, hsec, Bool.not_true, Bool.or_self, Bool.false_eq_true,
    if_false]
  rfl

/-- A register at which a bus write has no effect beyond the fields it stores. -/
structure StoresOnly (a : Nat) : Prop where
  low : a < 0x1400000
  aligned : a % 4 = 0
  mapped : isMapped a = true
  noSem : semOf a = none
  noCmd : ∀ (s : State) (ini : Initiator) (w : Word), s.cmdReg ini a w = none
  stored : ∀ (s : State) (ini : Initiator) (w : Word), s.regStore ini false a w = s.plainWrite a w

theorem StoresOnly.registerWrite {s : State} {ini : Initiator} {a : Nat} (p : StoresOnly a) (w : Word) (h : s.mayWrite ini a = true) :
    s.registerWrite ini a 4 w = (s.plainWrite a w).emit (.bus ini .done) := by
  rw [State.registerWrite_of_mayWrite w h p.low p.aligned p.mapped p.noSem, p.noCmd, Option.getD_none, p.stored]

theorem plainWords_storesOnly (a : Nat) (ha : a ∈ plainWords) : StoresOnly a := by
  simp only [plainWords, List.mem_cons, List.not_mem_nil, or_false] at ha
  rcases ha with rfl | rfl | rfl | rfl | rfl | rfl | rfl | rfl | rfl | rfl | rfl | rfl | rfl | rfl <;>
    exact ⟨by decide, by decide, by decide, by decide, fun _ _ _ => rfl, fun _ _ _ => rfl⟩

theorem pcieSubsys_storesOnly : StoresOnly SYS.PCIE_SUBSYS :=
  ⟨by decide, by decide, by decide, by decide, fun _ _ _ => rfl, fun _ _ _ => rfl⟩

/-! ### What is stored (R3, R4) -/

/-- All 32 bits of the register have the access code c, and no field of it is clamped. -/
def wholeWord (c : Acc) (a : Nat) : Bool :=
  match regAt a with
  | none => false
  | some r => r.fields.all (fun f => f.acc == c) && r.bitsWith (· == c) == BitVec.allOnes 32 && clamped.all fun x => x.1.addr != a

/-- The bits of a register depend on the codes of its fields alone. -/
theorem Reg.bitsWith_congr {r : Reg} {p q : Acc → Bool} (h : ∀ f ∈ r.fields, p f.acc = q f.acc) : r.bitsWith p = r.bitsWith q := by
  unfold Reg.bitsWith
  generalize r.fields = l at h
  generalize (0 : Word) = w
  induction l generalizing w with
  | nil => rfl
  | cons f l ih =>
    rw [List.foldl_cons, List.foldl_cons, h f (List.mem_cons_self ..)]
    exact ih (fun g hg => h g (List.mem_cons_of_mem _ hg)) _

theorem Reg.bitsWith_never (r : Reg) : r.bitsWith (fun _ => false) = 0 := by
  unfold Reg.bitsWith
  induction r.fields with
  | nil => rfl
  | cons f l ih => exact ih

/-- The bits whose code meets p, of a register whose bits all have the code c. -/
theorem Reg.bitsWith_of_all {r : Reg} {c : Acc} (h : ∀ f ∈ r.fields, f.acc = c) (hall : r.bitsWith (· == c) = BitVec.allOnes 32)
    (p : Acc → Bool) : r.bitsWith p = if p c then BitVec.allOnes 32 else 0 := by
  cases hp : p c with
  | true => exact (Reg.bitsWith_congr fun f hf => by rw [h f hf, hp, beq_self_eq_true]).trans hall
  | false => exact (Reg.bitsWith_congr (q := fun _ => false) fun f hf => by rw [h f hf, hp]).trans r.bitsWith_never

/-- A register whose bits all have one access code, by what a write of it sees. -/
theorem regAt_of_wholeWord {c : Acc} {a : Nat} (p : wholeWord c a = true) :
    ∃ r, regAt a = some r ∧ (∀ q : Acc → Bool, r.bitsWith q = if q c then BitVec.allOnes 32 else 0) ∧ ∀ w, clampWord a w = w := by
  unfold wholeWord at p
  cases hr : regAt a with
  | none => rw [hr] at p; cases p
  | some r =>
    rw [hr] at p
    simp only [Bool.and_eq_true, List.all_eq_true, beq_iff_eq, bne_iff_ne] at p
    obtain ⟨⟨hcode, hall⟩, hclamp⟩ := p
    exact ⟨r, rfl, Reg.bitsWith_of_all hcode hall, fun w => clampWord_of_plain hclamp⟩

/-- `BitVec.and_allOnes` for the mask as simp spells it. -/
theorem and_fullWord (x : Word) : x &&& 4294967295#32 = x := BitVec.and_allOnes

/-- A register whose bits are all RW takes the written word. -/
theorem State.plainWrite_of_rw {s : State} {a : Nat} (w : Word) (p : wholeWord .rw a = true) : s.plainWrite a w = s.wr a w := by
  obtain ⟨r, hr, hbits, hclamp⟩ := regAt_of_wholeWord p
  rw [State.plainWrite_of_open hr (hbits _), hclamp]
  simp only [Reg.written, hbits, beq_iff_eq, reduceCtorEq, BEq.rfl, Bool.true_or, if_true, if_false, BitVec.reduceAllOnes,
    BitVec.ofNat_eq_ofNat, BitVec.not_zero, BitVec.reduceNot, and_fullWord, BitVec.and_zero, BitVec.zero_and, BitVec.zero_or,
    BitVec.or_zero]

/-- A register whose bits are all RWL keeps its word after release, and a write that would change it is a locked write. -/
theorem State.plainWrite_of_locked {s : State} {a : Nat} {w : Word} (p : wholeWord .rwl a = true) (hrel : s.released = true)
    (hw : w ≠ s.rd a) : s.plainWrite a w = (s.wr a (s.rd a)).lockedWrite := by
  obtain ⟨r, hr, hbits, hclamp⟩ := regAt_of_wholeWord p
  have hhit : s.rd a ^^^ w ≠ 0#32 := fun e => hw (BitVec.xor_eq_zero_iff.1 e).symm
  unfold State.plainWrite
  rw [hr]
  simp only [hclamp, hrel, Reg.lockHit, Reg.written, hbits, beq_iff_eq, reduceCtorEq, BEq.rfl, Bool.true_and, Bool.not_true,
    Bool.false_and, Bool.or_false, Bool.or_eq_true, or_self, bne_iff_ne, ne_eq, hhit, not_false_eq_true, if_true, if_false,
    BitVec.reduceAllOnes, BitVec.ofNat_eq_ofNat, BitVec.not_zero, and_fullWord, BitVec.and_zero, BitVec.zero_and, BitVec.or_zero]

theorem plainWords_wholeWord : ∀ a ∈ plainWords, wholeWord .rw a = true := by decide

theorem pcieSubsys_wholeWord : wholeWord .rwl SYS.PCIE_SUBSYS = true := by decide

/-- A locked write is latched at bit 26 of FLT_DIRECT and changes no register else. -/
theorem State.rd_lockedWrite {s : State} (h : s.wf = true) (b : Nat) :
    s.lockedWrite.rd b = if b = FLT.FLT_DIRECT then s.rd b ||| BitVec.ofNat 32 (2 ^ 26) else s.rd b := State.rd_direct h 26 b

/-- A register that is written with its own word leaves every register as it is. -/
theorem State.rd_wr_rd {s : State} (h : s.wf = true) (a b : Nat) : (s.wr a (s.rd a)).rd b = s.rd b := by
  rw [State.rd_wr h]
  split
  case isTrue e => rw [e]
  case isFalse => rfl

/-! ### Accesses of another size (R2) -/

theorem State.registerWrite_of_badSize {s : State} {ini : Initiator} {a size : Nat} {w : Word} (hm : s.mute ini = false)
    (hlow : a < 0x1400000) (hbad : size ≠ 4 ∨ a % 4 ≠ 0) : s.registerWrite ini a size w = s.busOut ini (sizeEnd ini) := by
  rw [State.registerWrite, if_neg (by rw [hm]; decide), State.regAccess, if_neg (by omega), if_pos hbad]

/-- Only the host has such an access answered as an Unsupported Request. -/
theorem sizeEnd_of_ne_host {ini : Initiator} (h : ini ≠ .host) : sizeEnd ini = .fault := by
  cases ini with
  | host => exact absurd rfl h
  | _ => rfl

/-! ### Low-word reads (R5, R394) -/

theorem State.counterLow_of_mayRead {s : State} {ini : Initiator} {a : Nat} (h : s.mayRead ini a = true) (hc : (cntAt a).isSome = true)
    (hmac : a / 0x100000 ≠ 3) :
    s.counterLow ini a = ((s.setHeld ini a (word ((s.cnt a).toNat / 4294967296))).setCnt a 0).emit (.bus ini (.data (word (s.cnt a).toNat))) := by
  rw [State.counterLow, if_pos hc, State.readAt_of_mayRead h, State.cntRead, State.cntReady, if_pos hmac]

theorem State.holdingLow_of_mayRead {s : State} {ini : Initiator} {a v : Nat} (h : s.mayRead ini a = true) (hv : s.pairValue a = some v) :
    s.holdingLow ini a = (s.setHeld ini a (word (v / 4294967296))).emit (.bus ini (.data (word v))) := by
  rw [State.holdingLow, hv]
  exact State.readAt_of_mayRead h

/-! ### Events (R385) -/

@[simp] theorem State.rd_afterEvent (s : State) (a b : Nat) : (s.afterEvent a).rd b = s.rd b := by
  unfold State.rd; rw [(State.afterEvent_keep s a).same .regs rfl]

theorem pinEvent_w1c (p : Fin 16) : eventAt (TIO.PIN_EVENT p) = some (TIO.PIN_EVENT p) ∧ w1cReg (TIO.PIN_EVENT p) 0x1F = true := by
  revert p; decide

/-- A write of an event register of a pin clears the bits that are written. -/
theorem State.eventClear_pinEvent {s : State} {ini : Initiator} {p : Fin 16} {w : Word} (h : s.mayWrite ini (TIO.PIN_EVENT p) = true)
    (h0 : s.setNow (TIO.PIN_EVENT p) = 0) :
    s.eventClear ini (TIO.PIN_EVENT p) w =
      ((s.wr (TIO.PIN_EVENT p) (s.rd (TIO.PIN_EVENT p) &&& ~~~(w &&& 0x1F))).afterEvent (TIO.PIN_EVENT p)).emit (.bus ini .done) := by
  obtain ⟨hev, hreg⟩ := pinEvent_w1c p
  have hp := p.isLt
  have hring : TIO.PIN_EVENT p ≠ BRG.RING_EVENT := by simp only [TIO.PIN_EVENT, BRG.RING_EVENT]; omega
  have hwak : TIO.PIN_EVENT p ≠ WAK.WAK_EVENT := by simp only [TIO.PIN_EVENT, WAK.WAK_EVENT]; omega
  have hcrs : TIO.PIN_EVENT p ≠ CRS.CRS_EVENT := by simp only [TIO.PIN_EVENT, CRS.CRS_EVENT]; omega
  simp only [State.eventClear, hev, State.writeAt_of_mayWrite h, State.regStore, State.eventStore, hring, hwak, hcrs,
    State.plainWrite_of_w1c hreg h0, if_true, if_false, false_and]

/-! ### The debugger's system bus (R313) -/

/-- A word of the control pair's data RAM is written. -/
theorem State.sysbus_dataRam {s : State} {a : Nat} (v : Word) (hm : s.mute .jtag = false) (hlo : 0x10000000 ≤ a)
    (hhi : a + 4 ≤ 0x10080000) (halign : a % 4 = 0) :
    s.sysbus a 4 (some v) = (s.memStore 0 a (bytesLE 4 v)).emit (.bus .jtag .done) := by
  have hregion : coreRegion false a 4 = some (1, a - 0x10000000) := by
    simp only [coreRegion, Bool.false_eq_true, if_false]
    rw [if_neg (by omega), if_pos ⟨hlo, hhi⟩]
  have hsize : ¬ (coreSize 4 = false ∨ a % 4 ≠ 0) := not_or.2 ⟨by decide, by omega⟩
  rw [State.sysbus, if_neg (by rw [hm]; decide), if_neg hsize, State.mapAccess, hregion]
  rfl

/-- A word that is stored in a core memory stands there byte by byte, the lowest first. -/
theorem State.memByte_memStore_word {s : State} (h : s.wf = true) (p a : Nat) (v : Word) {j : Nat} (hj : j < 4) :
    (s.memStore p a (bytesLE 4 v)).memByte p (a + j) = BitVec.ofNat 8 (v.toNat / 256 ^ j) := by
  obtain ⟨-, -, -, -, -, -, -, hmem, -⟩ := (State.wf_iff s).1 h
  have hkey : memKey p (a + j) = memKey p a + j := (Nat.add_assoc ..).symm
  unfold State.memByte
  rw [State.mem_memStore hmem, hkey, if_pos ⟨Nat.le_add_right .., Nat.add_lt_add_left hj _⟩, Nat.add_sub_cancel_left]
  simp only [bytesLE, List.getD_eq_getElem?_getD, List.getElem?_map, List.getElem?_range hj, Option.map_some, Option.getD_some]

/-- It leaves every other byte of the core memories alone. -/
theorem State.memByte_memStore_of_apart {s : State} (h : s.wf = true) {p a q b : Nat} {l : Bytes}
    (hout : ¬ (memKey p a ≤ memKey q b ∧ memKey q b < memKey p a + l.length)) : (s.memStore p a l).memByte q b = s.memByte q b := by
  obtain ⟨-, -, -, -, -, -, -, hmem, -⟩ := (State.wf_iff s).1 h
  exact (State.mem_memStore hmem).trans (if_neg hout)

/-- A window that does not serve the initiator refuses its accesses. -/
theorem State.windowWrite_of_noUser {s : State} {ini : Initiator} {a size : Nat} {w : Word} (hm : s.mute ini = false)
    (hu : ∀ peer, windowUser peer ini = false) : s.windowWrite ini a size w = s.windowRefuse ini := by
  simp only [State.windowWrite, hm, hu, Bool.false_eq_true, Bool.not_false, true_or, if_true, if_false, ite_self]

theorem State.windowRead_of_noUser {s : State} {ini : Initiator} {a size : Nat} (hm : s.readMute ini = false)
    (hu : ∀ peer, windowUser peer ini = false) : s.windowRead ini a size = s.windowRefuse ini := by
  simp only [State.windowRead, hm, hu, Bool.false_eq_true, Bool.not_false, true_or, if_true, if_false, ite_self]

/-- The windows serve no access of the debugger. -/
theorem State.regAccess_jtag_of_aperture {s : State} {a size : Nat} (w : Option Word) (hm : s.mute .jtag = false) (ha : 0x1400000 ≤ a) :
    s.regAccess .jtag a size w = s.emit (.bus .jtag .fault) := by
  have hu : ∀ peer, windowUser peer .jtag = false := fun _ => rfl
  have hr : s.readMute .jtag = false := by rw [State.readMute, hm]; rfl
  unfold State.regAccess
  rw [if_pos ha]
  cases w with
  | none => exact State.windowRead_of_noUser hr hu
  | some v => exact State.windowWrite_of_noUser hm hu

/-- From the apertures on, the map of the control pair has the register space alone. -/
theorem coreRegion_of_apertures {a size : Nat} (ha : 0x41400000 ≤ a) :
    coreRegion false a size = none ∨ ∃ r, 0x1400000 ≤ r ∧ coreRegion false a size = some (3, r) := by
  simp only [coreRegion, Bool.false_eq_true, if_false]
  rw [if_neg (by omega), if_neg (by omega), if_neg (by omega)]
  split
  · exact .inr ⟨_, by omega, rfl⟩
  · exact .inl rfl

/-- In the apertures and above the register space every access of the debugger ends with an error, whatever its size. -/
theorem State.sysbus_of_apertures {s : State} {a size : Nat} (w : Option Word) (hm : s.mute .jtag = false) (ha : 0x41400000 ≤ a) :
    s.sysbus a size w = s.emit (.bus .jtag .fault) := by
  rw [State.sysbus, if_neg (by rw [hm]; decide)]
  split
  · rfl
  · rw [State.mapAccess]
    obtain hnone | ⟨r, hr, hregion⟩ := coreRegion_of_apertures (size := size) ha
    · rw [hnone]
    · rw [hregion]; exact State.regAccess_jtag_of_aperture w hm hr

/-! ### The statement -/

/-- Settles O14: each clause is the rule above for its kind of access, with the reads of the state that the rule answers. -/
theorem registerAccesses : Obligations.RegisterAccesses := by
  unfold Obligations.RegisterAccesses
  refine ⟨?word, ?locked, ?size, ?sizeHost, ?counter, ?pair, ?event, ?ram, ?aperture⟩
  case word =>
    intro ini a w s hwf ha hmay
    have hp := plainWords_storesOnly a ha
    have hwrite := hp.registerWrite w hmay
    rw [State.plainWrite_of_rw w (plainWords_wholeWord a ha)] at hwrite
    refine ⟨(s.wr a w).emit (.bus ini .done), congrArg Host.Outcome.next ?_, State.rd_wr_self hwf a w, fun b hb => State.rd_wr_ne hwf w hb,
      rfl, rfl⟩
    rw [toNat_regAddr hp.low, hwrite]
  case locked =>
    intro ini w s hwf hmay hrel hw
    have hwrite := pcieSubsys_storesOnly.registerWrite w hmay
    rw [State.plainWrite_of_locked pcieSubsys_wholeWord hrel hw] at hwrite
    have hrd := State.rd_lockedWrite (State.wr_wf hwf SYS.PCIE_SUBSYS (s.rd SYS.PCIE_SUBSYS))
    refine ⟨_, congrArg Host.Outcome.next hwrite, ?_, ?_, fun b hb => ?_⟩
    · rw [State.rd_emit, hrd, if_neg (by decide), State.rd_wr_rd hwf]
    · rw [State.rd_emit, hrd, if_pos rfl, BitVec.getLsbD_or, show (BitVec.ofNat 32 (2 ^ 26)).getLsbD 26 = true by decide, Bool.or_true]
    · rw [State.rd_emit, hrd, if_neg hb, State.rd_wr_rd hwf]
  case size =>
    intro ini a size w s hm hlow hbad hini
    refine congrArg Host.Outcome.next ((State.registerWrite_of_badSize hm hlow hbad).trans ?_)
    rw [sizeEnd_of_ne_host hini]; rfl
  case sizeHost =>
    intro a size w s hm hlow hbad
    exact congrArg Host.Outcome.next (State.registerWrite_of_badSize hm hlow hbad)
  case counter =>
    intro ini a s hwf hc hmac hmay
    have hw := State.setHeld_wf hwf ini a.toNat (word ((s.cnt a.toNat).toNat / 4294967296))
    refine ⟨_, congrArg Host.Outcome.next (State.counterLow_of_mayRead hmay hc hmac), ?_, fun b hb => ?_, ?_, rfl, rfl⟩
    · rw [State.cnt_emit, State.cnt_setCnt hw, if_pos rfl]
    · rw [State.cnt_emit, State.cnt_setCnt hw, if_neg hb, State.cnt_setHeld]
    · exact State.held_setHeld hwf ..
  case pair =>
    intro ini s hwf hmay
    exact ⟨_, congrArg Host.Outcome.next (State.holdingLow_of_mayRead hmay rfl), rfl, State.held_setHeld hwf .., rfl⟩
  case event =>
    intro ini p w s hwf hmay h0
    have haddr : (BitVec.ofNat 25 (TIO.PIN_EVENT p)).toNat = TIO.PIN_EVENT p :=
      toNat_regAddr (by have hp := p.isLt; simp only [TIO.PIN_EVENT]; omega)
    refine ⟨_, congrArg Host.Outcome.next ((congrArg (s.eventClear ini · w) haddr).trans (State.eventClear_pinEvent hmay h0)), ?_, fun b hb => ?_⟩
    · rw [State.rd_emit, State.rd_afterEvent, State.rd_wr_self hwf]
    · rw [State.rd_emit, State.rd_afterEvent, State.rd_wr_ne hwf _ hb]
  case ram =>
    intro k v s hwf hk hm
    generalize ha : 0x10000000 + 4 * k = a
    have haddr : (BitVec.ofNat 32 a).toNat = a := Nat.mod_eq_of_lt (by omega)
    have hkeep := State.memStore_keep s 0 a (bytesLE 4 v)
    refine ⟨(s.memStore 0 a (bytesLE 4 v)).emit (.bus .jtag .done), congrArg Host.Outcome.next ?_,
      fun j hj => State.memByte_memStore_word hwf 0 a v hj, fun q b hq hb hout => State.memByte_memStore_of_apart hwf ?_,
      hkeep.same .regs rfl, congrArg (· ++ [_]) (hkeep.same .wire rfl)⟩
    · rw [haddr, State.sysbus_dataRam v hm (by omega) (by omega) (by omega)]
    · rw [show (bytesLE 4 v).length = 4 from rfl]
      unfold memKey
      omega
  case aperture =>
    intro a size w s hm ha
    exact congrArg Host.Outcome.next (State.sysbus_of_apertures w hm ha)

end Sys2Proof.Machine

/-! PROOFS. The timing pins and the time marker of chapter 03: what each of their operations comes to in the state that it meets, and the
three statements about them. -/
namespace Sys2Proof.Machine

/-! ### What a pin's operations read -/

/-- Fields read the registers alone. -/
theorem State.get_congr_regs {s t : State} (h : t.regs = s.regs) (g : Fld) : t.get g = s.get g := by
  unfold State.get State.rd; rw [h]

theorem State.bit_congr_regs {s t : State} (h : t.regs = s.regs) (g : Fld) : t.bit g = s.bit g := by
  unfold State.bit; rw [State.get_congr_regs h]

/-- The marker generator's next instant reads MK_START and MK_PERIOD alone. -/
theorem State.mkNext_congr {s t : State} (h : ∀ a, 0x200018 ≤ a → a ≤ 0x200024 → t.rd a = s.rd a) (q : Nat) :
    t.mkNext q = s.mkNext q := by
  have hget : ∀ f : Fld, 0x200018 ≤ f.addr → f.addr ≤ 0x200024 → t.get f = s.get f := fun f h1 h2 => by
    unfold State.get; rw [h _ h1 h2]
  unfold State.mkNext State.mkStart State.mkPeriod
  rw [hget TIO.MK_START_SEC_HI_SEC_HI (by decide) (by decide), hget TIO.MK_START_SEC_LO_SEC_LO (by decide) (by decide),
    hget TIO.MK_START_NS_NS (by decide) (by decide), hget TIO.MK_START_NS_QNS (by decide) (by decide),
    hget TIO.MK_PERIOD_MS (by decide) (by decide)]

/-! ### ARM and STOP (R54, R55) -/

/-- While a pulse is active, a train or STOP is kept for its trailing edge. -/
theorem State.pinTake_of_active {s : State} {p : Nat} (h : (s.pin p).active = true) (t : Option Train) :
    s.pinTake p t = s.setPin p { s.pin p with defer := some t } := by
  rw [State.pinTake, if_pos h]

/-- The train that an ARM of an output starts. -/
def State.armedTrain (s : State) (p : Nat) : Train :=
  let r : Train := { start := s.pinStart p, period := s.get (TIO.PERIOD_QNS p), width := s.get (TIO.WIDTH_QNS p),
                     count := s.get (TIO.COUNT_PULSES p),
                     next := firstK (s.pinStart p) (s.get (TIO.PERIOD_QNS p)) (s.nowQ + 400), done := 0 }
  if s.pinStart p < s.nowQ + 400 then { r with next := max r.next (s.leadFrom p r s.nowQ) } else r

/-- An ARM in time, or of a train without an end, takes its train. -/
theorem State.pinArm_of_timely {s : State} {p : Nat} (hmode : s.pinMode p = pinOutput) (hlim : s.pinLimits p = true)
    (htime : s.nowQ + 400 ≤ s.pinStart p ∨ s.get (TIO.COUNT_PULSES p) = 0) : s.pinArm p = s.pinTake p (some (s.armedTrain p)) := by
  have hnot : ¬ (s.pinStart p < s.nowQ + 400 ∧ s.get (TIO.COUNT_PULSES p) ≠ 0) := by omega
  simp only [State.pinArm, hmode, hlim, hnot, BEq.rfl, Bool.not_true, Bool.false_and, Bool.false_eq_true, true_and, if_true, if_false]
  rfl

/-- A late ARM of a train of COUNT pulses stops the generator and raises LATE. -/
theorem State.pinArm_of_late {s : State} {p : Nat} (hmode : s.pinMode p = pinOutput) (hlim : s.pinLimits p = true)
    (hlate : s.pinStart p < s.nowQ + 400) (hcount : s.get (TIO.COUNT_PULSES p) ≠ 0) :
    s.pinArm p = (s.pinTake p none).raise (TIO.PIN_EVENT_LATE p) := by
  simp only [State.pinArm, hmode, hlim, hlate, BEq.rfl, Bool.not_true, Bool.false_and, Bool.false_eq_true, true_and, if_true, if_false]
  exact if_pos hcount

/-! ### Leading edges (R53) -/

theorem State.pulseLead_of_active {s : State} {p : Nat} (h : (s.pin p).active = true) : s.pulseLead p = s := by
  simp only [State.pulseLead, h, Bool.not_true, Bool.false_eq_true, false_and, and_false, if_false]
  split <;> rfl

/-- The instant of the trailing edge of a pulse whose leading edge comes now. -/
def State.trailOf (s : State) (p : Nat) (r : Train) : Nat :=
  ((if s.leadAt p r r.next + 16 < s.nowQ then (s.nowQ : Int) else s.leadAt p r r.next) + r.width).toNat

/-- A leading edge that is due starts the pulse. -/
theorem State.pin_pulseLead {s : State} {p : Nat} {r : Train} (hwf : s.wf = true) (htrain : (s.pin p).train = some r)
    (hmode : s.pinMode p = pinOutput) (hact : (s.pin p).active = false) (hgated : s.gated = false) (hdue : s.leadAt p r r.next ≤ s.nowQ) :
    (s.pulseLead p).pin p =
      { s.pin p with active := true, trailAt := s.trailOf p r, train := some { r with next := r.next + 1 } } := by
  simp only [State.pulseLead, htrain, hmode, hact, hgated, hdue, Bool.not_false, and_self, if_true]
  split
  case isTrue => exact (State.pin_emit ..).trans (State.pin_setPin_self hwf ..)
  case isFalse => exact State.pin_setPin_self hwf ..

/-! ### Trailing edges (R53, R55) -/

/-- The driver of an inactive generator takes the enable that mode and claims ask for. -/
theorem State.pin_pinEnable {s : State} {p : Nat} (hwf : s.wf = true) (h : (s.pin p).active = false) :
    (s.pinEnable p).pin p = { s.pin p with driving := s.pinWant p } := by
  unfold State.pinEnable
  by_cases hd : (s.pin p).driving = s.pinWant p
  · simp only [hd, or_true, if_true]
    rw [← hd]
  · simp only [h, hd, Bool.false_eq_true, or_self, if_false]
    split
    case isTrue => exact (State.pin_emit ..).trans (State.pin_setPin_self hwf ..)
    case isFalse => exact State.pin_setPin_self hwf ..

/-- The train that runs after a trailing edge: what was deferred, or what is left of the train that was running. -/
def State.trainAfter (s : State) (p : Nat) : Option Train :=
  match (s.pin p).defer with
  | some (some t) => some { t with next := max t.next (s.leadFrom p t (s.pin p).trailAt) }
  | some none => none
  | none =>
    match (s.pin p).train with
    | some t => if t.count ≠ 0 ∧ t.count ≤ t.done + 1 then none else some { t with done := t.done + 1 }
    | none => none

/-- The end of a pulse leaves the pin inactive, with nothing deferred. -/
theorem State.pin_pulseEnd {s : State} {p : Nat} (hwf : s.wf = true) :
    (s.pulseEnd p).pin p =
      { s.pin p with active := false, train := s.trainAfter p, defer := none, driving := s.pinWant p } := by
  generalize ht : (if (s.pin p).driving then s.emit (.pin p (s.pinHigh p false)) else s).bump (TIO.PULSE_CNT p) = t
  have hkeep : Keep 0x4000000002 s t := by
    rw [← ht]
    exact (keep_ite ((State.emit_keep ..).mono rfl) (Keep.refl s)).trans (State.bump_keep ..) rfl
  have hregs : t.regs = s.regs := hkeep.same .regs rfl
  have hlead : ∀ r q, t.leadFrom p r q = s.leadFrom p r q := fun r q => by
    unfold State.leadFrom State.pinDly; rw [State.get_congr_regs hregs]
  have hwant : ∀ x, (t.setPin p x).pinWant p = s.pinWant p := fun x => by
    have hr : (t.setPin p x).regs = s.regs := hregs
    unfold State.pinWant State.pinMode State.drives State.ownClaim State.peerClaim State.pairEn State.pairId
    simp only [State.get_congr_regs hr, State.bit_congr_regs hr]
  have hend : s.pulseEnd p = (t.setPin p { s.pin p with active := false, train := s.trainAfter p, defer := none }).pinEnable p := by
    unfold State.pulseEnd State.trainAfter
    simp only [ht, hlead] <;> rfl
  have hset := State.pin_setPin_self (hkeep.wf hwf) p { s.pin p with active := false, train := s.trainAfter p, defer := none }
  rw [hend, State.pin_pinEnable (State.setPin_wf (hkeep.wf hwf) ..) (by rw [hset]), hset, hwant]

theorem State.pulseTrail_of_early {s : State} {p : Nat} (h : s.nowQ < (s.pin p).trailAt) : s.pulseTrail p = s := by
  rw [State.pulseTrail, if_neg]
  rintro ⟨-, -, hdue⟩
  omega

theorem State.pulseTrail_of_due {s : State} {p : Nat} (hgated : s.gated = false) (hact : (s.pin p).active = true)
    (hdue : (s.pin p).trailAt ≤ s.nowQ) : s.pulseTrail p = s.pulseEnd p := by
  rw [State.pulseTrail, if_pos ⟨hact, by rw [hgated]; rfl, hdue⟩]

/-- What a trailing edge that is due leaves. -/
theorem State.pulseTrailingEdge_of_due {p : Fin 16} {s : State} (hwf : s.wf = true) (hgated : s.gated = false)
    (hact : (s.pin p).active = true) (hdue : (s.pin p).trailAt ≤ s.nowQ) :
    ∃ t, exec (.pulseTrailingEdge p) s = .next t ∧ (t.pin p).active = false ∧ (t.pin p).defer = none ∧
      (t.pin p).train = s.trainAfter p ∧ t.regs = s.regs := by
  have hpin := State.pin_pulseEnd (p := p) hwf
  exact ⟨_, congrArg Host.Outcome.next (State.pulseTrail_of_due hgated hact hdue), congrArg Pin.active hpin, congrArg Pin.defer hpin,
    congrArg Pin.train hpin, (State.pulseEnd_keep ..).same .regs rfl⟩

/-! ### The capture registers (R64) -/

/-- The first three capture registers of a pin, in the order of their addresses. -/
def capReg (p : Nat) : Fin 3 → Nat
  | 0 => TIO.CAP_INFO p
  | 1 => TIO.CAP_NS p
  | 2 => TIO.CAP_SEC_LO p

/-- What they show of an entry. -/
def capWord (e : Nat × Bool) : Fin 3 → Word
  | 0 => word (flag e.2 1 + 1)
  | 1 => word (nsOf e.1 * 4 + qnsOf e.1)
  | 2 => word (secOf e.1)

theorem State.capHead_of_evtEn {s : State} {p : Nat} (h : s.bit (TIO.PIN_CFG_EVT_EN p) = true) : s.capHead p = none := by
  rw [State.capHead, if_pos h]

theorem State.capHead_of_evtDis {s : State} {p : Nat} (h : s.bit (TIO.PIN_CFG_EVT_EN p) = false) : s.capHead p = (s.pin p).fifo.head? := by
  rw [State.capHead, if_neg (by rw [h]; decide)]

theorem State.capHead_of_empty {s : State} {p : Nat} (h : (s.pin p).fifo = []) : s.capHead p = none := by
  rw [State.capHead, h]
  exact ite_self _

theorem State.capPop_of_none {s : State} {p : Nat} (h : s.capHead p = none) : s.capPop p = (0, s) := by
  rw [State.capPop, h]

/-- While EVT_EN is 0, the read of CAP_SEC_HI removes the head. -/
theorem State.capPop_of_cons {s : State} {p : Nat} {e : Nat × Bool} {r : List (Nat × Bool)} (hdis : s.bit (TIO.PIN_CFG_EVT_EN p) = false)
    (hfifo : (s.pin p).fifo = e :: r) :
    s.capPop p = (word (secOf e.1 / 4294967296 % 65536), s.setPin p { s.pin p with fifo := r, framed := (s.pin p).framed - 1 }) := by
  rw [State.capPop, State.capHead_of_evtDis hdis, hfifo]
  rfl

/-- The answer to a read of CAP_SEC_HI when no entry is shown. -/
theorem State.capSecHiRead_of_none {s : State} {ini : Initiator} {p : Fin 16} (hmay : s.mayRead ini (TIO.CAP_SEC_HI p) = true)
    (hnone : s.capHead p = none) :
    exec (.capSecHiRead ini p) s = .next { s with wire := s.wire ++ [.bus ini (.data 0)] } := by
  refine congrArg Host.Outcome.next ((State.readAt_of_mayRead hmay).trans ?_)
  rw [State.capPop_of_none hnone]
  rfl

/-- The answer to a read of CAP_SEC_HI that takes the head out. -/
theorem State.capSecHiRead_of_cons {s : State} {ini : Initiator} {p : Fin 16} {e : Nat × Bool} {r : List (Nat × Bool)}
    (hmay : s.mayRead ini (TIO.CAP_SEC_HI p) = true) (hdis : s.bit (TIO.PIN_CFG_EVT_EN p) = false) (hfifo : (s.pin p).fifo = e :: r) :
    exec (.capSecHiRead ini p) s =
      .next ((s.setPin p { s.pin p with fifo := r, framed := (s.pin p).framed - 1 }).emit
        (.bus ini (.data (word (secOf e.1 / 4294967296 % 65536))))) := by
  refine congrArg Host.Outcome.next ((State.readAt_of_mayRead hmay).trans ?_)
  rw [State.capPop_of_cons hdis hfifo]

/-- The capture registers are mapped words without a counter, a semaphore or write-only bits, open to every initiator. -/
theorem capReg_plain (p : Fin 16) (k : Fin 3) :
    isMapped (capReg p k) = true ∧ secOnly (capReg p k) = false ∧ semOf (capReg p k) = none ∧ (cntAt (capReg p k)).isSome = false ∧
      cntHigh (capReg p k) = false ∧ woBits (capReg p k) = 0 := by
  refine ⟨?_, ?_, ?_, ?_, ?_, ?_⟩ <;> revert p k <;> decide

theorem capReg_eq (p : Nat) (k : Fin 3) : capReg p k = 0x20013c + 4 * k + 0x80 * p := by
  match k with
  | 0 => rfl
  | 1 => rfl
  | 2 => rfl

/-- The address of a capture register says which part of an entry it shows. -/
theorem capWord_of_addr (p : Nat) (e : Nat × Bool) (k : Fin 3) :
    (if capReg p k = TIO.CAP_INFO p then word (flag e.2 1 + 1)
      else if capReg p k = TIO.CAP_NS p then word (nsOf e.1 * 4 + qnsOf e.1)
      else if capReg p k = TIO.CAP_SEC_LO p then word (secOf e.1)
      else word (secOf e.1 / 4294967296 % 65536)) = capWord e k := by
  match k with
  | 0 => simp [capReg, capWord]
  | 1 => simp [capReg, capWord, TIO.CAP_INFO, TIO.CAP_NS]
  | 2 => simp [capReg, capWord, TIO.CAP_INFO, TIO.CAP_NS, TIO.CAP_SEC_LO]

/-- A capture register shows the head of the FIFO, or zero. -/
theorem State.tioValue_capReg (s : State) (p : Fin 16) (k : Fin 3) :
    s.tioValue (capReg p k) = ((s.capHead p).map (capWord · k)).getD 0 := by
  have hk := k.isLt
  have hslot : (capReg p k % 0x100000 - 0x100) / 0x80 = p := by rw [capReg_eq]; omega
  have hsum : capReg p k ≠ TIO.TIO_EVENT_SUM := by rw [capReg_eq]; simp only [TIO.TIO_EVENT_SUM]; omega
  have hstat : capReg p k ≠ TIO.PIN_STATUS p := by rw [capReg_eq]; simp only [TIO.PIN_STATUS]; omega
  have hlevel : capReg p k ≠ TIO.FIFO_LEVEL p := by rw [capReg_eq]; simp only [TIO.FIFO_LEVEL]; omega
  have hcap : capReg p k = TIO.CAP_INFO p ∨ capReg p k = TIO.CAP_NS p ∨ capReg p k = TIO.CAP_SEC_LO p
      ∨ capReg p k = TIO.CAP_SEC_HI p := by
    rw [capReg_eq]; simp only [TIO.CAP_INFO, TIO.CAP_NS, TIO.CAP_SEC_LO]; omega
  simp only [State.tioValue, hslot, hsum, hstat, hlevel, hcap, capWord_of_addr, if_true, if_false]
  cases s.capHead p <;> rfl

/-- The block of the timing pins has no latched pair. -/
theorem State.pairValue_of_tio (s : State) {a : Nat} (h : a / 0x100000 = 2) : s.pairValue a = none := by
  have h0 : a ≠ TIM.DOM_OFF_LO 0 := by rintro rfl; cases h
  have h1 : a ≠ TIM.DOM_OFF_LO 1 := by rintro rfl; cases h
  have h2 : a ≠ CPU.MTIME_LO := by rintro rfl; cases h
  have h3 : a ≠ WAK.AO_TIME_LO := by rintro rfl; cases h
  simp [State.pairValue, h0, h1, h2, h3, h]

/-- The read of a capture register has no effect. -/
theorem State.fetchBus_capReg (s : State) (ini : Initiator) (p : Fin 16) (k : Fin 3) :
    s.fetchBus ini (capReg p k) = (((s.capHead p).map (capWord · k)).getD 0, s) := by
  obtain ⟨-, -, -, hcnt, hhigh, hwo⟩ := capReg_plain p k
  have hk := k.isLt
  have hslot : capReg p k / 0x100000 = 2 := by rw [capReg_eq]; omega
  have hnum : (capReg p k % 0x100000 - 0x100) / 0x80 = p := by rw [capReg_eq]; omega
  have hlast : capReg p k ≠ TIO.CAP_SEC_HI p := by rw [capReg_eq]; simp only [TIO.CAP_SEC_HI]; omega
  have hvalue : s.busValue ini (capReg p k) = ((s.capHead p).map (capWord · k)).getD 0 := by
    unfold State.busValue
    rw [hslot, hwo, ← s.tioValue_capReg p k]
    exact BitVec.and_allOnes
  simp only [State.fetchBus, hvalue, hcnt, hhigh, State.pairValue_of_tio s hslot, hslot, hnum, hlast, Bool.false_eq_true, and_false, if_false]

/-- A word that the debugger reads in the register space. -/
theorem State.sysbus_readWord {s : State} {a : Nat} (hm : s.mute .jtag = false) (hlow : a < 0x1400000) (halign : a % 4 = 0)
    (hmap : isMapped a = true) (hopen : secOnly a = false) (hsem : semOf a = none) :
    s.sysbus (0x40000000 + a) 4 none = (s.fetchBus .jtag a).2.emit (.bus .jtag (.data (s.fetchBus .jtag a).1)) := by
  have hregion : coreRegion false (0x40000000 + a) 4 = some (3, a) := by
    simp only [coreRegion, Bool.false_eq_true, if_false]
    rw [if_neg (by omega), if_neg (by omega), if_neg (by omega), if_pos (by omega), Nat.add_sub_cancel_left]
  have hsize : ¬ (coreSize 4 = false ∨ (0x40000000 + a) % 4 ≠ 0) := not_or.2 ⟨by decide, by omega⟩
  have hheld : (if Initiator.jtag = .sec then none else s.semHeld a) = none := by rw [State.semHeld, hsem, ite_self]
  rw [State.sysbus, if_neg (by rw [hm]; decide), if_neg hsize, State.mapAccess, hregion]
  show s.regAccess .jtag a 4 none = _
  rw [State.regAccess, if_neg (by omega), if_neg (by omega), hheld]
  simp only [State.ended, State.busRead, State.readEnd, hmap, hopen, Bool.not_true, Bool.and_false, Bool.false_eq_true, if_false]
  rfl

/-- What the debugger reads in a capture register. -/
theorem State.debugRead_capReg {s : State} (hm : s.mute .jtag = false) (p : Fin 16) (k : Fin 3) :
    exec (.debugSysbusAccess (BitVec.ofNat 32 (0x40000000 + capReg p k)) 4 none) s =
      .next { s with wire := s.wire ++ [.bus .jtag (.data (((s.capHead p).map (capWord · k)).getD 0))] } := by
  obtain ⟨hmap, hopen, hsem, -⟩ := capReg_plain p k
  have hk := k.isLt
  have hp := p.isLt
  have heq := capReg_eq p k
  have haddr : (BitVec.ofNat 32 (0x40000000 + capReg p k)).toNat = 0x40000000 + capReg p k := Nat.mod_eq_of_lt (by omega)
  refine congrArg Host.Outcome.next ((congrArg (s.sysbus · 4 none) haddr).trans ?_)
  rw [State.sysbus_readWord hm (by omega) (by omega) hmap hopen hsem, State.fetchBus_capReg]
  rfl

/-! ### Event frames (R65) -/

/-- How many waiting entries the next event frame of a pin takes. -/
def State.evtTake (s : State) (p : Nat) : Nat := min (s.evtMax p) ((s.pin p).fifo.length - (s.pin p).framed)

/-- The pin after it: the entries stay in the FIFO as framed, and SEQ counts on. -/
def State.pinFramed (s : State) (p : Nat) : Pin :=
  { s.pin p with seq := ((s.pin p).seq + 1) % 65536, dropped := 0, stepped := false, framed := (s.pin p).framed + s.evtTake p }

/-- An event frame of a pin that is not paired goes to Basin as a frame of P15. -/
theorem State.evtFrame_of_unpaired {s : State} {p : Nat} (h : s.bit (TIO.PIN_CFG_PAIRED p) = false) :
    ∃ f : Frame, s.evtFrame p = (s.setPin p (s.pinFramed p)).addFrame f ∧ f.inPort = 15 ∧ f.origin = some (p, s.evtTake p) := by
  have hlen : (((s.pin p).fifo.drop (s.pin p).framed).take (s.evtMax p)).length = s.evtTake p := by
    rw [List.length_take, List.length_drop, State.evtTake]
  simp only [State.evtFrame, h, hlen, Bool.false_and, Bool.false_eq_true, if_false]
  exact ⟨_, rfl, rfl, rfl⟩

/-- EVT_HOLD sends the waiting entries once it has passed since the oldest of them. -/
theorem State.evtHold_of_due {s : State} {p : Nat} {e : Nat × Bool} (hen : s.bit (TIO.PIN_CFG_EVT_EN p) = true)
    (hhead : ((s.pin p).fifo.drop (s.pin p).framed).head? = some e)
    (hdue : e.1 + max 1 (s.get (TIO.EVT_CFG_EVT_HOLD p)) * usQ ≤ s.nowQ) : s.evtHold p = s.evtFrame p := by
  simp only [State.evtHold, hhead]
  exact if_pos ⟨hen, hdue⟩

/-! ### Inputs (R59 to R62) -/

@[simp] theorem State.edgeSel_setPin (s : State) (p q : Nat) (x : Pin) (act : Bool) : (s.setPin p x).edgeSel q act = s.edgeSel q act := by
  rw [State.edgeSel, State.get_setPin, State.edgeSel]

@[simp] theorem State.pinDly_setPin (s : State) (p q : Nat) (x : Pin) : (s.setPin p x).pinDly q = s.pinDly q := by
  rw [State.pinDly, State.get_setPin, State.pinDly]

/-- While no edge has passed its filter time, nothing is accepted. -/
theorem State.edgeAccept_of_waiting {s : State} {p : Nat}
    (h : ((s.pin p).cand.any fun c => decide (c.2.2 + s.filterTicks p ≤ s.tim.ticks)) = false) : s.edgeAccept p = s := by
  unfold State.edgeAccept
  dsimp only
  split
  next act q n hcand =>
    rw [hcand, Option.any_some, decide_eq_false_iff_not, Nat.not_le] at h
    exact if_pos (.inr h)
  next => rfl

/-- The pin after a level change that meets no edge whose filter time has passed: the edge waits, or the pulse is discarded. -/
def State.pinChanged (s : State) (p : Nat) (hi : Bool) (ph : Nat) : Pin :=
  { s.pin p with raw := hi, cand := if s.pinHigh p hi = (s.pin p).level then none else some (s.pinHigh p hi, s.nowQ + ph, s.tim.ticks) }

theorem State.inputEdge_of_waiting {s : State} {p : Nat} {hi : Bool} (ph : Nat) (hraw : (s.pin p).raw ≠ hi) (hmode : s.pinMode p = pinInput)
    (hgated : s.gated = false)
    (hwait : ((s.pin p).cand.any fun c => decide (c.2.2 + s.filterTicks p ≤ s.tim.ticks)) = false) :
    s.inputEdge p hi ph = s.setPin p (s.pinChanged p hi ph) := by
  rw [State.inputEdge, if_neg hraw, State.edgeAccept_of_waiting hwait]
  simp only [hmode, hgated, ne_eq, not_true_eq_false, Bool.false_eq_true, or_self, if_false]
  rfl

/-- Without EVT_EN no event frame is built. -/
theorem State.evtFull_of_evtDis {s : State} {p : Nat} (h : s.bit (TIO.PIN_CFG_EVT_EN p) = false) : s.evtFull p = s := by
  rw [State.evtFull, State.evtBuild, if_neg (by rw [h]; simp)]

/-- With room in the FIFO, and without windows and event frames, an accepted edge is appended and counted. -/
theorem State.capture_of_room {s : State} {p : Nat} (t : Nat) (act : Bool) (hwin : s.get (TIO.WIN_LEN_QNS p) = 0)
    (hroom : (s.pin p).fifo.length < 64) (hdis : s.bit (TIO.PIN_CFG_EVT_EN p) = false) :
    s.capture p t act = (s.setPin p { s.pin p with fifo := (s.pin p).fifo ++ [(t, act)] }).bump (TIO.CAP_CNT p) := by
  have hin : s.inWindow p t = true := if_pos hwin
  simp only [State.capture, hin, hroom, Bool.not_true, Bool.false_eq_true, if_true, if_false]
  exact State.evtFull_of_evtDis hdis

/-- The pin once the edge under its filter has been accepted. -/
def State.pinAccepted (s : State) (p : Nat) (act : Bool) (n : Nat) : Pin :=
  { s.pin p with cand := none, level := act, stuckAt := if act && !(s.pin p).masked then some n else none }

/-- An edge whose filter time has passed is accepted, and captured when EDGE selects it. -/
theorem State.edgeAccept_of_selected {s : State} {p : Nat} {act : Bool} {q n : Nat} (hmode : s.pinMode p = pinInput)
    (hcand : (s.pin p).cand = some (act, q, n)) (hdue : n + s.filterTicks p ≤ s.tim.ticks) (hmask : (s.pin p).masked = false)
    (hsel : s.edgeSel p act = true) :
    s.edgeAccept p = (s.setPin p (s.pinAccepted p act n)).capture p ((q : Int) - s.pinDly p).toNat act := by
  have hearly : ¬ (s.pinMode p ≠ pinInput ∨ s.tim.ticks < n + s.filterTicks p) := not_or.2 ⟨fun hne => hne hmode, by omega⟩
  simp only [State.edgeAccept, State.pinAccepted, hcand, hearly, hmask, hsel, State.edgeSel_setPin, State.pinDly_setPin, Bool.not_false,
    Bool.and_self, if_true, if_false]

/-- A stuck input is masked; without EVT_EN it sends nothing. -/
theorem State.inputStuck_of_due {s : State} {p n : Nat} (hmode : s.pinMode p = pinInput) (hstuck : (s.pin p).stuckAt = some n)
    (hdue : n + s.stuckTicks p < s.tim.ticks) (hmask : (s.pin p).masked = false) (hms : s.get (TIO.PIN_CFG_STUCK_MS p) ≠ 0)
    (hdis : ((s.setPin p { s.pin p with masked := true, stuckAt := none }).raise (TIO.PIN_EVENT_STUCK p)).bit (TIO.PIN_CFG_EVT_EN p)
      = false) :
    s.inputStuck p = (s.setPin p { s.pin p with masked := true, stuckAt := none }).raise (TIO.PIN_EVENT_STUCK p) := by
  have hcond : ((s.pin p).stuckAt.any fun n => decide (n + s.stuckTicks p < s.tim.ticks)) = true ∧ (!(s.pin p).masked) = true
      ∧ s.pinMode p = pinInput ∧ s.get (TIO.PIN_CFG_STUCK_MS p) ≠ 0 :=
    ⟨by rw [hstuck, Option.any_some]; exact decide_eq_true hdue, by rw [hmask, Bool.not_false], hmode, hms⟩
  rw [State.inputStuck, if_pos hcond, if_neg (by rw [hdis]; decide)]

/-! ### The marker generator (R66) -/

/-- A write of MK_CTRL that sets ENABLE of a generator that stands starts it. -/
theorem State.mkCtrlWrite_of_start {s : State} {w : Word} (hwf : s.wf = true) (hstop : s.marker.running = false)
    (hw : w.getLsbD 0 = true) :
    s.mkCtrlWrite w =
      { s.plainWrite TIO.MK_CTRL w with marker := { s.marker with running := true, next := s.mkNext (s.nowQ + 400) } } := by
  have hbit : (s.plainWrite TIO.MK_CTRL w).bit TIO.MK_CTRL_ENABLE = true :=
    (State.bit_plainWrite_of_plain hwf (f := TIO.MK_CTRL_ENABLE) (by decide) rfl).trans hw
  obtain ⟨r, hr⟩ := Option.isSome_iff_exists.1 (show (regAt TIO.MK_CTRL).isSome = true by decide)
  have hnext : ∀ q, (s.plainWrite TIO.MK_CTRL w).mkNext q = s.mkNext q := State.mkNext_congr fun a hlo hhi => by
    rw [State.rd_plainWrite hwf hr (by simp only [FLT.FLT_DIRECT]; omega), if_neg (by simp only [TIO.MK_CTRL]; omega)]
  simp only [State.mkCtrlWrite, hbit, State.plainWrite_marker, hstop, hnext, Bool.true_eq_false, if_true, if_false]
  rw [State.nowQ, State.plainWrite_tim]
  rfl

/-- The state in which the generator has taken instant M. -/
def State.markerNext (s : State) : State :=
  { s with marker := { s.marker with next := s.mkNext (s.marker.next + 1), stepped := false } }

/-- The same with MK_SEQ counted on. -/
def State.markerTaken (s : State) : State := s.markerNext.set TIO.MK_SEQ_SEQ (s.markerNext.get TIO.MK_SEQ_SEQ + 1)

/-- At instant M a generator that is not paired sends a frame. -/
theorem State.markerInstant_of_due {s : State} (hrun : s.marker.running = true) (hgated : s.gated = false)
    (hdue : s.marker.next ≤ s.nowQ) (hpair : s.markerTaken.bit TIO.MK_CTRL_PAIRED = false) :
    ∃ data, s.markerInstant = (s.markerTaken.offerP15 2 data).bump TIO.MK_CNT := by
  have hsent : ¬ (s.markerTaken.bit TIO.MK_CTRL_PAIRED && !s.markerTaken.drives) = true := by rw [hpair]; simp
  unfold State.markerInstant
  rw [if_pos ⟨hrun, by rw [hgated]; rfl, hdue⟩]
  exact ⟨_, if_neg hsent⟩

/-! ### ARM and STOP during a pulse: the statement -/

/-- Settles O45: an ARM or STOP goes through `pinTake`, which keeps it in `defer` while the pulse is active, and `pulseEnd` takes it from
there. -/
theorem armStopDuringPulse : Obligations.ArmStopDuringPulse := by
  unfold Obligations.ArmStopDuringPulse
  refine ⟨?arm, ?lateArm, ?stop, ?lead, ?leadActive, ?trailEarly, ?trailArm, ?trailStop⟩
  case arm =>
    intro ini p s hwf hmay hmode hlim htime hact
    have harm := (State.pinArm_of_timely hmode hlim htime).trans (State.pinTake_of_active hact _)
    refine ⟨_, congrArg Host.Outcome.next (State.writeAt_of_mayWrite hmay), ?_⟩
    rw [harm]
    exact ⟨rfl, rfl, State.pin_setPin_self hwf .., fun q hq => State.pin_setPin_ne hwf _ hq⟩
  case lateArm =>
    intro ini p s hwf hmay hmode hlim hlate hcount hact
    have harm := State.pinArm_of_late hmode hlim hlate hcount
    rw [State.pinTake_of_active hact] at harm
    refine ⟨_, congrArg Host.Outcome.next (State.writeAt_of_mayWrite hmay), ?_⟩
    rw [harm]
    refine ⟨?_, State.raise_bit (State.setPin_wf hwf ..) rfl (by decide : 2 < 32), ?_⟩
    · rw [State.pin_emit, State.pin_raise, State.pin_setPin_self hwf]
    · rw [State.emit_wire, State.raise_wire, State.setPin_wire]
  case stop =>
    intro ini p s hwf hmay hact
    refine ⟨_, congrArg Host.Outcome.next (State.writeAt_of_mayWrite hmay), ?_⟩
    rw [State.pinStop, State.pinTake_of_active hact]
    exact ⟨State.pin_setPin_self hwf .., rfl, rfl⟩
  case lead =>
    intro p r s hwf htrain hmode hact hgated hdue
    have hpin := State.pin_pulseLead hwf htrain hmode hact hgated hdue
    exact ⟨_, rfl, by rw [hpin], by rw [hpin, State.trailOf], (State.pulseLead_keep ..).same .regs rfl⟩
  case leadActive =>
    intro p s hact
    exact congrArg Host.Outcome.next (State.pulseLead_of_active hact)
  case trailEarly =>
    intro p s _ hearly
    exact congrArg Host.Outcome.next (State.pulseTrail_of_early hearly)
  case trailArm =>
    intro p r s hwf hgated hact hdue hdefer
    obtain ⟨t, hexec, hact', hdefer', htrain, hregs⟩ := State.pulseTrailingEdge_of_due hwf hgated hact hdue
    exact ⟨t, hexec, hact', hdefer', htrain.trans (by rw [State.trainAfter, hdefer]), hregs⟩
  case trailStop =>
    intro p s hwf hgated hact hdue hdefer
    obtain ⟨t, hexec, hact', hdefer', htrain, hregs⟩ := State.pulseTrailingEdge_of_due hwf hgated hact hdue
    exact ⟨t, hexec, hact', hdefer', htrain.trans (by rw [State.trainAfter, hdefer]), hregs⟩

/-! ### The capture registers: the statement -/

/-- Settles O46: what the capture registers show and remove follows from `capHead`, which EVT_EN gates. -/
theorem captureRegisters : Obligations.CaptureRegisters := by
  unfold Obligations.CaptureRegisters
  refine ⟨?shown, ?taken, ?zero, ?kept, ?hold⟩
  case shown =>
    intro p e r s hm hdis hfifo
    have hread := fun k => State.debugRead_capReg hm p k
    rw [State.capHead_of_evtDis hdis, hfifo] at hread
    refine ⟨(hread 0).trans ?_, hread 1, hread 2⟩
    cases h : e.2 <;> simp [capWord, h, flag, word]
  case taken =>
    intro ini p e r s hwf hmay hdis hfifo
    refine ⟨_, State.capSecHiRead_of_cons hmay hdis hfifo, ?_, fun q hq => State.pin_setPin_ne hwf _ hq, rfl, rfl⟩
    rw [State.pin_emit, State.pin_setPin_self hwf]
  case zero =>
    intro p s hm hen
    have hread := fun k => State.debugRead_capReg hm p k
    rw [State.capHead_of_evtEn hen] at hread
    exact ⟨hread 0, hread 1, hread 2⟩
  case kept =>
    intro ini p s hmay hen
    exact State.capSecHiRead_of_none hmay (State.capHead_of_evtEn hen)
  case hold =>
    intro p e s hwf hen hpair hhead hdue
    obtain ⟨f, hframe, hport, horigin⟩ := State.evtFrame_of_unpaired hpair
    refine ⟨_, _, congrArg Host.Outcome.next ((State.evtHold_of_due hen hhead hdue).trans hframe), State.addFrame_frames .., hport, rfl,
      horigin, ?_⟩
    rw [State.pin_addFrame, State.pin_setPin_self hwf, State.pinFramed]

/-! ### Captures and the marker: the statement -/

/-- Settles O12: each clause is the law above for its operation, with what the new state reads. -/
theorem capturesAndMarker : Obligations.CapturesAndMarker := by
  unfold Obligations.CapturesAndMarker
  refine ⟨?edge, ?accept, ?stuck, ?release, ?pop, ?empty, ?hold, ?start, ?instant⟩
  case edge =>
    intro p hi ph s hwf hgated hmode hraw hwait
    refine ⟨_, congrArg Host.Outcome.next (State.inputEdge_of_waiting ph hraw hmode hgated hwait), ?_, ?_, ?_,
      fun q hq => State.pin_setPin_ne hwf _ hq⟩ <;> rw [State.pin_setPin_self hwf] <;> rfl
  case accept =>
    intro p act q n s hwf hmode hcand hdue hmask hsel hwin hdis hroom
    have hpin := State.pin_setPin_self hwf p (s.pinAccepted p act n)
    have hcap := State.capture_of_room (s := s.setPin p (s.pinAccepted p act n)) ((q : Int) - s.pinDly p).toNat act hwin
      (by rw [hpin]; exact hroom) hdis
    have hwf' := State.setPin_wf hwf p (s.pinAccepted p act n)
    have hafter := State.pin_setPin_self hwf' p { (s.setPin p (s.pinAccepted p act n)).pin p with
      fifo := ((s.setPin p (s.pinAccepted p act n)).pin p).fifo ++ [(((q : Int) - s.pinDly p).toNat, act)] }
    rw [hpin] at hcap hafter
    exact ⟨_, congrArg Host.Outcome.next ((State.edgeAccept_of_selected hmode hcand hdue hmask hsel).trans hcap),
      congrArg Pin.level hafter, congrArg Pin.cand hafter, congrArg Pin.fifo hafter, State.cnt_bump_self (State.setPin_wf hwf' ..) _, rfl⟩
  case stuck =>
    intro p n s hwf hmode hstuck hdue hmask hms hdis
    have hwf' := State.setPin_wf hwf p { s.pin p with masked := true, stuckAt := none }
    have hdis' := (State.bit_raise_ne hwf' (f := TIO.PIN_EVENT_STUCK p) (g := TIO.PIN_CFG_EVT_EN p)
      (by simp only [TIO.PIN_EVENT_STUCK, TIO.PIN_CFG_EVT_EN]; omega)).trans hdis
    refine ⟨_, congrArg Host.Outcome.next (State.inputStuck_of_due hmode hstuck hdue hmask hms hdis'), ?_,
      State.raise_bit hwf' rfl (by decide : 1 < 32), State.raise_cnts ..⟩
    rw [State.pin_raise, State.pin_setPin_self hwf]
  case release =>
    intro ini p s hwf hmay hmask
    refine ⟨_, congrArg Host.Outcome.next (State.writeAt_of_mayWrite hmay), ?_⟩
    rw [State.pinRelease, if_pos hmask, State.pin_emit, State.baseline, State.pin_setPin_self hwf]
    exact ⟨rfl, rfl, rfl, rfl⟩
  case pop =>
    intro ini p e r s hwf hmay hdis hfifo
    refine ⟨_, State.capSecHiRead_of_cons hmay hdis hfifo, ?_, rfl⟩
    rw [State.pin_emit, State.pin_setPin_self hwf]
  case empty =>
    intro ini p s hmay hfifo
    exact State.capSecHiRead_of_none hmay (State.capHead_of_empty hfifo)
  case hold =>
    intro p e s hwf hen hpair hhead hdue
    obtain ⟨f, hframe, -, -⟩ := State.evtFrame_of_unpaired hpair
    have hpin : ((s.setPin p (s.pinFramed p)).addFrame f).pin p = s.pinFramed p := State.pin_setPin_self hwf ..
    refine ⟨_, congrArg Host.Outcome.next ((State.evtHold_of_due hen hhead hdue).trans hframe), ?_, ?_, ?_, List.length_append .., rfl⟩ <;>
      rw [hpin] <;> rfl
  case start =>
    intro ini w s hwf hmay hstop hw
    have hstart := State.mkCtrlWrite_of_start hwf hstop hw
    refine ⟨_, congrArg Host.Outcome.next ((State.writeAt_of_mayWrite hmay).trans (congrArg (State.emit · _) hstart)), rfl, ?_⟩
    exact (State.bit_plainWrite_of_plain hwf (f := TIO.MK_CTRL_ENABLE) (by decide) rfl).trans hw
  case instant =>
    intro s hwf hgated hrun hdue hpair hseq
    have hwfNext : s.markerNext.wf = true := (State.wf_upd_marker ..).trans hwf
    have hwfTaken : s.markerTaken.wf = true := State.set_wf hwfNext ..
    have hseqNext : s.markerNext.get TIO.MK_SEQ_SEQ = s.get TIO.MK_SEQ_SEQ := State.get_upd_marker ..
    have hpair' : s.markerTaken.bit TIO.MK_CTRL_PAIRED = false := by
      rw [State.markerTaken, State.bit, State.get_set_ne hwfNext (by decide), State.markerNext, State.get_upd_marker, ← State.bit, hpair]
    obtain ⟨data, hinstant⟩ := State.markerInstant_of_due hrun hgated hdue hpair'
    refine ⟨_, congrArg Host.Outcome.next hinstant, ?_, ?_, ?_, ?_⟩
    · rw [State.bump_marker, State.offerP15, State.addFrame_marker, State.markerTaken, State.set_marker, State.markerNext]
    · rw [State.get_bump, State.offerP15, State.get_addFrame, State.markerTaken, hseqNext]
      exact State.get_set hwfNext (by decide) (by decide) (Nat.lt_of_lt_of_eq (Nat.succ_lt_succ hseq) (by decide))
    · rw [State.cnt_bump_self ((State.offerP15_keep ..).wf hwfTaken), State.offerP15, State.cnt_addFrame, State.markerTaken,
        State.cnt_set, State.markerNext, State.cnt_upd_marker]
    · rw [State.bump_frames, State.offerP15, State.addFrame_frames, List.length_append, List.length_singleton, State.markerTaken,
        State.set_frames, State.markerNext]

end Sys2Proof.Machine

/-! PROOFS. The stream contexts of chapter 06: the words of the stream tables, what each stage does to a frame of a plain context, the
refill and the timers, the table commands, and the two statements about them. -/
namespace Sys2Proof.Machine

/-! ### Words of the stream tables -/

/-- Entries of two tables of a block share no word. -/
theorem tkey_ne_of_table {blk t t' i i' w w' : Nat} (ht : t' ≠ t) (hi : i * 32 + w < 1048576) (hi' : i' * 32 + w' < 1048576) :
    tkey blk t' 0 i' w' ≠ tkey blk t 0 i w := by
  unfold tkey; omega

theorem tkey_ne_of_word {blk t b i w w' : Nat} (hw : w' ≠ w) : tkey blk t b i w' ≠ tkey blk t b i w := by
  unfold tkey; omega

theorem State.setStrW_wf {s : State} (h : s.wf = true) (tbl idx w : Nat) (v : Word) : (s.setStrW tbl idx w v).wf = true :=
  State.setTw_wf h ..

theorem State.strW_setStrW_self {s : State} (h : s.wf = true) (tbl idx w : Nat) (v : Word) :
    (s.setStrW tbl idx w v).strW tbl idx w = v := State.tw_setTw_self h ..

/-- The other words of the entry stay. -/
theorem State.strW_setStrW_word {s : State} (h : s.wf = true) {tbl idx w w' : Nat} (v : Word) (hw : w' ≠ w) :
    (s.setStrW tbl idx w v).strW tbl idx w' = s.strW tbl idx w' :=
  (State.tab_setTw h ..).trans (if_neg (tkey_ne_of_word hw))

/-- The entries of the other stream tables stay. -/
theorem State.strW_setStrW_table {s : State} (h : s.wf = true) {tbl tbl' idx idx' w w' : Nat} (v : Word) (ht : tbl' ≠ tbl)
    (hi : idx * 32 + w < 1048576) (hi' : idx' * 32 + w' < 1048576) :
    (s.setStrW tbl idx w v).strW tbl' idx' w' = s.strW tbl' idx' w' :=
  (State.tab_setTw h ..).trans (if_neg (tkey_ne_of_table ht hi hi'))

theorem State.strB_congr {s t : State} {tbl idx w : Nat} (h : t.strW tbl idx w = s.strW tbl idx w) (hi lo : Nat) :
    t.strB tbl idx w hi lo = s.strB tbl idx w hi lo := congrArg (bitsOf · hi lo) h

/-- A counter of a stream table leaves the entries of the other tables. -/
theorem State.strW_tbump_table {s : State} (h : s.wf = true) {tbl tbl' idx idx' w w' : Nat} (n : Nat) (ht : tbl' ≠ tbl)
    (hi : idx * 32 + (w + 1) < 1048576) (hi' : idx' * 32 + w' < 1048576) :
    (s.tbump 5 tbl idx w n).strW tbl' idx' w' = s.strW tbl' idx' w' :=
  (State.strW_setStrW_table (State.setStrW_wf h ..) _ ht hi hi').trans
    (State.strW_setStrW_table h _ ht (Nat.lt_of_succ_lt hi) hi')

theorem bitsOf_word (n hi lo : Nat) : bitsOf (word n) hi lo = n % 4294967296 / 2 ^ lo % 2 ^ (hi + 1 - lo) := by
  rw [bitsOf, word, BitVec.toNat_ofNat]

theorem toNat_word (n : Nat) : (word n).toNat = n % 4294967296 := BitVec.toNat_ofNat ..

/-! ### Buckets of a meter (Table 6.4) -/

/-- The two words of a bucket hold 36 bits. -/
theorem bucket_words {v : Nat} (hv : v < 68719476736) :
    bitsOf (word (v / 4294967296 % 16)) 3 0 * 4294967296 + (word v).toNat = v := by
  rw [bitsOf_word, toNat_word]; omega

theorem State.tc_lt (s : State) (m : Nat) : s.tc m < 68719476736 := by
  have hhi : s.strB tMeter m 5 3 0 < 16 := Nat.mod_lt _ (by decide)
  have hlo := (s.strW tMeter m 4).isLt
  unfold State.tc; omega

theorem State.tc_congr {s t : State} {m : Nat} (h4 : t.strW tMeter m 4 = s.strW tMeter m 4) (h5 : t.strW tMeter m 5 = s.strW tMeter m 5) :
    t.tc m = s.tc m := by
  unfold State.tc; rw [h4, State.strB_congr h5]

theorem State.te_congr {s t : State} {m : Nat} (h6 : t.strW tMeter m 6 = s.strW tMeter m 6) (h7 : t.strW tMeter m 7 = s.strW tMeter m 7) :
    t.te m = s.te m := by
  unfold State.te; rw [h6, State.strB_congr h7]

theorem State.setTc_wf {s : State} (h : s.wf = true) (m v : Nat) : (s.setTc m v).wf = true := (State.setTc_keep ..).wf h

/-- The committed bucket stands in words 4 and 5 of its meter. -/
theorem State.strW_setTc_word {s : State} (h : s.wf = true) {m w : Nat} (v : Nat) (h4 : w ≠ 4) (h5 : w ≠ 5) :
    (s.setTc m v).strW tMeter m w = s.strW tMeter m w :=
  (State.strW_setStrW_word (State.setStrW_wf h ..) _ h5).trans (State.strW_setStrW_word h _ h4)

/-- The excess bucket stands in words 6 and 7. -/
theorem State.strW_setTe_word {s : State} (h : s.wf = true) {m w : Nat} (v : Nat) (h6 : w ≠ 6) (h7 : w ≠ 7) :
    (s.setTe m v).strW tMeter m w = s.strW tMeter m w :=
  (State.strW_setStrW_word (State.setStrW_wf h ..) _ h7).trans (State.strW_setStrW_word h _ h6)

theorem State.strW_setTc_table {s : State} (h : s.wf = true) {m tbl idx w : Nat} (v : Nat) (hm : m < 4096) (ht : tbl ≠ tMeter)
    (hi : idx * 32 + w < 1048576) : (s.setTc m v).strW tbl idx w = s.strW tbl idx w :=
  (State.strW_setStrW_table (State.setStrW_wf h ..) _ ht (by omega) hi).trans (State.strW_setStrW_table h _ ht (by omega) hi)

theorem State.tc_setTc {s : State} (h : s.wf = true) {m v : Nat} (hv : v < 68719476736) : (s.setTc m v).tc m = v := by
  have hw := State.setStrW_wf h tMeter m 4 (word v)
  have h4 : (s.setTc m v).strW tMeter m 4 = word v :=
    (State.strW_setStrW_word hw _ (by decide)).trans (State.strW_setStrW_self h ..)
  have h5 : (s.setTc m v).strW tMeter m 5 = word (v / 4294967296 % 16) := State.strW_setStrW_self hw ..
  rw [State.tc, State.strB, h4, h5, bucket_words hv]

theorem State.te_setTe {s : State} (h : s.wf = true) {m v : Nat} (hv : v < 68719476736) : (s.setTe m v).te m = v := by
  have hw := State.setStrW_wf h tMeter m 6 (word v)
  have h6 : (s.setTe m v).strW tMeter m 6 = word v :=
    (State.strW_setStrW_word hw _ (by decide)).trans (State.strW_setStrW_self h ..)
  have h7 : (s.setTe m v).strW tMeter m 7 = word (v / 4294967296 % 16) := State.strW_setStrW_self hw ..
  rw [State.te, State.strB, h6, h7, bucket_words hv]

theorem State.te_setTc {s : State} (h : s.wf = true) (m v : Nat) : (s.setTc m v).te m = s.te m :=
  State.te_congr (State.strW_setTc_word h v (by decide) (by decide)) (State.strW_setTc_word h v (by decide) (by decide))

theorem State.tc_setTe {s : State} (h : s.wf = true) (m v : Nat) : (s.setTe m v).tc m = s.tc m :=
  State.tc_congr (State.strW_setTe_word h v (by decide) (by decide)) (State.strW_setTe_word h v (by decide) (by decide))

/-- A bucket size is at most 2^20 - 1 bytes. -/
theorem bucketSize_lt (w : Word) : bitsOf w 19 0 * 65536 < 68719476736 := by
  have h : bitsOf w 19 0 < 2 ^ 20 := Nat.mod_lt _ (by decide)
  omega

theorem bucketFill_lt (w : Word) (v : Nat) : min (bitsOf w 19 0 * 65536) v < 68719476736 :=
  Nat.lt_of_le_of_lt (Nat.min_le_left ..) (bucketSize_lt w)

/-- Both buckets of a meter, set one after the other. -/
theorem State.buckets_setTc_setTe {s : State} (h : s.wf = true) {m a b : Nat} (ha : a < 68719476736) (hb : b < 68719476736) :
    ((s.setTc m a).setTe m b).tc m = a ∧ ((s.setTc m a).setTe m b).te m = b :=
  ⟨(State.tc_setTe (State.setTc_wf h m a) m b).trans (State.tc_setTc h ha), State.te_setTe (State.setTc_wf h m a) hb⟩

/-! ### A recovery function that is reset (R137, R139) -/

theorem State.setRecov_wf {s : State} (h : s.wf = true) (r seq : Nat) (any : Bool) (filled : Nat) : (s.setRecov r seq any filled).wf = true :=
  State.setStrW_wf h ..

theorem State.history_setHistory_zero {s : State} (h : s.wf = true) (r : Nat) : (s.setHistory r 0).history r = 0 := by
  have hw := State.setStrW_wf h tRec r 2 (word 0)
  have h2 : (s.setHistory r 0).strW tRec r 2 = word 0 :=
    (State.strW_setStrW_word hw _ (by decide)).trans (State.strW_setStrW_self h ..)
  have h3 : (s.setHistory r 0).strW tRec r 3 = word 0 := State.strW_setStrW_self hw ..
  rw [State.history, h2, h3]; rfl

/-- HISTORY stands in words 2 and 3 of its function. -/
theorem State.strW_setHistory {s : State} (h : s.wf = true) {r w : Nat} (v : Nat) (h2 : w ≠ 2) (h3 : w ≠ 3) :
    (s.setHistory r v).strW tRec r w = s.strW tRec r w :=
  (State.strW_setStrW_word (State.setStrW_wf h ..) _ h3).trans (State.strW_setStrW_word h _ h2)

/-- After a reset: TAKE_ANY set with the last number kept, no history, the configuration as it was. -/
structure State.RecReset (s t : State) (r : Nat) : Prop where
  takeAny : t.strB tRec r 1 15 15 = 1
  number : t.strB tRec r 1 31 16 = s.strB tRec r 1 31 16
  history : t.history r = 0
  config : t.strW tRec r 0 = s.strW tRec r 0

theorem State.recReset_resets {s : State} (h : s.wf = true) (r : Nat) : s.RecReset (s.recReset r) r := by
  have hw := State.setRecov_wf h r (s.strB tRec r 1 31 16) true 0
  have hnum : s.strB tRec r 1 31 16 < 65536 := Nat.mod_lt _ (by decide)
  have h1 : (s.recReset r).strW tRec r 1 = word (s.strB tRec r 1 31 16 * 65536 + 32768 + 0) :=
    (State.strW_setHistory hw 0 (by decide) (by decide)).trans (State.strW_setStrW_self h ..)
  constructor
  case takeAny => rw [State.strB, h1, bitsOf_word]; omega
  case number => rw [State.strB, h1, bitsOf_word]; omega
  case history => exact State.history_setHistory_zero hw r
  case config => exact (State.strW_setHistory hw 0 (by decide) (by decide)).trans (State.strW_setStrW_word h _ (by decide))

/-- What reads the words of the function alone sees the reset as well. -/
theorem State.RecReset.congr {s t u : State} {r : Nat} (h : s.RecReset t r) (hw : ∀ w, w < 4 → u.strW tRec r w = t.strW tRec r w) :
    s.RecReset u r := by
  have h1 := hw 1 (by decide)
  exact ⟨(State.strB_congr h1 ..).trans h.takeAny, (State.strB_congr h1 ..).trans h.number,
    by rw [State.history, hw 2 (by decide), hw 3 (by decide)]; exact h.history, (hw 0 (by decide)).trans h.config⟩

/-! ### Frames that are found, put back and dropped (R11, R123) -/

theorem State.fid_of_frame? {s : State} {fid : Nat} {f : Frame} (h : s.frame? fid = some f) : f.fid = fid := by
  have hp := List.find?_some h
  exact beq_iff_eq.1 hp

/-- A frame that was put back is found under its number. -/
theorem State.frame?_putFrame {s : State} {f g : Frame} (h : s.frame? f.fid = some g) : (s.putFrame f).frame? f.fid = some f := by
  have hg := State.fid_of_frame? h
  have hpred : ((fun x : Frame => x.fid == f.fid) ∘ fun x => if x.fid = f.fid then f else x) = fun x => x.fid == f.fid := by
    funext x
    by_cases hx : x.fid = f.fid <;> simp [hx]
  unfold State.frame? at h ⊢
  rw [State.putFrame, List.find?_map, hpred, h, Option.map_some, if_pos hg]

/-- A frame whose number was taken out is not found. -/
theorem State.frame?_of_filtered {s : State} {fid : Nat} {l : List Frame} (h : s.frames = l.filter fun g => g.fid != fid) :
    s.frame? fid = none := by
  rw [State.frame?, h, List.find?_filter, List.find?_eq_none]
  intro g _
  cases hg : g.fid == fid <;> simp [bne, hg]

/-- A frame without a buffer and without a version count goes with its copies and deliveries, and no register changes. -/
theorem State.dropUnqueued_of_unbuffered {s : State} {fid : Nat} {f : Frame} (hf : s.frame? fid = some f) (hh : f.handle = none)
    (hc : f.counted = false) : (s.dropUnqueued fid).frames = s.frames.filter (fun g => g.fid != fid) ∧ (s.dropUnqueued fid).regs = s.regs := by
  have hver : s.versionRelease f = s := by rw [State.versionRelease, hc]; rfl
  simp only [State.dropUnqueued, State.endFrame, hf, hh, hver]
  exact ⟨rfl, rfl⟩

/-- A frame that is gone, or that came from an external port, is not let into the VOQs by the stages (R148). -/
theorem State.admitInternal_of_gone {s : State} {fid : Nat} (h : s.frame? fid = none) : s.admitInternal fid = s := by
  rw [State.admitInternal, h]

theorem State.admitInternal_of_external {s : State} {fid : Nat} {f : Frame} (h : s.frame? fid = some f) (hp : f.inPort < 14) :
    s.admitInternal fid = s := by
  rw [State.admitInternal, h]
  exact if_neg fun hc => Nat.not_le.2 hp hc.1

/-! ### The stages of a context (R123 to R141) -/

/-- A context that is valid and whose size filter, gate, recovery and generation are off and hold nothing back: only its meter acts. -/
structure State.MeterAlone (s : State) (c : Nat) : Prop where
  valid : s.strB tCtx c 0 31 31 = 1
  noFilter : s.strB tCtx c 0 30 30 = 0
  noGate : s.strB tCtx c 0 28 28 = 0
  noSequence : s.strB tCtx c 1 15 14 = 0
  sizeOpen : s.strB tCtx c 3 0 0 = 0
  gateOpen : s.strB tCtx c 3 1 1 = 0

theorem State.sizeFilter_of_off {s : State} {c : Nat} (f : Frame) (h : s.MeterAlone c) : s.sizeFilter c f = .go f s := by
  rw [State.sizeFilter]
  dsimp only
  rw [if_neg (by rw [h.sizeOpen]; decide), if_neg (by rw [h.noFilter]; exact fun hc => absurd hc.1 (by decide))]

theorem State.streamGate_of_off {s : State} {c : Nat} (f : Frame) (bad : Option (Fin 5)) (h : s.MeterAlone c) :
    s.streamGate c f bad = .go f s := by
  rw [State.streamGate]
  dsimp only
  rw [if_pos h.noGate, if_neg (by rw [h.gateOpen]; decide)]

theorem State.meterStage_of_off {s : State} {c : Nat} (f : Frame) (bad : Option (Fin 5)) (h : s.strB tCtx c 1 31 31 = 0) :
    s.meterStage c f bad = .go f s := by
  rw [State.meterStage, if_pos h]

theorem State.recoveryStage_of_off {s : State} {c : Nat} (f : Frame) (bad : Option (Fin 5)) (h : s.strB tCtx c 1 15 14 = 0) :
    s.recoveryStage c f bad = .go f s := by
  rw [State.recoveryStage]
  dsimp only
  rw [if_pos (by rw [h]; decide)]

theorem State.generateStage_of_off {s : State} {c : Nat} (f : Frame) (bad : Option (Fin 5)) (h : s.strB tCtx c 1 15 14 = 0) :
    s.generateStage c f bad = .go f s := by
  rw [State.generateStage]
  dsimp only
  rw [if_pos (.inl h)]

/-- A frame that the committed bucket of meter m has paid (R133). -/
def Frame.green (f : Frame) (m : Nat) : Frame := { f with colour := 0, paid := some (m, 0) }

/-- A table read without an uncorrectable error lets the stage act. -/
theorem State.strRead?_clean (s : State) (tbl idx : Nat) (f : Frame) (go : StageEnd) : s.strRead? none tbl idx f go = go := by
  rw [State.strRead?, Option.any_none, if_neg Bool.false_ne_true]

/-- An untagged frame that the committed bucket of a valid meter covers is green, and the bucket pays its length (R133). -/
theorem State.meterStage_of_green {s : State} {c m : Nat} {f : Frame} (hon : s.strB tCtx c 1 31 31 = 1) (hm : s.strB tCtx c 1 27 16 = m)
    (hopen : s.strB tCtx c 3 2 2 = 0) (hvalid : s.strB tMeter m 0 31 31 = 1) (htag : f.parse.outerTag = none)
    (hpay : f.len * 65536 ≤ s.tc m) :
    s.meterStage c f none = .go (f.green m) (s.setTc m (s.tc m - f.len * 65536)) := by
  rw [State.meterStage, if_neg (by rw [hon]; decide), hm]
  dsimp only
  rw [htag, State.strRead?_clean, if_neg (by rw [hvalid]; decide)]
  dsimp only
  rw [if_pos ⟨hopen, by rw [show ((0 : Nat) == 1) = false from rfl, Bool.and_false]; rfl, hpay⟩, Frame.green]

/-- The state in which a frame meets the first stage: it has been counted (R123). -/
def State.strEntered (s : State) (c : Nat) : State := (s.bump STR.STR_FRAMES_CNT).ctxCount c 0

/-- The state after the last stage: the frame has passed and is counted again. -/
def State.strPassed (s : State) (c : Nat) (f : Frame) : State :=
  (((s.putFrame { f with stage := .passed }).slowFollow f).bump STR.STR_PASS_CNT).ctxCount c 2

theorem State.strEntered_keep (s : State) (c : Nat) : Keep 0xA s (s.strEntered c) :=
  ((State.bump_keep ..).mono rfl).trans (State.ctxCount_keep ..) rfl

theorem State.strEntered_wf {s : State} (h : s.wf = true) (c : Nat) : (s.strEntered c).wf = true := (State.strEntered_keep s c).wf h

/-- What passing changes before the context's own counter counts. -/
theorem State.passed_keep (s : State) (f : Frame) :
    Keep 0x1082 s (((s.putFrame { f with stage := .passed }).slowFollow f).bump STR.STR_PASS_CNT) :=
  (((State.putFrame_keep ..).mono rfl).trans (State.slowFollow_keep ..) rfl).trans (State.bump_keep ..) rfl

theorem State.strPassed_keep (s : State) (c : Nat) (f : Frame) : Keep 0x108A s (s.strPassed c f) :=
  ((State.passed_keep s f).mono rfl).trans (State.ctxCount_keep ..) rfl

/-- The counters of a context stand in a table of their own. -/
theorem State.strW_ctxCount {s : State} (h : s.wf = true) {c n tbl idx w : Nat} (hc : c < 4096) (hn : n < 31) (ht : tbl ≠ tStrCtr)
    (hi : idx * 32 + w < 1048576) : (s.ctxCount c n).strW tbl idx w = s.strW tbl idx w :=
  State.strW_tbump_table h 1 ht (by omega) hi

theorem State.strW_of_tabs {s t : State} (h : t.tabs = s.tabs) (tbl idx w : Nat) : t.strW tbl idx w = s.strW tbl idx w := by
  unfold State.strW State.tw State.tab; rw [h]

theorem State.strW_strEntered {s : State} (h : s.wf = true) {c tbl idx w : Nat} (hc : c < 4096) (ht : tbl ≠ tStrCtr)
    (hi : idx * 32 + w < 1048576) : (s.strEntered c).strW tbl idx w = s.strW tbl idx w :=
  (State.strW_ctxCount (State.bump_wf h ..) hc (by decide) ht hi).trans (State.strW_of_tabs (State.bump_tabs ..) ..)

theorem State.strB_strEntered {s : State} (h : s.wf = true) {c tbl idx w : Nat} (hi lo : Nat) (hc : c < 4096) (ht : tbl ≠ tStrCtr)
    (hidx : idx * 32 + w < 1048576) : (s.strEntered c).strB tbl idx w hi lo = s.strB tbl idx w hi lo :=
  State.strB_congr (State.strW_strEntered h hc ht hidx) ..

theorem State.strW_strPassed {s : State} (h : s.wf = true) {c tbl idx w : Nat} (f : Frame) (hc : c < 4096) (ht : tbl ≠ tStrCtr)
    (hi : idx * 32 + w < 1048576) : (s.strPassed c f).strW tbl idx w = s.strW tbl idx w :=
  (State.strW_ctxCount ((State.passed_keep s f).wf h) hc (by decide) ht hi).trans
    (State.strW_of_tabs ((State.passed_keep s f).same .tabs rfl) ..)

theorem State.cnt_ctxCount (s : State) (c w a : Nat) : (s.ctxCount c w).cnt a = s.cnt a :=
  congrArg (Sparse.get _ · a) ((State.ctxCount_keep s c w).same .cnts rfl)

theorem State.cnt_setTc (s : State) (m v a : Nat) : (s.setTc m v).cnt a = s.cnt a :=
  congrArg (Sparse.get _ · a) ((State.setTc_keep s m v).same .cnts rfl)

theorem State.cnt_strEntered {s : State} (h : s.wf = true) (c a : Nat) :
    (s.strEntered c).cnt a = if a = STR.STR_FRAMES_CNT then s.cnt STR.STR_FRAMES_CNT + 1 else s.cnt a := by
  rw [State.strEntered, State.cnt_ctxCount, State.cnt_bump h]

theorem State.cnt_strPassed {s : State} (h : s.wf = true) (c : Nat) (f : Frame) :
    (s.strPassed c f).cnt STR.STR_PASS_CNT = s.cnt STR.STR_PASS_CNT + 1 := by
  have hwf := (State.slowFollow_keep (s.putFrame { f with stage := .passed }) f).wf (State.putFrame_wf h ..)
  rw [State.strPassed, State.cnt_ctxCount, State.cnt_bump_self hwf]
  rfl

theorem State.frame?_of_frames {s t : State} (h : t.frames = s.frames) (fid : Nat) : t.frame? fid = s.frame? fid := by
  rw [State.frame?, h]; rfl

theorem State.frame?_strEntered (s : State) (c fid : Nat) : (s.strEntered c).frame? fid = s.frame? fid :=
  State.frame?_of_frames ((State.strEntered_keep s c).same .frames rfl) fid

theorem State.frame?_setTc (s : State) (m v fid : Nat) : (s.setTc m v).frame? fid = s.frame? fid :=
  State.frame?_of_frames ((State.setTc_keep s m v).same .frames rfl) fid

theorem State.frame?_strPassed {s : State} {c : Nat} {f g : Frame} (h : s.frame? f.fid = some g) :
    (s.strPassed c f).frame? f.fid = some { f with stage := .passed } :=
  (State.frame?_of_frames ((State.ctxCount_keep ..).same .frames rfl) f.fid).trans
    (State.frame?_putFrame (f := { f with stage := .passed }) h)

/-- The counters that a frame moves when it enters leave its context and its meter alone. -/
theorem State.MeterAlone.strEntered {s : State} {c : Nat} (h : s.MeterAlone c) (hwf : s.wf = true) (hc : c < 4096) :
    (s.strEntered c).MeterAlone c := by
  have hbits : ∀ w hi lo, w < 4 → (s.strEntered c).strB tCtx c w hi lo = s.strB tCtx c w hi lo := fun w hi lo hw =>
    State.strB_strEntered hwf hi lo hc (by decide) (by omega)
  constructor
  case valid => rw [hbits 0 _ _ (by decide), h.valid]
  case noFilter => rw [hbits 0 _ _ (by decide), h.noFilter]
  case noGate => rw [hbits 0 _ _ (by decide), h.noGate]
  case noSequence => rw [hbits 1 _ _ (by decide), h.noSequence]
  case sizeOpen => rw [hbits 3 _ _ (by decide), h.sizeOpen]
  case gateOpen => rw [hbits 3 _ _ (by decide), h.gateOpen]

theorem State.tc_strEntered {s : State} (h : s.wf = true) {c m : Nat} (hc : c < 4096) (hm : m < 4096) : (s.strEntered c).tc m = s.tc m :=
  State.tc_congr (State.strW_strEntered h hc (by decide) (by omega)) (State.strW_strEntered h hc (by decide) (by omega))

theorem State.te_strEntered {s : State} (h : s.wf = true) {c m : Nat} (hc : c < 4096) (hm : m < 4096) : (s.strEntered c).te m = s.te m :=
  State.te_congr (State.strW_strEntered h hc (by decide) (by omega)) (State.strW_strEntered h hc (by decide) (by omega))

theorem State.tc_strPassed {s : State} (h : s.wf = true) {c m : Nat} (f : Frame) (hc : c < 4096) (hm : m < 4096) :
    (s.strPassed c f).tc m = s.tc m :=
  State.tc_congr (State.strW_strPassed h f hc (by decide) (by omega)) (State.strW_strPassed h f hc (by decide) (by omega))

theorem State.te_strPassed {s : State} (h : s.wf = true) {c m : Nat} (f : Frame) (hc : c < 4096) (hm : m < 4096) :
    (s.strPassed c f).te m = s.te m :=
  State.te_congr (State.strW_strPassed h f hc (by decide) (by omega)) (State.strW_strPassed h f hc (by decide) (by omega))

/-- A frame that has arrived well runs through the stages at its own length (R124). -/
theorem State.streamStages_of_arrived {s : State} {fid c : Nat} {f : Frame} (bad : Option (Fin 5)) (hf : s.frame? fid = some f)
    (hstage : f.stage = .resolved) (hstream : f.stream = some c) (hrun : s.stalled = false) (htail : f.tail = true)
    (hicv : f.icvWait = false) : s.streamStages fid bad = s.runStages c f bad := by
  have hct : s.canCutThrough f c = false := by simp [State.canCutThrough, htail]
  rw [State.streamStages, hf]
  dsimp only
  rw [hstage, hstream]
  dsimp only
  rw [hrun, hct, htail, hicv]
  rfl

/-- What follows a stage: nothing for a frame that it discarded. -/
def StageEnd.after (x : StageEnd) (k : Frame → State → State) : State :=
  match x with
  | .gone s => s
  | .go f s => k f s

theorem StageEnd.after_gone (s : State) (k : Frame → State → State) : (StageEnd.gone s).after k = s := (rfl)
theorem StageEnd.after_go (f : Frame) (s : State) (k : Frame → State → State) : (StageEnd.go f s).after k = k f s := (rfl)

/-- The stages of a valid or invalid context, one after the other (R123). -/
theorem State.runStages_eq (s : State) (c : Nat) (f : Frame) (bad : Option (Fin 5)) :
    s.runStages c f bad =
      ((s.strEntered c).strRead? bad tCtx c f (if (s.strEntered c).strB tCtx c 0 31 31 = 0 then
        .gone (((s.strEntered c).bump STR.INVALID_DROP_CNT).strDrop f) else (s.strEntered c).sizeFilter c f)).after fun f s =>
      (s.streamGate c f bad).after fun f s => (s.meterStage c f bad).after fun f s => (s.recoveryStage c f bad).after fun f s =>
      (s.generateStage c f bad).after fun f s => s.strPassed c f := (rfl)

/-- A context that is not valid discards the frame (R123). -/
theorem State.runStages_of_invalid {s : State} {c : Nat} {f : Frame} (h : (s.strEntered c).strB tCtx c 0 31 31 = 0) :
    s.runStages c f none = ((s.strEntered c).bump STR.INVALID_DROP_CNT).strDrop f := by
  rw [State.runStages_eq, State.strRead?_clean, if_pos h, StageEnd.after_gone]

/-- What the meter lets through passes, when only the meter acts. -/
theorem State.runStages_of_meterAlone {s t : State} {c : Nat} {f g : Frame} (h : (s.strEntered c).MeterAlone c)
    (hmeter : (s.strEntered c).meterStage c f none = .go g t) (hseq : t.strB tCtx c 1 15 14 = 0) :
    s.runStages c f none = t.strPassed c g := by
  rw [State.runStages_eq, State.strRead?_clean, if_neg (by rw [h.valid]; decide), State.sizeFilter_of_off f h, StageEnd.after_go,
    State.streamGate_of_off f none h, StageEnd.after_go, hmeter, StageEnd.after_go, State.recoveryStage_of_off g none hseq,
    StageEnd.after_go, State.generateStage_of_off g none hseq, StageEnd.after_go]

/-- A context whose meter is off passes the frame (R123). -/
theorem State.runStages_of_allOff {s : State} {c : Nat} {f : Frame} (hwf : s.wf = true) (hc : c < 4096) (h : s.MeterAlone c)
    (hoff : s.strB tCtx c 1 31 31 = 0) : s.runStages c f none = (s.strEntered c).strPassed c f := by
  have hentered := h.strEntered hwf hc
  have hoff' : (s.strEntered c).strB tCtx c 1 31 31 = 0 := (State.strB_strEntered hwf _ _ hc (by decide) (by omega)).trans hoff
  exact State.runStages_of_meterAlone hentered (State.meterStage_of_off f none hoff') hentered.noSequence

/-- A context whose meter passes the frame green: its bucket pays, and the frame has passed (R133). -/
theorem State.runStages_of_green {s : State} {c m : Nat} {f : Frame} (hwf : s.wf = true) (hc : c < 4096) (hm : m < 4096)
    (h : s.MeterAlone c) (hon : s.strB tCtx c 1 31 31 = 1) (hmeter : s.strB tCtx c 1 27 16 = m) (hopen : s.strB tCtx c 3 2 2 = 0)
    (hvalid : s.strB tMeter m 0 31 31 = 1) (htag : f.parse.outerTag = none) (hpay : f.len * 65536 ≤ s.tc m) :
    s.runStages c f none = ((s.strEntered c).setTc m (s.tc m - f.len * 65536)).strPassed c (f.green m) := by
  have hentered := h.strEntered hwf hc
  have hbits : ∀ w hi lo, w < 4 → (s.strEntered c).strB tCtx c w hi lo = s.strB tCtx c w hi lo := fun w hi lo hw =>
    State.strB_strEntered hwf hi lo hc (by decide) (by omega)
  have htc := State.tc_strEntered hwf hc hm
  have hgreen := State.meterStage_of_green (s := s.strEntered c) (m := m) ((hbits 1 _ _ (by decide)).trans hon)
    ((hbits 1 _ _ (by decide)).trans hmeter) ((hbits 3 _ _ (by decide)).trans hopen)
    ((State.strB_strEntered hwf _ _ hc (by decide) (by omega)).trans hvalid) htag (by rw [htc]; exact hpay)
  rw [htc] at hgreen
  exact State.runStages_of_meterAlone hentered hgreen ((State.strB_congr
    (State.strW_setTc_table (State.strEntered_wf hwf c) _ hm (by decide) (by omega)) ..).trans hentered.noSequence)

/-- A frame of an external port that passes the stages stays in the device as passed, and its buffer is taken elsewhere (R148). -/
theorem State.execStreamStages_of_passed {s u : State} {fid c : Nat} {f g : Frame} (hrun : s.streamStages fid none = u.strPassed c g)
    (hu : u.frame? fid = some f) (hfid : g.fid = f.fid) (hport : g.inPort < 14) :
    exec (.streamStages fid none) s = .next (u.strPassed c g) ∧
      (u.strPassed c g).frame? fid = some { g with stage := .passed } := by
  obtain rfl : g.fid = fid := hfid.trans (State.fid_of_frame? hu)
  have hframe := State.frame?_strPassed (c := c) hu
  exact ⟨congrArg Host.Outcome.next (by rw [hrun, State.admitInternal_of_external hframe hport]), hframe⟩

/-! ### Refill and timeout (R132, R139) -/

/-- The state whose meters are refilled: no written parameters wait, and the interval is this one (R132, R135). -/
def State.refillDue (s : State) : State := { s with str := { s.str with pend := [], grid := s.tim.ticks / 32 } }

theorem State.meterRefill_of_due {s : State} {m : Nat} (hrun : s.stalled = false) (hdue : s.str.grid ≠ s.tim.ticks / 32)
    (hone : s.strValid tMeter = [m]) : s.meterRefill = s.refillDue.refillOne m := by
  have hone' : s.refillDue.strValid tMeter = [m] := hone
  rw [State.meterRefill, if_neg (by rw [hrun]; simp [hdue])]
  dsimp only
  rw [← State.refillDue, hone']
  rfl

theorem State.meterRefill_of_done {s : State} (h : s.str.grid = s.tim.ticks / 32) : s.meterRefill = s := by
  rw [State.meterRefill, if_pos (.inr h)]

/-- The buckets of a meter after its refill. -/
theorem State.buckets_refillOne {s : State} (h : s.wf = true) (m : Nat) :
    (s.refillOne m).tc m =
      min (s.strB tMeter m 2 19 0 * 65536) (min (s.strB tMeter m 2 19 0 * 65536) (s.tc m) + s.strB tMeter m 0 23 0) ∧
    (s.strB tMeter m 0 29 29 = 0 → (s.refillOne m).te m =
      min (s.strB tMeter m 3 19 0 * 65536) (min (s.strB tMeter m 3 19 0 * 65536) (s.te m) + s.strB tMeter m 1 23 0)) := by
  have hset := fun a b => State.buckets_setTc_setTe h (m := m) (bucketFill_lt (s.strW tMeter m 2) a) (bucketFill_lt (s.strW tMeter m 3) b)
  refine ⟨(hset _ _).1, fun hunjoined => (hset _ _).2.trans ?_⟩
  rw [show bitsOf (s.strW tMeter m 0) 29 29 = 0 from hunjoined]
  rfl

/-- A function whose time without a frame has passed is reset, and counts it (R139). -/
theorem State.recoveryTimeout_of_due {s : State} {r : Nat} (hvalid : s.strB tRec r 0 31 31 = 1) (hany : s.strB tRec r 1 15 15 = 0)
    (hdue : assocD s.str.passAt r 0 + max 1 (s.strB tRec r 0 15 0) * msQ ≤ s.nowQ)
    (hquiet : ((s.recReset r).recCount r 12 1).strB tRec r 0 26 26 = 0) :
    s.recoveryTimeout r = (s.recReset r).recCount r 12 1 := by
  rw [State.recoveryTimeout, if_pos ⟨hvalid, hany, hdue⟩]
  exact if_neg (by rw [hquiet]; decide)

/-! ### Table commands (R396, R397) -/

/-- The fields of a command word under the OP of its row. -/
theorem bitsOf_withOp {cmd : Word} {op hi lo : Nat} (ha : hi < 24 ∨ 27 < lo) : bitsOf (withOp cmd op) hi lo = bitsOf cmd hi lo :=
  bitsOf_putBits_of_apart (by decide) (by decide) ha

theorem op_withOp {cmd : Word} {op : Nat} (h : op < 16) : bitsOf (withOp cmd op) 27 24 = op :=
  bitsOf_putBits (by decide) (by decide) h

/-- What a table command that is accepted does, by its OP (Table 6.10). -/
def State.strDo (s : State) (op tbl idx : Nat) (ecc : EccState) : State :=
  match op with
  | 1 => s.strRead tbl idx ecc
  | 2 => s.strWrite tbl idx
  | 3 => (s.setStrW tCtx idx 3 0).strResult 0
  | 4 => (if s.strB tMeter idx 0 31 31 = 1 then
      (s.setTc idx (bitsOf (s.meterW idx 2) 19 0 * 65536)).setTe idx (bitsOf (s.meterW idx 3) 19 0 * 65536) else s).strResult 0
  | _ => (if s.strB tRec idx 0 31 31 = 1 then s.recReset idx else s).strResult 0

theorem State.strDo_reset (s : State) (tbl idx : Nat) (ecc : EccState) :
    s.strDo 5 tbl idx ecc = (if s.strB tRec idx 0 31 31 = 1 then s.recReset idx else s).strResult 0 := (rfl)

/-- A command of the owner of the window that its table accepts, at an index that the table has. -/
theorem State.strTable_withOp {s : State} {ini : Initiator} {cmd : Word} {op tbl : Nat} {ecc : EccState}
    (hmay : s.mayWrite ini STR.TBL_CMD = true) (hown : s.ownsTable 1 ini = true) (hop : op < 16) (htbl : bitsOf cmd 31 28 = tbl)
    (hcombo : strCombo tbl op = true) (hidx : bitsOf cmd 11 0 < (strSize tbl).2) :
    s.strTable ini (withOp cmd op) ecc = (s.strDo op tbl (bitsOf cmd 11 0) ecc).emit (.bus ini .done) := by
  rw [State.strTable, State.tableWrite_of_owner hmay hown, State.strRun, op_withOp hop, bitsOf_withOp (.inr (by decide)),
    bitsOf_withOp (.inl (by decide)), htbl, if_neg (by rw [hcombo]; decide), if_neg (Nat.not_le.2 hidx)]
  rfl

/-- TBL_STATUS after a command that ended well and was answered. -/
theorem State.status_strOk {s : State} (h : s.wf = true) {e : Emit} : ((s.strResult 0).emit e).rd STR.TBL_STATUS = 0 := by
  rw [State.rd_emit, State.strResult, State.rd_wr_self h]; rfl

/-! ### READ and WRITE (R145, R418) -/

theorem strSize_words_le (tbl : Nat) : (strSize tbl).1 ≤ 16 := by
  unfold strSize; split <;> decide

/-- Word w of the data window. -/
theorem strData_addr (w : Nat) : STR.TBL_DATA 0 + 4 * w = STR.TBL_DATA w := by
  unfold STR.TBL_DATA; omega

theorem strData_ne_status (w : Nat) : STR.TBL_DATA w ≠ STR.TBL_STATUS := by
  unfold STR.TBL_DATA STR.TBL_STATUS; omega

/-- The data window after an entry was read into it. -/
def State.strShown (s : State) (tbl idx : Nat) : State := s.fillWindow (STR.TBL_DATA 0) 16 (s.entry 5 tbl 0 idx (strSize tbl).1)

theorem State.strShown_wf {s : State} (h : s.wf = true) (tbl idx : Nat) : (s.strShown tbl idx).wf = true := (State.fillWindow_keep ..).wf h

theorem State.rd_strShown {s : State} (h : s.wf = true) {tbl idx w : Nat} (hw : w < (strSize tbl).1) :
    (s.strShown tbl idx).rd (STR.TBL_DATA w) = s.strW tbl idx w := by
  have h16 := strSize_words_le tbl
  rw [← strData_addr, State.strShown, State.rd_fillWindow 16 h, if_pos (by omega), Nat.add_sub_cancel_left,
    Nat.mul_div_cancel_left w (by decide)]
  exact State.entry_getD _ _ _ _ _ _ _ hw

/-- A READ without an uncorrectable error shows the entry; it clears one of counters. -/
theorem State.strRead_of_ok {s : State} {tbl idx : Nat} {ecc : EccState} (hecc : ecc ≠ .uncorrectable) :
    s.strRead tbl idx ecc = (if 5 ≤ tbl then (s.strShown tbl idx).setEntry 5 tbl 0 idx 0 (List.replicate 16 0)
      else s.strShown tbl idx).strResult 0 := by
  rw [State.strRead, if_neg hecc]; rfl

/-- A WRITE of a table without state of its own stores the window's words. -/
theorem State.strStore_of_stateless {s : State} {tbl idx : Nat} {ws : List Word} (h : tbl = 1 ∨ tbl = 4) :
    s.strStore tbl idx ws = s.setEntry 5 tbl 0 idx 0 ws := by
  rcases h with rfl | rfl <;> rfl

theorem State.window_length (s : State) (base n : Nat) : (s.window base n).length = n := by
  rw [State.window, List.length_map, List.length_range]

theorem State.window_getD (s : State) (base : Nat) {n w : Nat} (h : w < n) : (s.window base n).getD w 0 = s.rd (base + 4 * w) := by
  rw [State.window, List.getD_eq_getElem?_getD, List.getElem?_map, List.getElem?_range h]; rfl

/-- A WRITE of legal words is stored. -/
theorem State.strWrite_of_legal {s : State} {tbl idx : Nat}
    (hword : ∀ w, w < (strSize tbl).1 → legalWord (s.rd (STR.TBL_DATA w)) (strMask tbl w) = true)
    (hlegal : strLegal tbl (s.window (STR.TBL_DATA 0) (strSize tbl).1) = true) :
    s.strWrite tbl idx = (s.strStore tbl idx (s.window (STR.TBL_DATA 0) (strSize tbl).1)).strResult 0 := by
  have hwords : ((List.range (strSize tbl).1).any fun w =>
      !legalWord ((s.window (STR.TBL_DATA 0) (strSize tbl).1).getD w 0) (strMask tbl w)) = false := by
    refine List.any_eq_false.2 fun w hw => ?_
    have hlt := List.mem_range.1 hw
    rw [State.window_getD s _ hlt, strData_addr, hword w hlt]; decide
  rw [State.strWrite, State.window_length, hwords, hlegal]
  rfl

/-- A meter that no WRITE has touched since the last refill acts by its stored words (R135). -/
theorem State.meterW_of_settled {s : State} {m : Nat} (h : (s.str.pend.find? fun p => p.idx == m) = none) (w : Nat) :
    s.meterW m w = s.strW tMeter m w := by
  rw [State.meterW, h]

/-! ### Stages, refill and timeout: the statement -/

/-- Settles O21: a frame of a context whose other stages are off meets the meter in the state that counted it; refill and timeout write
the words of their own entry. -/
theorem streamStages : Obligations.StreamStages := by
  unfold Obligations.StreamStages
  refine ⟨?invalid, ?pass, ?green, ?refill, ?once, ?timeout⟩
  case invalid =>
    intro fid c f s hwf hrun hc hf hstage hstream htail hicv hhandle hcounted hinvalid
    have hdrop := (State.streamStages_of_arrived none hf hstage hstream hrun htail hicv).trans
      (State.runStages_of_invalid ((State.strB_strEntered hwf 31 31 hc (by decide) (by omega)).trans hinvalid))
    rw [State.strDrop, State.fid_of_frame? hf] at hdrop
    have hentered := State.strEntered_wf hwf c
    have hkeep : Keep 0xA s ((s.strEntered c).bump STR.INVALID_DROP_CNT) := (State.strEntered_keep s c).trans (State.bump_keep ..) rfl
    generalize hu : (s.strEntered c).bump STR.INVALID_DROP_CNT = u at hdrop hkeep
    have hsame := hkeep.same .frames rfl
    obtain ⟨hframes, hregs⟩ := State.dropUnqueued_of_unbuffered ((State.frame?_of_frames hsame fid).trans hf) hhandle hcounted
    have hcnt : ∀ a, (u.dropUnqueued fid).cnt a = u.cnt a := fun a =>
      congrArg (Sparse.get _ · a) ((State.dropUnqueued_keep u fid).same .cnts rfl)
    refine ⟨u.dropUnqueued fid, congrArg Host.Outcome.next ?_, ?_, ?_, ?_, ?_⟩
    · rw [hdrop, State.admitInternal_of_gone (State.frame?_of_filtered hframes)]
    · rw [hframes, hsame]
    · rw [hcnt, ← hu, State.cnt_bump_self hentered, State.cnt_strEntered hwf, if_neg (by decide)]
    · rw [hcnt, ← hu, State.cnt_bump hentered, if_neg (by decide), State.cnt_strEntered hwf, if_pos rfl]
    · exact hregs.trans (hkeep.same .regs rfl)
  case pass =>
    intro fid c f s hwf hrun hc hf hport hstage hstream htail hicv hvalid hfilter hgate hmeter hseq hsize hlatch
    have hpass := (State.streamStages_of_arrived none hf hstage hstream hrun htail hicv).trans
      (State.runStages_of_allOff hwf hc ⟨hvalid, hfilter, hgate, hseq, hsize, hlatch⟩ hmeter)
    obtain ⟨hexec, hframe⟩ := State.execStreamStages_of_passed hpass ((State.frame?_strEntered ..).trans hf) rfl hport
    have hkeep : Keep 0x108A s ((s.strEntered c).strPassed c f) :=
      ((State.strEntered_keep s c).mono rfl).trans (State.strPassed_keep ..) rfl
    refine ⟨_, hexec, hframe, ?_, hkeep.same .copies rfl, hkeep.same .regs rfl⟩
    rw [State.cnt_strPassed (State.strEntered_wf hwf c), State.cnt_strEntered hwf, if_neg (by decide)]
  case green =>
    intro fid c m f s hwf hrun hc hm hf hport hstage hstream htail hicv htag hvalid hfilter hgate hon hmeter hseq hsize hlatch hopen
      hmvalid hpay
    have hpass := (State.streamStages_of_arrived none hf hstage hstream hrun htail hicv).trans (State.runStages_of_green hwf hc hm
      ⟨hvalid, hfilter, hgate, hseq, hsize, hlatch⟩ hon hmeter hopen hmvalid htag hpay)
    have hentered := State.strEntered_wf hwf c
    have hpaid := State.setTc_wf hentered m (s.tc m - f.len * 65536)
    obtain ⟨hexec, hframe⟩ := State.execStreamStages_of_passed hpass
      (((State.frame?_setTc ..).trans (State.frame?_strEntered ..)).trans hf) rfl hport
    refine ⟨_, hexec, hframe, ?_, ?_, ?_⟩
    · rw [State.tc_strPassed hpaid _ hc hm, State.tc_setTc hentered (Nat.lt_of_le_of_lt (Nat.sub_le ..) (State.tc_lt s m))]
    · rw [State.te_strPassed hpaid _ hc hm, State.te_setTc hentered, State.te_strEntered hwf hc hm]
    · rw [State.cnt_strPassed hpaid, State.cnt_setTc, State.cnt_strEntered hwf, if_neg (by decide)]
  case refill =>
    intro m s hwf hrun hdue _ hone
    have hkeep := State.refillOne_keep s.refillDue m
    obtain ⟨htc, hte⟩ := State.buckets_refillOne (s := s.refillDue) hwf m
    have hstr := hkeep.same .str rfl
    exact ⟨s.refillDue.refillOne m, congrArg Host.Outcome.next (State.meterRefill_of_due hrun hdue hone), htc, hte,
      congrArg Str.pend hstr, congrArg Str.grid hstr, hkeep.same .regs rfl⟩
  case once =>
    intro s hdone
    exact congrArg Host.Outcome.next (State.meterRefill_of_done hdone)
  case timeout =>
    intro r s hwf hvalid hany hevent hdue
    have hr := r.isLt
    have hreset := (State.recReset_resets hwf r).congr (u := (s.recReset r).recCount r 12 1) fun w hw =>
      State.strW_tbump_table ((State.recReset_keep ..).wf hwf) 1 (by decide) (by omega) (by omega)
    refine ⟨(s.recReset r).recCount r 12 1, congrArg Host.Outcome.next (State.recoveryTimeout_of_due hvalid hany hdue
      ((State.strB_congr hreset.config ..).trans hevent)), hreset.takeAny, hreset.number, hreset.history, hreset.config, ?_⟩
    exact ((State.recCount_keep ..).same .regs rfl).trans ((State.recReset_keep s r).same .regs rfl)

/-! ### The tables: the statement -/

/-- Settles O22: every command goes through `strDo`, whose result the laws of the tables, meters and recovery functions give. -/
theorem streamTables : Obligations.StreamTables := by
  unfold Obligations.StreamTables
  refine ⟨?read, ?write, ?latch, ?fill, ?reset, ?event⟩
  case read =>
    intro ini cmd ecc s hwf hmay hown htbl hidx hecc
    generalize htb : bitsOf cmd 31 28 = tbl at htbl hidx ⊢
    have hcombo : strCombo tbl 1 = true := by simp [strCombo, htbl]
    refine ⟨_, congrArg Host.Outcome.next (State.strTable_withOp hmay hown (by decide) htb hcombo hidx), ?_⟩
    generalize bitsOf cmd 11 0 = idx
    have hshown := State.strShown_wf hwf tbl idx
    rw [State.strDo, State.strRead_of_ok hecc]
    generalize hu : (if 5 ≤ tbl then (s.strShown tbl idx).setEntry 5 tbl 0 idx 0 (List.replicate 16 0) else s.strShown tbl idx) = u
    have hclear := State.setEntry_keep (s.strShown tbl idx) 5 tbl 0 idx 0 (List.replicate 16 0)
    have hkeep : Keep 0x8 (s.strShown tbl idx) u := by
      subst hu
      split
      case isTrue => exact hclear
      case isFalse => exact Keep.refl _
    have huwf : u.wf = true := hkeep.wf hshown
    have huregs : u.regs = (s.strShown tbl idx).regs := hkeep.same .regs rfl
    refine ⟨State.status_strOk huwf, fun w hw => ?_, fun hlt => ?_, fun hge => ?_⟩
    · rw [State.rd_emit, State.strResult, State.rd_wr_ne huwf _ (strData_ne_status w), State.rd, huregs]
      exact State.rd_strShown hwf hw
    · rw [State.emit_tabs, State.strResult, State.wr_tabs, ← hu, if_neg (Nat.not_le.2 hlt)]
      exact (State.fillWindow_keep ..).same .tabs rfl
    · rw [if_pos hge] at hu
      subst hu
      exact State.entry_setEntry hshown 5 tbl 0 idx (List.replicate 16 0)
  case write =>
    intro ini cmd s hwf hmay hown htbl hidx hword hlegal
    generalize htb : bitsOf cmd 31 28 = tbl at htbl hidx hword hlegal ⊢
    have hcombo : strCombo tbl 2 = true := by rcases htbl with rfl | rfl <;> rfl
    refine ⟨_, congrArg Host.Outcome.next (State.strTable_withOp hmay hown (by decide) htb hcombo hidx), ?_⟩
    generalize bitsOf cmd 11 0 = idx
    rw [State.strDo, State.strWrite_of_legal hword hlegal, State.strStore_of_stateless htbl]
    have hkeep := State.setEntry_keep s 5 tbl 0 idx 0 (s.window (STR.TBL_DATA 0) (strSize tbl).1)
    refine ⟨State.status_strOk (hkeep.wf hwf), fun w hw => ?_, hkeep.same .str rfl⟩
    have hentry := State.entry_setEntry hwf 5 tbl 0 idx (s.window (STR.TBL_DATA 0) (strSize tbl).1)
    rw [State.window_length] at hentry
    refine (State.entry_getD _ 5 tbl 0 idx _ w hw).symm.trans ((congrArg (List.getD · w 0) hentry).trans ?_)
    rw [State.window_getD s _ hw, strData_addr]
  case latch =>
    intro ini cmd s hwf hmay hown htbl
    have hidx : bitsOf cmd 11 0 < 4096 := Nat.mod_lt _ (by decide)
    exact ⟨_, congrArg Host.Outcome.next (State.strTable_withOp hmay hown (by decide) htbl rfl hidx),
      State.status_strOk (State.setStrW_wf hwf ..), fun k => State.tab_setTw hwf ..⟩
  case fill =>
    intro ini cmd s hwf hmay hown htbl hvalid hpend
    have hidx : bitsOf cmd 11 0 < 4096 := Nat.mod_lt _ (by decide)
    refine ⟨_, congrArg Host.Outcome.next (State.strTable_withOp hmay hown (by decide) htbl rfl hidx), ?_⟩
    rw [State.strDo, if_pos hvalid, State.meterW_of_settled hpend, State.meterW_of_settled hpend]
    exact ⟨State.status_strOk ((State.setTe_keep ..).wf (State.setTc_wf hwf ..)),
      State.buckets_setTc_setTe hwf (bucketSize_lt _) (bucketSize_lt _)⟩
  case reset =>
    intro ini cmd s hwf hmay hown htbl hidx hvalid
    refine ⟨_, congrArg Host.Outcome.next (State.strTable_withOp hmay hown (by decide) htbl rfl hidx), ?_⟩
    rw [State.strDo_reset, if_pos hvalid]
    have hreset := State.recReset_resets hwf (bitsOf cmd 11 0)
    exact ⟨State.status_strOk ((State.recReset_keep ..).wf hwf), hreset.takeAny, hreset.history, hreset.config⟩
  case event =>
    intro ini s hmay
    exact ⟨_, congrArg Host.Outcome.next (State.readAt_of_mayRead hmay), rfl, rfl, rfl⟩

end Sys2Proof.Machine

/-! PROOFS. The waiting lossless frame of chapter 07: what its discard writes (R11, R151), and why the statement about Basin fails. Neither
the statement nor `State.wf` bounds the version number of a frame. Outside the eight versions the in-flight count can stand at the address
of another register, and for one number that register is BSN_EVENT. -/
namespace Sys2Proof.Machine

/-! ### The discard of a frame that has waited (R11, R151) -/

/-- The end of a counted frame writes one register: the in-flight count of its version falls. -/
theorem State.endFrame_regs_of_counted {s : State} {fid : Nat} {f : Frame} (hf : s.frame? fid = some f) (hc : f.counted = true) :
    (s.endFrame fid).regs = (s.set (SLC.INFLIGHT_COUNT f.version) (s.get (SLC.INFLIGHT_COUNT f.version) - 1)).regs := by
  simp only [State.endFrame, hf, State.versionRelease, hc, if_true]
  rfl

/-- On an unpaired unit a frame that has waited WAIT_US, and that no higher rank's reserve holds back, is discarded for want of a buffer. -/
theorem State.losslessWait_of_due {s : State} {p : Nat} {f : Frame} (hpair : s.pairEn = false) (hrun : s.stalled = false)
    (hf : s.frames.find? (fun f => f.waiting && f.inPort == p) = some f) (hyield : s.yields p 1 f.len = false)
    (hdue : f.waitAt + clampN 1 1000 (s.get (BSN.AGE_CFG_WAIT_US p)) * usQ ≤ s.nowQ) :
    s.losslessWait p = ((s.bump (BSN.NOBUF_TC p f.tc)).raise BSN.BSN_EVENT_NOBUF).endFrame f.fid := by
  have hport : f.inPort = p := by
    have hfound := List.find?_some hf
    rw [Bool.and_eq_true, beq_iff_eq] at hfound
    exact hfound.2
  have hshadow : s.shadowPort p = false := by simp only [State.shadowPort, State.pairedPort, hpair, Bool.false_and]
  have hwait : ¬ (s.stalled = true ∨ s.nowQ < f.waitAt + clampN 1 1000 (s.get (BSN.AGE_CFG_WAIT_US p)) * usQ) :=
    not_or.2 ⟨by rw [hrun]; decide, Nat.not_lt.2 hdue⟩
  simp only [State.losslessWait, hf, hwait, hshadow, State.noBuffer, hport, hyield, Bool.false_eq_true, if_false]

/-! ### A version number beyond the eight versions -/

/-- A version number that no version has (Sluice's registers end at INFLIGHT7), whose in-flight count would stand in BSN_EVENT. -/
def strayVersion : Nat := 0x7FFF9

theorem inflightCount_strayVersion : SLC.INFLIGHT_COUNT strayVersion = ⟨BSN.BSN_EVENT, 19, 0⟩ := rfl

/-- The event that the discard has just raised reads as a count of 4, and the fall to 3 clears it. -/
theorem State.nobuf_cleared_of_strayVersion {s : State} {fid : Nat} {f : Frame} (hwf : s.wf = true) (hquiet : s.rd BSN.BSN_EVENT = 0)
    (hf : s.frame? fid = some f) (hc : f.counted = true) (hv : f.version = strayVersion) :
    ((s.raise BSN.BSN_EVENT_NOBUF).endFrame fid).bit BSN.BSN_EVENT_NOBUF = false := by
  have hframe : (s.raise BSN.BSN_EVENT_NOBUF).frame? fid = some f := (State.frame?_of_frames (State.raise_frames ..) fid).trans hf
  have hraised : (s.raise BSN.BSN_EVENT_NOBUF).rd BSN.BSN_EVENT = 4 := by
    rw [State.rd_raise hwf, if_pos (show BSN.BSN_EVENT = BSN.BSN_EVENT_NOBUF.addr from rfl), hquiet]; decide
  have hregs := State.endFrame_regs_of_counted hframe hc
  rw [hv, inflightCount_strayVersion] at hregs
  rw [State.bit_congr_regs hregs, State.bit, State.get, State.set, State.get, hraised,
    show BSN.BSN_EVENT_NOBUF.addr = BSN.BSN_EVENT from rfl, State.rd_wr_self (State.raise_wf hwf _)]
  decide

/-! ### The statement -/

/-- A frame of P0 that has a count of that version and waits for a buffer. -/
def strayFrame : Frame := { fid := 5, inPort := 0, src := 0, data := zeros 60, tail := true, stage := .passed, ts := 0, len := 64,
                            counted := true, version := strayVersion, waiting := true }

/-- The released device with that frame alone, a millisecond after reset. -/
def strayWait : State := { State.reset.setBit SYS.SYS_STATUS_RELEASED true with
  frames := [strayFrame]
  tim := { State.reset.tim with wt := msQ * 1073741824 } }

/-- Refutes O23, by the clause of R151: the discard of `strayFrame` in `strayWait` leaves NOBUF clear, because the fall of its in-flight
count overwrites the event. The other clauses play no part. -/
theorem not_basinBuffers : ¬ Obligations.BasinBuffers := by
  unfold Obligations.BasinBuffers
  rintro ⟨-, hexpiry, -⟩
  have hwf : strayWait.wf = true := by decide
  have hpair : strayWait.pairEn = false := by decide
  have hrun : strayWait.stalled = false := by decide
  have hyield : strayWait.yields 0 1 strayFrame.len = false := by decide
  have hdue : strayFrame.waitAt + clampN 1 1000 (strayWait.get (BSN.AGE_CFG_WAIT_US 0)) * usQ ≤ strayWait.nowQ := by decide
  obtain ⟨t, hexec, -, -, hnobuf, -⟩ := hexpiry 0 strayFrame strayWait hwf hpair hrun rfl rfl hyield hdue
  have hstep : strayWait.losslessWait 0 = t := Host.Outcome.next.inj hexec
  have hcleared := State.nobuf_cleared_of_strayVersion (s := strayWait.bump (BSN.NOBUF_TC 0 strayFrame.tc)) (fid := strayFrame.fid)
    (f := strayFrame) (State.bump_wf hwf _) (by decide) rfl rfl rfl
  rw [← State.losslessWait_of_due (p := 0) hpair hrun rfl hyield hdue, hstep, hnobuf] at hcleared
  cases hcleared

end Sys2Proof.Machine

/-! PROOFS. The reservation table of Crossroads through indirect access (R396, R397): what READ shows in the data window, and what WRITE
stores or refuses by R165. -/
namespace Sys2Proof.Machine

/-! ### The window's registers -/

theorem crsData_addr (w : Nat) : CRS.TBL_DATA 0 + 4 * w = CRS.TBL_DATA w := by
  unfold CRS.TBL_DATA; omega

theorem crsData_ne_status (w : Nat) : CRS.TBL_DATA w ≠ CRS.TBL_STATUS := by
  unfold CRS.TBL_DATA CRS.TBL_STATUS; omega

/-- The data window after an entry was read into it. -/
def State.crsShown (s : State) (tbl idx : Nat) : State := s.fillWindow (CRS.TBL_DATA 0) 4 (s.entry 7 tbl 0 idx 4)

theorem State.crsShown_keep (s : State) (tbl idx : Nat) : Keep 0x1 s (s.crsShown tbl idx) := State.fillWindow_keep ..

theorem State.rd_crsShown {s : State} (h : s.wf = true) (tbl idx : Nat) {w : Nat} (hw : w < 4) :
    (s.crsShown tbl idx).rd (CRS.TBL_DATA w) = s.resW tbl idx w := by
  rw [← crsData_addr, State.crsShown, State.rd_fillWindow 4 h, if_pos (by omega), Nat.add_sub_cancel_left,
    Nat.mul_div_cancel_left w (by decide)]
  exact State.entry_getD _ _ _ _ _ _ _ hw

/-! ### The stored entry -/

/-- The admin entry after the words of the data window were stored in it. -/
def State.resStored (s : State) (idx : Nat) : State := s.setEntry 7 0 0 idx 0 (s.window (CRS.TBL_DATA 0) 4)

theorem State.resStored_wf {s : State} (h : s.wf = true) (idx : Nat) : (s.resStored idx).wf = true := (State.setEntry_keep ..).wf h

/-- Every table word afterwards: the four of the entry from the window, the others as they were. -/
theorem State.tab_resStored {s : State} (h : s.wf = true) (idx k : Nat) :
    (s.resStored idx).tab k = if tkey 7 0 0 idx 0 ≤ k ∧ k < tkey 7 0 0 idx 0 + 4
      then (s.window (CRS.TBL_DATA 0) 4).getD (k - tkey 7 0 0 idx 0) 0 else s.tab k := by
  rw [State.resStored, State.tab_setEntry _ h, State.window_length]

theorem State.resW_resStored {s : State} (h : s.wf = true) (idx : Nat) {w : Nat} (hw : w < 4) :
    (s.resStored idx).resW 0 idx w = s.rd (CRS.TBL_DATA w) := by
  rw [State.resW, State.tw, State.tab_resStored h, tkey_add _ _ _ _ w, if_pos (by omega), Nat.add_sub_cancel_left, State.window_getD s _ hw,
    crsData_addr]

/-! ### The commands (R396, R397) -/

/-- A command of the owner of the window runs and is answered; Crossroads is never busy. -/
theorem State.crsTable_of_owner {s : State} {ini : Initiator} (hmay : s.mayWrite ini CRS.TBL_CMD = true) (hown : s.ownsTable 2 ini = true)
    (cmd : Word) (ecc : EccState) : s.crsTable ini cmd ecc = (s.crsRun cmd ecc).emit (.bus ini .done) :=
  State.tableWrite_of_owner hmay hown

/-- A READ of either list without an uncorrectable error shows the entry. -/
theorem State.crsRun_read (s : State) {cmd : Word} {ecc : EccState} (htbl : bitsOf cmd 31 28 ≤ 1) (hecc : ecc ≠ .uncorrectable) :
    s.crsRun (withOp cmd 1) ecc = (s.crsShown (bitsOf cmd 31 28) (bitsOf cmd 8 0)).crsResult 0 := by
  rw [State.crsRun, op_withOp (by decide), bitsOf_withOp (.inr (by decide)), bitsOf_withOp (.inl (by decide)),
    if_neg (by omega), if_neg (by decide), if_neg hecc]
  rfl

/-- A WRITE of the admin list stores the window, unless R165 refuses it. -/
theorem State.crsRun_write (s : State) {cmd : Word} (ecc : EccState) (htbl : bitsOf cmd 31 28 = 0) :
    s.crsRun (withOp cmd 2) ecc = if s.badRes (bitsOf cmd 8 0) (s.window (CRS.TBL_DATA 0) 4) = true then s.crsResult 6
      else (s.resStored (bitsOf cmd 8 0)).crsResult 0 := by
  rw [State.crsRun, op_withOp (by decide), bitsOf_withOp (.inr (by decide)), bitsOf_withOp (.inl (by decide)), htbl,
    if_neg (by decide), if_pos rfl]
  rfl

/-- TBL_STATUS after a command that was answered. -/
theorem State.status_crsResult {s : State} (h : s.wf = true) (res : Nat) (e : Emit) :
    ((s.crsResult res).emit e).rd CRS.TBL_STATUS = word (res * 16777216) := by
  rw [State.rd_emit, State.crsResult, State.rd_wr_self h]

/-! ### The statement -/

/-- Settles O25: READ shows its entry in the data window, and WRITE is decided by R165 alone, which `crsRun_write` says. -/
theorem reservationTable : Obligations.ReservationTable := by
  unfold Obligations.ReservationTable
  refine ⟨?read, ?stored, ?refused⟩
  case read =>
    intro ini cmd ecc s hwf hmay hown htbl hecc
    have hrun := State.crsTable_of_owner hmay hown (withOp cmd 1) ecc
    rw [State.crsRun_read s htbl hecc] at hrun
    have hkeep := State.crsShown_keep s (bitsOf cmd 31 28) (bitsOf cmd 8 0)
    have hshown := hkeep.wf hwf
    refine ⟨_, congrArg Host.Outcome.next hrun, State.status_crsResult hshown 0 _, ?_, fun w hw => ?_⟩
    · rw [State.emit_tabs, State.crsResult, State.wr_tabs]
      exact hkeep.same .tabs rfl
    · rw [State.rd_emit, State.crsResult, State.rd_wr_ne hshown _ (crsData_ne_status w), State.rd_crsShown hwf _ _ hw]
  case stored =>
    intro ini cmd s hwf hmay hown htbl hgood
    have hrun := State.crsTable_of_owner hmay hown (withOp cmd 2) .ok
    rw [State.crsRun_write s _ htbl, hgood, if_neg (by decide)] at hrun
    refine ⟨_, congrArg Host.Outcome.next hrun, State.status_crsResult (State.resStored_wf hwf _) 0 _,
      fun w hw => State.resW_resStored hwf _ hw, fun k hk => ?_⟩
    exact (State.tab_resStored hwf _ k).trans (if_neg hk)
  case refused =>
    intro ini cmd s hwf hmay hown htbl hbad
    have hrun := State.crsTable_of_owner hmay hown (withOp cmd 2) .ok
    rw [State.crsRun_write s _ htbl, if_pos hbad] at hrun
    refine ⟨_, congrArg Host.Outcome.next hrun, ?_, rfl⟩
    rw [State.get, show CRS.TBL_STATUS_RESULT.addr = CRS.TBL_STATUS from rfl, State.status_crsResult hwf]
    decide

end Sys2Proof.Machine

/-! PROOFS. The gate lists of Lockkeeper through indirect access (R396, R397): what READ shows in the data window, and what WRITE stores or
refuses (R179, R183). -/
namespace Sys2Proof.Machine

/-! ### The window's registers -/

theorem lkpData_addr (w : Nat) : LKP.TBL_DATA 0 + 4 * w = LKP.TBL_DATA w := by
  unfold LKP.TBL_DATA; omega

theorem lkpData_ne_status (w : Nat) : LKP.TBL_DATA w ≠ LKP.TBL_STATUS := by
  unfold LKP.TBL_DATA LKP.TBL_STATUS; omega

/-- The data window after a gate entry was read into it. -/
def State.gateShown (s : State) (bank idx : Nat) : State := s.fillWindow (LKP.TBL_DATA 0) 20 (s.entry 8 bank 0 idx 2)

theorem State.gateShown_keep (s : State) (bank idx : Nat) : Keep 0x1 s (s.gateShown bank idx) := State.fillWindow_keep ..

theorem State.rd_gateShown {s : State} (h : s.wf = true) (bank idx : Nat) {w : Nat} (hw : w < 2) :
    (s.gateShown bank idx).rd (LKP.TBL_DATA w) = s.tw 8 bank 0 idx w := by
  rw [← lkpData_addr, State.gateShown, State.rd_fillWindow 20 h, if_pos (by omega), Nat.add_sub_cancel_left,
    Nat.mul_div_cancel_left w (by decide)]
  exact State.entry_getD _ _ _ _ _ _ _ hw

/-! ### The stored entry -/

/-- The admin entry after the two words of the data window were stored in it. -/
def State.gateStored (s : State) (idx : Nat) : State := s.setEntry 8 0 0 idx 0 [s.rd (LKP.TBL_DATA 0), s.rd (LKP.TBL_DATA 1)]

theorem State.gateStored_wf {s : State} (h : s.wf = true) (idx : Nat) : (s.gateStored idx).wf = true := (State.setEntry_keep ..).wf h

/-- Every table word afterwards: the two of the entry from the window, the others as they were. -/
theorem State.tab_gateStored {s : State} (h : s.wf = true) (idx k : Nat) :
    (s.gateStored idx).tab k = if tkey 8 0 0 idx 0 ≤ k ∧ k < tkey 8 0 0 idx 0 + 2
      then [s.rd (LKP.TBL_DATA 0), s.rd (LKP.TBL_DATA 1)].getD (k - tkey 8 0 0 idx 0) 0 else s.tab k :=
  State.tab_setEntry _ h ..

theorem State.tw_gateStored {s : State} (h : s.wf = true) (idx : Nat) {w : Nat} (hw : w < 2) :
    (s.gateStored idx).tw 8 0 0 idx w = [s.rd (LKP.TBL_DATA 0), s.rd (LKP.TBL_DATA 1)].getD w 0 := by
  rw [State.tw, State.tab_gateStored h, tkey_add _ _ _ _ w, if_pos (by omega), Nat.add_sub_cancel_left]

/-! ### The commands (R396, R397) -/

/-- A command of the owner of the window runs and is answered; Lockkeeper is never busy. -/
theorem State.lkpTable_of_owner {s : State} {ini : Initiator} (hmay : s.mayWrite ini LKP.TBL_CMD = true) (hown : s.ownsTable 3 ini = true)
    (cmd : Word) (ecc : EccState) : s.lkpTable ini cmd ecc = (s.lkpRun cmd ecc).emit (.bus ini .done) :=
  State.tableWrite_of_owner hmay hown

/-- A READ of either list without an uncorrectable error shows the entry. -/
theorem State.lkpRun_read (s : State) {cmd : Word} {ecc : EccState} (htbl : bitsOf cmd 31 28 ≤ 1) (hecc : ecc ≠ .uncorrectable) :
    s.lkpRun (withOp cmd 1) ecc = (s.gateShown (bitsOf cmd 31 28) (bitsOf cmd 13 0)).lkpResult 0 := by
  have hlist : bitsOf cmd 31 28 ≠ 2 := by omega
  rw [State.lkpRun, op_withOp (by decide), bitsOf_withOp (.inr (by decide)), bitsOf_withOp (.inl (by decide)),
    if_neg (by omega), if_neg (by omega), if_neg (by decide), if_neg hecc]
  simp only [if_neg hlist]
  rfl

/-- A WRITE of the admin list stores the window, unless the change of the entry's port is pending (R183) or R179 refuses the entry. -/
theorem State.lkpRun_write (s : State) {cmd : Word} (ecc : EccState) (htbl : bitsOf cmd 31 28 = 0) :
    s.lkpRun (withOp cmd 2) ecc = if (s.changeAt (bitsOf cmd 13 0 / 1024)).isSome = true then s.lkpResult 9
      else if badGate (s.rd (LKP.TBL_DATA 0)) (s.rd (LKP.TBL_DATA 1)) = true then s.lkpResult 6
      else (s.gateStored (bitsOf cmd 13 0)).lkpResult 0 := by
  rw [State.lkpRun, op_withOp (by decide), bitsOf_withOp (.inr (by decide)), bitsOf_withOp (.inl (by decide)), htbl,
    if_neg (by decide), if_neg (by omega), if_pos rfl]
  rfl

/-- TBL_STATUS after a command that was answered. -/
theorem State.status_lkpResult {s : State} (h : s.wf = true) (res : Nat) (e : Emit) :
    ((s.lkpResult res).emit e).rd LKP.TBL_STATUS = word (res * 16777216) := by
  rw [State.rd_emit, State.lkpResult, State.rd_wr_self h]

/-! ### The statement -/

/-- Settles O27: READ shows its entry in the data window, and WRITE is decided by R183 and R179 in turn, which `lkpRun_write` says. -/
theorem gateTables : Obligations.GateTables := by
  unfold Obligations.GateTables
  refine ⟨?read, ?stored, ?pending⟩
  case read =>
    intro ini cmd ecc s hwf hmay hown htbl hecc
    have hrun := State.lkpTable_of_owner hmay hown (withOp cmd 1) ecc
    rw [State.lkpRun_read s htbl hecc] at hrun
    have hkeep := State.gateShown_keep s (bitsOf cmd 31 28) (bitsOf cmd 13 0)
    have hshown := hkeep.wf hwf
    refine ⟨_, congrArg Host.Outcome.next hrun, State.status_lkpResult hshown 0 _, ?_, fun w hw => ?_⟩
    · rw [State.emit_tabs, State.lkpResult, State.wr_tabs]
      exact hkeep.same .tabs rfl
    · rw [State.rd_emit, State.lkpResult, State.rd_wr_ne hshown _ (lkpData_ne_status w), State.rd_gateShown hwf _ _ hw]
  case stored =>
    intro ini cmd s hwf hmay hown htbl hidle hgood
    have hrun := State.lkpTable_of_owner hmay hown (withOp cmd 2) .ok
    rw [State.lkpRun_write s _ htbl, hidle, if_neg (by decide), hgood, if_neg (by decide)] at hrun
    exact ⟨_, congrArg Host.Outcome.next hrun, State.status_lkpResult (State.gateStored_wf hwf _) 0 _,
      State.tw_gateStored hwf _ (by decide), State.tw_gateStored hwf _ (by decide),
      fun k hk => (State.tab_gateStored hwf _ k).trans (if_neg hk)⟩
  case pending =>
    intro ini cmd s hwf hmay hown htbl hpending
    have hrun := State.lkpTable_of_owner hmay hown (withOp cmd 2) .ok
    rw [State.lkpRun_write s _ htbl, if_pos hpending] at hrun
    refine ⟨_, congrArg Host.Outcome.next hrun, ?_, rfl⟩
    rw [State.get, show LKP.TBL_STATUS_RESULT.addr = LKP.TBL_STATUS from rfl, State.status_lkpResult hwf]
    decide

end Sys2Proof.Machine

/-! PROOFS. Starts, gates, holds, the armed change and shapers of chapter 09 (R178 to R198): what each of their operations comes to in the
state that it meets, and the statement about all of them. -/

namespace Sys2Proof.Machine

/-! ### A port's bit in the 16-bit masks of Lockkeeper -/

theorem getLsbD_or_portBit (h : BitVec 16) {p : Nat} (hp : p < 16) (q : Nat) :
    (h ||| BitVec.ofNat 16 (2 ^ p)).getLsbD q = (h.getLsbD q || decide (q = p)) := by
  rw [BitVec.getLsbD_or, BitVec.getLsbD_ofNat, Nat.testBit_two_pow]
  by_cases hq : q = p
  · subst hq; simp [hp]
  · simp [hq, Ne.symm hq]

theorem getLsbD_and_not_portBit (h : BitVec 16) (p : Nat) : (h &&& ~~~BitVec.ofNat 16 (2 ^ p)).getLsbD p = false := by
  rw [BitVec.getLsbD_and, BitVec.getLsbD_not, BitVec.getLsbD_ofNat, Nat.testBit_two_pow]
  by_cases hp : p < 16 <;> simp [hp]

/-! ### What a port meets when its gates change (R180, R191) -/

/-- The gates of port p as GATE_STATUS shows them from now on, and the copies set aside whose windows open: those of the classes that
`old` shows closed. -/
def State.gatesMet (s : State) (p old : Nat) : State :=
  (s.gateStatus p).rejoin p ((s.gateStatus p).get (LKP.GATE_STATUS_GATES p) &&& (255 - old))

theorem State.gatesMet_keep (s : State) (p old : Nat) : Keep 0x101 s (s.gatesMet p old) :=
  ((State.gateStatus_keep s p).mono rfl).trans (State.rejoin_keep ..) rfl

theorem State.rd_rejoin {s : State} (h : s.wf = true) (p m : Nat) {a : Nat} (ha : a ≠ (LKP.SEL_STATUS_SET_ASIDE p).addr) :
    (s.rejoin p m).rd a = s.rd a :=
  State.rd_set_ne (f := LKP.SEL_STATUS_SET_ASIDE p) (s := { s with copies := _ }) h ha

theorem State.rd_gateStatus {s : State} (h : s.wf = true) (p : Nat) {a : Nat} (ha : a ≠ (LKP.GATE_STATUS_HOLD p).addr) :
    (s.gateStatus p).rd a = s.rd a :=
  (State.rd_set_ne (State.set_wf (State.set_wf h ..) ..) ha).trans <|
    (State.rd_set_ne (f := LKP.GATE_STATUS_GATES p) (State.set_wf h ..) ha).trans (State.rd_set_ne (f := LKP.GATE_STATUS_ENTRY p) h ha)

theorem State.rd_gatesMet {s : State} (h : s.wf = true) (p old : Nat) {a : Nat} (hs : a ≠ (LKP.SEL_STATUS_SET_ASIDE p).addr)
    (hg : a ≠ (LKP.GATE_STATUS_HOLD p).addr) : (s.gatesMet p old).rd a = s.rd a :=
  (State.rd_rejoin ((State.gateStatus_keep s p).wf h) p _ hs).trans (State.rd_gateStatus h p hg)

theorem gateStatus_ne_selStatus (p : Nat) : (LKP.GATE_STATUS_HOLD p).addr ≠ (LKP.SEL_STATUS_SET_ASIDE p).addr := by
  unfold LKP.GATE_STATUS_HOLD LKP.SEL_STATUS_SET_ASIDE; dsimp only; omega

theorem State.get_gatesMet_status {s : State} (h : s.wf = true) (p old : Nat) {f : Fld} (hf : f.addr = (LKP.GATE_STATUS_HOLD p).addr) :
    (s.gatesMet p old).get f = (s.gateStatus p).get f := by
  have hkept : (s.gatesMet p old).rd f.addr = (s.gateStatus p).rd f.addr := by
    rw [hf]; exact State.rd_rejoin ((State.gateStatus_keep s p).wf h) p _ (gateStatus_ne_selStatus p)
  rw [State.get, hkept]; rfl

/-- ENTRY shows the governing entry. -/
theorem State.get_gatesMet_entry {s : State} (h : s.wf = true) {p : Nat} (old : Nat) (hfit : (s.govern 1 p s.nowPs).entry < 1024) :
    (s.gatesMet p old).get (LKP.GATE_STATUS_ENTRY p) = (s.govern 1 p s.nowPs).entry := by
  have hentry : (s.set (LKP.GATE_STATUS_ENTRY p) (s.govern 1 p s.nowPs).entry).wf = true := State.set_wf h ..
  exact (State.get_gatesMet_status (f := LKP.GATE_STATUS_ENTRY p) h p old rfl).trans <|
    (State.get_setBit_apart (f := LKP.GATE_STATUS_HOLD p) (g := LKP.GATE_STATUS_ENTRY p) (State.set_wf hentry (LKP.GATE_STATUS_GATES p) _)
      (Nat.le_of_ble_eq_true rfl) (Nat.le_of_ble_eq_true rfl) (.inl (Nat.le_of_ble_eq_true rfl))).trans <|
    (State.get_set_apart (f := LKP.GATE_STATUS_GATES p) hentry (Nat.le_of_ble_eq_true rfl) (Nat.le_of_ble_eq_true rfl)
      (.inr (Nat.le_of_ble_eq_true rfl))).trans
    (State.get_set h (Nat.le_of_ble_eq_true rfl) (Nat.le_of_ble_eq_true rfl) hfit)

/-- The gates of port p that are open: none while the governing entry could not be read (R182). -/
def State.openGates (s : State) (p : Nat) : Nat := if s.lkp.eccShut.getLsbD p then 0 else (s.govern 1 p s.nowPs).gates

/-- GATES shows the gates that are open. -/
theorem State.get_gatesMet_gates {s : State} (h : s.wf = true) {p : Nat} (old : Nat) (hfit : s.openGates p < 256) :
    (s.gatesMet p old).get (LKP.GATE_STATUS_GATES p) = s.openGates p := by
  have hentry : (s.set (LKP.GATE_STATUS_ENTRY p) (s.govern 1 p s.nowPs).entry).wf = true := State.set_wf h ..
  exact (State.get_gatesMet_status (f := LKP.GATE_STATUS_GATES p) h p old rfl).trans <|
    (State.get_setBit_apart (f := LKP.GATE_STATUS_HOLD p) (g := LKP.GATE_STATUS_GATES p) (State.set_wf hentry (LKP.GATE_STATUS_GATES p) _)
      (Nat.le_of_ble_eq_true rfl) (Nat.le_of_ble_eq_true rfl) (.inl (Nat.le_of_ble_eq_true rfl))).trans
    (State.get_set hentry (Nat.le_of_ble_eq_true rfl) (Nat.le_of_ble_eq_true rfl) hfit)

/-! ### An entry that begins (R180, R182) -/

/-- An event that was raised stands. -/
theorem State.bit_raise_self {s : State} (h : s.wf = true) {f : Fld} (hf : f.lo = f.hi) (h32 : f.hi < 32) : (s.raise f).bit f = true := by
  have hone : (1 : Nat) < 2 ^ (f.hi + 1 - f.lo) := by rw [hf, Nat.add_sub_cancel_left]; decide
  rw [State.bit, State.get, State.rd_raise h, if_pos rfl, bitsOf_putBits (Nat.le_of_eq hf) h32 hone]
  rfl

/-- The gates of port p as the read of the entry leaves them: shut when the read was uncorrectable. -/
def State.entryRead (s : State) (p : Nat) (bad : Bool) : State :=
  { s with lkp := { s.lkp with eccShut := if bad then s.lkp.eccShut ||| BitVec.ofNat 16 (2 ^ p)
                                          else s.lkp.eccShut &&& ~~~BitVec.ofNat 16 (2 ^ p) } }

/-- The event of an entry that could not be read, with its place unless the event stands already. -/
def State.entryLost (s : State) (p : Nat) : State :=
  (if s.bit LKP.LKP_EVENT_ECC_UNCORR then s
    else s.wr LKP.ECC_INFO (word (p * 268435456 + 134217728 + (s.govern 1 p s.nowPs).entry))).raise LKP.LKP_EVENT_ECC_UNCORR

theorem State.entryLost_keep (s : State) (p : Nat) : Keep 0x180001 s (s.entryLost p) :=
  (keep_ite (Keep.refl s) ((State.wr_keep ..).mono rfl)).trans (State.raise_keep ..) rfl

theorem State.bit_entryLost {s : State} (h : s.wf = true) (p : Nat) : (s.entryLost p).bit LKP.LKP_EVENT_ECC_UNCORR = true := by
  unfold State.entryLost
  split
  · exact State.bit_raise_self h rfl (by decide)
  · exact State.bit_raise_self (State.wr_wf h ..) rfl (by decide)

/-- An entry that was read begins on a port without preemption. -/
theorem State.gateEntryStart_of_read {s : State} {p : Nat} (hflow : s.flowing = true) (hpmt : s.pmtActive p = false) :
    s.gateEntryStart p .ok = (s.entryRead p false).gatesMet p (s.get (LKP.GATE_STATUS_GATES p)) := by
  have hgood : ¬ (EccState.ok = .uncorrectable ∧ s.bit (LKP.OPER_CFG_GATE_EN p) = true) := fun h => nomatch h.1
  have hoff : (!(s.entryRead p false).pmtActive p) = true := congrArg Bool.not hpmt
  unfold State.gateEntryStart
  rw [if_neg (by rw [hflow]; decide)]
  simp only [if_neg hgood]
  exact congrArg (fun u => State.gatesMet u p (s.get (LKP.GATE_STATUS_GATES p))) (if_pos hoff)

/-- An entry of a list that could not be read begins. -/
theorem State.gateEntryStart_of_lost {s : State} {p : Nat} (hflow : s.flowing = true) (hen : s.bit (LKP.OPER_CFG_GATE_EN p) = true) :
    s.gateEntryStart p .uncorrectable = ((s.entryRead p true).entryLost p).gatesMet p (s.get (LKP.GATE_STATUS_GATES p)) := by
  unfold State.gateEntryStart
  rw [if_neg (by rw [hflow]; decide)]
  simp only [hen, and_self, if_true]
  rfl

/-! ### A hold that asserts (R193) -/

/-- The hold of port p as it asserts and is counted. -/
def State.holdAsserted (s : State) (p : Nat) : State := (s.setHold p true).bump (LKP.HOLD_CNT p)

theorem State.hold_holdAsserted (s : State) {p : Nat} (hp : p < 16) (q : Nat) :
    (s.holdAsserted p).lkp.hold.getLsbD q = (s.lkp.hold.getLsbD q || decide (q = p)) := by
  rw [State.holdAsserted, State.bump_lkp, State.setHold, State.setBit_lkp]
  exact getLsbD_or_portBit s.lkp.hold hp q

theorem State.bit_holdAsserted {s : State} (h : s.wf = true) (p : Nat) : (s.holdAsserted p).bit (LKP.GATE_STATUS_HOLD p) = true := by
  rw [State.holdAsserted, State.bit_bump]
  exact State.bit_setBit (s := { s with lkp := _ }) (f := LKP.GATE_STATUS_HOLD p) h rfl (Nat.le_of_ble_eq_true rfl)

theorem State.cnt_holdAsserted {s : State} (h : s.wf = true) (p : Nat) : (s.holdAsserted p).cnt (LKP.HOLD_CNT p) = s.cnt (LKP.HOLD_CNT p) + 1 := by
  rw [State.holdAsserted, State.cnt_bump_self ((State.setHold_keep s p true).wf h), State.setHold, State.cnt_setBit, State.cnt_upd_lkp]

theorem State.holdAssert_of_standing {s : State} {p : Nat} (hflow : s.flowing = true) (hpmt : s.pmtActive p = true)
    (hop : (s.govern 1 p s.nowPs).op = 1) (hread : s.lkp.eccShut.getLsbD p = false) (hfree : s.lkp.hold.getLsbD p = false) :
    s.holdAssert p = s.holdAsserted p := by
  have hstands : ((s.govern 1 p s.nowPs).op == 1 && !s.lkp.eccShut.getLsbD p) = true := by rw [hop, hread]; rfl
  have hfree' : ¬ s.lkp.hold.getLsbD p = true := by rw [hfree]; decide
  exact (if_pos ⟨hflow, hpmt, .inl hstands⟩).trans (if_neg hfree')

/-! ### The armed change and what CHANGE_STATUS shows of it (R183) -/

/-- Lockkeeper with this change armed, or with none. -/
def State.changeSet (s : State) (c : Option Change) : State := State.changeLevels { s with lkp := { s.lkp with change := c } }

theorem State.changeSet_keep (s : State) (c : Option Change) : Keep 0x10001 s (s.changeSet c) :=
  keep_mk_lkp (Keep.refl s) rfl |>.trans (State.changeLevels_keep ..) rfl

theorem State.changeSet_wf {s : State} (h : s.wf = true) (c : Option Change) : (s.changeSet c).wf = true := (State.changeSet_keep s c).wf h

theorem State.lkp_changeSet (s : State) (c : Option Change) : (s.changeSet c).lkp = { s.lkp with change := c } :=
  (State.changeLevels_keep _).same .lkp rfl

theorem State.bit_changeSet_armed {s : State} (h : s.wf = true) (c : Option Change) :
    (s.changeSet c).bit LKP.CHANGE_STATUS_ARMED = c.isSome :=
  (State.bit_set_apart (f := LKP.CHANGE_STATUS_PENDING_MASK) (State.setBit_wf (s := { s with lkp := _ }) h ..) (by decide) (by decide)
    (.inr (by decide))).trans (State.bit_setBit (f := LKP.CHANGE_STATUS_ARMED) (s := { s with lkp := _ }) h rfl (by decide))

theorem State.get_changeSet_none {s : State} (h : s.wf = true) : (s.changeSet none).get LKP.CHANGE_STATUS_PENDING_MASK = 0 :=
  State.get_set (State.setBit_wf (s := { s with lkp := _ }) h ..) (by decide) (by decide) (Nat.two_pow_pos _)

theorem State.get_changeSet_some {s : State} (h : s.wf = true) {c : Change} (hfit : c.mask < 65536) :
    (s.changeSet (some c)).get LKP.CHANGE_STATUS_PENDING_MASK = c.mask :=
  State.get_set (State.setBit_wf (s := { s with lkp := _ }) h ..) (by decide) (by decide) hfit

theorem State.rd_changeSet {s : State} (h : s.wf = true) (c : Option Change) {a : Nat} (ha : a ≠ LKP.CHANGE_STATUS_ARMED.addr) :
    (s.changeSet c).rd a = s.rd a :=
  (State.rd_set_ne (f := LKP.CHANGE_STATUS_PENDING_MASK) (State.setBit_wf (s := { s with lkp := _ }) h ..) ha).trans
    (State.rd_set_ne (f := LKP.CHANGE_STATUS_ARMED) (s := { s with lkp := _ }) h ha)

/-! ### ARM and CANCEL (R183) -/

theorem State.changeArm_of_accepted {s : State} {mask : Nat} (h : s.armRefusal mask s.changeT = none) :
    s.changeArm mask false = s.changeSet (some { t := s.changeT * 250, mask := mask, link := false }) := by
  unfold State.changeArm
  dsimp only
  rw [h]
  rfl

/-- A refused ARM leaves its cause and port in CHANGE_STATUS and raises one event. -/
theorem State.changeArm_of_refused {s : State} {mask cause port : Nat} (link : Bool)
    (h : s.armRefusal mask s.changeT = some (cause, port)) :
    s.changeArm mask link = ((s.set LKP.CHANGE_STATUS_REFUSE_CAUSE cause).set LKP.CHANGE_STATUS_REFUSE_PORT port).raise
      (if cause = 5 then LKP.LKP_EVENT_CHANGE_LATE else LKP.LKP_EVENT_CHANGE_REFUSED) := by
  unfold State.changeArm
  simp only [h]

theorem State.gateCancel_of_alone {s : State} {c : Change} (h : s.lkp.change = some c) (hlink : c.link = false) :
    s.gateCancel = (s.changeSet none).raise LKP.LKP_EVENT_CANCELLED := by
  have hcancel : s.gateCancel = s.changeCancel := by
    unfold State.gateCancel
    simp only [h, hlink, Bool.false_eq_true, if_false]
  have harmed : s.lkp.change.isSome = true := by rw [h]; rfl
  rw [hcancel, State.changeCancel, if_pos harmed]
  rfl

/-! ### What an ARM is refused for (R183) -/

theorem lt_of_mem_maskPorts {m p : Nat} (h : p ∈ maskPorts m) : p < 16 := List.mem_range.mp (List.mem_filter.mp h).1

/-- The step of R183's search for the first port at which the running least common multiple exceeds 1 s. -/
def lcmStep (a : Nat × Option Nat) (x : Nat × Nat) : Nat × Option Nat :=
  if a.2.isSome then a else (Nat.lcm a.1 x.2, if 500000000 < Nat.lcm a.1 x.2 then some x.1 else none)

/-- What that search names is one of the ports that it passes. -/
theorem mem_of_lcmSearch {ps : List (Nat × Nat)} {p : Nat} : ∀ {a : Nat × Option Nat}, (ps.foldl lcmStep a).2 = some p →
    a.2 = some p ∨ ∃ x ∈ ps, x.1 = p := by
  induction ps with
  | nil => exact fun h => .inl h
  | cons x ps ih =>
    intro a h
    rcases ih (a := lcmStep a x) h with hstep | ⟨y, hy, hp⟩
    · unfold lcmStep at hstep
      split at hstep
      · exact .inl hstep
      · refine .inr ⟨x, List.mem_cons_self .., ?_⟩
        simp only [Option.ite_none_right_eq_some, Option.some.injEq] at hstep
        exact hstep.2
    · exact .inr ⟨y, List.mem_cons_of_mem _ hy, hp⟩

theorem State.hypercycle_lt {s : State} {mask p : Nat} (h : s.hypercycle mask = some p) : p < 16 := by
  rcases mem_of_lcmSearch (a := (1, none)) h with hnone | ⟨x, hx, rfl⟩
  · cases hnone
  · obtain ⟨q, hq, heq⟩ := List.mem_filterMap.mp hx
    simp only [Option.ite_none_right_eq_some, Option.some.injEq] at heq
    rw [← heq.2]
    exact List.mem_range.mp hq

/-- The cause and the port of a refusal fit their fields. -/
theorem State.armRefusal_lt {s : State} {mask t cause port : Nat} (h : s.armRefusal mask t = some (cause, port)) :
    cause < 8 ∧ port < 16 := by
  unfold State.armRefusal at h
  split at h
  next p hlen => cases h; exact ⟨by decide, lt_of_mem_maskPorts (List.mem_of_find?_eq_some hlen)⟩
  next =>
    split at h
    next p hcyc => cases h; exact ⟨by decide, lt_of_mem_maskPorts (List.mem_of_find?_eq_some hcyc)⟩
    next =>
      split at h
      next p hhyper => cases h; exact ⟨by decide, State.hypercycle_lt hhyper⟩
      next =>
        split at h
        · cases h; decide
        · split at h <;> cases h
          decide

/-! ### Sparse lists, member by member -/

theorem Sparse.get_of_mem {α : Type} [DecidableEq α] {d : Nat → α} {l : List (Nat × α)} {x : Nat × α} : ∀ {b : Option Nat},
    Sparse.wfFrom d b l = true → x ∈ l → Sparse.get d l x.1 = x.2 := by
  induction l with
  | nil => exact fun _ h => nomatch h
  | cons y l ih =>
    obtain ⟨a, v⟩ := y
    intro b hwf hx
    simp only [Sparse.wfFrom, Bool.and_eq_true] at hwf
    rw [Sparse.get]
    rcases List.mem_cons.mp hx with rfl | hmem
    · exact if_pos rfl
    · have habove : a < x.1 := (Sparse.wf_mem hwf.2 x hmem).2 a rfl
      rw [if_neg (by omega), if_neg (by omega)]
      exact ih hwf.2 hmem

theorem Sparse.get_of_absent {α : Type} {d : Nat → α} {l : List (Nat × α)} {k : Nat} (h : ∀ x ∈ l, x.1 ≠ k) : Sparse.get d l k = d k := by
  induction l with
  | nil => rfl
  | cons y l ih =>
    rw [Sparse.get, if_neg (h y (List.mem_cons_self ..)), ih fun x hx => h x (List.mem_cons_of_mem _ hx), ite_self]

/-! ### Table words and registers moved in a row -/

theorem State.rd_congr_regs {s t : State} (h : t.regs = s.regs) (a : Nat) : t.rd a = s.rd a := by
  unfold State.rd; rw [h]

theorem State.tab_congr_tabs {s t : State} (h : t.tabs = s.tabs) (k : Nat) : t.tab k = s.tab k := by
  unfold State.tab; rw [h]

/-- Table words after those of a list were erased. -/
theorem State.tab_each_erase {l : List (Nat × Word)} {k : Nat} : ∀ {s : State}, s.wf = true →
    (s.each l fun s x => { s with tabs := Sparse.erase s.tabs x.1 }).tab k = if ∃ x ∈ l, x.1 = k then tabReset k else s.tab k := by
  induction l with
  | nil => intro s _; exact (if_neg fun ⟨_, h, _⟩ => nomatch h).symm
  | cons x l ih =>
    intro s h
    have hone : State.tab { s with tabs := Sparse.erase s.tabs x.1 } k = if k = x.1 then tabReset x.1 else s.tab k :=
      Sparse.get_erase ((State.wf_iff s).mp h).2.2.2.1
    refine (ih ((State.eraseTabs_keep s x.1).wf h)).trans ?_
    rw [hone]
    by_cases hx : k = x.1
    · subst hx
      simp only [if_true, ite_self]
      exact (if_pos ⟨x, List.mem_cons_self .., rfl⟩).symm
    · simp only [hx, if_false, List.mem_cons, or_and_right, exists_or, exists_eq_left, Ne.symm hx, false_or]

/-- Table words after those of a list, whose word for key k is v, were stored at a distance. -/
theorem State.tab_each_setTab {l : List (Nat × Word)} {n k : Nat} {v : Word} : ∀ {s : State}, s.wf = true →
    (∀ x ∈ l, x.1 + n = k → x.2 = v) →
    (s.each l fun s x => s.setTab (x.1 + n) x.2).tab k = if ∃ x ∈ l, x.1 + n = k then v else s.tab k := by
  induction l with
  | nil => intro s _ _; exact (if_neg fun ⟨_, h, _⟩ => nomatch h).symm
  | cons x l ih =>
    intro s h hv
    refine (ih (State.setTab_wf h ..) fun y hy => hv y (List.mem_cons_of_mem _ hy)).trans ?_
    rw [State.tab_setTab h]
    by_cases hx : k = x.1 + n
    · rw [if_pos hx, hv x (List.mem_cons_self ..) hx.symm, ite_self]
      exact (if_pos ⟨x, List.mem_cons_self .., hx.symm⟩).symm
    · simp only [hx, if_false, List.mem_cons, or_and_right, exists_or, exists_eq_left, Ne.symm hx, false_or]

/-- Registers after those at `src` were copied, at the offsets of a list, to a place apart from them. -/
theorem State.rd_each_copy {src dst o : Nat} {l : List Nat} : ∀ {s : State}, s.wf = true → (∀ i ∈ o :: l, ∀ j ∈ o :: l, src + i ≠ dst + j) →
    (s.each l fun s i => s.wr (dst + i) (s.rd (src + i))).rd (dst + o) = if o ∈ l then s.rd (src + o) else s.rd (dst + o) := by
  induction l with
  | nil => intro s _ _; rfl
  | cons x l ih =>
    intro s h hapart
    have hsub : ∀ i ∈ o :: l, i ∈ o :: x :: l := fun i hi => by
      rcases List.mem_cons.mp hi with rfl | hi
      · exact List.mem_cons_self ..
      · exact List.mem_cons_of_mem _ (List.mem_cons_of_mem _ hi)
    refine (ih (State.wr_wf h ..) fun i hi j hj => hapart i (hsub i hi) j (hsub j hj)).trans ?_
    have hsrc : src + o ≠ dst + x := hapart o (List.mem_cons_self ..) x (List.mem_cons_of_mem _ (List.mem_cons_self ..))
    rw [State.rd_wr_ne h _ hsrc, State.rd_wr h]
    by_cases hx : o = x
    · subst hx; simp
    · simp [hx]

/-! ### A port takes its admin list (R180, R184) -/

/-- A stored word of the list of port p in a bank. -/
def gateWord (bank p : Nat) (x : Nat × Word) : Bool := decide (x.1 / 1048576 = (8 * 16 + bank) * 4) && x.1 % 1048576 / 32 / 1024 == p

/-- The oper list without its words of port p. -/
def State.operListErased (s : State) (p : Nat) : State :=
  s.each (s.tabs.filter (gateWord 1 p)) fun s x => { s with tabs := Sparse.erase s.tabs x.1 }

/-- Words of the admin list stored in the oper list. -/
def State.operListFilled (s : State) (l : List (Nat × Word)) : State := s.each l fun s x => s.setTab (x.1 + 4194304) x.2

/-- The oper parameters of port p taken from its admin parameters. -/
def State.operWordsTaken (s : State) (p : Nat) : State :=
  s.each [0, 4, 8, 12, 16] fun s o => s.wr (LKP.OPER_CFG p + o) (s.rd (LKP.ADMIN_CFG p + o))

theorem State.operTake_eq (s : State) (p : Nat) :
    s.operTake p = (((s.operListErased p).operListFilled (s.tabs.filter (gateWord 0 p))).operWordsTaken p).takeReservations p := rfl

theorem State.operListErased_keep (s : State) (p : Nat) : Keep 0x8 s (s.operListErased p) :=
  keep_each (Keep.refl s) fun _ _ => State.eraseTabs_keep ..

theorem State.operListFilled_keep (s : State) (l : List (Nat × Word)) : Keep 0x8 s (s.operListFilled l) :=
  keep_each (Keep.refl s) fun _ _ => State.setTab_keep ..

theorem State.operWordsTaken_keep (s : State) (p : Nat) : Keep 0x1 s (s.operWordsTaken p) :=
  keep_each (Keep.refl s) fun _ _ => State.wr_keep ..

theorem gateWord_of_tkey {bank p idx w : Nat} {x : Nat × Word} (hidx : idx < 16384) (hw : w < 32) (hx : x.1 = tkey 8 bank 0 idx w) :
    gateWord bank p x = (idx / 1024 == p) := by
  unfold tkey at hx
  have hhead : x.1 / 1048576 = (8 * 16 + bank) * 4 := by omega
  have hport : x.1 % 1048576 / 32 / 1024 = idx / 1024 := by omega
  rw [gateWord, hhead, hport, decide_eq_true rfl, Bool.true_and]

theorem tabReset_gate {bank idx w : Nat} (hidx : idx < 16384) (hw : w < 32) : tabReset (tkey 8 bank 0 idx w) = 0 := by
  have hhead : tkey 8 bank 0 idx w / 1048576 / 4 = 8 * 16 + bank := by unfold tkey; omega
  simp only [tabReset, hhead]
  rw [if_neg (by omega), if_neg (by omega)]

theorem tkey_oper (idx w : Nat) : tkey 8 0 0 idx w + 4194304 = tkey 8 1 0 idx w := by unfold tkey; omega

theorem State.tw_operListErased {s : State} (h : s.wf = true) (p : Nat) {idx w : Nat} (hidx : idx < 16384) (hw : w < 32) :
    (s.operListErased p).tw 8 1 0 idx w = if idx / 1024 = p then 0 else s.tw 8 1 0 idx w := by
  rw [State.tw, State.operListErased, State.tab_each_erase h]
  by_cases hp : idx / 1024 = p
  · rw [if_pos hp, tabReset_gate hidx hw]
    by_cases hmem : ∃ x ∈ s.tabs.filter (gateWord 1 p), x.1 = tkey 8 1 0 idx w
    · exact if_pos hmem
    · rw [if_neg hmem]
      refine (Sparse.get_of_absent fun x hx hkey => hmem ⟨x, List.mem_filter.mpr ⟨hx, ?_⟩, hkey⟩).trans (tabReset_gate hidx hw)
      rw [gateWord_of_tkey hidx hw hkey, hp, beq_self_eq_true]
  · rw [if_neg hp, if_neg]
    · rfl
    · rintro ⟨x, hx, hkey⟩
      have hword := (List.mem_filter.mp hx).2
      rw [gateWord_of_tkey hidx hw hkey, beq_iff_eq] at hword
      exact hp hword

/-- Of a port's own entries the words of the admin list arrive; entries of other ports stay. -/
theorem State.tw_operListFilled {s u : State} (h : s.wf = true) (hu : u.wf = true) {p : Nat} {idx w : Nat} (hidx : idx < 16384) (hw : w < 32)
    (hclear : u.tw 8 1 0 idx w = if idx / 1024 = p then 0 else s.tw 8 1 0 idx w) :
    (u.operListFilled (s.tabs.filter (gateWord 0 p))).tw 8 1 0 idx w = if idx / 1024 = p then s.tw 8 0 0 idx w else s.tw 8 1 0 idx w := by
  have hkey : ∀ x : Nat × Word, x.1 + 4194304 = tkey 8 1 0 idx w ↔ x.1 = tkey 8 0 0 idx w := fun x => by
    rw [← tkey_oper, Nat.add_right_cancel_iff]
  have hvalue : ∀ x ∈ s.tabs.filter (gateWord 0 p), x.1 + 4194304 = tkey 8 1 0 idx w → x.2 = s.tw 8 0 0 idx w := fun x hx hk => by
    rw [State.tw, ← (hkey x).mp hk]
    exact (Sparse.get_of_mem ((State.wf_iff s).mp h).2.2.2.1 (List.mem_filter.mp hx).1).symm
  rw [State.tw, State.operListFilled, State.tab_each_setTab hu hvalue]
  simp only [hkey]
  by_cases hp : idx / 1024 = p
  · rw [if_pos hp]
    by_cases hmem : ∃ x ∈ s.tabs.filter (gateWord 0 p), x.1 = tkey 8 0 0 idx w
    · exact if_pos hmem
    · rw [if_neg hmem]
      refine (hclear.trans (if_pos hp)).trans ((Sparse.get_of_absent fun x hx hk => hmem ⟨x, List.mem_filter.mpr ⟨hx, ?_⟩, hk⟩).trans
        (tabReset_gate hidx hw)).symm
      rw [gateWord_of_tkey hidx hw hk, hp, beq_self_eq_true]
  · rw [if_neg hp, if_neg]
    · exact hclear.trans (if_neg hp)
    · rintro ⟨x, hx, hk⟩
      have hword := (List.mem_filter.mp hx).2
      rw [gateWord_of_tkey hidx hw hk, beq_iff_eq] at hword
      exact hp hword

/-- Indices of the valid reservations of port p in a bank (R166). -/
def State.resOf (s : State) (bank p : Nat) : List Nat :=
  (s.tabs.filter fun x => decide (x.1 / 1048576 = (7 * 16 + bank) * 4) && x.1 % 32 == 0 && bitsOf x.2 31 31 == 1 && bitsOf x.2 19 16 == p).map
    fun x => x.1 % 1048576 / 32

/-- Reservations of the oper bank stored at the indices of a list. -/
def State.resFilled (s : State) (l : List Nat) (f : State → Nat → List Word) : State := s.each l fun s e => s.setEntry 7 1 0 e 0 (f s e)

theorem State.takeReservations_eq (s : State) (p : Nat) :
    s.takeReservations p = (s.resFilled (s.resOf 1 p) fun _ _ => [0, 0, 0, 0]).resFilled
      ((s.resFilled (s.resOf 1 p) fun _ _ => [0, 0, 0, 0]).resOf 0 p) fun s e => s.entry 7 0 0 e 4 := rfl

theorem State.lt_of_mem_resOf {s : State} {bank p e : Nat} (h : e ∈ s.resOf bank p) : e < 32768 := by
  obtain ⟨x, -, rfl⟩ := List.mem_map.mp h
  omega

theorem State.resFilled_keep (s : State) (l : List Nat) (f : State → Nat → List Word) : Keep 0x8 s (s.resFilled l f) :=
  keep_each (Keep.refl s) fun _ _ => State.setEntry_keep ..

/-- Entries of block 8 lie beyond the reservations. -/
theorem State.tab_resFilled {s : State} (h : s.wf = true) {l : List Nat} {f : State → Nat → List Word} (hl : ∀ e ∈ l, e < 32768)
    (hf : ∀ u e, (f u e).length = 4) {k : Nat} (hk : 536870912 ≤ k) : (s.resFilled l f).tab k = s.tab k :=
  (List.foldlRecOn l _ (motive := fun u : State => u.wf = true ∧ u.tab k = s.tab k) ⟨h, rfl⟩ fun u hu e he => by
    have hindex := hl e he
    refine ⟨(State.setEntry_keep ..).wf hu.1, ?_⟩
    rw [State.tab_setEntry _ hu.1, hf, if_neg (by unfold tkey; omega), hu.2]).2

theorem State.tab_takeReservations {s : State} (h : s.wf = true) (p : Nat) {k : Nat} (hk : 536870912 ≤ k) :
    (s.takeReservations p).tab k = s.tab k := by
  rw [State.takeReservations_eq,
    State.tab_resFilled ((State.resFilled_keep ..).wf h) (fun _ => State.lt_of_mem_resOf) (fun u e => by simp [State.entry]) hk,
    State.tab_resFilled h (fun _ => State.lt_of_mem_resOf) (fun _ _ => rfl) hk]

theorem State.tw_operTake {s : State} (h : s.wf = true) (p : Nat) {idx w : Nat} (hidx : idx < 16384) (hw : w < 32) :
    (s.operTake p).tw 8 1 0 idx w = if idx / 1024 = p then s.tw 8 0 0 idx w else s.tw 8 1 0 idx w := by
  have herased := (State.operListErased_keep s p).wf h
  have hfilled := (State.operListFilled_keep (s.operListErased p) (s.tabs.filter (gateWord 0 p))).wf herased
  have hkey : 536870912 ≤ tkey 8 1 0 idx w := by unfold tkey; omega
  rw [State.operTake_eq, State.tw, State.tab_takeReservations ((State.operWordsTaken_keep ..).wf hfilled) p hkey,
    State.tab_congr_tabs ((State.operWordsTaken_keep ..).same .tabs rfl)]
  exact State.tw_operListFilled h herased hidx hw (State.tw_operListErased h p hidx hw)

theorem State.rd_operTake {s : State} (h : s.wf = true) (p : Nat) {o : Nat} (ho : o < 5) :
    (s.operTake p).rd (LKP.OPER_CFG p + 4 * o) = s.rd (LKP.ADMIN_CFG p + 4 * o) := by
  have herased := State.operListErased_keep s p
  have hfilled := State.operListFilled_keep (s.operListErased p) (s.tabs.filter (gateWord 0 p))
  have hregs := (herased.trans' hfilled).same .regs rfl
  have hoff : 4 * o ∈ [0, 4, 8, 12, 16] := by
    simp only [List.mem_cons, List.not_mem_nil, or_false]
    omega
  have hapart : ∀ i ∈ 4 * o :: [0, 4, 8, 12, 16], ∀ j ∈ 4 * o :: [0, 4, 8, 12, 16], LKP.ADMIN_CFG p + i ≠ LKP.OPER_CFG p + j := by
    have hle : ∀ i ∈ 4 * o :: [0, 4, 8, 12, 16], i ≤ 16 := fun i hi => by
      simp only [List.mem_cons, List.not_mem_nil, or_false] at hi
      omega
    intro i hi j _
    have hi := hle i hi
    unfold LKP.ADMIN_CFG LKP.OPER_CFG
    omega
  rw [State.operTake_eq, State.rd_congr_regs ((State.takeReservations_keep ..).same .regs rfl)]
  refine (State.rd_each_copy (hfilled.wf (herased.wf h)) hapart).trans ((if_pos hoff).trans ?_)
  exact State.rd_congr_regs hregs _

/-- Registers below the per-port ones of Lockkeeper do not move. -/
theorem State.rd_operTake_of_below {s : State} (h : s.wf = true) (p : Nat) {a : Nat} (ha : a < 0x801000) :
    (s.operTake p).rd a = s.rd a := by
  have hregs := ((State.operListErased_keep s p).trans' (State.operListFilled_keep (s.operListErased p) (s.tabs.filter (gateWord 0 p)))).same .regs rfl
  have hlists := (State.operListFilled_keep (s.operListErased p) (s.tabs.filter (gateWord 0 p))).wf ((State.operListErased_keep s p).wf h)
  rw [State.operTake_eq, State.rd_congr_regs ((State.takeReservations_keep ..).same .regs rfl)]
  refine (List.foldlRecOn _ _ (motive := fun u : State => u.wf = true ∧ u.rd a = s.rd a) ⟨hlists, State.rd_congr_regs hregs a⟩
    fun u hu o _ => ⟨State.wr_wf hu.1 .., (State.rd_wr_ne hu.1 _ ?_).trans hu.2⟩).2
  unfold LKP.OPER_CFG
  omega

/-! ### A port meets its new list (R184) -/

theorem State.rd_setHold {s : State} (h : s.wf = true) (p : Nat) (b : Bool) {a : Nat} (ha : a ≠ (LKP.GATE_STATUS_HOLD p).addr) :
    (s.setHold p b).rd a = s.rd a :=
  State.rd_set_ne (f := LKP.GATE_STATUS_HOLD p) (s := { s with lkp := _ }) h ha

theorem State.rd_assertHold {s : State} (h : s.wf = true) (p : Nat) {a : Nat} (ha : a ≠ (LKP.GATE_STATUS_HOLD p).addr) :
    (s.assertHold p).rd a = s.rd a := by
  unfold State.assertHold
  split
  · rfl
  · rw [State.rd_bump, State.rd_setHold h p true ha]

theorem State.change_setHold (s : State) (p : Nat) (b : Bool) : (s.setHold p b).lkp.change = s.lkp.change := by
  unfold State.setHold
  rw [State.setBit_lkp]

theorem State.change_assertHold (s : State) (p : Nat) : (s.assertHold p).lkp.change = s.lkp.change := by
  unfold State.assertHold
  split
  · rfl
  · rw [State.bump_lkp, State.change_setHold]

/-- The hold of port p as its new list's governing entry has it (R184, R193). -/
def State.holdMet (s : State) (p : Nat) : State :=
  if (s.entryRead p false).pmtActive p ∧ (s.govern 1 p s.nowPs).op = 1 then (s.entryRead p false).assertHold p
  else (s.entryRead p false).setHold p false

theorem State.holdMet_wf {s : State} (h : s.wf = true) (p : Nat) : (s.holdMet p).wf = true := by
  unfold State.holdMet
  split
  · exact (State.assertHold_keep (s.entryRead p false) p).wf h
  · exact (State.setHold_keep (s.entryRead p false) p false).wf h

theorem State.rd_holdMet {s : State} (h : s.wf = true) (p : Nat) {a : Nat} (ha : a ≠ (LKP.GATE_STATUS_HOLD p).addr) :
    (s.holdMet p).rd a = s.rd a := by
  unfold State.holdMet
  split
  · exact State.rd_assertHold (s := s.entryRead p false) h p ha
  · exact State.rd_setHold (s := s.entryRead p false) h p false ha

theorem State.change_holdMet (s : State) (p : Nat) : (s.holdMet p).lkp.change = s.lkp.change := by
  unfold State.holdMet
  split
  · exact State.change_assertHold (s.entryRead p false) p
  · exact State.change_setHold (s.entryRead p false) p false

/-- The new list met: the hold, then GATE_STATUS and the copies that rejoin. -/
theorem State.meetList_eq (s : State) (p : Nat) : ∃ m, s.meetList p = ((s.holdMet p).gateStatus p).rejoin p m := ⟨_, rfl⟩

theorem State.rd_meetList {s : State} (h : s.wf = true) (p : Nat) {a : Nat} (hs : a ≠ (LKP.SEL_STATUS_SET_ASIDE p).addr)
    (hg : a ≠ (LKP.GATE_STATUS_HOLD p).addr) : (s.meetList p).rd a = s.rd a := by
  obtain ⟨m, hmet⟩ := s.meetList_eq p
  rw [hmet, State.rd_rejoin ((State.gateStatus_keep ..).wf (State.holdMet_wf h p)) p m hs, State.rd_gateStatus (State.holdMet_wf h p) p hg,
    State.rd_holdMet h p hg]

theorem State.change_meetList (s : State) (p : Nat) : (s.meetList p).lkp.change = s.lkp.change := by
  obtain ⟨m, hmet⟩ := s.meetList_eq p
  rw [hmet, (State.rejoin_keep ..).same .lkp rfl, (State.gateStatus_keep ..).same .lkp rfl, State.change_holdMet]

/-! ### The armed change fires (R184) -/

theorem maskPorts_two_pow (p : Fin 16) : maskPorts (2 ^ (p : Nat)) = [(p : Nat)] := by revert p; decide

/-- Port p takes its admin list, at T of a change that concerns it alone. -/
def State.listTaken (s : State) (p : Nat) : State := ((s.changeSet none).operTake p).meetList p

theorem State.gateChangeFire_of_due {s : State} {p : Fin 16} {c : Change} (harmed : s.lkp.change = some c) (hlink : c.link = false)
    (hmask : c.mask = 2 ^ (p : Nat)) (hdue : c.t ≤ s.nowPs) : s.gateChangeFire = (s.listTaken p).raise LKP.LKP_EVENT_CHANGED := by
  have hfire : s.gateChangeFire = s.changeFire := by
    unfold State.gateChangeFire
    simp only [harmed, hlink, Bool.false_eq_true, if_false]
    exact if_neg (by omega)
  rw [hfire]
  unfold State.changeFire
  simp only [harmed]
  rw [hmask, maskPorts_two_pow]
  rfl

theorem State.listTaken_wf {s : State} (h : s.wf = true) (p : Nat) : (s.listTaken p).wf = true :=
  (State.meetList_keep ..).wf ((State.operTake_keep ..).wf (State.changeSet_wf h none))

theorem State.change_listTaken (s : State) (p : Nat) : (s.listTaken p).lkp.change = none := by
  rw [State.listTaken, State.change_meetList, (State.operTake_keep ..).same .lkp rfl, State.lkp_changeSet]

/-- Registers outside the port's oper parameters that no rule of R184 names stay as CHANGE_STATUS leaves them. -/
theorem State.rd_listTaken {s : State} (h : s.wf = true) (p : Nat) {a : Nat} (ha : a < 0x801000) :
    (s.listTaken p).rd a = (s.changeSet none).rd a := by
  have hset := State.changeSet_wf h none
  rw [State.listTaken, State.rd_meetList ((State.operTake_keep ..).wf hset) p (by unfold LKP.SEL_STATUS_SET_ASIDE; dsimp only; omega)
    (by unfold LKP.GATE_STATUS_HOLD; dsimp only; omega), State.rd_operTake_of_below hset p ha]

theorem State.rd_listTaken_oper {s : State} (h : s.wf = true) (p : Nat) {o : Nat} (ho : o < 5) :
    (s.listTaken p).rd (LKP.OPER_CFG p + 4 * o) = s.rd (LKP.ADMIN_CFG p + 4 * o) := by
  have hset := State.changeSet_wf h none
  rw [State.listTaken, State.rd_meetList ((State.operTake_keep ..).wf hset) p
      (by unfold LKP.SEL_STATUS_SET_ASIDE LKP.OPER_CFG; dsimp only; omega)
      (by unfold LKP.GATE_STATUS_HOLD LKP.OPER_CFG; dsimp only; omega),
    State.rd_operTake hset p ho,
    State.rd_changeSet h none (by unfold LKP.CHANGE_STATUS_ARMED LKP.ADMIN_CFG; dsimp only; omega)]

theorem State.tw_listTaken {s : State} (h : s.wf = true) (p : Nat) {idx w : Nat} (hidx : idx < 16384) (hw : w < 32) :
    (s.listTaken p).tw 8 1 0 idx w = if idx / 1024 = p then s.tw 8 0 0 idx w else s.tw 8 1 0 idx w := by
  have hmeet : (s.listTaken p).tabs = ((s.changeSet none).operTake p).tabs := (State.meetList_keep ..).same .tabs rfl
  have hset : ∀ bank, (s.changeSet none).tw 8 bank 0 idx w = s.tw 8 bank 0 idx w := fun bank =>
    State.tab_congr_tabs ((State.changeSet_keep s none).same .tabs rfl) _
  rw [State.tw, State.tab_congr_tabs hmeet, ← hset 0, ← hset 1]
  exact State.tw_operTake (State.changeSet_wf h none) p hidx hw

/-! ### The list of shapers (R196) -/

theorem State.shaper_key (s : State) (o c : Nat) : (s.shaper o c).key = 8 * o + c := by
  unfold State.shaper
  cases hfind : s.lkp.shapers.find? fun x => x.key == 8 * o + c with
  | none => rfl
  | some x => exact beq_iff_eq.mp (List.find?_some (p := fun x : Shaper => x.key == 8 * o + c) hfind)

theorem State.shaper_setShaper_self (s : State) {x : Shaper} {o c : Nat} (hkey : x.key = 8 * o + c) (hmode : x.mode ≠ 0) :
    (s.setShaper x).shaper o c = x := by
  have hkept : ¬ (x.mode = 0 ∧ x.level = 0 ∧ x.inc = 0 ∧ x.burst = 0) := fun h => hmode h.1
  have hothers : (s.lkp.shapers.filter fun y => y.key != 8 * o + c).find? (fun y => y.key == 8 * o + c) = none := by
    rw [List.find?_eq_none]
    intro y hy
    simpa using (List.mem_filter.mp hy).2
  simp only [State.setShaper, State.shaper, if_neg hkept, List.find?_append, hothers, Option.none_or, List.find?_singleton,
    beq_iff_eq, hkey, if_true, Option.getD_some]

theorem State.shaper_setShaper_ne (s : State) {x : Shaper} {o c : Nat} (hkey : x.key ≠ 8 * o + c) :
    (s.setShaper x).shaper o c = s.shaper o c := by
  have hrest : (s.lkp.shapers.filter fun y => y.key != x.key).find? (fun y => y.key == 8 * o + c) =
      s.lkp.shapers.find? fun y => y.key == 8 * o + c := by
    rw [List.find?_filter]
    congr 1
    funext y
    by_cases hy : y.key = 8 * o + c
    · simp [hy, Ne.symm hkey]
    · simp [hy]
  have hnew : (if x.mode = 0 ∧ x.level = 0 ∧ x.inc = 0 ∧ x.burst = 0 then [] else [x]).find? (fun y => y.key == 8 * o + c) = none := by
    split
    · rfl
    · simp [hkey]
  simp only [State.setShaper, State.shaper, List.find?_append, hrest, hnew, Option.or_none]

/-! ### One shaper's refill (R197, R198) -/

/-- A refill touches no shaper but its own. -/
theorem State.refillShaper_cases (s : State) (o c : Nat) :
    s.refillShaper o c = s ∨ ∃ x : Shaper, x.key = 8 * o + c ∧ s.refillShaper o c = s.setShaper x := by
  unfold State.refillShaper
  dsimp only
  split
  · exact .inl rfl
  · refine .inr ⟨_, ?_, rfl⟩
    split <;> exact s.shaper_key o c

/-- The largest level of a shaper: its burst. -/
def State.shaperCap (s : State) (o c : Nat) : Int := (s.get (LKP.SHP_BURST_TC_BYTES o c) : Int) * 65536

/-- A shaper with its parameters as the registers have them, in a mode and at a level. -/
def State.shaperSet (s : State) (o c mode : Nat) (level : Int) : Shaper :=
  { s.shaper o c with level := level, mode := mode, inc := s.get (LKP.SHP_RATE_TC_INC o c), burst := s.get (LKP.SHP_BURST_TC_BYTES o c) }

/-- A token bucket with the rate added, within the burst. -/
def State.tokensGained (s : State) (o c : Nat) : Shaper :=
  s.shaperSet o c 1 (min (s.shaperCap o c) (min (s.shaperCap o c) (s.shaper o c).level + s.get (LKP.SHP_RATE_TC_INC o c)))

/-- A credit shaper that stands still, within the burst. -/
def State.creditKept (s : State) (o c : Nat) : Shaper := s.shaperSet o c 2 (min (s.shaperCap o c) (s.shaper o c).level)

theorem State.refillShaper_of_tokens {s : State} {o c : Nat} (hmode : s.shpMode o c = 1) (hsame : (s.shaper o c).mode = 1) :
    s.refillShaper o c = s.setShaper (s.tokensGained o c) := by
  unfold State.refillShaper
  simp only [hmode, hsame]
  rfl

theorem State.refillShaper_of_shut {s : State} {o c : Nat} (hmode : s.shpMode o c = 2) (hsame : (s.shaper o c).mode = 2)
    (hshut : s.gateOpen o c s.nowPs = false) : s.refillShaper o c = s.setShaper (s.creditKept o c) := by
  unfold State.refillShaper
  simp only [hmode, hsame, hshut]
  rfl

/-! ### The refill of all shapers (R196) -/

/-- A fold that meets an element once: before it P holds, from it on Q. -/
theorem State.each_meets {α : Type} {P Q : State → Prop} {f : State → α → State} {a : α} {l : List α} (hnodup : l.Nodup) (hmem : a ∈ l)
    (hbefore : ∀ u x, x ≠ a → P u → P (f u x)) (hmeet : ∀ u, P u → Q (f u a)) (hafter : ∀ u x, x ≠ a → Q u → Q (f u x)) :
    ∀ {s : State}, P s → Q (s.each l f) := by
  induction l with
  | nil => exact nomatch hmem
  | cons x l ih =>
    intro s hs
    obtain ⟨hfresh, hrest⟩ := List.nodup_cons.mp hnodup
    rcases List.mem_cons.mp hmem with rfl | hlater
    · exact List.foldlRecOn l f (motive := Q) (hmeet s hs) fun u hu y hy => hafter u y (fun e => hfresh (e ▸ hy)) hu
    · exact ih hrest hlater (hbefore s x (fun e => hfresh (e ▸ hlater)) hs)

/-- u is s but for its shapers, and the shaper of output o and class c is x in it. -/
structure State.ShaperAt (s u : State) (o c : Nat) (x : Shaper) : Prop where
  alone : u = { s with lkp := { s.lkp with shapers := u.lkp.shapers } }
  shaper : u.shaper o c = x

theorem State.ShaperAt.setShaper {s u : State} {o c : Nat} {x y : Shaper} (h : s.ShaperAt u o c x) (hkey : y.key ≠ 8 * o + c) :
    s.ShaperAt (u.setShaper y) o c x :=
  ⟨by rw [h.alone]; rfl, (u.shaper_setShaper_ne hkey).trans h.shaper⟩

theorem State.ShaperAt.setShaper_self {s u : State} {o c : Nat} {x y : Shaper} (h : s.ShaperAt u o c x) (hkey : y.key = 8 * o + c)
    (hmode : y.mode ≠ 0) : s.ShaperAt (u.setShaper y) o c y :=
  ⟨by rw [h.alone]; rfl, u.shaper_setShaper_self hkey hmode⟩

theorem State.ShaperAt.refill_other {s u : State} {o c o' c' : Nat} {x : Shaper} (h : s.ShaperAt u o c x) (hne : 8 * o' + c' ≠ 8 * o + c) :
    s.ShaperAt (u.refillShaper o' c') o c x := by
  rcases u.refillShaper_cases o' c' with heq | ⟨y, hkey, heq⟩
  · rw [heq]; exact h
  · rw [heq]; exact h.setShaper (hkey ▸ hne)

theorem State.ShaperAt.regs {s u : State} {o c : Nat} {x : Shaper} (h : s.ShaperAt u o c x) : u.regs = s.regs := by
  rw [h.alone]

theorem State.ShaperAt.shpMode {s u : State} {o c : Nat} {x : Shaper} (h : s.ShaperAt u o c x) : u.shpMode o c = s.shpMode o c := by
  unfold State.shpMode
  rw [State.get_congr_regs h.regs]

theorem State.ShaperAt.gateOpen {s u : State} {o c : Nat} {x : Shaper} (h : s.ShaperAt u o c x) (t : Nat) :
    u.gateOpen o c t = s.gateOpen o c t := by
  rw [h.alone]
  rfl

theorem State.ShaperAt.shaperCap {s u : State} {o c : Nat} {x : Shaper} (h : s.ShaperAt u o c x) : u.shaperCap o c = s.shaperCap o c := by
  unfold State.shaperCap
  rw [State.get_congr_regs h.regs]

theorem State.ShaperAt.shaperSet {s u : State} {o c : Nat} (h : s.ShaperAt u o c (s.shaper o c)) (mode : Nat) (level : Int) :
    u.shaperSet o c mode level = s.shaperSet o c mode level := by
  unfold State.shaperSet
  rw [h.shaper, State.get_congr_regs h.regs, State.get_congr_regs h.regs]

theorem State.ShaperAt.refill_tokens {s u : State} {o c : Nat} (h : s.ShaperAt u o c (s.shaper o c)) (hmode : s.shpMode o c = 1)
    (hsame : (s.shaper o c).mode = 1) : s.ShaperAt (u.refillShaper o c) o c (s.tokensGained o c) := by
  rw [State.refillShaper_of_tokens (h.shpMode.trans hmode) (by rw [h.shaper, hsame])]
  have hgain : u.tokensGained o c = s.tokensGained o c := by
    rw [State.tokensGained, h.shaperSet, h.shaperCap, h.shaper, State.get_congr_regs h.regs, State.tokensGained]
  rw [hgain]
  exact h.setShaper_self (s.shaper_key o c) Nat.one_ne_zero

theorem State.ShaperAt.refill_shut {s u : State} {o c : Nat} (h : s.ShaperAt u o c (s.shaper o c)) (hmode : s.shpMode o c = 2)
    (hsame : (s.shaper o c).mode = 2) (hshut : s.gateOpen o c s.nowPs = false) :
    s.ShaperAt (u.refillShaper o c) o c (s.creditKept o c) := by
  have hnow : u.nowPs = s.nowPs := by rw [h.alone]; rfl
  rw [State.refillShaper_of_shut (h.shpMode.trans hmode) (by rw [h.shaper, hsame]) (by rw [hnow, h.gateOpen, hshut])]
  have hkept : u.creditKept o c = s.creditKept o c := by
    rw [State.creditKept, h.shaperSet, h.shaperCap, h.shaper, State.creditKept]
  rw [hkept]
  exact h.setShaper_self (s.shaper_key o c) (Nat.succ_ne_zero 1)

/-- The refill of the shapers of output o. -/
def State.portRefill (s : State) (o : Nat) : State :=
  if s.get (LKP.SHP_MODE_MODE o) = 0 ∧ (s.lkp.shapers.all fun x => x.key / 8 != o) then s
  else s.each (List.range 8) fun s c => s.refillShaper o c

theorem State.ShaperAt.port_other {s u : State} {o c o' : Nat} {x : Shaper} (h : s.ShaperAt u o c x) (hc : c < 8) (hne : o' ≠ o) :
    s.ShaperAt (u.portRefill o') o c x := by
  unfold State.portRefill
  split
  · exact h
  · refine List.foldlRecOn (List.range 8) _ (motive := fun v => s.ShaperAt v o c x) h fun v hv c' hc' => hv.refill_other ?_
    have := List.mem_range.mp hc'
    omega

/-- The state in which a due refill begins. -/
def State.shaperDue (s : State) : State := { s with lkp := { s.lkp with grid := s.tim.ticks / 32 } }

theorem State.shaperRefillAll_of_due {s : State} (hrun : s.stalled = false) (hdue : s.lkp.grid ≠ s.tim.ticks / 32) :
    s.shaperRefillAll = s.shaperDue.each (List.range 16) State.portRefill := by
  have hopen : ¬ (s.stalled = true ∨ s.lkp.grid = s.tim.ticks / 32) := by
    rw [hrun]
    rintro (h | h)
    · cases h
    · exact hdue h
  exact if_neg hopen

theorem State.shaperRefillAll_of_done {s : State} (h : s.lkp.grid = s.tim.ticks / 32) : s.shaperRefillAll = s := if_pos (.inr h)

theorem State.shaperAt_due (s : State) (o c : Nat) : s.shaperDue.ShaperAt s.shaperDue o c (s.shaper o c) := ⟨rfl, rfl⟩

theorem State.shpMode_of_none {s : State} {o : Nat} (h : s.get (LKP.SHP_MODE_MODE o) = 0) (c : Nat) : s.shpMode o c = 0 := by
  rw [State.shpMode, h, bitsOf_word, Nat.zero_mod, Nat.zero_div, Nat.zero_mod]

/-- The turn of output o, one of whose classes has a shaper. -/
theorem State.ShaperAt.port_self {s u : State} {o c : Nat} {x y : Shaper} (h : s.ShaperAt u o c x) (hc : c < 8) (hmode : s.shpMode o c ≠ 0)
    (hown : ∀ v, s.ShaperAt v o c x → s.ShaperAt (v.refillShaper o c) o c y) : s.ShaperAt (u.portRefill o) o c y := by
  have hactive : ¬ (u.get (LKP.SHP_MODE_MODE o) = 0 ∧ (u.lkp.shapers.all fun x => x.key / 8 != o) = true) := fun hidle => by
    exact hmode (State.shpMode_of_none ((State.get_congr_regs h.regs _).symm.trans hidle.1) c)
  have hother : ∀ (z : Shaper) (v : State) (c' : Nat), c' ≠ c → s.ShaperAt v o c z → s.ShaperAt (v.refillShaper o c') o c z :=
    fun z v c' hne hv => hv.refill_other (by omega)
  rw [State.portRefill, if_neg hactive]
  exact State.each_meets (P := fun v => s.ShaperAt v o c x) (Q := fun v => s.ShaperAt v o c y) List.nodup_range (List.mem_range.mpr hc)
    (hother x) hown (hother y) h

/-- What the refill of all shapers comes to for one of them, given what its own refill does. -/
theorem State.shaperRefillAll_meets {s : State} {o c : Nat} {x : Shaper} (hrun : s.stalled = false) (hdue : s.lkp.grid ≠ s.tim.ticks / 32)
    (ho : o < 16) (hc : c < 8) (hmode : s.shpMode o c ≠ 0)
    (hown : ∀ u, s.shaperDue.ShaperAt u o c (s.shaper o c) → s.shaperDue.ShaperAt (u.refillShaper o c) o c x) :
    s.shaperDue.ShaperAt s.shaperRefillAll o c x := by
  rw [State.shaperRefillAll_of_due hrun hdue]
  exact State.each_meets (P := fun u => s.shaperDue.ShaperAt u o c (s.shaper o c)) (Q := fun u => s.shaperDue.ShaperAt u o c x)
    List.nodup_range (List.mem_range.mpr ho) (fun u o' hne hu => hu.port_other hc hne) (fun u hu => hu.port_self hc hmode hown)
    (fun u o' hne hu => hu.port_other hc hne) (s.shaperAt_due o c)

/-! ### A copy that starts on an unpaired port (R178, R189, R190) -/

theorem State.pairedPort_of_alone {s : State} (h : s.pairEn = false) (p : Nat) : s.pairedPort p = false := by
  rw [State.pairedPort, h, Bool.false_and, Bool.false_and]

theorem State.shadowPort_of_alone {s : State} (h : s.pairEn = false) (p : Nat) : s.shadowPort p = false := by
  rw [State.shadowPort, State.pairedPort_of_alone h, Bool.false_and]

theorem State.shadowDrop_of_none {s : State} {p : Nat} (h : (s.mac p).suspended = none) : s.shadowDrop p = s := by
  unfold State.shadowDrop
  rw [h]
  exact if_neg (by simp)

theorem State.fenceSelect_of_none {s : State} (h : s.twp.fence = none) (p : Nat) : s.fenceSelect p = s := by
  unfold State.fenceSelect State.fenceAt
  rw [h]

theorem State.endsByT_of_none {s : State} (h : s.twp.swap = none) (c : Copy) (f : Frame) : s.endsByT c f = true := by
  unfold State.endsByT
  rw [h]

/-- A port that may not start anything starts nothing. -/
theorem State.txStart_of_not_mayStart {s : State} {p : Nat} (desc : BitVec 128) (h : s.mayStart p = false) : s.txStart p desc = s :=
  if_pos (.inl (by rw [h]; rfl))

/-- The transmission of a copy in clear, from its first byte on, as it begins now. -/
def State.clearTx (s : State) (c : Copy) (f : Frame) : Tx :=
  { cid := some c.cid, start := s.nowPs, first := s.nowPs, data := f.data, bytes := f.len, express := !s.preemptable c,
    close := s.fitClose c.out c.tc s.nowPs }

/-- The state in which the copy is being sent. -/
def State.txBegun (s : State) (c : Copy) (f : Frame) : State :=
  (s.setMac c.out { s.mac c.out with tx := some (s.clearTx c f) }).putCopy { c with st := .sending }

theorem State.copies_txBegun {s : State} {c : Copy} (h : s.copies = [c]) (f : Frame) : (s.txBegun c f).copies = [{ c with st := .sending }] := by
  have hmac : (s.setMac c.out { s.mac c.out with tx := some (s.clearTx c f) }).copies = [c] := h
  rw [State.txBegun, State.putCopy, hmac, List.map_singleton, if_pos rfl]

theorem State.tx_txBegun {s : State} (h : s.wf = true) (c : Copy) (f : Frame) : ((s.txBegun c f).mac c.out).tx = some (s.clearTx c f) :=
  congrArg Mac.tx (State.mac_setMac_self h ..)

theorem State.txBegin_of_clear {s : State} {c : Copy} {f : Frame} (desc : BitVec 128) (hpair : s.pairEn = false) (hst : c.st = .committed)
    (hptp : f.parse.ptpOff = none) (hclear : s.secured c.out = false) (hport : c.out ≠ 14) : s.txBegin c f desc = s.txBegun c f := by
  have hengine : s.engine c f f.data s.nowPs = (f.data, none, s) := by
    unfold State.engine
    rw [hptp]
  have hsec : s.secOut c.out f.data f.len = (.clear, s) := by
    unfold State.secOut
    exact if_pos (by rw [hclear]; rfl)
  unfold State.txBegin
  simp only [State.shadowPort_of_alone hpair, hst, hengine, hsec, if_neg hport, Bool.false_eq_true, if_false]
  rfl

/-- The only candidate of a port starts when it fits. -/
theorem State.select_of_single {s : State} {p : Nat} {c : Copy} {f : Frame} (desc : BitVec 128) (n : Nat) (hswap : s.twp.swap = none)
    (hcand : s.candidates p = [c]) (hframe : s.frame? c.fid = some f) (hfits : s.fitsNow c f = true) (hport : p ≠ 14) :
    s.select p desc (n + 1) = s.txBegin c f desc := by
  have hfirst : s.firstOf ((s.candidates p).filter fun c => (s.frame? c.fid).any (s.endsByT c)) = some c := by
    rw [hcand, List.filter_cons_of_pos (by rw [hframe]; exact State.endsByT_of_none hswap c f)]
    rfl
  unfold State.select
  simp only [hfirst, hframe, hfits, Bool.not_true, Bool.false_eq_true, if_false, hport, false_and]

/-- A start on a port that is not P15 leaves the gateway engine out. -/
theorem State.gwTake_of_external {s : State} {p : Nat} (hp : p ≠ 15) : s.gwTake p = s := by
  unfold State.gwTake
  split
  · split
    · split
      · exact if_neg fun h => hp h.1
      · rfl
    · rfl
  · rfl

theorem State.txStart_of_single {s : State} {p : Nat} {c : Copy} {f : Frame} (desc : BitVec 128) (hp : p < 14) (hmay : s.mayStart p = true)
    (hpair : s.pairEn = false) (hfence : s.twp.fence = none) (hswap : s.twp.swap = none) (hpfc : s.pfcWaits p = false)
    (hcand : s.candidates p = [c]) (hframe : s.frame? c.fid = some f) (hsusp : (s.mac p).suspended = none) (hfits : s.fitsNow c f = true) :
    s.txStart p desc = s.txBegin c f desc := by
  have hend : s.awaitsEnd p = false := by rw [State.awaitsEnd, State.pairedPort_of_alone hpair, Bool.false_and]
  have hgo : ¬ ((!s.mayStart p) = true ∨ s.awaitsEnd p = true ∨ p = 15 ∧ s.gwe.hand ≠ none ∨ s.pfcWaits p = true ∧ (!s.pfcHeld p) = true) := by
    rw [hmay, hend, hpfc]
    simp only [Bool.not_true, Bool.false_eq_true, false_and, or_false, false_or, not_and]
    omega
  refine (if_neg hgo).trans ?_
  simp only [State.shadowDrop_of_none hsusp, State.fenceSelect_of_none hfence]
  rw [State.gwTake_of_external (by omega), State.select_of_single desc _ hswap hcand hframe hfits (by omega)]

/-! ### The statement -/

/-- Settles O26: each clause is the lemma about its operation, read in the state that the operation leaves. -/
theorem gatesAndShapers : Obligations.GatesAndShapers := by
  unfold Obligations.GatesAndShapers
  refine ⟨?starts, ?silent, ?entry, ?lost, ?hold, ?armed, ?refused, ?cancelled, ?fired, ?tokens, ?done, ?credit⟩
  case starts =>
    intro p d c f s hwf hmay hpair hfence hswap hpfc hcand hcopies hframe hout hst hptp hclear hsusp hfits
    have hp := p.isLt
    have hstart : s.txStart p d = s.txBegun c f :=
      (State.txStart_of_single d hp hmay hpair hfence hswap hpfc hcand hframe hsusp hfits).trans
        (State.txBegin_of_clear d hpair hst hptp (hout ▸ hclear) (by omega))
    refine ⟨_, congrArg Host.Outcome.next hstart, State.copies_txBegun hcopies f, rfl, ?_⟩
    rw [← hout]
    exact State.tx_txBegun hwf c f
  case silent => exact fun p d s h => congrArg Host.Outcome.next (State.txStart_of_not_mayStart d h)
  case entry =>
    intro p s hwf hflow hpmt _ hentry hgates
    have hread_wf : (s.entryRead p false).wf = true := hwf
    have hread : (s.entryRead p false).lkp.eccShut.getLsbD p = false := getLsbD_and_not_portBit ..
    have hopen : (s.entryRead p false).openGates p = (s.govern 1 p s.nowPs).gates := by
      rw [State.openGates, hread]; rfl
    refine ⟨_, congrArg Host.Outcome.next (State.gateEntryStart_of_read hflow hpmt), ?_, ?_, ?_, (State.gatesMet_keep ..).same .cnts rfl⟩
    · exact State.get_gatesMet_entry hread_wf _ hentry
    · rw [State.get_gatesMet_gates hread_wf _ (by rw [hopen]; exact hgates), hopen]
    · rw [(State.gatesMet_keep ..).same .lkp rfl, hread]
  case lost =>
    intro p s hwf hflow _ hen
    have hlost := State.entryLost_keep (s.entryRead p true) p
    have hlost_wf := hlost.wf (s := s.entryRead p true) hwf
    have hlkp : ((s.entryRead p true).entryLost p).lkp = (s.entryRead p true).lkp := hlost.same .lkp rfl
    have hshut : ((s.entryRead p true).entryLost p).lkp.eccShut.getLsbD p = true := by
      rw [hlkp]
      exact (getLsbD_or_portBit s.lkp.eccShut p.isLt p).trans (by simp)
    have hopen : ((s.entryRead p true).entryLost p).openGates p = 0 := if_pos hshut
    refine ⟨_, congrArg Host.Outcome.next (State.gateEntryStart_of_lost hflow hen), ?_, ?_, ?_, ?_⟩
    · rw [State.get_gatesMet_gates hlost_wf _ (by rw [hopen]; decide), hopen]
    · rw [(State.gatesMet_keep ..).same .lkp rfl, hshut]
    · rw [State.bit, State.get, State.rd_gatesMet hlost_wf p _
        (by unfold LKP.LKP_EVENT_ECC_UNCORR LKP.SEL_STATUS_SET_ASIDE; dsimp only; omega)
        (by unfold LKP.LKP_EVENT_ECC_UNCORR LKP.GATE_STATUS_HOLD; dsimp only; omega)]
      exact State.bit_entryLost (s := s.entryRead p true) hwf p
    · rw [(State.gatesMet_keep ..).same .lkp rfl, hlkp, State.entryRead]
  case hold =>
    intro p s hwf hflow hpmt hop hread hfree
    refine ⟨_, congrArg Host.Outcome.next (State.holdAssert_of_standing hflow hpmt hop hread hfree), ?_, State.bit_holdAsserted hwf p,
      State.cnt_holdAsserted hwf p, fun q hq => ?_⟩
    · rw [State.hold_holdAsserted s p.isLt, decide_eq_true rfl, Bool.or_true]
    · rw [State.hold_holdAsserted s p.isLt, decide_eq_false hq, Bool.or_false]
  case armed =>
    intro ini m s hwf hmay haccept
    have hrun := State.writeAt_of_mayWrite (f := fun s => s.changeArm m.toNat false) hmay
    rw [State.changeArm_of_accepted haccept] at hrun
    refine ⟨_, congrArg Host.Outcome.next hrun, ?_, ?_, ?_, ?_⟩
    · rw [State.emit_lkp, State.lkp_changeSet]
    · rw [State.bit_emit, State.bit_changeSet_armed hwf, Option.isSome_some]
    · rw [State.get_emit, State.get_changeSet_some hwf m.isLt]
    · rw [State.emit_tabs, (State.changeSet_keep ..).same .tabs rfl]
  case refused =>
    intro ini m k cause port s hwf hmay hrefuse
    obtain ⟨hcause, hport⟩ := State.armRefusal_lt hrefuse
    have hrun := State.writeAt_of_mayWrite (f := fun s => s.changeArm m.toNat k) hmay
    rw [State.changeArm_of_refused k hrefuse] at hrun
    have hset_wf : (s.set LKP.CHANGE_STATUS_REFUSE_CAUSE cause).wf = true := State.set_wf hwf ..
    have hboth_wf := State.set_wf hset_wf LKP.CHANGE_STATUS_REFUSE_PORT port
    have hevent : (if cause = 5 then LKP.LKP_EVENT_CHANGE_LATE else LKP.LKP_EVENT_CHANGE_REFUSED).addr = 0x800014 := by split <;> rfl
    refine ⟨_, congrArg Host.Outcome.next hrun, ?_, ?_, ?_, ?_⟩
    · rw [State.emit_lkp, State.raise_lkp, State.set_lkp, State.set_lkp]
    · rw [State.get_emit, State.get_raise_ne hboth_wf (by rw [hevent]; decide),
        State.get_set_apart hset_wf (by decide) (by decide) (.inr (by decide)), State.get_set hwf (by decide) (by decide) hcause]
    · rw [State.get_emit, State.get_raise_ne hboth_wf (by rw [hevent]; decide), State.get_set hset_wf (by decide) (by decide) hport]
    · rw [State.bit_emit]
      exact State.bit_raise_self hboth_wf (by split <;> rfl) (by split <;> decide)
  case cancelled =>
    intro ini c s hwf hmay harmed hlink
    have hrun := State.writeAt_of_mayWrite (f := fun s => s.gateCancel) hmay
    rw [State.gateCancel_of_alone harmed hlink] at hrun
    have hset := State.changeSet_wf hwf none
    refine ⟨_, congrArg Host.Outcome.next hrun, ?_, ?_, ?_, ?_⟩
    · rw [State.emit_lkp, State.raise_lkp, State.lkp_changeSet]
    · rw [State.bit_emit, State.bit_raise_ne hset (by decide), State.bit_changeSet_armed hwf]; rfl
    · rw [State.get_emit, State.get_raise_ne hset (by decide), State.get_changeSet_none hwf]
    · rw [State.bit_emit]
      exact State.bit_raise_self hset rfl (by decide)
  case fired =>
    intro p c s hwf harmed hlink hmask hdue _
    have htaken := State.listTaken_wf hwf p
    refine ⟨_, congrArg Host.Outcome.next (State.gateChangeFire_of_due harmed hlink hmask hdue), ?_, ?_, ?_, fun o ho => ?_,
      fun e w he hw => ?_, fun k w hk hother hw => ?_⟩
    · rw [State.raise_lkp, State.change_listTaken]
    · exact State.bit_raise_self htaken rfl (by decide)
    · rw [State.bit_raise_ne htaken (by decide), State.bit, State.get, State.rd_listTaken hwf p (by decide)]
      exact State.bit_changeSet_armed hwf none
    · have haddr : LKP.OPER_CFG p + 4 * o ≠ LKP.LKP_EVENT_CHANGED.addr := by
        unfold LKP.OPER_CFG LKP.LKP_EVENT_CHANGED; dsimp only; omega
      rw [State.rd_raise htaken, if_neg haddr, State.rd_listTaken_oper hwf p ho]
    · have hp := p.isLt
      rw [State.tw_raise, State.tw_listTaken hwf p (by omega) hw, if_pos (by omega)]
    · rw [State.tw_raise, State.tw_listTaken hwf p hk hw, if_neg hother]
  case tokens =>
    intro o c s hrun hdue ho hc hmode hsame
    have hmet := State.shaperRefillAll_meets hrun hdue ho hc (by rw [hmode]; decide) fun u hu => hu.refill_tokens hmode hsame
    exact ⟨_, rfl, hmet.regs, congrArg Shaper.level hmet.shaper⟩
  case done => exact fun s h => congrArg Host.Outcome.next (State.shaperRefillAll_of_done h)
  case credit =>
    intro o c s hrun hdue ho hc hmode hsame hshut
    have hmet := State.shaperRefillAll_meets hrun hdue ho hc (by rw [hmode]; decide) fun u hu => hu.refill_shut hmode hsame hshut
    exact ⟨_, rfl, hmet.regs, congrArg Shaper.level hmet.shaper⟩

end Sys2Proof.Machine

/-! PROOFS. The gateway engine of chapter 10 (R207, R210, R218, R222, R226): an engine that has nothing to go on with, what its message
source, its packers and its waiting requests come to, its tables, and the statement about it. -/
namespace Sys2Proof.Machine

/-! ### An engine with nothing to go on with (R225, R226) -/

/-- Steps that each leave a state alone leave it alone in a row. -/
theorem State.each_of_fixed {α : Type} {s : State} {l : List α} {f : State → α → State} (h : ∀ x ∈ l, f s x = s) : s.each l f = s :=
  List.foldlRecOn l f (motive := (· = s)) rfl fun u hu x hx => by rw [hu, h x hx]

/-- No head of a receive FIFO awaits a check, and no copy is in hand. -/
structure State.GwIdle (s : State) : Prop where
  heads : ∀ q, q < 16 → ∀ r, (s.can q).rx.head? = some r → r.check ≠ 0
  hand : s.gwe.hand = none

theorem State.gwIdle_of_empty {s : State} (hrx : ∀ q : Fin 16, (s.can q).rx = []) (hhand : s.gwe.hand = none) : s.GwIdle :=
  ⟨fun q hq r hr => (by rw [hrx ⟨q, hq⟩] at hr; cases hr), hhand⟩

theorem State.GwIdle.unchecked {s : State} (h : s.GwIdle) : s.unchecked = [] := by
  unfold State.unchecked
  refine List.filterMap_eq_nil_iff.mpr fun q hq => ?_
  split
  case h_1 r hr => exact if_neg (h.heads q (List.mem_range.mp hq) r hr)
  case h_2 => rfl

theorem State.GwIdle.checks {s : State} (h : s.GwIdle) (n : Nat) : s.checks n = s := by
  have hnone : s.nextCheck = none := by rw [State.nextCheck, h.unchecked]; rfl
  cases n with
  | zero => rfl
  | succ n => rw [State.checks, hnone]

theorem State.GwIdle.freeHeads {s : State} (h : s.GwIdle) : s.freeHeads = s := by
  refine State.each_of_fixed fun q hq => ?_
  split
  case h_1 r hr => exact if_neg fun hfree => h.heads q (List.mem_range.mp hq) r hr hfree.1
  case h_2 => rfl

theorem State.GwIdle.gwService {s : State} (h : s.GwIdle) : s.gwService = s := by
  rw [State.gwService, h.checks, h.freeHeads]

theorem State.GwIdle.gwResume {s : State} (h : s.GwIdle) : s.gwResume = s := by
  rw [State.gwResume, h.hand]; exact ite_self s

/-- Such an engine stays as it is. -/
theorem State.GwIdle.gwGo {s : State} (h : s.GwIdle) : s.gwGo = s := by
  rw [State.gwGo, h.gwService, h.gwResume, h.gwService, ite_self]

/-! ### The message source (R207) -/

/-- A search of the numbers below n that finds c alone. -/
theorem filterMap_range_of_single {α : Type} {g : Nat → Option α} {c n : Nat} {b : α} (hc : c < n) (hb : g c = some b)
    (hothers : ∀ q, q < n → q ≠ c → g q = none) : (List.range n).filterMap g = [b] := by
  induction n with
  | zero => omega
  | succ n ih =>
    rw [List.range_succ, List.filterMap_append]
    by_cases hlast : n = c
    · have hbelow : (List.range n).filterMap g = [] := List.filterMap_eq_nil_iff.mpr fun q hq => by
        have hq' := List.mem_range.mp hq
        exact hothers q (by omega) (by omega)
      rw [hbelow, hlast, List.filterMap_cons_some hb]; rfl
    · rw [ih (by omega) fun q hq => hothers q (by omega), List.filterMap_cons_none (hothers n (by omega) hlast)]; rfl

theorem State.nextMessage_of_single {s : State} {c : Fin 16} {r : CanRx} (hrx : (s.can c).rx = [r]) (hcheck : r.check = 2)
    (hothers : ∀ q : Fin 16, q ≠ c → (s.can q).rx = []) : s.nextMessage = some (c : Nat) := by
  unfold State.nextMessage
  rw [filterMap_range_of_single (c := c) (b := (r.sof, (c : Nat))) c.isLt (by rw [hrx]; exact if_pos hcheck)
    fun q hq hne => by rw [hothers ⟨q, hq⟩ fun e => hne (congrArg Fin.val e)]; rfl]
  rfl

/-- With one checked message in the receive FIFOs the source offers its frame. -/
theorem State.internalBuild_of_single {s : State} {c : Fin 16} {r : CanRx} (hflow : s.flowing = true) (hframes : s.frames = [])
    (hhand : s.gwe.hand = none) (hrx : (s.can c).rx = [r]) (hcheck : r.check = 2) (hothers : ∀ q : Fin 16, q ≠ c → (s.can q).rx = []) :
    s.internalBuild = (s.internalFrame c r).2.offerP15 0 (s.internalFrame c r).1 (some (c, 1)) (some r.sof) := by
  have hidle : s.GwIdle := by
    refine ⟨fun q hq x hx => ?_, hhand⟩
    by_cases hqc : (⟨q, hq⟩ : Fin 16) = c
    · subst hqc
      rw [hrx] at hx
      cases hx
      omega
    · rw [hothers ⟨q, hq⟩ hqc] at hx; cases hx
  unfold State.internalBuild
  dsimp only
  rw [hidle.gwGo, hflow, hframes, if_neg (by decide), State.nextMessage_of_single hrx hcheck hothers]
  simp only [hrx, List.head?_cons]

/-! ### Packers (R222) -/

theorem State.pack_setPack_self (s : State) (p : Nat) (x : Pack) : (s.setPack p x).pack p = x := by
  simp only [State.pack, State.setPack, assocD, assocSet, List.find?_cons, BEq.rfl]

/-- The frame that leaves a packer, of whatever bytes. -/
theorem State.packSend_eq (s : State) (p : Nat) :
    ∃ d, s.packSend p = ((s.setPack p { s.pack p with msgs := [], seq := ((s.pack p).seq + 1) % 256 }).offerP15 1 d).bump GWE.PACK_FRAME_CNT :=
  by unfold State.packSend; dsimp only; exact ⟨_, rfl⟩

/-! ### Requests that wait (R226) -/

theorem State.setLaCtr_la (s : State) (c v : Nat) : (s.setLaCtr c v).la = s.la := by rw [State.setLaCtr, State.wr_la, State.wr_la]

/-- A request that passes its checks stands last in the engine's list. -/
theorem State.reqs_laAccept (s : State) (r : LaReq) : ∃ x, (s.laAccept r).la.reqs = s.la.reqs ++ [x] ∧ x.job = r.job := by
  unfold State.laAccept
  dsimp only
  generalize hctr : (if r.ctrEn then (some (s.laCtr r.ctrNo), s.setLaCtr r.ctrNo (s.laCtr r.ctrNo + 1)) else (none, s)) = u
  have hla : u.2.la = s.la := by
    rw [← hctr]
    split
    · exact State.setLaCtr_la ..
    · rfl
  rw [← hla]
  split <;> exact ⟨_, rfl, rfl⟩

theorem State.gwSubmit_of_accepted {s : State} {j : GwJob} (h : s.laCheck (s.gwRequest j) = 0) :
    s.gwSubmit j = (1, s.laAccept (s.gwRequest j)) := by
  unfold State.gwSubmit
  simp only [h]

/-- The engine without requests that wait. -/
def State.waitless (s : State) : State := { s with gwe := { s.gwe with waitQ := [] } }

theorem State.laCheck_waitless (s : State) (r : LaReq) : s.waitless.laCheck r = s.laCheck r := by
  unfold State.laCheck State.keyGrants State.laForeign; rfl

theorem State.gwRequest_waitless (s : State) (j : GwJob) : s.waitless.gwRequest j = s.gwRequest j := by
  unfold State.gwRequest; rfl

/-- The one request that waits is accepted when it is made again and passes its checks. -/
theorem State.secResubmit_of_accepted {s : State} {j : GwJob} (hclock : s.pllLost 0 = false) (hwait : s.gwe.waitQ = [j])
    (hroom : s.laCount 0 < 128) (hcheck : s.laCheck (s.gwRequest j) = 0) :
    s.secResubmit = (s.waitless.laAccept (s.gwRequest j)).gwGo := by
  have hopen : ¬ (s.pllLost 0 = true ∨ laShare 0 ≤ s.laCount 0) := by
    rw [hclock]; exact not_or.2 ⟨by decide, Nat.not_le.2 hroom⟩
  have hmade : s.waitless.gwSubmit j = (1, s.waitless.laAccept (s.gwRequest j)) := by
    have hpassed : s.waitless.laCheck (s.waitless.gwRequest j) = 0 := by rw [State.gwRequest_waitless, State.laCheck_waitless, hcheck]
    rw [State.gwSubmit_of_accepted hpassed, State.gwRequest_waitless]
  unfold State.secResubmit
  rw [hwait]
  simp only [hopen, if_false]
  exact congrArg (fun x : Nat × State => State.gwGo (if x.1 = 1 then x.2 else _)) hmade

/-! ### Tables (R218, R396, R397) -/

theorem gweData_addr (w : Nat) : GWE.TBL_DATA 0 + 4 * w = GWE.TBL_DATA w := by
  unfold GWE.TBL_DATA; omega

theorem gweData_ne_status (w : Nat) : GWE.TBL_DATA w ≠ GWE.TBL_STATUS_RESULT.addr := by
  unfold GWE.TBL_DATA GWE.TBL_STATUS_RESULT; dsimp only; omega

theorem gweSize_words_le (tbl : Nat) : (gweSize tbl).1 ≤ 10 := by
  unfold gweSize; split <;> decide

/-- The data window after an entry was read into it. -/
def State.gweShown (s : State) (tbl idx : Nat) : State := s.fillWindow (GWE.TBL_DATA 0) 10 (s.entry 10 tbl 0 idx (gweSize tbl).1)

theorem State.gweShown_keep (s : State) (tbl idx : Nat) : Keep 0x1 s (s.gweShown tbl idx) := State.fillWindow_keep ..

theorem State.rd_gweShown {s : State} (h : s.wf = true) (tbl idx : Nat) {w : Nat} (hw : w < (gweSize tbl).1) :
    (s.gweShown tbl idx).rd (GWE.TBL_DATA w) = s.tw 10 tbl 0 idx w := by
  have hten := gweSize_words_le tbl
  rw [← gweData_addr, State.gweShown, State.rd_fillWindow 10 h, if_pos (by omega), Nat.add_sub_cancel_left,
    Nat.mul_div_cancel_left w (by decide)]
  exact State.entry_getD _ _ _ _ _ _ _ hw

/-- The route entry after the words of the data window were stored in it. -/
def State.routeStored (s : State) (idx : Nat) : State := s.setEntry 10 0 0 idx 0 (s.window (GWE.TBL_DATA 0) 4)

theorem State.routeStored_keep (s : State) (idx : Nat) : Keep 0x8 s (s.routeStored idx) := State.setEntry_keep ..

/-- Every table word afterwards: the four of the entry from the window, the others as they were. -/
theorem State.tab_routeStored {s : State} (h : s.wf = true) (idx k : Nat) :
    (s.routeStored idx).tab k = if tkey 10 0 0 idx 0 ≤ k ∧ k < tkey 10 0 0 idx 0 + 4
      then (s.window (GWE.TBL_DATA 0) 4).getD (k - tkey 10 0 0 idx 0) 0 else s.tab k := by
  rw [State.routeStored, State.tab_setEntry _ h, State.window_length]

theorem State.routeW_routeStored {s : State} (h : s.wf = true) (idx : Nat) {w : Nat} (hw : w < 4) :
    (s.routeStored idx).routeW idx w = s.rd (GWE.TBL_DATA w) := by
  rw [State.routeW, State.tw, State.tab_routeStored h, tkey_add _ _ _ _ w, if_pos (by omega), Nat.add_sub_cancel_left,
    State.window_getD s _ hw, gweData_addr]

theorem State.get_gweResult {s : State} (h : s.wf = true) {res : Nat} (hres : res < 16) :
    (s.gweResult res).get GWE.TBL_STATUS_RESULT = res :=
  State.get_set (State.setBit_wf h ..) (by decide) (by decide) hres

theorem State.rd_gweResult_ne {s : State} (h : s.wf = true) (res : Nat) {a : Nat} (ha : a ≠ GWE.TBL_STATUS_RESULT.addr) :
    (s.gweResult res).rd a = s.rd a :=
  (State.rd_set_ne (State.setBit_wf h ..) ha).trans (State.rd_set_ne (f := GWE.TBL_STATUS_BUSY) h ha)

theorem State.gweResult_tabs (s : State) (res : Nat) : (s.gweResult res).tabs = s.tabs := (State.gweResult_keep s res).same .tabs rfl

theorem State.gweResult_gwe (s : State) (res : Nat) : (s.gweResult res).gwe = s.gwe := (State.gweResult_keep s res).same .gwe rfl

/-- A command of the owner of the window runs and is answered; the engine's window is never busy. -/
theorem State.gweTable_of_owner {s : State} {ini : Initiator} (hmay : s.mayWrite ini GWE.TBL_CMD = true) (hown : s.ownsTable 4 ini = true)
    (cmd : Word) (ecc : EccState) : s.gweTable ini cmd ecc = (s.gweRun cmd ecc).emit (.bus ini .done) :=
  State.tableWrite_of_owner hmay hown

/-- A READ of an entry that its table has, without an uncorrectable error, shows the entry. -/
theorem State.gweRun_read (s : State) {cmd : Word} {ecc : EccState} (htbl : bitsOf cmd 31 28 ≤ 3)
    (hidx : bitsOf cmd 9 0 < (gweSize (bitsOf cmd 31 28)).2) (hecc : ecc ≠ .uncorrectable) :
    s.gweRun (withOp cmd 1) ecc = (s.gweShown (bitsOf cmd 31 28) (bitsOf cmd 9 0)).gweResult 0 := by
  rw [State.gweRun, op_withOp (by decide), bitsOf_withOp (.inr (by decide)), bitsOf_withOp (.inl (by decide)),
    if_neg (by omega), if_neg (by omega), if_neg (by decide), if_neg hecc]
  rfl

/-- A WRITE of a route entry with defined bits alone and a defined ACTION stores the window. -/
theorem State.gweRun_writeRoute {s : State} {cmd : Word} (ecc : EccState) (htbl : bitsOf cmd 31 28 = 0)
    (hlegal : ∀ w : Fin 4, legalWord (s.rd (GWE.TBL_DATA w)) (gweMask 0 w false) = true)
    (haction : bitsOf (s.rd (GWE.TBL_DATA 0)) 30 29 < 2) :
    s.gweRun (withOp cmd 2) ecc = (s.routeStored (bitsOf cmd 9 0)).gweResult 0 := by
  have hidx : ¬ (gweSize 0).2 ≤ bitsOf cmd 9 0 := Nat.not_le.2 (Nat.mod_lt _ (by decide))
  have hword : ∀ w, w < 4 → (s.window (GWE.TBL_DATA 0) 4).getD w 0 = s.rd (GWE.TBL_DATA w) := fun w hw => by
    rw [State.window_getD s _ hw, gweData_addr]
  have hdefined : ((List.range 4).any fun w => !legalWord ((s.window (GWE.TBL_DATA 0) 4).getD w 0) (gweMask 0 w false)) = false := by
    refine List.any_eq_false.2 fun w hw => ?_
    have hlt := List.mem_range.mp hw
    rw [hword w hlt, hlegal ⟨w, hlt⟩]; decide
  have hgood : gweBad 0 (s.window (GWE.TBL_DATA 0) 4) = false := by
    unfold gweBad
    simp only [hword 0 (by decide)]
    exact decide_eq_false (Nat.not_le.2 haction)
  rw [State.gweRun, op_withOp (by decide), bitsOf_withOp (.inr (by decide)), bitsOf_withOp (.inl (by decide)), htbl,
    if_neg (by decide), if_neg hidx, if_pos rfl]
  refine if_neg ?_
  rw [Bool.or_eq_true, not_or, Bool.not_eq_true, Bool.not_eq_true]
  exact ⟨hdefined, hgood⟩

/-! ### The statement -/

/-- Settles O30: the clauses about the message source, the packers and the waiting request follow from what each comes to, an idle engine
adding nothing; READ and WRITE from `gweRun_read` and `gweRun_writeRoute`. -/
theorem gatewayEngine : Obligations.GatewayEngine := by
  unfold Obligations.GatewayEngine
  refine ⟨?source, ?packer, ?noneWaits, ?again, ?read, ?write, ?event⟩
  case source =>
    intro c r s hwf hflow hframes hhand hrx hcheck hothers
    have hkeep := State.internalFrame_keep s c r
    refine ⟨_, congrArg Host.Outcome.next (State.internalBuild_of_single hflow hframes hhand hrx hcheck hothers), ?_, ?_, ?_, ?_, ?_⟩
    · rw [State.offerP15, State.can_addFrame]
      exact State.can_setCan_self hwf ..
    · rw [State.offerP15, State.addFrame_frames, hkeep.same .frames rfl, hframes]; rfl
    · rw [State.offerP15, State.addFrame_frames, hkeep.same .frames rfl, hframes]; rfl
    · rw [State.offerP15, State.addFrame_frames, hkeep.same .frames rfl, hframes]; rfl
    · rw [State.offerP15, State.addFrame_regs, hkeep.same .regs rfl]
  case packer =>
    intro p s hwf hflow hvalid hsome hdue
    obtain ⟨d, hsend⟩ := s.packSend_eq p
    have hrun : s.packRelease p = s.packSend p := if_pos ⟨hflow, hvalid, hsome, hdue⟩
    refine ⟨_, congrArg Host.Outcome.next (hrun.trans hsend), ?_, ?_, ?_, ?_⟩
    · exact State.pack_setPack_self ..
    · rw [State.bump_frames, State.offerP15, State.addFrame_frames, List.length_append, List.length_singleton]; rfl
    · exact State.cnt_bump_self ((State.offerP15_keep ..).wf ((State.setPack_keep ..).wf hwf)) _
    · rw [State.bump_regs, State.offerP15, State.addFrame_regs]; rfl
  case noneWaits =>
    intro s hwait
    refine congrArg Host.Outcome.next ?_
    rw [State.secResubmit, hwait]
  case again =>
    intro c e v s hwf hclock hwait hroom hcheck hhand hrx
    have hkeep := State.laAccept_keep s.waitless (s.gwRequest (.inbound c e v))
    have hcans : (s.waitless.laAccept (s.gwRequest (.inbound c e v))).cans = s.cans := hkeep.same .cans rfl
    have hgwe : (s.waitless.laAccept (s.gwRequest (.inbound c e v))).gwe = s.waitless.gwe := hkeep.same .gwe rfl
    have hidle : (s.waitless.laAccept (s.gwRequest (.inbound c e v))).GwIdle :=
      State.gwIdle_of_empty (fun q => by unfold State.can; rw [hcans]; exact hrx q) (by rw [hgwe]; exact hhand)
    have hrun := State.secResubmit_of_accepted hclock hwait hroom hcheck
    rw [hidle.gwGo] at hrun
    obtain ⟨x, hreqs, hjob⟩ := s.waitless.reqs_laAccept (s.gwRequest (.inbound c e v))
    refine ⟨_, congrArg Host.Outcome.next hrun, by rw [hgwe]; rfl, ?_, ?_, hcans⟩
    · rw [hreqs, List.length_append]; rfl
    · rw [hreqs, List.getLast?_concat]; exact hjob
  case read =>
    intro ini cmd ecc s hwf hmay hown htbl hidx hecc
    have hrun := State.gweTable_of_owner hmay hown (withOp cmd 1) ecc
    rw [State.gweRun_read s htbl hidx hecc] at hrun
    have hkeep := State.gweShown_keep s (bitsOf cmd 31 28) (bitsOf cmd 9 0)
    have hshown := hkeep.wf hwf
    refine ⟨_, congrArg Host.Outcome.next hrun, ?_, ?_, fun w hw => ?_⟩
    · rw [State.get_emit, State.get_gweResult hshown (by decide)]
    · rw [State.emit_tabs, State.gweResult_tabs, hkeep.same .tabs rfl]
    · rw [State.rd_emit, State.rd_gweResult_ne hshown _ (gweData_ne_status w), State.rd_gweShown hwf _ _ hw]
  case write =>
    intro ini cmd s hwf hmay hown htbl hlegal haction
    have hrun := State.gweTable_of_owner hmay hown (withOp cmd 2) .ok
    rw [State.gweRun_writeRoute _ htbl hlegal haction] at hrun
    have hkeep := State.routeStored_keep s (bitsOf cmd 9 0)
    have htabs : (((s.routeStored (bitsOf cmd 9 0)).gweResult 0).emit (.bus ini .done)).tabs = (s.routeStored (bitsOf cmd 9 0)).tabs := by
      rw [State.emit_tabs, State.gweResult_tabs]
    refine ⟨_, congrArg Host.Outcome.next hrun, ?_, ?_, fun w => ?_, fun k hk => ?_⟩
    · rw [State.get_emit, State.get_gweResult (hkeep.wf hwf) (by decide)]
    · rw [State.emit_gwe, State.gweResult_gwe, hkeep.same .gwe rfl]
    · exact (State.tab_congr_tabs htabs _).trans (State.routeW_routeStored hwf _ w.isLt)
    · rw [State.tab_congr_tabs htabs, State.tab_routeStored hwf, if_neg hk]
  case event =>
    intro ini s hmay
    exact ⟨_, congrArg Host.Outcome.next (State.readAt_of_mayRead hmay), rfl, rfl, rfl⟩

end Sys2Proof.Machine

/-! PROOFS. The transmit side of a CAN channel (R208, R211, R212): what a SOF, a lost arbitration, a message that was sent, CANCEL and FLUSH
come to in the state that they meet, and the statement about them. -/
namespace Sys2Proof.Machine

/-! ### A channel's record among the channels -/

/-- A change of a channel that leaves its receive FIFO alone leaves every receive FIFO alone. -/
theorem State.rx_setCan {s : State} (h : s.wf = true) {c : Nat} {x : CanCh} (hx : x.rx = (s.can c).rx) (q : Nat) :
    ((s.setCan c x).can q).rx = (s.can q).rx := by
  rw [State.can_setCan h]
  split
  case isTrue e => rw [e, hx]
  case isFalse => rfl

/-! ### The SOF (R208) -/

/-- The lowest-numbered FIFO that is not empty. -/
theorem CanCh.firstFifo_eq {k : CanCh} {f : Fin 4} {m : CanMsg} (hhead : (k.fifo f).head? = some m)
    (hbelow : ∀ g : Fin 4, g < f → k.fifo g = []) : [0, 1, 2, 3].find? (fun g => k.fifo g != []) = some (f : Nat) := by
  have hsome : k.fifo f ≠ [] := fun e => by rw [e] at hhead; cases hhead
  have hf := f.isLt
  refine List.find?_range_eq_some (n := 4).2 ⟨bne_iff_ne.2 hsome, List.mem_range.2 hf, fun g hg => ?_⟩
  rw [hbelow ⟨g, by omega⟩ hg]; rfl

/-- BUS_IDLE plays no part in the form in which a message is sent. -/
theorem State.asSent_setBusIdle {s : State} (h : s.wf = true) (c : Nat) (b : Bool) (m : CanMsg) :
    (s.setBit (CAN.CH_STATUS_BUS_IDLE c) b).asSent c m = s.asSent c m := by
  have hstate : (s.setBit (CAN.CH_STATUS_BUS_IDLE c) b).get (CAN.CH_STATUS_STATE c) = s.get (CAN.CH_STATUS_STATE c) :=
    State.get_setBit_apart h (Nat.le_refl _) (Nat.le_of_ble_eq_true rfl) (.inl (Nat.le_of_ble_eq_true rfl))
  have hother : ∀ f : Fld, f.addr < (CAN.CH_STATUS_BUS_IDLE c).addr → (s.setBit (CAN.CH_STATUS_BUS_IDLE c) b).get f = s.get f :=
    fun f hf => State.get_set_ne h (Nat.ne_of_lt hf)
  have hnbt : 0x901004 + 0x100 * c < 0x901010 + 0x100 * c := by omega
  have hdbt : 0x901008 + 0x100 * c < 0x901010 + 0x100 * c := by omega
  unfold State.asSent State.datBit State.nomBit
  rw [hstate, hother (CAN.NBT_NBRP c) hnbt, hother (CAN.NBT_NTSEG1 c) hnbt, hother (CAN.NBT_NTSEG2 c) hnbt,
    hother (CAN.DBT_DBRP c) hdbt, hother (CAN.DBT_DTSEG1 c) hdbt, hother (CAN.DBT_DTSEG2 c) hdbt]

/-- The channel as it begins to send the head of FIFO f on the bus. -/
def State.sofTaken (s : State) (c f : Nat) : State :=
  (s.setCan c { s.can c with latched := some f, inMsg := true, loop := false, sof := s.nowQ }).setBit (CAN.CH_STATUS_BUS_IDLE c) false

/-- A channel in NORMAL that may send takes the head of its lowest-numbered FIFO. -/
theorem State.canTxSof_of_head {s : State} {c : Nat} {f : Fin 4} {m : CanMsg} (h : s.wf = true) (hmay : s.canMay c = true)
    (hmode : s.canMode c = 1) (hhead : ((s.can c).fifo f).head? = some m) (hbelow : ∀ g : Fin 4, g < f → (s.can c).fifo g = []) :
    s.canTxSof c = (s.sofTaken c f).emit (.can c (s.asSent c m)) := by
  have hsent : (s.sofTaken c f).asSent c m = s.asSent c m := State.asSent_setBusIdle (State.setCan_wf h ..) ..
  have hloop : (s.canMode c == 3) = false := by rw [hmode]; decide
  rw [← hsent]
  unfold State.canTxSof
  simp only [hmay, hloop, CanCh.firstFifo_eq hhead hbelow, hhead, Bool.not_true, Bool.false_eq_true, if_false]
  rfl

/-! ### Attempts that fail (R208) -/

/-- A message of a FIFO that is not one-shot, which no cancel waits for, stays when its arbitration is lost. -/
theorem State.canArbLost_of_kept {s : State} {c f : Nat} {m : CanMsg} (hlatched : (s.can c).latched = some f)
    (hhead : ((s.can c).fifo f).head? = some m) (hrun : s.canStopped c = false) (hshot : s.oneShot c f = false)
    (hcancel : (s.can c).cancel = false) :
    s.canArbLost c = (s.bump (CAN.ARB_LOST c)).setCan c { s.can c with latched := none } := by
  have hshot' : (s.bump (CAN.ARB_LOST c)).oneShot c f = false := hshot
  have hgo : ¬ ((s.can c).latched.isNone = true ∨ s.canStopped c = true) := by
    rw [hlatched, hrun]; exact not_or.2 ⟨Bool.false_ne_true, Bool.false_ne_true⟩
  rw [State.canArbLost, if_neg hgo]
  unfold State.attemptFails
  simp only [State.can_bump, hlatched, hhead, hshot', hcancel, Bool.false_eq_true, if_false]

/-! ### The error counters and the end of a message (R203, R212) -/

/-- Counters below 128 leave an error-active channel error active. -/
theorem State.canCounts_of_active {s : State} {c tec rec_ : Nat} (hstate : s.get (CAN.CH_STATUS_STATE c) = 0) (htec : tec < 128)
    (hrec : rec_ < 128) :
    s.canCounts c tec rec_ = ((s.set (CAN.CH_STATUS_TEC c) tec).set (CAN.CH_STATUS_REC c) rec_).set (CAN.CH_STATUS_STATE c) 0 := by
  unfold State.canCounts
  dsimp only
  rw [hstate, Nat.min_eq_right (by omega), Nat.min_eq_right (by omega), if_neg (by decide), if_neg (by omega), if_neg (by omega)]

/-- What the counters of such a channel read as. -/
theorem State.counts_canCounts {s : State} (h : s.wf = true) {c tec rec_ : Nat} (hstate : s.get (CAN.CH_STATUS_STATE c) = 0)
    (htec : tec < 128) (hrec : rec_ < 128) : (s.canCounts c tec rec_).tec c = tec ∧ (s.canCounts c tec rec_).rec_ c = rec_ := by
  have hset := State.set_wf h (CAN.CH_STATUS_TEC c) tec
  have hboth := State.set_wf hset (CAN.CH_STATUS_REC c) rec_
  rw [State.canCounts_of_active hstate htec hrec]
  constructor
  · exact (State.get_set_apart (f := CAN.CH_STATUS_STATE c) hboth (Nat.le_of_ble_eq_true rfl) (Nat.le_of_ble_eq_true rfl)
      (.inr (Nat.le_of_ble_eq_true rfl))).trans <|
      (State.get_set_apart (f := CAN.CH_STATUS_REC c) hset (Nat.le_of_ble_eq_true rfl) (Nat.le_of_ble_eq_true rfl)
        (.inl (Nat.le_of_ble_eq_true rfl))).trans
      (State.get_set h (Nat.le_of_ble_eq_true rfl) (Nat.le_of_ble_eq_true rfl) (Nat.lt_trans htec (show 128 < 2 ^ 8 by decide)))
  · exact (State.get_set_apart (f := CAN.CH_STATUS_STATE c) hboth (Nat.le_of_ble_eq_true rfl) (Nat.le_of_ble_eq_true rfl)
      (.inr (Nat.le_of_ble_eq_true rfl))).trans
      (State.get_set hset (Nat.le_of_ble_eq_true rfl) (Nat.le_of_ble_eq_true rfl) (Nat.lt_trans hrec (show 128 < 2 ^ 8 by decide)))

/-- The end of a message on a channel whose MODE has not returned to OFF. -/
theorem State.msgEnds_of_on {s : State} (h : s.wf = true) {c : Nat} (hon : (s.can c).offPend = false) :
    s.msgEnds c = (s.setCan c { s.can c with inMsg := false }).setBit (CAN.CH_STATUS_BUS_IDLE c) true := by
  unfold State.msgEnds
  dsimp only
  rw [State.can_setBit, State.can_setCan_self h, hon]
  rfl

/-! ### A message that was sent (R208, R212) -/

theorem State.delayMeasured_of_off {s : State} {c : Nat} (h : s.bit (CAN.CH_CTRL_TDC_EN c) = false) : s.delayMeasured c = s :=
  if_neg fun hon => by rw [h] at hon; exact absurd hon.2.2 (by decide)

/-- A channel without the head of FIFO f, which has been sent. -/
def CanCh.sent (k : CanCh) (f : Nat) : CanCh := { k with latched := none, loop := false, tx := dropHead k.tx f }

/-- That head has been sent, and counted. -/
def State.headSent (s : State) (c f : Nat) : State := (s.setCan c ((s.can c).sent f)).bump (CAN.TX_MSG c)

theorem State.headSent_wf {s : State} (h : s.wf = true) (c f : Nat) : (s.headSent c f).wf = true :=
  State.bump_wf (State.setCan_wf h ..) _

theorem State.can_headSent {s : State} (h : s.wf = true) (c f : Nat) :
    (s.headSent c f).can c = (s.can c).sent f := by
  rw [State.headSent, State.can_bump, State.can_setCan_self h]

/-- A channel whose error state is active, with both counters in the range of that state. -/
structure State.ErrorActive (s : State) (c : Nat) : Prop where
  state : s.get (CAN.CH_STATUS_STATE c) = 0
  tec : s.tec c < 128
  rec_ : s.rec_ c < 128

/-- The head of FIFO f has been sent, and TEC has fallen for it. -/
def State.sentCounted (s : State) (c f : Nat) : State := (s.headSent c f).canCounts c (s.tec c - 1) (s.rec_ c)

theorem State.sentCounted_wf {s : State} (h : s.wf = true) (c f : Nat) : (s.sentCounted c f).wf = true :=
  (State.canCounts_keep ..).wf (State.headSent_wf h ..)

theorem State.ErrorActive.sentCounted_eq {s : State} {c : Nat} (a : s.ErrorActive c) (f : Nat) :
    s.sentCounted c f = (((s.headSent c f).set (CAN.CH_STATUS_TEC c) (s.tec c - 1)).set (CAN.CH_STATUS_REC c) (s.rec_ c)).set
      (CAN.CH_STATUS_STATE c) 0 :=
  State.canCounts_of_active a.state (Nat.lt_of_le_of_lt (Nat.sub_le ..) a.tec) a.rec_

theorem State.ErrorActive.counts_sentCounted {s : State} {c : Nat} (a : s.ErrorActive c) (h : s.wf = true) (f : Nat) :
    (s.sentCounted c f).tec c = s.tec c - 1 ∧ (s.sentCounted c f).rec_ c = s.rec_ c :=
  State.counts_canCounts (State.headSent_wf h c f) a.state (Nat.lt_of_le_of_lt (Nat.sub_le ..) a.tec) a.rec_

theorem State.ErrorActive.can_sentCounted {s : State} {c : Nat} (a : s.ErrorActive c) (f q : Nat) :
    (s.sentCounted c f).can q = (s.headSent c f).can q := by
  rw [a.sentCounted_eq, State.can_set, State.can_set, State.can_set]

theorem State.ErrorActive.gwe_sentCounted {s : State} {c : Nat} (a : s.ErrorActive c) (f : Nat) : (s.sentCounted c f).gwe = s.gwe := by
  rw [a.sentCounted_eq, State.set_gwe, State.set_gwe, State.set_gwe, State.headSent, State.bump_gwe, State.setCan_gwe]

theorem State.ErrorActive.cnt_sentCounted {s : State} {c : Nat} (a : s.ErrorActive c) (h : s.wf = true) (f : Nat) :
    (s.sentCounted c f).cnt (CAN.TX_MSG c) = s.cnt (CAN.TX_MSG c) + 1 := by
  rw [a.sentCounted_eq, State.cnt_set, State.cnt_set, State.cnt_set, State.headSent, State.cnt_bump_self (State.setCan_wf h ..),
    State.cnt_setCan]

/-- The channel after that message has ended. -/
def State.sentEnded (s : State) (c f : Nat) : State :=
  ((s.sentCounted c f).setCan c { (s.can c).sent f with inMsg := false }).setBit (CAN.CH_STATUS_BUS_IDLE c) true

/-- Without a cancel that waits, and outside LOOPBACK, a message that was sent leaves its FIFO, lowers TEC and ends. -/
theorem State.ErrorActive.canTxDone_eq {s : State} {c f : Nat} (a : s.ErrorActive c) (h : s.wf = true)
    (hlatched : (s.can c).latched = some f) (hrun : s.canStopped c = false) (hloop : (s.can c).loop = false)
    (hcancel : (s.can c).cancel = false) (hon : (s.can c).offPend = false) (htdc : s.bit (CAN.CH_CTRL_TDC_EN c) = false) :
    s.canTxDone c = s.sentEnded c f := by
  have hcounted : s.canTxDone c = (s.sentCounted c f).msgEnds c := by
    unfold State.canTxDone
    simp only [hrun, hlatched, hloop, hcancel, State.delayMeasured_of_off htdc, State.sentCounted, State.headSent, CanCh.sent,
      Bool.false_eq_true, if_false]
    rfl
  have hcan : (s.sentCounted c f).can c = (s.can c).sent f := by rw [a.can_sentCounted, State.can_headSent h]
  have hon' : ((s.sentCounted c f).can c).offPend = false := by rw [hcan]; exact hon
  rw [hcounted, State.msgEnds_of_on (State.sentCounted_wf h ..) hon', hcan]
  rfl

/-- With the receive FIFOs empty and no copy in hand the gateway engine has nothing to go on with after it. -/
theorem State.ErrorActive.gwIdle_sentEnded {s : State} {c : Nat} (a : s.ErrorActive c) (h : s.wf = true)
    (hrx : ∀ q : Fin 16, (s.can q).rx = []) (hhand : s.gwe.hand = none) (f : Nat) : (s.sentEnded c f).GwIdle := by
  refine State.gwIdle_of_empty (fun q => ?_) ?_
  · have hsent : ((s.can c).sent f).rx = (s.can c).rx := rfl
    rw [State.sentEnded, State.can_setBit, State.rx_setCan (State.sentCounted_wf h ..) (by rw [a.can_sentCounted, State.can_headSent h]),
      a.can_sentCounted, State.headSent, State.can_bump, State.rx_setCan h hsent, hrx]
  · rw [State.sentEnded, State.setBit_gwe, State.setCan_gwe, a.gwe_sentCounted, hhand]

/-- Fields above BUS_IDLE in their register read as before the message ended. -/
theorem State.get_sentEnded_above {s : State} (h : s.wf = true) {c : Nat} (f : Nat) {g : Fld} (hg : 5 < g.lo) :
    (s.sentEnded c f).get g = (s.sentCounted c f).get g :=
  State.get_setBit_apart (State.setCan_wf (State.sentCounted_wf h c f) ..) (Nat.le_refl _) (Nat.le_of_ble_eq_true rfl) (.inr hg)

theorem State.idle_sentEnded {s : State} (h : s.wf = true) (c f : Nat) : (s.sentEnded c f).bit (CAN.CH_STATUS_BUS_IDLE c) = true :=
  State.bit_setBit (State.setCan_wf (State.sentCounted_wf h c f) ..) rfl (Nat.le_of_ble_eq_true rfl)

/-! ### CANCEL and FLUSH (R211) -/

theorem State.can_cancelEnd {s : State} (h : s.wf = true) (c res : Nat) :
    (s.cancelEnd c res).can c = { s.can c with cancel := false } := by
  rw [State.cancelEnd, State.can_set, State.can_setBit, State.can_setCan_self h]

theorem State.cnts_cancelEnd (s : State) (c res : Nat) : (s.cancelEnd c res).cnts = s.cnts := (State.cancelEnd_keep ..).same .cnts rfl

theorem State.cnt_cancelEnd (s : State) (c res a : Nat) : (s.cancelEnd c res).cnt a = s.cnt a := by
  unfold State.cnt; rw [State.cnts_cancelEnd]

theorem State.get_cancelEnd {s : State} (h : s.wf = true) (c : Nat) {res : Nat} (hres : res < 8) :
    (s.cancelEnd c res).get (CAN.CANCEL_STATUS_RESULT c) = res :=
  State.get_set (State.setBit_wf (State.setCan_wf h ..) ..) (Nat.le_of_ble_eq_true rfl) (Nat.le_of_ble_eq_true rfl) hres

theorem State.busy_cancelEnd {s : State} (h : s.wf = true) (c res : Nat) : (s.cancelEnd c res).bit (CAN.CANCEL_STATUS_BUSY c) = false := by
  have hcan := State.setCan_wf h c { s.can c with cancel := false }
  exact (State.bit_set_apart (f := CAN.CANCEL_STATUS_RESULT c) (State.setBit_wf hcan ..) (Nat.le_of_ble_eq_true rfl)
    (Nat.le_of_ble_eq_true rfl) (.inr (Nat.le_of_ble_eq_true rfl))).trans (State.bit_setBit hcan rfl (Nat.le_of_ble_eq_true rfl))

theorem CanCh.holds_of_ne {k : CanCh} {f : Nat} (h : k.latched ≠ some f) : k.holds f = false := beq_eq_false_iff_ne.2 h

/-- A CANCEL that names an entry which is not being sent takes it. -/
theorem State.canCancel_of_waiting {s : State} {c f : Nat} {x : Nat × CanMsg} (hidle : s.bit (CAN.CANCEL_STATUS_BUSY c) = false)
    (hfind : (s.can c).tx.find? (fun x => x.1 == f && s.cancelNames c x.2) = some x) (hfree : (s.can c).latched ≠ some f) :
    s.canCancel c f =
      ((s.setCan c { s.can c with tx := (s.can c).tx.erase x }).bump (CAN.CANCELLED_CNT c)).cancelEnd c 1 := by
  unfold State.canCancel
  simp only [hidle, hfind, CanCh.holds_of_ne hfree, Bool.false_and, Bool.false_eq_true, if_false]

/-- A CANCEL that names no entry ends at once. -/
theorem State.canCancel_of_absent {s : State} {c f : Nat} (hidle : s.bit (CAN.CANCEL_STATUS_BUSY c) = false)
    (hfind : (s.can c).tx.find? (fun x => x.1 == f && s.cancelNames c x.2) = none) : s.canCancel c f = s.cancelEnd c 4 := by
  unfold State.canCancel
  simp only [hidle, hfind, Bool.false_eq_true, if_false]

/-- A FLUSH of a FIFO of which nothing is being sent takes all its entries. -/
theorem State.canFlush_of_waiting {s : State} {c f : Nat} (hidle : s.bit (CAN.CANCEL_STATUS_BUSY c) = false)
    (hsome : (s.can c).fifo f ≠ []) (hfree : (s.can c).latched ≠ some f) :
    s.canFlush c f = ((s.setCan c { s.can c with tx := (s.can c).tx.filter fun x => x.1 != f }).bumpBy (CAN.CANCELLED_CNT c)
      ((s.can c).fifo f).length).cancelEnd c 1 := by
  obtain ⟨m, rest, hfifo⟩ := List.exists_cons_of_ne_nil hsome
  unfold State.canFlush
  simp only [hidle, hfifo, CanCh.holds_of_ne hfree, Bool.false_eq_true, if_false, List.length_cons]

/-! ### The statement -/

/-- Settles O29: each clause is the rule above for its event; the gateway engine has nothing to go on with when a message was sent. -/
theorem canTransmission : Obligations.CanTransmission := by
  unfold Obligations.CanTransmission
  refine ⟨?sof, ?lost, ?sent, ?cancelled, ?absent, ?flushed⟩
  case sof =>
    intro c f m s hwf hmay hmode hhead hbelow
    have hcan := State.setCan_wf hwf c { s.can c with latched := some (f : Nat), inMsg := true, loop := false, sof := s.nowQ }
    refine ⟨_, congrArg Host.Outcome.next (State.canTxSof_of_head hwf hmay hmode hhead hbelow), ?_, ?_, ?_⟩
    · rw [State.can_emit, State.sofTaken, State.can_setBit, State.can_setCan_self hwf]
    · rw [State.bit_emit]
      exact State.bit_setBit hcan rfl (Nat.le_of_ble_eq_true rfl)
    · rfl
  case lost =>
    intro c f m s hwf hlatched hhead hrun hshot hcancel
    have hbump := State.bump_wf hwf (CAN.ARB_LOST c)
    refine ⟨_, congrArg Host.Outcome.next (State.canArbLost_of_kept hlatched hhead hrun hshot hcancel), ?_, ?_, rfl⟩
    · exact State.can_setCan_self hbump ..
    · rw [State.cnt_setCan, State.cnt_bump_self hwf]
  case sent =>
    intro c f m s hwf hlatched hhead hrun hloop hcancel hoff htdc hstate htec hrec hrx hhand
    have hactive : s.ErrorActive c := ⟨hstate, htec, hrec⟩
    have hdone := hactive.canTxDone_eq hwf hlatched hrun hloop hcancel hoff htdc
    have hgo : (s.canTxDone c).gwGo = s.sentEnded c f := by rw [hdone, (hactive.gwIdle_sentEnded hwf hrx hhand f).gwGo]
    obtain ⟨htecs, hrecs⟩ := hactive.counts_sentCounted hwf f
    refine ⟨_, congrArg Host.Outcome.next hgo, ?_, ?_, ?_, ?_, State.idle_sentEnded hwf ..⟩
    · rw [State.sentEnded, State.can_setBit, State.can_setCan_self (State.sentCounted_wf hwf ..), CanCh.sent, ← hloop]
    · rw [State.sentEnded, State.cnt_setBit, State.cnt_setCan, hactive.cnt_sentCounted hwf]
    · exact (State.get_sentEnded_above hwf f (Nat.le_of_ble_eq_true rfl)).trans htecs
    · exact (State.get_sentEnded_above hwf f (Nat.le_of_ble_eq_true rfl)).trans hrecs
  case cancelled =>
    intro ini c f x s hwf hmay hidle hfind hfree
    have hrun := State.writeAt_of_mayWrite (f := fun s => s.canCancel c f) hmay
    rw [State.canCancel_of_waiting hidle hfind hfree] at hrun
    have hcan := State.setCan_wf hwf c { s.can c with tx := (s.can c).tx.erase x }
    have hbump := State.bump_wf hcan (CAN.CANCELLED_CNT c)
    refine ⟨_, congrArg Host.Outcome.next hrun, ?_, ?_, ?_, ?_⟩
    · rw [State.can_emit, State.can_cancelEnd hbump, State.can_bump, State.can_setCan_self hwf]
    · rw [State.cnt_emit, State.cnt_cancelEnd, State.cnt_bump_self hcan, State.cnt_setCan]
    · rw [State.get_emit, State.get_cancelEnd hbump c (by decide)]
    · rw [State.bit_emit, State.busy_cancelEnd hbump]
  case absent =>
    intro ini c f s hwf hmay hidle hfind
    have hrun := State.writeAt_of_mayWrite (f := fun s => s.canCancel c f) hmay
    rw [State.canCancel_of_absent hidle hfind] at hrun
    refine ⟨_, congrArg Host.Outcome.next hrun, ?_, ?_, ?_⟩
    · rw [State.can_emit, State.can_cancelEnd hwf]
    · rw [State.emit_cnts, State.cnts_cancelEnd]
    · rw [State.get_emit, State.get_cancelEnd hwf c (by decide)]
  case flushed =>
    intro ini c f s hwf hmay hidle hsome hfree
    have hrun := State.writeAt_of_mayWrite (f := fun s => s.canFlush c f) hmay
    rw [State.canFlush_of_waiting hidle hsome hfree] at hrun
    have hcan := State.setCan_wf hwf c { s.can c with tx := (s.can c).tx.filter fun x => x.1 != (f : Nat) }
    have hbump := State.bumpBy_wf hcan (CAN.CANCELLED_CNT c) ((s.can c).fifo f).length
    refine ⟨_, congrArg Host.Outcome.next hrun, ?_, ?_, ?_⟩
    · rw [State.can_emit, State.can_cancelEnd hbump, State.can_bumpBy, State.can_setCan_self hwf]
    · rw [State.cnt_emit, State.cnt_cancelEnd, State.cnt_bumpBy hcan, if_pos rfl, State.cnt_setCan]
    · rw [State.get_emit, State.get_cancelEnd hbump c (by decide)]

end Sys2Proof.Machine

/-! PROOFS. Why the statement about the CAN channels fails. CH_CTRL holds PAIRED beside MODE, and PAIRED is locked from release on (R4, Table
10.7): a write that leaves OFF and would change PAIRED too is a locked write, whose latch is one of the bits set in the present clock. The
clause about such a write says that no bit is set in it, and no premise of it keeps PAIRED. -/
namespace Sys2Proof.Machine

/-! ### A channel that leaves OFF (R203, R204) -/

theorem State.canAct_fltNow (s : State) (c : Nat) : (s.canAct c).fltNow = s.fltNow := (State.canAct_keep s c).same .fltNow rfl

/-- When the timing check passes, the bits that are set in the present clock are those that the store of CH_CTRL sets. -/
theorem State.fltNow_canCtrl_of_start {s : State} {c : Nat} {w : Word} (rx : Bool) (hoff : s.canCfg c = 0)
    (hon : (s.plainWrite (CAN.CH_CTRL_MODE c).addr w).canCfg c ≠ 0)
    (htiming : (s.plainWrite (CAN.CH_CTRL_MODE c).addr w).canTiming c = true) :
    (s.canCtrl c w rx).fltNow = (s.plainWrite (CAN.CH_CTRL_MODE c).addr w).fltNow := by
  have hopen : ((0 : Nat) != 0) = false := by decide
  unfold State.canCtrl
  simp only [hoff, hopen, hon, htiming, Bool.false_and, Bool.false_eq_true, ne_eq, not_false_eq_true, and_self, if_true, if_false]
  rw [State.canAct_fltNow, State.setBit_fltNow, State.setCan_fltNow]

/-! ### The statement -/

/-- The released device, with the bit timing of reset and every channel OFF. -/
def channelsOff : State := State.reset.setBit SYS.SYS_STATUS_RELEASED true

/-- MODE NORMAL together with PAIRED, which is 0 after reset. -/
def startPaired : Word := 0x81

/-- After release the store of that word is a locked write, latched in this clock as source 26. -/
theorem fltNow_startPaired :
    (channelsOff.plainWrite (CAN.CH_CTRL_MODE 0).addr startPaired).fltNow = [FLT.FLT_DIRECT * 32 + 26] := by decide

/-- Refutes O28, by the clause about a MODE that leaves OFF with good timing: `startPaired` starts channel 0 of `channelsOff`, and the
locked write of PAIRED is new in `fltNow`. The other clauses play no part. -/
theorem not_canChannels : ¬ Obligations.CanChannels := by
  unfold Obligations.CanChannels
  rintro ⟨-, -, hstart, -⟩
  have hwf : channelsOff.wf = true := by decide
  have hmay : channelsOff.mayWrite .hart0 (CAN.CH_CTRL_MODE 0).addr = true := by decide
  have hoff : channelsOff.canCfg 0 = 0 := by decide
  have htiming : (channelsOff.plainWrite (CAN.CH_CTRL_MODE 0).addr startPaired).canTiming 0 = true := by decide
  have hon : (channelsOff.plainWrite (CAN.CH_CTRL_MODE 0).addr startPaired).canCfg 0 ≠ 0 := by decide
  obtain ⟨t, hexec, -, -, hquiet⟩ := hstart .hart0 0 startPaired false channelsOff hwf hmay hoff (by decide) htiming rfl
  have hrun : (channelsOff.canCtrl 0 startPaired false).emit (.bus .hart0 .done) = t :=
    (State.writeAt_of_mayWrite (f := fun s => s.canCtrl 0 startPaired false) hmay).symm.trans (Host.Outcome.next.inj hexec)
  rw [← hrun, State.emit_fltNow, State.fltNow_canCtrl_of_start false hoff hon htiming, fltNow_startPaired] at hquiet
  exact absurd hquiet (List.cons_ne_nil _ _)

end Sys2Proof.Machine
